-- ==== Sys2Proof/Word.lean ====
section
/-!
DEFINITION. Sys2Proof/Word.lean: the words of the KX-9256 and their plainest arithmetic: 32-bit registers, bytes, the
two's-complement readings of a field held as a Nat (R8, R458), and bounded counting.
-/

namespace Sys2Proof

/-- A 32-bit register or data word (R4). -/
abbrev Word := BitVec 32

/-- A byte of memory. -/
abbrev Byte := BitVec 8

/-- The value of the low `w` bits of `n` read as two's complement. -/
def sgn (w n : Nat) : Int :=
  if n % 2 ^ w < 2 ^ (w - 1) then (n % 2 ^ w : Nat) else (n % 2 ^ w : Nat) - (2 ^ w : Nat)

/-- The `w` bits that hold the integer `z` in two's complement. -/
def enc (w : Nat) (z : Int) : Nat := (z % (2 ^ w : Nat)).toNat

/-- `z` held inside the interval from `lo` to `hi`. -/
def clampInt (lo hi z : Int) : Int := if z < lo then lo else if hi < z then hi else z

/-- Rounded division of an integer by a positive natural number, halves away from zero. -/
def roundDiv (z : Int) (n : Nat) : Int :=
  if 0 ≤ z then (2 * z + n) / (2 * n) else -((2 * (-z) + n) / (2 * n))

/-- Bits `lo + w - 1` down to `lo` of a natural number. -/
def bits (n lo w : Nat) : Nat := n / 2 ^ lo % 2 ^ w

/-- `n` with bit `b` set. -/
def setBit (n b : Nat) : Nat := if n.testBit b then n else n + 2 ^ b

/-- `n` with bit `b` clear. -/
def clrBit (n b : Nat) : Nat := if n.testBit b then n - 2 ^ b else n

/-- One more, held at the greatest value of a `w`-bit saturating counter (R457). -/
def satSucc (w n : Nat) : Nat := if n + 1 < 2 ^ w then n + 1 else 2 ^ w - 1

/-- Bit by bit, the greatest number from `r` up, within `k` bits, whose square is at most `n`. -/
def isqrtGo : Nat → Nat → Nat → Nat
  | 0, _, r => r
  | k + 1, n, r => if (r + 2 ^ k) * (r + 2 ^ k) ≤ n then isqrtGo k n (r + 2 ^ k) else isqrtGo k n r

/-- The integer square root of a number below 2^320. -/
def isqrt (n : Nat) : Nat := isqrtGo 160 n 0

/-- The four bytes of a word, least significant first (R6). -/
def le4 (n : Nat) : List Byte :=
  [BitVec.ofNat 8 n, BitVec.ofNat 8 (n / 256), BitVec.ofNat 8 (n / 65536), BitVec.ofNat 8 (n / 16777216)]

/-- The `k` bytes of a number, least significant first (R6). -/
def leBytes : Nat → Nat → List Byte
  | 0, _ => []
  | k + 1, n => BitVec.ofNat 8 n :: leBytes k (n / 256)

/-- The number whose bytes, least significant first, are given (R6). -/
def leNat : List Byte → Nat
  | [] => 0
  | b :: t => b.toNat + 256 * leNat t

end Sys2Proof
end

