-- ==== Sys2Proof/Types.lean ====
section
/-!
DEFINITION. Sys2Proof/Types.lean: the types of the operands of the commands, and the instructions of a Nave core.
-/

namespace Sys2Proof

/-- The bus masters of R7, R408 and R524. -/
inductive Master where
  | nave0 | nave1 | chancel | host | debug
  deriving DecidableEq, Repr

/-- Who makes an access and when: the master, whether a Nave core makes it at kernel level (R359), and TB_NOW of the
access. -/
structure Acc where
  m : Master
  kernel : Bool
  t : Nat
  deriving DecidableEq, Repr

/-- The size of a bus access (R4). -/
inductive AccSize where
  | byte | half | word
  deriving DecidableEq, Repr

/-- What the loader finds of one image slot of the NOR (R25, R26): the bytes it can read, and the offset of the first
byte that could not be read, if any. -/
structure NorSlot where
  bytes : List Byte
  bad : Option Nat
  deriving DecidableEq, Repr

/-- What the NOR answers during START (R25): whether its SFDP table can be read, the density in bytes that the table gives,
and what stands at the offsets of its slots. -/
structure NorView where
  sfdp : Bool
  density : Nat
  a : NorSlot
  b : NorSlot
  deriving DecidableEq, Repr

/-- Slot B exists only when the density is 64 MB (R25). -/
def NorView.big (v : NorView) : Bool := v.density == 0x4000000

/-- A reference of Table 4.2 by number, 0 to 3. -/
abbrev RefId := Fin 4

/-- The two sides of a leg (R169). -/
inductive Side where
  | high | low
  deriving DecidableEq, Repr

/-- The supplies of a companion (Table 9.3). -/
inductive CompSupply where
  | vddp | vls | vhs
  deriving DecidableEq, Repr

/-- What a MGMT write of R153 reaches in the companion: a halfword of the mirror of Table 9.5 by its ADDR, or one of the
values R155, R158 and R179 write for which the mirror tables give no halfword. -/
inductive MgmtTarget where
  | half (addr : Fin 128)
  | delay
  | starveHold
  | apply
  deriving DecidableEq, Repr

/-- A gate edge kind of R172. -/
inductive EdgeKind where
  | hon | hoff | lon | loff
  deriving DecidableEq, Repr

/-- What wakes the device from VIGIL (R471): wake pin UWAKEk with its voltage in microvolts, the alarm, a tamper. -/
inductive WakeCause where
  | uwake (k : Fin 4) (uv : Nat)
  | alarm
  | tamper
  deriving DecidableEq, Repr

/-- A BRAKE-role leg or a BRK pin (R200). -/
inductive BrakeUnit where
  | leg (n : Fin 256)
  | pin (k : Fin 4)
  deriving DecidableEq, Repr

/-- What an encoder or drum port sees (R86): a quadrature count, both inputs changing together, or an index edge. -/
inductive EncEdge where
  | up | down | illegal | index
  deriving DecidableEq, Repr

/-- What a tracker's source gives at one update (R85): the measured turn fraction (the angle for GRID and RESOLVER), the
loop's rate in the unit of R90, whether the source is present, and the source's amplitude in 0.1 % of nominal. ENCODER
and DRUM trackers take the count their edges left instead of the fraction. -/
structure TrkSample where
  frac : BitVec 32
  rate : Int
  present : Bool
  vmag : Nat
  deriving DecidableEq, Repr

/-- A step of a matching trim of an interleaved pair (R212). -/
inductive Trim where
  | hold | up | down
  deriving DecidableEq, Repr

/-- The gate supplies of a companion (Table 9.3). -/
inductive GateSupply where
  | vls | vhs
  deriving DecidableEq, Repr

/-- One sample of a metering port (R302, R303), each channel after its high-pass and delay filters, before GAIN: voltages,
currents, and the voltages delayed 90 degrees. -/
structure MtrSample where
  v0 : Int
  v1 : Int
  v2 : Int
  i0 : Int
  i1 : Int
  i2 : Int
  i3 : Int
  h0 : Int
  h1 : Int
  h2 : Int
  deriving DecidableEq, Repr

/-- The counts of system cycles of consecutive bus cycles, the last of them ending at `t` (R73). -/
structure CountRun where
  t : Nat
  counts : List Nat
  deriving DecidableEq, Repr

/-- What window 15E holds after a CAL slot (R155): its delay from bit 1,154 in FTU, and its 16 bits. -/
structure EchoRx where
  delay : Nat
  bits : BitVec 16
  deriving DecidableEq, Repr

/-- The levels a probe finds at a tamper input (R439): at the third tick of the pulse, and 2 ticks after it ends. -/
structure ProbeLevels where
  third : Bool
  after : Bool
  deriving DecidableEq, Repr

/-- The microvolts at the pins that a comparator's POS and NEGPIN name (R220). -/
structure PinVolts where
  pos : Nat
  neg : Nat
  deriving DecidableEq, Repr

/-- An instruction of a Nave core or its Damask, by its fields (chapters 21 and 22). -/
inductive NaveInstr where
  | nvAdd (rd : Fin 32) (rs1 : Fin 32) (rs2 : Fin 32)
  | nvSub (rd : Fin 32) (rs1 : Fin 32) (rs2 : Fin 32)
  | nvAnd (rd : Fin 32) (rs1 : Fin 32) (rs2 : Fin 32)
  | nvOr (rd : Fin 32) (rs1 : Fin 32) (rs2 : Fin 32)
  | nvXor (rd : Fin 32) (rs1 : Fin 32) (rs2 : Fin 32)
  | nvSlt (rd : Fin 32) (rs1 : Fin 32) (rs2 : Fin 32)
  | nvSltu (rd : Fin 32) (rs1 : Fin 32) (rs2 : Fin 32)
  | nvSll (rd : Fin 32) (rs1 : Fin 32) (rs2 : Fin 32)
  | nvSrl (rd : Fin 32) (rs1 : Fin 32) (rs2 : Fin 32)
  | nvSra (rd : Fin 32) (rs1 : Fin 32) (rs2 : Fin 32)
  | nvSlli (rd : Fin 32) (rs1 : Fin 32) (sh : Fin 32)
  | nvSrli (rd : Fin 32) (rs1 : Fin 32) (sh : Fin 32)
  | nvSrai (rd : Fin 32) (rs1 : Fin 32) (sh : Fin 32)
  | nvMin (rd : Fin 32) (rs1 : Fin 32) (rs2 : Fin 32)
  | nvMax (rd : Fin 32) (rs1 : Fin 32) (rs2 : Fin 32)
  | nvClz (rd : Fin 32) (rs1 : Fin 32)
  | nvPopc (rd : Fin 32) (rs1 : Fin 32)
  | nvRevb (rd : Fin 32) (rs1 : Fin 32)
  | nvAddi (rd : Fin 32) (rs1 : Fin 32) (imm : BitVec 16)
  | nvAndi (rd : Fin 32) (rs1 : Fin 32) (imm : BitVec 16)
  | nvOri (rd : Fin 32) (rs1 : Fin 32) (imm : BitVec 16)
  | nvXori (rd : Fin 32) (rs1 : Fin 32) (imm : BitVec 16)
  | nvSlti (rd : Fin 32) (rs1 : Fin 32) (imm : BitVec 16)
  | nvSltiu (rd : Fin 32) (rs1 : Fin 32) (imm : BitVec 16)
  | nvLui (rd : Fin 32) (imm : BitVec 16)
  | nvMul (rd : Fin 32) (rs1 : Fin 32) (rs2 : Fin 32)
  | nvMulh (rd : Fin 32) (rs1 : Fin 32) (rs2 : Fin 32)
  | nvMulhu (rd : Fin 32) (rs1 : Fin 32) (rs2 : Fin 32)
  | nvDiv (rd : Fin 32) (rs1 : Fin 32) (rs2 : Fin 32)
  | nvDivu (rd : Fin 32) (rs1 : Fin 32) (rs2 : Fin 32)
  | nvRem (rd : Fin 32) (rs1 : Fin 32) (rs2 : Fin 32)
  | nvRemu (rd : Fin 32) (rs1 : Fin 32) (rs2 : Fin 32)
  | nvQadd (rd : Fin 32) (rs1 : Fin 32) (rs2 : Fin 32)
  | nvQsub (rd : Fin 32) (rs1 : Fin 32) (rs2 : Fin 32)
  | nvQmul (rd : Fin 32) (rs1 : Fin 32) (rs2 : Fin 32)
  | nvQmac (rd : Fin 32) (rs1 : Fin 32) (rs2 : Fin 32)
  | nvQneg (rd : Fin 32) (rs1 : Fin 32)
  | nvQabs (rd : Fin 32) (rs1 : Fin 32)
  | nvSats (rd : Fin 32) (rs1 : Fin 32) (sh : Fin 32)
  | nvExtu (rd : Fin 32) (rs1 : Fin 32) (pos : Fin 32) (w1 : Fin 32)
  | nvExts (rd : Fin 32) (rs1 : Fin 32) (pos : Fin 32) (w1 : Fin 32)
  | nvIns (rd : Fin 32) (rs1 : Fin 32) (pos : Fin 32) (w1 : Fin 32)
  | nvLb (rd : Fin 32) (rs1 : Fin 32) (imm : BitVec 16)
  | nvLbu (rd : Fin 32) (rs1 : Fin 32) (imm : BitVec 16)
  | nvLh (rd : Fin 32) (rs1 : Fin 32) (imm : BitVec 16)
  | nvLhu (rd : Fin 32) (rs1 : Fin 32) (imm : BitVec 16)
  | nvLw (rd : Fin 32) (rs1 : Fin 32) (imm : BitVec 16)
  | nvSb (rs2 : Fin 32) (rs1 : Fin 32) (imm : BitVec 16)
  | nvSh (rs2 : Fin 32) (rs1 : Fin 32) (imm : BitVec 16)
  | nvSw (rs2 : Fin 32) (rs1 : Fin 32) (imm : BitVec 16)
  | nvBeq (rs1 : Fin 32) (rs2 : Fin 32) (off : BitVec 16)
  | nvBne (rs1 : Fin 32) (rs2 : Fin 32) (off : BitVec 16)
  | nvBlt (rs1 : Fin 32) (rs2 : Fin 32) (off : BitVec 16)
  | nvBge (rs1 : Fin 32) (rs2 : Fin 32) (off : BitVec 16)
  | nvBltu (rs1 : Fin 32) (rs2 : Fin 32) (off : BitVec 16)
  | nvBgeu (rs1 : Fin 32) (rs2 : Fin 32) (off : BitVec 16)
  | nvJ (off : BitVec 26)
  | nvJal (off : BitVec 26)
  | nvJalr (rd : Fin 32) (rs1 : Fin 32) (imm : BitVec 16)
  | nvSyscall (arg : BitVec 12)
  | nvBreak
  | nvEret
  | nvMfcr (rd : Fin 32) (n : BitVec 8)
  | nvMtcr (rs1 : Fin 32) (n : BitVec 8)
  | nvWfi
  | dkDmtd (x : Fin 32) (y : Fin 32)
  | dkDmfd (x : Fin 32) (y : Fin 32)
  | dkDmfs (x : Fin 32)
  | dkDmts (y : Fin 32)
  | dkDqadd (x : Fin 32) (y : Fin 32) (z : Fin 32)
  | dkDqsub (x : Fin 32) (y : Fin 32) (z : Fin 32)
  | dkDqmul (x : Fin 32) (y : Fin 32) (z : Fin 32)
  | dkDqmac (x : Fin 32) (y : Fin 32) (z : Fin 32)
  | dkDqdiv (x : Fin 32) (y : Fin 32) (z : Fin 32)
  | dkFadd (x : Fin 32) (y : Fin 32) (z : Fin 32)
  | dkFsub (x : Fin 32) (y : Fin 32) (z : Fin 32)
  | dkFmul (x : Fin 32) (y : Fin 32) (z : Fin 32)
  | dkFmac (x : Fin 32) (y : Fin 32) (z : Fin 32)
  | dkFdiv (x : Fin 32) (y : Fin 32) (z : Fin 32)
  | dkFsqrt (x : Fin 32) (y : Fin 32)
  | dkFtoq (x : Fin 32) (y : Fin 32)
  | dkQtof (x : Fin 32) (y : Fin 32)
  | dkCmul (x : Fin 32) (y : Fin 32) (z : Fin 32)
  | dkClarke (x : Fin 32) (y : Fin 32)
  | dkPark (x : Fin 32) (y : Fin 32) (z : Fin 32)
  | dkIpark (x : Fin 32) (y : Fin 32) (z : Fin 32)
  | dkSincos (x : Fin 32) (y : Fin 32)
  | dkBq (x : Fin 32) (y : Fin 32) (z : Fin 32)
  | dkPr (x : Fin 32) (y : Fin 32) (z : Fin 32)
  | dkDsecr (x : Fin 32) (y : Fin 32) (z : Fin 32)
  | dkDsecw (x : Fin 32) (y : Fin 32) (z : Fin 32)
  | dkFir (x : Fin 32) (y : Fin 32)
  | dkFirw (x : Fin 32) (y : Fin 32)
  | dkDld (x : Fin 32) (y : Fin 32) (z : Fin 32)
  | dkDst (x : Fin 32) (y : Fin 32) (z : Fin 32)
  | dkDtrk (x : Fin 32) (y : Fin 32)
  | dkDedg (x : Fin 32) (y : Fin 32)
  deriving DecidableEq, Repr

end Sys2Proof
end

