-- ==== Sys2Proof/Syntax.lean ====
section
/-!
DEFINITION. Sys2Proof/Syntax.lean: the commands of the KX-9256 block, one constructor for each row of the opcode table.
-/

namespace Sys2Proof

/-- One constructor per row of the opcode table (spec/opcode_table.json), in its order. -/
inductive Instr where
  /-- REGISTER_WRITE (R5). -/
  | registerWrite (a : Acc) (addr : Word) (sz : AccSize) (v : Word)
  /-- LOW_WORD_READ (R7). -/
  | lowWordRead (a : Acc) (addr : Word) (sz : AccSize)
  /-- ADC_FIFO_DATA_READ (R207). -/
  | adcFifoDataRead (a : Acc) (k : Fin 16)
  /-- ANG_QRY_OUT_READ (R92). -/
  | angQryOutRead (a : Acc) (w : Fin 5)
  /-- UNDERCROFT_START (R467). -/
  | undercroftStart
  /-- UNDERCROFT_DEATH (R467). -/
  | undercroftDeath
  /-- HARVESTER_MODE_CHANGE (R468). -/
  | harvesterModeChange (mv : Nat) (t : Nat)
  /-- DEVICE_RESET_RELEASE (R47). -/
  | deviceResetRelease
  /-- DEVICE_RESET (R504). -/
  | deviceReset
  /-- MAIN_SUPPLY_OUT_OF_RANGE (R466). -/
  | mainSupplyOutOfRange (t : Nat) (torn : Bool)
  /-- VLD_LOW (R464). -/
  | vldLow (t : Nat)
  /-- PFAILN_ASSERT (R465). -/
  | pfailnAssert (t : Nat)
  /-- PFAILN_RELEASE (R465). -/
  | pfailnRelease (t : Nat)
  /-- PLLS_LOCK (R528). -/
  | pllsLock
  /-- SLOT_HEADERS_READ (R27). -/
  | slotHeadersRead (nor : NorView) (aesOk : Bool) (shaOk : Bool) (trngOk : Bool)
  /-- IMAGE_FETCHED (R26). -/
  | imageFetched
  /-- SIGNATURE_VERIFIED (R44). -/
  | signatureVerified
  /-- KAT_ECDSA_DONE (R427). -/
  | katEcdsaDone (ok : Bool)
  /-- RECORD_VALUES_COMMITTED (R48). -/
  | recordValuesCommitted
  /-- JOURNAL_WORK_DONE (R49). -/
  | journalWorkDone
  /-- GATE_SUPPLIES_UP (R50). -/
  | gateSuppliesUp (t : Nat)
  /-- ADMISSION_WAIT_END (R50). -/
  | admissionWaitEnd (t : Nat)
  /-- SYS_CORE_ARM (R52). -/
  | sysCoreArm (a : Acc) (v : Word)
  /-- SYS_MODE_REQ (R54). -/
  | sysModeReq (a : Acc) (mode : Fin 4)
  /-- SYS_MODE_CANCEL (R63). -/
  | sysModeCancel (a : Acc)
  /-- MODE_APPLY (R57). -/
  | modeApply (t : Nat)
  /-- PLLT_LOCK_DECLARED (R69). -/
  | plltLockDeclared (t : Nat) (errs : List Int)
  /-- PLLT_UNLOCK (R81). -/
  | plltUnlock (t : Nat) (errs : List Int)
  /-- PLLS_FREQ_FAULT (R73). -/
  | pllsFreqFault (run : CountRun)
  /-- REFERENCE_PRESENT (R78). -/
  | referencePresent (t : Nat) (r : RefId)
  /-- REFERENCE_LOST (R76). -/
  | referenceLost (t : Nat) (r : RefId)
  /-- QUALIFY_PASS (R78). -/
  | qualifyPass (t : Nat) (phase : Int) (freq : Int)
  /-- QUALIFY_FAIL (R80). -/
  | qualifyFail (t : Nat)
  /-- REFERENCE_BAR_EXPIRE (R78). -/
  | referenceBarExpire (t : Nat) (r : RefId)
  /-- SLEW_COMPLETE (R78). -/
  | slewComplete (t : Nat) (freq : Int)
  /-- UCR_TIME_TICK (R469). -/
  | ucrTimeTick (t : Nat)
  /-- TRACKER_UPDATE (R85). -/
  | trackerUpdate (t : Nat) (n : Fin 64) (smp : TrkSample)
  /-- ENCODER_EDGE (R86). -/
  | encoderEdge (t : Nat) (port : Fin 16) (e : EncEdge)
  /-- ANG_SL_STAMP_HI_WRITE (R88). -/
  | angSlStampHiWrite (a : Acc) (n : Fin 64) (v : Word)
  /-- ANGLE_AT_TIME_QUERY (R92). -/
  | angleAtTimeQuery (a : Acc) (w : Fin 5) (n : Fin 64)
  /-- TIME_AT_ANGLE_QUERY (R92). -/
  | timeAtAngleQuery (a : Acc) (w : Fin 5) (n : Fin 64)
  /-- QUERY_RESULT_READY (R92). -/
  | queryResultReady (w : Fin 5)
  /-- TRACKER_SOURCE_LOSS (R94). -/
  | trackerSourceLoss (t : Nat) (n : Fin 64)
  /-- TRACKER_COAST_EXPIRE (R94). -/
  | trackerCoastExpire (t : Nat) (n : Fin 64)
  /-- TRACKER_ACQUIRED (R94). -/
  | trackerAcquired (t : Nat) (n : Fin 64)
  /-- TWILL_PASS (R106). -/
  | twillPass (t : Nat)
  /-- TWILL_FIRE (R108). -/
  | twillFire (t : Nat) (slot : Fin 1024)
  /-- TWILL_SLOT_ARM (R110). -/
  | twillSlotArm (a : Acc) (slot : Fin 1024)
  /-- TWILL_SLOT_DISARM (R118). -/
  | twillSlotDisarm (a : Acc) (slot : Fin 1024)
  /-- TWILL_TARGET_COMMIT (R111). -/
  | twillTargetCommit (a : Acc) (slot : Fin 1024) (v : Word)
  /-- TWILL_STEP_COMMIT (R111). -/
  | twillStepCommit (a : Acc) (slot : Fin 1024) (v : Word)
  /-- EDG_CNV_COMMIT (R123). -/
  | edgCnvCommit (a : Acc) (c : Fin 256)
  /-- CONVERTER_CUTOFF (R122). -/
  | converterCutoff (t : Nat) (c : Fin 256)
  /-- CONVERTER_BOUNDARY (R121). -/
  | converterBoundary (t : Nat) (c : Fin 256)
  /-- CNV_ENABLE (R136). -/
  | cnvEnable (a : Acc) (c : Fin 256)
  /-- CNV_DISABLE (R139). -/
  | cnvDisable (a : Acc) (c : Fin 256)
  /-- CNV_DISABLE_IMMEDIATE (R135). -/
  | cnvDisableImmediate (a : Acc) (c : Fin 256)
  /-- CNV_CLRTRIP (R134). -/
  | cnvClrtrip (a : Acc) (c : Fin 256)
  /-- CNV_FORCE_WRITE (R132). -/
  | cnvForceWrite (a : Acc) (c : Fin 256) (v : Word)
  /-- LOC_COMMIT (R130). -/
  | locCommit (a : Acc) (k : Fin 32)
  /-- LOCAL_OUTPUT_BOUNDARY (R130). -/
  | localOutputBoundary (t : Nat) (k : Fin 32)
  /-- LOC_ENABLE (R130). -/
  | locEnable (a : Acc) (k : Fin 32)
  /-- LOC_DISABLE (R139). -/
  | locDisable (a : Acc) (k : Fin 32)
  /-- LOC_DISABLE_IMMEDIATE (R135). -/
  | locDisableImmediate (a : Acc) (k : Fin 32)
  /-- LOC_CLRTRIP (R134). -/
  | locClrtrip (a : Acc) (k : Fin 32)
  /-- LOC_FORCE_WRITE (R133). -/
  | locForceWrite (a : Acc) (k : Fin 32) (v : Word)
  /-- TRIP_INPUT_CHANGE (R137). -/
  | tripInputChange (t : Nat) (n : Fin 16) (level : Bool)
  /-- TRIP_ASSERTED (R137). -/
  | tripAsserted (t : Nat) (n : Fin 16)
  /-- SELVEDGE_CYCLE_START (R143). -/
  | selvedgeCycleStart (t : Nat) (b : Fin 16)
  /-- FRAME_B_SEND (R145). -/
  | frameBSend (t : Nat) (b : Fin 16)
  /-- DOWNSTREAM_FRAME_RX (R145). -/
  | downstreamFrameRx (t : Nat) (n : Fin 256) (frame : List Bool)
  /-- SAFE_BLOCK (R135). -/
  | safeBlock (t : Nat) (n : Fin 256) (code : Fin 3)
  /-- PATTERN_BLOCK (R159). -/
  | patternBlock (t : Nat) (n : Fin 256) (bound : Nat) (period : Nat) (mode : Fin 4) (on : Nat) (off : Nat)
  /-- MGMT_READ (R153). -/
  | mgmtRead (t : Nat) (n : Fin 256) (tag : Fin 4) (addr : Fin 128)
  /-- MGMT_WRITE (R153). -/
  | mgmtWrite (t : Nat) (n : Fin 256) (tag : Fin 4) (dst : MgmtTarget) (data : BitVec 16)
  /-- MGMT_RETRY (R153). -/
  | mgmtRetry (t : Nat) (n : Fin 256) (tag : Fin 4)
  /-- COMPANION_FRAME_A_LOSS (R151). -/
  | companionFrameALoss (t : Nat) (n : Fin 256)
  /-- COMPANION_DATA_TX (R152). -/
  | companionDataTx (t : Nat) (n : Fin 256) (cur : BitVec 18) (dc : BitVec 18) (ntc : BitVec 12)
  /-- UPSTREAM_DATA_FRAME (R152). -/
  | upstreamDataFrame (t : Nat) (n : Fin 256) (frame : BitVec 64) (err : Int)
  /-- DATA_FRAME_MISSING (R160). -/
  | dataFrameMissing (t : Nat) (n : Fin 256) (badCrc : Bool)
  /-- ENUM_ANSWER (R155). -/
  | enumAnswer (t : Nat) (n : Fin 256) (answer : BitVec 56)
  /-- CAL_ECHO (R155). -/
  | calEcho (t : Nat) (n : Fin 256) (echo : EchoRx)
  /-- DELAY_DRIFT_CORRECT (R157). -/
  | delayDriftCorrect (t : Nat) (n : Fin 256)
  /-- COMPANION_BOUNDARY (R158). -/
  | companionBoundary (t : Nat) (n : Fin 256)
  /-- COMPANION_GATE_EDGE (R169). -/
  | companionGateEdge (t : Nat) (n : Fin 256) (side : Side)
  /-- GATE_SENSE_LOW (R170). -/
  | gateSenseLow (t : Nat) (n : Fin 256) (side : Side)
  /-- DEAD_TIME_END (R170). -/
  | deadTimeEnd (t : Nat) (n : Fin 256)
  /-- GATESTUCK (R178). -/
  | gatestuck (t : Nat) (n : Fin 256)
  /-- SWITCH_TRANSITION (R172): the stamps of the 10 % and 90 % crossings, and the phase current in the unit of IMIN. -/
  | switchTransition (t : Nat) (n : Fin 256) (rising : Bool) (t10 t90 : Nat) (cur : Int)
  /-- COMPANION_VDDP_UP (R167). -/
  | companionVddpUp (n : Fin 256) (strap : Fin 16)
  /-- COMPANION_UVLO (R174). -/
  | companionUvlo (t : Nat) (n : Fin 256) (sup : CompSupply)
  /-- SUPOK10_SET (R152). -/
  | supok10Set (t : Nat) (n : Fin 256)
  /-- HEARTBEAT_LOSS (R175). -/
  | heartbeatLoss (t : Nat) (n : Fin 256)
  /-- BTR_CTRL_WRITE (R182). -/
  | btrCtrlWrite (a : Acc) (n : Fin 256) (v : Word)
  /-- OVER_CURRENT_TRIP (R184). -/
  | overCurrentTrip (t : Nat) (n : Fin 256)
  /-- DESAT_TRIP (R185). -/
  | desatTrip (t : Nat) (n : Fin 256) (side : Side)
  /-- OV_DC_TRIP (R188). -/
  | ovDcTrip (t : Nat) (n : Fin 256) (vdc : Fin 4096)
  /-- OVER_TEMPERATURE_TRIP (R184). -/
  | overTemperatureTrip (t : Nat) (n : Fin 256) (code : Fin 4096)
  /-- SOFT_TURNOFF_END (R187). -/
  | softTurnoffEnd (t : Nat) (n : Fin 256) (side : Side)
  /-- BRAKE_CHOPPER_ON (R190). -/
  | brakeChopperOn (t : Nat) (n : Fin 256) (vdc : Fin 4096)
  /-- BRAKE_CHOPPER_OFF (R190). -/
  | brakeChopperOff (t : Nat) (n : Fin 256) (vdc : Fin 4096)
  /-- BRAKE_MIN_INTERVAL_END (R190). -/
  | brakeMinIntervalEnd (t : Nat) (who : BrakeUnit) (vdc : Fin 4096)
  /-- BRK_PIN_CHANGE (R193). -/
  | brkPinChange (t : Nat) (k : Fin 4) (above : Bool)
  /-- BRAKE_SATURATION (R200). -/
  | brakeSaturation (t : Nat) (who : BrakeUnit)
  /-- ADC_SOFTWARE_START (R203). -/
  | adcSoftwareStart (a : Acc) (k : Fin 16)
  /-- ADCTRG_EDGE (R203). -/
  | adctrgEdge (t : Nat) (pin : Fin 4) (rising : Bool)
  /-- ADC_CONVERSION_DONE (R202). -/
  | adcConversionDone (t : Nat) (k : Fin 16) (raw : BitVec 16) (skew : Trim) (gain : Trim) (pair : Option Bool)
  /-- ADC_CORE_ENABLE (R217). -/
  | adcCoreEnable (a : Acc) (k : Fin 16)
  /-- ADC_CORE_DISABLE (R217). -/
  | adcCoreDisable (a : Acc) (k : Fin 16)
  /-- ADC_DMA_RD_WRITE (R208). -/
  | adcDmaRdWrite (a : Acc) (k : Fin 16) (v : Word)
  /-- LSN_ENABLE (R219). -/
  | lsnEnable (a : Acc) (g : Fin 32) (n : Fin 256)
  /-- LSN_DISABLE (R217). -/
  | lsnDisable (a : Acc) (g : Fin 32) (n : Fin 256)
  /-- COMPARATOR_RAW_EDGE (R221). -/
  | comparatorRawEdge (t : Nat) (k : Fin 32) (v : PinVolts)
  /-- COMPARATOR_EDGE_ACCEPTED (R224). -/
  | comparatorEdgeAccepted (t : Nat) (k : Fin 32)
  /-- SLOPE_RAMP_START (R222). -/
  | slopeRampStart (t : Nat) (k : Fin 32)
  /-- SLOPE_RAMP_END (R222). -/
  | slopeRampEnd (t : Nat) (k : Fin 32)
  /-- CMP_DAC_WRITE (R223). -/
  | cmpDacWrite (a : Acc) (k : Fin 32) (v : Word)
  /-- CMP_TEST_WRITE (R229). -/
  | cmpTestWrite (a : Acc) (k : Fin 32) (v : Word)
  /-- CMP_TEST_ROUTES_RESUME (R229). -/
  | cmpTestRoutesResume (t : Nat) (k : Fin 32)
  /-- CMP_MODE_HOLD_END (R227). -/
  | cmpModeHoldEnd (t : Nat) (k : Fin 32)
  /-- CMP_ENABLE (R230). -/
  | cmpEnable (a : Acc) (k : Fin 32)
  /-- CMP_DISABLE (R230). -/
  | cmpDisable (a : Acc) (k : Fin 32)
  /-- GRD_ENABLE (R234). -/
  | grdEnable (a : Acc) (i : Fin 4)
  /-- GRD_DISABLE (R254). -/
  | grdDisable (a : Acc) (i : Fin 4)
  /-- GRD_DISABLE_IMMEDIATE (R254). -/
  | grdDisableImmediate (a : Acc) (i : Fin 4)
  /-- GRD_RECONNECT (R234). -/
  | grdReconnect (a : Acc) (i : Fin 4)
  /-- GRD_CLRTRIP (R234). -/
  | grdClrtrip (a : Acc) (i : Fin 4)
  /-- GRID_RECON_ELAPSED (R234). -/
  | gridReconElapsed (t : Nat) (i : Fin 4)
  /-- GRID_CLOSE_DONE (R234). -/
  | gridCloseDone (t : Nat) (i : Fin 4)
  /-- GRID_RIDE_TRIP (R237). -/
  | gridRideTrip (t : Nat) (i : Fin 4) (v : Nat) (f : Int)
  /-- GRID_EXCURSION_END (R239). -/
  | gridExcursionEnd (t : Nat) (i : Fin 4)
  /-- NUDGE_START (R241). -/
  | nudgeStart (t : Nat) (i : Fin 4)
  /-- TOKEN_AGE_EXPIRE (R242). -/
  | tokenAgeExpire (t : Nat) (i : Fin 4)
  /-- GRID_DRAIN_DONE (R254). -/
  | gridDrainDone (t : Nat) (i : Fin 4)
  /-- MPPT_STEP (R245): a step from `t0` to `t`, with the instants at which its mean samples v and i. -/
  | mpptStep (t : Nat) (m : Fin 16) (t0 : Nat) (samples : List Nat)
  /-- MPPT_SCAN_DWELL_END (R246), with the instants at which the mean of the dwell's second half samples v and i. -/
  | mpptScanDwellEnd (t : Nat) (m : Fin 16) (samples : List Nat)
  /-- MPPT_SCHEDULED_SCAN (R247). -/
  | mpptScheduledScan (t : Nat) (m : Fin 16)
  /-- MPPT_SCAN_CMD (R247). -/
  | mpptScanCmd (a : Acc) (m : Fin 16)
  /-- MPPT_ENABLE (R245). -/
  | mpptEnable (a : Acc) (m : Fin 16)
  /-- MPPT_DISABLE (R254). -/
  | mpptDisable (a : Acc) (m : Fin 16)
  /-- MPPT_DISABLE_IMMEDIATE (R254). -/
  | mpptDisableImmediate (a : Acc) (m : Fin 16)
  /-- AXIS_UPDATE (R260). -/
  | axisUpdate (t : Nat)
  /-- AXS_ENABLE (R266). -/
  | axsEnable (a : Acc) (x : Fin 32)
  /-- AXS_DISABLE (R270). -/
  | axsDisable (a : Acc) (x : Fin 32)
  /-- AXS_DISABLE_IMMEDIATE (R270). -/
  | axsDisableImmediate (a : Acc) (x : Fin 32)
  /-- AXS_CLRFLT (R264). -/
  | axsClrflt (a : Acc) (x : Fin 32)
  /-- AUX_PERIOD_START (R274). -/
  | auxPeriodStart (t : Nat) (k : Fin 8) (fb : Fin 4096)
  /-- AUX_ONTIME_END (R274). -/
  | auxOntimeEnd (t : Nat) (k : Fin 8)
  /-- AUX_SHORT_CHECK (R279). -/
  | auxShortCheck (t : Nat) (k : Fin 8)
  /-- AUX_RUN_SHORT (R281). -/
  | auxRunShort (t : Nat) (k : Fin 8)
  /-- AUX_HICCUP_END (R279). -/
  | auxHiccupEnd (t : Nat) (k : Fin 8)
  /-- AUX_ENABLE (R283). -/
  | auxEnable (a : Acc) (k : Fin 8)
  /-- AUX_DISABLE (R283). -/
  | auxDisable (a : Acc) (k : Fin 8)
  /-- AUX_DISABLE_IMMEDIATE (R283). -/
  | auxDisableImmediate (a : Acc) (k : Fin 8)
  /-- AUX_CLRSHORT (R282). -/
  | auxClrshort (a : Acc) (k : Fin 8)
  /-- FAN_PERIOD_START (R286). -/
  | fanPeriodStart (t : Nat) (k : Fin 8) (cur : Fin 1024)
  /-- FANTACH_EDGE (R286). -/
  | fantachEdge (t : Nat) (k : Fin 8)
  /-- FAN_KICK_END (R288). -/
  | fanKickEnd (t : Nat) (k : Fin 8)
  /-- FAN_START_CHECK (R288). -/
  | fanStartCheck (t : Nat) (k : Fin 8)
  /-- FAN_RETRY_END (R288). -/
  | fanRetryEnd (t : Nat) (k : Fin 8)
  /-- FAN_TACH_MISSING (R289). -/
  | fanTachMissing (t : Nat) (k : Fin 8) (cur : Fin 1024)
  /-- FAN_TACH_REGAINED (R290). -/
  | fanTachRegained (t : Nat) (k : Fin 8)
  /-- FAN_ENABLE (R288). -/
  | fanEnable (a : Acc) (k : Fin 8)
  /-- FAN_DISABLE (R299). -/
  | fanDisable (a : Acc) (k : Fin 8)
  /-- FAN_DISABLE_IMMEDIATE (R299). -/
  | fanDisableImmediate (a : Acc) (k : Fin 8)
  /-- FAN_CLRFAULT (R291). -/
  | fanClrfault (a : Acc) (k : Fin 8)
  /-- LOOP_SAMPLE (R293). -/
  | loopSample (t : Nat) (j : Fin 4) (sns : Fin 65536) (vc : Nat)
  /-- LOOP_ENABLE (R297). -/
  | loopEnable (a : Acc) (j : Fin 4)
  /-- LOOP_DISABLE (R299). -/
  | loopDisable (a : Acc) (j : Fin 4)
  /-- LOOP_DISABLE_IMMEDIATE (R299). -/
  | loopDisableImmediate (a : Acc) (j : Fin 4)
  /-- LOOP_FAULT (R296). -/
  | loopFault (a : Acc) (j : Fin 4)
  /-- METER_SAMPLE (R315). -/
  | meterSample (t : Nat) (p : Fin 4) (smp : MtrSample)
  /-- METER_INTERVAL_END (R304). -/
  | meterIntervalEnd (t : Nat) (p : Fin 4)
  /-- PULSE_START (R314). -/
  | pulseStart (t : Nat) (k : Fin 4)
  /-- PULSE_END (R313). -/
  | pulseEnd (t : Nat) (k : Fin 4)
  /-- METER_SNAPSHOT (R307). -/
  | meterSnapshot (t : Nat) (p : Fin 4)
  /-- METER_CHECKPOINT (R308). -/
  | meterCheckpoint (t : Nat)
  /-- MTR_PORT_DISABLE (R317). -/
  | mtrPortDisable (a : Acc) (p : Fin 4)
  /-- MTR_PORT_ENABLE (R317). -/
  | mtrPortEnable (a : Acc) (p : Fin 4)
  /-- JALAM_PREAMBLE_DETECT (R328). -/
  | jalamPreambleDetect (t : Nat) (snr : BitVec 8) (agc : Fin 8)
  /-- JALAM_HEADER_DECODED (R331). -/
  | jalamHeaderDecoded (t : Nat) (hdr : BitVec 30) (stamp : Nat)
  /-- JALAM_FRAME_RECEIVED (R328). -/
  | jalamFrameReceived (t : Nat) (bits : List Bool)
  /-- JALAM_TX_START (R321). -/
  | jalamTxStart (t : Nat)
  /-- JALAM_TX_DONE (R328). -/
  | jalamTxDone (t : Nat)
  /-- CFP_END (R340). -/
  | cfpEnd (t : Nat)
  /-- BACKOFF_SLOT (R341). -/
  | backoffSlot (t : Nat)
  /-- ACK_TIMEOUT (R342). -/
  | ackTimeout (t : Nat)
  /-- POLL_NORESP (R343). -/
  | pollNoresp (t : Nat)
  /-- RX_DATA (R353). -/
  | rxData (t : Nat)
  /-- RX_ACK (R342). -/
  | rxAck (t : Nat)
  /-- RX_POLL (R343). -/
  | rxPoll (t : Nat)
  /-- RX_NULL (R343). -/
  | rxNull (t : Nat)
  /-- RX_BEACON (R348). -/
  | rxBeacon (t : Nat)
  /-- RX_ASSOC_REQ (R350). -/
  | rxAssocReq (t : Nat)
  /-- RX_ASSOC_RESP (R350). -/
  | rxAssocResp (t : Nat)
  /-- RX_ASSOC_CONF (R350). -/
  | rxAssocConf (t : Nat)
  /-- RX_DISASSOC (R349). -/
  | rxDisassoc (t : Nat)
  /-- READ_METER (R437). -/
  | readMeter (t : Nat)
  /-- REVOKE (R438). -/
  | revoke (t : Nat)
  /-- LISTEN_TIMEOUT (R349). -/
  | listenTimeout (t : Nat)
  /-- BEACON_LOSS (R349). -/
  | beaconLoss (t : Nat)
  /-- ASSOC_TIMEOUT (R349). -/
  | assocTimeout (t : Nat)
  /-- ASSOC_CONF_TIMEOUT (R350). -/
  | assocConfTimeout (t : Nat)
  /-- JLN_TX_GO (R352). -/
  | jlnTxGo (a : Acc) (b : Fin 2)
  /-- JLN_TX_CANCEL (R352). -/
  | jlnTxCancel (a : Acc) (b : Fin 2)
  /-- JLN_RX_RELEASE (R353). -/
  | jlnRxRelease (a : Acc) (r : Fin 4)
  /-- JLN_ENABLE (R354). -/
  | jlnEnable (a : Acc)
  /-- JLN_DISABLE (R355). -/
  | jlnDisable (a : Acc) (imm : Bool)
  /-- IRQ_ENTRY (R403). -/
  | irqEntry (t : Nat) (target : Fin 3)
  /-- IRQ_HOLDOFF_END (R404). -/
  | irqHoldoffEnd (t : Nat) (g : Fin 32) (target : Fin 3)
  /-- IRQ_PEND_SET (R405). -/
  | irqPendSet (a : Acc) (g : Fin 32) (v : Word)
  /-- IRQ_PEND_CLR (R405). -/
  | irqPendClr (a : Acc) (g : Fin 32) (v : Word)
  /-- IRQ_EN_SET (R405). -/
  | irqEnSet (a : Acc) (g : Fin 32) (v : Word)
  /-- IRQ_EN_CLR (R405). -/
  | irqEnClr (a : Acc) (g : Fin 32) (v : Word)
  /-- IRQ_DOORBELL (R407). -/
  | irqDoorbell (a : Acc) (v : Word)
  /-- GPIO_INPUT_SAMPLE (R406). -/
  | gpioInputSample (t : Nat) (p : Fin 32) (level : Bool)
  /-- MBX_HDR_COMMIT (R414). -/
  | mbxHdrCommit (a : Acc) (m : Fin 64) (v : Word)
  /-- MBX_TAKE (R416). -/
  | mbxTake (a : Acc) (m : Fin 64)
  /-- MBX_WITHDRAW (R419). -/
  | mbxWithdraw (a : Acc) (m : Fin 64)
  /-- MBX_TIMEOUT (R418). -/
  | mbxTimeout (t : Nat) (m : Fin 64)
  /-- PROV_LATCH (R430). -/
  | provLatch (a : Acc) (slot : Fin 16) (use : Byte)
  /-- PROV_GO (R430). -/
  | provGo (a : Acc)
  /-- PROV_LOCK (R430). -/
  | provLock (a : Acc) (ok : Bool)
  /-- PROV_PROGRAM_DONE (R430). -/
  | provProgramDone (ok : Bool)
  /-- FLOOR (R431). -/
  | floor (t : Nat) (m : Fin 64)
  /-- RESTART (R435). -/
  | restart (t : Nat) (m : Fin 64)
  /-- RESTART_RESET (R435). -/
  | restartReset (t : Nat)
  /-- PORT_REQ (R317). -/
  | portReq (t : Nat) (p : Fin 4)
  /-- TRNG_HEALTH_FAIL (R427). -/
  | trngHealthFail (t : Nat)
  /-- TAMPER_PROBE (R439). -/
  | tamperProbe (t : Nat) (k : Fin 2) (levels : ProbeLevels)
  /-- SYS_NV_RELEASE (R371). -/
  | sysNvRelease (a : Acc) (v : Word)
  /-- NAVE_RELEASE_DONE (R371). -/
  | naveReleaseDone (t : Nat) (c : Fin 2)
  /-- JNL_PIN_ACK (R448). -/
  | jnlPinAck (a : Acc) (v : Word)
  /-- MIRROR_RECORD_COPY (R449). -/
  | mirrorRecordCopy (t : Nat) (ok : Bool)
  /-- PINNED_AREA_FULL (R459). -/
  | pinnedAreaFull (t : Nat)
  /-- SAFE_HOLD_AUTO_RELEASE (R478). -/
  | safeHoldAutoRelease (t : Nat)
  /-- FLT_CNV_CLR (R477). -/
  | fltCnvClr (a : Acc) (c : Fin 256)
  /-- LEG_OUT (R484). -/
  | legOut (a : Acc) (n : Fin 256)
  /-- LEG_IN (R484). -/
  | legIn (a : Acc) (n : Fin 256)
  /-- STALE_REREAD (R483). -/
  | staleReread (t : Nat) (n : Fin 256)
  /-- VIGIL_WAKE_EVENT (R471). -/
  | vigilWakeEvent (cause : WakeCause)
  /-- PWRLOW_END (R471). -/
  | pwrlowEnd
  /-- WAKE_TIMEOUT (R471). -/
  | wakeTimeout
  /-- JTAG_EXTEST (R490). -/
  | jtagExtest
  /-- JTAG_SAMPLE_PRELOAD (R488). -/
  | jtagSamplePreload
  /-- JTAG_CLAMP (R490). -/
  | jtagClamp
  /-- JTAG_HIGHZ (R490). -/
  | jtagHighz
  /-- JTAG_BYPASS (R488). -/
  | jtagBypass (code : Fin 256)
  /-- JTAG_DEBUG (R488). -/
  | jtagDebug
  /-- DBGACC_READ (R491). -/
  | dbgaccRead (t : Nat) (addr : Word)
  /-- DBGACC_WRITE (R491). -/
  | dbgaccWrite (t : Nat) (addr : Word) (v : Word)
  /-- DEBUG_HALT (R492). -/
  | debugHalt (a : Acc) (c : Fin 2)
  /-- DEBUG_RESUME (R492). -/
  | debugResume (a : Acc) (c : Fin 2)
  /-- DEBUG_STEP (R492). -/
  | debugStep (a : Acc) (c : Fin 2)
  /-- DBG_PC_WRITE (R496). -/
  | dbgPcWrite (a : Acc) (c : Fin 2) (v : Word)
  /-- DBG_GREG_WRITE (R496). -/
  | dbgGregWrite (a : Acc) (c : Fin 2) (r : Fin 32) (v : Word)
  /-- TESTEN_ASSERT (R495). -/
  | testenAssert (t : Nat)
  /-- SPI_HOST_READ (R516). -/
  | spiHostRead (t : Nat) (addr : Word)
  /-- SPI_HOST_WRITE (R516). -/
  | spiHostWrite (t : Nat) (addr : Word) (v : Word)
  /-- SPI_HOST_CS_RISE (R517). -/
  | spiHostCsRise (t : Nat) (write : Bool) (addr : Word) (v : Word) (dataBits : Nat)
  /-- DIVIDE_COMPLETE (R386). -/
  | divideComplete (t : Nat) (c : Fin 2)
  /-- DAMASK_LONG_COMPLETE (R390). -/
  | damaskLongComplete (t : Nat) (c : Fin 2)
  /-- SQUASH (R397). -/
  | squash (t : Nat) (c : Fin 2)
  /-- ADD (R376). -/
  | nvAdd (t : Nat) (c : Fin 2) (rd : Fin 32) (rs1 : Fin 32) (rs2 : Fin 32)
  /-- SUB (R376). -/
  | nvSub (t : Nat) (c : Fin 2) (rd : Fin 32) (rs1 : Fin 32) (rs2 : Fin 32)
  /-- AND (R376). -/
  | nvAnd (t : Nat) (c : Fin 2) (rd : Fin 32) (rs1 : Fin 32) (rs2 : Fin 32)
  /-- OR (R376). -/
  | nvOr (t : Nat) (c : Fin 2) (rd : Fin 32) (rs1 : Fin 32) (rs2 : Fin 32)
  /-- XOR (R376). -/
  | nvXor (t : Nat) (c : Fin 2) (rd : Fin 32) (rs1 : Fin 32) (rs2 : Fin 32)
  /-- SLT (R376). -/
  | nvSlt (t : Nat) (c : Fin 2) (rd : Fin 32) (rs1 : Fin 32) (rs2 : Fin 32)
  /-- SLTU (R376). -/
  | nvSltu (t : Nat) (c : Fin 2) (rd : Fin 32) (rs1 : Fin 32) (rs2 : Fin 32)
  /-- SLL (R376). -/
  | nvSll (t : Nat) (c : Fin 2) (rd : Fin 32) (rs1 : Fin 32) (rs2 : Fin 32)
  /-- SRL (R376). -/
  | nvSrl (t : Nat) (c : Fin 2) (rd : Fin 32) (rs1 : Fin 32) (rs2 : Fin 32)
  /-- SRA (R376). -/
  | nvSra (t : Nat) (c : Fin 2) (rd : Fin 32) (rs1 : Fin 32) (rs2 : Fin 32)
  /-- SLLI (R376). -/
  | nvSlli (t : Nat) (c : Fin 2) (rd : Fin 32) (rs1 : Fin 32) (sh : Fin 32)
  /-- SRLI (R376). -/
  | nvSrli (t : Nat) (c : Fin 2) (rd : Fin 32) (rs1 : Fin 32) (sh : Fin 32)
  /-- SRAI (R376). -/
  | nvSrai (t : Nat) (c : Fin 2) (rd : Fin 32) (rs1 : Fin 32) (sh : Fin 32)
  /-- MIN (R376). -/
  | nvMin (t : Nat) (c : Fin 2) (rd : Fin 32) (rs1 : Fin 32) (rs2 : Fin 32)
  /-- MAX (R376). -/
  | nvMax (t : Nat) (c : Fin 2) (rd : Fin 32) (rs1 : Fin 32) (rs2 : Fin 32)
  /-- CLZ (R376). -/
  | nvClz (t : Nat) (c : Fin 2) (rd : Fin 32) (rs1 : Fin 32)
  /-- POPC (R376). -/
  | nvPopc (t : Nat) (c : Fin 2) (rd : Fin 32) (rs1 : Fin 32)
  /-- REVB (R376). -/
  | nvRevb (t : Nat) (c : Fin 2) (rd : Fin 32) (rs1 : Fin 32)
  /-- ADDI (R376). -/
  | nvAddi (t : Nat) (c : Fin 2) (rd : Fin 32) (rs1 : Fin 32) (imm : BitVec 16)
  /-- ANDI (R376). -/
  | nvAndi (t : Nat) (c : Fin 2) (rd : Fin 32) (rs1 : Fin 32) (imm : BitVec 16)
  /-- ORI (R376). -/
  | nvOri (t : Nat) (c : Fin 2) (rd : Fin 32) (rs1 : Fin 32) (imm : BitVec 16)
  /-- XORI (R376). -/
  | nvXori (t : Nat) (c : Fin 2) (rd : Fin 32) (rs1 : Fin 32) (imm : BitVec 16)
  /-- SLTI (R376). -/
  | nvSlti (t : Nat) (c : Fin 2) (rd : Fin 32) (rs1 : Fin 32) (imm : BitVec 16)
  /-- SLTIU (R376). -/
  | nvSltiu (t : Nat) (c : Fin 2) (rd : Fin 32) (rs1 : Fin 32) (imm : BitVec 16)
  /-- LUI (R376). -/
  | nvLui (t : Nat) (c : Fin 2) (rd : Fin 32) (imm : BitVec 16)
  /-- MUL (R377). -/
  | nvMul (t : Nat) (c : Fin 2) (rd : Fin 32) (rs1 : Fin 32) (rs2 : Fin 32)
  /-- MULH (R377). -/
  | nvMulh (t : Nat) (c : Fin 2) (rd : Fin 32) (rs1 : Fin 32) (rs2 : Fin 32)
  /-- MULHU (R377). -/
  | nvMulhu (t : Nat) (c : Fin 2) (rd : Fin 32) (rs1 : Fin 32) (rs2 : Fin 32)
  /-- DIV (R378). -/
  | nvDiv (t : Nat) (c : Fin 2) (rd : Fin 32) (rs1 : Fin 32) (rs2 : Fin 32)
  /-- DIVU (R378). -/
  | nvDivu (t : Nat) (c : Fin 2) (rd : Fin 32) (rs1 : Fin 32) (rs2 : Fin 32)
  /-- REM (R378). -/
  | nvRem (t : Nat) (c : Fin 2) (rd : Fin 32) (rs1 : Fin 32) (rs2 : Fin 32)
  /-- REMU (R378). -/
  | nvRemu (t : Nat) (c : Fin 2) (rd : Fin 32) (rs1 : Fin 32) (rs2 : Fin 32)
  /-- QADD (R377). -/
  | nvQadd (t : Nat) (c : Fin 2) (rd : Fin 32) (rs1 : Fin 32) (rs2 : Fin 32)
  /-- QSUB (R377). -/
  | nvQsub (t : Nat) (c : Fin 2) (rd : Fin 32) (rs1 : Fin 32) (rs2 : Fin 32)
  /-- QMUL (R377). -/
  | nvQmul (t : Nat) (c : Fin 2) (rd : Fin 32) (rs1 : Fin 32) (rs2 : Fin 32)
  /-- QMAC (R377). -/
  | nvQmac (t : Nat) (c : Fin 2) (rd : Fin 32) (rs1 : Fin 32) (rs2 : Fin 32)
  /-- QNEG (R377). -/
  | nvQneg (t : Nat) (c : Fin 2) (rd : Fin 32) (rs1 : Fin 32)
  /-- QABS (R377). -/
  | nvQabs (t : Nat) (c : Fin 2) (rd : Fin 32) (rs1 : Fin 32)
  /-- SATS (R377). -/
  | nvSats (t : Nat) (c : Fin 2) (rd : Fin 32) (rs1 : Fin 32) (sh : Fin 32)
  /-- EXTU (R379). -/
  | nvExtu (t : Nat) (c : Fin 2) (rd : Fin 32) (rs1 : Fin 32) (pos : Fin 32) (w1 : Fin 32)
  /-- EXTS (R379). -/
  | nvExts (t : Nat) (c : Fin 2) (rd : Fin 32) (rs1 : Fin 32) (pos : Fin 32) (w1 : Fin 32)
  /-- INS (R379). -/
  | nvIns (t : Nat) (c : Fin 2) (rd : Fin 32) (rs1 : Fin 32) (pos : Fin 32) (w1 : Fin 32)
  /-- LB (R380). -/
  | nvLb (t : Nat) (c : Fin 2) (rd : Fin 32) (rs1 : Fin 32) (imm : BitVec 16)
  /-- LBU (R380). -/
  | nvLbu (t : Nat) (c : Fin 2) (rd : Fin 32) (rs1 : Fin 32) (imm : BitVec 16)
  /-- LH (R380). -/
  | nvLh (t : Nat) (c : Fin 2) (rd : Fin 32) (rs1 : Fin 32) (imm : BitVec 16)
  /-- LHU (R380). -/
  | nvLhu (t : Nat) (c : Fin 2) (rd : Fin 32) (rs1 : Fin 32) (imm : BitVec 16)
  /-- LW (R380). -/
  | nvLw (t : Nat) (c : Fin 2) (rd : Fin 32) (rs1 : Fin 32) (imm : BitVec 16)
  /-- SB (R380). -/
  | nvSb (t : Nat) (c : Fin 2) (rs2 : Fin 32) (rs1 : Fin 32) (imm : BitVec 16)
  /-- SH (R380). -/
  | nvSh (t : Nat) (c : Fin 2) (rs2 : Fin 32) (rs1 : Fin 32) (imm : BitVec 16)
  /-- SW (R380). -/
  | nvSw (t : Nat) (c : Fin 2) (rs2 : Fin 32) (rs1 : Fin 32) (imm : BitVec 16)
  /-- BEQ (R381). -/
  | nvBeq (t : Nat) (c : Fin 2) (rs1 : Fin 32) (rs2 : Fin 32) (off : BitVec 16)
  /-- BNE (R381). -/
  | nvBne (t : Nat) (c : Fin 2) (rs1 : Fin 32) (rs2 : Fin 32) (off : BitVec 16)
  /-- BLT (R381). -/
  | nvBlt (t : Nat) (c : Fin 2) (rs1 : Fin 32) (rs2 : Fin 32) (off : BitVec 16)
  /-- BGE (R381). -/
  | nvBge (t : Nat) (c : Fin 2) (rs1 : Fin 32) (rs2 : Fin 32) (off : BitVec 16)
  /-- BLTU (R381). -/
  | nvBltu (t : Nat) (c : Fin 2) (rs1 : Fin 32) (rs2 : Fin 32) (off : BitVec 16)
  /-- BGEU (R381). -/
  | nvBgeu (t : Nat) (c : Fin 2) (rs1 : Fin 32) (rs2 : Fin 32) (off : BitVec 16)
  /-- J (R381). -/
  | nvJ (t : Nat) (c : Fin 2) (off : BitVec 26)
  /-- JAL (R381). -/
  | nvJal (t : Nat) (c : Fin 2) (off : BitVec 26)
  /-- JALR (R381). -/
  | nvJalr (t : Nat) (c : Fin 2) (rd : Fin 32) (rs1 : Fin 32) (imm : BitVec 16)
  /-- SYSCALL (R382). -/
  | nvSyscall (t : Nat) (c : Fin 2) (arg : BitVec 12)
  /-- BREAK (R382). -/
  | nvBreak (t : Nat) (c : Fin 2)
  /-- ERET (R366). -/
  | nvEret (t : Nat) (c : Fin 2)
  /-- MFCR (R383). -/
  | nvMfcr (t : Nat) (c : Fin 2) (rd : Fin 32) (n : BitVec 8)
  /-- MTCR (R383). -/
  | nvMtcr (t : Nat) (c : Fin 2) (rs1 : Fin 32) (n : BitVec 8)
  /-- WFI (R384). -/
  | nvWfi (t : Nat) (c : Fin 2)
  /-- DMTD (R390). -/
  | dkDmtd (t : Nat) (c : Fin 2) (x : Fin 32) (y : Fin 32)
  /-- DMFD (R390). -/
  | dkDmfd (t : Nat) (c : Fin 2) (x : Fin 32) (y : Fin 32)
  /-- DMFS (R390). -/
  | dkDmfs (t : Nat) (c : Fin 2) (x : Fin 32)
  /-- DMTS (R390). -/
  | dkDmts (t : Nat) (c : Fin 2) (y : Fin 32)
  /-- DQADD (R391). -/
  | dkDqadd (t : Nat) (c : Fin 2) (x : Fin 32) (y : Fin 32) (z : Fin 32)
  /-- DQSUB (R391). -/
  | dkDqsub (t : Nat) (c : Fin 2) (x : Fin 32) (y : Fin 32) (z : Fin 32)
  /-- DQMUL (R391). -/
  | dkDqmul (t : Nat) (c : Fin 2) (x : Fin 32) (y : Fin 32) (z : Fin 32)
  /-- DQMAC (R391). -/
  | dkDqmac (t : Nat) (c : Fin 2) (x : Fin 32) (y : Fin 32) (z : Fin 32)
  /-- DQDIV (R391). -/
  | dkDqdiv (t : Nat) (c : Fin 2) (x : Fin 32) (y : Fin 32) (z : Fin 32)
  /-- FADD (R391). -/
  | dkFadd (t : Nat) (c : Fin 2) (x : Fin 32) (y : Fin 32) (z : Fin 32)
  /-- FSUB (R391). -/
  | dkFsub (t : Nat) (c : Fin 2) (x : Fin 32) (y : Fin 32) (z : Fin 32)
  /-- FMUL (R391). -/
  | dkFmul (t : Nat) (c : Fin 2) (x : Fin 32) (y : Fin 32) (z : Fin 32)
  /-- FMAC (R391). -/
  | dkFmac (t : Nat) (c : Fin 2) (x : Fin 32) (y : Fin 32) (z : Fin 32)
  /-- FDIV (R391). -/
  | dkFdiv (t : Nat) (c : Fin 2) (x : Fin 32) (y : Fin 32) (z : Fin 32)
  /-- FSQRT (R391). -/
  | dkFsqrt (t : Nat) (c : Fin 2) (x : Fin 32) (y : Fin 32)
  /-- FTOQ (R391). -/
  | dkFtoq (t : Nat) (c : Fin 2) (x : Fin 32) (y : Fin 32)
  /-- QTOF (R391). -/
  | dkQtof (t : Nat) (c : Fin 2) (x : Fin 32) (y : Fin 32)
  /-- CMUL (R393). -/
  | dkCmul (t : Nat) (c : Fin 2) (x : Fin 32) (y : Fin 32) (z : Fin 32)
  /-- CLARKE (R393). -/
  | dkClarke (t : Nat) (c : Fin 2) (x : Fin 32) (y : Fin 32)
  /-- PARK (R393). -/
  | dkPark (t : Nat) (c : Fin 2) (x : Fin 32) (y : Fin 32) (z : Fin 32)
  /-- IPARK (R393). -/
  | dkIpark (t : Nat) (c : Fin 2) (x : Fin 32) (y : Fin 32) (z : Fin 32)
  /-- SINCOS (R393). -/
  | dkSincos (t : Nat) (c : Fin 2) (x : Fin 32) (y : Fin 32)
  /-- BQ (R394). -/
  | dkBq (t : Nat) (c : Fin 2) (x : Fin 32) (y : Fin 32) (z : Fin 32)
  /-- PR (R394). -/
  | dkPr (t : Nat) (c : Fin 2) (x : Fin 32) (y : Fin 32) (z : Fin 32)
  /-- DSECR (R390). -/
  | dkDsecr (t : Nat) (c : Fin 2) (x : Fin 32) (y : Fin 32) (z : Fin 32)
  /-- DSECW (R396). -/
  | dkDsecw (t : Nat) (c : Fin 2) (x : Fin 32) (y : Fin 32) (z : Fin 32)
  /-- FIR (R390). -/
  | dkFir (t : Nat) (c : Fin 2) (x : Fin 32) (y : Fin 32)
  /-- FIRW (R396). -/
  | dkFirw (t : Nat) (c : Fin 2) (x : Fin 32) (y : Fin 32)
  /-- DLD (R395). -/
  | dkDld (t : Nat) (c : Fin 2) (x : Fin 32) (y : Fin 32) (z : Fin 32)
  /-- DST (R395). -/
  | dkDst (t : Nat) (c : Fin 2) (x : Fin 32) (y : Fin 32) (z : Fin 32)
  /-- DTRK (R395). -/
  | dkDtrk (t : Nat) (c : Fin 2) (x : Fin 32) (y : Fin 32)
  /-- DEDG (R395). -/
  | dkDedg (t : Nat) (c : Fin 2) (x : Fin 32) (y : Fin 32)
  /-- VLD_IN_RANGE (R464). -/
  | vldInRange (t : Nat)
  /-- VBAKLOW (R473). -/
  | vbaklow (t : Nat) (vbak : Fin 1024)
  /-- COMPANION_UVLO_RECOVERY (R174). -/
  | companionUvloRecovery (t : Nat) (n : Fin 256) (sup : GateSupply)
  /-- ABORT_SYMBOLS_DETECTED (R335). -/
  | abortSymbolsDetected (t : Nat)
  /-- ILLEGAL_INSTRUCTION (R375). -/
  | illegalInstruction (t : Nat) (c : Fin 2) (w : Word)
  /-- IFETCH_FAULT (R364). -/
  | ifetchFault (t : Nat) (c : Fin 2)
  /-- NO_TRANSITION_WINDOW (R172). -/
  | noTransitionWindow (t : Nat) (n : Fin 256) (edge : EdgeKind)
  /-- TEST_LOGIC_RESET (R488). -/
  | testLogicReset
  /-- SPI_HOST_OTHER_COMMAND (R517). -/
  | spiHostOtherCommand (cmd : Byte)
  deriving DecidableEq, Repr

end Sys2Proof
end

