-- ==== Sys2Proof/WellFormed.lean ====
section
/-!
DEFINITION. Sys2Proof/WellFormed.lean: which commands are well formed: an instruction of a Nave core holds no reserved
encoding in its fields (R375, Table 21.4, R379, R392); every other command's operands are bounded by their types.
-/

namespace Sys2Proof

/-- A register pair of the Damask begins at an even register (R392). -/
def evenReg (r : Fin 32) : Bool := r.val % 2 == 0

/-- An instruction holds no reserved encoding. -/
def NaveInstr.wf : NaveInstr → Bool
  | .nvSats _ _ sh => decide (1 ≤ sh.val) && decide (sh.val ≤ 30)
  | .nvExtu _ _ pos w1 => decide (pos.val + w1.val < 32)
  | .nvExts _ _ pos w1 => decide (pos.val + w1.val < 32)
  | .nvIns _ _ pos w1 => decide (pos.val + w1.val < 32)
  | .dkCmul x y z => evenReg x && evenReg y && evenReg z
  | .dkClarke x y => evenReg x && decide (y.val ≤ 29)
  | .dkPark x y z => evenReg x && evenReg y && evenReg z
  | .dkIpark x y z => evenReg x && evenReg y && evenReg z
  | .dkSincos x _ => evenReg x
  | .dkDsecr _ y _ => decide (y.val < 8)
  | .dkDsecw _ y _ => decide (y.val < 8)
  | .dkDtrk x _ => evenReg x
  | _ => true

/-- The instruction a command commits, with its core; none for a command that commits none. -/
def Instr.nave? : Instr → Option (Fin 2 × NaveInstr)
  | .nvAdd _ c rd rs1 rs2 => some (c, .nvAdd rd rs1 rs2)
  | .nvSub _ c rd rs1 rs2 => some (c, .nvSub rd rs1 rs2)
  | .nvAnd _ c rd rs1 rs2 => some (c, .nvAnd rd rs1 rs2)
  | .nvOr _ c rd rs1 rs2 => some (c, .nvOr rd rs1 rs2)
  | .nvXor _ c rd rs1 rs2 => some (c, .nvXor rd rs1 rs2)
  | .nvSlt _ c rd rs1 rs2 => some (c, .nvSlt rd rs1 rs2)
  | .nvSltu _ c rd rs1 rs2 => some (c, .nvSltu rd rs1 rs2)
  | .nvSll _ c rd rs1 rs2 => some (c, .nvSll rd rs1 rs2)
  | .nvSrl _ c rd rs1 rs2 => some (c, .nvSrl rd rs1 rs2)
  | .nvSra _ c rd rs1 rs2 => some (c, .nvSra rd rs1 rs2)
  | .nvSlli _ c rd rs1 sh => some (c, .nvSlli rd rs1 sh)
  | .nvSrli _ c rd rs1 sh => some (c, .nvSrli rd rs1 sh)
  | .nvSrai _ c rd rs1 sh => some (c, .nvSrai rd rs1 sh)
  | .nvMin _ c rd rs1 rs2 => some (c, .nvMin rd rs1 rs2)
  | .nvMax _ c rd rs1 rs2 => some (c, .nvMax rd rs1 rs2)
  | .nvClz _ c rd rs1 => some (c, .nvClz rd rs1)
  | .nvPopc _ c rd rs1 => some (c, .nvPopc rd rs1)
  | .nvRevb _ c rd rs1 => some (c, .nvRevb rd rs1)
  | .nvAddi _ c rd rs1 imm => some (c, .nvAddi rd rs1 imm)
  | .nvAndi _ c rd rs1 imm => some (c, .nvAndi rd rs1 imm)
  | .nvOri _ c rd rs1 imm => some (c, .nvOri rd rs1 imm)
  | .nvXori _ c rd rs1 imm => some (c, .nvXori rd rs1 imm)
  | .nvSlti _ c rd rs1 imm => some (c, .nvSlti rd rs1 imm)
  | .nvSltiu _ c rd rs1 imm => some (c, .nvSltiu rd rs1 imm)
  | .nvLui _ c rd imm => some (c, .nvLui rd imm)
  | .nvMul _ c rd rs1 rs2 => some (c, .nvMul rd rs1 rs2)
  | .nvMulh _ c rd rs1 rs2 => some (c, .nvMulh rd rs1 rs2)
  | .nvMulhu _ c rd rs1 rs2 => some (c, .nvMulhu rd rs1 rs2)
  | .nvDiv _ c rd rs1 rs2 => some (c, .nvDiv rd rs1 rs2)
  | .nvDivu _ c rd rs1 rs2 => some (c, .nvDivu rd rs1 rs2)
  | .nvRem _ c rd rs1 rs2 => some (c, .nvRem rd rs1 rs2)
  | .nvRemu _ c rd rs1 rs2 => some (c, .nvRemu rd rs1 rs2)
  | .nvQadd _ c rd rs1 rs2 => some (c, .nvQadd rd rs1 rs2)
  | .nvQsub _ c rd rs1 rs2 => some (c, .nvQsub rd rs1 rs2)
  | .nvQmul _ c rd rs1 rs2 => some (c, .nvQmul rd rs1 rs2)
  | .nvQmac _ c rd rs1 rs2 => some (c, .nvQmac rd rs1 rs2)
  | .nvQneg _ c rd rs1 => some (c, .nvQneg rd rs1)
  | .nvQabs _ c rd rs1 => some (c, .nvQabs rd rs1)
  | .nvSats _ c rd rs1 sh => some (c, .nvSats rd rs1 sh)
  | .nvExtu _ c rd rs1 pos w1 => some (c, .nvExtu rd rs1 pos w1)
  | .nvExts _ c rd rs1 pos w1 => some (c, .nvExts rd rs1 pos w1)
  | .nvIns _ c rd rs1 pos w1 => some (c, .nvIns rd rs1 pos w1)
  | .nvLb _ c rd rs1 imm => some (c, .nvLb rd rs1 imm)
  | .nvLbu _ c rd rs1 imm => some (c, .nvLbu rd rs1 imm)
  | .nvLh _ c rd rs1 imm => some (c, .nvLh rd rs1 imm)
  | .nvLhu _ c rd rs1 imm => some (c, .nvLhu rd rs1 imm)
  | .nvLw _ c rd rs1 imm => some (c, .nvLw rd rs1 imm)
  | .nvSb _ c rs2 rs1 imm => some (c, .nvSb rs2 rs1 imm)
  | .nvSh _ c rs2 rs1 imm => some (c, .nvSh rs2 rs1 imm)
  | .nvSw _ c rs2 rs1 imm => some (c, .nvSw rs2 rs1 imm)
  | .nvBeq _ c rs1 rs2 off => some (c, .nvBeq rs1 rs2 off)
  | .nvBne _ c rs1 rs2 off => some (c, .nvBne rs1 rs2 off)
  | .nvBlt _ c rs1 rs2 off => some (c, .nvBlt rs1 rs2 off)
  | .nvBge _ c rs1 rs2 off => some (c, .nvBge rs1 rs2 off)
  | .nvBltu _ c rs1 rs2 off => some (c, .nvBltu rs1 rs2 off)
  | .nvBgeu _ c rs1 rs2 off => some (c, .nvBgeu rs1 rs2 off)
  | .nvJ _ c off => some (c, .nvJ off)
  | .nvJal _ c off => some (c, .nvJal off)
  | .nvJalr _ c rd rs1 imm => some (c, .nvJalr rd rs1 imm)
  | .nvSyscall _ c arg => some (c, .nvSyscall arg)
  | .nvBreak _ c => some (c, .nvBreak)
  | .nvEret _ c => some (c, .nvEret)
  | .nvMfcr _ c rd n => some (c, .nvMfcr rd n)
  | .nvMtcr _ c rs1 n => some (c, .nvMtcr rs1 n)
  | .nvWfi _ c => some (c, .nvWfi)
  | .dkDmtd _ c x y => some (c, .dkDmtd x y)
  | .dkDmfd _ c x y => some (c, .dkDmfd x y)
  | .dkDmfs _ c x => some (c, .dkDmfs x)
  | .dkDmts _ c y => some (c, .dkDmts y)
  | .dkDqadd _ c x y z => some (c, .dkDqadd x y z)
  | .dkDqsub _ c x y z => some (c, .dkDqsub x y z)
  | .dkDqmul _ c x y z => some (c, .dkDqmul x y z)
  | .dkDqmac _ c x y z => some (c, .dkDqmac x y z)
  | .dkDqdiv _ c x y z => some (c, .dkDqdiv x y z)
  | .dkFadd _ c x y z => some (c, .dkFadd x y z)
  | .dkFsub _ c x y z => some (c, .dkFsub x y z)
  | .dkFmul _ c x y z => some (c, .dkFmul x y z)
  | .dkFmac _ c x y z => some (c, .dkFmac x y z)
  | .dkFdiv _ c x y z => some (c, .dkFdiv x y z)
  | .dkFsqrt _ c x y => some (c, .dkFsqrt x y)
  | .dkFtoq _ c x y => some (c, .dkFtoq x y)
  | .dkQtof _ c x y => some (c, .dkQtof x y)
  | .dkCmul _ c x y z => some (c, .dkCmul x y z)
  | .dkClarke _ c x y => some (c, .dkClarke x y)
  | .dkPark _ c x y z => some (c, .dkPark x y z)
  | .dkIpark _ c x y z => some (c, .dkIpark x y z)
  | .dkSincos _ c x y => some (c, .dkSincos x y)
  | .dkBq _ c x y z => some (c, .dkBq x y z)
  | .dkPr _ c x y z => some (c, .dkPr x y z)
  | .dkDsecr _ c x y z => some (c, .dkDsecr x y z)
  | .dkDsecw _ c x y z => some (c, .dkDsecw x y z)
  | .dkFir _ c x y => some (c, .dkFir x y)
  | .dkFirw _ c x y => some (c, .dkFirw x y)
  | .dkDld _ c x y z => some (c, .dkDld x y z)
  | .dkDst _ c x y z => some (c, .dkDst x y z)
  | .dkDtrk _ c x y => some (c, .dkDtrk x y)
  | .dkDedg _ c x y => some (c, .dkDedg x y)
  | _ => none

/-- A command is well formed. -/
def Instr.wf (i : Instr) : Bool :=
  match i.nave? with
  | some (_, n) => n.wf
  | none => true

end Sys2Proof
end

