-- ==== Sys2Proof/Decode.lean ====
section
/-!
DEFINITION. Sys2Proof/Decode.lean: the words of the Nave and Damask instructions (Tables 21.1 to 21.8, 22.1): a decoder that
refuses every reserved encoding (R375, R379, R392) and an encoder; and what a word of the opcode table spells.
-/

namespace Sys2Proof

/-! ### Fields of a word (Table 21.1) -/

/-- A five-bit field of a word. -/
def fld5 (w lo : Nat) : Fin 32 := Fin.ofNat 32 (w / 2 ^ lo)

def wRd (w : Nat) : Fin 32 := fld5 w 21
def wRs1 (w : Nat) : Fin 32 := fld5 w 16
def wRs2 (w : Nat) : Fin 32 := fld5 w 11
def wSh (w : Nat) : Fin 32 := fld5 w 6
def wImm (w : Nat) : BitVec 16 := BitVec.ofNat 16 w
def wOff26 (w : Nat) : BitVec 26 := BitVec.ofNat 26 w
def wOp (w : Nat) : Nat := w / 67108864 % 64
def wFn (w : Nat) : Nat := w % 64

/-- Formats R and F. -/
def encR (op rd rs1 f1 f2 fn : Nat) : Nat := op * 67108864 + rd * 2097152 + rs1 * 65536 + f1 * 2048 + f2 * 64 + fn

/-- Formats I, S and B: two register fields and 16 bits. -/
def encI (op a b imm : Nat) : Nat := op * 67108864 + a * 2097152 + b * 65536 + imm

/-- Format J. -/
def encJ (op off : Nat) : Nat := op * 67108864 + off

/-- Format Y. -/
def encY (rd rs1 fn arg : Nat) : Nat := 63 * 67108864 + rd * 2097152 + rs1 * 65536 + fn * 4096 + arg

/-- Format C. -/
def encC (a b c dfn : Nat) : Nat := 60 * 67108864 + a * 2097152 + b * 65536 + c * 2048 + dfn

/-- An instruction, or the refusal of one that is ill-formed. -/
def okIf (i : NaveInstr) : Option NaveInstr := if i.wf then some i else none

/-- The instruction of OP 0x00 by FUNC (Table 21.3). -/
def decodeAlu (w : Nat) : Option NaveInstr :=
  match wFn w with
  | 0x01 => if w / 64 % 32 = 0 then some (.nvAdd (wRd w) (wRs1 w) (wRs2 w)) else none
  | 0x02 => if w / 64 % 32 = 0 then some (.nvSub (wRd w) (wRs1 w) (wRs2 w)) else none
  | 0x03 => if w / 64 % 32 = 0 then some (.nvAnd (wRd w) (wRs1 w) (wRs2 w)) else none
  | 0x04 => if w / 64 % 32 = 0 then some (.nvOr (wRd w) (wRs1 w) (wRs2 w)) else none
  | 0x05 => if w / 64 % 32 = 0 then some (.nvXor (wRd w) (wRs1 w) (wRs2 w)) else none
  | 0x06 => if w / 64 % 32 = 0 then some (.nvSlt (wRd w) (wRs1 w) (wRs2 w)) else none
  | 0x07 => if w / 64 % 32 = 0 then some (.nvSltu (wRd w) (wRs1 w) (wRs2 w)) else none
  | 0x08 => if w / 64 % 32 = 0 then some (.nvSll (wRd w) (wRs1 w) (wRs2 w)) else none
  | 0x09 => if w / 64 % 32 = 0 then some (.nvSrl (wRd w) (wRs1 w) (wRs2 w)) else none
  | 0x0A => if w / 64 % 32 = 0 then some (.nvSra (wRd w) (wRs1 w) (wRs2 w)) else none
  | 0x0B => if w / 2048 % 32 = 0 then some (.nvSlli (wRd w) (wRs1 w) (wSh w)) else none
  | 0x0C => if w / 2048 % 32 = 0 then some (.nvSrli (wRd w) (wRs1 w) (wSh w)) else none
  | 0x0D => if w / 2048 % 32 = 0 then some (.nvSrai (wRd w) (wRs1 w) (wSh w)) else none
  | 0x0E => if w / 64 % 32 = 0 then some (.nvMin (wRd w) (wRs1 w) (wRs2 w)) else none
  | 0x0F => if w / 64 % 32 = 0 then some (.nvMax (wRd w) (wRs1 w) (wRs2 w)) else none
  | 0x10 => if w / 64 % 1024 = 0 then some (.nvClz (wRd w) (wRs1 w)) else none
  | 0x11 => if w / 64 % 1024 = 0 then some (.nvPopc (wRd w) (wRs1 w)) else none
  | 0x12 => if w / 64 % 1024 = 0 then some (.nvRevb (wRd w) (wRs1 w)) else none
  | _ => none

/-- The instruction of OP 0x01 by FUNC (Table 21.4). -/
def decodeMul (w : Nat) : Option NaveInstr :=
  match wFn w with
  | 0x01 => if w / 64 % 32 = 0 then some (.nvMul (wRd w) (wRs1 w) (wRs2 w)) else none
  | 0x02 => if w / 64 % 32 = 0 then some (.nvMulh (wRd w) (wRs1 w) (wRs2 w)) else none
  | 0x03 => if w / 64 % 32 = 0 then some (.nvMulhu (wRd w) (wRs1 w) (wRs2 w)) else none
  | 0x04 => if w / 64 % 32 = 0 then some (.nvDiv (wRd w) (wRs1 w) (wRs2 w)) else none
  | 0x05 => if w / 64 % 32 = 0 then some (.nvDivu (wRd w) (wRs1 w) (wRs2 w)) else none
  | 0x06 => if w / 64 % 32 = 0 then some (.nvRem (wRd w) (wRs1 w) (wRs2 w)) else none
  | 0x07 => if w / 64 % 32 = 0 then some (.nvRemu (wRd w) (wRs1 w) (wRs2 w)) else none
  | 0x08 => if w / 64 % 32 = 0 then some (.nvQadd (wRd w) (wRs1 w) (wRs2 w)) else none
  | 0x09 => if w / 64 % 32 = 0 then some (.nvQsub (wRd w) (wRs1 w) (wRs2 w)) else none
  | 0x0A => if w / 64 % 32 = 0 then some (.nvQmul (wRd w) (wRs1 w) (wRs2 w)) else none
  | 0x0B => if w / 64 % 32 = 0 then some (.nvQmac (wRd w) (wRs1 w) (wRs2 w)) else none
  | 0x0C => if w / 64 % 1024 = 0 then some (.nvQneg (wRd w) (wRs1 w)) else none
  | 0x0D => if w / 64 % 1024 = 0 then some (.nvQabs (wRd w) (wRs1 w)) else none
  | 0x0E => if w / 2048 % 32 = 0 then okIf (.nvSats (wRd w) (wRs1 w) (wSh w)) else none
  | _ => none

/-- The instruction of OP 0x02 by FN (Table 21.5). -/
def decodeField (w : Nat) : Option NaveInstr :=
  match wFn w with
  | 0x01 => okIf (.nvExtu (wRd w) (wRs1 w) (wRs2 w) (wSh w))
  | 0x02 => okIf (.nvExts (wRd w) (wRs1 w) (wRs2 w) (wSh w))
  | 0x03 => okIf (.nvIns (wRd w) (wRs1 w) (wRs2 w) (wSh w))
  | _ => none

/-- The instruction of OP 0x3F by FN (Table 21.8). -/
def decodeSystem (w : Nat) : Option NaveInstr :=
  match w / 4096 % 16 with
  | 0 => if w / 65536 % 1024 = 0 then some (.nvSyscall (BitVec.ofNat 12 w)) else none
  | 1 => if w / 65536 % 1024 = 0 ∧ w % 4096 = 0 then some .nvBreak else none
  | 2 => if w / 65536 % 1024 = 0 ∧ w % 4096 = 0 then some .nvEret else none
  | 3 => if w / 65536 % 32 = 0 ∧ w / 256 % 16 = 0 then some (.nvMfcr (wRd w) (BitVec.ofNat 8 w)) else none
  | 4 => if w / 2097152 % 32 = 0 ∧ w / 256 % 16 = 0 then some (.nvMtcr (wRs1 w) (BitVec.ofNat 8 w)) else none
  | 5 => if w / 65536 % 1024 = 0 ∧ w % 4096 = 0 then some .nvWfi else none
  | _ => none

/-- The operation of OP 0x3C by DFN (Table 22.1). -/
def decodeDamask (w : Nat) : Option NaveInstr :=
  match w % 2048 with
  | 0x01 => if w / 2048 % 32 = 0 then some (.dkDmtd (wRd w) (wRs1 w)) else none
  | 0x02 => if w / 2048 % 32 = 0 then some (.dkDmfd (wRd w) (wRs1 w)) else none
  | 0x03 => if w / 2048 % 1024 = 0 then some (.dkDmfs (wRd w)) else none
  | 0x04 => if w / 2048 % 32 = 0 ∧ w / 2097152 % 32 = 0 then some (.dkDmts (wRs1 w)) else none
  | 0x10 => some (.dkDqadd (wRd w) (wRs1 w) (wRs2 w))
  | 0x11 => some (.dkDqsub (wRd w) (wRs1 w) (wRs2 w))
  | 0x12 => some (.dkDqmul (wRd w) (wRs1 w) (wRs2 w))
  | 0x13 => some (.dkDqmac (wRd w) (wRs1 w) (wRs2 w))
  | 0x14 => some (.dkDqdiv (wRd w) (wRs1 w) (wRs2 w))
  | 0x20 => some (.dkFadd (wRd w) (wRs1 w) (wRs2 w))
  | 0x21 => some (.dkFsub (wRd w) (wRs1 w) (wRs2 w))
  | 0x22 => some (.dkFmul (wRd w) (wRs1 w) (wRs2 w))
  | 0x23 => some (.dkFmac (wRd w) (wRs1 w) (wRs2 w))
  | 0x24 => some (.dkFdiv (wRd w) (wRs1 w) (wRs2 w))
  | 0x25 => if w / 2048 % 32 = 0 then some (.dkFsqrt (wRd w) (wRs1 w)) else none
  | 0x26 => if w / 2048 % 32 = 0 then some (.dkFtoq (wRd w) (wRs1 w)) else none
  | 0x27 => if w / 2048 % 32 = 0 then some (.dkQtof (wRd w) (wRs1 w)) else none
  | 0x30 => okIf (.dkCmul (wRd w) (wRs1 w) (wRs2 w))
  | 0x31 => if w / 2048 % 32 = 0 then okIf (.dkClarke (wRd w) (wRs1 w)) else none
  | 0x32 => okIf (.dkPark (wRd w) (wRs1 w) (wRs2 w))
  | 0x33 => okIf (.dkIpark (wRd w) (wRs1 w) (wRs2 w))
  | 0x34 => if w / 2048 % 32 = 0 then okIf (.dkSincos (wRd w) (wRs1 w)) else none
  | 0x40 => some (.dkBq (wRd w) (wRs1 w) (wRs2 w))
  | 0x41 => some (.dkPr (wRd w) (wRs1 w) (wRs2 w))
  | 0x42 => okIf (.dkDsecr (wRd w) (wRs1 w) (wRs2 w))
  | 0x43 => okIf (.dkDsecw (wRd w) (wRs1 w) (wRs2 w))
  | 0x44 => if w / 2048 % 32 = 0 then some (.dkFir (wRd w) (wRs1 w)) else none
  | 0x45 => if w / 2048 % 32 = 0 then some (.dkFirw (wRd w) (wRs1 w)) else none
  | 0x50 => some (.dkDld (wRd w) (wRs1 w) (wRs2 w))
  | 0x51 => some (.dkDst (wRd w) (wRs1 w) (wRs2 w))
  | 0x52 => if w / 2048 % 32 = 0 then okIf (.dkDtrk (wRd w) (wRs1 w)) else none
  | 0x53 => if w / 2048 % 32 = 0 then some (.dkDedg (wRd w) (wRs1 w)) else none
  | _ => none

/-- The instruction a word holds; none where the word holds a reserved value (R375). -/
def decodeNave (w : Nat) : Option NaveInstr :=
  match wOp w with
  | 0x00 => decodeAlu w
  | 0x01 => decodeMul w
  | 0x02 => decodeField w
  | 0x04 => some (.nvAddi (wRd w) (wRs1 w) (wImm w))
  | 0x05 => some (.nvAndi (wRd w) (wRs1 w) (wImm w))
  | 0x06 => some (.nvOri (wRd w) (wRs1 w) (wImm w))
  | 0x07 => some (.nvXori (wRd w) (wRs1 w) (wImm w))
  | 0x08 => some (.nvSlti (wRd w) (wRs1 w) (wImm w))
  | 0x09 => some (.nvSltiu (wRd w) (wRs1 w) (wImm w))
  | 0x0A => if w / 65536 % 32 = 0 then some (.nvLui (wRd w) (wImm w)) else none
  | 0x10 => some (.nvLb (wRd w) (wRs1 w) (wImm w))
  | 0x11 => some (.nvLbu (wRd w) (wRs1 w) (wImm w))
  | 0x12 => some (.nvLh (wRd w) (wRs1 w) (wImm w))
  | 0x13 => some (.nvLhu (wRd w) (wRs1 w) (wImm w))
  | 0x14 => some (.nvLw (wRd w) (wRs1 w) (wImm w))
  | 0x18 => some (.nvSb (wRd w) (wRs1 w) (wImm w))
  | 0x19 => some (.nvSh (wRd w) (wRs1 w) (wImm w))
  | 0x1A => some (.nvSw (wRd w) (wRs1 w) (wImm w))
  | 0x20 => some (.nvBeq (wRd w) (wRs1 w) (wImm w))
  | 0x21 => some (.nvBne (wRd w) (wRs1 w) (wImm w))
  | 0x22 => some (.nvBlt (wRd w) (wRs1 w) (wImm w))
  | 0x23 => some (.nvBge (wRd w) (wRs1 w) (wImm w))
  | 0x24 => some (.nvBltu (wRd w) (wRs1 w) (wImm w))
  | 0x25 => some (.nvBgeu (wRd w) (wRs1 w) (wImm w))
  | 0x28 => some (.nvJ (wOff26 w))
  | 0x29 => some (.nvJal (wOff26 w))
  | 0x2A => some (.nvJalr (wRd w) (wRs1 w) (wImm w))
  | 0x3C => decodeDamask w
  | 0x3F => decodeSystem w
  | _ => none

/-- The word of an instruction. -/
def encodeNave : NaveInstr → Nat
  | .nvAdd rd rs1 rs2 => encR 0 rd rs1 rs2 0 0x01
  | .nvSub rd rs1 rs2 => encR 0 rd rs1 rs2 0 0x02
  | .nvAnd rd rs1 rs2 => encR 0 rd rs1 rs2 0 0x03
  | .nvOr rd rs1 rs2 => encR 0 rd rs1 rs2 0 0x04
  | .nvXor rd rs1 rs2 => encR 0 rd rs1 rs2 0 0x05
  | .nvSlt rd rs1 rs2 => encR 0 rd rs1 rs2 0 0x06
  | .nvSltu rd rs1 rs2 => encR 0 rd rs1 rs2 0 0x07
  | .nvSll rd rs1 rs2 => encR 0 rd rs1 rs2 0 0x08
  | .nvSrl rd rs1 rs2 => encR 0 rd rs1 rs2 0 0x09
  | .nvSra rd rs1 rs2 => encR 0 rd rs1 rs2 0 0x0A
  | .nvMin rd rs1 rs2 => encR 0 rd rs1 rs2 0 0x0E
  | .nvMax rd rs1 rs2 => encR 0 rd rs1 rs2 0 0x0F
  | .nvMul rd rs1 rs2 => encR 1 rd rs1 rs2 0 0x01
  | .nvMulh rd rs1 rs2 => encR 1 rd rs1 rs2 0 0x02
  | .nvMulhu rd rs1 rs2 => encR 1 rd rs1 rs2 0 0x03
  | .nvDiv rd rs1 rs2 => encR 1 rd rs1 rs2 0 0x04
  | .nvDivu rd rs1 rs2 => encR 1 rd rs1 rs2 0 0x05
  | .nvRem rd rs1 rs2 => encR 1 rd rs1 rs2 0 0x06
  | .nvRemu rd rs1 rs2 => encR 1 rd rs1 rs2 0 0x07
  | .nvQadd rd rs1 rs2 => encR 1 rd rs1 rs2 0 0x08
  | .nvQsub rd rs1 rs2 => encR 1 rd rs1 rs2 0 0x09
  | .nvQmul rd rs1 rs2 => encR 1 rd rs1 rs2 0 0x0A
  | .nvQmac rd rs1 rs2 => encR 1 rd rs1 rs2 0 0x0B
  | .nvSlli rd rs1 sh => encR 0 rd rs1 0 sh 0x0B
  | .nvSrli rd rs1 sh => encR 0 rd rs1 0 sh 0x0C
  | .nvSrai rd rs1 sh => encR 0 rd rs1 0 sh 0x0D
  | .nvSats rd rs1 sh => encR 1 rd rs1 0 sh 0x0E
  | .nvClz rd rs1 => encR 0 rd rs1 0 0 0x10
  | .nvPopc rd rs1 => encR 0 rd rs1 0 0 0x11
  | .nvRevb rd rs1 => encR 0 rd rs1 0 0 0x12
  | .nvQneg rd rs1 => encR 1 rd rs1 0 0 0x0C
  | .nvQabs rd rs1 => encR 1 rd rs1 0 0 0x0D
  | .nvExtu rd rs1 pos w1 => encR 2 rd rs1 pos w1 0x01
  | .nvExts rd rs1 pos w1 => encR 2 rd rs1 pos w1 0x02
  | .nvIns rd rs1 pos w1 => encR 2 rd rs1 pos w1 0x03
  | .nvAddi rd rs1 imm => encI 0x04 rd rs1 imm.toNat
  | .nvAndi rd rs1 imm => encI 0x05 rd rs1 imm.toNat
  | .nvOri rd rs1 imm => encI 0x06 rd rs1 imm.toNat
  | .nvXori rd rs1 imm => encI 0x07 rd rs1 imm.toNat
  | .nvSlti rd rs1 imm => encI 0x08 rd rs1 imm.toNat
  | .nvSltiu rd rs1 imm => encI 0x09 rd rs1 imm.toNat
  | .nvLb rd rs1 imm => encI 0x10 rd rs1 imm.toNat
  | .nvLbu rd rs1 imm => encI 0x11 rd rs1 imm.toNat
  | .nvLh rd rs1 imm => encI 0x12 rd rs1 imm.toNat
  | .nvLhu rd rs1 imm => encI 0x13 rd rs1 imm.toNat
  | .nvLw rd rs1 imm => encI 0x14 rd rs1 imm.toNat
  | .nvJalr rd rs1 imm => encI 0x2A rd rs1 imm.toNat
  | .nvLui rd imm => encI 0x0A rd 0 imm.toNat
  | .nvSb rs2 rs1 imm => encI 0x18 rs2 rs1 imm.toNat
  | .nvSh rs2 rs1 imm => encI 0x19 rs2 rs1 imm.toNat
  | .nvSw rs2 rs1 imm => encI 0x1A rs2 rs1 imm.toNat
  | .nvBeq rs1 rs2 off => encI 0x20 rs1 rs2 off.toNat
  | .nvBne rs1 rs2 off => encI 0x21 rs1 rs2 off.toNat
  | .nvBlt rs1 rs2 off => encI 0x22 rs1 rs2 off.toNat
  | .nvBge rs1 rs2 off => encI 0x23 rs1 rs2 off.toNat
  | .nvBltu rs1 rs2 off => encI 0x24 rs1 rs2 off.toNat
  | .nvBgeu rs1 rs2 off => encI 0x25 rs1 rs2 off.toNat
  | .nvJ off => encJ 0x28 off.toNat
  | .nvJal off => encJ 0x29 off.toNat
  | .nvSyscall arg => encY 0 0 0 arg.toNat
  | .nvBreak => encY 0 0 1 0
  | .nvEret => encY 0 0 2 0
  | .nvMfcr rd n => encY rd 0 3 n.toNat
  | .nvMtcr rs1 n => encY 0 rs1 4 n.toNat
  | .nvWfi => encY 0 0 5 0
  | .dkDqadd x y z => encC x y z 0x10
  | .dkDqsub x y z => encC x y z 0x11
  | .dkDqmul x y z => encC x y z 0x12
  | .dkDqmac x y z => encC x y z 0x13
  | .dkDqdiv x y z => encC x y z 0x14
  | .dkFadd x y z => encC x y z 0x20
  | .dkFsub x y z => encC x y z 0x21
  | .dkFmul x y z => encC x y z 0x22
  | .dkFmac x y z => encC x y z 0x23
  | .dkFdiv x y z => encC x y z 0x24
  | .dkCmul x y z => encC x y z 0x30
  | .dkPark x y z => encC x y z 0x32
  | .dkIpark x y z => encC x y z 0x33
  | .dkBq x y z => encC x y z 0x40
  | .dkPr x y z => encC x y z 0x41
  | .dkDsecr x y z => encC x y z 0x42
  | .dkDsecw x y z => encC x y z 0x43
  | .dkDld x y z => encC x y z 0x50
  | .dkDst x y z => encC x y z 0x51
  | .dkDmtd x y => encC x y 0 0x01
  | .dkDmfd x y => encC x y 0 0x02
  | .dkFsqrt x y => encC x y 0 0x25
  | .dkFtoq x y => encC x y 0 0x26
  | .dkQtof x y => encC x y 0 0x27
  | .dkClarke x y => encC x y 0 0x31
  | .dkSincos x y => encC x y 0 0x34
  | .dkFir x y => encC x y 0 0x44
  | .dkFirw x y => encC x y 0 0x45
  | .dkDtrk x y => encC x y 0 0x52
  | .dkDedg x y => encC x y 0 0x53
  | .dkDmfs x => encC x 0 0 0x03
  | .dkDmts y => encC 0 y 0 0x04

/-- The word of an instruction as a register value. -/
def wordOf (i : NaveInstr) : Word := BitVec.ofNat 32 (encodeNave i)

/-- The opcode table of this block gives its rows no bits, so no word of it spells a command. -/
def decodeTableWord (_nbits _w : Nat) : Option Instr := none

end Sys2Proof
end

