-- ==== Sys2Proof/Config.lean ====
section
/-!
DEFINITION. Sys2Proof/Config.lean: the free values: what the spec leaves open, as constants with no body. Nothing can
evaluate one of these, so a statement about one holds for every value of it.
-/

namespace Sys2Proof

/-- The n-th draw of the TRNG (R427, R430): free. -/
opaque Config.trng : Nat → BitVec 256

/-- What the key bytes of a key slot hold once its programming or its read-back has failed (R430): free, by the number of
the free value. -/
opaque Config.failedKey : Nat → BitVec 512

/-- The mirror halfwords at which MGMT writes reach D (0), STARVE_HOLD (1) and APPLY (2) of a companion (R155, R158, R179):
the mirror tables list none, so they are free; a listed halfword keeps its own meaning. -/
opaque Config.mgmtAddr : Nat → BitVec 7

/-- The serial number of the companion at leg n (Table 8.4): free. -/
opaque Config.compSerial : Nat → BitVec 24

/-- The nominal frequency of grid-tie instance i, in 0.1 mHz, from which R237 and Table 13.6 count: no record gives it. -/
opaque Config.gridNominal : Nat → Int

/-- A system cycle starts at an FTU time (R523): the cycles have no fixed phase to TB_NOW and drift against it, so the spec
leaves their starts open. -/
opaque Config.cycleEdge : Nat → Bool

/-- A free 64-bit value: what the spec leaves open at the n-th use of a free value. -/
opaque Config.freeWord : Nat → BitVec 64

/-- The CAUSE byte of a FAULT group where the raising block's chapter gives no code (R479): free, by the number of the
reason in `Machine.FaultWhy`. -/
opaque Config.causeCode : Nat → BitVec 8

/-- The error, in LSB of Q31, of a component of a Damask transform (R393): free; the model holds it within the bound that
R393 states. -/
opaque Config.damaskError : Nat → Int

end Sys2Proof
end

