-- ==== Sys2Proof/Machine/Crypto.lean ====
section
/-!
DEFINITION. Sys2Proof/Machine/Crypto.lean: the functions of the Crypt engine that the spec names by their standards: SHA-256,
ECDSA on P-256, and the TAG of AES-CCM with AES-256 (R40, R344, R427, R437, R445). The standards themselves are taken from
outside the spec (PRESUMED, log entry 5).
-/

namespace Sys2Proof.Crypt

/-! ### SHA-256 -/

def mod32 (x : Nat) : Nat := x % 4294967296

def rotr (n x : Nat) : Nat := (x >>> n) ||| mod32 (x <<< (32 - n))

/-- Bytes, most significant first, as a number. -/
def beNat (bs : List Byte) : Nat := bs.foldl (fun n b => 256 * n + b.toNat) 0

/-- The k bytes of a number, most significant first. -/
def beBytes (k n : Nat) : List Byte := (leBytes k n).reverse

def shaK : List Nat := [
  0x428a2f98, 0x71374491, 0xb5c0fbcf, 0xe9b5dba5, 0x3956c25b, 0x59f111f1, 0x923f82a4, 0xab1c5ed5,
  0xd807aa98, 0x12835b01, 0x243185be, 0x550c7dc3, 0x72be5d74, 0x80deb1fe, 0x9bdc06a7, 0xc19bf174,
  0xe49b69c1, 0xefbe4786, 0x0fc19dc6, 0x240ca1cc, 0x2de92c6f, 0x4a7484aa, 0x5cb0a9dc, 0x76f988da,
  0x983e5152, 0xa831c66d, 0xb00327c8, 0xbf597fc7, 0xc6e00bf3, 0xd5a79147, 0x06ca6351, 0x14292967] ++ [
  0x27b70a85, 0x2e1b2138, 0x4d2c6dfc, 0x53380d13, 0x650a7354, 0x766a0abb, 0x81c2c92e, 0x92722c85,
  0xa2bfe8a1, 0xa81a664b, 0xc24b8b70, 0xc76c51a3, 0xd192e819, 0xd6990624, 0xf40e3585, 0x106aa070,
  0x19a4c116, 0x1e376c08, 0x2748774c, 0x34b0bcb5, 0x391c0cb3, 0x4ed8aa4a, 0x5b9cca4f, 0x682e6ff3,
  0x748f82ee, 0x78a5636f, 0x84c87814, 0x8cc70208, 0x90befffa, 0xa4506ceb, 0xbef9a3f7, 0xc67178f2]

/-- The eight working words. -/
structure Sha where
  a : Nat
  b : Nat
  c : Nat
  d : Nat
  e : Nat
  f : Nat
  g : Nat
  h : Nat
  deriving DecidableEq, Repr

def Sha.init : Sha :=
  ⟨0x6a09e667, 0xbb67ae85, 0x3c6ef372, 0xa54ff53a, 0x510e527f, 0x9b05688c, 0x1f83d9ab, 0x5be0cd19⟩

/-- One round with its constant and schedule word. -/
def Sha.round (v : Sha) (kw : Nat × Nat) : Sha :=
  let s1 := Nat.xor (Nat.xor (rotr 6 v.e) (rotr 11 v.e)) (rotr 25 v.e)
  let ch := Nat.xor (Nat.land v.e v.f) (Nat.land (4294967295 - v.e) v.g)
  let t1 := v.h + s1 + ch + kw.1 + kw.2
  let s0 := Nat.xor (Nat.xor (rotr 2 v.a) (rotr 13 v.a)) (rotr 22 v.a)
  let maj := Nat.xor (Nat.xor (Nat.land v.a v.b) (Nat.land v.a v.c)) (Nat.land v.b v.c)
  ⟨mod32 (t1 + s0 + maj), v.a, v.b, v.c, mod32 (v.d + t1), v.e, v.f, v.g⟩

def Sha.add (v w : Sha) : Sha :=
  ⟨mod32 (v.a + w.a), mod32 (v.b + w.b), mod32 (v.c + w.c), mod32 (v.d + w.d), mod32 (v.e + w.e), mod32 (v.f + w.f),
   mod32 (v.g + w.g), mod32 (v.h + w.h)⟩

/-- The message schedule, latest word first, k words more. -/
def shaExtend : Nat → List Nat → List Nat
  | 0, w => w
  | k + 1, w =>
    let x := w.getD 14 0
    let y := w.getD 1 0
    let s0 := Nat.xor (Nat.xor (rotr 7 x) (rotr 18 x)) (x >>> 3)
    let s1 := Nat.xor (Nat.xor (rotr 17 y) (rotr 19 y)) (y >>> 10)
    shaExtend k (mod32 (w.getD 15 0 + s0 + w.getD 6 0 + s1) :: w)

/-- One block of 64 bytes. -/
def Sha.block (v : Sha) (bs : List Byte) : Sha :=
  let w := ((List.range 16).map (fun i => beNat ((bs.drop (4 * i)).take 4))).reverse
  v.add ((shaK.zip (shaExtend 48 w).reverse).foldl Sha.round v)

/-- n blocks. -/
def Sha.blocks : Nat → Sha → List Byte → Sha
  | 0, v, _ => v
  | n + 1, v, bs => Sha.blocks n (v.block (bs.take 64)) (bs.drop 64)

/-- The 32 bytes of the digest. -/
def shaBytes (m : List Byte) : List Byte :=
  let n := m.length
  let p := m ++ [0x80] ++ List.replicate ((119 - n % 64) % 64) 0 ++ beBytes 8 (8 * n)
  let v := Sha.blocks (p.length / 64) Sha.init p
  [v.a, v.b, v.c, v.d, v.e, v.f, v.g, v.h].flatMap (beBytes 4)

/-! ### P-256 -/

def prime : Nat := 0xffffffff00000001000000000000000000000000ffffffffffffffffffffffff
def order : Nat := 0xffffffff00000000ffffffffffffffffbce6faada7179e84f3b9cac2fc632551
def curveB : Nat := 0x5ac635d8aa3a93e7b3ebbd55769886bc651d06b0cc53b0f63bce3c3e27d2604b
def baseX : Nat := 0x6b17d1f2e12c4247f8bce6e563a440f277037d812deb33a0f4a13945d898c296
def baseY : Nat := 0x4fe342e2fe1a7f9b8ee7eb4a7c0f9e162bce33576b315ececbb6406837bf51f5

/-- b to the power of the low k bits of e, modulo n. -/
def powMod (n b e : Nat) : Nat → Nat
  | 0 => 1
  | k + 1 =>
    let r := powMod n b e k
    let r2 := r * r % n
    if e.testBit (255 - k) then r2 * b % n else r2

/-- The inverse modulo a prime n. -/
def invMod (n b : Nat) : Nat := powMod n b (n - 2) 256

/-- A point in Jacobian coordinates; z is 0 at infinity. -/
structure Pt where
  x : Nat
  y : Nat
  z : Nat
  deriving DecidableEq, Repr

def Pt.inf : Pt := ⟨1, 1, 0⟩

def mulP (a b : Nat) : Nat := a * b % prime
def subP (a b : Nat) : Nat := (a + (prime - b % prime)) % prime

def Pt.double (p : Pt) : Pt :=
  if p.z = 0 ∨ p.y = 0 then Pt.inf
  else
    let zz := mulP p.z p.z
    let m := mulP 3 (mulP (subP p.x zz) ((p.x + zz) % prime))
    let yy := mulP p.y p.y
    let s := mulP 4 (mulP p.x yy)
    let x := subP (mulP m m) (2 * s % prime)
    ⟨x, subP (mulP m (subP s x)) (mulP 8 (mulP yy yy)), mulP 2 (mulP p.y p.z)⟩

def Pt.add (p q : Pt) : Pt :=
  if p.z = 0 then q
  else if q.z = 0 then p
  else
    let zp := mulP p.z p.z
    let zq := mulP q.z q.z
    let u := mulP p.x zq
    let v := mulP q.x zp
    let s := mulP p.y (mulP q.z zq)
    let t := mulP q.y (mulP p.z zp)
    if u = v then (if s = t then p.double else Pt.inf)
    else
      let h := subP v u
      let r := subP t s
      let hh := mulP h h
      let hhh := mulP h hh
      let uh := mulP u hh
      let x := subP (subP (mulP r r) hhh) (2 * uh % prime)
      ⟨x, subP (mulP r (subP uh x)) (mulP s hhh), mulP h (mulP p.z q.z)⟩

/-- A point times the top k bits of a 256-bit scalar. -/
def Pt.mul (p : Pt) (e : Nat) : Nat → Pt
  | 0 => Pt.inf
  | k + 1 =>
    let r := (Pt.mul p e k).double
    if e.testBit (255 - k) then r.add p else r

/-- The affine coordinates of a point that is not at infinity. -/
def Pt.affine (p : Pt) : Nat × Nat :=
  let i := invMod prime p.z
  let ii := mulP i i
  (mulP p.x ii, mulP p.y (mulP i ii))

def basePt : Pt := ⟨baseX, baseY, 1⟩

/-- A public key is a point of the curve. -/
def onCurve (x y : Nat) : Bool :=
  decide (x < prime) && decide (y < prime) &&
    mulP y y == (mulP x (mulP x x) + (prime - mulP 3 x) + curveB) % prime

/-- The hash of a message as ECDSA takes it. -/
def hashNat (m : List Byte) : Nat := beNat (shaBytes m)

def verify (x y : Nat) (m : List Byte) (r s : Nat) : Bool :=
  if r = 0 ∨ order ≤ r ∨ s = 0 ∨ order ≤ s ∨ !onCurve x y then false
  else
    let w := invMod order s
    let p := (basePt.mul (hashNat m * w % order) 256).add ((Pt.mk x y 1).mul (r * w % order) 256)
    p.z != 0 && p.affine.1 % order == r

/-- r and s for a private scalar, a message and a nonce. -/
def signWith (d : Nat) (m : List Byte) (k : Nat) : Nat × Nat :=
  let r := (basePt.mul k 256).affine.1 % order
  (r, invMod order k * ((hashNat m + r * d) % order) % order)

/-! ### AES-256 and the TAG of CCM -/

/-- Multiplication by x in the field of AES. -/
def xtime (b : Nat) : Nat := if b < 128 then 2 * b else Nat.xor (2 * b - 256) 0x1b

/-- Multiplication in the field of AES, by the low k bits of the second factor. -/
def gmul : Nat → Nat → Nat → Nat
  | 0, _, _ => 0
  | k + 1, a, b => Nat.xor (if b % 2 = 1 then a else 0) (gmul k (xtime a) (b / 2))

/-- a to the power 254: the inverse, 0 for 0. -/
def ginv (a : Nat) : Nat :=
  let m := gmul 8
  let a2 := m a a
  let a4 := m a2 a2
  let a8 := m a4 a4
  let a16 := m a8 a8
  let a32 := m a16 a16
  let a64 := m a32 a32
  m (m (m a2 a4) (m a8 a16)) (m (m a32 a64) (m a64 a64))

def sbox (b : Nat) : Nat :=
  let i := ginv b
  let rot (k : Nat) : Nat := i * 2 ^ k % 256 + i / 2 ^ (8 - k)
  Nat.xor (Nat.xor (Nat.xor i (rot 1)) (Nat.xor (rot 2) (rot 3))) (Nat.xor (rot 4) 0x63)

def xorL (a b : List Nat) : List Nat := List.zipWith Nat.xor a b

/-- The key schedule, latest word first, k words more after n. -/
def keyExtend : Nat → Nat → List (List Nat) → List (List Nat)
  | 0, _, w => w
  | k + 1, n, w =>
    let t := w.getD 0 []
    let rot := t.drop 1 ++ t.take 1
    let rcon := (List.range (n / 8 - 1)).foldl (fun x _ => xtime x) 1
    let t := if n % 8 = 0 then xorL (rot.map sbox) [rcon, 0, 0, 0] else if n % 8 = 4 then t.map sbox else t
    keyExtend k (n + 1) (xorL (w.getD 7 []) t :: w)

/-- The 15 round keys of AES-256. -/
def roundKeys (key : List Nat) : List (List Nat) :=
  let w0 := ((List.range 8).map (fun i => (key.drop (4 * i)).take 4)).reverse
  let w := (keyExtend 52 8 w0).reverse
  (List.range 15).map (fun i => ((w.drop (4 * i)).take 4).flatten)

def shiftRows (s : List Nat) : List Nat := (List.range 16).map (fun i => s.getD ((i + 4 * (i % 4)) % 16) 0)

def mixColumn (c : List Nat) : List Nat :=
  (List.range 4).map (fun i =>
    let a (j : Nat) : Nat := c.getD ((i + j) % 4) 0
    Nat.xor (Nat.xor (xtime (a 0)) (Nat.xor (xtime (a 1)) (a 1))) (Nat.xor (a 2) (a 3)))

def mixColumns (s : List Nat) : List Nat :=
  (List.range 4).flatMap (fun i => mixColumn ((s.drop (4 * i)).take 4))

/-- One block under the round keys. -/
def aes (rks : List (List Nat)) (blk : List Nat) : List Nat :=
  let s := xorL blk (rks.getD 0 [])
  let s := ((rks.drop 1).take 13).foldl (fun s k => xorL (mixColumns (shiftRows (s.map sbox))) k) s
  xorL (shiftRows (s.map sbox)) (rks.getD 14 [])

/-- n blocks into a CBC-MAC. -/
def cbcMac (rks : List (List Nat)) : Nat → List Nat → List Nat → List Nat
  | 0, x, _ => x
  | n + 1, x, bs => cbcMac rks n (aes rks (xorL x (bs.take 16))) (bs.drop 16)

/-- The 8 bytes of the TAG over associated bytes and an empty message (R344). -/
def ccm (key nonce assoc : List Byte) : List Nat :=
  let rks := roundKeys (key.map BitVec.toNat)
  let nn := nonce.map BitVec.toNat
  let a := (beBytes 2 assoc.length ++ assoc).map BitVec.toNat
  let a := a ++ List.replicate ((16 - a.length % 16) % 16) 0
  let x := aes rks (0x59 :: nn ++ [0, 0])
  (xorL (cbcMac rks (a.length / 16) x a) (aes rks (1 :: nn ++ [0, 0]))).take 8

end Sys2Proof.Crypt

namespace Sys2Proof

/-- SHA-256 of a byte string (R40, R433, R437), its first byte lowest (R6). -/
@[irreducible] def Config.sha256 (m : List Byte) : BitVec 256 := BitVec.ofNat 256 (leNat (Crypt.shaBytes m))

/-- ECDSA P-256 verification with SHA-256 (R40, R438): public key x and then y, message, signature. -/
@[irreducible] def Config.ecdsaVerify (key : BitVec 512) (m : List Byte) (sig : BitVec 512) : Bool :=
  Crypt.verify (key.toNat % 2 ^ 256) (key.toNat / 2 ^ 256) m (sig.toNat / 2 ^ 256) (sig.toNat % 2 ^ 256)

/-- ECDSA P-256 signature (R445, R437): private scalar, message, and the number of the TRNG draw that gives the nonce. -/
@[irreducible] def Config.ecdsaSign (d : BitVec 256) (m : List Byte) (draw : Nat) : BitVec 512 :=
  let p := Crypt.signWith d.toNat m ((Config.trng draw).toNat % (Crypt.order - 1) + 1)
  BitVec.ofNat 512 (p.1 * 2 ^ 256 + p.2)

/-- The public key of a private scalar (R430): x and then y, each 32 bytes little-endian (R437). -/
@[irreducible] def Config.ecdsaPub (d : BitVec 256) : BitVec 512 :=
  let p := (Crypt.basePt.mul d.toNat 256).affine
  BitVec.ofNat 512 (p.2 * 2 ^ 256 + p.1)

/-- The 8-byte TAG of AES-CCM with AES-256 over associated bytes alone (R344): key bytes from the lowest, 13-byte nonce. -/
@[irreducible] def Config.ccmTag (key : BitVec 256) (nonce assoc : List Byte) : BitVec 64 :=
  BitVec.ofNat 64 (leNat ((Crypt.ccm (leBytes 32 key.toNat) nonce assoc).map (BitVec.ofNat 8)))

end Sys2Proof
end

