-- ==== Sys2Proof/Machine/Regs.lean ====
section
/-!
DEFINITION. Sys2Proof/Machine/Regs.lean: the memory-mapped registers of Table 33.1 (R518) as one enumeration, with the
address, the instances, the fields, the access codes (R2), the legal codes of each field of a register that can be
written (R5) and the reset values (Table 33.2) that the block chapters give them. Two-level instances (a drop of a bus, an entry of a core) are
numbered i = outer * inner count + inner (and so on for three levels).
-/

namespace Sys2Proof.Machine

/-- The access codes of Table 0.3 (R2). -/
inductive AccCode where
  | RO | RW | WO | W1S | W1C | RC
  deriving DecidableEq, Repr

/-- One constructor per register name of Table 33.1. -/
inductive Reg where
  | SYS_ID | SYS_START | SYS_CORE_ARM | SYS_MODE | SYS_MODE_REQ | SYS_MODE_RESULT
  | SYS_MODE_TIME_LO | SYS_MODE_TIME_HI | SYS_NV_STATE | SYS_NV_PC | SYS_NV_STATUS | SYS_NV_SP
  | SYS_NV_TIME_LO | SYS_NV_TIME_HI | SYS_NV_RELEASE | SYS_CHN_STATUS | SYS_CHN_EVAL | SYS_CHN_FLOOR
  | SYS_CHN_FLOOR_LEFT | SYS_CHN_KEYUSE | SYS_CHN_SIGSLOT | SYS_CHN_CNT | SYS_CHN_DEVPUB | SYS_TAMPER
  | SYS_CHN_DEVID_LO | SYS_CHN_DEVID_HI | SYS_CHN_RES | SYS_CHN_EPOCH | SYS_CHN_PROV_CMD | SYS_CHN_PROV_RES
  | SYS_CHN_PROV_KEY | CLK_CFG | CLK_LOCK_CFG | CLK_STATUS | CLK_EVENTS | TB_NOW_LO
  | TB_NOW_HI | TB_REF_RANK | TB_REF_CFG | TB_STATE | TB_ORIGIN_LO | TB_ORIGIN_HI
  | TB_DEBT_LO | TB_DEBT_HI | TB_FREQ | TB_SWITCHES | ANG_CFG | ANG_STATE
  | ANG_ANGLE_LO | ANG_ANGLE_HI | ANG_RATE_LO | ANG_RATE_HI | ANG_STAMP_LO | ANG_STAMP_HI
  | ANG_FREQ | ANG_EVT | ANG_STEP | ANG_CNT | ANG_SL_ANGLE_LO | ANG_SL_ANGLE_HI
  | ANG_SL_STAMP_LO | ANG_SL_STAMP_HI | ANG_QRY_CTRL | ANG_QRY_IN_LO | ANG_QRY_IN_HI | ANG_QRY_OUT_LO
  | ANG_QRY_OUT_HI | ANG_QRY_STATUS | TWL_SLOT_CFG | TWL_SLOT_ACT | TWL_SLOT_TGT_LO | TWL_SLOT_TGT_HI
  | TWL_SLOT_STEP_LO | TWL_SLOT_STEP_HI | TWL_SLOT_CTRL | TWL_SLOT_STATUS | TWL_PRED_LO | TWL_PRED_HI
  | TWL_CNT | TWL_LATE_LAST | EDG_CNV_CFG | EDG_CNV_LEAD | EDG_CNV_PROT | EDG_CNV_OFFSET
  | EDG_CNV_PERIOD_SH | EDG_CNV_COMMIT | EDG_CNV_CTRL | EDG_CNV_FORCE | EDG_CNV_STATUS | EDG_CNV_TRIPSRC
  | EDG_CNV_BOUND_LO | EDG_CNV_BOUND_HI | EDG_CNV_CNT | EDG_CNV_PERIODS | EDG_LEG_ON_SH | EDG_LEG_OFF_SH
  | EDG_LEG_MODE_SH | EDG_LEG_MAP | EDG_LOC_CFG | EDG_LOC_PROT | EDG_LOC_OFFSET | EDG_LOC_PERIOD_SH
  | EDG_LOC_ON_SH | EDG_LOC_OFF_SH | EDG_LOC_CTRL | EDG_LOC_FORCE | EDG_TRIP_CFG | EDG_TRIP_STATUS
  | EDG_BRK_CFG | EDG_BRK_STATUS | SEL_BUS_CFG | SEL_BUS_STATUS | SEL_BUS_EVT | SEL_BUS_LOAD
  | SEL_BUS_CNT | SEL_DROP_STATE | SEL_DROP_DELAY | SEL_DROP_CNT | SEL_DROP_SERIAL | BTR_ID
  | BTR_SERIAL | BTR_DRIVE_CFG | BTR_ADAPT_CFG | BTR_ADAPT_IMIN | BTR_PROT_CFG0 | BTR_PROT_CFG1
  | BTR_BRAKE_CFG0 | BTR_BRAKE_CFG1 | BTR_PROT_EVT | BTR_PROT_CNT | BTR_BRAKE_STAT | BTR_TRIP_STAMP
  | BTR_STATE | BTR_STRENGTH | BTR_TSW | BTR_NTC | BTR_CNT | BTR_AGE
  | BTR_CTRL | ADC_CORE_CFG | ADC_CORE_OFS | ADC_CORE_GAIN | ADC_SEQ_LEN | ADC_SEQ_E
  | ADC_CORE_CTRL | ADC_CORE_STATUS | ADC_FIFO_DATA | ADC_FIFO_STAMP | ADC_DMA_BASE | ADC_DMA_SIZE
  | ADC_DMA_WR | ADC_DMA_RD | ADC_CNT | ADC_SKEW | ADC_IN_OFS | ADC_IN_GAIN
  | ADC_IN_LAST | ADC_IN_STAMP | LSN_CFG | LSN_LATCHSLOT | LSN_OFS | LSN_GAIN
  | LSN_LAST | LSN_LAST_STAMP | LSN_LATCHED | LSN_LATCH_STAMP | LSN_GRP_STATUS | LSN_GRP_CNT
  | LSN_CTRL | CMP_CFG | CMP_ROUTE | CMP_DAC | CMP_RAMP | CMP_VIGIL
  | CMP_STATUS | CMP_TEST | CMP_CTRL | CMP_CAP_LO | CMP_CAP_HI | CMP_CNT
  | GRD_CFG | GRD_RATED | GRD_IMAX | GRD_VBAND | GRD_FBAND | GRD_RIDE
  | GRD_RATES | GRD_ROCOF | GRD_VSN | GRD_NPER | GRD_PED | GRD_RECON
  | GRD_CTRL | GRD_STATUS | GRD_ID_SP | GRD_IQ_SP | GRD_REF_THETA | GRD_REF_DQ
  | GRD_ISL_MEAS | GRD_ISL_RESP | GRD_CNT | GRD_RIDE_CNT | RIDE_W | MPPT_CFG
  | MPPT_VLIM | MPPT_SLIM | MPPT_TIM | MPPT_PDEAD | MPPT_DROP | MPPT_CTRL
  | MPPT_STATUS | MPPT_VREF | MPPT_VMPP | MPPT_PMAX | MPPT_CNT | AXS_CFG
  | AXS_RATE | AXS_JERK | AXS_ZDWELL | AXS_LIM_LO | AXS_LIM_HI | AXS_LIMFLAGS
  | AXS_VMAX | AXS_STOPRATE | AXS_STOPJERK | AXS_SP | AXS_CTRL | AXS_STATUS
  | AXS_OUT | AXS_ACC | AXS_STAMP | AXS_CNT | AUX_CFG | AUX_PERIOD
  | AUX_TGT | AUX_SS | AUX_LIM | AUX_B01 | AUX_B2 | AUX_CTRL
  | AUX_STATUS | AUX_MEAS | AUX_CNT | FAN_CFG | FAN_MIN | FAN_I
  | FAN_NTC01 | FAN_NTC23 | FAN_PT | FAN_DUTY_SP | FAN_CTRL | FAN_STATUS
  | FAN_MEAS | FAN_DUTY | FAN_CNT | LOOP_CFG | LOOP_INIT | LOOP_GAIN
  | LOOP_CODE | LOOP_CTRL | LOOP_STATUS | LOOP_MEAS | LOOP_CNT | MTR_PORT_CFG
  | MTR_VFS | MTR_IFS | MTR_THR | MTR_CHGAIN | MTR_CHPHASE | MTR_INDIFF
  | MTR_PORT_STATUS | MTR_PORT_REQ | MTR_PORT_CNT | MTR_RMS | MTR_E_LO | MTR_E_HI
  | MTR_ES_LO | MTR_ES_HI | MTR_SNAP_TIME_LO | MTR_SNAP_TIME_HI | MTR_PLS_CFG | MTR_PLS_EPP
  | MTR_PLS_C | MTR_PLS_WIDTH | MTR_PLS_STATUS | MTR_PLS_CNT | JLN_PHY_CFG | JLN_PHY_STATUS
  | JLN_RX_HDR | JLN_RX_SNR | JLN_RX_STAMP_LO | JLN_RX_STAMP_HI | JLN_BUSY_END_LO | JLN_BUSY_END_HI
  | JLN_PHY_CNT0 | JLN_PHY_CNT1 | JLN_PHY_CNT2 | JLN_W | JLN_NET_STATUS | JLN_NET_EVT
  | JLN_BCN_TIME_LO | JLN_BCN_TIME_HI | JLN_BCN_PHASE | JLN_BCN_FREQ | JLN_BCN_TOKEN | JLN_BCN_NEXT
  | JLN_SEQ | JLN_FCNT_LO | JLN_FCNT_HI | JLN_CTRL | JLN_TX_CFG | JLN_TX_LEN
  | JLN_TX_CTRL | JLN_TX_STATUS | JLN_RX_INFO | JLN_RX_SEQ | JLN_RX_REL | JLN_RX_TIME
  | JLN_CNT0 | JLN_CNT1 | JLN_CNT2 | JLN_CNT3 | JLN_TXBUF | JLN_RXBUF
  | IRQ_PEND | IRQ_PEND_SET | IRQ_PEND_CLR | IRQ_EN | IRQ_EN_SET | IRQ_EN_CLR
  | IRQ_ROUTE | IRQ_GRP_CFG | IRQ_GRP_STATUS | IRQ_DOORBELL | IRQ_TAKEN | IRQ_PIN_CFG
  | IRQ_DB_SENDER | MBX_DATA | MBX_HDR | MBX_STATUS | MBX_CTRL | MBX_CFG
  | MBX_STAMP_LO | MBX_STAMP_HI | MBX_CNT | MBX_STAGE | MBX_STAGE_STATUS | JNL_CFG
  | JNL_AXRESUME | JNL_STATUS | JNL_SEQ | JNL_MIR_SEQ | JNL_PIN_ACK | JNL_EVT
  | JNL_CNT | JNL_PIN_STATUS | JNL_OP | JNL_OP_PROG | UCR_CFG | UCR_PWRLOW
  | UCR_STATUS | UCR_TIME_LO | UCR_TIME_HI | UCR_ALARM_LO | UCR_ALARM_HI | UCR_MEAS
  | UCR_EVT | UCR_CNT | FLT_DEV | FLT_EVT | FLT_CNT | FLT_CNT2
  | FLT_LAST | FLT_CNV | FLT_CNV_CLR | FLT_STALE | FLT_OUT | FLT_SVC_CTRL
  | DBG_CORE_CTRL | DBG_CORE_STATUS | DBG_PC | DBG_BP | DBG_WP_ADDR | DBG_WP_CFG
  | DBG_GREG | DBG_STATUS | VST_STATUS | VST_IMG_SEQ | VST_IMG_INFO | VST_REC_COUNT
  | VST_REJ | VST_REJ_OFFSET | VST_REJ_TYPE | VST_OVL_LEN | VST_IMG_HASH
  deriving DecidableEq, Repr

/-- A field of a register as its chapter's field table gives it: its place, its reset value, its access code and the
least and greatest legal code (R5). -/
structure Fld where
  reg : Reg
  lo : Nat
  width : Nat
  reset : Nat
  acc : AccCode
  min : Nat
  max : Nat
  deriving DecidableEq, Repr

/-- The key of a field of instance i in the register bank. -/
def Fld.key (f : Fld) (i : Nat) : Nat := (i * 512 + f.reg.ctorIdx) * 32 + f.lo

/-- Where the instances of a register name lie: its base and up to three nested counts and strides. -/
structure RegInfo where
  base : Nat
  n1 : Nat
  s1 : Nat
  n2 : Nat
  s2 : Nat
  n3 : Nat
  s3 : Nat
  deriving DecidableEq, Repr

/-! Fields of the SYS block (Tables 30.2/3.3/3.4/3.5/20.7/25.8). -/
def Fld.SYS_ID_PART : Fld := ⟨.SYS_ID, 16, 16, 37462, .RO, 0, 65535⟩
def Fld.SYS_ID_VENDOR : Fld := ⟨.SYS_ID, 8, 8, 77, .RO, 0, 255⟩
def Fld.SYS_ID_MAJOR : Fld := ⟨.SYS_ID, 4, 4, 2, .RO, 0, 15⟩
def Fld.SYS_ID_MINOR : Fld := ⟨.SYS_ID, 0, 4, 1, .RO, 0, 15⟩
def Fld.SYS_START_STEP : Fld := ⟨.SYS_START, 0, 4, 0, .RO, 0, 15⟩
def Fld.SYS_START_RESUMED : Fld := ⟨.SYS_START, 4, 1, 0, .RO, 0, 1⟩
def Fld.SYS_START_TBRESTART : Fld := ⟨.SYS_START, 5, 1, 0, .RO, 0, 1⟩
def Fld.SYS_START_MISSING : Fld := ⟨.SYS_START, 16, 8, 0, .RO, 0, 255⟩
def Fld.SYS_CORE_ARM_ARM0 : Fld := ⟨.SYS_CORE_ARM, 0, 1, 0, .W1S, 0, 1⟩
def Fld.SYS_CORE_ARM_ARM1 : Fld := ⟨.SYS_CORE_ARM, 1, 1, 0, .W1S, 0, 1⟩
def Fld.SYS_MODE_CURRENT : Fld := ⟨.SYS_MODE, 0, 2, 0, .RO, 0, 3⟩
def Fld.SYS_MODE_PENDING : Fld := ⟨.SYS_MODE, 2, 2, 0, .RO, 0, 3⟩
def Fld.SYS_MODE_PEND : Fld := ⟨.SYS_MODE, 4, 1, 0, .RO, 0, 1⟩
def Fld.SYS_MODE_QP_FORCED : Fld := ⟨.SYS_MODE, 5, 1, 0, .RO, 0, 1⟩
def Fld.SYS_MODE_SRC : Fld := ⟨.SYS_MODE, 6, 2, 0, .RO, 0, 3⟩
def Fld.SYS_MODE_REQ_MODE : Fld := ⟨.SYS_MODE_REQ, 0, 2, 0, .WO, 0, 3⟩
def Fld.SYS_MODE_REQ_CANCEL : Fld := ⟨.SYS_MODE_REQ, 8, 1, 0, .WO, 0, 1⟩
def Fld.SYS_MODE_RESULT_RESULT : Fld := ⟨.SYS_MODE_RESULT, 0, 4, 0, .RO, 0, 15⟩
def Fld.SYS_MODE_RESULT_TICKET : Fld := ⟨.SYS_MODE_RESULT, 16, 16, 0, .RO, 0, 65535⟩
def Fld.SYS_MODE_TIME_LO_TIME : Fld := ⟨.SYS_MODE_TIME_LO, 0, 32, 0, .RO, 0, 4294967295⟩
def Fld.SYS_MODE_TIME_HI_TIME : Fld := ⟨.SYS_MODE_TIME_HI, 0, 32, 0, .RO, 0, 4294967295⟩
def Fld.SYS_NV_STATE_LOCKOUT : Fld := ⟨.SYS_NV_STATE, 0, 1, 0, .RO, 0, 1⟩
def Fld.SYS_NV_STATE_HALT : Fld := ⟨.SYS_NV_STATE, 1, 1, 0, .RO, 0, 1⟩
def Fld.SYS_NV_STATE_RELREF : Fld := ⟨.SYS_NV_STATE, 2, 1, 0, .RO, 0, 1⟩
def Fld.SYS_NV_STATE_VECTOR : Fld := ⟨.SYS_NV_STATE, 4, 4, 0, .RO, 0, 15⟩
def Fld.SYS_NV_STATE_CHECK : Fld := ⟨.SYS_NV_STATE, 8, 2, 0, .RO, 0, 3⟩
def Fld.SYS_NV_PC_PC : Fld := ⟨.SYS_NV_PC, 0, 32, 0, .RO, 0, 4294967295⟩
def Fld.SYS_NV_STATUS_STATUS : Fld := ⟨.SYS_NV_STATUS, 0, 32, 0, .RO, 0, 4294967295⟩
def Fld.SYS_NV_SP_SP : Fld := ⟨.SYS_NV_SP, 0, 32, 0, .RO, 0, 4294967295⟩
def Fld.SYS_NV_TIME_LO_TIME : Fld := ⟨.SYS_NV_TIME_LO, 0, 32, 0, .RO, 0, 4294967295⟩
def Fld.SYS_NV_TIME_HI_TIME : Fld := ⟨.SYS_NV_TIME_HI, 0, 32, 0, .RO, 0, 4294967295⟩
def Fld.SYS_NV_RELEASE_CORE0 : Fld := ⟨.SYS_NV_RELEASE, 0, 1, 0, .W1S, 0, 1⟩
def Fld.SYS_NV_RELEASE_CORE1 : Fld := ⟨.SYS_NV_RELEASE, 1, 1, 0, .W1S, 0, 1⟩
def Fld.SYS_CHN_STATUS_LOCK : Fld := ⟨.SYS_CHN_STATUS, 0, 1, 0, .RO, 0, 1⟩
def Fld.SYS_CHN_STATUS_KATFAIL : Fld := ⟨.SYS_CHN_STATUS, 1, 1, 0, .RO, 0, 1⟩
def Fld.SYS_CHN_STATUS_TRNGFAIL : Fld := ⟨.SYS_CHN_STATUS, 2, 1, 0, .RO, 0, 1⟩
def Fld.SYS_CHN_EVAL_UNLOCKED : Fld := ⟨.SYS_CHN_EVAL, 0, 1, 0, .RO, 0, 1⟩
def Fld.SYS_CHN_EVAL_TESTEN : Fld := ⟨.SYS_CHN_EVAL, 1, 1, 0, .RO, 0, 1⟩
def Fld.SYS_CHN_EVAL_DEVKEY : Fld := ⟨.SYS_CHN_EVAL, 2, 1, 0, .RO, 0, 1⟩
def Fld.SYS_CHN_EVAL_SEALPEND : Fld := ⟨.SYS_CHN_EVAL, 3, 1, 0, .RO, 0, 1⟩
def Fld.SYS_CHN_EVAL_EPOCHFULL : Fld := ⟨.SYS_CHN_EVAL, 4, 1, 0, .RO, 0, 1⟩
def Fld.SYS_CHN_FLOOR_FLOOR : Fld := ⟨.SYS_CHN_FLOOR, 0, 32, 0, .RO, 0, 4294967295⟩
def Fld.SYS_CHN_FLOOR_LEFT_LEFT : Fld := ⟨.SYS_CHN_FLOOR_LEFT, 0, 7, 0, .RO, 0, 127⟩
def Fld.SYS_CHN_KEYUSE_USE : Fld := ⟨.SYS_CHN_KEYUSE, 0, 32, 0, .RO, 0, 4294967295⟩
def Fld.SYS_CHN_SIGSLOT_SLOT : Fld := ⟨.SYS_CHN_SIGSLOT, 0, 4, 0, .RO, 0, 15⟩
def Fld.SYS_CHN_CNT_BADCMD : Fld := ⟨.SYS_CHN_CNT, 0, 16, 0, .RO, 0, 65535⟩
def Fld.SYS_CHN_DEVPUB_KEY : Fld := ⟨.SYS_CHN_DEVPUB, 0, 32, 0, .RO, 0, 4294967295⟩
def Fld.SYS_TAMPER_OPEN : Fld := ⟨.SYS_TAMPER, 0, 1, 0, .RO, 0, 1⟩
def Fld.SYS_TAMPER_PENDREC : Fld := ⟨.SYS_TAMPER, 1, 1, 0, .RO, 0, 1⟩
def Fld.SYS_TAMPER_COUNT : Fld := ⟨.SYS_TAMPER, 8, 8, 0, .RO, 0, 255⟩
def Fld.SYS_CHN_DEVID_LO_DEVID : Fld := ⟨.SYS_CHN_DEVID_LO, 0, 32, 0, .RO, 0, 4294967295⟩
def Fld.SYS_CHN_DEVID_HI_DEVID : Fld := ⟨.SYS_CHN_DEVID_HI, 0, 32, 0, .RO, 0, 4294967295⟩
def Fld.SYS_CHN_RES_RESULT : Fld := ⟨.SYS_CHN_RES, 0, 4, 0, .RO, 0, 15⟩
def Fld.SYS_CHN_RES_KIND : Fld := ⟨.SYS_CHN_RES, 8, 8, 0, .RO, 0, 255⟩
def Fld.SYS_CHN_RES_TICKET : Fld := ⟨.SYS_CHN_RES, 16, 16, 0, .RO, 0, 65535⟩
def Fld.SYS_CHN_EPOCH_EPOCH : Fld := ⟨.SYS_CHN_EPOCH, 0, 7, 0, .RO, 0, 127⟩
def Fld.SYS_CHN_EPOCH_EXHAUSTED : Fld := ⟨.SYS_CHN_EPOCH, 8, 1, 0, .RO, 0, 1⟩
def Fld.SYS_CHN_PROV_CMD_SLOT : Fld := ⟨.SYS_CHN_PROV_CMD, 0, 4, 0, .WO, 0, 15⟩
def Fld.SYS_CHN_PROV_CMD_USE : Fld := ⟨.SYS_CHN_PROV_CMD, 8, 8, 0, .WO, 0, 255⟩
def Fld.SYS_CHN_PROV_CMD_GO : Fld := ⟨.SYS_CHN_PROV_CMD, 16, 1, 0, .WO, 0, 1⟩
def Fld.SYS_CHN_PROV_CMD_LOCK : Fld := ⟨.SYS_CHN_PROV_CMD, 17, 1, 0, .WO, 0, 1⟩
def Fld.SYS_CHN_PROV_RES_PRES : Fld := ⟨.SYS_CHN_PROV_RES, 0, 2, 0, .RO, 0, 3⟩
def Fld.SYS_CHN_PROV_KEY_KEY : Fld := ⟨.SYS_CHN_PROV_KEY, 0, 32, 0, .WO, 0, 4294967295⟩
/-! Fields of the CLK block (Tables 4.8). -/
def Fld.CLK_CFG_PLLT_REFSTG : Fld := ⟨.CLK_CFG, 0, 2, 0, .RO, 0, 3⟩
def Fld.CLK_CFG_PLLS_REFSTG : Fld := ⟨.CLK_CFG, 2, 2, 0, .RO, 0, 3⟩
def Fld.CLK_CFG_SPREAD : Fld := ⟨.CLK_CFG, 4, 3, 0, .RO, 0, 7⟩
def Fld.CLK_LOCK_CFG_W : Fld := ⟨.CLK_LOCK_CFG, 0, 10, 0, .RO, 0, 1023⟩
def Fld.CLK_LOCK_CFG_N : Fld := ⟨.CLK_LOCK_CFG, 16, 13, 0, .RO, 0, 8191⟩
def Fld.CLK_STATUS_PLLT_LOCK : Fld := ⟨.CLK_STATUS, 0, 1, 0, .RO, 0, 1⟩
def Fld.CLK_STATUS_PLLS_OK : Fld := ⟨.CLK_STATUS, 1, 1, 0, .RO, 0, 1⟩
def Fld.CLK_STATUS_PLLT_ERR : Fld := ⟨.CLK_STATUS, 16, 16, 0, .RO, 0, 65535⟩
def Fld.CLK_EVENTS_PLLT_UNLOCK : Fld := ⟨.CLK_EVENTS, 0, 1, 0, .W1C, 0, 1⟩
def Fld.CLK_EVENTS_PLLS_FREQ : Fld := ⟨.CLK_EVENTS, 1, 1, 0, .W1C, 0, 1⟩
/-! Fields of the TB block (Tables 4.9). -/
def Fld.TB_NOW_LO_TIME : Fld := ⟨.TB_NOW_LO, 0, 32, 0, .RO, 0, 4294967295⟩
def Fld.TB_NOW_HI_TIME : Fld := ⟨.TB_NOW_HI, 0, 32, 0, .RO, 0, 4294967295⟩
def Fld.TB_REF_RANK_RANK0 : Fld := ⟨.TB_REF_RANK, 0, 3, 0, .RO, 0, 7⟩
def Fld.TB_REF_RANK_EN0 : Fld := ⟨.TB_REF_RANK, 3, 1, 0, .RO, 0, 1⟩
def Fld.TB_REF_RANK_RANK1 : Fld := ⟨.TB_REF_RANK, 4, 3, 0, .RO, 0, 7⟩
def Fld.TB_REF_RANK_EN1 : Fld := ⟨.TB_REF_RANK, 7, 1, 0, .RO, 0, 1⟩
def Fld.TB_REF_RANK_RANK2 : Fld := ⟨.TB_REF_RANK, 8, 3, 0, .RO, 0, 7⟩
def Fld.TB_REF_RANK_EN2 : Fld := ⟨.TB_REF_RANK, 11, 1, 0, .RO, 0, 1⟩
def Fld.TB_REF_RANK_RANK3 : Fld := ⟨.TB_REF_RANK, 12, 3, 0, .RO, 0, 7⟩
def Fld.TB_REF_RANK_EN3 : Fld := ⟨.TB_REF_RANK, 15, 1, 0, .RO, 0, 1⟩
def Fld.TB_REF_CFG_REFIN_FREQ : Fld := ⟨.TB_REF_CFG, 0, 1, 0, .RO, 0, 1⟩
def Fld.TB_STATE_STATE : Fld := ⟨.TB_STATE, 0, 2, 0, .RO, 0, 3⟩
def Fld.TB_STATE_FOLLOW : Fld := ⟨.TB_STATE, 4, 3, 0, .RO, 0, 7⟩
def Fld.TB_STATE_CAND : Fld := ⟨.TB_STATE, 8, 3, 0, .RO, 0, 7⟩
def Fld.TB_STATE_QBUSY : Fld := ⟨.TB_STATE, 11, 1, 0, .RO, 0, 1⟩
def Fld.TB_STATE_PRESENT : Fld := ⟨.TB_STATE, 16, 4, 1, .RO, 0, 15⟩
def Fld.TB_STATE_BARRED : Fld := ⟨.TB_STATE, 20, 4, 0, .RO, 0, 15⟩
def Fld.TB_ORIGIN_LO_ORIGIN : Fld := ⟨.TB_ORIGIN_LO, 0, 32, 0, .RO, 0, 4294967295⟩
def Fld.TB_ORIGIN_HI_ORIGIN : Fld := ⟨.TB_ORIGIN_HI, 0, 32, 0, .RO, 0, 4294967295⟩
def Fld.TB_DEBT_LO_DEBT : Fld := ⟨.TB_DEBT_LO, 0, 32, 0, .RO, 0, 4294967295⟩
def Fld.TB_DEBT_HI_DEBT : Fld := ⟨.TB_DEBT_HI, 0, 32, 0, .RO, 0, 4294967295⟩
def Fld.TB_FREQ_OFFSET : Fld := ⟨.TB_FREQ, 0, 32, 0, .RO, 0, 4294967295⟩
def Fld.TB_SWITCHES_COUNT : Fld := ⟨.TB_SWITCHES, 0, 16, 0, .RO, 0, 65535⟩
def Fld.TB_SWITCHES_QFAIL : Fld := ⟨.TB_SWITCHES, 16, 16, 0, .RO, 0, 65535⟩
/-! Fields of the ANG block (Tables 5.6/5.7). -/
def Fld.ANG_CFG_KIND : Fld := ⟨.ANG_CFG, 0, 3, 0, .RO, 0, 7⟩
def Fld.ANG_CFG_INVERT : Fld := ⟨.ANG_CFG, 3, 1, 0, .RO, 0, 1⟩
def Fld.ANG_CFG_LINEPOS : Fld := ⟨.ANG_CFG, 4, 1, 0, .RO, 0, 1⟩
def Fld.ANG_CFG_OWNER : Fld := ⟨.ANG_CFG, 5, 1, 0, .RO, 0, 1⟩
def Fld.ANG_CFG_SRC : Fld := ⟨.ANG_CFG, 8, 6, 0, .RO, 0, 63⟩
def Fld.ANG_CFG_GRIDSRC : Fld := ⟨.ANG_CFG, 14, 1, 0, .RO, 0, 1⟩
def Fld.ANG_CFG_BW : Fld := ⟨.ANG_CFG, 16, 10, 0, .RO, 0, 1023⟩
def Fld.ANG_STATE_STATE : Fld := ⟨.ANG_STATE, 0, 3, 0, .RO, 0, 7⟩
def Fld.ANG_STATE_DIR : Fld := ⟨.ANG_STATE, 4, 1, 0, .RO, 0, 1⟩
def Fld.ANG_STATE_UNREF : Fld := ⟨.ANG_STATE, 5, 1, 1, .RO, 0, 1⟩
def Fld.ANG_ANGLE_LO_ANGLE : Fld := ⟨.ANG_ANGLE_LO, 0, 32, 0, .RO, 0, 4294967295⟩
def Fld.ANG_ANGLE_HI_ANGLE : Fld := ⟨.ANG_ANGLE_HI, 0, 32, 0, .RO, 0, 4294967295⟩
def Fld.ANG_RATE_LO_RATE : Fld := ⟨.ANG_RATE_LO, 0, 32, 0, .RO, 0, 4294967295⟩
def Fld.ANG_RATE_HI_RATE : Fld := ⟨.ANG_RATE_HI, 0, 32, 0, .RO, 0, 4294967295⟩
def Fld.ANG_STAMP_LO_STAMP : Fld := ⟨.ANG_STAMP_LO, 0, 32, 0, .RO, 0, 4294967295⟩
def Fld.ANG_STAMP_HI_STAMP : Fld := ⟨.ANG_STAMP_HI, 0, 32, 0, .RO, 0, 4294967295⟩
def Fld.ANG_FREQ_FREQ : Fld := ⟨.ANG_FREQ, 0, 32, 0, .RO, 0, 4294967295⟩
def Fld.ANG_EVT_LOST : Fld := ⟨.ANG_EVT, 0, 1, 0, .W1C, 0, 1⟩
def Fld.ANG_EVT_REGAIN : Fld := ⟨.ANG_EVT, 1, 1, 0, .W1C, 0, 1⟩
def Fld.ANG_EVT_REV : Fld := ⟨.ANG_EVT, 2, 1, 0, .W1C, 0, 1⟩
def Fld.ANG_EVT_WRAP : Fld := ⟨.ANG_EVT, 3, 1, 0, .W1C, 0, 1⟩
def Fld.ANG_EVT_STEP : Fld := ⟨.ANG_EVT, 4, 1, 0, .W1C, 0, 1⟩
def Fld.ANG_EVT_OUTSIDE : Fld := ⟨.ANG_EVT, 5, 1, 0, .W1C, 0, 1⟩
def Fld.ANG_EVT_UNITCHG : Fld := ⟨.ANG_EVT, 6, 1, 0, .W1C, 0, 1⟩
def Fld.ANG_STEP_STEP : Fld := ⟨.ANG_STEP, 0, 32, 0, .RO, 0, 4294967295⟩
def Fld.ANG_CNT_WRAPS : Fld := ⟨.ANG_CNT, 0, 16, 0, .RO, 0, 65535⟩
def Fld.ANG_CNT_ILLEGAL : Fld := ⟨.ANG_CNT, 16, 16, 0, .RO, 0, 65535⟩
def Fld.ANG_SL_ANGLE_LO_ANGLE : Fld := ⟨.ANG_SL_ANGLE_LO, 0, 32, 0, .RW, 0, 4294967295⟩
def Fld.ANG_SL_ANGLE_HI_ANGLE : Fld := ⟨.ANG_SL_ANGLE_HI, 0, 32, 0, .RW, 0, 4294967295⟩
def Fld.ANG_SL_STAMP_LO_STAMP : Fld := ⟨.ANG_SL_STAMP_LO, 0, 32, 0, .RW, 0, 4294967295⟩
def Fld.ANG_SL_STAMP_HI_STAMP : Fld := ⟨.ANG_SL_STAMP_HI, 0, 32, 0, .RW, 0, 4294967295⟩
def Fld.ANG_QRY_CTRL_TRACKER : Fld := ⟨.ANG_QRY_CTRL, 0, 6, 0, .WO, 0, 63⟩
def Fld.ANG_QRY_CTRL_KIND : Fld := ⟨.ANG_QRY_CTRL, 8, 1, 0, .WO, 0, 1⟩
def Fld.ANG_QRY_IN_LO_IN : Fld := ⟨.ANG_QRY_IN_LO, 0, 32, 0, .RW, 0, 4294967295⟩
def Fld.ANG_QRY_IN_HI_IN : Fld := ⟨.ANG_QRY_IN_HI, 0, 32, 0, .RW, 0, 4294967295⟩
def Fld.ANG_QRY_OUT_LO_OUT : Fld := ⟨.ANG_QRY_OUT_LO, 0, 32, 0, .RO, 0, 4294967295⟩
def Fld.ANG_QRY_OUT_HI_OUT : Fld := ⟨.ANG_QRY_OUT_HI, 0, 32, 0, .RO, 0, 4294967295⟩
def Fld.ANG_QRY_STATUS_READY : Fld := ⟨.ANG_QRY_STATUS, 0, 1, 0, .RO, 0, 1⟩
def Fld.ANG_QRY_STATUS_NEVER : Fld := ⟨.ANG_QRY_STATUS, 1, 1, 0, .RO, 0, 1⟩
def Fld.ANG_QRY_STATUS_LOST : Fld := ⟨.ANG_QRY_STATUS, 2, 1, 0, .RO, 0, 1⟩
def Fld.ANG_QRY_STATUS_FAR : Fld := ⟨.ANG_QRY_STATUS, 3, 1, 0, .RO, 0, 1⟩
/-! Fields of the TWL block (Tables 6.3/6.4). -/
def Fld.TWL_SLOT_CFG_TRACKER : Fld := ⟨.TWL_SLOT_CFG, 0, 7, 0, .RO, 0, 127⟩
def Fld.TWL_SLOT_CFG_DIR : Fld := ⟨.TWL_SLOT_CFG, 8, 2, 0, .RO, 0, 3⟩
def Fld.TWL_SLOT_CFG_MATCH : Fld := ⟨.TWL_SLOT_CFG, 10, 1, 0, .RO, 0, 1⟩
def Fld.TWL_SLOT_CFG_OWNER : Fld := ⟨.TWL_SLOT_CFG, 12, 2, 0, .RO, 0, 3⟩
def Fld.TWL_SLOT_CFG_EVLINE : Fld := ⟨.TWL_SLOT_CFG, 16, 7, 0, .RO, 0, 127⟩
def Fld.TWL_SLOT_CFG_AUTOARM : Fld := ⟨.TWL_SLOT_CFG, 24, 1, 0, .RO, 0, 1⟩
def Fld.TWL_SLOT_ACT_KIND : Fld := ⟨.TWL_SLOT_ACT, 0, 4, 0, .RO, 0, 15⟩
def Fld.TWL_SLOT_ACT_ARG : Fld := ⟨.TWL_SLOT_ACT, 8, 20, 0, .RO, 0, 1048575⟩
def Fld.TWL_SLOT_TGT_LO_TARGET : Fld := ⟨.TWL_SLOT_TGT_LO, 0, 32, 0, .RW, 0, 4294967295⟩
def Fld.TWL_SLOT_TGT_HI_TARGET : Fld := ⟨.TWL_SLOT_TGT_HI, 0, 32, 0, .RW, 0, 4294967295⟩
def Fld.TWL_SLOT_STEP_LO_STEP : Fld := ⟨.TWL_SLOT_STEP_LO, 0, 32, 0, .RW, 0, 4294967295⟩
def Fld.TWL_SLOT_STEP_HI_STEP : Fld := ⟨.TWL_SLOT_STEP_HI, 0, 32, 0, .RW, 0, 4294967295⟩
def Fld.TWL_SLOT_CTRL_ARM : Fld := ⟨.TWL_SLOT_CTRL, 0, 1, 0, .WO, 0, 1⟩
def Fld.TWL_SLOT_CTRL_DISARM : Fld := ⟨.TWL_SLOT_CTRL, 1, 1, 0, .WO, 0, 1⟩
def Fld.TWL_SLOT_STATUS_STATE : Fld := ⟨.TWL_SLOT_STATUS, 0, 3, 0, .RO, 0, 4⟩
def Fld.TWL_SLOT_STATUS_LATE : Fld := ⟨.TWL_SLOT_STATUS, 4, 1, 0, .W1C, 0, 1⟩
def Fld.TWL_SLOT_STATUS_WITHDRAWN : Fld := ⟨.TWL_SLOT_STATUS, 5, 1, 0, .W1C, 0, 1⟩
def Fld.TWL_SLOT_STATUS_MISSED : Fld := ⟨.TWL_SLOT_STATUS, 6, 1, 0, .W1C, 0, 1⟩
def Fld.TWL_SLOT_STATUS_UNIT : Fld := ⟨.TWL_SLOT_STATUS, 7, 1, 0, .W1C, 0, 1⟩
def Fld.TWL_SLOT_STATUS_SKIP : Fld := ⟨.TWL_SLOT_STATUS, 8, 1, 0, .W1C, 0, 1⟩
def Fld.TWL_SLOT_STATUS_SKIPS : Fld := ⟨.TWL_SLOT_STATUS, 16, 16, 0, .RO, 0, 65535⟩
def Fld.TWL_PRED_LO_TIME : Fld := ⟨.TWL_PRED_LO, 0, 32, 4294967295, .RO, 0, 4294967295⟩
def Fld.TWL_PRED_HI_TIME : Fld := ⟨.TWL_PRED_HI, 0, 32, 4294967295, .RO, 0, 4294967295⟩
def Fld.TWL_CNT_LATE : Fld := ⟨.TWL_CNT, 0, 16, 0, .RO, 0, 65535⟩
def Fld.TWL_CNT_MISSED : Fld := ⟨.TWL_CNT, 16, 16, 0, .RO, 0, 65535⟩
def Fld.TWL_LATE_LAST_SLOT : Fld := ⟨.TWL_LATE_LAST, 0, 10, 0, .RO, 0, 1023⟩
def Fld.TWL_LATE_LAST_CYCLES : Fld := ⟨.TWL_LATE_LAST, 16, 16, 0, .RO, 0, 65535⟩
/-! Fields of the EDG block (Tables 7.5/7.6/10.5). -/
def Fld.EDG_CNV_CFG_SYNC : Fld := ⟨.EDG_CNV_CFG, 0, 2, 0, .RO, 0, 3⟩
def Fld.EDG_CNV_CFG_SAFE : Fld := ⟨.EDG_CNV_CFG, 2, 2, 0, .RO, 0, 3⟩
def Fld.EDG_CNV_CFG_OWNER : Fld := ⟨.EDG_CNV_CFG, 4, 1, 0, .RO, 0, 1⟩
def Fld.EDG_CNV_CFG_LEADER : Fld := ⟨.EDG_CNV_CFG, 8, 8, 0, .RO, 0, 255⟩
def Fld.EDG_CNV_LEAD_LEAD : Fld := ⟨.EDG_CNV_LEAD, 0, 25, 0, .RO, 0, 33554431⟩
def Fld.EDG_CNV_PROT_TRIPMASK : Fld := ⟨.EDG_CNV_PROT, 0, 16, 0, .RO, 0, 65535⟩
def Fld.EDG_CNV_PROT_MINPULSE : Fld := ⟨.EDG_CNV_PROT, 16, 16, 0, .RO, 0, 65535⟩
def Fld.EDG_CNV_OFFSET_OFFSET : Fld := ⟨.EDG_CNV_OFFSET, 0, 16, 0, .RO, 0, 65535⟩
def Fld.EDG_CNV_PERIOD_SH_PERIOD : Fld := ⟨.EDG_CNV_PERIOD_SH, 0, 25, 0, .RW, 0, 33554431⟩
def Fld.EDG_CNV_COMMIT_GO : Fld := ⟨.EDG_CNV_COMMIT, 0, 1, 0, .WO, 0, 1⟩
def Fld.EDG_CNV_CTRL_ENABLE : Fld := ⟨.EDG_CNV_CTRL, 0, 1, 0, .WO, 0, 1⟩
def Fld.EDG_CNV_CTRL_DISABLE : Fld := ⟨.EDG_CNV_CTRL, 1, 1, 0, .WO, 0, 1⟩
def Fld.EDG_CNV_CTRL_IMMEDIATE : Fld := ⟨.EDG_CNV_CTRL, 2, 1, 0, .WO, 0, 1⟩
def Fld.EDG_CNV_CTRL_CLRTRIP : Fld := ⟨.EDG_CNV_CTRL, 3, 1, 0, .WO, 0, 1⟩
def Fld.EDG_CNV_FORCE_FORCE : Fld := ⟨.EDG_CNV_FORCE, 0, 2, 0, .RW, 0, 2⟩
def Fld.EDG_CNV_STATUS_STATE : Fld := ⟨.EDG_CNV_STATUS, 0, 3, 0, .RO, 0, 5⟩
def Fld.EDG_CNV_STATUS_FORCED : Fld := ⟨.EDG_CNV_STATUS, 4, 1, 0, .RO, 0, 1⟩
def Fld.EDG_CNV_STATUS_ORPHAN : Fld := ⟨.EDG_CNV_STATUS, 5, 1, 0, .RO, 0, 1⟩
def Fld.EDG_CNV_STATUS_SUPERSEDED : Fld := ⟨.EDG_CNV_STATUS, 8, 1, 0, .W1C, 0, 1⟩
def Fld.EDG_CNV_STATUS_REFUSED : Fld := ⟨.EDG_CNV_STATUS, 9, 1, 0, .W1C, 0, 1⟩
def Fld.EDG_CNV_STATUS_CLAMP : Fld := ⟨.EDG_CNV_STATUS, 10, 1, 0, .W1C, 0, 1⟩
def Fld.EDG_CNV_STATUS_REQOVL : Fld := ⟨.EDG_CNV_STATUS, 11, 1, 0, .W1C, 0, 1⟩
def Fld.EDG_CNV_STATUS_TRIP : Fld := ⟨.EDG_CNV_STATUS, 12, 1, 0, .W1C, 0, 1⟩
def Fld.EDG_CNV_TRIPSRC_TRIPS : Fld := ⟨.EDG_CNV_TRIPSRC, 0, 16, 0, .RO, 0, 65535⟩
def Fld.EDG_CNV_BOUND_LO_BOUND : Fld := ⟨.EDG_CNV_BOUND_LO, 0, 32, 0, .RO, 0, 4294967295⟩
def Fld.EDG_CNV_BOUND_HI_BOUND : Fld := ⟨.EDG_CNV_BOUND_HI, 0, 32, 0, .RO, 0, 4294967295⟩
def Fld.EDG_CNV_CNT_SUPERSEDED : Fld := ⟨.EDG_CNV_CNT, 0, 16, 0, .RO, 0, 65535⟩
def Fld.EDG_CNV_CNT_REFUSED : Fld := ⟨.EDG_CNV_CNT, 16, 16, 0, .RO, 0, 65535⟩
def Fld.EDG_CNV_PERIODS_COUNT : Fld := ⟨.EDG_CNV_PERIODS, 0, 32, 0, .RO, 0, 4294967295⟩
def Fld.EDG_LEG_ON_SH_OFFSET : Fld := ⟨.EDG_LEG_ON_SH, 0, 25, 0, .RW, 0, 33554431⟩
def Fld.EDG_LEG_OFF_SH_OFFSET : Fld := ⟨.EDG_LEG_OFF_SH, 0, 25, 0, .RW, 0, 33554431⟩
def Fld.EDG_LEG_MODE_SH_MODE : Fld := ⟨.EDG_LEG_MODE_SH, 0, 2, 2, .RW, 0, 3⟩
def Fld.EDG_LEG_MAP_CONV : Fld := ⟨.EDG_LEG_MAP, 0, 8, 0, .RO, 0, 255⟩
def Fld.EDG_LEG_MAP_MEMBER : Fld := ⟨.EDG_LEG_MAP, 8, 1, 0, .RO, 0, 1⟩
def Fld.EDG_LOC_CFG_SYNC : Fld := ⟨.EDG_LOC_CFG, 0, 2, 0, .RO, 0, 3⟩
def Fld.EDG_LOC_CFG_SAFE : Fld := ⟨.EDG_LOC_CFG, 2, 2, 0, .RO, 0, 3⟩
def Fld.EDG_LOC_CFG_OWNER : Fld := ⟨.EDG_LOC_CFG, 4, 1, 0, .RO, 0, 1⟩
def Fld.EDG_LOC_CFG_FORCE_LOCK : Fld := ⟨.EDG_LOC_CFG, 5, 1, 0, .RO, 0, 1⟩
def Fld.EDG_LOC_CFG_POL : Fld := ⟨.EDG_LOC_CFG, 6, 1, 0, .RO, 0, 1⟩
def Fld.EDG_LOC_CFG_LEADER : Fld := ⟨.EDG_LOC_CFG, 8, 8, 0, .RO, 0, 255⟩
def Fld.EDG_LOC_PROT_TRIPMASK : Fld := ⟨.EDG_LOC_PROT, 0, 16, 0, .RO, 0, 65535⟩
def Fld.EDG_LOC_PROT_MINPULSE : Fld := ⟨.EDG_LOC_PROT, 16, 16, 0, .RO, 0, 65535⟩
def Fld.EDG_LOC_OFFSET_OFFSET : Fld := ⟨.EDG_LOC_OFFSET, 0, 16, 0, .RO, 0, 65535⟩
def Fld.EDG_LOC_PERIOD_SH_PERIOD : Fld := ⟨.EDG_LOC_PERIOD_SH, 0, 25, 0, .RW, 0, 33554431⟩
def Fld.EDG_LOC_ON_SH_OFFSET : Fld := ⟨.EDG_LOC_ON_SH, 0, 25, 0, .RW, 0, 33554431⟩
def Fld.EDG_LOC_OFF_SH_OFFSET : Fld := ⟨.EDG_LOC_OFF_SH, 0, 25, 0, .RW, 0, 33554431⟩
def Fld.EDG_LOC_CTRL_ENABLE : Fld := ⟨.EDG_LOC_CTRL, 0, 1, 0, .WO, 0, 1⟩
def Fld.EDG_LOC_CTRL_DISABLE : Fld := ⟨.EDG_LOC_CTRL, 1, 1, 0, .WO, 0, 1⟩
def Fld.EDG_LOC_CTRL_IMMEDIATE : Fld := ⟨.EDG_LOC_CTRL, 2, 1, 0, .WO, 0, 1⟩
def Fld.EDG_LOC_CTRL_CLRTRIP : Fld := ⟨.EDG_LOC_CTRL, 3, 1, 0, .WO, 0, 1⟩
def Fld.EDG_LOC_CTRL_COMMIT : Fld := ⟨.EDG_LOC_CTRL, 4, 1, 0, .WO, 0, 1⟩
def Fld.EDG_LOC_FORCE_FORCE : Fld := ⟨.EDG_LOC_FORCE, 0, 2, 0, .RW, 0, 2⟩
def Fld.EDG_TRIP_CFG_MODE : Fld := ⟨.EDG_TRIP_CFG, 0, 1, 0, .RO, 0, 1⟩
def Fld.EDG_TRIP_CFG_POL : Fld := ⟨.EDG_TRIP_CFG, 1, 1, 0, .RO, 0, 1⟩
def Fld.EDG_TRIP_CFG_FILT : Fld := ⟨.EDG_TRIP_CFG, 2, 8, 0, .RO, 0, 255⟩
def Fld.EDG_TRIP_CFG_WIN : Fld := ⟨.EDG_TRIP_CFG, 10, 5, 0, .RO, 0, 31⟩
def Fld.EDG_TRIP_CFG_WINPOL : Fld := ⟨.EDG_TRIP_CFG, 15, 1, 0, .RO, 0, 1⟩
def Fld.EDG_TRIP_STATUS_LEVEL : Fld := ⟨.EDG_TRIP_STATUS, 0, 1, 0, .RO, 0, 1⟩
def Fld.EDG_TRIP_STATUS_HIT : Fld := ⟨.EDG_TRIP_STATUS, 1, 1, 0, .W1C, 0, 1⟩
def Fld.EDG_TRIP_STATUS_COUNT : Fld := ⟨.EDG_TRIP_STATUS, 16, 16, 0, .RO, 0, 65535⟩
def Fld.EDG_BRK_CFG_GROUP : Fld := ⟨.EDG_BRK_CFG, 0, 4, 0, .RO, 0, 15⟩
def Fld.EDG_BRK_CFG_CMP : Fld := ⟨.EDG_BRK_CFG, 8, 5, 0, .RO, 0, 31⟩
def Fld.EDG_BRK_CFG_EN : Fld := ⟨.EDG_BRK_CFG, 16, 1, 0, .RO, 0, 1⟩
def Fld.EDG_BRK_STATUS_BRAKING : Fld := ⟨.EDG_BRK_STATUS, 0, 1, 0, .RO, 0, 1⟩
def Fld.EDG_BRK_STATUS_REGEN : Fld := ⟨.EDG_BRK_STATUS, 1, 1, 0, .RO, 0, 1⟩
def Fld.EDG_BRK_STATUS_SAT : Fld := ⟨.EDG_BRK_STATUS, 2, 1, 0, .W1C, 0, 1⟩
def Fld.EDG_BRK_STATUS_COUNT : Fld := ⟨.EDG_BRK_STATUS, 16, 16, 0, .RO, 0, 65535⟩
/-! Fields of the SEL block (Tables 8.7/8.8). -/
def Fld.SEL_BUS_CFG_EN : Fld := ⟨.SEL_BUS_CFG, 0, 1, 0, .RO, 0, 1⟩
def Fld.SEL_BUS_CFG_STARVE_HOLD : Fld := ⟨.SEL_BUS_CFG, 16, 16, 0, .RO, 0, 65535⟩
def Fld.SEL_BUS_STATUS_STATE : Fld := ⟨.SEL_BUS_STATUS, 0, 2, 0, .RO, 0, 3⟩
def Fld.SEL_BUS_STATUS_S15OP : Fld := ⟨.SEL_BUS_STATUS, 2, 2, 0, .RO, 0, 3⟩
def Fld.SEL_BUS_STATUS_S15DROP : Fld := ⟨.SEL_BUS_STATUS, 4, 4, 0, .RO, 0, 15⟩
def Fld.SEL_BUS_STATUS_ADMITTED : Fld := ⟨.SEL_BUS_STATUS, 16, 16, 0, .RO, 0, 65535⟩
def Fld.SEL_BUS_EVT_DROPLOST : Fld := ⟨.SEL_BUS_EVT, 0, 1, 0, .W1C, 0, 1⟩
def Fld.SEL_BUS_EVT_PATLATE : Fld := ⟨.SEL_BUS_EVT, 1, 1, 0, .W1C, 0, 1⟩
def Fld.SEL_BUS_EVT_CLASH : Fld := ⟨.SEL_BUS_EVT, 2, 1, 0, .W1C, 0, 1⟩
def Fld.SEL_BUS_EVT_DRIFT : Fld := ⟨.SEL_BUS_EVT, 3, 1, 0, .W1C, 0, 1⟩
def Fld.SEL_BUS_EVT_ADMIT : Fld := ⟨.SEL_BUS_EVT, 4, 1, 0, .W1C, 0, 1⟩
def Fld.SEL_BUS_EVT_NEWID : Fld := ⟨.SEL_BUS_EVT, 5, 1, 0, .W1C, 0, 1⟩
def Fld.SEL_BUS_LOAD_PEAKBITS : Fld := ⟨.SEL_BUS_LOAD, 0, 10, 0, .RO, 0, 1023⟩
def Fld.SEL_BUS_CNT_PATLATE : Fld := ⟨.SEL_BUS_CNT, 0, 16, 0, .RO, 0, 65535⟩
def Fld.SEL_BUS_CNT_CLASH : Fld := ⟨.SEL_BUS_CNT, 16, 16, 0, .RO, 0, 65535⟩
def Fld.SEL_DROP_STATE_STATE : Fld := ⟨.SEL_DROP_STATE, 0, 3, 0, .RO, 0, 7⟩
def Fld.SEL_DROP_STATE_LISTED : Fld := ⟨.SEL_DROP_STATE, 3, 1, 0, .RO, 0, 1⟩
def Fld.SEL_DROP_DELAY_D : Fld := ⟨.SEL_DROP_DELAY, 0, 16, 0, .RO, 0, 65535⟩
def Fld.SEL_DROP_CNT_UPCRC : Fld := ⟨.SEL_DROP_CNT, 0, 16, 0, .RO, 0, 65535⟩
def Fld.SEL_DROP_CNT_MISS : Fld := ⟨.SEL_DROP_CNT, 16, 16, 0, .RO, 0, 65535⟩
def Fld.SEL_DROP_SERIAL_SERIAL : Fld := ⟨.SEL_DROP_SERIAL, 0, 24, 0, .RO, 0, 16777215⟩
/-! Fields of the BTR block (Tables 9.5/10.4). -/
def Fld.BTR_ID_PART : Fld := ⟨.BTR_ID, 0, 16, 0, .RO, 0, 65535⟩
def Fld.BTR_SERIAL_SERIAL : Fld := ⟨.BTR_SERIAL, 0, 24, 0, .RO, 0, 16777215⟩
def Fld.BTR_DRIVE_CFG_MODE : Fld := ⟨.BTR_DRIVE_CFG, 0, 1, 0, .RO, 0, 1⟩
def Fld.BTR_DRIVE_CFG_CPEN : Fld := ⟨.BTR_DRIVE_CFG, 1, 1, 0, .RO, 0, 1⟩
def Fld.BTR_DRIVE_CFG_BRAKE : Fld := ⟨.BTR_DRIVE_CFG, 2, 1, 0, .RO, 0, 1⟩
def Fld.BTR_DRIVE_CFG_SAFE : Fld := ⟨.BTR_DRIVE_CFG, 4, 2, 0, .RO, 0, 3⟩
def Fld.BTR_DRIVE_CFG_DT : Fld := ⟨.BTR_DRIVE_CFG, 16, 12, 0, .RO, 0, 4095⟩
def Fld.BTR_ADAPT_CFG_TARGET : Fld := ⟨.BTR_ADAPT_CFG, 0, 8, 0, .RO, 0, 255⟩
def Fld.BTR_ADAPT_CFG_TOL : Fld := ⟨.BTR_ADAPT_CFG, 8, 4, 0, .RO, 0, 15⟩
def Fld.BTR_ADAPT_CFG_SMIN : Fld := ⟨.BTR_ADAPT_CFG, 12, 4, 0, .RO, 0, 15⟩
def Fld.BTR_ADAPT_CFG_SMAX : Fld := ⟨.BTR_ADAPT_CFG, 16, 4, 0, .RO, 0, 15⟩
def Fld.BTR_ADAPT_CFG_SINIT : Fld := ⟨.BTR_ADAPT_CFG, 20, 4, 0, .RO, 0, 15⟩
def Fld.BTR_ADAPT_CFG_ADAPT : Fld := ⟨.BTR_ADAPT_CFG, 24, 1, 0, .RO, 0, 1⟩
def Fld.BTR_ADAPT_IMIN_IMIN : Fld := ⟨.BTR_ADAPT_IMIN, 0, 17, 0, .RO, 0, 131071⟩
def Fld.BTR_PROT_CFG0_DSTH : Fld := ⟨.BTR_PROT_CFG0, 0, 2, 0, .RO, 0, 3⟩
def Fld.BTR_PROT_CFG0_OCTH : Fld := ⟨.BTR_PROT_CFG0, 16, 12, 0, .RO, 0, 4095⟩
def Fld.BTR_PROT_CFG1_OVTH : Fld := ⟨.BTR_PROT_CFG1, 0, 12, 0, .RO, 0, 4095⟩
def Fld.BTR_PROT_CFG1_OTTH : Fld := ⟨.BTR_PROT_CFG1, 16, 12, 0, .RO, 0, 4095⟩
def Fld.BTR_BRAKE_CFG0_PON : Fld := ⟨.BTR_BRAKE_CFG0, 0, 12, 0, .RO, 0, 4095⟩
def Fld.BTR_BRAKE_CFG0_POFF : Fld := ⟨.BTR_BRAKE_CFG0, 16, 12, 0, .RO, 0, 4095⟩
def Fld.BTR_BRAKE_CFG1_RON : Fld := ⟨.BTR_BRAKE_CFG1, 0, 12, 0, .RO, 0, 4095⟩
def Fld.BTR_BRAKE_CFG1_REN : Fld := ⟨.BTR_BRAKE_CFG1, 15, 1, 0, .RO, 0, 1⟩
def Fld.BTR_BRAKE_CFG1_ROFF : Fld := ⟨.BTR_BRAKE_CFG1, 16, 12, 0, .RO, 0, 4095⟩
def Fld.BTR_PROT_EVT_OC : Fld := ⟨.BTR_PROT_EVT, 0, 1, 0, .RO, 0, 1⟩
def Fld.BTR_PROT_EVT_DESATH : Fld := ⟨.BTR_PROT_EVT, 1, 1, 0, .RO, 0, 1⟩
def Fld.BTR_PROT_EVT_DESATL : Fld := ⟨.BTR_PROT_EVT, 2, 1, 0, .RO, 0, 1⟩
def Fld.BTR_PROT_EVT_OVDC : Fld := ⟨.BTR_PROT_EVT, 3, 1, 0, .RO, 0, 1⟩
def Fld.BTR_PROT_EVT_OT : Fld := ⟨.BTR_PROT_EVT, 4, 1, 0, .RO, 0, 1⟩
def Fld.BTR_PROT_EVT_GATESTUCK : Fld := ⟨.BTR_PROT_EVT, 5, 1, 0, .RO, 0, 1⟩
def Fld.BTR_PROT_EVT_CLRREJ : Fld := ⟨.BTR_PROT_EVT, 6, 1, 0, .RO, 0, 1⟩
def Fld.BTR_PROT_CNT_TRIPS : Fld := ⟨.BTR_PROT_CNT, 0, 16, 0, .RO, 0, 65535⟩
def Fld.BTR_PROT_CNT_BRKSW : Fld := ⟨.BTR_PROT_CNT, 16, 16, 0, .RO, 0, 65535⟩
def Fld.BTR_BRAKE_STAT_BRAKING : Fld := ⟨.BTR_BRAKE_STAT, 0, 1, 0, .RO, 0, 1⟩
def Fld.BTR_BRAKE_STAT_REGEN : Fld := ⟨.BTR_BRAKE_STAT, 1, 1, 0, .RO, 0, 1⟩
def Fld.BTR_BRAKE_STAT_SAT : Fld := ⟨.BTR_BRAKE_STAT, 2, 1, 0, .RO, 0, 1⟩
def Fld.BTR_TRIP_STAMP_TIME : Fld := ⟨.BTR_TRIP_STAMP, 0, 32, 0, .RO, 0, 4294967295⟩
def Fld.BTR_STATE_STATE : Fld := ⟨.BTR_STATE, 0, 3, 0, .RO, 0, 7⟩
def Fld.BTR_STATE_UVP : Fld := ⟨.BTR_STATE, 8, 1, 0, .RO, 0, 1⟩
def Fld.BTR_STATE_UVL : Fld := ⟨.BTR_STATE, 9, 1, 0, .RO, 0, 1⟩
def Fld.BTR_STATE_UVH : Fld := ⟨.BTR_STATE, 10, 1, 0, .RO, 0, 1⟩
def Fld.BTR_STATE_CAUSE : Fld := ⟨.BTR_STATE, 12, 4, 0, .RO, 0, 15⟩
def Fld.BTR_STRENGTH_HON : Fld := ⟨.BTR_STRENGTH, 0, 4, 0, .RO, 0, 15⟩
def Fld.BTR_STRENGTH_HOFF : Fld := ⟨.BTR_STRENGTH, 4, 4, 0, .RO, 0, 15⟩
def Fld.BTR_STRENGTH_LON : Fld := ⟨.BTR_STRENGTH, 8, 4, 0, .RO, 0, 15⟩
def Fld.BTR_STRENGTH_LOFF : Fld := ⟨.BTR_STRENGTH, 12, 4, 0, .RO, 0, 15⟩
def Fld.BTR_TSW_RISE : Fld := ⟨.BTR_TSW, 0, 16, 0, .RO, 0, 65535⟩
def Fld.BTR_TSW_FALL : Fld := ⟨.BTR_TSW, 16, 16, 0, .RO, 0, 65535⟩
def Fld.BTR_NTC_CODE : Fld := ⟨.BTR_NTC, 0, 12, 0, .RO, 0, 4095⟩
def Fld.BTR_CNT_NOMEAS : Fld := ⟨.BTR_CNT, 0, 16, 0, .RO, 0, 65535⟩
def Fld.BTR_CNT_ADAPTLIM : Fld := ⟨.BTR_CNT, 16, 16, 0, .RO, 0, 65535⟩
def Fld.BTR_AGE_AGE : Fld := ⟨.BTR_AGE, 0, 16, 0, .RO, 0, 65535⟩
def Fld.BTR_CTRL_CLEAR : Fld := ⟨.BTR_CTRL, 0, 1, 0, .WO, 0, 1⟩
/-! Fields of the ADC block (Tables 11.4). -/
def Fld.ADC_CORE_CFG_TRIG : Fld := ⟨.ADC_CORE_CFG, 0, 3, 0, .RO, 0, 7⟩
def Fld.ADC_CORE_CFG_EDGE : Fld := ⟨.ADC_CORE_CFG, 4, 2, 0, .RO, 0, 3⟩
def Fld.ADC_CORE_CFG_OWNER : Fld := ⟨.ADC_CORE_CFG, 8, 1, 0, .RO, 0, 1⟩
def Fld.ADC_CORE_CFG_INTLV : Fld := ⟨.ADC_CORE_CFG, 9, 1, 0, .RO, 0, 1⟩
def Fld.ADC_CORE_CFG_DMA : Fld := ⟨.ADC_CORE_CFG, 10, 1, 0, .RO, 0, 1⟩
def Fld.ADC_CORE_CFG_WMARK : Fld := ⟨.ADC_CORE_CFG, 16, 6, 0, .RO, 0, 63⟩
def Fld.ADC_CORE_OFS_OFS : Fld := ⟨.ADC_CORE_OFS, 0, 16, 0, .RO, 0, 65535⟩
def Fld.ADC_CORE_GAIN_GAIN : Fld := ⟨.ADC_CORE_GAIN, 0, 17, 0, .RO, 0, 131071⟩
def Fld.ADC_SEQ_LEN_LEN : Fld := ⟨.ADC_SEQ_LEN, 0, 5, 0, .RW, 0, 31⟩
def Fld.ADC_SEQ_E_INPUT : Fld := ⟨.ADC_SEQ_E, 0, 6, 0, .RW, 0, 63⟩
def Fld.ADC_SEQ_E_COUNT : Fld := ⟨.ADC_SEQ_E, 8, 9, 0, .RW, 0, 511⟩
def Fld.ADC_CORE_CTRL_START : Fld := ⟨.ADC_CORE_CTRL, 0, 1, 0, .WO, 0, 1⟩
def Fld.ADC_CORE_CTRL_ENABLE : Fld := ⟨.ADC_CORE_CTRL, 1, 1, 0, .WO, 0, 1⟩
def Fld.ADC_CORE_CTRL_DISABLE : Fld := ⟨.ADC_CORE_CTRL, 2, 1, 0, .WO, 0, 1⟩
def Fld.ADC_CORE_STATUS_STATE : Fld := ⟨.ADC_CORE_STATUS, 0, 3, 0, .RO, 0, 3⟩
def Fld.ADC_CORE_STATUS_LEVEL : Fld := ⟨.ADC_CORE_STATUS, 8, 7, 0, .RO, 0, 127⟩
def Fld.ADC_CORE_STATUS_MATCHED : Fld := ⟨.ADC_CORE_STATUS, 15, 1, 0, .RO, 0, 1⟩
def Fld.ADC_CORE_STATUS_DONE : Fld := ⟨.ADC_CORE_STATUS, 16, 1, 0, .W1C, 0, 1⟩
def Fld.ADC_CORE_STATUS_OVERRUN : Fld := ⟨.ADC_CORE_STATUS, 17, 1, 0, .W1C, 0, 1⟩
def Fld.ADC_CORE_STATUS_OVF : Fld := ⟨.ADC_CORE_STATUS, 18, 1, 0, .W1C, 0, 1⟩
def Fld.ADC_CORE_STATUS_SAT : Fld := ⟨.ADC_CORE_STATUS, 19, 1, 0, .W1C, 0, 1⟩
def Fld.ADC_CORE_STATUS_BADLEN : Fld := ⟨.ADC_CORE_STATUS, 20, 1, 0, .W1C, 0, 1⟩
def Fld.ADC_CORE_STATUS_IGNSTART : Fld := ⟨.ADC_CORE_STATUS, 21, 1, 0, .W1C, 0, 1⟩
def Fld.ADC_FIFO_DATA_DATA : Fld := ⟨.ADC_FIFO_DATA, 0, 32, 0, .RC, 0, 4294967295⟩
def Fld.ADC_FIFO_STAMP_STAMP : Fld := ⟨.ADC_FIFO_STAMP, 0, 32, 0, .RO, 0, 4294967295⟩
def Fld.ADC_DMA_BASE_BASE : Fld := ⟨.ADC_DMA_BASE, 0, 32, 0, .RO, 0, 4294967295⟩
def Fld.ADC_DMA_SIZE_LOG2 : Fld := ⟨.ADC_DMA_SIZE, 0, 4, 0, .RO, 0, 15⟩
def Fld.ADC_DMA_WR_INDEX : Fld := ⟨.ADC_DMA_WR, 0, 12, 0, .RO, 0, 4095⟩
def Fld.ADC_DMA_RD_INDEX : Fld := ⟨.ADC_DMA_RD, 0, 12, 0, .RW, 0, 4095⟩
def Fld.ADC_CNT_OVERRUN : Fld := ⟨.ADC_CNT, 0, 16, 0, .RO, 0, 65535⟩
def Fld.ADC_CNT_OVF : Fld := ⟨.ADC_CNT, 16, 16, 0, .RO, 0, 65535⟩
def Fld.ADC_SKEW_SKEW : Fld := ⟨.ADC_SKEW, 0, 8, 0, .RO, 0, 255⟩
def Fld.ADC_SKEW_GTRIM : Fld := ⟨.ADC_SKEW, 16, 16, 0, .RO, 0, 65535⟩
def Fld.ADC_IN_OFS_OFS : Fld := ⟨.ADC_IN_OFS, 0, 16, 0, .RO, 0, 65535⟩
def Fld.ADC_IN_GAIN_GAIN : Fld := ⟨.ADC_IN_GAIN, 0, 17, 0, .RO, 0, 131071⟩
def Fld.ADC_IN_LAST_RESULT : Fld := ⟨.ADC_IN_LAST, 0, 16, 0, .RO, 0, 65535⟩
def Fld.ADC_IN_LAST_CORE : Fld := ⟨.ADC_IN_LAST, 16, 4, 0, .RO, 0, 15⟩
def Fld.ADC_IN_STAMP_STAMP : Fld := ⟨.ADC_IN_STAMP, 0, 32, 0, .RO, 0, 4294967295⟩
/-! Fields of the LSN block (Tables 11.5). -/
def Fld.LSN_CFG_EN : Fld := ⟨.LSN_CFG, 0, 1, 0, .RO, 0, 1⟩
def Fld.LSN_CFG_QTY : Fld := ⟨.LSN_CFG, 1, 2, 0, .RO, 0, 3⟩
def Fld.LSN_CFG_GROUP : Fld := ⟨.LSN_CFG, 4, 5, 0, .RO, 0, 31⟩
def Fld.LSN_CFG_LATCH : Fld := ⟨.LSN_CFG, 9, 1, 0, .RO, 0, 1⟩
def Fld.LSN_CFG_LEG : Fld := ⟨.LSN_CFG, 16, 8, 0, .RO, 0, 255⟩
def Fld.LSN_LATCHSLOT_SLOT : Fld := ⟨.LSN_LATCHSLOT, 0, 10, 0, .RO, 0, 1023⟩
def Fld.LSN_OFS_OFS : Fld := ⟨.LSN_OFS, 0, 32, 0, .RO, 0, 4294967295⟩
def Fld.LSN_GAIN_GAIN : Fld := ⟨.LSN_GAIN, 0, 17, 0, .RO, 0, 131071⟩
def Fld.LSN_LAST_VALUE : Fld := ⟨.LSN_LAST, 0, 24, 0, .RO, 0, 16777215⟩
def Fld.LSN_LAST_SAT : Fld := ⟨.LSN_LAST, 24, 1, 0, .RO, 0, 1⟩
def Fld.LSN_LAST_MISS : Fld := ⟨.LSN_LAST, 25, 1, 0, .RO, 0, 1⟩
def Fld.LSN_LAST_STAMP_STAMP : Fld := ⟨.LSN_LAST_STAMP, 0, 32, 0, .RO, 0, 4294967295⟩
def Fld.LSN_LATCHED_VALUE : Fld := ⟨.LSN_LATCHED, 0, 24, 0, .RO, 0, 16777215⟩
def Fld.LSN_LATCHED_SAT : Fld := ⟨.LSN_LATCHED, 24, 1, 0, .RO, 0, 1⟩
def Fld.LSN_LATCHED_MISS : Fld := ⟨.LSN_LATCHED, 25, 1, 0, .RO, 0, 1⟩
def Fld.LSN_LATCHED_VALID : Fld := ⟨.LSN_LATCHED, 26, 1, 0, .RO, 0, 1⟩
def Fld.LSN_LATCH_STAMP_STAMP : Fld := ⟨.LSN_LATCH_STAMP, 0, 32, 0, .RO, 0, 4294967295⟩
def Fld.LSN_GRP_STATUS_READY : Fld := ⟨.LSN_GRP_STATUS, 0, 1, 0, .W1C, 0, 1⟩
def Fld.LSN_GRP_STATUS_MISS : Fld := ⟨.LSN_GRP_STATUS, 1, 1, 0, .W1C, 0, 1⟩
def Fld.LSN_GRP_CNT_MISS : Fld := ⟨.LSN_GRP_CNT, 0, 16, 0, .RO, 0, 65535⟩
def Fld.LSN_CTRL_ENABLE : Fld := ⟨.LSN_CTRL, 0, 1, 0, .WO, 0, 1⟩
def Fld.LSN_CTRL_DISABLE : Fld := ⟨.LSN_CTRL, 1, 1, 0, .WO, 0, 1⟩
def Fld.LSN_CTRL_LEG : Fld := ⟨.LSN_CTRL, 8, 8, 0, .WO, 0, 255⟩
/-! Fields of the CMP block (Tables 12.5). -/
def Fld.CMP_CFG_POS : Fld := ⟨.CMP_CFG, 0, 6, 0, .RO, 0, 63⟩
def Fld.CMP_CFG_NEGSEL : Fld := ⟨.CMP_CFG, 6, 1, 0, .RO, 0, 1⟩
def Fld.CMP_CFG_NEGPIN : Fld := ⟨.CMP_CFG, 8, 6, 0, .RO, 0, 63⟩
def Fld.CMP_CFG_MODE : Fld := ⟨.CMP_CFG, 16, 2, 0, .RO, 0, 3⟩
def Fld.CMP_CFG_HYST : Fld := ⟨.CMP_CFG, 18, 2, 0, .RO, 0, 3⟩
def Fld.CMP_CFG_INV : Fld := ⟨.CMP_CFG, 20, 1, 0, .RO, 0, 1⟩
def Fld.CMP_CFG_OWNER : Fld := ⟨.CMP_CFG, 21, 1, 0, .RO, 0, 1⟩
def Fld.CMP_CFG_FILT : Fld := ⟨.CMP_CFG, 24, 4, 0, .RO, 0, 15⟩
def Fld.CMP_ROUTE_IRQEDGE : Fld := ⟨.CMP_ROUTE, 0, 2, 0, .RO, 0, 3⟩
def Fld.CMP_ROUTE_CAPEDGE : Fld := ⟨.CMP_ROUTE, 2, 2, 0, .RO, 0, 3⟩
def Fld.CMP_ROUTE_WAKE : Fld := ⟨.CMP_ROUTE, 4, 1, 0, .RO, 0, 1⟩
def Fld.CMP_ROUTE_USER : Fld := ⟨.CMP_ROUTE, 5, 2, 0, .RO, 0, 3⟩
def Fld.CMP_DAC_DAC : Fld := ⟨.CMP_DAC, 0, 10, 0, .RW, 0, 1023⟩
def Fld.CMP_RAMP_RAMPSRC : Fld := ⟨.CMP_RAMP, 0, 6, 0, .RO, 0, 63⟩
def Fld.CMP_RAMP_SLOPE : Fld := ⟨.CMP_RAMP, 8, 16, 0, .RO, 0, 65535⟩
def Fld.CMP_VIGIL_VDAC : Fld := ⟨.CMP_VIGIL, 0, 10, 0, .RO, 0, 1023⟩
def Fld.CMP_STATUS_STATE : Fld := ⟨.CMP_STATUS, 0, 3, 0, .RO, 0, 3⟩
def Fld.CMP_STATUS_OUT : Fld := ⟨.CMP_STATUS, 4, 1, 0, .RO, 0, 1⟩
def Fld.CMP_STATUS_RAMPING : Fld := ⟨.CMP_STATUS, 5, 1, 0, .RO, 0, 1⟩
def Fld.CMP_STATUS_RISE : Fld := ⟨.CMP_STATUS, 8, 1, 0, .W1C, 0, 1⟩
def Fld.CMP_STATUS_FALL : Fld := ⟨.CMP_STATUS, 9, 1, 0, .W1C, 0, 1⟩
def Fld.CMP_STATUS_MODECHG : Fld := ⟨.CMP_STATUS, 10, 1, 0, .W1C, 0, 1⟩
def Fld.CMP_TEST_TIE : Fld := ⟨.CMP_TEST, 0, 2, 0, .RW, 0, 3⟩
def Fld.CMP_TEST_SWAP : Fld := ⟨.CMP_TEST, 2, 1, 0, .RW, 0, 1⟩
def Fld.CMP_CTRL_ENABLE : Fld := ⟨.CMP_CTRL, 0, 1, 0, .WO, 0, 1⟩
def Fld.CMP_CTRL_DISABLE : Fld := ⟨.CMP_CTRL, 1, 1, 0, .WO, 0, 1⟩
def Fld.CMP_CAP_LO_STAMP : Fld := ⟨.CMP_CAP_LO, 0, 32, 0, .RO, 0, 4294967295⟩
def Fld.CMP_CAP_HI_STAMP : Fld := ⟨.CMP_CAP_HI, 0, 32, 0, .RO, 0, 4294967295⟩
def Fld.CMP_CNT_EDGES : Fld := ⟨.CMP_CNT, 0, 16, 0, .RO, 0, 65535⟩
/-! Fields of the GRD block (Tables 13.6/13.7). -/
def Fld.GRD_CFG_TRACKER : Fld := ⟨.GRD_CFG, 0, 6, 0, .RO, 0, 63⟩
def Fld.GRD_CFG_CONV : Fld := ⟨.GRD_CFG, 8, 8, 0, .RO, 0, 255⟩
def Fld.GRD_CFG_CPIN : Fld := ⟨.GRD_CFG, 16, 5, 0, .RO, 0, 31⟩
def Fld.GRD_CFG_ISLEN : Fld := ⟨.GRD_CFG, 24, 1, 0, .RO, 0, 1⟩
def Fld.GRD_CFG_ACTEN : Fld := ⟨.GRD_CFG, 25, 1, 0, .RO, 0, 1⟩
def Fld.GRD_CFG_TOKEN : Fld := ⟨.GRD_CFG, 26, 1, 0, .RO, 0, 1⟩
def Fld.GRD_CFG_TOKREQ : Fld := ⟨.GRD_CFG, 27, 1, 0, .RO, 0, 1⟩
def Fld.GRD_CFG_AUTORECON : Fld := ⟨.GRD_CFG, 28, 1, 0, .RO, 0, 1⟩
def Fld.GRD_RATED_IRATED : Fld := ⟨.GRD_RATED, 0, 16, 0, .RO, 0, 65535⟩
def Fld.GRD_RATED_VNOM : Fld := ⟨.GRD_RATED, 16, 16, 0, .RO, 0, 65535⟩
def Fld.GRD_IMAX_IMAX : Fld := ⟨.GRD_IMAX, 0, 16, 0, .RO, 0, 65535⟩
def Fld.GRD_IMAX_IQMAX : Fld := ⟨.GRD_IMAX, 16, 16, 0, .RO, 0, 65535⟩
def Fld.GRD_VBAND_VNMIN : Fld := ⟨.GRD_VBAND, 0, 16, 0, .RO, 0, 65535⟩
def Fld.GRD_VBAND_VNMAX : Fld := ⟨.GRD_VBAND, 16, 16, 0, .RO, 0, 65535⟩
def Fld.GRD_FBAND_FNMIN : Fld := ⟨.GRD_FBAND, 0, 16, 0, .RO, 0, 65535⟩
def Fld.GRD_FBAND_FNMAX : Fld := ⟨.GRD_FBAND, 16, 16, 0, .RO, 0, 65535⟩
def Fld.GRD_RIDE_KRIDE : Fld := ⟨.GRD_RIDE, 0, 8, 0, .RO, 0, 255⟩
def Fld.GRD_RIDE_CURVES : Fld := ⟨.GRD_RIDE, 8, 8, 0, .RO, 0, 255⟩
def Fld.GRD_RIDE_PRAMP : Fld := ⟨.GRD_RIDE, 16, 16, 0, .RO, 0, 65535⟩
def Fld.GRD_RATES_SPRATE : Fld := ⟨.GRD_RATES, 0, 16, 0, .RO, 0, 65535⟩
def Fld.GRD_RATES_STOPMS : Fld := ⟨.GRD_RATES, 16, 16, 0, .RO, 0, 65535⟩
def Fld.GRD_ROCOF_ROCOF_TH : Fld := ⟨.GRD_ROCOF, 0, 16, 0, .RO, 0, 65535⟩
def Fld.GRD_ROCOF_ROCOF_WIN : Fld := ⟨.GRD_ROCOF, 16, 8, 0, .RO, 0, 255⟩
def Fld.GRD_VSN_VS_TH : Fld := ⟨.GRD_VSN, 0, 16, 0, .RO, 0, 65535⟩
def Fld.GRD_VSN_NUDGE : Fld := ⟨.GRD_VSN, 16, 16, 0, .RO, 0, 65535⟩
def Fld.GRD_NPER_NUDGE_PER : Fld := ⟨.GRD_NPER, 0, 16, 0, .RO, 0, 65535⟩
def Fld.GRD_NPER_ARESP : Fld := ⟨.GRD_NPER, 16, 8, 0, .RO, 0, 255⟩
def Fld.GRD_NPER_TOKAGE : Fld := ⟨.GRD_NPER, 24, 8, 0, .RO, 0, 255⟩
def Fld.GRD_PED_PEDID : Fld := ⟨.GRD_PED, 0, 16, 0, .RO, 0, 65535⟩
def Fld.GRD_RECON_RECON : Fld := ⟨.GRD_RECON, 0, 16, 0, .RO, 0, 65535⟩
def Fld.GRD_RECON_CLOSE_MS : Fld := ⟨.GRD_RECON, 16, 16, 0, .RO, 0, 65535⟩
def Fld.GRD_CTRL_ENABLE : Fld := ⟨.GRD_CTRL, 0, 1, 0, .WO, 0, 1⟩
def Fld.GRD_CTRL_DISABLE : Fld := ⟨.GRD_CTRL, 1, 1, 0, .WO, 0, 1⟩
def Fld.GRD_CTRL_IMMEDIATE : Fld := ⟨.GRD_CTRL, 2, 1, 0, .WO, 0, 1⟩
def Fld.GRD_CTRL_RECONNECT : Fld := ⟨.GRD_CTRL, 3, 1, 0, .WO, 0, 1⟩
def Fld.GRD_CTRL_CLRTRIP : Fld := ⟨.GRD_CTRL, 4, 1, 0, .WO, 0, 1⟩
def Fld.GRD_STATUS_STATE : Fld := ⟨.GRD_STATUS, 0, 4, 0, .RO, 0, 7⟩
def Fld.GRD_STATUS_CAUSE : Fld := ⟨.GRD_STATUS, 4, 4, 0, .RO, 0, 5⟩
def Fld.GRD_STATUS_TOKEN : Fld := ⟨.GRD_STATUS, 8, 2, 0, .RO, 0, 2⟩
def Fld.GRD_STATUS_EXC : Fld := ⟨.GRD_STATUS, 10, 1, 0, .RO, 0, 1⟩
def Fld.GRD_STATUS_DECLARE : Fld := ⟨.GRD_STATUS, 16, 1, 0, .W1C, 0, 1⟩
def Fld.GRD_STATUS_RIDEIN : Fld := ⟨.GRD_STATUS, 17, 1, 0, .W1C, 0, 1⟩
def Fld.GRD_STATUS_RIDEOUT : Fld := ⟨.GRD_STATUS, 18, 1, 0, .W1C, 0, 1⟩
def Fld.GRD_STATUS_LIMIT : Fld := ⟨.GRD_STATUS, 19, 1, 0, .W1C, 0, 1⟩
def Fld.GRD_STATUS_TOKBAD : Fld := ⟨.GRD_STATUS, 20, 1, 0, .W1C, 0, 1⟩
def Fld.GRD_ID_SP_ID : Fld := ⟨.GRD_ID_SP, 0, 16, 0, .RW, 0, 65535⟩
def Fld.GRD_IQ_SP_IQ : Fld := ⟨.GRD_IQ_SP, 0, 16, 0, .RW, 0, 65535⟩
def Fld.GRD_REF_THETA_THETA : Fld := ⟨.GRD_REF_THETA, 0, 32, 0, .RO, 0, 4294967295⟩
def Fld.GRD_REF_DQ_ID : Fld := ⟨.GRD_REF_DQ, 0, 16, 0, .RO, 0, 65535⟩
def Fld.GRD_REF_DQ_IQ : Fld := ⟨.GRD_REF_DQ, 16, 16, 0, .RO, 0, 65535⟩
def Fld.GRD_ISL_MEAS_ROCOF : Fld := ⟨.GRD_ISL_MEAS, 0, 16, 0, .RO, 0, 65535⟩
def Fld.GRD_ISL_MEAS_VSHIFT : Fld := ⟨.GRD_ISL_MEAS, 16, 16, 0, .RO, 0, 65535⟩
def Fld.GRD_ISL_RESP_RATIO : Fld := ⟨.GRD_ISL_RESP, 0, 8, 0, .RO, 0, 255⟩
def Fld.GRD_ISL_RESP_EVID : Fld := ⟨.GRD_ISL_RESP, 8, 5, 0, .RO, 0, 31⟩
def Fld.GRD_CNT_TRIPS : Fld := ⟨.GRD_CNT, 0, 16, 0, .RO, 0, 65535⟩
def Fld.GRD_CNT_NUDGES : Fld := ⟨.GRD_CNT, 16, 16, 0, .RO, 0, 65535⟩
def Fld.GRD_RIDE_CNT_RIDES : Fld := ⟨.GRD_RIDE_CNT, 0, 16, 0, .RO, 0, 65535⟩
def Fld.GRD_RIDE_CNT_TOKBAD : Fld := ⟨.GRD_RIDE_CNT, 16, 16, 0, .RO, 0, 65535⟩
def Fld.RIDE_W_WORD : Fld := ⟨.RIDE_W, 0, 32, 0, .RO, 0, 4294967295⟩
def Fld.MPPT_CFG_CONV : Fld := ⟨.MPPT_CFG, 0, 8, 0, .RO, 0, 255⟩
def Fld.MPPT_CFG_VIN : Fld := ⟨.MPPT_CFG, 8, 6, 0, .RO, 0, 63⟩
def Fld.MPPT_CFG_ICH : Fld := ⟨.MPPT_CFG, 16, 9, 0, .RO, 0, 511⟩
def Fld.MPPT_VLIM_VMIN : Fld := ⟨.MPPT_VLIM, 0, 16, 0, .RO, 0, 65535⟩
def Fld.MPPT_VLIM_VMAX : Fld := ⟨.MPPT_VLIM, 16, 16, 0, .RO, 0, 65535⟩
def Fld.MPPT_SLIM_SMIN : Fld := ⟨.MPPT_SLIM, 0, 16, 0, .RO, 0, 65535⟩
def Fld.MPPT_SLIM_SMAX : Fld := ⟨.MPPT_SLIM, 16, 16, 0, .RO, 0, 65535⟩
def Fld.MPPT_TIM_STEP_MS : Fld := ⟨.MPPT_TIM, 0, 16, 0, .RO, 0, 65535⟩
def Fld.MPPT_TIM_DWELL : Fld := ⟨.MPPT_TIM, 16, 8, 0, .RO, 0, 255⟩
def Fld.MPPT_TIM_SCAN_MIN : Fld := ⟨.MPPT_TIM, 24, 8, 0, .RO, 0, 255⟩
def Fld.MPPT_PDEAD_PDEAD : Fld := ⟨.MPPT_PDEAD, 0, 32, 0, .RO, 0, 4294967295⟩
def Fld.MPPT_DROP_DROP : Fld := ⟨.MPPT_DROP, 0, 8, 0, .RO, 0, 255⟩
def Fld.MPPT_CTRL_ENABLE : Fld := ⟨.MPPT_CTRL, 0, 1, 0, .WO, 0, 1⟩
def Fld.MPPT_CTRL_DISABLE : Fld := ⟨.MPPT_CTRL, 1, 1, 0, .WO, 0, 1⟩
def Fld.MPPT_CTRL_IMMEDIATE : Fld := ⟨.MPPT_CTRL, 2, 1, 0, .WO, 0, 1⟩
def Fld.MPPT_CTRL_SCAN : Fld := ⟨.MPPT_CTRL, 3, 1, 0, .WO, 0, 1⟩
def Fld.MPPT_STATUS_STATE : Fld := ⟨.MPPT_STATUS, 0, 3, 0, .RO, 0, 5⟩
def Fld.MPPT_STATUS_DIR : Fld := ⟨.MPPT_STATUS, 4, 1, 0, .RO, 0, 1⟩
def Fld.MPPT_STATUS_SCANDONE : Fld := ⟨.MPPT_STATUS, 8, 1, 0, .W1C, 0, 1⟩
def Fld.MPPT_STATUS_ABORT : Fld := ⟨.MPPT_STATUS, 9, 1, 0, .W1C, 0, 1⟩
def Fld.MPPT_STATUS_STALE : Fld := ⟨.MPPT_STATUS, 10, 1, 0, .W1C, 0, 1⟩
def Fld.MPPT_STATUS_DARK : Fld := ⟨.MPPT_STATUS, 11, 1, 0, .W1C, 0, 1⟩
def Fld.MPPT_VREF_VREF : Fld := ⟨.MPPT_VREF, 0, 16, 0, .RO, 0, 65535⟩
def Fld.MPPT_VREF_STEP : Fld := ⟨.MPPT_VREF, 16, 16, 0, .RO, 0, 65535⟩
def Fld.MPPT_VMPP_VMPP : Fld := ⟨.MPPT_VMPP, 0, 16, 0, .RO, 0, 65535⟩
def Fld.MPPT_PMAX_PMAX : Fld := ⟨.MPPT_PMAX, 0, 32, 0, .RO, 0, 4294967295⟩
def Fld.MPPT_CNT_SCANS : Fld := ⟨.MPPT_CNT, 0, 16, 0, .RO, 0, 65535⟩
def Fld.MPPT_CNT_ABORTS : Fld := ⟨.MPPT_CNT, 16, 16, 0, .RO, 0, 65535⟩
/-! Fields of the AXS block (Tables 14.5/14.6). -/
def Fld.AXS_CFG_KIND : Fld := ⟨.AXS_CFG, 0, 2, 0, .RO, 0, 3⟩
def Fld.AXS_CFG_CONV : Fld := ⟨.AXS_CFG, 8, 8, 0, .RO, 0, 255⟩
def Fld.AXS_CFG_TRACKER : Fld := ⟨.AXS_CFG, 16, 7, 0, .RO, 0, 127⟩
def Fld.AXS_CFG_JNL : Fld := ⟨.AXS_CFG, 24, 1, 0, .RO, 0, 1⟩
def Fld.AXS_RATE_RATE : Fld := ⟨.AXS_RATE, 0, 32, 0, .RO, 0, 4294967295⟩
def Fld.AXS_JERK_JERK : Fld := ⟨.AXS_JERK, 0, 32, 0, .RO, 0, 4294967295⟩
def Fld.AXS_ZDWELL_ZDWELL : Fld := ⟨.AXS_ZDWELL, 0, 16, 0, .RO, 0, 65535⟩
def Fld.AXS_LIM_LO_LIM : Fld := ⟨.AXS_LIM_LO, 0, 32, 0, .RO, 0, 4294967295⟩
def Fld.AXS_LIM_HI_LIM : Fld := ⟨.AXS_LIM_HI, 0, 32, 0, .RO, 0, 4294967295⟩
def Fld.AXS_LIMFLAGS_OVRUN : Fld := ⟨.AXS_LIMFLAGS, 0, 16, 0, .RO, 0, 65535⟩
def Fld.AXS_LIMFLAGS_LIMEN : Fld := ⟨.AXS_LIMFLAGS, 16, 1, 0, .RO, 0, 1⟩
def Fld.AXS_VMAX_VMAX : Fld := ⟨.AXS_VMAX, 0, 32, 0, .RO, 0, 4294967295⟩
def Fld.AXS_STOPRATE_STOPRATE : Fld := ⟨.AXS_STOPRATE, 0, 32, 0, .RO, 0, 4294967295⟩
def Fld.AXS_STOPJERK_STOPJERK : Fld := ⟨.AXS_STOPJERK, 0, 32, 0, .RO, 0, 4294967295⟩
def Fld.AXS_SP_SP : Fld := ⟨.AXS_SP, 0, 32, 0, .RW, 0, 4294967295⟩
def Fld.AXS_CTRL_ENABLE : Fld := ⟨.AXS_CTRL, 0, 1, 0, .WO, 0, 1⟩
def Fld.AXS_CTRL_DISABLE : Fld := ⟨.AXS_CTRL, 1, 1, 0, .WO, 0, 1⟩
def Fld.AXS_CTRL_IMMEDIATE : Fld := ⟨.AXS_CTRL, 2, 1, 0, .WO, 0, 1⟩
def Fld.AXS_CTRL_CLRFLT : Fld := ⟨.AXS_CTRL, 3, 1, 0, .WO, 0, 1⟩
def Fld.AXS_STATUS_STATE : Fld := ⟨.AXS_STATUS, 0, 3, 0, .RO, 0, 5⟩
def Fld.AXS_STATUS_SETTLED : Fld := ⟨.AXS_STATUS, 4, 1, 0, .RO, 0, 1⟩
def Fld.AXS_STATUS_REGEN : Fld := ⟨.AXS_STATUS, 5, 1, 0, .RO, 0, 1⟩
def Fld.AXS_STATUS_DIR : Fld := ⟨.AXS_STATUS, 6, 1, 0, .RO, 0, 1⟩
def Fld.AXS_STATUS_LIMIT : Fld := ⟨.AXS_STATUS, 8, 1, 0, .W1C, 0, 1⟩
def Fld.AXS_STATUS_PAYLIM : Fld := ⟨.AXS_STATUS, 9, 1, 0, .W1C, 0, 1⟩
def Fld.AXS_STATUS_PAYLOST : Fld := ⟨.AXS_STATUS, 10, 1, 0, .W1C, 0, 1⟩
def Fld.AXS_STATUS_OVERRUN : Fld := ⟨.AXS_STATUS, 11, 1, 0, .W1C, 0, 1⟩
def Fld.AXS_STATUS_NOTICKET : Fld := ⟨.AXS_STATUS, 12, 1, 0, .W1C, 0, 1⟩
def Fld.AXS_STATUS_SETTLE : Fld := ⟨.AXS_STATUS, 13, 1, 0, .W1C, 0, 1⟩
def Fld.AXS_OUT_R : Fld := ⟨.AXS_OUT, 0, 32, 0, .RO, 0, 4294967295⟩
def Fld.AXS_ACC_A : Fld := ⟨.AXS_ACC, 0, 32, 0, .RO, 0, 4294967295⟩
def Fld.AXS_STAMP_STAMP : Fld := ⟨.AXS_STAMP, 0, 32, 0, .RO, 0, 4294967295⟩
def Fld.AXS_CNT_REVERSALS : Fld := ⟨.AXS_CNT, 0, 16, 0, .RO, 0, 65535⟩
def Fld.AXS_CNT_LIMITS : Fld := ⟨.AXS_CNT, 16, 16, 0, .RO, 0, 65535⟩
/-! Fields of the AUX block (Tables 15.3). -/
def Fld.AUX_CFG_EN : Fld := ⟨.AUX_CFG, 0, 1, 0, .RO, 0, 1⟩
def Fld.AUX_CFG_TRACK : Fld := ⟨.AUX_CFG, 1, 2, 0, .RO, 0, 3⟩
def Fld.AUX_CFG_LEADER : Fld := ⟨.AUX_CFG, 4, 3, 0, .RO, 0, 7⟩
def Fld.AUX_CFG_CMP : Fld := ⟨.AUX_CFG, 8, 5, 0, .RO, 0, 31⟩
def Fld.AUX_PERIOD_PERIOD : Fld := ⟨.AUX_PERIOD, 0, 18, 0, .RO, 0, 262143⟩
def Fld.AUX_TGT_VTGT : Fld := ⟨.AUX_TGT, 0, 12, 0, .RO, 0, 4095⟩
def Fld.AUX_TGT_FBFS : Fld := ⟨.AUX_TGT, 16, 16, 0, .RO, 0, 65535⟩
def Fld.AUX_SS_TSS : Fld := ⟨.AUX_SS, 0, 16, 0, .RO, 0, 65535⟩
def Fld.AUX_SS_DMAX : Fld := ⟨.AUX_SS, 16, 8, 0, .RO, 0, 255⟩
def Fld.AUX_SS_LEB : Fld := ⟨.AUX_SS, 24, 6, 0, .RO, 0, 63⟩
def Fld.AUX_LIM_IMAX : Fld := ⟨.AUX_LIM, 0, 10, 0, .RO, 0, 1023⟩
def Fld.AUX_LIM_SLOPE : Fld := ⟨.AUX_LIM, 16, 16, 0, .RO, 0, 65535⟩
def Fld.AUX_B01_B0 : Fld := ⟨.AUX_B01, 0, 16, 0, .RO, 0, 65535⟩
def Fld.AUX_B01_B1 : Fld := ⟨.AUX_B01, 16, 16, 0, .RO, 0, 65535⟩
def Fld.AUX_B2_B2 : Fld := ⟨.AUX_B2, 0, 16, 0, .RO, 0, 65535⟩
def Fld.AUX_CTRL_ENABLE : Fld := ⟨.AUX_CTRL, 0, 1, 0, .WO, 0, 1⟩
def Fld.AUX_CTRL_DISABLE : Fld := ⟨.AUX_CTRL, 1, 1, 0, .WO, 0, 1⟩
def Fld.AUX_CTRL_IMMEDIATE : Fld := ⟨.AUX_CTRL, 2, 1, 0, .WO, 0, 1⟩
def Fld.AUX_CTRL_CLRSHORT : Fld := ⟨.AUX_CTRL, 3, 1, 0, .WO, 0, 1⟩
def Fld.AUX_STATUS_STATE : Fld := ⟨.AUX_STATUS, 0, 3, 0, .RO, 0, 6⟩
def Fld.AUX_STATUS_RETRY : Fld := ⟨.AUX_STATUS, 4, 3, 0, .RO, 0, 7⟩
def Fld.AUX_STATUS_PAUSED : Fld := ⟨.AUX_STATUS, 7, 1, 0, .RO, 0, 1⟩
def Fld.AUX_STATUS_REG_SHORT : Fld := ⟨.AUX_STATUS, 8, 1, 0, .W1C, 0, 1⟩
def Fld.AUX_STATUS_LIMIT : Fld := ⟨.AUX_STATUS, 9, 1, 0, .W1C, 0, 1⟩
def Fld.AUX_STATUS_NOTICKET : Fld := ⟨.AUX_STATUS, 10, 1, 0, .W1C, 0, 1⟩
def Fld.AUX_MEAS_FB : Fld := ⟨.AUX_MEAS, 0, 12, 0, .RO, 0, 4095⟩
def Fld.AUX_MEAS_U : Fld := ⟨.AUX_MEAS, 12, 10, 0, .RO, 0, 1023⟩
def Fld.AUX_MEAS_ILIM : Fld := ⟨.AUX_MEAS, 22, 10, 0, .RO, 0, 1023⟩
def Fld.AUX_CNT_HICCUPS : Fld := ⟨.AUX_CNT, 0, 16, 0, .RO, 0, 65535⟩
/-! Fields of the FAN block (Tables 16.6/16.7). -/
def Fld.FAN_CFG_EN : Fld := ⟨.FAN_CFG, 0, 1, 0, .RO, 0, 1⟩
def Fld.FAN_CFG_MODE : Fld := ⟨.FAN_CFG, 1, 1, 0, .RO, 0, 1⟩
def Fld.FAN_CFG_PPR : Fld := ⟨.FAN_CFG, 2, 2, 0, .RO, 0, 3⟩
def Fld.FAN_CFG_TFILT : Fld := ⟨.FAN_CFG, 8, 8, 0, .RO, 0, 255⟩
def Fld.FAN_MIN_MINRPM : Fld := ⟨.FAN_MIN, 0, 16, 0, .RO, 0, 65535⟩
def Fld.FAN_MIN_MINDUTY : Fld := ⟨.FAN_MIN, 16, 16, 0, .RO, 0, 65535⟩
def Fld.FAN_I_IOPEN : Fld := ⟨.FAN_I, 0, 16, 0, .RO, 0, 65535⟩
def Fld.FAN_I_IHIGH : Fld := ⟨.FAN_I, 16, 16, 0, .RO, 0, 65535⟩
def Fld.FAN_NTC01_NTC0 : Fld := ⟨.FAN_NTC01, 0, 16, 0, .RO, 0, 65535⟩
def Fld.FAN_NTC01_NTC1 : Fld := ⟨.FAN_NTC01, 16, 16, 0, .RO, 0, 65535⟩
def Fld.FAN_NTC23_NTC2 : Fld := ⟨.FAN_NTC23, 0, 16, 0, .RO, 0, 65535⟩
def Fld.FAN_NTC23_NTC3 : Fld := ⟨.FAN_NTC23, 16, 16, 0, .RO, 0, 65535⟩
def Fld.FAN_PT_CODE : Fld := ⟨.FAN_PT, 0, 16, 0, .RO, 0, 65535⟩
def Fld.FAN_PT_DUTY : Fld := ⟨.FAN_PT, 16, 16, 0, .RO, 0, 65535⟩
def Fld.FAN_DUTY_SP_DUTY : Fld := ⟨.FAN_DUTY_SP, 0, 10, 0, .RW, 0, 1023⟩
def Fld.FAN_CTRL_ENABLE : Fld := ⟨.FAN_CTRL, 0, 1, 0, .WO, 0, 1⟩
def Fld.FAN_CTRL_DISABLE : Fld := ⟨.FAN_CTRL, 1, 1, 0, .WO, 0, 1⟩
def Fld.FAN_CTRL_IMMEDIATE : Fld := ⟨.FAN_CTRL, 2, 1, 0, .WO, 0, 1⟩
def Fld.FAN_CTRL_CLRFAULT : Fld := ⟨.FAN_CTRL, 3, 1, 0, .WO, 0, 1⟩
def Fld.FAN_STATUS_STATE : Fld := ⟨.FAN_STATUS, 0, 3, 0, .RO, 0, 7⟩
def Fld.FAN_STATUS_ATTEMPT : Fld := ⟨.FAN_STATUS, 4, 2, 0, .RO, 0, 3⟩
def Fld.FAN_STATUS_DERATE : Fld := ⟨.FAN_STATUS, 6, 1, 0, .RO, 0, 1⟩
def Fld.FAN_STATUS_FAN_STALL : Fld := ⟨.FAN_STATUS, 8, 1, 0, .W1C, 0, 1⟩
def Fld.FAN_STATUS_FAN_OPEN : Fld := ⟨.FAN_STATUS, 9, 1, 0, .W1C, 0, 1⟩
def Fld.FAN_STATUS_TACH_LOST : Fld := ⟨.FAN_STATUS, 10, 1, 0, .W1C, 0, 1⟩
def Fld.FAN_STATUS_NOTEMP : Fld := ⟨.FAN_STATUS, 11, 1, 0, .W1C, 0, 1⟩
def Fld.FAN_MEAS_RPM : Fld := ⟨.FAN_MEAS, 0, 16, 0, .RO, 0, 65535⟩
def Fld.FAN_MEAS_CUR : Fld := ⟨.FAN_MEAS, 16, 10, 0, .RO, 0, 1023⟩
def Fld.FAN_DUTY_DUTY : Fld := ⟨.FAN_DUTY, 0, 10, 0, .RO, 0, 1023⟩
def Fld.FAN_CNT_RETRIES : Fld := ⟨.FAN_CNT, 0, 16, 0, .RO, 0, 65535⟩
def Fld.FAN_CNT_TACHLOSS : Fld := ⟨.FAN_CNT, 16, 16, 0, .RO, 0, 65535⟩
def Fld.LOOP_CFG_EN : Fld := ⟨.LOOP_CFG, 0, 1, 0, .RO, 0, 1⟩
def Fld.LOOP_CFG_FAULTMODE : Fld := ⟨.LOOP_CFG, 1, 2, 0, .RO, 0, 3⟩
def Fld.LOOP_CFG_LOCKSUB : Fld := ⟨.LOOP_CFG, 3, 1, 0, .RO, 0, 1⟩
def Fld.LOOP_INIT_INITCODE : Fld := ⟨.LOOP_INIT, 0, 16, 0, .RO, 0, 65535⟩
def Fld.LOOP_INIT_OFS : Fld := ⟨.LOOP_INIT, 16, 16, 0, .RO, 0, 65535⟩
def Fld.LOOP_GAIN_GAIN : Fld := ⟨.LOOP_GAIN, 0, 32, 0, .RO, 0, 4294967295⟩
def Fld.LOOP_CODE_CODE : Fld := ⟨.LOOP_CODE, 0, 16, 0, .RW, 7000, 46000⟩
def Fld.LOOP_CTRL_ENABLE : Fld := ⟨.LOOP_CTRL, 0, 1, 0, .WO, 0, 1⟩
def Fld.LOOP_CTRL_DISABLE : Fld := ⟨.LOOP_CTRL, 1, 1, 0, .WO, 0, 1⟩
def Fld.LOOP_CTRL_IMMEDIATE : Fld := ⟨.LOOP_CTRL, 2, 1, 0, .WO, 0, 1⟩
def Fld.LOOP_CTRL_FAULT : Fld := ⟨.LOOP_CTRL, 3, 1, 0, .WO, 0, 1⟩
def Fld.LOOP_STATUS_STATE : Fld := ⟨.LOOP_STATUS, 0, 3, 0, .RO, 0, 4⟩
def Fld.LOOP_STATUS_HEADROOM : Fld := ⟨.LOOP_STATUS, 4, 1, 0, .RO, 0, 1⟩
def Fld.LOOP_STATUS_MISMATCH : Fld := ⟨.LOOP_STATUS, 5, 1, 0, .RO, 0, 1⟩
def Fld.LOOP_STATUS_LOOP_HEADROOM : Fld := ⟨.LOOP_STATUS, 8, 1, 0, .W1C, 0, 1⟩
def Fld.LOOP_STATUS_LOOP_MISMATCH : Fld := ⟨.LOOP_STATUS, 9, 1, 0, .W1C, 0, 1⟩
def Fld.LOOP_MEAS_READBACK : Fld := ⟨.LOOP_MEAS, 0, 16, 0, .RO, 0, 65535⟩
def Fld.LOOP_MEAS_VCE : Fld := ⟨.LOOP_MEAS, 16, 16, 0, .RO, 0, 65535⟩
def Fld.LOOP_CNT_HEADROOM : Fld := ⟨.LOOP_CNT, 0, 16, 0, .RO, 0, 65535⟩
def Fld.LOOP_CNT_MISMATCH : Fld := ⟨.LOOP_CNT, 16, 16, 0, .RO, 0, 65535⟩
/-! Fields of the MTR block (Tables 17.6/17.7). -/
def Fld.MTR_PORT_CFG_EN : Fld := ⟨.MTR_PORT_CFG, 0, 1, 0, .RO, 0, 1⟩
def Fld.MTR_PORT_CFG_SEAL : Fld := ⟨.MTR_PORT_CFG, 1, 1, 0, .RO, 0, 1⟩
def Fld.MTR_PORT_CFG_NEUTRAL : Fld := ⟨.MTR_PORT_CFG, 2, 1, 0, .RO, 0, 1⟩
def Fld.MTR_PORT_CFG_COVER : Fld := ⟨.MTR_PORT_CFG, 4, 2, 0, .RO, 0, 3⟩
def Fld.MTR_VFS_VFS : Fld := ⟨.MTR_VFS, 0, 32, 0, .RO, 0, 4294967295⟩
def Fld.MTR_IFS_IFS : Fld := ⟨.MTR_IFS, 0, 32, 0, .RO, 0, 4294967295⟩
def Fld.MTR_THR_NOLOAD : Fld := ⟨.MTR_THR, 0, 16, 0, .RO, 0, 65535⟩
def Fld.MTR_THR_ISTART : Fld := ⟨.MTR_THR, 16, 16, 0, .RO, 0, 65535⟩
def Fld.MTR_CHGAIN_GAIN : Fld := ⟨.MTR_CHGAIN, 0, 32, 0, .RO, 0, 4294967295⟩
def Fld.MTR_CHPHASE_PHASE : Fld := ⟨.MTR_CHPHASE, 0, 32, 0, .RO, 0, 4294967295⟩
def Fld.MTR_INDIFF_INDIFF : Fld := ⟨.MTR_INDIFF, 0, 16, 0, .RO, 0, 65535⟩
def Fld.MTR_PORT_STATUS_STATE : Fld := ⟨.MTR_PORT_STATUS, 0, 2, 0, .RO, 0, 2⟩
def Fld.MTR_PORT_STATUS_SEALED : Fld := ⟨.MTR_PORT_STATUS, 4, 1, 0, .RO, 0, 1⟩
def Fld.MTR_PORT_STATUS_SEALPEND : Fld := ⟨.MTR_PORT_STATUS, 5, 1, 0, .RO, 0, 1⟩
def Fld.MTR_PORT_STATUS_NOLOAD : Fld := ⟨.MTR_PORT_STATUS, 6, 1, 0, .RO, 0, 1⟩
def Fld.MTR_PORT_STATUS_REQRES : Fld := ⟨.MTR_PORT_STATUS, 8, 2, 0, .RO, 0, 2⟩
def Fld.MTR_PORT_STATUS_GAP : Fld := ⟨.MTR_PORT_STATUS, 16, 1, 0, .W1C, 0, 1⟩
def Fld.MTR_PORT_STATUS_COVER : Fld := ⟨.MTR_PORT_STATUS, 17, 1, 0, .W1C, 0, 1⟩
def Fld.MTR_PORT_STATUS_NEUTRAL : Fld := ⟨.MTR_PORT_STATUS, 18, 1, 0, .W1C, 0, 1⟩
def Fld.MTR_PORT_STATUS_OVLD : Fld := ⟨.MTR_PORT_STATUS, 19, 1, 0, .W1C, 0, 1⟩
def Fld.MTR_PORT_STATUS_SNAPNEW : Fld := ⟨.MTR_PORT_STATUS, 20, 1, 0, .W1C, 0, 1⟩
def Fld.MTR_PORT_STATUS_SNAPOVR : Fld := ⟨.MTR_PORT_STATUS, 21, 1, 0, .W1C, 0, 1⟩
def Fld.MTR_PORT_REQ_DISABLE : Fld := ⟨.MTR_PORT_REQ, 0, 1, 0, .WO, 0, 1⟩
def Fld.MTR_PORT_REQ_ENABLE : Fld := ⟨.MTR_PORT_REQ, 1, 1, 0, .WO, 0, 1⟩
def Fld.MTR_PORT_CNT_OVLD : Fld := ⟨.MTR_PORT_CNT, 0, 16, 0, .RO, 0, 65535⟩
def Fld.MTR_PORT_CNT_REFUSED : Fld := ⟨.MTR_PORT_CNT, 16, 16, 0, .RO, 0, 65535⟩
def Fld.MTR_RMS_RMS : Fld := ⟨.MTR_RMS, 0, 24, 0, .RO, 0, 16777215⟩
def Fld.MTR_E_LO_E : Fld := ⟨.MTR_E_LO, 0, 32, 0, .RO, 0, 4294967295⟩
def Fld.MTR_E_HI_E : Fld := ⟨.MTR_E_HI, 0, 32, 0, .RO, 0, 4294967295⟩
def Fld.MTR_ES_LO_E : Fld := ⟨.MTR_ES_LO, 0, 32, 0, .RO, 0, 4294967295⟩
def Fld.MTR_ES_HI_E : Fld := ⟨.MTR_ES_HI, 0, 32, 0, .RO, 0, 4294967295⟩
def Fld.MTR_SNAP_TIME_LO_TIME : Fld := ⟨.MTR_SNAP_TIME_LO, 0, 32, 0, .RO, 0, 4294967295⟩
def Fld.MTR_SNAP_TIME_HI_TIME : Fld := ⟨.MTR_SNAP_TIME_HI, 0, 32, 0, .RO, 0, 4294967295⟩
def Fld.MTR_PLS_CFG_EN : Fld := ⟨.MTR_PLS_CFG, 0, 1, 0, .RO, 0, 1⟩
def Fld.MTR_PLS_CFG_KIND : Fld := ⟨.MTR_PLS_CFG, 1, 1, 0, .RO, 0, 1⟩
def Fld.MTR_PLS_CFG_POL : Fld := ⟨.MTR_PLS_CFG, 2, 1, 0, .RO, 0, 1⟩
def Fld.MTR_PLS_CFG_PORT : Fld := ⟨.MTR_PLS_CFG, 4, 2, 0, .RO, 0, 3⟩
def Fld.MTR_PLS_CFG_PHASE : Fld := ⟨.MTR_PLS_CFG, 6, 2, 0, .RO, 0, 3⟩
def Fld.MTR_PLS_CFG_QTY : Fld := ⟨.MTR_PLS_CFG, 8, 3, 0, .RO, 0, 7⟩
def Fld.MTR_PLS_EPP_EPP : Fld := ⟨.MTR_PLS_EPP, 0, 32, 0, .RO, 0, 4294967295⟩
def Fld.MTR_PLS_C_C : Fld := ⟨.MTR_PLS_C, 0, 32, 0, .RO, 0, 4294967295⟩
def Fld.MTR_PLS_WIDTH_WIDTH : Fld := ⟨.MTR_PLS_WIDTH, 0, 16, 0, .RO, 0, 65535⟩
def Fld.MTR_PLS_STATUS_PENDING : Fld := ⟨.MTR_PLS_STATUS, 0, 16, 0, .RO, 0, 65535⟩
def Fld.MTR_PLS_STATUS_OVERRANGE : Fld := ⟨.MTR_PLS_STATUS, 16, 1, 0, .W1C, 0, 1⟩
def Fld.MTR_PLS_CNT_COUNT : Fld := ⟨.MTR_PLS_CNT, 0, 32, 0, .RO, 0, 4294967295⟩
/-! Fields of the JLN block (Tables 18.6/19.8). -/
def Fld.JLN_PHY_CFG_TXATT : Fld := ⟨.JLN_PHY_CFG, 0, 5, 0, .RO, 0, 31⟩
def Fld.JLN_PHY_CFG_CAPDB : Fld := ⟨.JLN_PHY_CFG, 8, 4, 0, .RO, 0, 15⟩
def Fld.JLN_PHY_STATUS_STATE : Fld := ⟨.JLN_PHY_STATUS, 0, 3, 0, .RO, 0, 6⟩
def Fld.JLN_PHY_STATUS_BUSY : Fld := ⟨.JLN_PHY_STATUS, 4, 1, 0, .RO, 0, 1⟩
def Fld.JLN_PHY_STATUS_AGC : Fld := ⟨.JLN_PHY_STATUS, 8, 3, 0, .RO, 0, 7⟩
def Fld.JLN_PHY_STATUS_RXDONE : Fld := ⟨.JLN_PHY_STATUS, 16, 1, 0, .W1C, 0, 1⟩
def Fld.JLN_PHY_STATUS_LONG : Fld := ⟨.JLN_PHY_STATUS, 17, 1, 0, .W1C, 0, 1⟩
def Fld.JLN_PHY_STATUS_BADHDR : Fld := ⟨.JLN_PHY_STATUS, 18, 1, 0, .W1C, 0, 1⟩
def Fld.JLN_PHY_STATUS_FCSERR : Fld := ⟨.JLN_PHY_STATUS, 19, 1, 0, .W1C, 0, 1⟩
def Fld.JLN_PHY_STATUS_CAPTURE : Fld := ⟨.JLN_PHY_STATUS, 20, 1, 0, .W1C, 0, 1⟩
def Fld.JLN_PHY_STATUS_ABORTED : Fld := ⟨.JLN_PHY_STATUS, 21, 1, 0, .W1C, 0, 1⟩
def Fld.JLN_PHY_STATUS_TXDONE : Fld := ⟨.JLN_PHY_STATUS, 22, 1, 0, .W1C, 0, 1⟩
def Fld.JLN_PHY_STATUS_TXBADLEN : Fld := ⟨.JLN_PHY_STATUS, 23, 1, 0, .W1C, 0, 1⟩
def Fld.JLN_PHY_STATUS_RXPREEMPT : Fld := ⟨.JLN_PHY_STATUS, 24, 1, 0, .W1C, 0, 1⟩
def Fld.JLN_RX_HDR_LEN : Fld := ⟨.JLN_RX_HDR, 0, 11, 0, .RO, 0, 2047⟩
def Fld.JLN_RX_HDR_MOD : Fld := ⟨.JLN_RX_HDR, 12, 2, 0, .RO, 0, 3⟩
def Fld.JLN_RX_HDR_BCN : Fld := ⟨.JLN_RX_HDR, 14, 1, 0, .RO, 0, 1⟩
def Fld.JLN_RX_SNR_SNR : Fld := ⟨.JLN_RX_SNR, 0, 8, 0, .RO, 0, 255⟩
def Fld.JLN_RX_STAMP_LO_STAMP : Fld := ⟨.JLN_RX_STAMP_LO, 0, 32, 0, .RO, 0, 4294967295⟩
def Fld.JLN_RX_STAMP_HI_STAMP : Fld := ⟨.JLN_RX_STAMP_HI, 0, 32, 0, .RO, 0, 4294967295⟩
def Fld.JLN_BUSY_END_LO_END : Fld := ⟨.JLN_BUSY_END_LO, 0, 32, 0, .RO, 0, 4294967295⟩
def Fld.JLN_BUSY_END_HI_END : Fld := ⟨.JLN_BUSY_END_HI, 0, 32, 0, .RO, 0, 4294967295⟩
def Fld.JLN_PHY_CNT0_LONG : Fld := ⟨.JLN_PHY_CNT0, 0, 16, 0, .RO, 0, 65535⟩
def Fld.JLN_PHY_CNT0_CAPTURE : Fld := ⟨.JLN_PHY_CNT0, 16, 16, 0, .RO, 0, 65535⟩
def Fld.JLN_PHY_CNT1_BADHDR : Fld := ⟨.JLN_PHY_CNT1, 0, 16, 0, .RO, 0, 65535⟩
def Fld.JLN_PHY_CNT1_FCSERR : Fld := ⟨.JLN_PHY_CNT1, 16, 16, 0, .RO, 0, 65535⟩
def Fld.JLN_PHY_CNT2_ABORTED : Fld := ⟨.JLN_PHY_CNT2, 0, 16, 0, .RO, 0, 65535⟩
def Fld.JLN_PHY_CNT2_RXPREEMPT : Fld := ⟨.JLN_PHY_CNT2, 16, 16, 0, .RO, 0, 65535⟩
def Fld.JLN_W_WORD : Fld := ⟨.JLN_W, 0, 32, 0, .RO, 0, 4294967295⟩
def Fld.JLN_NET_STATUS_STATE : Fld := ⟨.JLN_NET_STATUS, 0, 3, 0, .RO, 0, 7⟩
def Fld.JLN_NET_STATUS_NET : Fld := ⟨.JLN_NET_STATUS, 4, 2, 0, .RO, 0, 3⟩
def Fld.JLN_NET_STATUS_MEMBERS : Fld := ⟨.JLN_NET_STATUS, 16, 9, 0, .RO, 0, 511⟩
def Fld.JLN_NET_EVT_BCNRX : Fld := ⟨.JLN_NET_EVT, 0, 1, 0, .W1C, 0, 1⟩
def Fld.JLN_NET_EVT_BCNTX : Fld := ⟨.JLN_NET_EVT, 1, 1, 0, .W1C, 0, 1⟩
def Fld.JLN_NET_EVT_ASSOC : Fld := ⟨.JLN_NET_EVT, 2, 1, 0, .W1C, 0, 1⟩
def Fld.JLN_NET_EVT_DISASSOC : Fld := ⟨.JLN_NET_EVT, 3, 1, 0, .W1C, 0, 1⟩
def Fld.JLN_NET_EVT_BCNLOST : Fld := ⟨.JLN_NET_EVT, 4, 1, 0, .W1C, 0, 1⟩
def Fld.JLN_NET_EVT_FOREIGN : Fld := ⟨.JLN_NET_EVT, 5, 1, 0, .W1C, 0, 1⟩
def Fld.JLN_NET_EVT_DUPCOORD : Fld := ⟨.JLN_NET_EVT, 6, 1, 0, .W1C, 0, 1⟩
def Fld.JLN_NET_EVT_ADDRCLASH : Fld := ⟨.JLN_NET_EVT, 7, 1, 0, .W1C, 0, 1⟩
def Fld.JLN_NET_EVT_AUTHFAIL : Fld := ⟨.JLN_NET_EVT, 8, 1, 0, .W1C, 0, 1⟩
def Fld.JLN_NET_EVT_REPLAY : Fld := ⟨.JLN_NET_EVT, 9, 1, 0, .W1C, 0, 1⟩
def Fld.JLN_NET_EVT_BADFRM : Fld := ⟨.JLN_NET_EVT, 10, 1, 0, .W1C, 0, 1⟩
def Fld.JLN_NET_EVT_RXOVF : Fld := ⟨.JLN_NET_EVT, 11, 1, 0, .W1C, 0, 1⟩
def Fld.JLN_NET_EVT_TXACK : Fld := ⟨.JLN_NET_EVT, 12, 1, 0, .W1C, 0, 1⟩
def Fld.JLN_NET_EVT_TXFAIL : Fld := ⟨.JLN_NET_EVT, 13, 1, 0, .W1C, 0, 1⟩
def Fld.JLN_NET_EVT_TXCANCEL : Fld := ⟨.JLN_NET_EVT, 14, 1, 0, .W1C, 0, 1⟩
def Fld.JLN_NET_EVT_NOTICKET : Fld := ⟨.JLN_NET_EVT, 15, 1, 0, .W1C, 0, 1⟩
def Fld.JLN_NET_EVT_TXBADFLAG : Fld := ⟨.JLN_NET_EVT, 16, 1, 0, .W1C, 0, 1⟩
def Fld.JLN_BCN_TIME_LO_TIME : Fld := ⟨.JLN_BCN_TIME_LO, 0, 32, 0, .RO, 0, 4294967295⟩
def Fld.JLN_BCN_TIME_HI_TIME : Fld := ⟨.JLN_BCN_TIME_HI, 0, 32, 0, .RO, 0, 4294967295⟩
def Fld.JLN_BCN_PHASE_PHASE : Fld := ⟨.JLN_BCN_PHASE, 0, 32, 0, .RO, 0, 4294967295⟩
def Fld.JLN_BCN_FREQ_FREQ : Fld := ⟨.JLN_BCN_FREQ, 0, 32, 0, .RO, 0, 4294967295⟩
def Fld.JLN_BCN_TOKEN_PEDID : Fld := ⟨.JLN_BCN_TOKEN, 0, 16, 0, .RO, 0, 65535⟩
def Fld.JLN_BCN_TOKEN_STATE : Fld := ⟨.JLN_BCN_TOKEN, 16, 2, 0, .RO, 0, 3⟩
def Fld.JLN_BCN_TOKEN_FLAGS : Fld := ⟨.JLN_BCN_TOKEN, 24, 2, 0, .RO, 0, 3⟩
def Fld.JLN_BCN_NEXT_NEXT : Fld := ⟨.JLN_BCN_NEXT, 0, 32, 0, .RO, 0, 4294967295⟩
def Fld.JLN_SEQ_SEQ : Fld := ⟨.JLN_SEQ, 0, 16, 0, .RO, 0, 65535⟩
def Fld.JLN_FCNT_LO_FCNT : Fld := ⟨.JLN_FCNT_LO, 0, 32, 0, .RO, 0, 4294967295⟩
def Fld.JLN_FCNT_HI_FCNT : Fld := ⟨.JLN_FCNT_HI, 0, 8, 0, .RO, 0, 255⟩
def Fld.JLN_FCNT_HI_EPOCH : Fld := ⟨.JLN_FCNT_HI, 8, 8, 0, .RO, 0, 255⟩
def Fld.JLN_CTRL_ENABLE : Fld := ⟨.JLN_CTRL, 0, 1, 0, .WO, 0, 1⟩
def Fld.JLN_CTRL_DISABLE : Fld := ⟨.JLN_CTRL, 1, 1, 0, .WO, 0, 1⟩
def Fld.JLN_CTRL_IMMEDIATE : Fld := ⟨.JLN_CTRL, 2, 1, 0, .WO, 0, 1⟩
def Fld.JLN_TX_CFG_DST : Fld := ⟨.JLN_TX_CFG, 0, 10, 0, .RW, 0, 1023⟩
def Fld.JLN_TX_CFG_BCAST : Fld := ⟨.JLN_TX_CFG, 12, 1, 0, .RW, 0, 1⟩
def Fld.JLN_TX_CFG_ACKREQ : Fld := ⟨.JLN_TX_CFG, 13, 1, 0, .RW, 0, 1⟩
def Fld.JLN_TX_CFG_CFP : Fld := ⟨.JLN_TX_CFG, 14, 1, 0, .RW, 0, 1⟩
def Fld.JLN_TX_CFG_MOD : Fld := ⟨.JLN_TX_CFG, 16, 2, 0, .RW, 0, 3⟩
def Fld.JLN_TX_LEN_LEN : Fld := ⟨.JLN_TX_LEN, 0, 11, 0, .RW, 0, 2047⟩
def Fld.JLN_TX_CTRL_GO : Fld := ⟨.JLN_TX_CTRL, 0, 1, 0, .WO, 0, 1⟩
def Fld.JLN_TX_CTRL_CANCEL : Fld := ⟨.JLN_TX_CTRL, 1, 1, 0, .WO, 0, 1⟩
def Fld.JLN_TX_STATUS_STATE : Fld := ⟨.JLN_TX_STATUS, 0, 3, 0, .RO, 0, 7⟩
def Fld.JLN_TX_STATUS_TRIES : Fld := ⟨.JLN_TX_STATUS, 4, 3, 0, .RO, 0, 7⟩
def Fld.JLN_TX_STATUS_TICKET : Fld := ⟨.JLN_TX_STATUS, 16, 16, 0, .RO, 0, 65535⟩
def Fld.JLN_RX_INFO_SRC : Fld := ⟨.JLN_RX_INFO, 0, 10, 0, .RO, 0, 1023⟩
def Fld.JLN_RX_INFO_BCAST : Fld := ⟨.JLN_RX_INFO, 12, 1, 0, .RO, 0, 1⟩
def Fld.JLN_RX_INFO_FULL : Fld := ⟨.JLN_RX_INFO, 15, 1, 0, .RO, 0, 1⟩
def Fld.JLN_RX_INFO_LEN : Fld := ⟨.JLN_RX_INFO, 16, 11, 0, .RO, 0, 2047⟩
def Fld.JLN_RX_SEQ_SEQ : Fld := ⟨.JLN_RX_SEQ, 0, 16, 0, .RO, 0, 65535⟩
def Fld.JLN_RX_REL_RELEASE : Fld := ⟨.JLN_RX_REL, 0, 1, 0, .WO, 0, 1⟩
def Fld.JLN_RX_TIME_STAMP : Fld := ⟨.JLN_RX_TIME, 0, 32, 0, .RO, 0, 4294967295⟩
def Fld.JLN_CNT0_AUTHFAIL : Fld := ⟨.JLN_CNT0, 0, 16, 0, .RO, 0, 65535⟩
def Fld.JLN_CNT0_REPLAY : Fld := ⟨.JLN_CNT0, 16, 16, 0, .RO, 0, 65535⟩
def Fld.JLN_CNT1_TXFAIL : Fld := ⟨.JLN_CNT1, 0, 16, 0, .RO, 0, 65535⟩
def Fld.JLN_CNT1_RXOVF : Fld := ⟨.JLN_CNT1, 16, 16, 0, .RO, 0, 65535⟩
def Fld.JLN_CNT2_BCNLOST : Fld := ⟨.JLN_CNT2, 0, 16, 0, .RO, 0, 65535⟩
def Fld.JLN_CNT2_NORESP : Fld := ⟨.JLN_CNT2, 16, 16, 0, .RO, 0, 65535⟩
def Fld.JLN_CNT3_DUP : Fld := ⟨.JLN_CNT3, 0, 16, 0, .RO, 0, 65535⟩
def Fld.JLN_CNT3_BADFRM : Fld := ⟨.JLN_CNT3, 16, 16, 0, .RO, 0, 65535⟩
def Fld.JLN_TXBUF_DATA : Fld := ⟨.JLN_TXBUF, 0, 32, 0, .RW, 0, 4294967295⟩
def Fld.JLN_RXBUF_DATA : Fld := ⟨.JLN_RXBUF, 0, 32, 0, .RO, 0, 4294967295⟩
/-! Fields of the IRQ block (Tables 23.3). -/
def Fld.IRQ_PEND_PEND : Fld := ⟨.IRQ_PEND, 0, 32, 0, .RO, 0, 4294967295⟩
def Fld.IRQ_PEND_SET_PEND : Fld := ⟨.IRQ_PEND_SET, 0, 32, 0, .W1S, 0, 4294967295⟩
def Fld.IRQ_PEND_CLR_PEND : Fld := ⟨.IRQ_PEND_CLR, 0, 32, 0, .W1C, 0, 4294967295⟩
def Fld.IRQ_EN_EN : Fld := ⟨.IRQ_EN, 0, 32, 0, .RO, 0, 4294967295⟩
def Fld.IRQ_EN_SET_EN : Fld := ⟨.IRQ_EN_SET, 0, 32, 0, .W1S, 0, 4294967295⟩
def Fld.IRQ_EN_CLR_EN : Fld := ⟨.IRQ_EN_CLR, 0, 32, 0, .W1C, 0, 4294967295⟩
def Fld.IRQ_ROUTE_ROUTE : Fld := ⟨.IRQ_ROUTE, 0, 32, 0, .RO, 0, 4294967295⟩
def Fld.IRQ_GRP_CFG_HOLDOFF : Fld := ⟨.IRQ_GRP_CFG, 0, 16, 0, .RO, 0, 65535⟩
def Fld.IRQ_GRP_STATUS_HELD : Fld := ⟨.IRQ_GRP_STATUS, 0, 3, 0, .RO, 0, 7⟩
def Fld.IRQ_GRP_STATUS_COALESCED : Fld := ⟨.IRQ_GRP_STATUS, 16, 16, 0, .W1C, 0, 65535⟩
def Fld.IRQ_DOORBELL_SRC : Fld := ⟨.IRQ_DOORBELL, 0, 10, 0, .WO, 896, 1023⟩
def Fld.IRQ_TAKEN_SRC : Fld := ⟨.IRQ_TAKEN, 0, 10, 0, .RO, 0, 1023⟩
def Fld.IRQ_TAKEN_VALID : Fld := ⟨.IRQ_TAKEN, 31, 1, 0, .RO, 0, 1⟩
def Fld.IRQ_PIN_CFG_FILT : Fld := ⟨.IRQ_PIN_CFG, 0, 8, 0, .RO, 0, 255⟩
def Fld.IRQ_PIN_CFG_SENSE : Fld := ⟨.IRQ_PIN_CFG, 8, 3, 0, .RO, 0, 7⟩
def Fld.IRQ_PIN_CFG_FCLK : Fld := ⟨.IRQ_PIN_CFG, 12, 1, 0, .RO, 0, 1⟩
def Fld.IRQ_PIN_CFG_LEVEL : Fld := ⟨.IRQ_PIN_CFG, 16, 1, 0, .RO, 0, 1⟩
def Fld.IRQ_DB_SENDER_SENDER : Fld := ⟨.IRQ_DB_SENDER, 0, 32, 4294967295, .RO, 0, 4294967295⟩
/-! Fields of the MBX block (Tables 24.2). -/
def Fld.MBX_DATA_DATA : Fld := ⟨.MBX_DATA, 0, 32, 0, .RO, 0, 4294967295⟩
def Fld.MBX_HDR_COUNT : Fld := ⟨.MBX_HDR, 0, 5, 0, .RW, 0, 31⟩
def Fld.MBX_HDR_KIND : Fld := ⟨.MBX_HDR, 8, 8, 0, .RW, 0, 255⟩
def Fld.MBX_HDR_SENDER : Fld := ⟨.MBX_HDR, 16, 4, 15, .RO, 0, 15⟩
def Fld.MBX_STATUS_STATE : Fld := ⟨.MBX_STATUS, 0, 2, 0, .RO, 0, 1⟩
def Fld.MBX_STATUS_TAKEN : Fld := ⟨.MBX_STATUS, 8, 1, 0, .W1C, 0, 1⟩
def Fld.MBX_STATUS_COLLISION : Fld := ⟨.MBX_STATUS, 9, 1, 0, .W1C, 0, 1⟩
def Fld.MBX_STATUS_TIMEOUT : Fld := ⟨.MBX_STATUS, 10, 1, 0, .W1C, 0, 1⟩
def Fld.MBX_STATUS_WITHDRAWN : Fld := ⟨.MBX_STATUS, 11, 1, 0, .W1C, 0, 1⟩
def Fld.MBX_STATUS_NOTICKET : Fld := ⟨.MBX_STATUS, 12, 1, 0, .W1C, 0, 1⟩
def Fld.MBX_STATUS_TICKET : Fld := ⟨.MBX_STATUS, 16, 16, 0, .RO, 0, 65535⟩
def Fld.MBX_CTRL_TAKE : Fld := ⟨.MBX_CTRL, 0, 1, 0, .WO, 0, 1⟩
def Fld.MBX_CTRL_WITHDRAW : Fld := ⟨.MBX_CTRL, 1, 1, 0, .WO, 0, 1⟩
def Fld.MBX_CFG_RECEIVER : Fld := ⟨.MBX_CFG, 0, 2, 0, .RO, 0, 3⟩
def Fld.MBX_CFG_NOTIFY : Fld := ⟨.MBX_CFG, 16, 10, 0, .RO, 0, 1023⟩
def Fld.MBX_CFG_NOTEN : Fld := ⟨.MBX_CFG, 26, 1, 0, .RO, 0, 1⟩
def Fld.MBX_STAMP_LO_TIME : Fld := ⟨.MBX_STAMP_LO, 0, 32, 0, .RO, 0, 4294967295⟩
def Fld.MBX_STAMP_HI_TIME : Fld := ⟨.MBX_STAMP_HI, 0, 32, 0, .RO, 0, 4294967295⟩
def Fld.MBX_CNT_COLLISIONS : Fld := ⟨.MBX_CNT, 0, 16, 0, .RO, 0, 65535⟩
def Fld.MBX_CNT_TIMEOUTS : Fld := ⟨.MBX_CNT, 16, 16, 0, .RO, 0, 65535⟩
def Fld.MBX_STAGE_DATA : Fld := ⟨.MBX_STAGE, 0, 32, 0, .RW, 0, 4294967295⟩
def Fld.MBX_STAGE_STATUS_BADCOUNT : Fld := ⟨.MBX_STAGE_STATUS, 0, 1, 0, .W1C, 0, 1⟩
/-! Fields of the JNL block (Tables 26.5/27.3). -/
def Fld.JNL_CFG_RETAIN : Fld := ⟨.JNL_CFG, 0, 1, 0, .RO, 0, 1⟩
def Fld.JNL_CFG_MIRROR : Fld := ⟨.JNL_CFG, 1, 1, 0, .RO, 0, 1⟩
def Fld.JNL_AXRESUME_AXRESUME : Fld := ⟨.JNL_AXRESUME, 0, 32, 0, .RO, 0, 4294967295⟩
def Fld.JNL_STATUS_SOURCE : Fld := ⟨.JNL_STATUS, 0, 2, 0, .RO, 0, 3⟩
def Fld.JNL_STATUS_PINUSED : Fld := ⟨.JNL_STATUS, 8, 9, 0, .RO, 0, 511⟩
def Fld.JNL_STATUS_OPEN : Fld := ⟨.JNL_STATUS, 17, 7, 0, .RO, 0, 127⟩
def Fld.JNL_STATUS_REPLAYED : Fld := ⟨.JNL_STATUS, 24, 8, 0, .RO, 0, 255⟩
def Fld.JNL_SEQ_SEQ : Fld := ⟨.JNL_SEQ, 0, 32, 0, .RO, 0, 4294967295⟩
def Fld.JNL_MIR_SEQ_SEQ : Fld := ⟨.JNL_MIR_SEQ, 0, 32, 0, .RO, 0, 4294967295⟩
def Fld.JNL_PIN_ACK_SEQ : Fld := ⟨.JNL_PIN_ACK, 0, 32, 0, .WO, 0, 4294967295⟩
def Fld.JNL_EVT_REPLAY : Fld := ⟨.JNL_EVT, 0, 1, 0, .W1C, 0, 1⟩
def Fld.JNL_EVT_JNL_PINFULL : Fld := ⟨.JNL_EVT, 1, 1, 0, .W1C, 0, 1⟩
def Fld.JNL_EVT_MIRLAG : Fld := ⟨.JNL_EVT, 2, 1, 0, .W1C, 0, 1⟩
def Fld.JNL_EVT_MIRFAIL : Fld := ⟨.JNL_EVT, 3, 1, 0, .W1C, 0, 1⟩
def Fld.JNL_EVT_BADREC : Fld := ⟨.JNL_EVT, 4, 1, 0, .W1C, 0, 1⟩
def Fld.JNL_CNT_MIRLAG : Fld := ⟨.JNL_CNT, 0, 16, 0, .RO, 0, 65535⟩
def Fld.JNL_CNT_BADREC : Fld := ⟨.JNL_CNT, 16, 16, 0, .RO, 0, 65535⟩
def Fld.JNL_PIN_STATUS_FULL : Fld := ⟨.JNL_PIN_STATUS, 0, 1, 0, .RO, 0, 1⟩
def Fld.JNL_PIN_STATUS_QUEUED : Fld := ⟨.JNL_PIN_STATUS, 8, 6, 0, .RO, 0, 63⟩
def Fld.JNL_PIN_STATUS_LOST : Fld := ⟨.JNL_PIN_STATUS, 16, 16, 0, .RO, 0, 65535⟩
def Fld.JNL_OP_TICKET : Fld := ⟨.JNL_OP, 0, 16, 0, .RO, 0, 65535⟩
def Fld.JNL_OP_OPKIND : Fld := ⟨.JNL_OP, 16, 3, 0, .RO, 0, 7⟩
def Fld.JNL_OP_STATE : Fld := ⟨.JNL_OP, 20, 2, 0, .RO, 0, 3⟩
def Fld.JNL_OP_PROG_PROG : Fld := ⟨.JNL_OP_PROG, 0, 30, 0, .RO, 0, 1073741823⟩
def Fld.JNL_OP_PROG_REPLAYS : Fld := ⟨.JNL_OP_PROG, 30, 2, 0, .RO, 0, 3⟩
/-! Fields of the UCR block (Tables 28.4). -/
def Fld.UCR_CFG_CHARGE : Fld := ⟨.UCR_CFG, 0, 1, 0, .RO, 0, 1⟩
def Fld.UCR_CFG_ALARMWAKE : Fld := ⟨.UCR_CFG, 1, 1, 0, .RO, 0, 1⟩
def Fld.UCR_CFG_TAMPWAKE : Fld := ⟨.UCR_CFG, 2, 1, 0, .RO, 0, 1⟩
def Fld.UCR_CFG_VCHG : Fld := ⟨.UCR_CFG, 8, 8, 0, .RO, 0, 255⟩
def Fld.UCR_CFG_VBAKWARN : Fld := ⟨.UCR_CFG, 16, 8, 0, .RO, 0, 255⟩
def Fld.UCR_CFG_WAKETMO : Fld := ⟨.UCR_CFG, 24, 8, 0, .RO, 0, 255⟩
def Fld.UCR_PWRLOW_PWRLOW : Fld := ⟨.UCR_PWRLOW, 0, 16, 0, .RO, 0, 65535⟩
def Fld.UCR_STATUS_UVALID : Fld := ⟨.UCR_STATUS, 0, 1, 0, .RO, 0, 1⟩
def Fld.UCR_STATUS_HARV : Fld := ⟨.UCR_STATUS, 1, 2, 0, .RO, 0, 3⟩
def Fld.UCR_STATUS_PFAIL : Fld := ⟨.UCR_STATUS, 4, 1, 0, .RO, 0, 1⟩
def Fld.UCR_STATUS_PREPDONE : Fld := ⟨.UCR_STATUS, 5, 1, 0, .RO, 0, 1⟩
def Fld.UCR_STATUS_VBAKLOW : Fld := ⟨.UCR_STATUS, 6, 1, 0, .RO, 0, 1⟩
def Fld.UCR_STATUS_VLDLOW : Fld := ⟨.UCR_STATUS, 7, 1, 0, .RO, 0, 1⟩
def Fld.UCR_STATUS_WAKESRC : Fld := ⟨.UCR_STATUS, 8, 4, 0, .RO, 0, 15⟩
def Fld.UCR_STATUS_UWAKEN : Fld := ⟨.UCR_STATUS, 12, 4, 0, .RO, 0, 15⟩
def Fld.UCR_TIME_LO_COUNT : Fld := ⟨.UCR_TIME_LO, 0, 32, 0, .RO, 0, 4294967295⟩
def Fld.UCR_TIME_HI_COUNT : Fld := ⟨.UCR_TIME_HI, 0, 16, 0, .RO, 0, 65535⟩
def Fld.UCR_ALARM_LO_ALARM : Fld := ⟨.UCR_ALARM_LO, 0, 32, 0, .RW, 0, 4294967295⟩
def Fld.UCR_ALARM_HI_ALARM : Fld := ⟨.UCR_ALARM_HI, 0, 16, 0, .RW, 0, 65535⟩
def Fld.UCR_MEAS_VBAK : Fld := ⟨.UCR_MEAS, 0, 10, 0, .RO, 0, 1023⟩
def Fld.UCR_MEAS_VHARV : Fld := ⟨.UCR_MEAS, 16, 10, 0, .RO, 0, 1023⟩
def Fld.UCR_EVT_PFAIL : Fld := ⟨.UCR_EVT, 0, 1, 0, .W1C, 0, 1⟩
def Fld.UCR_EVT_WAKE : Fld := ⟨.UCR_EVT, 1, 1, 0, .W1C, 0, 1⟩
def Fld.UCR_EVT_UNWIT : Fld := ⟨.UCR_EVT, 2, 1, 0, .W1C, 0, 1⟩
def Fld.UCR_EVT_VBAKLOW : Fld := ⟨.UCR_EVT, 3, 1, 0, .W1C, 0, 1⟩
def Fld.UCR_EVT_HARVCHG : Fld := ⟨.UCR_EVT, 4, 1, 0, .W1C, 0, 1⟩
def Fld.UCR_EVT_WAKEFAIL : Fld := ⟨.UCR_EVT, 5, 1, 0, .W1C, 0, 1⟩
def Fld.UCR_EVT_VLDLOW : Fld := ⟨.UCR_EVT, 6, 1, 0, .W1C, 0, 1⟩
def Fld.UCR_CNT_WAKEFAIL : Fld := ⟨.UCR_CNT, 0, 16, 0, .RO, 0, 65535⟩
/-! Fields of the FLT block (Tables 29.5). -/
def Fld.FLT_DEV_F4 : Fld := ⟨.FLT_DEV, 0, 1, 0, .RO, 0, 1⟩
def Fld.FLT_DEV_SAFEHOLD : Fld := ⟨.FLT_DEV, 1, 1, 0, .RO, 0, 1⟩
def Fld.FLT_DEV_F3CORE : Fld := ⟨.FLT_DEV, 2, 2, 0, .RO, 0, 3⟩
def Fld.FLT_DEV_AUTOREL : Fld := ⟨.FLT_DEV, 8, 1, 0, .RO, 0, 1⟩
def Fld.FLT_DEV_STALEPER : Fld := ⟨.FLT_DEV, 16, 8, 0, .RO, 0, 255⟩
def Fld.FLT_EVT_F1 : Fld := ⟨.FLT_EVT, 0, 1, 0, .W1C, 0, 1⟩
def Fld.FLT_EVT_F2 : Fld := ⟨.FLT_EVT, 1, 1, 0, .W1C, 0, 1⟩
def Fld.FLT_EVT_F3 : Fld := ⟨.FLT_EVT, 2, 1, 0, .W1C, 0, 1⟩
def Fld.FLT_EVT_F4 : Fld := ⟨.FLT_EVT, 3, 1, 0, .W1C, 0, 1⟩
def Fld.FLT_EVT_DISCREPANCY : Fld := ⟨.FLT_EVT, 4, 1, 0, .W1C, 0, 1⟩
def Fld.FLT_EVT_STALE : Fld := ⟨.FLT_EVT, 5, 1, 0, .W1C, 0, 1⟩
def Fld.FLT_EVT_CLRREF : Fld := ⟨.FLT_EVT, 6, 1, 0, .W1C, 0, 1⟩
def Fld.FLT_CNT_F1 : Fld := ⟨.FLT_CNT, 0, 16, 0, .RO, 0, 65535⟩
def Fld.FLT_CNT_F2 : Fld := ⟨.FLT_CNT, 16, 16, 0, .RO, 0, 65535⟩
def Fld.FLT_CNT2_DISCREP : Fld := ⟨.FLT_CNT2, 0, 16, 0, .RO, 0, 65535⟩
def Fld.FLT_CNT2_STALE : Fld := ⟨.FLT_CNT2, 16, 16, 0, .RO, 0, 65535⟩
def Fld.FLT_LAST_CLASS : Fld := ⟨.FLT_LAST, 0, 3, 0, .RO, 0, 7⟩
def Fld.FLT_LAST_SRCBLK : Fld := ⟨.FLT_LAST, 8, 8, 0, .RO, 0, 255⟩
def Fld.FLT_LAST_UNIT : Fld := ⟨.FLT_LAST, 16, 16, 0, .RO, 0, 65535⟩
def Fld.FLT_CNV_F1 : Fld := ⟨.FLT_CNV, 0, 1, 0, .RO, 0, 1⟩
def Fld.FLT_CNV_F2 : Fld := ⟨.FLT_CNV, 1, 1, 0, .RO, 0, 1⟩
def Fld.FLT_CNV_F3 : Fld := ⟨.FLT_CNV, 2, 1, 0, .RO, 0, 1⟩
def Fld.FLT_CNV_F4 : Fld := ⟨.FLT_CNV, 3, 1, 0, .RO, 0, 1⟩
def Fld.FLT_CNV_CAUSE : Fld := ⟨.FLT_CNV, 8, 8, 0, .RO, 0, 255⟩
def Fld.FLT_CNV_CLR_CONV : Fld := ⟨.FLT_CNV_CLR, 0, 8, 0, .WO, 0, 255⟩
def Fld.FLT_STALE_STALE : Fld := ⟨.FLT_STALE, 0, 32, 0, .RO, 0, 4294967295⟩
def Fld.FLT_OUT_OUT : Fld := ⟨.FLT_OUT, 0, 32, 0, .RO, 0, 4294967295⟩
def Fld.FLT_SVC_CTRL_LEG : Fld := ⟨.FLT_SVC_CTRL, 0, 8, 0, .WO, 0, 255⟩
def Fld.FLT_SVC_CTRL_OUT : Fld := ⟨.FLT_SVC_CTRL, 8, 1, 0, .WO, 0, 1⟩
def Fld.FLT_SVC_CTRL_IN : Fld := ⟨.FLT_SVC_CTRL, 9, 1, 0, .WO, 0, 1⟩
/-! Fields of the DBG block (Tables 30.4). -/
def Fld.DBG_CORE_CTRL_HALT : Fld := ⟨.DBG_CORE_CTRL, 0, 1, 0, .WO, 0, 1⟩
def Fld.DBG_CORE_CTRL_RESUME : Fld := ⟨.DBG_CORE_CTRL, 1, 1, 0, .WO, 0, 1⟩
def Fld.DBG_CORE_CTRL_STEP : Fld := ⟨.DBG_CORE_CTRL, 2, 1, 0, .WO, 0, 1⟩
def Fld.DBG_CORE_STATUS_HALTED : Fld := ⟨.DBG_CORE_STATUS, 0, 1, 0, .RO, 0, 1⟩
def Fld.DBG_CORE_STATUS_CAUSE : Fld := ⟨.DBG_CORE_STATUS, 1, 3, 0, .RO, 0, 7⟩
def Fld.DBG_PC_PC : Fld := ⟨.DBG_PC, 0, 32, 0, .RW, 0, 4294967295⟩
def Fld.DBG_BP_EN : Fld := ⟨.DBG_BP, 0, 1, 0, .RW, 0, 1⟩
def Fld.DBG_BP_MON : Fld := ⟨.DBG_BP, 1, 1, 0, .RW, 0, 1⟩
def Fld.DBG_BP_ADDR : Fld := ⟨.DBG_BP, 2, 30, 0, .RW, 0, 1073741823⟩
def Fld.DBG_WP_ADDR_ADDR : Fld := ⟨.DBG_WP_ADDR, 0, 32, 0, .RW, 0, 4294967295⟩
def Fld.DBG_WP_CFG_EN : Fld := ⟨.DBG_WP_CFG, 0, 1, 0, .RW, 0, 1⟩
def Fld.DBG_WP_CFG_MON : Fld := ⟨.DBG_WP_CFG, 1, 1, 0, .RW, 0, 1⟩
def Fld.DBG_WP_CFG_RD : Fld := ⟨.DBG_WP_CFG, 2, 1, 0, .RW, 0, 1⟩
def Fld.DBG_WP_CFG_WR : Fld := ⟨.DBG_WP_CFG, 3, 1, 0, .RW, 0, 1⟩
def Fld.DBG_WP_CFG_MASK : Fld := ⟨.DBG_WP_CFG, 8, 5, 0, .RW, 0, 31⟩
def Fld.DBG_GREG_G : Fld := ⟨.DBG_GREG, 0, 32, 0, .RW, 0, 4294967295⟩
def Fld.DBG_STATUS_SCANREF : Fld := ⟨.DBG_STATUS, 0, 1, 0, .W1C, 0, 1⟩
def Fld.DBG_STATUS_TESTEN : Fld := ⟨.DBG_STATUS, 1, 1, 0, .RO, 0, 1⟩
/-! Fields of the VST block (Tables 2.6/2.7). -/
def Fld.VST_STATUS_STATE : Fld := ⟨.VST_STATUS, 0, 2, 0, .RO, 0, 3⟩
def Fld.VST_STATUS_SLOT : Fld := ⟨.VST_STATUS, 4, 1, 0, .RO, 0, 1⟩
def Fld.VST_STATUS_SLOTB : Fld := ⟨.VST_STATUS, 5, 1, 0, .RO, 0, 1⟩
def Fld.VST_STATUS_SKIPPED : Fld := ⟨.VST_STATUS, 16, 16, 0, .RO, 0, 65535⟩
def Fld.VST_IMG_SEQ_SEQ : Fld := ⟨.VST_IMG_SEQ, 0, 32, 0, .RO, 0, 4294967295⟩
def Fld.VST_IMG_INFO_MINREV : Fld := ⟨.VST_IMG_INFO, 0, 8, 0, .RO, 0, 255⟩
def Fld.VST_IMG_INFO_STARTMODE : Fld := ⟨.VST_IMG_INFO, 8, 2, 0, .RO, 0, 3⟩
def Fld.VST_IMG_INFO_FORMAT : Fld := ⟨.VST_IMG_INFO, 16, 16, 0, .RO, 0, 65535⟩
def Fld.VST_REC_COUNT_COUNT : Fld := ⟨.VST_REC_COUNT, 0, 14, 0, .RO, 0, 16383⟩
def Fld.VST_REJ_REASON : Fld := ⟨.VST_REJ, 0, 8, 0, .RO, 0, 255⟩
def Fld.VST_REJ_INDEX : Fld := ⟨.VST_REJ, 16, 13, 0, .RO, 0, 8191⟩
def Fld.VST_REJ_OFFSET_OFFSET : Fld := ⟨.VST_REJ_OFFSET, 0, 32, 0, .RO, 0, 4294967295⟩
def Fld.VST_REJ_TYPE_TYPE : Fld := ⟨.VST_REJ_TYPE, 0, 16, 0, .RO, 0, 65535⟩
def Fld.VST_REJ_TYPE_INST : Fld := ⟨.VST_REJ_TYPE, 16, 16, 0, .RO, 0, 65535⟩
def Fld.VST_OVL_LEN_LEN : Fld := ⟨.VST_OVL_LEN, 0, 13, 0, .RO, 0, 8191⟩
def Fld.VST_OVL_LEN_PATCHES : Fld := ⟨.VST_OVL_LEN, 16, 10, 0, .RO, 0, 1023⟩
def Fld.VST_IMG_HASH_HASH : Fld := ⟨.VST_IMG_HASH, 0, 32, 0, .RO, 0, 4294967295⟩

/-- The fields of each register, lowest first (the block chapters). -/
def Reg.fields : Reg → List Fld
  | .SYS_ID => [Fld.SYS_ID_MINOR, Fld.SYS_ID_MAJOR, Fld.SYS_ID_VENDOR, Fld.SYS_ID_PART]
  | .SYS_START => [Fld.SYS_START_STEP, Fld.SYS_START_RESUMED, Fld.SYS_START_TBRESTART, Fld.SYS_START_MISSING]
  | .SYS_CORE_ARM => [Fld.SYS_CORE_ARM_ARM0, Fld.SYS_CORE_ARM_ARM1]
  | .SYS_MODE => [Fld.SYS_MODE_CURRENT, Fld.SYS_MODE_PENDING, Fld.SYS_MODE_PEND, Fld.SYS_MODE_QP_FORCED, Fld.SYS_MODE_SRC]
  | .SYS_MODE_REQ => [Fld.SYS_MODE_REQ_MODE, Fld.SYS_MODE_REQ_CANCEL]
  | .SYS_MODE_RESULT => [Fld.SYS_MODE_RESULT_RESULT, Fld.SYS_MODE_RESULT_TICKET]
  | .SYS_MODE_TIME_LO => [Fld.SYS_MODE_TIME_LO_TIME]
  | .SYS_MODE_TIME_HI => [Fld.SYS_MODE_TIME_HI_TIME]
  | .SYS_NV_STATE => [Fld.SYS_NV_STATE_LOCKOUT, Fld.SYS_NV_STATE_HALT, Fld.SYS_NV_STATE_RELREF, Fld.SYS_NV_STATE_VECTOR, Fld.SYS_NV_STATE_CHECK]
  | .SYS_NV_PC => [Fld.SYS_NV_PC_PC]
  | .SYS_NV_STATUS => [Fld.SYS_NV_STATUS_STATUS]
  | .SYS_NV_SP => [Fld.SYS_NV_SP_SP]
  | .SYS_NV_TIME_LO => [Fld.SYS_NV_TIME_LO_TIME]
  | .SYS_NV_TIME_HI => [Fld.SYS_NV_TIME_HI_TIME]
  | .SYS_NV_RELEASE => [Fld.SYS_NV_RELEASE_CORE0, Fld.SYS_NV_RELEASE_CORE1]
  | .SYS_CHN_STATUS => [Fld.SYS_CHN_STATUS_LOCK, Fld.SYS_CHN_STATUS_KATFAIL, Fld.SYS_CHN_STATUS_TRNGFAIL]
  | .SYS_CHN_EVAL => [Fld.SYS_CHN_EVAL_UNLOCKED, Fld.SYS_CHN_EVAL_TESTEN, Fld.SYS_CHN_EVAL_DEVKEY, Fld.SYS_CHN_EVAL_SEALPEND, Fld.SYS_CHN_EVAL_EPOCHFULL]
  | .SYS_CHN_FLOOR => [Fld.SYS_CHN_FLOOR_FLOOR]
  | .SYS_CHN_FLOOR_LEFT => [Fld.SYS_CHN_FLOOR_LEFT_LEFT]
  | .SYS_CHN_KEYUSE => [Fld.SYS_CHN_KEYUSE_USE]
  | .SYS_CHN_SIGSLOT => [Fld.SYS_CHN_SIGSLOT_SLOT]
  | .SYS_CHN_CNT => [Fld.SYS_CHN_CNT_BADCMD]
  | .SYS_CHN_DEVPUB => [Fld.SYS_CHN_DEVPUB_KEY]
  | .SYS_TAMPER => [Fld.SYS_TAMPER_OPEN, Fld.SYS_TAMPER_PENDREC, Fld.SYS_TAMPER_COUNT]
  | .SYS_CHN_DEVID_LO => [Fld.SYS_CHN_DEVID_LO_DEVID]
  | .SYS_CHN_DEVID_HI => [Fld.SYS_CHN_DEVID_HI_DEVID]
  | .SYS_CHN_RES => [Fld.SYS_CHN_RES_RESULT, Fld.SYS_CHN_RES_KIND, Fld.SYS_CHN_RES_TICKET]
  | .SYS_CHN_EPOCH => [Fld.SYS_CHN_EPOCH_EPOCH, Fld.SYS_CHN_EPOCH_EXHAUSTED]
  | .SYS_CHN_PROV_CMD => [Fld.SYS_CHN_PROV_CMD_SLOT, Fld.SYS_CHN_PROV_CMD_USE, Fld.SYS_CHN_PROV_CMD_GO, Fld.SYS_CHN_PROV_CMD_LOCK]
  | .SYS_CHN_PROV_RES => [Fld.SYS_CHN_PROV_RES_PRES]
  | .SYS_CHN_PROV_KEY => [Fld.SYS_CHN_PROV_KEY_KEY]
  | .CLK_CFG => [Fld.CLK_CFG_PLLT_REFSTG, Fld.CLK_CFG_PLLS_REFSTG, Fld.CLK_CFG_SPREAD]
  | .CLK_LOCK_CFG => [Fld.CLK_LOCK_CFG_W, Fld.CLK_LOCK_CFG_N]
  | .CLK_STATUS => [Fld.CLK_STATUS_PLLT_LOCK, Fld.CLK_STATUS_PLLS_OK, Fld.CLK_STATUS_PLLT_ERR]
  | .CLK_EVENTS => [Fld.CLK_EVENTS_PLLT_UNLOCK, Fld.CLK_EVENTS_PLLS_FREQ]
  | .TB_NOW_LO => [Fld.TB_NOW_LO_TIME]
  | .TB_NOW_HI => [Fld.TB_NOW_HI_TIME]
  | .TB_REF_RANK => [Fld.TB_REF_RANK_RANK0, Fld.TB_REF_RANK_EN0, Fld.TB_REF_RANK_RANK1, Fld.TB_REF_RANK_EN1, Fld.TB_REF_RANK_RANK2, Fld.TB_REF_RANK_EN2, Fld.TB_REF_RANK_RANK3, Fld.TB_REF_RANK_EN3]
  | .TB_REF_CFG => [Fld.TB_REF_CFG_REFIN_FREQ]
  | .TB_STATE => [Fld.TB_STATE_STATE, Fld.TB_STATE_FOLLOW, Fld.TB_STATE_CAND, Fld.TB_STATE_QBUSY, Fld.TB_STATE_PRESENT, Fld.TB_STATE_BARRED]
  | .TB_ORIGIN_LO => [Fld.TB_ORIGIN_LO_ORIGIN]
  | .TB_ORIGIN_HI => [Fld.TB_ORIGIN_HI_ORIGIN]
  | .TB_DEBT_LO => [Fld.TB_DEBT_LO_DEBT]
  | .TB_DEBT_HI => [Fld.TB_DEBT_HI_DEBT]
  | .TB_FREQ => [Fld.TB_FREQ_OFFSET]
  | .TB_SWITCHES => [Fld.TB_SWITCHES_COUNT, Fld.TB_SWITCHES_QFAIL]
  | .ANG_CFG => [Fld.ANG_CFG_KIND, Fld.ANG_CFG_INVERT, Fld.ANG_CFG_LINEPOS, Fld.ANG_CFG_OWNER, Fld.ANG_CFG_SRC, Fld.ANG_CFG_GRIDSRC, Fld.ANG_CFG_BW]
  | .ANG_STATE => [Fld.ANG_STATE_STATE, Fld.ANG_STATE_DIR, Fld.ANG_STATE_UNREF]
  | .ANG_ANGLE_LO => [Fld.ANG_ANGLE_LO_ANGLE]
  | .ANG_ANGLE_HI => [Fld.ANG_ANGLE_HI_ANGLE]
  | .ANG_RATE_LO => [Fld.ANG_RATE_LO_RATE]
  | .ANG_RATE_HI => [Fld.ANG_RATE_HI_RATE]
  | .ANG_STAMP_LO => [Fld.ANG_STAMP_LO_STAMP]
  | .ANG_STAMP_HI => [Fld.ANG_STAMP_HI_STAMP]
  | .ANG_FREQ => [Fld.ANG_FREQ_FREQ]
  | .ANG_EVT => [Fld.ANG_EVT_LOST, Fld.ANG_EVT_REGAIN, Fld.ANG_EVT_REV, Fld.ANG_EVT_WRAP, Fld.ANG_EVT_STEP, Fld.ANG_EVT_OUTSIDE, Fld.ANG_EVT_UNITCHG]
  | .ANG_STEP => [Fld.ANG_STEP_STEP]
  | .ANG_CNT => [Fld.ANG_CNT_WRAPS, Fld.ANG_CNT_ILLEGAL]
  | .ANG_SL_ANGLE_LO => [Fld.ANG_SL_ANGLE_LO_ANGLE]
  | .ANG_SL_ANGLE_HI => [Fld.ANG_SL_ANGLE_HI_ANGLE]
  | .ANG_SL_STAMP_LO => [Fld.ANG_SL_STAMP_LO_STAMP]
  | .ANG_SL_STAMP_HI => [Fld.ANG_SL_STAMP_HI_STAMP]
  | .ANG_QRY_CTRL => [Fld.ANG_QRY_CTRL_TRACKER, Fld.ANG_QRY_CTRL_KIND]
  | .ANG_QRY_IN_LO => [Fld.ANG_QRY_IN_LO_IN]
  | .ANG_QRY_IN_HI => [Fld.ANG_QRY_IN_HI_IN]
  | .ANG_QRY_OUT_LO => [Fld.ANG_QRY_OUT_LO_OUT]
  | .ANG_QRY_OUT_HI => [Fld.ANG_QRY_OUT_HI_OUT]
  | .ANG_QRY_STATUS => [Fld.ANG_QRY_STATUS_READY, Fld.ANG_QRY_STATUS_NEVER, Fld.ANG_QRY_STATUS_LOST, Fld.ANG_QRY_STATUS_FAR]
  | .TWL_SLOT_CFG => [Fld.TWL_SLOT_CFG_TRACKER, Fld.TWL_SLOT_CFG_DIR, Fld.TWL_SLOT_CFG_MATCH, Fld.TWL_SLOT_CFG_OWNER, Fld.TWL_SLOT_CFG_EVLINE, Fld.TWL_SLOT_CFG_AUTOARM]
  | .TWL_SLOT_ACT => [Fld.TWL_SLOT_ACT_KIND, Fld.TWL_SLOT_ACT_ARG]
  | .TWL_SLOT_TGT_LO => [Fld.TWL_SLOT_TGT_LO_TARGET]
  | .TWL_SLOT_TGT_HI => [Fld.TWL_SLOT_TGT_HI_TARGET]
  | .TWL_SLOT_STEP_LO => [Fld.TWL_SLOT_STEP_LO_STEP]
  | .TWL_SLOT_STEP_HI => [Fld.TWL_SLOT_STEP_HI_STEP]
  | .TWL_SLOT_CTRL => [Fld.TWL_SLOT_CTRL_ARM, Fld.TWL_SLOT_CTRL_DISARM]
  | .TWL_SLOT_STATUS => [Fld.TWL_SLOT_STATUS_STATE, Fld.TWL_SLOT_STATUS_LATE, Fld.TWL_SLOT_STATUS_WITHDRAWN, Fld.TWL_SLOT_STATUS_MISSED, Fld.TWL_SLOT_STATUS_UNIT, Fld.TWL_SLOT_STATUS_SKIP, Fld.TWL_SLOT_STATUS_SKIPS]
  | .TWL_PRED_LO => [Fld.TWL_PRED_LO_TIME]
  | .TWL_PRED_HI => [Fld.TWL_PRED_HI_TIME]
  | .TWL_CNT => [Fld.TWL_CNT_LATE, Fld.TWL_CNT_MISSED]
  | .TWL_LATE_LAST => [Fld.TWL_LATE_LAST_SLOT, Fld.TWL_LATE_LAST_CYCLES]
  | .EDG_CNV_CFG => [Fld.EDG_CNV_CFG_SYNC, Fld.EDG_CNV_CFG_SAFE, Fld.EDG_CNV_CFG_OWNER, Fld.EDG_CNV_CFG_LEADER]
  | .EDG_CNV_LEAD => [Fld.EDG_CNV_LEAD_LEAD]
  | .EDG_CNV_PROT => [Fld.EDG_CNV_PROT_TRIPMASK, Fld.EDG_CNV_PROT_MINPULSE]
  | .EDG_CNV_OFFSET => [Fld.EDG_CNV_OFFSET_OFFSET]
  | .EDG_CNV_PERIOD_SH => [Fld.EDG_CNV_PERIOD_SH_PERIOD]
  | .EDG_CNV_COMMIT => [Fld.EDG_CNV_COMMIT_GO]
  | .EDG_CNV_CTRL => [Fld.EDG_CNV_CTRL_ENABLE, Fld.EDG_CNV_CTRL_DISABLE, Fld.EDG_CNV_CTRL_IMMEDIATE, Fld.EDG_CNV_CTRL_CLRTRIP]
  | .EDG_CNV_FORCE => [Fld.EDG_CNV_FORCE_FORCE]
  | .EDG_CNV_STATUS => [Fld.EDG_CNV_STATUS_STATE, Fld.EDG_CNV_STATUS_FORCED, Fld.EDG_CNV_STATUS_ORPHAN, Fld.EDG_CNV_STATUS_SUPERSEDED, Fld.EDG_CNV_STATUS_REFUSED, Fld.EDG_CNV_STATUS_CLAMP, Fld.EDG_CNV_STATUS_REQOVL, Fld.EDG_CNV_STATUS_TRIP]
  | .EDG_CNV_TRIPSRC => [Fld.EDG_CNV_TRIPSRC_TRIPS]
  | .EDG_CNV_BOUND_LO => [Fld.EDG_CNV_BOUND_LO_BOUND]
  | .EDG_CNV_BOUND_HI => [Fld.EDG_CNV_BOUND_HI_BOUND]
  | .EDG_CNV_CNT => [Fld.EDG_CNV_CNT_SUPERSEDED, Fld.EDG_CNV_CNT_REFUSED]
  | .EDG_CNV_PERIODS => [Fld.EDG_CNV_PERIODS_COUNT]
  | .EDG_LEG_ON_SH => [Fld.EDG_LEG_ON_SH_OFFSET]
  | .EDG_LEG_OFF_SH => [Fld.EDG_LEG_OFF_SH_OFFSET]
  | .EDG_LEG_MODE_SH => [Fld.EDG_LEG_MODE_SH_MODE]
  | .EDG_LEG_MAP => [Fld.EDG_LEG_MAP_CONV, Fld.EDG_LEG_MAP_MEMBER]
  | .EDG_LOC_CFG => [Fld.EDG_LOC_CFG_SYNC, Fld.EDG_LOC_CFG_SAFE, Fld.EDG_LOC_CFG_OWNER, Fld.EDG_LOC_CFG_FORCE_LOCK, Fld.EDG_LOC_CFG_POL, Fld.EDG_LOC_CFG_LEADER]
  | .EDG_LOC_PROT => [Fld.EDG_LOC_PROT_TRIPMASK, Fld.EDG_LOC_PROT_MINPULSE]
  | .EDG_LOC_OFFSET => [Fld.EDG_LOC_OFFSET_OFFSET]
  | .EDG_LOC_PERIOD_SH => [Fld.EDG_LOC_PERIOD_SH_PERIOD]
  | .EDG_LOC_ON_SH => [Fld.EDG_LOC_ON_SH_OFFSET]
  | .EDG_LOC_OFF_SH => [Fld.EDG_LOC_OFF_SH_OFFSET]
  | .EDG_LOC_CTRL => [Fld.EDG_LOC_CTRL_ENABLE, Fld.EDG_LOC_CTRL_DISABLE, Fld.EDG_LOC_CTRL_IMMEDIATE, Fld.EDG_LOC_CTRL_CLRTRIP, Fld.EDG_LOC_CTRL_COMMIT]
  | .EDG_LOC_FORCE => [Fld.EDG_LOC_FORCE_FORCE]
  | .EDG_TRIP_CFG => [Fld.EDG_TRIP_CFG_MODE, Fld.EDG_TRIP_CFG_POL, Fld.EDG_TRIP_CFG_FILT, Fld.EDG_TRIP_CFG_WIN, Fld.EDG_TRIP_CFG_WINPOL]
  | .EDG_TRIP_STATUS => [Fld.EDG_TRIP_STATUS_LEVEL, Fld.EDG_TRIP_STATUS_HIT, Fld.EDG_TRIP_STATUS_COUNT]
  | .EDG_BRK_CFG => [Fld.EDG_BRK_CFG_GROUP, Fld.EDG_BRK_CFG_CMP, Fld.EDG_BRK_CFG_EN]
  | .EDG_BRK_STATUS => [Fld.EDG_BRK_STATUS_BRAKING, Fld.EDG_BRK_STATUS_REGEN, Fld.EDG_BRK_STATUS_SAT, Fld.EDG_BRK_STATUS_COUNT]
  | .SEL_BUS_CFG => [Fld.SEL_BUS_CFG_EN, Fld.SEL_BUS_CFG_STARVE_HOLD]
  | .SEL_BUS_STATUS => [Fld.SEL_BUS_STATUS_STATE, Fld.SEL_BUS_STATUS_S15OP, Fld.SEL_BUS_STATUS_S15DROP, Fld.SEL_BUS_STATUS_ADMITTED]
  | .SEL_BUS_EVT => [Fld.SEL_BUS_EVT_DROPLOST, Fld.SEL_BUS_EVT_PATLATE, Fld.SEL_BUS_EVT_CLASH, Fld.SEL_BUS_EVT_DRIFT, Fld.SEL_BUS_EVT_ADMIT, Fld.SEL_BUS_EVT_NEWID]
  | .SEL_BUS_LOAD => [Fld.SEL_BUS_LOAD_PEAKBITS]
  | .SEL_BUS_CNT => [Fld.SEL_BUS_CNT_PATLATE, Fld.SEL_BUS_CNT_CLASH]
  | .SEL_DROP_STATE => [Fld.SEL_DROP_STATE_STATE, Fld.SEL_DROP_STATE_LISTED]
  | .SEL_DROP_DELAY => [Fld.SEL_DROP_DELAY_D]
  | .SEL_DROP_CNT => [Fld.SEL_DROP_CNT_UPCRC, Fld.SEL_DROP_CNT_MISS]
  | .SEL_DROP_SERIAL => [Fld.SEL_DROP_SERIAL_SERIAL]
  | .BTR_ID => [Fld.BTR_ID_PART]
  | .BTR_SERIAL => [Fld.BTR_SERIAL_SERIAL]
  | .BTR_DRIVE_CFG => [Fld.BTR_DRIVE_CFG_MODE, Fld.BTR_DRIVE_CFG_CPEN, Fld.BTR_DRIVE_CFG_BRAKE, Fld.BTR_DRIVE_CFG_SAFE, Fld.BTR_DRIVE_CFG_DT]
  | .BTR_ADAPT_CFG => [Fld.BTR_ADAPT_CFG_TARGET, Fld.BTR_ADAPT_CFG_TOL, Fld.BTR_ADAPT_CFG_SMIN, Fld.BTR_ADAPT_CFG_SMAX, Fld.BTR_ADAPT_CFG_SINIT, Fld.BTR_ADAPT_CFG_ADAPT]
  | .BTR_ADAPT_IMIN => [Fld.BTR_ADAPT_IMIN_IMIN]
  | .BTR_PROT_CFG0 => [Fld.BTR_PROT_CFG0_DSTH, Fld.BTR_PROT_CFG0_OCTH]
  | .BTR_PROT_CFG1 => [Fld.BTR_PROT_CFG1_OVTH, Fld.BTR_PROT_CFG1_OTTH]
  | .BTR_BRAKE_CFG0 => [Fld.BTR_BRAKE_CFG0_PON, Fld.BTR_BRAKE_CFG0_POFF]
  | .BTR_BRAKE_CFG1 => [Fld.BTR_BRAKE_CFG1_RON, Fld.BTR_BRAKE_CFG1_REN, Fld.BTR_BRAKE_CFG1_ROFF]
  | .BTR_PROT_EVT => [Fld.BTR_PROT_EVT_OC, Fld.BTR_PROT_EVT_DESATH, Fld.BTR_PROT_EVT_DESATL, Fld.BTR_PROT_EVT_OVDC, Fld.BTR_PROT_EVT_OT, Fld.BTR_PROT_EVT_GATESTUCK, Fld.BTR_PROT_EVT_CLRREJ]
  | .BTR_PROT_CNT => [Fld.BTR_PROT_CNT_TRIPS, Fld.BTR_PROT_CNT_BRKSW]
  | .BTR_BRAKE_STAT => [Fld.BTR_BRAKE_STAT_BRAKING, Fld.BTR_BRAKE_STAT_REGEN, Fld.BTR_BRAKE_STAT_SAT]
  | .BTR_TRIP_STAMP => [Fld.BTR_TRIP_STAMP_TIME]
  | .BTR_STATE => [Fld.BTR_STATE_STATE, Fld.BTR_STATE_UVP, Fld.BTR_STATE_UVL, Fld.BTR_STATE_UVH, Fld.BTR_STATE_CAUSE]
  | .BTR_STRENGTH => [Fld.BTR_STRENGTH_HON, Fld.BTR_STRENGTH_HOFF, Fld.BTR_STRENGTH_LON, Fld.BTR_STRENGTH_LOFF]
  | .BTR_TSW => [Fld.BTR_TSW_RISE, Fld.BTR_TSW_FALL]
  | .BTR_NTC => [Fld.BTR_NTC_CODE]
  | .BTR_CNT => [Fld.BTR_CNT_NOMEAS, Fld.BTR_CNT_ADAPTLIM]
  | .BTR_AGE => [Fld.BTR_AGE_AGE]
  | .BTR_CTRL => [Fld.BTR_CTRL_CLEAR]
  | .ADC_CORE_CFG => [Fld.ADC_CORE_CFG_TRIG, Fld.ADC_CORE_CFG_EDGE, Fld.ADC_CORE_CFG_OWNER, Fld.ADC_CORE_CFG_INTLV, Fld.ADC_CORE_CFG_DMA, Fld.ADC_CORE_CFG_WMARK]
  | .ADC_CORE_OFS => [Fld.ADC_CORE_OFS_OFS]
  | .ADC_CORE_GAIN => [Fld.ADC_CORE_GAIN_GAIN]
  | .ADC_SEQ_LEN => [Fld.ADC_SEQ_LEN_LEN]
  | .ADC_SEQ_E => [Fld.ADC_SEQ_E_INPUT, Fld.ADC_SEQ_E_COUNT]
  | .ADC_CORE_CTRL => [Fld.ADC_CORE_CTRL_START, Fld.ADC_CORE_CTRL_ENABLE, Fld.ADC_CORE_CTRL_DISABLE]
  | .ADC_CORE_STATUS => [Fld.ADC_CORE_STATUS_STATE, Fld.ADC_CORE_STATUS_LEVEL, Fld.ADC_CORE_STATUS_MATCHED, Fld.ADC_CORE_STATUS_DONE, Fld.ADC_CORE_STATUS_OVERRUN, Fld.ADC_CORE_STATUS_OVF, Fld.ADC_CORE_STATUS_SAT, Fld.ADC_CORE_STATUS_BADLEN, Fld.ADC_CORE_STATUS_IGNSTART]
  | .ADC_FIFO_DATA => [Fld.ADC_FIFO_DATA_DATA]
  | .ADC_FIFO_STAMP => [Fld.ADC_FIFO_STAMP_STAMP]
  | .ADC_DMA_BASE => [Fld.ADC_DMA_BASE_BASE]
  | .ADC_DMA_SIZE => [Fld.ADC_DMA_SIZE_LOG2]
  | .ADC_DMA_WR => [Fld.ADC_DMA_WR_INDEX]
  | .ADC_DMA_RD => [Fld.ADC_DMA_RD_INDEX]
  | .ADC_CNT => [Fld.ADC_CNT_OVERRUN, Fld.ADC_CNT_OVF]
  | .ADC_SKEW => [Fld.ADC_SKEW_SKEW, Fld.ADC_SKEW_GTRIM]
  | .ADC_IN_OFS => [Fld.ADC_IN_OFS_OFS]
  | .ADC_IN_GAIN => [Fld.ADC_IN_GAIN_GAIN]
  | .ADC_IN_LAST => [Fld.ADC_IN_LAST_RESULT, Fld.ADC_IN_LAST_CORE]
  | .ADC_IN_STAMP => [Fld.ADC_IN_STAMP_STAMP]
  | .LSN_CFG => [Fld.LSN_CFG_EN, Fld.LSN_CFG_QTY, Fld.LSN_CFG_GROUP, Fld.LSN_CFG_LATCH, Fld.LSN_CFG_LEG]
  | .LSN_LATCHSLOT => [Fld.LSN_LATCHSLOT_SLOT]
  | .LSN_OFS => [Fld.LSN_OFS_OFS]
  | .LSN_GAIN => [Fld.LSN_GAIN_GAIN]
  | .LSN_LAST => [Fld.LSN_LAST_VALUE, Fld.LSN_LAST_SAT, Fld.LSN_LAST_MISS]
  | .LSN_LAST_STAMP => [Fld.LSN_LAST_STAMP_STAMP]
  | .LSN_LATCHED => [Fld.LSN_LATCHED_VALUE, Fld.LSN_LATCHED_SAT, Fld.LSN_LATCHED_MISS, Fld.LSN_LATCHED_VALID]
  | .LSN_LATCH_STAMP => [Fld.LSN_LATCH_STAMP_STAMP]
  | .LSN_GRP_STATUS => [Fld.LSN_GRP_STATUS_READY, Fld.LSN_GRP_STATUS_MISS]
  | .LSN_GRP_CNT => [Fld.LSN_GRP_CNT_MISS]
  | .LSN_CTRL => [Fld.LSN_CTRL_ENABLE, Fld.LSN_CTRL_DISABLE, Fld.LSN_CTRL_LEG]
  | .CMP_CFG => [Fld.CMP_CFG_POS, Fld.CMP_CFG_NEGSEL, Fld.CMP_CFG_NEGPIN, Fld.CMP_CFG_MODE, Fld.CMP_CFG_HYST, Fld.CMP_CFG_INV, Fld.CMP_CFG_OWNER, Fld.CMP_CFG_FILT]
  | .CMP_ROUTE => [Fld.CMP_ROUTE_IRQEDGE, Fld.CMP_ROUTE_CAPEDGE, Fld.CMP_ROUTE_WAKE, Fld.CMP_ROUTE_USER]
  | .CMP_DAC => [Fld.CMP_DAC_DAC]
  | .CMP_RAMP => [Fld.CMP_RAMP_RAMPSRC, Fld.CMP_RAMP_SLOPE]
  | .CMP_VIGIL => [Fld.CMP_VIGIL_VDAC]
  | .CMP_STATUS => [Fld.CMP_STATUS_STATE, Fld.CMP_STATUS_OUT, Fld.CMP_STATUS_RAMPING, Fld.CMP_STATUS_RISE, Fld.CMP_STATUS_FALL, Fld.CMP_STATUS_MODECHG]
  | .CMP_TEST => [Fld.CMP_TEST_TIE, Fld.CMP_TEST_SWAP]
  | .CMP_CTRL => [Fld.CMP_CTRL_ENABLE, Fld.CMP_CTRL_DISABLE]
  | .CMP_CAP_LO => [Fld.CMP_CAP_LO_STAMP]
  | .CMP_CAP_HI => [Fld.CMP_CAP_HI_STAMP]
  | .CMP_CNT => [Fld.CMP_CNT_EDGES]
  | .GRD_CFG => [Fld.GRD_CFG_TRACKER, Fld.GRD_CFG_CONV, Fld.GRD_CFG_CPIN, Fld.GRD_CFG_ISLEN, Fld.GRD_CFG_ACTEN, Fld.GRD_CFG_TOKEN, Fld.GRD_CFG_TOKREQ, Fld.GRD_CFG_AUTORECON]
  | .GRD_RATED => [Fld.GRD_RATED_IRATED, Fld.GRD_RATED_VNOM]
  | .GRD_IMAX => [Fld.GRD_IMAX_IMAX, Fld.GRD_IMAX_IQMAX]
  | .GRD_VBAND => [Fld.GRD_VBAND_VNMIN, Fld.GRD_VBAND_VNMAX]
  | .GRD_FBAND => [Fld.GRD_FBAND_FNMIN, Fld.GRD_FBAND_FNMAX]
  | .GRD_RIDE => [Fld.GRD_RIDE_KRIDE, Fld.GRD_RIDE_CURVES, Fld.GRD_RIDE_PRAMP]
  | .GRD_RATES => [Fld.GRD_RATES_SPRATE, Fld.GRD_RATES_STOPMS]
  | .GRD_ROCOF => [Fld.GRD_ROCOF_ROCOF_TH, Fld.GRD_ROCOF_ROCOF_WIN]
  | .GRD_VSN => [Fld.GRD_VSN_VS_TH, Fld.GRD_VSN_NUDGE]
  | .GRD_NPER => [Fld.GRD_NPER_NUDGE_PER, Fld.GRD_NPER_ARESP, Fld.GRD_NPER_TOKAGE]
  | .GRD_PED => [Fld.GRD_PED_PEDID]
  | .GRD_RECON => [Fld.GRD_RECON_RECON, Fld.GRD_RECON_CLOSE_MS]
  | .GRD_CTRL => [Fld.GRD_CTRL_ENABLE, Fld.GRD_CTRL_DISABLE, Fld.GRD_CTRL_IMMEDIATE, Fld.GRD_CTRL_RECONNECT, Fld.GRD_CTRL_CLRTRIP]
  | .GRD_STATUS => [Fld.GRD_STATUS_STATE, Fld.GRD_STATUS_CAUSE, Fld.GRD_STATUS_TOKEN, Fld.GRD_STATUS_EXC, Fld.GRD_STATUS_DECLARE, Fld.GRD_STATUS_RIDEIN, Fld.GRD_STATUS_RIDEOUT, Fld.GRD_STATUS_LIMIT, Fld.GRD_STATUS_TOKBAD]
  | .GRD_ID_SP => [Fld.GRD_ID_SP_ID]
  | .GRD_IQ_SP => [Fld.GRD_IQ_SP_IQ]
  | .GRD_REF_THETA => [Fld.GRD_REF_THETA_THETA]
  | .GRD_REF_DQ => [Fld.GRD_REF_DQ_ID, Fld.GRD_REF_DQ_IQ]
  | .GRD_ISL_MEAS => [Fld.GRD_ISL_MEAS_ROCOF, Fld.GRD_ISL_MEAS_VSHIFT]
  | .GRD_ISL_RESP => [Fld.GRD_ISL_RESP_RATIO, Fld.GRD_ISL_RESP_EVID]
  | .GRD_CNT => [Fld.GRD_CNT_TRIPS, Fld.GRD_CNT_NUDGES]
  | .GRD_RIDE_CNT => [Fld.GRD_RIDE_CNT_RIDES, Fld.GRD_RIDE_CNT_TOKBAD]
  | .RIDE_W => [Fld.RIDE_W_WORD]
  | .MPPT_CFG => [Fld.MPPT_CFG_CONV, Fld.MPPT_CFG_VIN, Fld.MPPT_CFG_ICH]
  | .MPPT_VLIM => [Fld.MPPT_VLIM_VMIN, Fld.MPPT_VLIM_VMAX]
  | .MPPT_SLIM => [Fld.MPPT_SLIM_SMIN, Fld.MPPT_SLIM_SMAX]
  | .MPPT_TIM => [Fld.MPPT_TIM_STEP_MS, Fld.MPPT_TIM_DWELL, Fld.MPPT_TIM_SCAN_MIN]
  | .MPPT_PDEAD => [Fld.MPPT_PDEAD_PDEAD]
  | .MPPT_DROP => [Fld.MPPT_DROP_DROP]
  | .MPPT_CTRL => [Fld.MPPT_CTRL_ENABLE, Fld.MPPT_CTRL_DISABLE, Fld.MPPT_CTRL_IMMEDIATE, Fld.MPPT_CTRL_SCAN]
  | .MPPT_STATUS => [Fld.MPPT_STATUS_STATE, Fld.MPPT_STATUS_DIR, Fld.MPPT_STATUS_SCANDONE, Fld.MPPT_STATUS_ABORT, Fld.MPPT_STATUS_STALE, Fld.MPPT_STATUS_DARK]
  | .MPPT_VREF => [Fld.MPPT_VREF_VREF, Fld.MPPT_VREF_STEP]
  | .MPPT_VMPP => [Fld.MPPT_VMPP_VMPP]
  | .MPPT_PMAX => [Fld.MPPT_PMAX_PMAX]
  | .MPPT_CNT => [Fld.MPPT_CNT_SCANS, Fld.MPPT_CNT_ABORTS]
  | .AXS_CFG => [Fld.AXS_CFG_KIND, Fld.AXS_CFG_CONV, Fld.AXS_CFG_TRACKER, Fld.AXS_CFG_JNL]
  | .AXS_RATE => [Fld.AXS_RATE_RATE]
  | .AXS_JERK => [Fld.AXS_JERK_JERK]
  | .AXS_ZDWELL => [Fld.AXS_ZDWELL_ZDWELL]
  | .AXS_LIM_LO => [Fld.AXS_LIM_LO_LIM]
  | .AXS_LIM_HI => [Fld.AXS_LIM_HI_LIM]
  | .AXS_LIMFLAGS => [Fld.AXS_LIMFLAGS_OVRUN, Fld.AXS_LIMFLAGS_LIMEN]
  | .AXS_VMAX => [Fld.AXS_VMAX_VMAX]
  | .AXS_STOPRATE => [Fld.AXS_STOPRATE_STOPRATE]
  | .AXS_STOPJERK => [Fld.AXS_STOPJERK_STOPJERK]
  | .AXS_SP => [Fld.AXS_SP_SP]
  | .AXS_CTRL => [Fld.AXS_CTRL_ENABLE, Fld.AXS_CTRL_DISABLE, Fld.AXS_CTRL_IMMEDIATE, Fld.AXS_CTRL_CLRFLT]
  | .AXS_STATUS => [Fld.AXS_STATUS_STATE, Fld.AXS_STATUS_SETTLED, Fld.AXS_STATUS_REGEN, Fld.AXS_STATUS_DIR, Fld.AXS_STATUS_LIMIT, Fld.AXS_STATUS_PAYLIM, Fld.AXS_STATUS_PAYLOST, Fld.AXS_STATUS_OVERRUN, Fld.AXS_STATUS_NOTICKET, Fld.AXS_STATUS_SETTLE]
  | .AXS_OUT => [Fld.AXS_OUT_R]
  | .AXS_ACC => [Fld.AXS_ACC_A]
  | .AXS_STAMP => [Fld.AXS_STAMP_STAMP]
  | .AXS_CNT => [Fld.AXS_CNT_REVERSALS, Fld.AXS_CNT_LIMITS]
  | .AUX_CFG => [Fld.AUX_CFG_EN, Fld.AUX_CFG_TRACK, Fld.AUX_CFG_LEADER, Fld.AUX_CFG_CMP]
  | .AUX_PERIOD => [Fld.AUX_PERIOD_PERIOD]
  | .AUX_TGT => [Fld.AUX_TGT_VTGT, Fld.AUX_TGT_FBFS]
  | .AUX_SS => [Fld.AUX_SS_TSS, Fld.AUX_SS_DMAX, Fld.AUX_SS_LEB]
  | .AUX_LIM => [Fld.AUX_LIM_IMAX, Fld.AUX_LIM_SLOPE]
  | .AUX_B01 => [Fld.AUX_B01_B0, Fld.AUX_B01_B1]
  | .AUX_B2 => [Fld.AUX_B2_B2]
  | .AUX_CTRL => [Fld.AUX_CTRL_ENABLE, Fld.AUX_CTRL_DISABLE, Fld.AUX_CTRL_IMMEDIATE, Fld.AUX_CTRL_CLRSHORT]
  | .AUX_STATUS => [Fld.AUX_STATUS_STATE, Fld.AUX_STATUS_RETRY, Fld.AUX_STATUS_PAUSED, Fld.AUX_STATUS_REG_SHORT, Fld.AUX_STATUS_LIMIT, Fld.AUX_STATUS_NOTICKET]
  | .AUX_MEAS => [Fld.AUX_MEAS_FB, Fld.AUX_MEAS_U, Fld.AUX_MEAS_ILIM]
  | .AUX_CNT => [Fld.AUX_CNT_HICCUPS]
  | .FAN_CFG => [Fld.FAN_CFG_EN, Fld.FAN_CFG_MODE, Fld.FAN_CFG_PPR, Fld.FAN_CFG_TFILT]
  | .FAN_MIN => [Fld.FAN_MIN_MINRPM, Fld.FAN_MIN_MINDUTY]
  | .FAN_I => [Fld.FAN_I_IOPEN, Fld.FAN_I_IHIGH]
  | .FAN_NTC01 => [Fld.FAN_NTC01_NTC0, Fld.FAN_NTC01_NTC1]
  | .FAN_NTC23 => [Fld.FAN_NTC23_NTC2, Fld.FAN_NTC23_NTC3]
  | .FAN_PT => [Fld.FAN_PT_CODE, Fld.FAN_PT_DUTY]
  | .FAN_DUTY_SP => [Fld.FAN_DUTY_SP_DUTY]
  | .FAN_CTRL => [Fld.FAN_CTRL_ENABLE, Fld.FAN_CTRL_DISABLE, Fld.FAN_CTRL_IMMEDIATE, Fld.FAN_CTRL_CLRFAULT]
  | .FAN_STATUS => [Fld.FAN_STATUS_STATE, Fld.FAN_STATUS_ATTEMPT, Fld.FAN_STATUS_DERATE, Fld.FAN_STATUS_FAN_STALL, Fld.FAN_STATUS_FAN_OPEN, Fld.FAN_STATUS_TACH_LOST, Fld.FAN_STATUS_NOTEMP]
  | .FAN_MEAS => [Fld.FAN_MEAS_RPM, Fld.FAN_MEAS_CUR]
  | .FAN_DUTY => [Fld.FAN_DUTY_DUTY]
  | .FAN_CNT => [Fld.FAN_CNT_RETRIES, Fld.FAN_CNT_TACHLOSS]
  | .LOOP_CFG => [Fld.LOOP_CFG_EN, Fld.LOOP_CFG_FAULTMODE, Fld.LOOP_CFG_LOCKSUB]
  | .LOOP_INIT => [Fld.LOOP_INIT_INITCODE, Fld.LOOP_INIT_OFS]
  | .LOOP_GAIN => [Fld.LOOP_GAIN_GAIN]
  | .LOOP_CODE => [Fld.LOOP_CODE_CODE]
  | .LOOP_CTRL => [Fld.LOOP_CTRL_ENABLE, Fld.LOOP_CTRL_DISABLE, Fld.LOOP_CTRL_IMMEDIATE, Fld.LOOP_CTRL_FAULT]
  | .LOOP_STATUS => [Fld.LOOP_STATUS_STATE, Fld.LOOP_STATUS_HEADROOM, Fld.LOOP_STATUS_MISMATCH, Fld.LOOP_STATUS_LOOP_HEADROOM, Fld.LOOP_STATUS_LOOP_MISMATCH]
  | .LOOP_MEAS => [Fld.LOOP_MEAS_READBACK, Fld.LOOP_MEAS_VCE]
  | .LOOP_CNT => [Fld.LOOP_CNT_HEADROOM, Fld.LOOP_CNT_MISMATCH]
  | .MTR_PORT_CFG => [Fld.MTR_PORT_CFG_EN, Fld.MTR_PORT_CFG_SEAL, Fld.MTR_PORT_CFG_NEUTRAL, Fld.MTR_PORT_CFG_COVER]
  | .MTR_VFS => [Fld.MTR_VFS_VFS]
  | .MTR_IFS => [Fld.MTR_IFS_IFS]
  | .MTR_THR => [Fld.MTR_THR_NOLOAD, Fld.MTR_THR_ISTART]
  | .MTR_CHGAIN => [Fld.MTR_CHGAIN_GAIN]
  | .MTR_CHPHASE => [Fld.MTR_CHPHASE_PHASE]
  | .MTR_INDIFF => [Fld.MTR_INDIFF_INDIFF]
  | .MTR_PORT_STATUS => [Fld.MTR_PORT_STATUS_STATE, Fld.MTR_PORT_STATUS_SEALED, Fld.MTR_PORT_STATUS_SEALPEND, Fld.MTR_PORT_STATUS_NOLOAD, Fld.MTR_PORT_STATUS_REQRES, Fld.MTR_PORT_STATUS_GAP, Fld.MTR_PORT_STATUS_COVER, Fld.MTR_PORT_STATUS_NEUTRAL, Fld.MTR_PORT_STATUS_OVLD, Fld.MTR_PORT_STATUS_SNAPNEW, Fld.MTR_PORT_STATUS_SNAPOVR]
  | .MTR_PORT_REQ => [Fld.MTR_PORT_REQ_DISABLE, Fld.MTR_PORT_REQ_ENABLE]
  | .MTR_PORT_CNT => [Fld.MTR_PORT_CNT_OVLD, Fld.MTR_PORT_CNT_REFUSED]
  | .MTR_RMS => [Fld.MTR_RMS_RMS]
  | .MTR_E_LO => [Fld.MTR_E_LO_E]
  | .MTR_E_HI => [Fld.MTR_E_HI_E]
  | .MTR_ES_LO => [Fld.MTR_ES_LO_E]
  | .MTR_ES_HI => [Fld.MTR_ES_HI_E]
  | .MTR_SNAP_TIME_LO => [Fld.MTR_SNAP_TIME_LO_TIME]
  | .MTR_SNAP_TIME_HI => [Fld.MTR_SNAP_TIME_HI_TIME]
  | .MTR_PLS_CFG => [Fld.MTR_PLS_CFG_EN, Fld.MTR_PLS_CFG_KIND, Fld.MTR_PLS_CFG_POL, Fld.MTR_PLS_CFG_PORT, Fld.MTR_PLS_CFG_PHASE, Fld.MTR_PLS_CFG_QTY]
  | .MTR_PLS_EPP => [Fld.MTR_PLS_EPP_EPP]
  | .MTR_PLS_C => [Fld.MTR_PLS_C_C]
  | .MTR_PLS_WIDTH => [Fld.MTR_PLS_WIDTH_WIDTH]
  | .MTR_PLS_STATUS => [Fld.MTR_PLS_STATUS_PENDING, Fld.MTR_PLS_STATUS_OVERRANGE]
  | .MTR_PLS_CNT => [Fld.MTR_PLS_CNT_COUNT]
  | .JLN_PHY_CFG => [Fld.JLN_PHY_CFG_TXATT, Fld.JLN_PHY_CFG_CAPDB]
  | .JLN_PHY_STATUS => [Fld.JLN_PHY_STATUS_STATE, Fld.JLN_PHY_STATUS_BUSY, Fld.JLN_PHY_STATUS_AGC, Fld.JLN_PHY_STATUS_RXDONE, Fld.JLN_PHY_STATUS_LONG, Fld.JLN_PHY_STATUS_BADHDR, Fld.JLN_PHY_STATUS_FCSERR, Fld.JLN_PHY_STATUS_CAPTURE, Fld.JLN_PHY_STATUS_ABORTED, Fld.JLN_PHY_STATUS_TXDONE, Fld.JLN_PHY_STATUS_TXBADLEN, Fld.JLN_PHY_STATUS_RXPREEMPT]
  | .JLN_RX_HDR => [Fld.JLN_RX_HDR_LEN, Fld.JLN_RX_HDR_MOD, Fld.JLN_RX_HDR_BCN]
  | .JLN_RX_SNR => [Fld.JLN_RX_SNR_SNR]
  | .JLN_RX_STAMP_LO => [Fld.JLN_RX_STAMP_LO_STAMP]
  | .JLN_RX_STAMP_HI => [Fld.JLN_RX_STAMP_HI_STAMP]
  | .JLN_BUSY_END_LO => [Fld.JLN_BUSY_END_LO_END]
  | .JLN_BUSY_END_HI => [Fld.JLN_BUSY_END_HI_END]
  | .JLN_PHY_CNT0 => [Fld.JLN_PHY_CNT0_LONG, Fld.JLN_PHY_CNT0_CAPTURE]
  | .JLN_PHY_CNT1 => [Fld.JLN_PHY_CNT1_BADHDR, Fld.JLN_PHY_CNT1_FCSERR]
  | .JLN_PHY_CNT2 => [Fld.JLN_PHY_CNT2_ABORTED, Fld.JLN_PHY_CNT2_RXPREEMPT]
  | .JLN_W => [Fld.JLN_W_WORD]
  | .JLN_NET_STATUS => [Fld.JLN_NET_STATUS_STATE, Fld.JLN_NET_STATUS_NET, Fld.JLN_NET_STATUS_MEMBERS]
  | .JLN_NET_EVT => [Fld.JLN_NET_EVT_BCNRX, Fld.JLN_NET_EVT_BCNTX, Fld.JLN_NET_EVT_ASSOC, Fld.JLN_NET_EVT_DISASSOC, Fld.JLN_NET_EVT_BCNLOST, Fld.JLN_NET_EVT_FOREIGN, Fld.JLN_NET_EVT_DUPCOORD, Fld.JLN_NET_EVT_ADDRCLASH, Fld.JLN_NET_EVT_AUTHFAIL, Fld.JLN_NET_EVT_REPLAY, Fld.JLN_NET_EVT_BADFRM, Fld.JLN_NET_EVT_RXOVF, Fld.JLN_NET_EVT_TXACK, Fld.JLN_NET_EVT_TXFAIL, Fld.JLN_NET_EVT_TXCANCEL, Fld.JLN_NET_EVT_NOTICKET, Fld.JLN_NET_EVT_TXBADFLAG]
  | .JLN_BCN_TIME_LO => [Fld.JLN_BCN_TIME_LO_TIME]
  | .JLN_BCN_TIME_HI => [Fld.JLN_BCN_TIME_HI_TIME]
  | .JLN_BCN_PHASE => [Fld.JLN_BCN_PHASE_PHASE]
  | .JLN_BCN_FREQ => [Fld.JLN_BCN_FREQ_FREQ]
  | .JLN_BCN_TOKEN => [Fld.JLN_BCN_TOKEN_PEDID, Fld.JLN_BCN_TOKEN_STATE, Fld.JLN_BCN_TOKEN_FLAGS]
  | .JLN_BCN_NEXT => [Fld.JLN_BCN_NEXT_NEXT]
  | .JLN_SEQ => [Fld.JLN_SEQ_SEQ]
  | .JLN_FCNT_LO => [Fld.JLN_FCNT_LO_FCNT]
  | .JLN_FCNT_HI => [Fld.JLN_FCNT_HI_FCNT, Fld.JLN_FCNT_HI_EPOCH]
  | .JLN_CTRL => [Fld.JLN_CTRL_ENABLE, Fld.JLN_CTRL_DISABLE, Fld.JLN_CTRL_IMMEDIATE]
  | .JLN_TX_CFG => [Fld.JLN_TX_CFG_DST, Fld.JLN_TX_CFG_BCAST, Fld.JLN_TX_CFG_ACKREQ, Fld.JLN_TX_CFG_CFP, Fld.JLN_TX_CFG_MOD]
  | .JLN_TX_LEN => [Fld.JLN_TX_LEN_LEN]
  | .JLN_TX_CTRL => [Fld.JLN_TX_CTRL_GO, Fld.JLN_TX_CTRL_CANCEL]
  | .JLN_TX_STATUS => [Fld.JLN_TX_STATUS_STATE, Fld.JLN_TX_STATUS_TRIES, Fld.JLN_TX_STATUS_TICKET]
  | .JLN_RX_INFO => [Fld.JLN_RX_INFO_SRC, Fld.JLN_RX_INFO_BCAST, Fld.JLN_RX_INFO_FULL, Fld.JLN_RX_INFO_LEN]
  | .JLN_RX_SEQ => [Fld.JLN_RX_SEQ_SEQ]
  | .JLN_RX_REL => [Fld.JLN_RX_REL_RELEASE]
  | .JLN_RX_TIME => [Fld.JLN_RX_TIME_STAMP]
  | .JLN_CNT0 => [Fld.JLN_CNT0_AUTHFAIL, Fld.JLN_CNT0_REPLAY]
  | .JLN_CNT1 => [Fld.JLN_CNT1_TXFAIL, Fld.JLN_CNT1_RXOVF]
  | .JLN_CNT2 => [Fld.JLN_CNT2_BCNLOST, Fld.JLN_CNT2_NORESP]
  | .JLN_CNT3 => [Fld.JLN_CNT3_DUP, Fld.JLN_CNT3_BADFRM]
  | .JLN_TXBUF => [Fld.JLN_TXBUF_DATA]
  | .JLN_RXBUF => [Fld.JLN_RXBUF_DATA]
  | .IRQ_PEND => [Fld.IRQ_PEND_PEND]
  | .IRQ_PEND_SET => [Fld.IRQ_PEND_SET_PEND]
  | .IRQ_PEND_CLR => [Fld.IRQ_PEND_CLR_PEND]
  | .IRQ_EN => [Fld.IRQ_EN_EN]
  | .IRQ_EN_SET => [Fld.IRQ_EN_SET_EN]
  | .IRQ_EN_CLR => [Fld.IRQ_EN_CLR_EN]
  | .IRQ_ROUTE => [Fld.IRQ_ROUTE_ROUTE]
  | .IRQ_GRP_CFG => [Fld.IRQ_GRP_CFG_HOLDOFF]
  | .IRQ_GRP_STATUS => [Fld.IRQ_GRP_STATUS_HELD, Fld.IRQ_GRP_STATUS_COALESCED]
  | .IRQ_DOORBELL => [Fld.IRQ_DOORBELL_SRC]
  | .IRQ_TAKEN => [Fld.IRQ_TAKEN_SRC, Fld.IRQ_TAKEN_VALID]
  | .IRQ_PIN_CFG => [Fld.IRQ_PIN_CFG_FILT, Fld.IRQ_PIN_CFG_SENSE, Fld.IRQ_PIN_CFG_FCLK, Fld.IRQ_PIN_CFG_LEVEL]
  | .IRQ_DB_SENDER => [Fld.IRQ_DB_SENDER_SENDER]
  | .MBX_DATA => [Fld.MBX_DATA_DATA]
  | .MBX_HDR => [Fld.MBX_HDR_COUNT, Fld.MBX_HDR_KIND, Fld.MBX_HDR_SENDER]
  | .MBX_STATUS => [Fld.MBX_STATUS_STATE, Fld.MBX_STATUS_TAKEN, Fld.MBX_STATUS_COLLISION, Fld.MBX_STATUS_TIMEOUT, Fld.MBX_STATUS_WITHDRAWN, Fld.MBX_STATUS_NOTICKET, Fld.MBX_STATUS_TICKET]
  | .MBX_CTRL => [Fld.MBX_CTRL_TAKE, Fld.MBX_CTRL_WITHDRAW]
  | .MBX_CFG => [Fld.MBX_CFG_RECEIVER, Fld.MBX_CFG_NOTIFY, Fld.MBX_CFG_NOTEN]
  | .MBX_STAMP_LO => [Fld.MBX_STAMP_LO_TIME]
  | .MBX_STAMP_HI => [Fld.MBX_STAMP_HI_TIME]
  | .MBX_CNT => [Fld.MBX_CNT_COLLISIONS, Fld.MBX_CNT_TIMEOUTS]
  | .MBX_STAGE => [Fld.MBX_STAGE_DATA]
  | .MBX_STAGE_STATUS => [Fld.MBX_STAGE_STATUS_BADCOUNT]
  | .JNL_CFG => [Fld.JNL_CFG_RETAIN, Fld.JNL_CFG_MIRROR]
  | .JNL_AXRESUME => [Fld.JNL_AXRESUME_AXRESUME]
  | .JNL_STATUS => [Fld.JNL_STATUS_SOURCE, Fld.JNL_STATUS_PINUSED, Fld.JNL_STATUS_OPEN, Fld.JNL_STATUS_REPLAYED]
  | .JNL_SEQ => [Fld.JNL_SEQ_SEQ]
  | .JNL_MIR_SEQ => [Fld.JNL_MIR_SEQ_SEQ]
  | .JNL_PIN_ACK => [Fld.JNL_PIN_ACK_SEQ]
  | .JNL_EVT => [Fld.JNL_EVT_REPLAY, Fld.JNL_EVT_JNL_PINFULL, Fld.JNL_EVT_MIRLAG, Fld.JNL_EVT_MIRFAIL, Fld.JNL_EVT_BADREC]
  | .JNL_CNT => [Fld.JNL_CNT_MIRLAG, Fld.JNL_CNT_BADREC]
  | .JNL_PIN_STATUS => [Fld.JNL_PIN_STATUS_FULL, Fld.JNL_PIN_STATUS_QUEUED, Fld.JNL_PIN_STATUS_LOST]
  | .JNL_OP => [Fld.JNL_OP_TICKET, Fld.JNL_OP_OPKIND, Fld.JNL_OP_STATE]
  | .JNL_OP_PROG => [Fld.JNL_OP_PROG_PROG, Fld.JNL_OP_PROG_REPLAYS]
  | .UCR_CFG => [Fld.UCR_CFG_CHARGE, Fld.UCR_CFG_ALARMWAKE, Fld.UCR_CFG_TAMPWAKE, Fld.UCR_CFG_VCHG, Fld.UCR_CFG_VBAKWARN, Fld.UCR_CFG_WAKETMO]
  | .UCR_PWRLOW => [Fld.UCR_PWRLOW_PWRLOW]
  | .UCR_STATUS => [Fld.UCR_STATUS_UVALID, Fld.UCR_STATUS_HARV, Fld.UCR_STATUS_PFAIL, Fld.UCR_STATUS_PREPDONE, Fld.UCR_STATUS_VBAKLOW, Fld.UCR_STATUS_VLDLOW, Fld.UCR_STATUS_WAKESRC, Fld.UCR_STATUS_UWAKEN]
  | .UCR_TIME_LO => [Fld.UCR_TIME_LO_COUNT]
  | .UCR_TIME_HI => [Fld.UCR_TIME_HI_COUNT]
  | .UCR_ALARM_LO => [Fld.UCR_ALARM_LO_ALARM]
  | .UCR_ALARM_HI => [Fld.UCR_ALARM_HI_ALARM]
  | .UCR_MEAS => [Fld.UCR_MEAS_VBAK, Fld.UCR_MEAS_VHARV]
  | .UCR_EVT => [Fld.UCR_EVT_PFAIL, Fld.UCR_EVT_WAKE, Fld.UCR_EVT_UNWIT, Fld.UCR_EVT_VBAKLOW, Fld.UCR_EVT_HARVCHG, Fld.UCR_EVT_WAKEFAIL, Fld.UCR_EVT_VLDLOW]
  | .UCR_CNT => [Fld.UCR_CNT_WAKEFAIL]
  | .FLT_DEV => [Fld.FLT_DEV_F4, Fld.FLT_DEV_SAFEHOLD, Fld.FLT_DEV_F3CORE, Fld.FLT_DEV_AUTOREL, Fld.FLT_DEV_STALEPER]
  | .FLT_EVT => [Fld.FLT_EVT_F1, Fld.FLT_EVT_F2, Fld.FLT_EVT_F3, Fld.FLT_EVT_F4, Fld.FLT_EVT_DISCREPANCY, Fld.FLT_EVT_STALE, Fld.FLT_EVT_CLRREF]
  | .FLT_CNT => [Fld.FLT_CNT_F1, Fld.FLT_CNT_F2]
  | .FLT_CNT2 => [Fld.FLT_CNT2_DISCREP, Fld.FLT_CNT2_STALE]
  | .FLT_LAST => [Fld.FLT_LAST_CLASS, Fld.FLT_LAST_SRCBLK, Fld.FLT_LAST_UNIT]
  | .FLT_CNV => [Fld.FLT_CNV_F1, Fld.FLT_CNV_F2, Fld.FLT_CNV_F3, Fld.FLT_CNV_F4, Fld.FLT_CNV_CAUSE]
  | .FLT_CNV_CLR => [Fld.FLT_CNV_CLR_CONV]
  | .FLT_STALE => [Fld.FLT_STALE_STALE]
  | .FLT_OUT => [Fld.FLT_OUT_OUT]
  | .FLT_SVC_CTRL => [Fld.FLT_SVC_CTRL_LEG, Fld.FLT_SVC_CTRL_OUT, Fld.FLT_SVC_CTRL_IN]
  | .DBG_CORE_CTRL => [Fld.DBG_CORE_CTRL_HALT, Fld.DBG_CORE_CTRL_RESUME, Fld.DBG_CORE_CTRL_STEP]
  | .DBG_CORE_STATUS => [Fld.DBG_CORE_STATUS_HALTED, Fld.DBG_CORE_STATUS_CAUSE]
  | .DBG_PC => [Fld.DBG_PC_PC]
  | .DBG_BP => [Fld.DBG_BP_EN, Fld.DBG_BP_MON, Fld.DBG_BP_ADDR]
  | .DBG_WP_ADDR => [Fld.DBG_WP_ADDR_ADDR]
  | .DBG_WP_CFG => [Fld.DBG_WP_CFG_EN, Fld.DBG_WP_CFG_MON, Fld.DBG_WP_CFG_RD, Fld.DBG_WP_CFG_WR, Fld.DBG_WP_CFG_MASK]
  | .DBG_GREG => [Fld.DBG_GREG_G]
  | .DBG_STATUS => [Fld.DBG_STATUS_SCANREF, Fld.DBG_STATUS_TESTEN]
  | .VST_STATUS => [Fld.VST_STATUS_STATE, Fld.VST_STATUS_SLOT, Fld.VST_STATUS_SLOTB, Fld.VST_STATUS_SKIPPED]
  | .VST_IMG_SEQ => [Fld.VST_IMG_SEQ_SEQ]
  | .VST_IMG_INFO => [Fld.VST_IMG_INFO_MINREV, Fld.VST_IMG_INFO_STARTMODE, Fld.VST_IMG_INFO_FORMAT]
  | .VST_REC_COUNT => [Fld.VST_REC_COUNT_COUNT]
  | .VST_REJ => [Fld.VST_REJ_REASON, Fld.VST_REJ_INDEX]
  | .VST_REJ_OFFSET => [Fld.VST_REJ_OFFSET_OFFSET]
  | .VST_REJ_TYPE => [Fld.VST_REJ_TYPE_TYPE, Fld.VST_REJ_TYPE_INST]
  | .VST_OVL_LEN => [Fld.VST_OVL_LEN_LEN, Fld.VST_OVL_LEN_PATCHES]
  | .VST_IMG_HASH => [Fld.VST_IMG_HASH_HASH]

/-- Address and instances of each register (Table 33.1). -/
def Reg.info : Reg → RegInfo
  | .SYS_ID => ⟨0x40000000, 1, 0x0, 1, 0x0, 1, 0x0⟩
  | .SYS_START => ⟨0x40000010, 1, 0x0, 1, 0x0, 1, 0x0⟩
  | .SYS_CORE_ARM => ⟨0x40000014, 1, 0x0, 1, 0x0, 1, 0x0⟩
  | .SYS_MODE => ⟨0x40000020, 1, 0x0, 1, 0x0, 1, 0x0⟩
  | .SYS_MODE_REQ => ⟨0x40000024, 1, 0x0, 1, 0x0, 1, 0x0⟩
  | .SYS_MODE_RESULT => ⟨0x40000028, 1, 0x0, 1, 0x0, 1, 0x0⟩
  | .SYS_MODE_TIME_LO => ⟨0x40000030, 1, 0x0, 1, 0x0, 1, 0x0⟩
  | .SYS_MODE_TIME_HI => ⟨0x40000034, 1, 0x0, 1, 0x0, 1, 0x0⟩
  | .SYS_NV_STATE => ⟨0x40000100, 2, 0x20, 1, 0x0, 1, 0x0⟩
  | .SYS_NV_PC => ⟨0x40000104, 2, 0x20, 1, 0x0, 1, 0x0⟩
  | .SYS_NV_STATUS => ⟨0x40000108, 2, 0x20, 1, 0x0, 1, 0x0⟩
  | .SYS_NV_SP => ⟨0x4000010C, 2, 0x20, 1, 0x0, 1, 0x0⟩
  | .SYS_NV_TIME_LO => ⟨0x40000110, 2, 0x20, 1, 0x0, 1, 0x0⟩
  | .SYS_NV_TIME_HI => ⟨0x40000114, 2, 0x20, 1, 0x0, 1, 0x0⟩
  | .SYS_NV_RELEASE => ⟨0x40000140, 1, 0x0, 1, 0x0, 1, 0x0⟩
  | .SYS_CHN_STATUS => ⟨0x40000200, 1, 0x0, 1, 0x0, 1, 0x0⟩
  | .SYS_CHN_EVAL => ⟨0x40000204, 1, 0x0, 1, 0x0, 1, 0x0⟩
  | .SYS_CHN_FLOOR => ⟨0x40000208, 1, 0x0, 1, 0x0, 1, 0x0⟩
  | .SYS_CHN_FLOOR_LEFT => ⟨0x4000020C, 1, 0x0, 1, 0x0, 1, 0x0⟩
  | .SYS_CHN_KEYUSE => ⟨0x40000210, 2, 0x4, 1, 0x0, 1, 0x0⟩
  | .SYS_CHN_SIGSLOT => ⟨0x40000218, 1, 0x0, 1, 0x0, 1, 0x0⟩
  | .SYS_CHN_CNT => ⟨0x4000021C, 1, 0x0, 1, 0x0, 1, 0x0⟩
  | .SYS_CHN_DEVPUB => ⟨0x40000220, 16, 0x4, 1, 0x0, 1, 0x0⟩
  | .SYS_TAMPER => ⟨0x40000260, 2, 0x4, 1, 0x0, 1, 0x0⟩
  | .SYS_CHN_DEVID_LO => ⟨0x40000268, 1, 0x0, 1, 0x0, 1, 0x0⟩
  | .SYS_CHN_DEVID_HI => ⟨0x4000026C, 1, 0x0, 1, 0x0, 1, 0x0⟩
  | .SYS_CHN_RES => ⟨0x40000270, 1, 0x0, 1, 0x0, 1, 0x0⟩
  | .SYS_CHN_EPOCH => ⟨0x40000274, 1, 0x0, 1, 0x0, 1, 0x0⟩
  | .SYS_CHN_PROV_CMD => ⟨0x40000280, 1, 0x0, 1, 0x0, 1, 0x0⟩
  | .SYS_CHN_PROV_RES => ⟨0x40000284, 1, 0x0, 1, 0x0, 1, 0x0⟩
  | .SYS_CHN_PROV_KEY => ⟨0x40000290, 16, 0x4, 1, 0x0, 1, 0x0⟩
  | .CLK_CFG => ⟨0x40010000, 1, 0x0, 1, 0x0, 1, 0x0⟩
  | .CLK_LOCK_CFG => ⟨0x40010004, 1, 0x0, 1, 0x0, 1, 0x0⟩
  | .CLK_STATUS => ⟨0x40010008, 1, 0x0, 1, 0x0, 1, 0x0⟩
  | .CLK_EVENTS => ⟨0x4001000C, 1, 0x0, 1, 0x0, 1, 0x0⟩
  | .TB_NOW_LO => ⟨0x40020000, 1, 0x0, 1, 0x0, 1, 0x0⟩
  | .TB_NOW_HI => ⟨0x40020004, 1, 0x0, 1, 0x0, 1, 0x0⟩
  | .TB_REF_RANK => ⟨0x40020010, 1, 0x0, 1, 0x0, 1, 0x0⟩
  | .TB_REF_CFG => ⟨0x40020014, 1, 0x0, 1, 0x0, 1, 0x0⟩
  | .TB_STATE => ⟨0x40020018, 1, 0x0, 1, 0x0, 1, 0x0⟩
  | .TB_ORIGIN_LO => ⟨0x40020020, 1, 0x0, 1, 0x0, 1, 0x0⟩
  | .TB_ORIGIN_HI => ⟨0x40020024, 1, 0x0, 1, 0x0, 1, 0x0⟩
  | .TB_DEBT_LO => ⟨0x40020028, 1, 0x0, 1, 0x0, 1, 0x0⟩
  | .TB_DEBT_HI => ⟨0x4002002C, 1, 0x0, 1, 0x0, 1, 0x0⟩
  | .TB_FREQ => ⟨0x40020030, 1, 0x0, 1, 0x0, 1, 0x0⟩
  | .TB_SWITCHES => ⟨0x40020034, 1, 0x0, 1, 0x0, 1, 0x0⟩
  | .ANG_CFG => ⟨0x40030000, 64, 0x40, 1, 0x0, 1, 0x0⟩
  | .ANG_STATE => ⟨0x40030004, 64, 0x40, 1, 0x0, 1, 0x0⟩
  | .ANG_ANGLE_LO => ⟨0x40030008, 64, 0x40, 1, 0x0, 1, 0x0⟩
  | .ANG_ANGLE_HI => ⟨0x4003000C, 64, 0x40, 1, 0x0, 1, 0x0⟩
  | .ANG_RATE_LO => ⟨0x40030010, 64, 0x40, 1, 0x0, 1, 0x0⟩
  | .ANG_RATE_HI => ⟨0x40030014, 64, 0x40, 1, 0x0, 1, 0x0⟩
  | .ANG_STAMP_LO => ⟨0x40030018, 64, 0x40, 1, 0x0, 1, 0x0⟩
  | .ANG_STAMP_HI => ⟨0x4003001C, 64, 0x40, 1, 0x0, 1, 0x0⟩
  | .ANG_FREQ => ⟨0x40030020, 64, 0x40, 1, 0x0, 1, 0x0⟩
  | .ANG_EVT => ⟨0x40030024, 64, 0x40, 1, 0x0, 1, 0x0⟩
  | .ANG_STEP => ⟨0x40030028, 64, 0x40, 1, 0x0, 1, 0x0⟩
  | .ANG_CNT => ⟨0x4003002C, 64, 0x40, 1, 0x0, 1, 0x0⟩
  | .ANG_SL_ANGLE_LO => ⟨0x40030030, 64, 0x40, 1, 0x0, 1, 0x0⟩
  | .ANG_SL_ANGLE_HI => ⟨0x40030034, 64, 0x40, 1, 0x0, 1, 0x0⟩
  | .ANG_SL_STAMP_LO => ⟨0x40030038, 64, 0x40, 1, 0x0, 1, 0x0⟩
  | .ANG_SL_STAMP_HI => ⟨0x4003003C, 64, 0x40, 1, 0x0, 1, 0x0⟩
  | .ANG_QRY_CTRL => ⟨0x40031000, 5, 0x20, 1, 0x0, 1, 0x0⟩
  | .ANG_QRY_IN_LO => ⟨0x40031004, 5, 0x20, 1, 0x0, 1, 0x0⟩
  | .ANG_QRY_IN_HI => ⟨0x40031008, 5, 0x20, 1, 0x0, 1, 0x0⟩
  | .ANG_QRY_OUT_LO => ⟨0x4003100C, 5, 0x20, 1, 0x0, 1, 0x0⟩
  | .ANG_QRY_OUT_HI => ⟨0x40031010, 5, 0x20, 1, 0x0, 1, 0x0⟩
  | .ANG_QRY_STATUS => ⟨0x40031014, 5, 0x20, 1, 0x0, 1, 0x0⟩
  | .TWL_SLOT_CFG => ⟨0x40040000, 1024, 0x20, 1, 0x0, 1, 0x0⟩
  | .TWL_SLOT_ACT => ⟨0x40040004, 1024, 0x20, 1, 0x0, 1, 0x0⟩
  | .TWL_SLOT_TGT_LO => ⟨0x40040008, 1024, 0x20, 1, 0x0, 1, 0x0⟩
  | .TWL_SLOT_TGT_HI => ⟨0x4004000C, 1024, 0x20, 1, 0x0, 1, 0x0⟩
  | .TWL_SLOT_STEP_LO => ⟨0x40040010, 1024, 0x20, 1, 0x0, 1, 0x0⟩
  | .TWL_SLOT_STEP_HI => ⟨0x40040014, 1024, 0x20, 1, 0x0, 1, 0x0⟩
  | .TWL_SLOT_CTRL => ⟨0x40040018, 1024, 0x20, 1, 0x0, 1, 0x0⟩
  | .TWL_SLOT_STATUS => ⟨0x4004001C, 1024, 0x20, 1, 0x0, 1, 0x0⟩
  | .TWL_PRED_LO => ⟨0x40048000, 1024, 0x8, 1, 0x0, 1, 0x0⟩
  | .TWL_PRED_HI => ⟨0x40048004, 1024, 0x8, 1, 0x0, 1, 0x0⟩
  | .TWL_CNT => ⟨0x4004A000, 1, 0x0, 1, 0x0, 1, 0x0⟩
  | .TWL_LATE_LAST => ⟨0x4004A004, 1, 0x0, 1, 0x0, 1, 0x0⟩
  | .EDG_CNV_CFG => ⟨0x40050000, 256, 0x40, 1, 0x0, 1, 0x0⟩
  | .EDG_CNV_LEAD => ⟨0x40050004, 256, 0x40, 1, 0x0, 1, 0x0⟩
  | .EDG_CNV_PROT => ⟨0x40050008, 256, 0x40, 1, 0x0, 1, 0x0⟩
  | .EDG_CNV_OFFSET => ⟨0x4005000C, 256, 0x40, 1, 0x0, 1, 0x0⟩
  | .EDG_CNV_PERIOD_SH => ⟨0x40050010, 256, 0x40, 1, 0x0, 1, 0x0⟩
  | .EDG_CNV_COMMIT => ⟨0x40050014, 256, 0x40, 1, 0x0, 1, 0x0⟩
  | .EDG_CNV_CTRL => ⟨0x40050018, 256, 0x40, 1, 0x0, 1, 0x0⟩
  | .EDG_CNV_FORCE => ⟨0x4005001C, 256, 0x40, 1, 0x0, 1, 0x0⟩
  | .EDG_CNV_STATUS => ⟨0x40050020, 256, 0x40, 1, 0x0, 1, 0x0⟩
  | .EDG_CNV_TRIPSRC => ⟨0x40050024, 256, 0x40, 1, 0x0, 1, 0x0⟩
  | .EDG_CNV_BOUND_LO => ⟨0x40050028, 256, 0x40, 1, 0x0, 1, 0x0⟩
  | .EDG_CNV_BOUND_HI => ⟨0x4005002C, 256, 0x40, 1, 0x0, 1, 0x0⟩
  | .EDG_CNV_CNT => ⟨0x40050030, 256, 0x40, 1, 0x0, 1, 0x0⟩
  | .EDG_CNV_PERIODS => ⟨0x40050034, 256, 0x40, 1, 0x0, 1, 0x0⟩
  | .EDG_LEG_ON_SH => ⟨0x40054000, 256, 0x10, 1, 0x0, 1, 0x0⟩
  | .EDG_LEG_OFF_SH => ⟨0x40054004, 256, 0x10, 1, 0x0, 1, 0x0⟩
  | .EDG_LEG_MODE_SH => ⟨0x40054008, 256, 0x10, 1, 0x0, 1, 0x0⟩
  | .EDG_LEG_MAP => ⟨0x4005400C, 256, 0x10, 1, 0x0, 1, 0x0⟩
  | .EDG_LOC_CFG => ⟨0x40055000, 32, 0x20, 1, 0x0, 1, 0x0⟩
  | .EDG_LOC_PROT => ⟨0x40055004, 32, 0x20, 1, 0x0, 1, 0x0⟩
  | .EDG_LOC_OFFSET => ⟨0x40055008, 32, 0x20, 1, 0x0, 1, 0x0⟩
  | .EDG_LOC_PERIOD_SH => ⟨0x4005500C, 32, 0x20, 1, 0x0, 1, 0x0⟩
  | .EDG_LOC_ON_SH => ⟨0x40055010, 32, 0x20, 1, 0x0, 1, 0x0⟩
  | .EDG_LOC_OFF_SH => ⟨0x40055014, 32, 0x20, 1, 0x0, 1, 0x0⟩
  | .EDG_LOC_CTRL => ⟨0x40055018, 32, 0x20, 1, 0x0, 1, 0x0⟩
  | .EDG_LOC_FORCE => ⟨0x4005501C, 32, 0x20, 1, 0x0, 1, 0x0⟩
  | .EDG_TRIP_CFG => ⟨0x40055400, 16, 0x10, 1, 0x0, 1, 0x0⟩
  | .EDG_TRIP_STATUS => ⟨0x40055404, 16, 0x10, 1, 0x0, 1, 0x0⟩
  | .EDG_BRK_CFG => ⟨0x40055800, 4, 0x10, 1, 0x0, 1, 0x0⟩
  | .EDG_BRK_STATUS => ⟨0x40055804, 4, 0x10, 1, 0x0, 1, 0x0⟩
  | .SEL_BUS_CFG => ⟨0x40060000, 16, 0x200, 1, 0x0, 1, 0x0⟩
  | .SEL_BUS_STATUS => ⟨0x40060004, 16, 0x200, 1, 0x0, 1, 0x0⟩
  | .SEL_BUS_EVT => ⟨0x40060008, 16, 0x200, 1, 0x0, 1, 0x0⟩
  | .SEL_BUS_LOAD => ⟨0x4006000C, 16, 0x200, 1, 0x0, 1, 0x0⟩
  | .SEL_BUS_CNT => ⟨0x40060010, 16, 0x200, 1, 0x0, 1, 0x0⟩
  | .SEL_DROP_STATE => ⟨0x40060040, 16, 0x200, 16, 0x10, 1, 0x0⟩
  | .SEL_DROP_DELAY => ⟨0x40060044, 16, 0x200, 16, 0x10, 1, 0x0⟩
  | .SEL_DROP_CNT => ⟨0x40060048, 16, 0x200, 16, 0x10, 1, 0x0⟩
  | .SEL_DROP_SERIAL => ⟨0x4006004C, 16, 0x200, 16, 0x10, 1, 0x0⟩
  | .BTR_ID => ⟨0x40080000, 256, 0x100, 1, 0x0, 1, 0x0⟩
  | .BTR_SERIAL => ⟨0x40080004, 256, 0x100, 1, 0x0, 1, 0x0⟩
  | .BTR_DRIVE_CFG => ⟨0x40080008, 256, 0x100, 1, 0x0, 1, 0x0⟩
  | .BTR_ADAPT_CFG => ⟨0x4008000C, 256, 0x100, 1, 0x0, 1, 0x0⟩
  | .BTR_ADAPT_IMIN => ⟨0x40080010, 256, 0x100, 1, 0x0, 1, 0x0⟩
  | .BTR_PROT_CFG0 => ⟨0x40080020, 256, 0x100, 1, 0x0, 1, 0x0⟩
  | .BTR_PROT_CFG1 => ⟨0x40080024, 256, 0x100, 1, 0x0, 1, 0x0⟩
  | .BTR_BRAKE_CFG0 => ⟨0x40080028, 256, 0x100, 1, 0x0, 1, 0x0⟩
  | .BTR_BRAKE_CFG1 => ⟨0x4008002C, 256, 0x100, 1, 0x0, 1, 0x0⟩
  | .BTR_PROT_EVT => ⟨0x40080030, 256, 0x100, 1, 0x0, 1, 0x0⟩
  | .BTR_PROT_CNT => ⟨0x40080034, 256, 0x100, 1, 0x0, 1, 0x0⟩
  | .BTR_BRAKE_STAT => ⟨0x40080038, 256, 0x100, 1, 0x0, 1, 0x0⟩
  | .BTR_TRIP_STAMP => ⟨0x4008003C, 256, 0x100, 1, 0x0, 1, 0x0⟩
  | .BTR_STATE => ⟨0x40080040, 256, 0x100, 1, 0x0, 1, 0x0⟩
  | .BTR_STRENGTH => ⟨0x40080044, 256, 0x100, 1, 0x0, 1, 0x0⟩
  | .BTR_TSW => ⟨0x40080048, 256, 0x100, 1, 0x0, 1, 0x0⟩
  | .BTR_NTC => ⟨0x4008004C, 256, 0x100, 1, 0x0, 1, 0x0⟩
  | .BTR_CNT => ⟨0x40080050, 256, 0x100, 1, 0x0, 1, 0x0⟩
  | .BTR_AGE => ⟨0x40080054, 256, 0x100, 1, 0x0, 1, 0x0⟩
  | .BTR_CTRL => ⟨0x40080080, 256, 0x100, 1, 0x0, 1, 0x0⟩
  | .ADC_CORE_CFG => ⟨0x40090000, 16, 0x100, 1, 0x0, 1, 0x0⟩
  | .ADC_CORE_OFS => ⟨0x40090004, 16, 0x100, 1, 0x0, 1, 0x0⟩
  | .ADC_CORE_GAIN => ⟨0x40090008, 16, 0x100, 1, 0x0, 1, 0x0⟩
  | .ADC_SEQ_LEN => ⟨0x4009000C, 16, 0x100, 1, 0x0, 1, 0x0⟩
  | .ADC_SEQ_E => ⟨0x40090010, 16, 0x100, 16, 0x4, 1, 0x0⟩
  | .ADC_CORE_CTRL => ⟨0x40090050, 16, 0x100, 1, 0x0, 1, 0x0⟩
  | .ADC_CORE_STATUS => ⟨0x40090054, 16, 0x100, 1, 0x0, 1, 0x0⟩
  | .ADC_FIFO_DATA => ⟨0x40090058, 16, 0x100, 1, 0x0, 1, 0x0⟩
  | .ADC_FIFO_STAMP => ⟨0x4009005C, 16, 0x100, 1, 0x0, 1, 0x0⟩
  | .ADC_DMA_BASE => ⟨0x40090060, 16, 0x100, 1, 0x0, 1, 0x0⟩
  | .ADC_DMA_SIZE => ⟨0x40090064, 16, 0x100, 1, 0x0, 1, 0x0⟩
  | .ADC_DMA_WR => ⟨0x40090068, 16, 0x100, 1, 0x0, 1, 0x0⟩
  | .ADC_DMA_RD => ⟨0x4009006C, 16, 0x100, 1, 0x0, 1, 0x0⟩
  | .ADC_CNT => ⟨0x40090070, 16, 0x100, 1, 0x0, 1, 0x0⟩
  | .ADC_SKEW => ⟨0x40090074, 16, 0x100, 1, 0x0, 1, 0x0⟩
  | .ADC_IN_OFS => ⟨0x40092000, 64, 0x10, 1, 0x0, 1, 0x0⟩
  | .ADC_IN_GAIN => ⟨0x40092004, 64, 0x10, 1, 0x0, 1, 0x0⟩
  | .ADC_IN_LAST => ⟨0x40092008, 64, 0x10, 1, 0x0, 1, 0x0⟩
  | .ADC_IN_STAMP => ⟨0x4009200C, 64, 0x10, 1, 0x0, 1, 0x0⟩
  | .LSN_CFG => ⟨0x400A0000, 384, 0x20, 1, 0x0, 1, 0x0⟩
  | .LSN_LATCHSLOT => ⟨0x400A0004, 384, 0x20, 1, 0x0, 1, 0x0⟩
  | .LSN_OFS => ⟨0x400A0008, 384, 0x20, 1, 0x0, 1, 0x0⟩
  | .LSN_GAIN => ⟨0x400A000C, 384, 0x20, 1, 0x0, 1, 0x0⟩
  | .LSN_LAST => ⟨0x400A0010, 384, 0x20, 1, 0x0, 1, 0x0⟩
  | .LSN_LAST_STAMP => ⟨0x400A0014, 384, 0x20, 1, 0x0, 1, 0x0⟩
  | .LSN_LATCHED => ⟨0x400A0018, 384, 0x20, 1, 0x0, 1, 0x0⟩
  | .LSN_LATCH_STAMP => ⟨0x400A001C, 384, 0x20, 1, 0x0, 1, 0x0⟩
  | .LSN_GRP_STATUS => ⟨0x400A4000, 32, 0x10, 1, 0x0, 1, 0x0⟩
  | .LSN_GRP_CNT => ⟨0x400A4004, 32, 0x10, 1, 0x0, 1, 0x0⟩
  | .LSN_CTRL => ⟨0x400A4008, 32, 0x10, 1, 0x0, 1, 0x0⟩
  | .CMP_CFG => ⟨0x400B0000, 32, 0x40, 1, 0x0, 1, 0x0⟩
  | .CMP_ROUTE => ⟨0x400B0004, 32, 0x40, 1, 0x0, 1, 0x0⟩
  | .CMP_DAC => ⟨0x400B0008, 32, 0x40, 1, 0x0, 1, 0x0⟩
  | .CMP_RAMP => ⟨0x400B000C, 32, 0x40, 1, 0x0, 1, 0x0⟩
  | .CMP_VIGIL => ⟨0x400B0010, 32, 0x40, 1, 0x0, 1, 0x0⟩
  | .CMP_STATUS => ⟨0x400B0014, 32, 0x40, 1, 0x0, 1, 0x0⟩
  | .CMP_TEST => ⟨0x400B0018, 32, 0x40, 1, 0x0, 1, 0x0⟩
  | .CMP_CTRL => ⟨0x400B001C, 32, 0x40, 1, 0x0, 1, 0x0⟩
  | .CMP_CAP_LO => ⟨0x400B0020, 32, 0x40, 1, 0x0, 1, 0x0⟩
  | .CMP_CAP_HI => ⟨0x400B0024, 32, 0x40, 1, 0x0, 1, 0x0⟩
  | .CMP_CNT => ⟨0x400B0028, 32, 0x40, 1, 0x0, 1, 0x0⟩
  | .GRD_CFG => ⟨0x400C0000, 4, 0x100, 1, 0x0, 1, 0x0⟩
  | .GRD_RATED => ⟨0x400C0004, 4, 0x100, 1, 0x0, 1, 0x0⟩
  | .GRD_IMAX => ⟨0x400C0008, 4, 0x100, 1, 0x0, 1, 0x0⟩
  | .GRD_VBAND => ⟨0x400C000C, 4, 0x100, 1, 0x0, 1, 0x0⟩
  | .GRD_FBAND => ⟨0x400C0010, 4, 0x100, 1, 0x0, 1, 0x0⟩
  | .GRD_RIDE => ⟨0x400C0014, 4, 0x100, 1, 0x0, 1, 0x0⟩
  | .GRD_RATES => ⟨0x400C0018, 4, 0x100, 1, 0x0, 1, 0x0⟩
  | .GRD_ROCOF => ⟨0x400C001C, 4, 0x100, 1, 0x0, 1, 0x0⟩
  | .GRD_VSN => ⟨0x400C0020, 4, 0x100, 1, 0x0, 1, 0x0⟩
  | .GRD_NPER => ⟨0x400C0024, 4, 0x100, 1, 0x0, 1, 0x0⟩
  | .GRD_PED => ⟨0x400C0028, 4, 0x100, 1, 0x0, 1, 0x0⟩
  | .GRD_RECON => ⟨0x400C002C, 4, 0x100, 1, 0x0, 1, 0x0⟩
  | .GRD_CTRL => ⟨0x400C0040, 4, 0x100, 1, 0x0, 1, 0x0⟩
  | .GRD_STATUS => ⟨0x400C0044, 4, 0x100, 1, 0x0, 1, 0x0⟩
  | .GRD_ID_SP => ⟨0x400C0048, 4, 0x100, 1, 0x0, 1, 0x0⟩
  | .GRD_IQ_SP => ⟨0x400C004C, 4, 0x100, 1, 0x0, 1, 0x0⟩
  | .GRD_REF_THETA => ⟨0x400C0050, 4, 0x100, 1, 0x0, 1, 0x0⟩
  | .GRD_REF_DQ => ⟨0x400C0054, 4, 0x100, 1, 0x0, 1, 0x0⟩
  | .GRD_ISL_MEAS => ⟨0x400C0058, 4, 0x100, 1, 0x0, 1, 0x0⟩
  | .GRD_ISL_RESP => ⟨0x400C005C, 4, 0x100, 1, 0x0, 1, 0x0⟩
  | .GRD_CNT => ⟨0x400C0060, 4, 0x100, 1, 0x0, 1, 0x0⟩
  | .GRD_RIDE_CNT => ⟨0x400C0064, 4, 0x100, 1, 0x0, 1, 0x0⟩
  | .RIDE_W => ⟨0x400C0400, 16, 0x80, 17, 0x4, 1, 0x0⟩
  | .MPPT_CFG => ⟨0x400C1000, 16, 0x40, 1, 0x0, 1, 0x0⟩
  | .MPPT_VLIM => ⟨0x400C1004, 16, 0x40, 1, 0x0, 1, 0x0⟩
  | .MPPT_SLIM => ⟨0x400C1008, 16, 0x40, 1, 0x0, 1, 0x0⟩
  | .MPPT_TIM => ⟨0x400C100C, 16, 0x40, 1, 0x0, 1, 0x0⟩
  | .MPPT_PDEAD => ⟨0x400C1010, 16, 0x40, 1, 0x0, 1, 0x0⟩
  | .MPPT_DROP => ⟨0x400C1014, 16, 0x40, 1, 0x0, 1, 0x0⟩
  | .MPPT_CTRL => ⟨0x400C1020, 16, 0x40, 1, 0x0, 1, 0x0⟩
  | .MPPT_STATUS => ⟨0x400C1024, 16, 0x40, 1, 0x0, 1, 0x0⟩
  | .MPPT_VREF => ⟨0x400C1028, 16, 0x40, 1, 0x0, 1, 0x0⟩
  | .MPPT_VMPP => ⟨0x400C102C, 16, 0x40, 1, 0x0, 1, 0x0⟩
  | .MPPT_PMAX => ⟨0x400C1030, 16, 0x40, 1, 0x0, 1, 0x0⟩
  | .MPPT_CNT => ⟨0x400C1034, 16, 0x40, 1, 0x0, 1, 0x0⟩
  | .AXS_CFG => ⟨0x400D0000, 32, 0x40, 1, 0x0, 1, 0x0⟩
  | .AXS_RATE => ⟨0x400D0004, 32, 0x40, 1, 0x0, 1, 0x0⟩
  | .AXS_JERK => ⟨0x400D0008, 32, 0x40, 1, 0x0, 1, 0x0⟩
  | .AXS_ZDWELL => ⟨0x400D000C, 32, 0x40, 1, 0x0, 1, 0x0⟩
  | .AXS_LIM_LO => ⟨0x400D0010, 32, 0x40, 1, 0x0, 1, 0x0⟩
  | .AXS_LIM_HI => ⟨0x400D0014, 32, 0x40, 1, 0x0, 1, 0x0⟩
  | .AXS_LIMFLAGS => ⟨0x400D0018, 32, 0x40, 1, 0x0, 1, 0x0⟩
  | .AXS_VMAX => ⟨0x400D001C, 32, 0x40, 1, 0x0, 1, 0x0⟩
  | .AXS_STOPRATE => ⟨0x400D0020, 32, 0x40, 1, 0x0, 1, 0x0⟩
  | .AXS_STOPJERK => ⟨0x400D0024, 32, 0x40, 1, 0x0, 1, 0x0⟩
  | .AXS_SP => ⟨0x400D0028, 32, 0x40, 1, 0x0, 1, 0x0⟩
  | .AXS_CTRL => ⟨0x400D002C, 32, 0x40, 1, 0x0, 1, 0x0⟩
  | .AXS_STATUS => ⟨0x400D0030, 32, 0x40, 1, 0x0, 1, 0x0⟩
  | .AXS_OUT => ⟨0x400D0034, 32, 0x40, 1, 0x0, 1, 0x0⟩
  | .AXS_ACC => ⟨0x400D0038, 32, 0x40, 1, 0x0, 1, 0x0⟩
  | .AXS_STAMP => ⟨0x400D003C, 32, 0x40, 1, 0x0, 1, 0x0⟩
  | .AXS_CNT => ⟨0x400D0800, 32, 0x4, 1, 0x0, 1, 0x0⟩
  | .AUX_CFG => ⟨0x400E0000, 8, 0x40, 1, 0x0, 1, 0x0⟩
  | .AUX_PERIOD => ⟨0x400E0004, 8, 0x40, 1, 0x0, 1, 0x0⟩
  | .AUX_TGT => ⟨0x400E0008, 8, 0x40, 1, 0x0, 1, 0x0⟩
  | .AUX_SS => ⟨0x400E000C, 8, 0x40, 1, 0x0, 1, 0x0⟩
  | .AUX_LIM => ⟨0x400E0010, 8, 0x40, 1, 0x0, 1, 0x0⟩
  | .AUX_B01 => ⟨0x400E0014, 8, 0x40, 1, 0x0, 1, 0x0⟩
  | .AUX_B2 => ⟨0x400E0018, 8, 0x40, 1, 0x0, 1, 0x0⟩
  | .AUX_CTRL => ⟨0x400E0020, 8, 0x40, 1, 0x0, 1, 0x0⟩
  | .AUX_STATUS => ⟨0x400E0024, 8, 0x40, 1, 0x0, 1, 0x0⟩
  | .AUX_MEAS => ⟨0x400E0028, 8, 0x40, 1, 0x0, 1, 0x0⟩
  | .AUX_CNT => ⟨0x400E002C, 8, 0x40, 1, 0x0, 1, 0x0⟩
  | .FAN_CFG => ⟨0x400F0000, 8, 0x40, 1, 0x0, 1, 0x0⟩
  | .FAN_MIN => ⟨0x400F0004, 8, 0x40, 1, 0x0, 1, 0x0⟩
  | .FAN_I => ⟨0x400F0008, 8, 0x40, 1, 0x0, 1, 0x0⟩
  | .FAN_NTC01 => ⟨0x400F000C, 8, 0x40, 1, 0x0, 1, 0x0⟩
  | .FAN_NTC23 => ⟨0x400F0010, 8, 0x40, 1, 0x0, 1, 0x0⟩
  | .FAN_PT => ⟨0x400F0014, 8, 0x40, 4, 0x4, 1, 0x0⟩
  | .FAN_DUTY_SP => ⟨0x400F0024, 8, 0x40, 1, 0x0, 1, 0x0⟩
  | .FAN_CTRL => ⟨0x400F0028, 8, 0x40, 1, 0x0, 1, 0x0⟩
  | .FAN_STATUS => ⟨0x400F002C, 8, 0x40, 1, 0x0, 1, 0x0⟩
  | .FAN_MEAS => ⟨0x400F0030, 8, 0x40, 1, 0x0, 1, 0x0⟩
  | .FAN_DUTY => ⟨0x400F0034, 8, 0x40, 1, 0x0, 1, 0x0⟩
  | .FAN_CNT => ⟨0x400F0038, 8, 0x40, 1, 0x0, 1, 0x0⟩
  | .LOOP_CFG => ⟨0x400F8000, 4, 0x40, 1, 0x0, 1, 0x0⟩
  | .LOOP_INIT => ⟨0x400F8004, 4, 0x40, 1, 0x0, 1, 0x0⟩
  | .LOOP_GAIN => ⟨0x400F8008, 4, 0x40, 1, 0x0, 1, 0x0⟩
  | .LOOP_CODE => ⟨0x400F8010, 4, 0x40, 1, 0x0, 1, 0x0⟩
  | .LOOP_CTRL => ⟨0x400F8014, 4, 0x40, 1, 0x0, 1, 0x0⟩
  | .LOOP_STATUS => ⟨0x400F8018, 4, 0x40, 1, 0x0, 1, 0x0⟩
  | .LOOP_MEAS => ⟨0x400F801C, 4, 0x40, 1, 0x0, 1, 0x0⟩
  | .LOOP_CNT => ⟨0x400F8020, 4, 0x40, 1, 0x0, 1, 0x0⟩
  | .MTR_PORT_CFG => ⟨0x40100000, 4, 0x400, 1, 0x0, 1, 0x0⟩
  | .MTR_VFS => ⟨0x40100004, 4, 0x400, 1, 0x0, 1, 0x0⟩
  | .MTR_IFS => ⟨0x40100008, 4, 0x400, 1, 0x0, 1, 0x0⟩
  | .MTR_THR => ⟨0x4010000C, 4, 0x400, 1, 0x0, 1, 0x0⟩
  | .MTR_CHGAIN => ⟨0x40100010, 4, 0x400, 7, 0x8, 1, 0x0⟩
  | .MTR_CHPHASE => ⟨0x40100014, 4, 0x400, 7, 0x8, 1, 0x0⟩
  | .MTR_INDIFF => ⟨0x40100048, 4, 0x400, 1, 0x0, 1, 0x0⟩
  | .MTR_PORT_STATUS => ⟨0x40100050, 4, 0x400, 1, 0x0, 1, 0x0⟩
  | .MTR_PORT_REQ => ⟨0x40100054, 4, 0x400, 1, 0x0, 1, 0x0⟩
  | .MTR_PORT_CNT => ⟨0x40100058, 4, 0x400, 1, 0x0, 1, 0x0⟩
  | .MTR_RMS => ⟨0x40100060, 4, 0x400, 7, 0x4, 1, 0x0⟩
  | .MTR_E_LO => ⟨0x40100100, 4, 0x400, 4, 0x40, 7, 0x8⟩
  | .MTR_E_HI => ⟨0x40100104, 4, 0x400, 4, 0x40, 7, 0x8⟩
  | .MTR_ES_LO => ⟨0x40100200, 4, 0x400, 4, 0x40, 7, 0x8⟩
  | .MTR_ES_HI => ⟨0x40100204, 4, 0x400, 4, 0x40, 7, 0x8⟩
  | .MTR_SNAP_TIME_LO => ⟨0x40100300, 4, 0x400, 1, 0x0, 1, 0x0⟩
  | .MTR_SNAP_TIME_HI => ⟨0x40100304, 4, 0x400, 1, 0x0, 1, 0x0⟩
  | .MTR_PLS_CFG => ⟨0x40101000, 4, 0x20, 1, 0x0, 1, 0x0⟩
  | .MTR_PLS_EPP => ⟨0x40101004, 4, 0x20, 1, 0x0, 1, 0x0⟩
  | .MTR_PLS_C => ⟨0x40101008, 4, 0x20, 1, 0x0, 1, 0x0⟩
  | .MTR_PLS_WIDTH => ⟨0x4010100C, 4, 0x20, 1, 0x0, 1, 0x0⟩
  | .MTR_PLS_STATUS => ⟨0x40101010, 4, 0x20, 1, 0x0, 1, 0x0⟩
  | .MTR_PLS_CNT => ⟨0x40101014, 4, 0x20, 1, 0x0, 1, 0x0⟩
  | .JLN_PHY_CFG => ⟨0x40110000, 1, 0x0, 1, 0x0, 1, 0x0⟩
  | .JLN_PHY_STATUS => ⟨0x40110004, 1, 0x0, 1, 0x0, 1, 0x0⟩
  | .JLN_RX_HDR => ⟨0x40110008, 1, 0x0, 1, 0x0, 1, 0x0⟩
  | .JLN_RX_SNR => ⟨0x4011000C, 1, 0x0, 1, 0x0, 1, 0x0⟩
  | .JLN_RX_STAMP_LO => ⟨0x40110010, 1, 0x0, 1, 0x0, 1, 0x0⟩
  | .JLN_RX_STAMP_HI => ⟨0x40110014, 1, 0x0, 1, 0x0, 1, 0x0⟩
  | .JLN_BUSY_END_LO => ⟨0x40110018, 1, 0x0, 1, 0x0, 1, 0x0⟩
  | .JLN_BUSY_END_HI => ⟨0x4011001C, 1, 0x0, 1, 0x0, 1, 0x0⟩
  | .JLN_PHY_CNT0 => ⟨0x40110020, 1, 0x0, 1, 0x0, 1, 0x0⟩
  | .JLN_PHY_CNT1 => ⟨0x40110024, 1, 0x0, 1, 0x0, 1, 0x0⟩
  | .JLN_PHY_CNT2 => ⟨0x40110028, 1, 0x0, 1, 0x0, 1, 0x0⟩
  | .JLN_W => ⟨0x40110100, 8, 0x4, 1, 0x0, 1, 0x0⟩
  | .JLN_NET_STATUS => ⟨0x40110120, 1, 0x0, 1, 0x0, 1, 0x0⟩
  | .JLN_NET_EVT => ⟨0x40110124, 1, 0x0, 1, 0x0, 1, 0x0⟩
  | .JLN_BCN_TIME_LO => ⟨0x40110128, 1, 0x0, 1, 0x0, 1, 0x0⟩
  | .JLN_BCN_TIME_HI => ⟨0x4011012C, 1, 0x0, 1, 0x0, 1, 0x0⟩
  | .JLN_BCN_PHASE => ⟨0x40110130, 1, 0x0, 1, 0x0, 1, 0x0⟩
  | .JLN_BCN_FREQ => ⟨0x40110134, 1, 0x0, 1, 0x0, 1, 0x0⟩
  | .JLN_BCN_TOKEN => ⟨0x40110138, 1, 0x0, 1, 0x0, 1, 0x0⟩
  | .JLN_BCN_NEXT => ⟨0x4011013C, 1, 0x0, 1, 0x0, 1, 0x0⟩
  | .JLN_SEQ => ⟨0x40110140, 1, 0x0, 1, 0x0, 1, 0x0⟩
  | .JLN_FCNT_LO => ⟨0x40110144, 1, 0x0, 1, 0x0, 1, 0x0⟩
  | .JLN_FCNT_HI => ⟨0x40110148, 1, 0x0, 1, 0x0, 1, 0x0⟩
  | .JLN_CTRL => ⟨0x4011014C, 1, 0x0, 1, 0x0, 1, 0x0⟩
  | .JLN_TX_CFG => ⟨0x40110150, 2, 0x10, 1, 0x0, 1, 0x0⟩
  | .JLN_TX_LEN => ⟨0x40110154, 2, 0x10, 1, 0x0, 1, 0x0⟩
  | .JLN_TX_CTRL => ⟨0x40110158, 2, 0x10, 1, 0x0, 1, 0x0⟩
  | .JLN_TX_STATUS => ⟨0x4011015C, 2, 0x10, 1, 0x0, 1, 0x0⟩
  | .JLN_RX_INFO => ⟨0x40110170, 4, 0x10, 1, 0x0, 1, 0x0⟩
  | .JLN_RX_SEQ => ⟨0x40110174, 4, 0x10, 1, 0x0, 1, 0x0⟩
  | .JLN_RX_REL => ⟨0x40110178, 4, 0x10, 1, 0x0, 1, 0x0⟩
  | .JLN_RX_TIME => ⟨0x4011017C, 4, 0x10, 1, 0x0, 1, 0x0⟩
  | .JLN_CNT0 => ⟨0x401101B0, 1, 0x0, 1, 0x0, 1, 0x0⟩
  | .JLN_CNT1 => ⟨0x401101B4, 1, 0x0, 1, 0x0, 1, 0x0⟩
  | .JLN_CNT2 => ⟨0x401101B8, 1, 0x0, 1, 0x0, 1, 0x0⟩
  | .JLN_CNT3 => ⟨0x401101BC, 1, 0x0, 1, 0x0, 1, 0x0⟩
  | .JLN_TXBUF => ⟨0x40111000, 2, 0x400, 256, 0x4, 1, 0x0⟩
  | .JLN_RXBUF => ⟨0x40112000, 4, 0x400, 256, 0x4, 1, 0x0⟩
  | .IRQ_PEND => ⟨0x40120000, 32, 0x4, 1, 0x0, 1, 0x0⟩
  | .IRQ_PEND_SET => ⟨0x40120080, 32, 0x4, 1, 0x0, 1, 0x0⟩
  | .IRQ_PEND_CLR => ⟨0x40120100, 32, 0x4, 1, 0x0, 1, 0x0⟩
  | .IRQ_EN => ⟨0x40120180, 32, 0x4, 1, 0x0, 1, 0x0⟩
  | .IRQ_EN_SET => ⟨0x40120200, 32, 0x4, 1, 0x0, 1, 0x0⟩
  | .IRQ_EN_CLR => ⟨0x40120280, 32, 0x4, 1, 0x0, 1, 0x0⟩
  | .IRQ_ROUTE => ⟨0x40120300, 64, 0x4, 1, 0x0, 1, 0x0⟩
  | .IRQ_GRP_CFG => ⟨0x40120400, 32, 0x10, 1, 0x0, 1, 0x0⟩
  | .IRQ_GRP_STATUS => ⟨0x40120404, 32, 0x10, 1, 0x0, 1, 0x0⟩
  | .IRQ_DOORBELL => ⟨0x40120600, 1, 0x0, 1, 0x0, 1, 0x0⟩
  | .IRQ_TAKEN => ⟨0x40120610, 3, 0x4, 1, 0x0, 1, 0x0⟩
  | .IRQ_PIN_CFG => ⟨0x40120700, 32, 0x4, 1, 0x0, 1, 0x0⟩
  | .IRQ_DB_SENDER => ⟨0x40120780, 16, 0x4, 1, 0x0, 1, 0x0⟩
  | .MBX_DATA => ⟨0x40130000, 64, 0x80, 16, 0x4, 1, 0x0⟩
  | .MBX_HDR => ⟨0x40130040, 64, 0x80, 1, 0x0, 1, 0x0⟩
  | .MBX_STATUS => ⟨0x40130044, 64, 0x80, 1, 0x0, 1, 0x0⟩
  | .MBX_CTRL => ⟨0x40130048, 64, 0x80, 1, 0x0, 1, 0x0⟩
  | .MBX_CFG => ⟨0x4013004C, 64, 0x80, 1, 0x0, 1, 0x0⟩
  | .MBX_STAMP_LO => ⟨0x40130050, 64, 0x80, 1, 0x0, 1, 0x0⟩
  | .MBX_STAMP_HI => ⟨0x40130054, 64, 0x80, 1, 0x0, 1, 0x0⟩
  | .MBX_CNT => ⟨0x40130058, 64, 0x80, 1, 0x0, 1, 0x0⟩
  | .MBX_STAGE => ⟨0x40132000, 4, 0x80, 16, 0x4, 1, 0x0⟩
  | .MBX_STAGE_STATUS => ⟨0x40132040, 4, 0x80, 1, 0x0, 1, 0x0⟩
  | .JNL_CFG => ⟨0x40140000, 1, 0x0, 1, 0x0, 1, 0x0⟩
  | .JNL_AXRESUME => ⟨0x40140004, 1, 0x0, 1, 0x0, 1, 0x0⟩
  | .JNL_STATUS => ⟨0x40140008, 1, 0x0, 1, 0x0, 1, 0x0⟩
  | .JNL_SEQ => ⟨0x4014000C, 1, 0x0, 1, 0x0, 1, 0x0⟩
  | .JNL_MIR_SEQ => ⟨0x40140010, 1, 0x0, 1, 0x0, 1, 0x0⟩
  | .JNL_PIN_ACK => ⟨0x40140014, 1, 0x0, 1, 0x0, 1, 0x0⟩
  | .JNL_EVT => ⟨0x40140018, 1, 0x0, 1, 0x0, 1, 0x0⟩
  | .JNL_CNT => ⟨0x4014001C, 1, 0x0, 1, 0x0, 1, 0x0⟩
  | .JNL_PIN_STATUS => ⟨0x40140020, 1, 0x0, 1, 0x0, 1, 0x0⟩
  | .JNL_OP => ⟨0x40141000, 256, 0x8, 1, 0x0, 1, 0x0⟩
  | .JNL_OP_PROG => ⟨0x40141004, 256, 0x8, 1, 0x0, 1, 0x0⟩
  | .UCR_CFG => ⟨0x40150000, 1, 0x0, 1, 0x0, 1, 0x0⟩
  | .UCR_PWRLOW => ⟨0x40150004, 1, 0x0, 1, 0x0, 1, 0x0⟩
  | .UCR_STATUS => ⟨0x40150008, 1, 0x0, 1, 0x0, 1, 0x0⟩
  | .UCR_TIME_LO => ⟨0x4015000C, 1, 0x0, 1, 0x0, 1, 0x0⟩
  | .UCR_TIME_HI => ⟨0x40150010, 1, 0x0, 1, 0x0, 1, 0x0⟩
  | .UCR_ALARM_LO => ⟨0x40150014, 1, 0x0, 1, 0x0, 1, 0x0⟩
  | .UCR_ALARM_HI => ⟨0x40150018, 1, 0x0, 1, 0x0, 1, 0x0⟩
  | .UCR_MEAS => ⟨0x4015001C, 1, 0x0, 1, 0x0, 1, 0x0⟩
  | .UCR_EVT => ⟨0x40150020, 1, 0x0, 1, 0x0, 1, 0x0⟩
  | .UCR_CNT => ⟨0x40150024, 1, 0x0, 1, 0x0, 1, 0x0⟩
  | .FLT_DEV => ⟨0x40160000, 1, 0x0, 1, 0x0, 1, 0x0⟩
  | .FLT_EVT => ⟨0x40160004, 1, 0x0, 1, 0x0, 1, 0x0⟩
  | .FLT_CNT => ⟨0x40160008, 1, 0x0, 1, 0x0, 1, 0x0⟩
  | .FLT_CNT2 => ⟨0x4016000C, 1, 0x0, 1, 0x0, 1, 0x0⟩
  | .FLT_LAST => ⟨0x40160010, 1, 0x0, 1, 0x0, 1, 0x0⟩
  | .FLT_CNV => ⟨0x40160100, 256, 0x4, 1, 0x0, 1, 0x0⟩
  | .FLT_CNV_CLR => ⟨0x40160500, 1, 0x0, 1, 0x0, 1, 0x0⟩
  | .FLT_STALE => ⟨0x40160600, 8, 0x4, 1, 0x0, 1, 0x0⟩
  | .FLT_OUT => ⟨0x40160620, 8, 0x4, 1, 0x0, 1, 0x0⟩
  | .FLT_SVC_CTRL => ⟨0x40160640, 1, 0x0, 1, 0x0, 1, 0x0⟩
  | .DBG_CORE_CTRL => ⟨0x40170000, 2, 0x200, 1, 0x0, 1, 0x0⟩
  | .DBG_CORE_STATUS => ⟨0x40170004, 2, 0x200, 1, 0x0, 1, 0x0⟩
  | .DBG_PC => ⟨0x40170008, 2, 0x200, 1, 0x0, 1, 0x0⟩
  | .DBG_BP => ⟨0x40170010, 2, 0x200, 4, 0x4, 1, 0x0⟩
  | .DBG_WP_ADDR => ⟨0x40170020, 2, 0x200, 2, 0x8, 1, 0x0⟩
  | .DBG_WP_CFG => ⟨0x40170024, 2, 0x200, 2, 0x8, 1, 0x0⟩
  | .DBG_GREG => ⟨0x40170100, 2, 0x200, 32, 0x4, 1, 0x0⟩
  | .DBG_STATUS => ⟨0x40170400, 1, 0x0, 1, 0x0, 1, 0x0⟩
  | .VST_STATUS => ⟨0x40180000, 1, 0x0, 1, 0x0, 1, 0x0⟩
  | .VST_IMG_SEQ => ⟨0x40180004, 1, 0x0, 1, 0x0, 1, 0x0⟩
  | .VST_IMG_INFO => ⟨0x40180008, 1, 0x0, 1, 0x0, 1, 0x0⟩
  | .VST_REC_COUNT => ⟨0x4018000C, 1, 0x0, 1, 0x0, 1, 0x0⟩
  | .VST_REJ => ⟨0x40180010, 2, 0x10, 1, 0x0, 1, 0x0⟩
  | .VST_REJ_OFFSET => ⟨0x40180014, 2, 0x10, 1, 0x0, 1, 0x0⟩
  | .VST_REJ_TYPE => ⟨0x40180018, 2, 0x10, 1, 0x0, 1, 0x0⟩
  | .VST_OVL_LEN => ⟨0x40180030, 4, 0x4, 1, 0x0, 1, 0x0⟩
  | .VST_IMG_HASH => ⟨0x40180040, 8, 0x4, 1, 0x0, 1, 0x0⟩

/-- The registers of the SYS block. -/
def Reg.allSYS : List Reg :=
  [.SYS_ID, .SYS_START, .SYS_CORE_ARM, .SYS_MODE, .SYS_MODE_REQ, .SYS_MODE_RESULT,
   .SYS_MODE_TIME_LO, .SYS_MODE_TIME_HI, .SYS_NV_STATE, .SYS_NV_PC, .SYS_NV_STATUS, .SYS_NV_SP,
   .SYS_NV_TIME_LO, .SYS_NV_TIME_HI, .SYS_NV_RELEASE, .SYS_CHN_STATUS, .SYS_CHN_EVAL, .SYS_CHN_FLOOR,
   .SYS_CHN_FLOOR_LEFT, .SYS_CHN_KEYUSE, .SYS_CHN_SIGSLOT, .SYS_CHN_CNT, .SYS_CHN_DEVPUB, .SYS_TAMPER,
   .SYS_CHN_DEVID_LO, .SYS_CHN_DEVID_HI, .SYS_CHN_RES, .SYS_CHN_EPOCH, .SYS_CHN_PROV_CMD, .SYS_CHN_PROV_RES,
   .SYS_CHN_PROV_KEY]
/-- The registers of the CLK block. -/
def Reg.allCLK : List Reg :=
  [.CLK_CFG, .CLK_LOCK_CFG, .CLK_STATUS, .CLK_EVENTS]
/-- The registers of the TB block. -/
def Reg.allTB : List Reg :=
  [.TB_NOW_LO, .TB_NOW_HI, .TB_REF_RANK, .TB_REF_CFG, .TB_STATE, .TB_ORIGIN_LO,
   .TB_ORIGIN_HI, .TB_DEBT_LO, .TB_DEBT_HI, .TB_FREQ, .TB_SWITCHES]
/-- The registers of the ANG block. -/
def Reg.allANG : List Reg :=
  [.ANG_CFG, .ANG_STATE, .ANG_ANGLE_LO, .ANG_ANGLE_HI, .ANG_RATE_LO, .ANG_RATE_HI,
   .ANG_STAMP_LO, .ANG_STAMP_HI, .ANG_FREQ, .ANG_EVT, .ANG_STEP, .ANG_CNT,
   .ANG_SL_ANGLE_LO, .ANG_SL_ANGLE_HI, .ANG_SL_STAMP_LO, .ANG_SL_STAMP_HI, .ANG_QRY_CTRL, .ANG_QRY_IN_LO,
   .ANG_QRY_IN_HI, .ANG_QRY_OUT_LO, .ANG_QRY_OUT_HI, .ANG_QRY_STATUS]
/-- The registers of the TWL block. -/
def Reg.allTWL : List Reg :=
  [.TWL_SLOT_CFG, .TWL_SLOT_ACT, .TWL_SLOT_TGT_LO, .TWL_SLOT_TGT_HI, .TWL_SLOT_STEP_LO, .TWL_SLOT_STEP_HI,
   .TWL_SLOT_CTRL, .TWL_SLOT_STATUS, .TWL_PRED_LO, .TWL_PRED_HI, .TWL_CNT, .TWL_LATE_LAST]
/-- The registers of the EDG block. -/
def Reg.allEDG : List Reg :=
  [.EDG_CNV_CFG, .EDG_CNV_LEAD, .EDG_CNV_PROT, .EDG_CNV_OFFSET, .EDG_CNV_PERIOD_SH, .EDG_CNV_COMMIT,
   .EDG_CNV_CTRL, .EDG_CNV_FORCE, .EDG_CNV_STATUS, .EDG_CNV_TRIPSRC, .EDG_CNV_BOUND_LO, .EDG_CNV_BOUND_HI,
   .EDG_CNV_CNT, .EDG_CNV_PERIODS, .EDG_LEG_ON_SH, .EDG_LEG_OFF_SH, .EDG_LEG_MODE_SH, .EDG_LEG_MAP,
   .EDG_LOC_CFG, .EDG_LOC_PROT, .EDG_LOC_OFFSET, .EDG_LOC_PERIOD_SH, .EDG_LOC_ON_SH, .EDG_LOC_OFF_SH,
   .EDG_LOC_CTRL, .EDG_LOC_FORCE, .EDG_TRIP_CFG, .EDG_TRIP_STATUS, .EDG_BRK_CFG, .EDG_BRK_STATUS]
/-- The registers of the SEL block. -/
def Reg.allSEL : List Reg :=
  [.SEL_BUS_CFG, .SEL_BUS_STATUS, .SEL_BUS_EVT, .SEL_BUS_LOAD, .SEL_BUS_CNT, .SEL_DROP_STATE,
   .SEL_DROP_DELAY, .SEL_DROP_CNT, .SEL_DROP_SERIAL]
/-- The registers of the BTR block. -/
def Reg.allBTR : List Reg :=
  [.BTR_ID, .BTR_SERIAL, .BTR_DRIVE_CFG, .BTR_ADAPT_CFG, .BTR_ADAPT_IMIN, .BTR_PROT_CFG0,
   .BTR_PROT_CFG1, .BTR_BRAKE_CFG0, .BTR_BRAKE_CFG1, .BTR_PROT_EVT, .BTR_PROT_CNT, .BTR_BRAKE_STAT,
   .BTR_TRIP_STAMP, .BTR_STATE, .BTR_STRENGTH, .BTR_TSW, .BTR_NTC, .BTR_CNT,
   .BTR_AGE, .BTR_CTRL]
/-- The registers of the ADC block. -/
def Reg.allADC : List Reg :=
  [.ADC_CORE_CFG, .ADC_CORE_OFS, .ADC_CORE_GAIN, .ADC_SEQ_LEN, .ADC_SEQ_E, .ADC_CORE_CTRL,
   .ADC_CORE_STATUS, .ADC_FIFO_DATA, .ADC_FIFO_STAMP, .ADC_DMA_BASE, .ADC_DMA_SIZE, .ADC_DMA_WR,
   .ADC_DMA_RD, .ADC_CNT, .ADC_SKEW, .ADC_IN_OFS, .ADC_IN_GAIN, .ADC_IN_LAST,
   .ADC_IN_STAMP]
/-- The registers of the LSN block. -/
def Reg.allLSN : List Reg :=
  [.LSN_CFG, .LSN_LATCHSLOT, .LSN_OFS, .LSN_GAIN, .LSN_LAST, .LSN_LAST_STAMP,
   .LSN_LATCHED, .LSN_LATCH_STAMP, .LSN_GRP_STATUS, .LSN_GRP_CNT, .LSN_CTRL]
/-- The registers of the CMP block. -/
def Reg.allCMP : List Reg :=
  [.CMP_CFG, .CMP_ROUTE, .CMP_DAC, .CMP_RAMP, .CMP_VIGIL, .CMP_STATUS,
   .CMP_TEST, .CMP_CTRL, .CMP_CAP_LO, .CMP_CAP_HI, .CMP_CNT]
/-- The registers of the GRD block. -/
def Reg.allGRD : List Reg :=
  [.GRD_CFG, .GRD_RATED, .GRD_IMAX, .GRD_VBAND, .GRD_FBAND, .GRD_RIDE,
   .GRD_RATES, .GRD_ROCOF, .GRD_VSN, .GRD_NPER, .GRD_PED, .GRD_RECON,
   .GRD_CTRL, .GRD_STATUS, .GRD_ID_SP, .GRD_IQ_SP, .GRD_REF_THETA, .GRD_REF_DQ,
   .GRD_ISL_MEAS, .GRD_ISL_RESP, .GRD_CNT, .GRD_RIDE_CNT, .RIDE_W, .MPPT_CFG,
   .MPPT_VLIM, .MPPT_SLIM, .MPPT_TIM, .MPPT_PDEAD, .MPPT_DROP, .MPPT_CTRL,
   .MPPT_STATUS, .MPPT_VREF, .MPPT_VMPP, .MPPT_PMAX, .MPPT_CNT]
/-- The registers of the AXS block. -/
def Reg.allAXS : List Reg :=
  [.AXS_CFG, .AXS_RATE, .AXS_JERK, .AXS_ZDWELL, .AXS_LIM_LO, .AXS_LIM_HI,
   .AXS_LIMFLAGS, .AXS_VMAX, .AXS_STOPRATE, .AXS_STOPJERK, .AXS_SP, .AXS_CTRL,
   .AXS_STATUS, .AXS_OUT, .AXS_ACC, .AXS_STAMP, .AXS_CNT]
/-- The registers of the AUX block. -/
def Reg.allAUX : List Reg :=
  [.AUX_CFG, .AUX_PERIOD, .AUX_TGT, .AUX_SS, .AUX_LIM, .AUX_B01,
   .AUX_B2, .AUX_CTRL, .AUX_STATUS, .AUX_MEAS, .AUX_CNT]
/-- The registers of the FAN block. -/
def Reg.allFAN : List Reg :=
  [.FAN_CFG, .FAN_MIN, .FAN_I, .FAN_NTC01, .FAN_NTC23, .FAN_PT,
   .FAN_DUTY_SP, .FAN_CTRL, .FAN_STATUS, .FAN_MEAS, .FAN_DUTY, .FAN_CNT,
   .LOOP_CFG, .LOOP_INIT, .LOOP_GAIN, .LOOP_CODE, .LOOP_CTRL, .LOOP_STATUS,
   .LOOP_MEAS, .LOOP_CNT]
/-- The registers of the MTR block. -/
def Reg.allMTR : List Reg :=
  [.MTR_PORT_CFG, .MTR_VFS, .MTR_IFS, .MTR_THR, .MTR_CHGAIN, .MTR_CHPHASE,
   .MTR_INDIFF, .MTR_PORT_STATUS, .MTR_PORT_REQ, .MTR_PORT_CNT, .MTR_RMS, .MTR_E_LO,
   .MTR_E_HI, .MTR_ES_LO, .MTR_ES_HI, .MTR_SNAP_TIME_LO, .MTR_SNAP_TIME_HI, .MTR_PLS_CFG,
   .MTR_PLS_EPP, .MTR_PLS_C, .MTR_PLS_WIDTH, .MTR_PLS_STATUS, .MTR_PLS_CNT]
/-- The registers of the JLN block. -/
def Reg.allJLN : List Reg :=
  [.JLN_PHY_CFG, .JLN_PHY_STATUS, .JLN_RX_HDR, .JLN_RX_SNR, .JLN_RX_STAMP_LO, .JLN_RX_STAMP_HI,
   .JLN_BUSY_END_LO, .JLN_BUSY_END_HI, .JLN_PHY_CNT0, .JLN_PHY_CNT1, .JLN_PHY_CNT2, .JLN_W,
   .JLN_NET_STATUS, .JLN_NET_EVT, .JLN_BCN_TIME_LO, .JLN_BCN_TIME_HI, .JLN_BCN_PHASE, .JLN_BCN_FREQ,
   .JLN_BCN_TOKEN, .JLN_BCN_NEXT, .JLN_SEQ, .JLN_FCNT_LO, .JLN_FCNT_HI, .JLN_CTRL,
   .JLN_TX_CFG, .JLN_TX_LEN, .JLN_TX_CTRL, .JLN_TX_STATUS, .JLN_RX_INFO, .JLN_RX_SEQ,
   .JLN_RX_REL, .JLN_RX_TIME, .JLN_CNT0, .JLN_CNT1, .JLN_CNT2, .JLN_CNT3,
   .JLN_TXBUF, .JLN_RXBUF]
/-- The registers of the IRQ block. -/
def Reg.allIRQ : List Reg :=
  [.IRQ_PEND, .IRQ_PEND_SET, .IRQ_PEND_CLR, .IRQ_EN, .IRQ_EN_SET, .IRQ_EN_CLR,
   .IRQ_ROUTE, .IRQ_GRP_CFG, .IRQ_GRP_STATUS, .IRQ_DOORBELL, .IRQ_TAKEN, .IRQ_PIN_CFG,
   .IRQ_DB_SENDER]
/-- The registers of the MBX block. -/
def Reg.allMBX : List Reg :=
  [.MBX_DATA, .MBX_HDR, .MBX_STATUS, .MBX_CTRL, .MBX_CFG, .MBX_STAMP_LO,
   .MBX_STAMP_HI, .MBX_CNT, .MBX_STAGE, .MBX_STAGE_STATUS]
/-- The registers of the JNL block. -/
def Reg.allJNL : List Reg :=
  [.JNL_CFG, .JNL_AXRESUME, .JNL_STATUS, .JNL_SEQ, .JNL_MIR_SEQ, .JNL_PIN_ACK,
   .JNL_EVT, .JNL_CNT, .JNL_PIN_STATUS, .JNL_OP, .JNL_OP_PROG]
/-- The registers of the UCR block. -/
def Reg.allUCR : List Reg :=
  [.UCR_CFG, .UCR_PWRLOW, .UCR_STATUS, .UCR_TIME_LO, .UCR_TIME_HI, .UCR_ALARM_LO,
   .UCR_ALARM_HI, .UCR_MEAS, .UCR_EVT, .UCR_CNT]
/-- The registers of the FLT block. -/
def Reg.allFLT : List Reg :=
  [.FLT_DEV, .FLT_EVT, .FLT_CNT, .FLT_CNT2, .FLT_LAST, .FLT_CNV,
   .FLT_CNV_CLR, .FLT_STALE, .FLT_OUT, .FLT_SVC_CTRL]
/-- The registers of the DBG block. -/
def Reg.allDBG : List Reg :=
  [.DBG_CORE_CTRL, .DBG_CORE_STATUS, .DBG_PC, .DBG_BP, .DBG_WP_ADDR, .DBG_WP_CFG,
   .DBG_GREG, .DBG_STATUS]
/-- The registers of the VST block. -/
def Reg.allVST : List Reg :=
  [.VST_STATUS, .VST_IMG_SEQ, .VST_IMG_INFO, .VST_REC_COUNT, .VST_REJ, .VST_REJ_OFFSET,
   .VST_REJ_TYPE, .VST_OVL_LEN, .VST_IMG_HASH]

/-- The registers whose block lies at an address's 64 KB unit (the mirror of the companions, BTR, takes 0x4008_0000 alone;
every block of Table 33.1 lies inside one unit). -/
def Reg.blockAt : Nat → List Reg
  | 0x4000 => Reg.allSYS
  | 0x4001 => Reg.allCLK
  | 0x4002 => Reg.allTB
  | 0x4003 => Reg.allANG
  | 0x4004 => Reg.allTWL
  | 0x4005 => Reg.allEDG
  | 0x4006 => Reg.allSEL
  | 0x4008 => Reg.allBTR
  | 0x4009 => Reg.allADC
  | 0x400A => Reg.allLSN
  | 0x400B => Reg.allCMP
  | 0x400C => Reg.allGRD
  | 0x400D => Reg.allAXS
  | 0x400E => Reg.allAUX
  | 0x400F => Reg.allFAN
  | 0x4010 => Reg.allMTR
  | 0x4011 => Reg.allJLN
  | 0x4012 => Reg.allIRQ
  | 0x4013 => Reg.allMBX
  | 0x4014 => Reg.allJNL
  | 0x4015 => Reg.allUCR
  | 0x4016 => Reg.allFLT
  | 0x4017 => Reg.allDBG
  | 0x4018 => Reg.allVST
  | _ => []

end Sys2Proof.Machine
end

