-- ==== Sys2Proof/Machine/State.lean ====
section
/-!
DEFINITION. Sys2Proof/Machine/State.lean: the state of the controller and of the companions on its buses, as plain data:
the register bank (every field of every register of Table 33.1), the memories, and what each chapter of the spec gives a
block beside its registers; then the reasons a step can stop and the state after reset.
-/

namespace Sys2Proof.Machine

/-- A finite map from numbers in one canonical form: keys strictly rising, no entry equal to the default. -/
abbrev Table (α : Type) := List (Nat × α)

/-- The value at a key, the default where the key is not listed. -/
def Table.get {α : Type} (d : α) : Table α → Nat → α
  | [], _ => d
  | (k', v) :: t, k => if k' = k then v else Table.get d t k

/-- Insert or replace an entry. -/
def Table.ins {α : Type} (k : Nat) (v : α) : Table α → Table α
  | [] => [(k, v)]
  | (k', v') :: t =>
    if k < k' then (k, v) :: (k', v') :: t else if k' = k then (k, v) :: t else (k', v') :: Table.ins k v t

/-- Remove the entries of a key. -/
def Table.del {α : Type} (k : Nat) : Table α → Table α
  | [] => []
  | (k', v') :: t => if k' = k then Table.del k t else (k', v') :: Table.del k t

/-- Write a key; writing the default removes the entry. -/
def Table.set {α : Type} [DecidableEq α] (d : α) (t : Table α) (k : Nat) (v : α) : Table α :=
  if v = d then Table.del k t else Table.ins k v t

/-- The canonical form: keys strictly rising and above `lo`, no entry equal to the default. -/
def Table.wfFrom {α : Type} [DecidableEq α] (d : α) : Nat → Table α → Bool
  | _, [] => true
  | lo, (k, v) :: t => decide (lo ≤ k) && decide (v ≠ d) && Table.wfFrom d (k + 1) t

/-- The canonical form of a whole table. -/
def Table.wf {α : Type} [DecidableEq α] (d : α) (t : Table α) : Bool := Table.wfFrom d 0 t

/-! ### Answers of accesses -/

/-- How the last access ended: nothing answered yet, done, a bus error (R4, R5), or the reader stalls (R92). -/
inductive RespStatus where
  | none | ok | busErr | stall
  deriving DecidableEq, Repr

/-- The answer to the last access: its status and, for a read, its data. -/
structure Resp where
  status : RespStatus := .none
  data : Word := 0
  deriving DecidableEq, Repr

/-! ### The journal (chapters 26 and 27) -/

/-- A group of records in the retention SRAM: its first SEQ, KIND, the slots its records take in order, its ticket,
the port of a CHECKPOINT or TAIL group, whether it is the mirror's own, and how many of its records are in FRAM. -/
structure JGrp where
  seq : Nat
  kind : Nat
  slots : List Nat
  tkt : Option Nat := none
  port : Nat := 0
  own : Bool := false
  mir : Nat := 0
  deriving DecidableEq, Repr

/-- A pinned group that waits for room (R461): KIND, TIME of its event, BODY and what follows the head. -/
structure QGrp where
  kind : Nat
  time : Nat
  body : List Byte
  conts : List (List Byte) := []
  deriving DecidableEq, Repr

/-- What the operation table holds of an open operation beside JNL_OP: its kind and unit (R450). -/
structure OpInfo where
  kind : Nat := 0
  unit : Nat := 0
  deriving DecidableEq, Repr

/-- An operation found open at t5 (R451). -/
structure Replayed where
  ticket : Nat
  kind : Nat
  unit : Nat
  action : Nat
  replays : Nat
  param : List Byte
  prog : Nat
  deriving DecidableEq, Repr

structure Jnl where
  /-- The journal takes records: from its work of t5 (R451). -/
  ready : Bool := false
  /-- The 2,048 record slots of the retention SRAM, 32 bytes each; an absent slot is all 0 (R442). -/
  slots : Table (List Byte) := []
  /-- The 16,384 slots of the FRAM (R442). -/
  fram : Table (List Byte) := []
  /-- Groups held in the retention SRAM, oldest first. -/
  grps : List JGrp := []
  /-- The next ring slot, from 256. -/
  ring : Nat := 256
  /-- The next slot of the FRAM ring mirror, from 4,096. -/
  mring : Nat := 4096
  /-- Groups waiting for the pinned area (R461). -/
  queue : List QGrp := []
  /-- Ticket generations by index (R450). -/
  gen : Table Nat := []
  /-- Operation table beside JNL_OP. -/
  ops : Table OpInfo := []
  /-- The mirror pass's ticket, its records copied since the last OP_PROG, and its stop (R449). -/
  pass : Option Nat := none
  copied : Nat := 0
  retry : Nat := 0
  stopped : Bool := false
  /-- SEQ of pinned archive groups, for JNL_PIN_ACK (R448): first SEQ and slots. -/
  archive : List (Nat × List Nat) := []
  /-- Groups held in the FRAM, oldest first, with their FRAM slots; the archive slots of the group being copied. -/
  mgrps : List JGrp := []
  arcNow : List Nat := []
  /-- TB_NOW[63:16] written to records before TB_NOW counts (R444). -/
  startTime : Nat := 0
  /-- Operations replayed at t5 that still wait for their action (R451). -/
  replayed : List Replayed := []
  deriving DecidableEq, Repr

/-! ### Power, the Undercroft and start (chapters 1, 3 and 28) -/

/-- Power states of Table 1.6. -/
inductive PState where
  | off | vigil | start | run | safeHold
  deriving DecidableEq, Repr

/-- PWREN (R471): high impedance while the Undercroft is dead. -/
inductive TriState where
  | z | low | high
  deriving DecidableEq, Repr

/-- What the LOCKA pin does in a phase-detector cycle of PLL-S (R71): high impedance, nothing, or 50 µA. -/
inductive LockA where
  | z | idle | source
  deriving DecidableEq, Repr

/-- A comparator that may wake the device, as it runs in VIGIL (R226): its number, VDAC, HYST and INV. -/
structure WakeCmp where
  k : Nat
  vdac : Nat
  hyst : Nat
  inv : Bool
  deriving DecidableEq, Repr

structure Power where
  st : PState := .off
  /-- START is held with its cause (R20). -/
  held : Bool := false
  /-- The device is held in reset (R504). -/
  inReset : Bool := true
  /-- RSTN as last driven, and whether the main supplies are in range (R463). -/
  rstn : Bool := false
  supplies : Bool := false
  /-- The Undercroft runs (R467). -/
  under : Bool := false
  pwren : TriState := .z
  /-- PWRLOW runs (R471), and what was latched while it ran: bits ALARM, UWAKE, TAMPER, SUPPLY as WAKESRC. -/
  pwrlow : Bool := false
  /-- The time count when PWREN last changed in VIGIL, from which PWRLOW and WAKETMO run (R471). -/
  pwrenAt : Nat := 0
  wakeLatch : Nat := 0
  /-- The alarm that a write of UCR_ALARM_HI committed. -/
  alarm : Nat := 0
  /-- The wake that brought this start, for source 853 at t10 (R473). -/
  woke : Bool := false
  /-- The contents of the retention SRAM were kept (R470). -/
  retained : Bool := false
  /-- SAFE-HOLD holds: PFAILN (R465) and RESTART (R435). -/
  pfailHold : Bool := false
  restartHold : Bool := false
  restartTicket : Option Nat := none
  restartAt : Nat := 0
  /-- UVALID as it stood when this start began (R472). -/
  uvalidAtStart : Bool := false
  /-- Tamper inputs armed in the image that wrote the latest record (R472). -/
  armedBefore : Bool := false
  /-- What the image last loaded leaves with the Undercroft: RETAIN (R470), the tamper inputs armed (R439) and the
  comparators of 0 to 3 with WAKE 1 (R226). -/
  retain : Bool := false
  tampArmed : Nat := 0
  uwake : List WakeCmp := []
  /-- PLL-T has declared lock since t5, and the journal work of t5 has ended (R49). -/
  plltReady : Bool := false
  jnlReady : Bool := false
  /-- The latest time at which a cause of F4 cleared: PLL-T declared lock or PLLS_OK came to read 1 (R478). -/
  f4ClearAt : Nat := 0
  /-- PLL-S's phase error lay within 1 ns in its last phase-detector cycle (R71). -/
  pllsIn : Bool := false
  /-- The value from which TB_NOW starts (R74), and whether that is a restart. -/
  tbStart : Nat := 0
  /-- TIME of the latest valid record that survived to this start (R472). -/
  lower : Option Nat := none
  deriving DecidableEq, Repr

/-! ### Chancel (chapter 25) -/

/-- One OTP key slot (R428): USE code and 64 key bytes. -/
structure KeySlot where
  use : Nat := 0
  key : BitVec 512 := 0
  deriving DecidableEq, Repr

/-- One tamper input in the Undercroft (R439): consecutive failed and good probes, open, the latched times and count. -/
structure Tamper where
  bad : Nat := 0
  good : Nat := 0
  isOpen : Bool := false
  /-- The time count of the latest probe. -/
  probeAt : Option Nat := none
  firstOpen : Nat := 0
  lastClose : Nat := 0
  count : Nat := 0
  /-- A COVER record of the latched event is still to be written. -/
  pend : Bool := false
  deriving DecidableEq, Repr

structure Chn where
  slots : Table KeySlot := []
  /-- Floor bank entries, latest first (R431). -/
  floors : List Nat := []
  /-- Epoch bits set (R432) and the EXHAUSTED bit. -/
  epoch : Nat := 0
  exhausted : Bool := false
  lock : Bool := false
  /-- Provisioning: latched SLOT and USE, key bytes, words written since the latch, programming runs, LOCK waits. -/
  provSlot : Nat := 0
  provUse : Nat := 0
  provKey : Table Nat := []
  provMask : Nat := 0
  provDirty : Bool := false
  provBusy : Bool := false
  lockWait : Bool := false
  lockOk : Bool := false
  /-- Known-answer tests: the ECDSA test is still to end (R427); all tests so far passed. -/
  katPending : Bool := false
  katFail : Bool := false
  tamper : Table Tamper := []
  /-- SHA-256 of each instruction TCM as loaded (R433). -/
  itcmHash : Table (BitVec 256) := []
  /-- Releases of R371 in progress, by core. -/
  release : Nat := 0
  deriving DecidableEq, Repr

/-! ### The image (chapter 2) -/

/-- A record of the image: TYPE, INST, FLAGS, its index and the offset of its header, and its VALUE. -/
structure Rec where
  typ : Nat
  inst : Nat
  flags : Nat
  index : Nat
  off : Nat
  val : List Byte
  deriving DecidableEq, Repr

/-- A patch of an overlay (Table 2.3), with its offset in the slot. -/
structure Patch where
  typ : Nat
  inst : Nat
  poff : Nat
  data : List Byte
  off : Nat
  deriving DecidableEq, Repr

/-- A failed check of Table 2.5: reason code, INDEX, TYPE, INST and OFFSET (R44). -/
structure Rej where
  code : Nat
  index : Nat := 0
  typ : Nat := 0
  inst : Nat := 0
  off : Nat := 0
  deriving DecidableEq, Repr

structure Img where
  /-- The NOR as read during START (R24). -/
  nor : NorView := ⟨false, 0, ⟨[], none⟩, ⟨[], none⟩⟩
  /-- The read command the loader last used and its clock in MHz (R26). -/
  readCmd : Nat := 0
  readMhz : Nat := 0
  /-- Slots still to evaluate, the first of them now (R27): false A, true B. -/
  todo : List Bool := []
  /-- The slot now evaluated has been fetched (t3). -/
  fetched : Bool := false
  /-- A failure of checks 1 to 14 of the slot now evaluated, found before its signature is verified. -/
  early : Option Rej := none
  /-- Records, overlays and checks of the slot staged by the loader (R48). -/
  base : List Rec := []
  ovl : List (List Patch) := []
  /-- The records in force: the base with one overlay (R39). -/
  live : List Rec := []
  loaded : Bool := false
  deriving DecidableEq, Repr

/-! ### Modes (chapter 3) -/

/-- A mode request that waits for its quiet point (R55). -/
structure ModePend where
  src : Nat
  mode : Nat
  ticket : Nat
  time : Nat
  deriving DecidableEq, Repr

structure ModeSt where
  pend : Option ModePend := none
  /-- The predicted quiet point and whether it is the fallback of R56. -/
  qp : Option Nat := none
  forced : Bool := false
  /-- SYS_MODE_RESULT for each requester (R60): 65,536 × ticket + result, by source code 0 to 3. -/
  res : Table Nat := []
  /-- The source of the latest result reported to anyone. -/
  last : Nat := 0
  /-- MODE_MAP and OWNERSHIP in force: bitmaps by mode, and owner bitmaps (R58, Table 7.7). -/
  mapCnv : List Nat := []
  mapLoc : List Nat := []
  mapFn : List Nat := []
  ownCnv : Nat := 0
  ownLoc : Nat := 0
  ownFn : Nat := 0
  deriving DecidableEq, Repr

/-! ### Timebase (chapter 4) -/

structure TbSt where
  /-- TB_ORIGIN has been set in this START (R77). -/
  originSet : Bool := false
  /-- A beacon's vessel time less TB_NOW, for a JALAM reference (R77). -/
  beacon : Int := 0
  /-- A slew since a time (R79): the frequency it moves to, in ppb; the registers hold where it began. -/
  slewAt : Option Nat := none
  freqTo : Int := 0
  /-- The frequency of the followed reference as it was measured, from when, oldest first (R78). -/
  freqs : List (Nat × Int) := []
  deriving DecidableEq, Repr

/-! ### Trackers (chapter 5) and Twill (chapter 6) -/

structure Trk where
  /-- The extreme angle in the present direction, for R93. -/
  extreme : Int := 0
  /-- Quadrature counts since the angle word `base` (R86). -/
  count : Int := 0
  base : Int := 0
  /-- Angle and stamp at the previous Twill pass, for crossings (R112). -/
  prev : Int := 0
  prevStamp : Nat := 0
  hasPrev : Bool := false
  /-- The angle, stamp and arrival of the last sensorless write (R88, R94). -/
  slPrev : Option (Int × Nat) := none
  slAt : Nat := 0
  /-- The last edge of the port, and the illegal transitions of the last millisecond (R86, R94). -/
  edgeAt : Nat := 0
  ills : List Nat := []
  /-- Since when the amplitude has stood outside its limits (R94). -/
  lowSince : Option Nat := none
  /-- A reversal that an edge before the index edge made is due at the next update (R96). -/
  revDue : Bool := false
  /-- The turn rate last measured, and the time to which `base` has been coasted (R95). -/
  turnRate : Int := 0
  lostAt : Nat := 0
  /-- When the tracker entered COAST (R94). -/
  coastAt : Nat := 0
  deriving DecidableEq, Repr

/-- A query in progress (R92): tracker, kind, input and what the update before it gave. -/
structure Qry where
  busy : Bool := false
  trk : Nat := 0
  kind : Bool := false
  input : Nat := 0
  angle : Int := 0
  rate : Int := 0
  stamp : Nat := 0
  state : Nat := 0
  deriving DecidableEq, Repr

structure Slot where
  /-- The target and step in force, and a written pair that takes effect at the next pass (R111). -/
  tgt : Nat := 0
  step : Nat := 0
  newTgt : Option Nat := none
  newStep : Option Nat := none
  /-- DISARM met a committed firing: IDLE follows it (R118). -/
  disarm : Bool := false
  /-- The angle and stamp from which the next pass judges a crossing, where that is not the previous pass's: the slot was
  armed, its tracker returned, or its target was written since (R111, R112, R115). -/
  start : Option (Int × Nat) := none
  deriving DecidableEq, Repr

/-- What the action of a fired slot leaves to the blocks of one system cycle (R116): how many actions took effect at
which time. -/
structure TwlSt where
  cycle : Nat := 0
  count : Nat := 0
  lastPass : Nat := 0
  deriving DecidableEq, Repr

/-! ### The edge engine (chapter 7) -/

/-- A leg's part of a pattern: mode, on and off offsets (R121). -/
structure LegPat where
  leg : Nat
  mode : Nat
  on : Nat
  off : Nat
  deriving DecidableEq, Repr

/-- A committed set or the pattern of a period (R121, R123). -/
structure PatSet where
  period : Nat
  legs : List LegPat
  deriving DecidableEq, Repr

/-- A period: its boundary, its pattern, and the legs of the pattern before a force shaped them (R132). -/
structure Period where
  bound : Nat
  pat : PatSet
  raw : List LegPat := []
  deriving DecidableEq, Repr

structure Conv where
  /-- The committed set, whether a cut-off has yet to take it, and the last good set (R123, R124). -/
  com : Option PatSet := none
  fresh : Bool := false
  good : Option PatSet := none
  /-- When the committed set was committed, and the set it replaced: a cut-off in the commit's own system cycle takes that
  one (R123, R523). -/
  comAt : Nat := 0
  prev : Option PatSet := none
  /-- When the first commit since ENABLE was made (R127). -/
  firstAt : Option Nat := none
  /-- The last period that began: its boundary and length, the grid a follower keeps (R128); and whether the last cut-off
  was on that grid. -/
  last : Option (Nat × Nat) := none
  orph : Bool := false
  /-- The period in progress and those already built, oldest first (R122). -/
  cur : Option Period := none
  built : List Period := []
  /-- The boundary the next cut-off builds for. -/
  nextB : Option Nat := none
  /-- Demands of Table 7.2: IMMEDIATE disable (rank 3), the force in force, and the writes of FORCE that wait: from when each
  applies and its value, oldest first (R132). -/
  imm : Bool := false
  force : Nat := 0
  forceQ : List (Nat × Nat) := []
  /-- DISABLE waits for the end of the period, or for the end of a force above it (rank 5). -/
  drain : Bool := false
  /-- ENABLE waits for the drain to end (R481). -/
  enHeld : Bool := false
  /-- OFF follows once the demand of ranks 1 to 3 ends (R481). -/
  offAfter : Bool := false
  /-- The legs that take patterns: admitted and in service, as of the last cut-off (R156, R484). -/
  dmask : List Nat := []
  deriving DecidableEq, Repr

structure Loc where
  com : Option PatSet := none
  fresh : Bool := false
  good : Option PatSet := none
  comAt : Nat := 0
  prev : Option PatSet := none
  firstAt : Option Nat := none
  state : Nat := 0
  cur : Option Period := none
  /-- The next boundary, once a commit has started the output (R127, R130). -/
  nextB : Option Nat := none
  imm : Bool := false
  force : Nat := 0
  forceQ : List (Nat × Nat) := []
  drain : Bool := false
  enHeld : Bool := false
  offAfter : Bool := false
  /-- Trips latched on the output, and the fabric's hold (rank 1). -/
  trips : Nat := 0
  hold : Bool := false
  /-- The pin: driven since t6, and at its active level. -/
  driven : Bool := false
  active : Bool := false
  deriving DecidableEq, Repr

structure Trip where
  /-- When the input's level, or the level it is active at, last changed; whether the input counts as asserted, and since
  when (R137). -/
  since : Nat := 0
  asserted : Bool := false
  assertAt : Nat := 0
  deriving DecidableEq, Repr

/-! ### Selvedge (chapter 8) -/

/-- A SAFE block that is repeated until its drops have acted (R149). -/
structure SafeBlk where
  dmask : Nat
  code : Nat
  sent : Bool := false
  deriving DecidableEq, Repr

/-- A PATTERN block that waits for a frame (R148). -/
structure PatBlk where
  conv : Nat
  dmask : Nat
  cutoff : Nat
  bound : Nat
  period : Nat
  legs : List LegPat
  deriving DecidableEq, Repr

/-- A MGMT operation (R153): read or write, TAG, mirror halfword or unlisted value, data, whether it is on the line,
answering cycles missed. -/
structure MgmtOp where
  drop : Nat
  write : Bool
  tag : Option Nat := none
  dst : MgmtTarget
  data : Nat
  sent : Bool := false
  sentCyc : Nat := 0
  missed : Nat := 0
  /-- A read of the status rotation (R182). -/
  rotn : Bool := false
  deriving DecidableEq, Repr

/-- A downstream block (Table 8.2). -/
inductive Block where
  | cycle (num op drop : Nat)
  | safe (dmask code : Nat)
  | pattern (dmask bound period : Nat) (legs : List LegPat)
  | mgmt (drop : Nat) (write : Bool) (tag : Nat) (dst : MgmtTarget) (data : Nat)
  deriving DecidableEq, Repr

structure Bus where
  safes : List SafeBlk := []
  pats : List PatBlk := []
  ops : List MgmtOp := []
  /-- The last frame sent: its blocks, whether it is frame B, and its cycle number. -/
  frame : List Block := []
  frameB : Bool := false
  /-- Its 625 bits as they go on the line, first bit first (Table 8.1). -/
  line : List Bool := []
  cyc : Nat := 0
  /-- The drop last polled and the slot-15 work in progress (R154): CAL echoes left. -/
  poll : Nat := 15
  deriving DecidableEq, Repr

structure Drop where
  /-- ENUM polls answered by energy without a good CRC, running; polls of other drops still to pass (R161). -/
  clash : Nat := 0
  rest : Nat := 0
  /-- Something came in window 15E of the cycle that served this drop. -/
  answered : Bool := false
  /-- CAL: echoes stamped and the sum of their delays (Table 8.4). -/
  echoes : Nat := 0
  echoSum : Nat := 0
  /-- ALIGN: cycles since the write of D was sent. -/
  align : Nat := 0
  /-- CONFIG: words confirmed, the batch is being read back, one of it disagreed. CONFIRM: consistent frames in a row. -/
  cfgIdx : Nat := 0
  cfgRead : Bool := false
  cfgBad : Bool := false
  confirm : Nat := 0
  admittedOnce : Bool := false
  /-- Data frames missing or bad in a row (R160). -/
  miss : Nat := 0
  /-- Arrival errors over 256 frames (R157). -/
  errSum : Int := 0
  errN : Nat := 0
  /-- STATE of the last data frame and whether FAULT and STARVED stood (R180). -/
  state : Nat := 0
  fault : Bool := false
  starved : Bool := false
  /-- Where the status rotation stands (R182). -/
  rot : Nat := 0
  /-- R482: data frames still to judge against the mirror. R483: data frames that agreed since a good response. -/
  disc : Nat := 0
  agree : Option Nat := none
  /-- One of the frames judged disagreed (R482); when the leg became STALE or was last read again (R483). -/
  discBad : Bool := false
  staleAt : Nat := 0
  /-- BRAKING has stood since this time (R200). -/
  brakeSince : Option Nat := none
  deriving DecidableEq, Repr

/-! ### Companions (chapters 9 and 10) -/

/-- Companion states of Table 8.3. -/
inductive CState where
  | unadmitted | gatedOff | run | safe | latched
  deriving DecidableEq, Repr

/-- The configuration words of a companion (Tables 9.5 and 10.4). -/
structure CompCfg where
  mode : Nat := 0
  cpen : Nat := 0
  brake : Nat := 0
  safe : Nat := 0
  dt : Nat := 0
  target : Nat := 0
  tol : Nat := 0
  smin : Nat := 0
  smax : Nat := 0
  sinit : Nat := 0
  adapt : Nat := 0
  imin : Nat := 0
  dsth : Nat := 0
  octh : Nat := 0
  ovth : Nat := 0
  otth : Nat := 0
  pon : Nat := 0
  poff : Nat := 0
  ron : Nat := 0
  ren : Nat := 0
  roff : Nat := 0
  deriving DecidableEq, Repr

/-- A pattern a companion holds (R159). -/
structure CPat where
  bound : Nat
  period : Nat
  mode : Nat
  on : Nat
  off : Nat
  deriving DecidableEq, Repr

/-- A MGMT answer that is due (R153): TAG, halfword address, the halfword after the operation, and the bus cycle of the
frame that carried the operation. -/
structure CompAns where
  tag : Nat
  addr : Nat
  val : Nat
  cyc : Nat
  deriving DecidableEq, Repr

structure Comp where
  /-- Supplies above UVLO: VDDP, VLS, VHS; the straps latched (R167, R174). -/
  vddp : Bool := false
  vls : Bool := false
  vhs : Bool := false
  strap : Nat := 0
  supok10 : Bool := false
  st : CState := .unadmitted
  cause : Nat := 0
  aligned : Bool := false
  delay : Option Nat := none
  starveHold : Bool := false
  stag : CompCfg := {}
  /-- The active copy; its `safe` is the safe-state code the secondary holds (R175). -/
  act : CompCfg := {}
  configured : Bool := false
  applyPend : Bool := false
  /-- What the last CYCLE block said: cycle number, slot-15 operation and drop (R150). -/
  cyc : Nat := 0
  s15op : Nat := 0
  s15drop : Nat := 0
  /-- STATUS flags still to be reported, and CRC failures counted (R145). -/
  dnerr : Bool := false
  paterr : Bool := false
  qfull : Bool := false
  starved : Bool := false
  fault : Bool := false
  crcCnt : Nat := 0
  /-- The pattern in force, up to 7 queued, and whether the starved period is being repeated (R158, R159). -/
  cur : Option CPat := none
  queue : List CPat := []
  repeated : Bool := false
  /-- HOLD_ONE_PERIOD still completes its period. -/
  holdOne : Bool := false
  /-- The local timebase less TB_NOW, from D and CYCNUM at the last frame A (R150). -/
  skew : Int := 0
  /-- Gates on, the side that waits to turn on, the side that turned off last while its dead time runs, whether that side's
  gate has been seen low, and since when DT counts (R169, R170). -/
  hi : Bool := false
  lo : Bool := false
  want : Option Side := none
  dead : Option Side := none
  sensed : Bool := false
  deadAt : Nat := 0
  /-- When each side last turned on (R185), and the gate edges whose 1 µs still runs, latest first (R172). -/
  onHi : Nat := 0
  onLo : Nat := 0
  edges : List (EdgeKind × Nat) := []
  /-- Soft turn-offs in progress, and tripped sides (R187). -/
  softHi : Bool := false
  softLo : Bool := false
  tripHi : Bool := false
  tripLo : Bool := false
  /-- Strengths, and the counters and times of R172. -/
  hon : Nat := 0
  hoff : Nat := 0
  lon : Nat := 0
  loff : Nat := 0
  nomeas : Nat := 0
  adaptlim : Nat := 0
  rise : Nat := 0
  fall : Nat := 0
  /-- BTR_PROT_EVT, counters, the time of the first trip and of the one CAUSE names (Table 10.4, R195). -/
  evt : Nat := 0
  trips : Nat := 0
  brksw : Nat := 0
  stamp : Option Nat := none
  causeAt : Nat := 0
  /-- Live conditions: OC comparator, VDC and NTC codes, NTC codes below OTTH in a row. -/
  oc : Bool := false
  vdc : Nat := 0
  ntc : Nat := 4095
  ntcLow : Nat := 0
  /-- The chopper's minimum interval runs (R190), and the secondary holds the brake words (R192). -/
  minRun : Bool := false
  brkWords : Bool := false
  /-- What the companion sends in window 15E of this cycle: its ENUM answer, or its CAL echo (Table 8.4). -/
  enumAns : Option (BitVec 56) := none
  echo : Option (BitVec 16) := none
  answers : List CompAns := []
  /-- The last data frame sent. -/
  frame : Option (BitVec 64) := none
  deriving DecidableEq, Repr

structure Brk where
  /-- The pin has been set since this time (R200); driven since t6. -/
  since : Option Nat := none
  driven : Bool := false
  /-- The comparator output against the active threshold, and the minimum interval. -/
  above : Bool := false
  nextAt : Nat := 0
  deriving DecidableEq, Repr

/-! ### Grid tie, MPPT and axes (chapters 13 and 14) -/

structure Grd where
  /-- The owner has written RECONNECT (R234). -/
  reconnect : Bool := false
  /-- Grid in band, and token as TOKREQ asks, since (R234, R250); CPIN high since. -/
  bandSince : Option Nat := none
  cpinSince : Option Nat := none
  /-- Published references, in 2^-16 of 0.01 % of IRATED, and TB_NOW of the publication. -/
  id : Int := 0
  iq : Int := 0
  pubAt : Nat := 0
  /-- The connect ramp's ticket (R256). -/
  ticket : Option Nat := none
  /-- When an excursion of voltage or frequency began (R237), when a quantity was last out of band, and when the last
  excursion ended (R239, R240). -/
  vExc : Option Nat := none
  fExc : Option Nat := none
  lastOut : Nat := 0
  excEnd : Option Nat := none
  vNow : Nat := 0
  fNow : Int := 0
  /-- Nudges (R241): in force, in 0.01 degree; negative next; when the last began; an extra one is due; the timer has
  expired. -/
  nudge : Int := 0
  nudgeNeg : Bool := false
  nudgeAt : Nat := 0
  extra : Bool := false
  extraNow : Bool := false
  due : Bool := false
  /-- Consecutive active responses (Table 13.2). -/
  active : Nat := 0
  /-- The previous positive-going crossings, latest first, and the frequency at each (R240). -/
  cross : List (Nat × Int) := []
  /-- TB_NOW of the latest LIVE token (R242). -/
  tokAt : Option Nat := none
  /-- Draining: boundaries passed with both references at 0 (R254). -/
  zero : Nat := 0
  /-- The excursion began during RAMP (R248). -/
  frozen : Bool := false
  enHeld : Bool := false
  offPend : Bool := false
  deriving DecidableEq, Repr

structure Mppt where
  pPrev : Int := 0
  same : Nat := 0
  /-- Scan (R246): step index, best p and its VREF, and the last scan's start (R247). -/
  idx : Nat := 0
  best : Int := 0
  bestV : Nat := 0
  lastScan : Option Nat := none
  /-- p of the steps of the last 10 s, with their times (R247). -/
  hist : List (Nat × Int) := []
  /-- A scan was abandoned: a new one starts when the converter runs again (R252). -/
  again : Bool := false
  enHeld : Bool := false
  /-- VIN and ICH last updated (R253); the products of their codes with the times from which each stands, latest first; the
  starts of the step and of the dwell in progress (R245, R246). -/
  vinAt : Option Nat := none
  ichAt : Option Nat := none
  prods : List (Nat × Int) := []
  dwellAt : Nat := 0
  /-- HOLD came from DARK, in which P&O pauses until the next scan (R246, R253). -/
  wasDark : Bool := false
  deriving DecidableEq, Repr

structure Axs where
  /-- r and A in 2^-32 AU and AU/s (R260). -/
  r : Int := 0
  a : Int := 0
  /-- DIR: none, or the sign r had when it last landed on 0; the time it did (R261). -/
  dir : Int := 0
  tZero : Nat := 0
  ticket : Option Nat := none
  /-- The last OP_PROG's time and the set-point it carried (Table 26.3). -/
  progAt : Nat := 0
  progSp : Int := 0
  /-- A clamp acted at the last update (Table 14.4). -/
  clamped : Bool := false
  /-- Its converter was held at rank 1, and has not run since (R479). -/
  stopped : Bool := false
  /-- r has not left rest since the axis started. -/
  fresh : Bool := true
  enHeld : Bool := false
  /-- The set-point the journal gives back at the first RUN (Table 26.3). -/
  resume : Option (Nat × Int) := none
  deriving DecidableEq, Repr

/-! ### Conversion (chapter 11) -/

/-- A SAR core beside its registers: the running sequence with its entry, count and instant, the trigger time, the
FIFO, whether the next stored result carries OVF, and a drain with the ENABLE it holds. -/
structure Adc where
  /-- The running sequence, and the corrections it was started with: of the core, of the odd core of its pair, and of each
  entry's input, as offset and gain (R206, R216). -/
  seq : List (Nat × Nat) := []
  own : Int × Nat := (0, 0)
  other : Int × Nat := (0, 0)
  ins : List (Int × Nat) := []
  /-- Pairs in a row within the limits of R212. -/
  pairs : Nat := 0
  ent : Nat := 0
  rep : Nat := 0
  inst : Nat := 0
  odd : Bool := false
  first : Bool := true
  trigAt : Nat := 0
  fifo : List (Nat × Nat) := []
  ovf : Bool := false
  enHeld : Bool := false
  half : Bool := false
  deriving DecidableEq, Repr

/-- A leg-sense channel: disabled, and the stamps of its pending latches, oldest first (R214). -/
structure Lsn where
  off : Bool := false
  /-- TB_NOW of the last update (R287). -/
  updAt : Option Nat := none
  pend : List Nat := []
  deriving DecidableEq, Repr

/-! ### Comparators (chapter 12) -/

structure Cmp where
  /-- The comparison before INV, as it stands, and the output level last accepted (R224). -/
  raw : Bool := false
  acc : Bool := false
  /-- Enabled, and since when it drains (R230). -/
  on : Bool := false
  drainAt : Nat := 0
  /-- The raw edge that began a run not yet accepted. -/
  edgeAt : Option Nat := none
  /-- Capture, interrupt and wake are suppressed by a test (R229); the level of every route is held (R227). -/
  quiet : Bool := false
  held : Bool := false
  /-- When the ramp started (R222), and the DAC code still in force until the next ramp start (R223). -/
  rampAt : Option Nat := none
  oldDac : Option Nat := none
  deriving DecidableEq, Repr

/-! ### Auxiliary regulators (chapter 15) -/

/-- A regulator channel. Progress is counted in FTU of soft start; `prog`, `progAt` and the ticket are those of the group
and stand with its leader. -/
structure Aux where
  prog : Nat := 0
  progAt : Nat := 0
  ticket : Option Nat := none
  lastTkt : Option Nat := none
  needTkt : Bool := false
  enHeld : Bool := false
  /-- A progress of the channel's own: a retry that has not reached the held point, or a drain (R280, R283). -/
  own : Option Nat := none
  ownAt : Nat := 0
  /-- The compensator of R275. -/
  e1 : Int := 0
  e2 : Int := 0
  acc : Int := 0
  /-- The attempt's start, its check of R279 still to come, since when it has been in RUN and below 30 % of VTGT, when its
  hiccup began. -/
  attemptAt : Nat := 0
  check : Bool := false
  runSince : Nat := 0
  lowSince : Option Nat := none
  hiccAt : Nat := 0
  /-- AUXDRV, the start of the period in which it went high (R274), and a disable met in SHORT (R481). -/
  drv : Bool := false
  onAt : Nat := 0
  offPend : Bool := false
  /-- The ticket and the attempt that replay gives back (Table 26.3). -/
  resume : Option (Nat × Nat) := none
  deriving DecidableEq, Repr

/-! ### Fans, loops, metering and pulse outputs (chapters 16 and 17) -/

structure Fan where
  /-- The attempt's start and that of the pause after it; the duty is still the kick's. -/
  attemptAt : Nat := 0
  retryAt : Nat := 0
  kick : Bool := false
  /-- The last accepted edge, the last PPR intervals (latest first), and since when they show MINRPM (R290). -/
  lastEdge : Option Nat := none
  ivs : List Nat := []
  goodSince : Option Nat := none
  /-- The supply-current codes of the last 100 ms, one a millisecond with its time, latest first, and when a missing tach was
  last judged (R286, R289). -/
  curs : List (Nat × Nat) := []
  judgedAt : Nat := 0
  enHeld : Bool := false
  offPend : Bool := false
  deriving DecidableEq, Repr

structure Lp where
  /-- FAULT held by a write (R296), and runs of samples (R294, R295). -/
  faultHeld : Bool := false
  low : Nat := 0
  high : Nat := 0
  mis : Nat := 0
  fit : Nat := 0
  enHeld : Bool := false
  deriving DecidableEq, Repr

/-- Sums of one phase over an interval, of samples in 2^-23 code. -/
structure PhaseSum where
  p : Int := 0
  q : Int := 0
  v : Nat := 0
  i : Nat := 0
  deriving DecidableEq, Repr

structure Mtr where
  /-- The interval in progress: samples, phases, the sum for R306, and the squares of each channel. -/
  n : Nat := 0
  ph : List PhaseSum := [{}, {}, {}]
  neu : Nat := 0
  sq : List Nat := [0, 0, 0, 0, 0, 0, 0]
  /-- The end of the latest completed interval, and its decisions (R315). -/
  intEnd : Nat := 0
  gates : List Bool := [false, false, false]
  /-- Fractions of the energy registers, 2^-32 mWh, by 7 x + q (R305). -/
  frac : Table Nat := []
  /-- Runs of intervals above and at or below INDIFF, and the condition (R306). -/
  above : Nat := 0
  below : Nat := 0
  neutral : Bool := false
  /-- A request that Chancel has yet to decide (R317): to disable, or to enable. -/
  req : Option Bool := none
  /-- The record a SEALPEND port waits for (R311): its KIND and the hash before. -/
  pendKind : Nat := 0
  pendOld : BitVec 256 := 0
  /-- A GAP record to be written at t6 (R308): 0 unbounded below, else TB_NOW[63:16] of the interval end, plus 1. -/
  gap : Option Nat := none
  /-- The 28 registers at the last interval ends, latest first (R437). -/
  past : List (Nat × List Nat) := []
  /-- When the registers were last checkpointed at their 60 s (R308). -/
  ckptAt : Option Nat := none
  deriving DecidableEq, Repr

structure Pls where
  /-- The accumulator: 2^-32 mWh, or VFS × IFS × C times the sum of sample products (R314, R315). -/
  acc : Int := 0
  /-- Emission times, earliest first. -/
  due : List Nat := []
  driven : Bool := false
  active : Bool := false
  /-- When the pulse in progress started, and when the one before it ended (R313). -/
  startAt : Nat := 0
  lastEnd : Option Nat := none
  deriving DecidableEq, Repr

/-! ### Jalam (chapters 18 and 19) -/

/-- What a frame to send comes from: a transmit buffer, or Chancel with an MTYPE (R345). -/
inductive JSrc where
  | buf (b : Nat)
  | mgmt (mtype : Nat)
  deriving DecidableEq, Repr

/-- A frame to send: where it comes from and goes, how it is sent, its body, its SEQ once it has one, its bytes as first
sent (R342), retries made, whether CANCEL has stopped them, and its ticket (R352). -/
structure JFrame where
  src : JSrc
  dst : Nat
  bcast : Bool := false
  ackreq : Bool := false
  cfp : Bool := false
  md : Nat := 0
  body : List Byte
  seq : Option Nat := none
  bytes : List Byte := []
  tries : Nat := 0
  halt : Bool := false
  tkt : Option Nat := none
  deriving DecidableEq, Repr

/-- What a transmission carries. -/
inductive JItem where
  | frame (f : JFrame)
  | ack (dst seq : Nat)
  | poll (dst room : Nat)
  | null (dst : Nat)
  | beacon
  deriving DecidableEq, Repr

/-- A transmission commanded for a time (R321). -/
structure JJob where
  start : Nat
  item : JItem
  deriving DecidableEq, Repr

/-- The transmission on the line: its item and bytes, when it began and ends, and the phases of its 72 carriers symbol by
symbol, in units of π / 72 (R320 to R326). -/
structure JLine where
  item : JItem
  bytes : List Byte
  start : Nat
  endAt : Nat
  sig : List (List Nat)
  deriving DecidableEq, Repr

/-- A received frame that R338 has let pass: its bytes, RX_STAMP, and the end of its last symbol. -/
structure JIn where
  bytes : List Byte
  stamp : Nat
  endAt : Nat
  deriving DecidableEq, Repr

/-- A member in a coordinator's list (R350): its address, the NC sent to it, whether ASSOC_CONF has come, the replay entry
with its SEQ (R346), when it was last heard, polls unanswered in a row, and until when ASSOC_CONF may come. -/
structure JMember where
  addr : Nat
  nc : List Byte
  conf : Bool := false
  entry : Nat
  seq : Nat
  heard : Nat
  noresp : Nat := 0
  confBy : Option Nat := none
  deriving DecidableEq, Repr

/-- A frame that awaits its ACK, and until when (R342). -/
structure JWait where
  f : JFrame
  till : Nat
  deriving DecidableEq, Repr

/-- Beacons accepted in LISTEN from one NET entry: entry, source of the latest, count (Table 19.4). -/
structure JHeard where
  e : Nat
  src : Nat
  n : Nat
  deriving DecidableEq, Repr

structure Jln where
  /-- SNR of the frame in reception (R333), and the frame handed to the MAC. -/
  rxSnr : Int := 0
  inbox : Option JIn := none
  jobs : List JJob := []
  line : Option JLine := none
  queue : List JFrame := []
  wait : Option JWait := none
  /-- CW and the backoff slots left (R341). -/
  cw : Nat := 8
  backoff : Option Nat := none
  /-- When the backoff slot in progress began at the earliest (R341). -/
  slotAt : Nat := 0
  /-- Association: NM sent, the coordinator, its entry and SEQ, beacons heard, and until when ASSOC_RESP may come. -/
  nm : List Byte := []
  coord : Nat := 0
  entry : Option (Nat × Nat) := none
  heard : List JHeard := []
  assocBy : Option Nat := none
  /-- The latest beacon accepted, or when LISTEN began; the beacon period; the CP's start and the predicted next beacon. -/
  lastBcn : Nat := 0
  period : Nat := 0
  cpFrom : Nat := 0
  nextBcn : Nat := 0
  /-- A coordinator's members in association order, the next to poll, the poll under way, and a foreign network seen. -/
  members : List JMember := []
  pollAt : Nat := 0
  polled : Option (Nat × Nat) := none
  /-- A preamble has arrived since the poll (R343). -/
  answering : Bool := false
  foreign : Bool := false
  /-- By source: 65,536 × the time it was accepted + the last SEQ accepted (R351), plus 1. -/
  seen : Table Nat := []
  /-- When the latest MGMT frame was first sent (R345). -/
  lastMgmt : Option Nat := none
  enHeld : Bool := false
  deriving DecidableEq, Repr

/-! ### Nave cores (chapters 20 to 22) -/

/-- One MPU region (Table 20.6). -/
structure MpuRegion where
  base : Nat := 0
  attr : Nat := 0
  deriving DecidableEq, Repr

/-- The Damask of a core (chapter 22): accumulators of 64 bits, DM_STATUS, sections (8 sec + word), FIR words and NEW
bits by tracker. -/
structure Damask where
  d : Table Word := []
  status : Nat := 0
  sections : Table Word := []
  fir : Table Word := []
  newBits : Nat := 0
  deriving DecidableEq, Repr

/-- A divide (R386) or a long Damask operation (R390) in progress, with what its completion commits. -/
inductive Busy where
  | idle
  | divide (rd : Fin 32) (v : Word)
  | damask (fn a b c : Nat)
  deriving DecidableEq, Repr

structure Nave where
  /-- Out of reset (R47, t10). -/
  running : Bool := false
  /-- WFI has halted issue (R384). -/
  wfi : Bool := false
  /-- An eligible interrupt is taken before the next instruction (R388). -/
  irqDue : Bool := false
  /-- The debugger single-steps it (R492). -/
  stepping : Bool := false
  busy : Busy := .idle
  g : Table Word := []
  spK : Word
  spT : Word := 0
  pc : Word
  status : Word := 1
  cause : Word := 0
  tval : Word := 0
  vbase : Word
  splimLo : Word
  splimHi : Word
  tsplimLo : Word := 0
  tsplimHi : Word := 0
  /-- TB_NOW when it left reset, and the latch of NV_CYCLE's upper word. -/
  since : Nat := 0
  cycleHi : Nat := 0
  mpu : Table MpuRegion := []
  dm : Damask := {}
  deriving DecidableEq, Repr

/-- The value of a core at core reset (Table 20.6, R389). -/
def Nave.init (c : Nat) : Nave :=
  { spK := BitVec.ofNat 32 (0x10080000 + 0x1000000 * c)
    pc := BitVec.ofNat 32 (0x10000000 + 0x1000000 * c)
    vbase := BitVec.ofNat 32 (0x10000000 + 0x1000000 * c)
    splimLo := BitVec.ofNat 32 (0x10040000 + 0x1000000 * c)
    splimHi := BitVec.ofNat 32 (0x10080000 + 0x1000000 * c) }

/-! ### Interrupts, mailboxes and debug (chapters 23, 24 and 30) -/

structure Pin where
  /-- Samples at the level that differs from the filtered one, running (R406). -/
  count : Nat := 0
  /-- The pin is an output and its level (R503). -/
  out : Bool := false
  level : Bool := false
  deriving DecidableEq, Repr

/-- A mailbox: when its message times out, and the message's ticket (R415, R418). -/
structure Mbx where
  till : Option Nat := none
  ticket : Option Nat := none
  deriving DecidableEq, Repr

structure Irq where
  /-- When the hold-off of group g for target t ends, by 3 g + t (R404). -/
  hold : Table Nat := []
  pins : Table Pin := []
  deriving DecidableEq, Repr

/-- JTAG instructions of Table 30.1. -/
inductive JtagIr where
  | bypass | extest | sample | clamp | highz | debug
  deriving DecidableEq, Repr

structure Dbg where
  ir : JtagIr := .bypass
  /-- The result of the previous DBGACC access (R491). -/
  resp : Resp := {}
  testen : Bool := false
  /-- The SPI host ignores the rest of the transaction (R517); its read waits for a query's result (R92, R516). -/
  spiIgnore : Bool := false
  hostWait : Bool := false
  deriving DecidableEq, Repr

/-! ### Why a step stops -/

/-- Faults: no command of this block stops the machine with one; the spec gives each case an effect. -/
inductive Fault where
  /-- Raised by nobody: kept so that the type is inhabited. Safe. -/
  | none
  deriving DecidableEq, Repr

/-- Refusals. -/
inductive Refusal where
  /-- The command has no meaning in the model yet. Raised by a dispatch arm only. Safe. -/
  | notModelled (mnemonic : String)
  deriving DecidableEq, Repr

structure State where
  /-- Every register field of Table 33.1, by `Fld.key`; an absent field is at its reset value. -/
  bank : Table Nat := []
  /-- The latches of R7, R91, R207, R235 and R258, by master and register. -/
  latch : Table Nat := []
  resp : Resp := {}
  /-- TB_NOW and whether it counts (R70). -/
  tb : Nat := 0
  tbRun : Bool := false
  /-- TCMs and shared SRAM, byte by byte. -/
  mem : List Host.Cell := []
  jnl : Jnl := {}
  pow : Power := {}
  chn : Chn := {}
  img : Img := {}
  mode : ModeSt := {}
  tbs : TbSt := {}
  trk : Table Trk := []
  qry : Table Qry := []
  slot : Table Slot := []
  twl : TwlSt := {}
  conv : Table Conv := []
  loc : Table Loc := []
  trip : Table Trip := []
  bus : Table Bus := []
  drop : Table Drop := []
  comp : Table Comp := []
  brk : Table Brk := []
  grd : Table Grd := []
  mppt : Table Mppt := []
  axs : Table Axs := []
  adc : Table Adc := []
  lsn : Table Lsn := []
  /-- Stamps of a leg-sense group of which a member completed as MISS (R215). -/
  lsnGrp : Table (List Nat) := []
  cmp : Table Cmp := []
  aux : Table Aux := []
  fan : Table Fan := []
  lp : Table Lp := []
  mtr : Table Mtr := []
  pls : Table Pls := []
  /-- The journal writes TAIL groups at interval ends, after a PREP checkpoint (R308). -/
  tailing : Bool := false
  jln : Jln := {}
  nave0 : Nave := Nave.init 0
  nave1 : Nave := Nave.init 1
  irq : Irq := {}
  mbx : Table Mbx := []
  dbg : Dbg := {}
  /-- The model's own: the number of the next free value. -/
  free : Nat := 0
  /-- Commands that wait, first in, first out. -/
  pending : List Instr := []
  deriving DecidableEq, Repr

/-- The machine right after reset. -/
def State.reset : State := {}

end Sys2Proof.Machine
end

