-- ==== Sys2Proof/Machine/Ops.lean ====
section
/-!
DEFINITION. Sys2Proof/Machine/Ops.lean: the named operations over the state: register fields, 64-bit registers, hidden
tables, TB_NOW, interrupt sources (R401), events, answers of accesses and memory bytes.
-/

namespace Sys2Proof.Machine

abbrev Out := Host.Outcome State Fault Refusal

/-! ### Register fields -/

/-- The value of field f of instance i. -/
def State.get (s : State) (f : Fld) (i : Nat) : Nat := Table.get f.reset s.bank (f.key i)

/-- Field f of instance i takes the low bits of v. -/
def State.set (s : State) (f : Fld) (i : Nat) (v : Nat) : State :=
  { s with bank := Table.set f.reset s.bank (f.key i) (v % 2 ^ f.width) }

/-- A one-bit field as a truth value. -/
def State.flag (s : State) (f : Fld) (i : Nat) : Bool := s.get f i != 0

/-- Write a one-bit field. -/
def State.setFlag (s : State) (f : Fld) (i : Nat) (b : Bool) : State := s.set f i (if b then 1 else 0)

/-- Count one in a saturating counter (R457). -/
def State.bump (s : State) (f : Fld) (i : Nat) : State := s.set f i (satSucc f.width (s.get f i))

/-- Count one in a counter that wraps. -/
def State.inc (s : State) (f : Fld) (i : Nat) : State := s.set f i (s.get f i + 1)

/-- A 64-bit register as its two words (R7). -/
def State.get64 (s : State) (lo hi : Fld) (i : Nat) : Nat := s.get lo i + 4294967296 * s.get hi i

/-- Write a 64-bit register. -/
def State.set64 (s : State) (lo hi : Fld) (i v : Nat) : State := (s.set lo i v).set hi i (v / 4294967296)

/-- Set or clear bit b of a bit-per-unit field. -/
def State.setBitOf (s : State) (f : Fld) (i b : Nat) (on : Bool) : State :=
  s.set f i (if on then setBit (s.get f i) b else clrBit (s.get f i) b)

/-- A bit of a bit-per-unit field. -/
def State.bitOf (s : State) (f : Fld) (i b : Nat) : Bool := (s.get f i).testBit b

/-- The value of a register of instance i, composed of its fields. -/
def State.regValue (s : State) (r : Reg) (i : Nat) : Nat :=
  r.fields.foldl (fun n f => n + s.get f i * 2 ^ f.lo) 0

/-- Every field of a register takes its bits of v (used by the loader for words marked V). -/
def State.setReg (s : State) (r : Reg) (i v : Nat) : State :=
  r.fields.foldl (fun s f => s.set f i (v / 2 ^ f.lo)) s

/-! ### Hidden tables -/

def State.convOf (s : State) (c : Nat) : Conv := Table.get {} s.conv c
def State.setConv (s : State) (c : Nat) (v : Conv) : State := { s with conv := Table.set {} s.conv c v }
def State.locOf (s : State) (k : Nat) : Loc := Table.get {} s.loc k
def State.setLoc (s : State) (k : Nat) (v : Loc) : State := { s with loc := Table.set {} s.loc k v }
def State.tripOf (s : State) (n : Nat) : Trip := Table.get {} s.trip n
def State.setTrip (s : State) (n : Nat) (v : Trip) : State := { s with trip := Table.set {} s.trip n v }
def State.trkOf (s : State) (n : Nat) : Trk := Table.get {} s.trk n
def State.setTrk (s : State) (n : Nat) (v : Trk) : State := { s with trk := Table.set {} s.trk n v }
def State.qryOf (s : State) (m : Nat) : Qry := Table.get {} s.qry m
def State.setQry (s : State) (m : Nat) (v : Qry) : State := { s with qry := Table.set {} s.qry m v }
def State.slotOf (s : State) (n : Nat) : Slot := Table.get {} s.slot n
def State.setSlot (s : State) (n : Nat) (v : Slot) : State := { s with slot := Table.set {} s.slot n v }
def State.busOf (s : State) (b : Nat) : Bus := Table.get {} s.bus b
def State.setBus (s : State) (b : Nat) (v : Bus) : State := { s with bus := Table.set {} s.bus b v }
def State.dropOf (s : State) (n : Nat) : Drop := Table.get {} s.drop n
def State.setDrop (s : State) (n : Nat) (v : Drop) : State := { s with drop := Table.set {} s.drop n v }
def State.compOf (s : State) (n : Nat) : Comp := Table.get {} s.comp n
def State.setComp (s : State) (n : Nat) (v : Comp) : State := { s with comp := Table.set {} s.comp n v }
def State.brkOf (s : State) (k : Nat) : Brk := Table.get {} s.brk k
def State.setBrk (s : State) (k : Nat) (v : Brk) : State := { s with brk := Table.set {} s.brk k v }

def State.grdOf (s : State) (i : Nat) : Grd := Table.get {} s.grd i
def State.setGrd (s : State) (i : Nat) (v : Grd) : State := { s with grd := Table.set {} s.grd i v }
def State.mpptOf (s : State) (m : Nat) : Mppt := Table.get {} s.mppt m
def State.setMppt (s : State) (m : Nat) (v : Mppt) : State := { s with mppt := Table.set {} s.mppt m v }
def State.axsOf (s : State) (a : Nat) : Axs := Table.get {} s.axs a
def State.setAxs (s : State) (a : Nat) (v : Axs) : State := { s with axs := Table.set {} s.axs a v }

def State.adcOf (s : State) (k : Nat) : Adc := Table.get {} s.adc k
def State.setAdc (s : State) (k : Nat) (v : Adc) : State := { s with adc := Table.set {} s.adc k v }
def State.lsnOf (s : State) (c : Nat) : Lsn := Table.get {} s.lsn c
def State.setLsn (s : State) (c : Nat) (v : Lsn) : State := { s with lsn := Table.set {} s.lsn c v }

def State.cmpOf (s : State) (k : Nat) : Cmp := Table.get {} s.cmp k
def State.setCmp (s : State) (k : Nat) (v : Cmp) : State := { s with cmp := Table.set {} s.cmp k v }

def State.auxOf (s : State) (k : Nat) : Aux := Table.get {} s.aux k
def State.setAux (s : State) (k : Nat) (v : Aux) : State := { s with aux := Table.set {} s.aux k v }

def State.fanOf (s : State) (k : Nat) : Fan := Table.get {} s.fan k
def State.setFan (s : State) (k : Nat) (v : Fan) : State := { s with fan := Table.set {} s.fan k v }
def State.lpOf (s : State) (j : Nat) : Lp := Table.get {} s.lp j
def State.setLp (s : State) (j : Nat) (v : Lp) : State := { s with lp := Table.set {} s.lp j v }
def State.mtrOf (s : State) (p : Nat) : Mtr := Table.get {} s.mtr p
def State.setMtr (s : State) (p : Nat) (v : Mtr) : State := { s with mtr := Table.set {} s.mtr p v }
def State.plsOf (s : State) (k : Nat) : Pls := Table.get {} s.pls k
def State.setPls (s : State) (k : Nat) (v : Pls) : State := { s with pls := Table.set {} s.pls k v }

def State.mbxOf (s : State) (m : Nat) : Mbx := Table.get {} s.mbx m
def State.setMbx (s : State) (m : Nat) (v : Mbx) : State := { s with mbx := Table.set {} s.mbx m v }

/-- Nave core c. -/
def State.core (s : State) (c : Nat) : Nave := if c = 0 then s.nave0 else s.nave1
def State.setCore (s : State) (c : Nat) (v : Nave) : State :=
  if c = 0 then { s with nave0 := v } else { s with nave1 := v }

/-! ### Time -/

/-- TB_NOW moves on to the time of an event; it never steps back (R74) and stands before t6 (R70). -/
def State.touch (s : State) (t : Nat) : State := if s.tbRun then { s with tb := Nat.max s.tb t } else s

/-- TB_NOW[63:16] as the journal writes it (R444). -/
def State.time48 (s : State) : Nat := if s.tbRun then s.tb / 65536 else s.jnl.startTime

/-- FTU in a microsecond (20.48 GHz, R8). -/
def ftuUs : Nat := 20480

/-- FTU in a millisecond. -/
def ftuMs : Nat := 20480000

/-- FTU in a second. -/
def ftuSec : Nat := 20480000000

/-- A bus cycle (Table 0.4). -/
def busCycle : Nat := 102400

/-- A system cycle's nominal length (Table 0.4). -/
def sysCycle : Nat := 64

/-- The start of the system cycle an FTU time belongs to: the first that starts at or after it, no more than 2 cycles
later (R523). -/
def cycleStart (t : Nat) : Nat :=
  t + ((List.range (2 * sysCycle)).find? (fun d => Config.cycleEdge (t + d))).getD (2 * sysCycle)

/-- A time belongs to an earlier system cycle than another (R523). -/
def beforeCycle (a b : Nat) : Bool := decide (cycleStart a < cycleStart b)

/-! ### Free values -/

/-- The next free value, and the state in which the one after it stands next. -/
def State.nextFree (s : State) : State := { s with free := s.free + 1 }

/-- The free value the model takes now. -/
def State.freeWord (s : State) : BitVec 64 := Config.freeWord s.free

/-- A quotient the spec leaves unrounded: one of the two integers beside it, a free choice; exact where it is whole. -/
def roundFree (free : BitVec 64) (z : Int) (d : Nat) : Int :=
  if z % d = 0 then z / d else z / d + (if free.toNat % 2 = 1 then 1 else 0)

/-! ### Interrupt sources and events -/

/-- A block raises a source: its pending bit sets; an event that finds it pending is counted as coalesced (R401). -/
def State.raise (s : State) (src : Nat) : State :=
  if s.bitOf Fld.IRQ_PEND_PEND (src / 32) (src % 32) then s.bump Fld.IRQ_GRP_STATUS_COALESCED (src / 32)
  else s.setBitOf Fld.IRQ_PEND_PEND (src / 32) (src % 32) true

/-- An event bit sets and its source is raised. -/
def State.event (s : State) (f : Fld) (i src : Nat) : State := (s.set f i 1).raise src

/-! ### Answers of accesses -/

def State.ok (s : State) : State := { s with resp := ⟨.ok, 0⟩ }
def State.answer (s : State) (v : Nat) : State := { s with resp := ⟨.ok, BitVec.ofNat 32 v⟩ }

/-- A bus error: the access is discarded, and the master receives the error (R4, R5). -/
def State.busErr (s : State) : State := { s with resp := ⟨.busErr, 0⟩ }

/-- The reader stalls (R92). -/
def State.stall (s : State) : State := { s with resp := ⟨.stall, 0⟩ }

/-- The number of a master, as IRQ_DB_SENDER and the query windows code them. -/
def masterNum : Master → Nat
  | .nave0 => 0 | .nave1 => 1 | .chancel => 2 | .host => 3 | .debug => 4

/-- The latch of a master for word i of a register (R7, R91, R207, R235, R258). -/
def latchKey (m : Master) (r : Reg) (i : Nat) : Nat := (i * 512 + r.ctorIdx) * 8 + masterNum m

def State.latched (s : State) (m : Master) (r : Reg) (i : Nat) : Nat := Table.get 0 s.latch (latchKey m r i)

def State.setLatch (s : State) (m : Master) (r : Reg) (i v : Nat) : State :=
  { s with latch := Table.set 0 s.latch (latchKey m r i) v }

/-- The core a master is, if it is one. -/
def accCore (a : Acc) : Option Nat :=
  match a.m with
  | .nave0 => some 0
  | .nave1 => some 1
  | _ => none

/-- The access is made by core c. -/
def isCore (a : Acc) (c : Nat) : Bool := accCore a == some c

/-- The access is made by core c at kernel level. -/
def isKernel (a : Acc) (c : Nat) : Bool := isCore a c && a.kernel

/-- The access is made by either core at kernel level. -/
def anyKernel (a : Acc) : Bool := (accCore a).isSome && a.kernel

/-! ### Memory bytes -/

/-- What a byte of a TCM or of shared SRAM reads as before anything wrote it: 0 (DESIGN CHOICE). -/
def memDefault : Byte := 0

/-- One byte of the TCMs and shared SRAM. -/
def State.byte (s : State) (a : Nat) : Byte := Table.get memDefault s.mem a

/-- Write one byte, keeping the canonical form. -/
def State.setByte (s : State) (a : Nat) (v : Byte) : State := { s with mem := Table.set memDefault s.mem a v }

/-- The canonical form of the memory. -/
abbrev State.memWf (s : State) : Prop := Table.wf memDefault s.mem = true

/-- Write bytes at rising addresses (R6). -/
def State.setBytes (s : State) : Nat → List Byte → State
  | _, [] => s
  | a, b :: t => State.setBytes (s.setByte a b) (a + 1) t

/-- k bytes from an address. -/
def State.bytes (s : State) : Nat → Nat → List Byte
  | 0, _ => []
  | k + 1, a => s.byte a :: State.bytes s k (a + 1)

/-! ### Ownership and modes (R11, R58, R59) -/

/-- The function numbers of Table 7.7. -/
def fnGrid (i : Nat) : Nat := i
def fnMppt (m : Nat) : Nat := 4 + m
def fnAxis (a : Nat) : Nat := 20 + a
def fnAux (k : Nat) : Nat := 52 + k
def fnFan (k : Nat) : Nat := 60 + k
def fnLoop (j : Nat) : Nat := 68 + j

/-- The core that owns a converter, a local output or a function (Table 7.7). -/
def State.cnvOwner (s : State) (c : Nat) : Nat := s.get Fld.EDG_CNV_CFG_OWNER c
def State.locOwner (s : State) (k : Nat) : Nat := s.get Fld.EDG_LOC_CFG_OWNER k
def State.fnOwner (s : State) (f : Nat) : Nat := if s.mode.ownFn.testBit f then 1 else 0

/-- The mode in force (R16). -/
def State.modeNow (s : State) : Nat := s.get Fld.SYS_MODE_CURRENT 0

/-- The mode in force switches a converter, local output or function on (R59). -/
def State.cnvOn (s : State) (c : Nat) : Bool := (s.mode.mapCnv.getD s.modeNow 0).testBit c
def State.locOn (s : State) (k : Nat) : Bool := (s.mode.mapLoc.getD s.modeNow 0).testBit k
def State.fnOn (s : State) (f : Nat) : Bool := (s.mode.mapFn.getD s.modeNow 0).testBit f

/-- A core has armed (R52). -/
def State.armed (s : State) (c : Nat) : Bool :=
  if c = 0 then s.flag Fld.SYS_CORE_ARM_ARM0 0 else s.flag Fld.SYS_CORE_ARM_ARM1 0

/-- A core is in LOCKOUT (R370) or halted by the debugger (R492). -/
def State.lockedOut (s : State) (c : Nat) : Bool := s.flag Fld.SYS_NV_STATE_LOCKOUT c
def State.halted (s : State) (c : Nat) : Bool := s.flag Fld.DBG_CORE_STATUS_HALTED c

/-- A record of the configuration in force. -/
def State.rec? (s : State) (typ inst : Nat) : Option Rec :=
  s.img.live.find? (fun r => r.typ == typ && r.inst == inst)

/-- A record's VALUE field of k bytes at an offset, least significant byte first. -/
def Rec.fld (r : Rec) (off k : Nat) : Nat := leNat ((r.val.drop off).take k)

/-- A VALUE field of a record of the configuration in force, 0 where there is no record. -/
def State.recFld (s : State) (typ inst off k : Nat) : Nat :=
  match s.rec? typ inst with
  | some r => r.fld off k
  | none => 0

def State.hasRec (s : State) (typ inst : Nat) : Bool := (s.rec? typ inst).isSome

/-- The device is powered and its blocks run: after t6 of START, in RUN or in SAFE-HOLD. -/
def State.live (s : State) : Bool :=
  s.tbRun && (s.pow.st == .start || s.pow.st == .run || s.pow.st == .safeHold)

/-! ### START (Table 3.1) -/

/-- The device is powered: START, RUN or SAFE-HOLD. -/
def State.powered (s : State) : Bool := s.pow.st == .start || s.pow.st == .run || s.pow.st == .safeHold

/-- START runs, is not held, and step n is the last completed. -/
def State.inStart (s : State) (n : Nat) : Bool :=
  s.pow.st == .start && !s.pow.inReset && !s.pow.held && s.get Fld.SYS_START_STEP 0 == n

def State.startStep (s : State) (n : Nat) : State := s.set Fld.SYS_START_STEP 0 n

end Sys2Proof.Machine
end

