-- ==== Sys2Proof/Machine/Journal.lean ====
section
/-!
DEFINITION. Sys2Proof/Machine/Journal.lean: the Reliquary's operations (chapters 26 and 27): CRC-32 (R30), record layout
(R444, Table 26.1), signed groups (R445), the ring and its protected groups (R447), the pinned area and its queue (R448,
R459, R461), tickets and the operation table (R450), OP_OPEN, OP_PROG and OP_CLOSE (R526), and the opening of a mirror
pass (R449).
-/

namespace Sys2Proof.Machine

/-! ### CRC-32 -/

def crc32Bits : Nat → Nat → Nat
  | 0, c => c
  | k + 1, c => crc32Bits k (if c % 2 = 1 then Nat.xor (c / 2) 0xEDB88320 else c / 2)

def crc32Go : Nat → List Byte → Nat
  | c, [] => c
  | c, b :: t => crc32Go (crc32Bits 8 (Nat.xor c b.toNat)) t

/-- The CRC-32 of R30. -/
def crc32 (bs : List Byte) : Nat := Nat.xor (crc32Go 0xFFFFFFFF bs) 0xFFFFFFFF

/-! ### Records -/

/-- Bytes filled out with zeros to a length. -/
def padTo (n : Nat) (bs : List Byte) : List Byte := (bs ++ List.replicate n 0).take n

/-- Bytes 0x00 to 0x1B of a head (Table 26.1). -/
def recHead (seq kind flags ticket time ncont : Nat) (body : List Byte) : List Byte :=
  leBytes 4 seq ++ [BitVec.ofNat 8 kind, BitVec.ofNat 8 flags] ++ leBytes 2 ticket ++ leBytes 6 time
    ++ [BitVec.ofNat 8 ncont] ++ padTo 13 body

/-- Bytes 0x00 to 0x1B of continuation `part` (Table 26.1). -/
def recCont (seq kind part : Nat) (data : List Byte) : List Byte :=
  leBytes 4 seq ++ [BitVec.ofNat 8 kind, BitVec.ofNat 8 part] ++ padTo 22 data

/-- A record with its RCRC. -/
def recClose (bs : List Byte) : List Byte := bs ++ leBytes 4 (crc32 bs)

def recConts (kind : Nat) : Nat → Nat → List (List Byte) → List (List Byte)
  | _, _, [] => []
  | seq, part, d :: t => recCont (seq % 4294967296) kind part d :: recConts kind (seq + 1) (part + 1) t

/-- The records of a group, each without its RCRC (R444). -/
def groupRecs (seq kind flags ticket time : Nat) (body : List Byte) (conts : List (List Byte)) : List (List Byte) :=
  recHead seq kind flags ticket time conts.length body :: recConts kind (seq + 1) 1 conts

/-- Data cut into the 22-byte parts of continuations (Table 26.1). -/
def contParts : Nat → List Byte → List (List Byte)
  | 0, _ => []
  | _ + 1, [] => []
  | k + 1, b :: t => (b :: t).take 22 :: contParts k ((b :: t).drop 22)

/-- FLAGS of a head. -/
def fPinned : Nat := 1
def fSigned : Nat := 2
def fTkt : Nat := 4
def fDup : Nat := 8

/-! ### Signing -/

/-- DEVID as 8 bytes (R437). -/
def State.devid (s : State) : List Byte :=
  leBytes 4 (s.get Fld.SYS_CHN_DEVID_LO_DEVID 0) ++ leBytes 4 (s.get Fld.SYS_CHN_DEVID_HI_DEVID 0)

/-- A key slot of the OTP. -/
def State.keySlot (s : State) (k : Nat) : KeySlot := Table.get {} s.chn.slots k

/-- Chancel can sign: slot 0 holds a DEVICE key (R521) and random output runs (R427). -/
def State.canSign (s : State) : Bool := (s.keySlot 0).use == 0x55 && !s.flag Fld.SYS_CHN_STATUS_TRNGFAIL 0

/-- The 64 bytes of a signature, r then s, each 32 bytes little-endian (R437, R445). -/
def sigBytes (v : BitVec 512) : List Byte := leBytes 32 (v.toNat / 2 ^ 256) ++ leBytes 32 (v.toNat % 2 ^ 256)

/-- The private scalar of slot 0. -/
def State.devKey (s : State) : BitVec 256 := BitVec.ofNat 256 (s.keySlot 0).key.toNat

/-- A signature by the DEVICE key over DEVID and a message (R437, R445). -/
def State.sign (s : State) (msg : List Byte) : List Byte :=
  sigBytes (Config.ecdsaSign s.devKey (s.devid ++ msg) s.free)

/-- The three continuations of a signature (R445). -/
def sigConts (kind seq part : Nat) (sig : List Byte) : List (List Byte) :=
  recConts kind seq part [sig.take 22, (sig.drop 22).take 22, sig.drop 44]

/-- The records of a group, signed or not, each without its RCRC. -/
def State.fullRecs (s : State) (seq kind flags ticket time : Nat) (body : List Byte) (conts : List (List Byte)) :
    List (List Byte) :=
  if flags / 2 % 2 = 1 then
    let n := conts.length + 3
    let pre := recHead seq kind flags ticket time n body :: recConts kind (seq + 1) 1 conts
    pre ++ sigConts kind (seq + 1 + conts.length) (conts.length + 1) (s.sign pre.flatten)
  else groupRecs seq kind flags ticket time body conts

/-! ### Slots -/

/-- A ticket is that of an open operation (R450). -/
def State.ticketOpen (s : State) (tk : Nat) : Bool :=
  s.get Fld.JNL_OP_STATE (tk % 256) != 0 && s.get Fld.JNL_OP_TICKET (tk % 256) == tk

def sameTkt (kind : Nat) (tk : Option Nat) (g : JGrp) : Bool := g.kind == kind && g.tkt == tk

/-- The slots overwriting steps over (R447). -/
def State.protectedIn (s : State) : List JGrp → List Nat
  | [] => []
  | g :: t =>
    let openT := match g.tkt with
      | some k => s.ticketOpen k
      | none => false
    let keep :=
      (g.kind == 1 && openT) ||
      (g.kind == 2 && openT && !t.any (sameTkt 2 g.tkt)) ||
      ((g.kind == 0x20 || g.kind == 0x28) && s.flag Fld.MTR_PORT_STATUS_SEALED g.port
        && !t.any (fun h => h.kind == g.kind && h.port == g.port))
    (if keep then g.slots else []) ++ State.protectedIn s t

def ringNext (p : Nat) : Nat := if p + 1 < 2048 then p + 1 else 256

/-- The next n ring slots from p that are not protected (R447), and the slot after them. -/
def ringTake (prot : List Nat) : Nat → Nat → Nat → List Nat × Nat
  | 0, _, p => ([], p)
  | fuel + 1, n, p =>
    if n = 0 then ([], p)
    else if prot.contains p then ringTake prot fuel n (ringNext p)
    else let r := ringTake prot fuel (n - 1) (ringNext p); (p :: r.1, r.2)

/-- Write records to slots. -/
def putSlots : Table (List Byte) → List Nat → List (List Byte) → Table (List Byte)
  | tb, k :: ks, r :: rs => putSlots (Table.set [] tb k (recClose r)) ks rs
  | tb, _, _ => tb

/-- Clear slots to 0 (R448). -/
def clearSlots : Table (List Byte) → List Nat → Table (List Byte)
  | tb, [] => tb
  | tb, k :: ks => clearSlots (Table.set [] tb k []) ks

/-- Records of a group that FRAM does not hold yet. -/
def JGrp.unmirrored (g : JGrp) : Nat := g.slots.length - g.mir

/-- Count n in a saturating counter. -/
def State.bumpBy (s : State) (f : Fld) (i n : Nat) : State :=
  s.set f i (Nat.min (2 ^ f.width - 1) (s.get f i + n))

/-- The records the mirror can no longer copy are skipped and counted (R449). -/
def State.mirLag (s : State) (n : Nat) : State :=
  if n = 0 || !s.flag Fld.JNL_CFG_MIRROR 0 then s
  else (s.bumpBy Fld.JNL_CNT_MIRLAG 0 n).event Fld.JNL_EVT_MIRLAG 0 850

/-- Slots an unpinned group of n records takes in the ring (R447). -/
def State.ringSlots (s : State) (n : Nat) : List Nat × Nat :=
  ringTake (s.protectedIn s.jnl.grps) 4000 n s.jnl.ring

/-- The groups that stand once slots are overwritten, and those that go. -/
def grpsKept (gs : List JGrp) (sl : List Nat) : List JGrp := gs.filter (fun g => !g.slots.any sl.contains)
def grpsGone (gs : List JGrp) (sl : List Nat) : List JGrp := gs.filter (fun g => g.slots.any sl.contains)

/-- Write an unpinned group into the ring (R444, R447). -/
def State.ringPut (s : State) (kind flags : Nat) (tkt : Option Nat) (time port : Nat) (own : Bool) (body : List Byte)
    (conts : List (List Byte)) : State :=
  if !s.jnl.ready then s else
  let seq := s.get Fld.JNL_SEQ_SEQ 0
  let recs := s.fullRecs seq kind flags (tkt.getD 0) time body conts
  let sp := s.ringSlots recs.length
  let lost := ((grpsGone s.jnl.grps sp.1).filter (fun g => g.kind != 0x28)).foldl (fun n g => n + g.unmirrored) 0
  let g : JGrp := { seq := seq, kind := kind, slots := sp.1, tkt := tkt, port := port, own := own }
  let s := s.mirLag lost
  let s := { s with
    jnl := { s.jnl with
      slots := putSlots s.jnl.slots sp.1 recs
      grps := grpsKept s.jnl.grps sp.1 ++ [g]
      ring := sp.2 }
    free := if flags / 2 % 2 = 1 then s.free + 1 else s.free }
  s.set Fld.JNL_SEQ_SEQ 0 (seq + recs.length)

/-! ### Tickets -/

/-- The lowest free index of the operation table (R450). -/
def State.freeIndex (s : State) : Option Nat :=
  (List.range 256).find? (fun i => s.get Fld.JNL_OP_STATE i == 0)

/-- Count of open operations, saturating at 127 (Table 26.5). -/
def State.openCount (s : State) : Nat :=
  ((List.range 256).filter (fun i => s.get Fld.JNL_OP_STATE i != 0)).length

def State.noteOpen (s : State) : State := s.set Fld.JNL_STATUS_OPEN 0 (Nat.min 127 s.openCount)

/-- Take the lowest free index: the ticket carries its generation, which then increments (R450). -/
def State.takeTicket (s : State) (kind unit : Nat) : Option (Nat × State) :=
  match s.freeIndex with
  | none => none
  | some i =>
    let gen := Table.get 0 s.jnl.gen i
    let tk := gen * 256 + i
    let s := { s with jnl := { s.jnl with
      gen := Table.set 0 s.jnl.gen i ((gen + 1) % 256), ops := Table.set {} s.jnl.ops i ⟨kind, unit⟩ } }
    let s := (s.set Fld.JNL_OP_TICKET i tk).set Fld.JNL_OP_OPKIND i kind
    let s := (s.set Fld.JNL_OP_STATE i 1).set Fld.JNL_OP_PROG_PROG i 0
    some (tk, (s.set Fld.JNL_OP_PROG_REPLAYS i 0).noteOpen)

/-- An OP record of a ticket (R526). -/
def State.opRecord (s : State) (kind : Nat) (tk opkind unit : Nat) (rest : List Byte) (own : Bool)
    (conts : List (List Byte)) : State :=
  s.ringPut kind fTkt (some tk) s.time48 0 own ([BitVec.ofNat 8 opkind] ++ leBytes 2 unit ++ rest) conts

/-- A mirror pass opens when a group that is not the mirror's own waits and none is open (R449). -/
def State.openPass (s : State) : State :=
  if !s.jnl.ready || !s.flag Fld.JNL_CFG_MIRROR 0 || s.jnl.stopped || s.jnl.pass.isSome then s
  else match s.jnl.grps.find? (fun g => !g.own && g.kind != 0x28 && decide (0 < g.unmirrored)) with
    | none => s
    | some g =>
      match s.takeTicket 7 0 with
      | none => { s with jnl := { s.jnl with pass := some 65536, copied := 0 } }
      | some (tk, s) =>
        let s := { s with jnl := { s.jnl with pass := some tk, copied := 0 } }
        s.opRecord 0x01 tk 7 0 (leBytes 4 g.seq) true []

/-- Write an unpinned group and open a mirror pass where one is due. -/
def State.jnlWrite (s : State) (kind flags : Nat) (tkt : Option Nat) (time port : Nat) (body : List Byte)
    (conts : List (List Byte)) : State :=
  (s.ringPut kind flags tkt time port false body conts).openPass

/-- Open a tracked operation: take a ticket and journal OP_OPEN (R450, Table 26.8). -/
def State.openOp (s : State) (opkind unit : Nat) (param : List Byte) (conts : List (List Byte)) :
    Option (Nat × State) :=
  match s.takeTicket opkind unit with
  | none => none
  | some (tk, s) => some (tk, (s.opRecord 0x01 tk opkind unit param false conts).openPass)

/-- Open again an operation whose ticket was closed, with the same ticket where its index is still free (R282). -/
def State.reopenOp (s : State) (tk opkind unit : Nat) (param : List Byte) : Option (Nat × State) :=
  let i := tk % 256
  if s.get Fld.JNL_OP_STATE i ≠ 0 then s.openOp opkind unit param []
  else
    let s := { s with jnl := { s.jnl with ops := Table.set {} s.jnl.ops i ⟨opkind, unit⟩ } }
    let s := ((s.set Fld.JNL_OP_TICKET i tk).set Fld.JNL_OP_OPKIND i opkind).set Fld.JNL_OP_STATE i 1
    let s := ((s.set Fld.JNL_OP_PROG_PROG i 0).set Fld.JNL_OP_PROG_REPLAYS i 0).noteOpen
    some (tk, (s.opRecord 0x01 tk opkind unit param false []).openPass)

/-- Journal the progress of an operation (Table 26.3). -/
def State.progOp (s : State) (tk prog : Nat) : State :=
  if !s.ticketOpen tk then s else
  let i := tk % 256
  let op := Table.get {} s.jnl.ops i
  let s := s.set Fld.JNL_OP_PROG_PROG i prog
  (s.opRecord 0x02 tk op.kind op.unit (leBytes 4 prog) (op.kind == 7) []).openPass

/-- OUTCOME codes of OP_CLOSE (Table 26.2). -/
def ocComplete : Nat := 0
def ocCancelled : Nat := 1
def ocFailed : Nat := 2
def ocAbandoned : Nat := 3

/-- Journal the end of an operation with the bytes that follow OUTCOME; its ticket is then free (R450). -/
def State.closeOpWith (s : State) (tk outcome : Nat) (extra : List Byte) : State :=
  if !s.ticketOpen tk then s else
  let i := tk % 256
  let op := Table.get {} s.jnl.ops i
  let s := s.opRecord 0x03 tk op.kind op.unit ([BitVec.ofNat 8 outcome] ++ extra) (op.kind == 7) []
  let s := (s.set Fld.JNL_OP_STATE i 0).set Fld.JNL_OP_OPKIND i 0
  let s := { s with jnl := { s.jnl with ops := Table.set {} s.jnl.ops i {} } }
  s.noteOpen.openPass

def State.closeOp (s : State) (tk outcome : Nat) : State := s.closeOpWith tk outcome []

/-! ### The pinned area -/

/-- Slots held by pinned groups. -/
def State.pinUsed (s : State) : List Nat :=
  (s.jnl.grps.filter (fun g => g.slots.any (fun k => decide (k < 256)))).flatMap (fun g => g.slots)

def State.pinFree (s : State) : List Nat := (List.range 256).filter (fun k => !s.pinUsed.contains k)

def State.notePins (s : State) : State := s.set Fld.JNL_STATUS_PINUSED 0 s.pinUsed.length

/-- A pinned group does not fit (R459). -/
def State.pinFull (s : State) : State :=
  (s.event Fld.JNL_EVT_JNL_PINFULL 0 849).set Fld.JNL_PIN_STATUS_FULL 0 1

/-- The pinned area has room for a group of n records (R459). -/
def State.pinFits (s : State) (n : Nat) : Bool := decide (n ≤ s.pinFree.length)

/-- Write a pinned SIGNED group that fits (R448). -/
def State.pinPut (s : State) (kind time : Nat) (body : List Byte) (conts : List (List Byte)) : State :=
  if !s.jnl.ready then s else
  let seq := s.get Fld.JNL_SEQ_SEQ 0
  let recs := s.fullRecs seq kind (fPinned + fSigned) 0 time body conts
  let sl := s.pinFree.take recs.length
  let g : JGrp := { seq := seq, kind := kind, slots := sl }
  let s := { s with jnl := { s.jnl with slots := putSlots s.jnl.slots sl recs, grps := s.jnl.grps ++ [g] },
                    free := s.free + 1 }
  ((s.set Fld.JNL_SEQ_SEQ 0 (seq + recs.length)).notePins).openPass

/-- A pinned SIGNED group of `conts` continuations can be written now (R459, R521). -/
def State.pinReady (s : State) (conts : List (List Byte)) : Bool :=
  s.canSign && s.pinFits (conts.length + 4)

def State.noteQueue (s : State) : State := s.set Fld.JNL_PIN_STATUS_QUEUED 0 s.jnl.queue.length

/-- Queue a pinned group of an event that has already happened; a full queue loses it (R461). -/
def State.pinQueue (s : State) (g : QGrp) : State :=
  if s.jnl.queue.length < 32 then { s with jnl := { s.jnl with queue := s.jnl.queue ++ [g] } }.noteQueue
  else s.bump Fld.JNL_PIN_STATUS_LOST 0

/-- A pinned record of an event that has already happened (R461, R521): written if it can be, else queued. -/
def State.pinEvent (s : State) (kind : Nat) (body : List Byte) (conts : List (List Byte)) : State :=
  if s.jnl.queue.isEmpty && s.pinReady conts then s.pinPut kind s.time48 body conts
  else
    let s := if s.canSign && !s.pinFits (conts.length + 4) then s.pinFull else s
    s.pinQueue ⟨kind, s.time48, body, conts⟩

/-- Write queued groups in order of arising while they fit (R462). -/
def State.drainQueue : Nat → State → State
  | 0, s => s
  | k + 1, s =>
    match s.jnl.queue with
    | [] => s
    | q :: rest =>
      if s.pinReady q.conts then
        State.drainQueue k
          ({ (s.pinPut q.kind q.time q.body q.conts) with
              jnl := { (s.pinPut q.kind q.time q.body q.conts).jnl with queue := rest } }.noteQueue)
      else s

/-- A group stands in the pinned area. -/
def JGrp.inPinned (g : JGrp) : Bool := g.slots.any (fun k => decide (k < 256))

/-- Acknowledge the pinned groups that satisfy p: their slots are cleared to 0 (R448). -/
def State.pinAckOf (s : State) (p : JGrp → Bool) : State :=
  let gone := s.jnl.grps.filter (fun g => g.inPinned && p g)
  let kept := s.jnl.grps.filter (fun g => !(g.inPinned && p g))
  { s with jnl := { s.jnl with
      slots := clearSlots s.jnl.slots (gone.flatMap JGrp.slots)
      grps := kept } }.notePins

/-- A byte of the retention SRAM as every master reads it (R442): slot by slot, 32 bytes each. -/
def State.retByte (s : State) (off : Nat) : Byte :=
  (Table.get [] s.jnl.slots (off / 32)).getD (off % 32) 0

end Sys2Proof.Machine
end

