-- ==== Sys2Proof/Machine/EdgeBase.lean ====
section
/-!
DEFINITION. Sys2Proof/Machine/EdgeBase.lean: what every block does to converters and local outputs: the demands of
Table 7.2, the safe states of R135 and their SAFE blocks (R149), and pins the blocks drive (R503).
-/

namespace Sys2Proof.Machine

/-! ### Pins -/

def State.pinOf (s : State) (p : Nat) : Pin := Table.get {} s.irq.pins p

/-- Drive an output pin (R503). -/
def State.drivePin (s : State) (p : Nat) (level : Bool) : State :=
  { s with irq := { s.irq with pins := Table.set {} s.irq.pins p { s.pinOf p with out := true, level := level } } }

/-- The high side, or the pin, is on at an offset of the period (R125). -/
def LegPat.onAt (l : LegPat) (period o : Nat) : Bool :=
  if l.mode = 3 then true
  else if l.mode ≠ 0 then false
  else if l.on < l.off then decide (l.on ≤ o) && decide (o < l.off)
  else if l.off < l.on then (decide (l.on ≤ o) && decide (o < period)) || decide (o < l.off)
  else false

/-! ### Legs and buses -/

/-- The legs of a converter (EDG_LEG_MAP). -/
def State.convLegs (s : State) (c : Nat) : List Nat :=
  (List.range 256).filter (fun n => s.flag Fld.EDG_LEG_MAP_MEMBER n && s.get Fld.EDG_LEG_MAP_CONV n == c)

/-- A leg's converter, if it is in one. -/
def State.legConv (s : State) (n : Nat) : Option Nat :=
  if s.flag Fld.EDG_LEG_MAP_MEMBER n then some (s.get Fld.EDG_LEG_MAP_CONV n) else none

/-- A drop is ADMITTED (Table 8.8). -/
def State.admitted (s : State) (n : Nat) : Bool := s.get Fld.SEL_DROP_STATE_STATE n == 6

/-- A leg is OUT of service (R484), or STALE (R482). -/
def State.legOut (s : State) (n : Nat) : Bool := s.bitOf Fld.FLT_OUT_OUT (n / 32) (n % 32)
def State.legStale (s : State) (n : Nat) : Bool := s.bitOf Fld.FLT_STALE_STALE (n / 32) (n % 32)

/-- The DMASK of a list of legs on bus b. -/
def dmaskOf (b : Nat) (legs : List Nat) : Nat :=
  (legs.filter (fun n => n / 16 == b)).foldl (fun m n => setBit m (n % 16)) 0

/-- Place a SAFE block for legs of one bus; their patterns that wait are discarded (R135). -/
def Bus.addSafe (b : Bus) (mask code : Nat) : Bus :=
  { b with
    safes := b.safes ++ [{ dmask := mask, code := code }]
    pats := b.pats.filter (fun p => Nat.land p.dmask mask == 0) }

/-- Send legs a safe-state code on every bus that carries one of them (R135, R149). -/
def State.sendSafe (s : State) (legs : List Nat) (code : Nat) : State :=
  (List.range 16).foldl (fun s b =>
    if dmaskOf b legs = 0 then s else s.setBus b ((s.busOf b).addSafe (dmaskOf b legs) code)) s

/-- Queue a MGMT operation for leg n; it takes its TAG when a frame carries it (R153). -/
def State.mgmt (s : State) (n : Nat) (write : Bool) (dst : MgmtTarget) (data : Nat) : State :=
  let b := s.busOf (n / 16)
  s.setBus (n / 16) { b with ops := b.ops ++ [{ drop := n % 16, write := write, dst := dst, data := data }] }

/-- Queue CLEAR, BTR_CTRL[0] at halfword 0x40 (R182, Table 9.5). -/
def State.sendClear (s : State) (n : Nat) : State := s.mgmt n true (.half 0x40) 1

/-- The ranks of R482: RUN < GATED_OFF = UNADMITTED < SAFE < LATCHED. -/
def stateRank (st : Nat) : Nat := if st = 2 then 0 else if st ≤ 1 then 1 else st

/-- The state that governs a leg: the data frame's, or the more restrictive of it and the mirror while they disagree or
the leg is STALE (R482, R483). -/
def State.legState (s : State) (n : Nat) : Nat :=
  let d := (s.dropOf n).state
  let m := s.get Fld.BTR_STATE_STATE n
  if (s.legStale n || decide (0 < (s.dropOf n).disc)) && decide (stateRank d < stateRank m) then m else d

/-- CLEAR for every admitted leg of a converter that last reported SAFE (R136, R196). -/
def State.clearLegs (s : State) (c : Nat) : State :=
  ((s.convLegs c).filter (fun n => s.admitted n && s.legState n == 3)).foldl (fun s n => s.sendClear n) s

/-! ### Ranks of Table 7.2 -/

/-- A fault latch of a converter is set (R477). -/
def State.fltLatched (s : State) (c : Nat) : Bool :=
  s.flag Fld.FLT_CNV_F1 c || s.flag Fld.FLT_CNV_F2 c || s.flag Fld.FLT_CNV_F3 c || s.flag Fld.FLT_CNV_F4 c

/-- Rank 1 holds a converter: a fabric latch, SAFE-HOLD, LOCKOUT or debug halt of its owner (R20, R21, R22, R477). -/
def State.rank1 (s : State) (c : Nat) : Bool :=
  s.fltLatched c || s.pow.st == .safeHold || s.lockedOut (s.cnvOwner c) || s.halted (s.cnvOwner c)

/-- Rank 2: a latched trip (R134). -/
def State.rank2 (s : State) (c : Nat) : Bool := s.get Fld.EDG_CNV_TRIPSRC_TRIPS c != 0

def State.locRank1 (s : State) (k : Nat) : Bool :=
  (s.locOf k).hold || s.pow.st == .safeHold || s.lockedOut (s.locOwner k) || s.halted (s.locOwner k)

/-- Converter states of Table 7.5. -/
def cvOff : Nat := 0
def cvWait : Nat := 1
def cvRun : Nat := 2
def cvDraining : Nat := 3
def cvSafe : Nat := 4
def cvTripped : Nat := 5

def State.cnvState (s : State) (c : Nat) : Nat := s.get Fld.EDG_CNV_STATUS_STATE c

/-- Every converter, and every local output, that has a record (Table 2.4). -/
def State.allConvs (s : State) : List Nat := (List.range 256).filter (fun c => s.hasRec 0x0011 c)
def State.allLocs (s : State) : List Nat := (List.range 32).filter (fun k => s.hasRec 0x0040 k)

/-- The followers of a converter that run (R128). -/
def State.followers (s : State) (c : Nat) : List Nat :=
  s.allConvs.filter (fun f => s.get Fld.EDG_CNV_CFG_SYNC f == 1 && s.get Fld.EDG_CNV_CFG_LEADER f == c &&
    (s.cnvState f == cvRun || s.cnvState f == cvDraining))

/-- ORPHAN of a follower: its leader is not in RUN (R128). -/
def State.noteOrphan (s : State) (c : Nat) : State :=
  if s.get Fld.EDG_CNV_CFG_SYNC c = 1 then
    s.setFlag Fld.EDG_CNV_STATUS_ORPHAN c
      (s.cnvState c == cvRun && s.cnvState (s.get Fld.EDG_CNV_CFG_LEADER c) != cvRun)
  else s

/-- A converter changes state; where it enters or leaves RUN, its followers' ORPHAN and its own follow (R128). -/
def State.cnvGo (s : State) (c st : Nat) : State :=
  let same := (s.cnvState c == cvRun) == (st == cvRun)
  let s := s.set Fld.EDG_CNV_STATUS_STATE c st
  if same then s else (s.followers c).foldl (fun s f => s.noteOrphan f) (s.noteOrphan c)

/-- A converter goes to its configured safe state outside the period grid (R135): its legs are sent the code, patterns
not yet sent are discarded, no force governs it, and it waits for ENABLE (R136). A DISABLE stays recorded (R134, R481). -/
def State.convSafe (s : State) (c : Nat) (st : Nat) : State :=
  let v := s.convOf c
  let off := v.offAfter || s.cnvState c == cvDraining || v.drain
  let s := s.sendSafe (s.convLegs c) (s.get Fld.EDG_CNV_CFG_SAFE c)
  let s := s.setConv c { v with
    fresh := false, firstAt := none, cur := none, built := [], nextB := none
    drain := false, enHeld := false, offAfter := off }
  (s.set Fld.EDG_CNV_STATUS_FORCED c 0).cnvGo c st

/-- Hold a converter at rank 1 (R477); one that is TRIPPED keeps reading so (rank 2 stays recorded, R134). -/
def State.convHold (s : State) (c : Nat) : State := s.convSafe c (if s.rank2 c then cvTripped else cvSafe)

/-! ### Slope ramps (R222) -/

/-- Comparator states of Table 12.5. -/
def cpOff : Nat := 0
def cpRun : Nat := 1
def cpDrain : Nat := 2
def cpTest : Nat := 3

/-- STATE of a comparator: DRAINING lasts one system cycle (R230). -/
def State.cmpState (s : State) (k : Nat) : Nat :=
  let st := s.get Fld.CMP_STATUS_STATE k
  if st = cpDrain && beforeCycle (s.cmpOf k).drainAt s.tb then cpOff else st

/-- A comparator whose output follows its comparison. -/
def State.cmpRuns (s : State) (k : Nat) : Bool := s.cmpState k == cpRun || s.cmpState k == cpTest

/-- The ramp source's on-edge (R222): the ramp starts, or restarts, from a DAC code written before (R223). -/
def State.rampStart (s : State) (k t : Nat) : State :=
  if s.get Fld.CMP_RAMP_RAMPSRC k = 63 || !s.cmpRuns k then s
  else (s.setCmp k { s.cmpOf k with rampAt := some t, oldDac := none }).set Fld.CMP_STATUS_RAMPING k 1

/-- The ramp source's off-edge (R222). -/
def State.rampEnd (s : State) (k : Nat) : State :=
  (s.setCmp k { s.cmpOf k with rampAt := none }).set Fld.CMP_STATUS_RAMPING k 0

/-- The comparators whose ramp follows a source: a local output, or a regulator from 32 on. -/
def State.rampsOf (s : State) (src : Nat) : List Nat :=
  (List.range 32).filter (fun k => s.get Fld.CMP_RAMP_RAMPSRC k == src)

/-- An on-edge or an off-edge of a ramp source reaches the comparators that follow it. -/
def State.rampsStart (s : State) (src t : Nat) : State := (s.rampsOf src).foldl (fun s k => s.rampStart k t) s
def State.rampsEnd (s : State) (src : Nat) : State := (s.rampsOf src).foldl (fun s k => s.rampEnd k) s

/-- A local output goes to its safe state within 4 system cycles (R135): INACTIVE, or HOLD_ONE_PERIOD, which completes the
period in progress. -/
def State.locSafe (s : State) (k : Nat) (st : Nat) : State :=
  let v := s.locOf k
  let hold := s.get Fld.EDG_LOC_CFG_SAFE k == 2
  let s := if hold then s else s.rampsEnd k
  s.setLoc k { v with
    fresh := false, firstAt := none, nextB := none, state := st, drain := false, enHeld := false
    cur := if hold then v.cur else none
    active := if hold then v.active else false
    offAfter := v.offAfter || v.state == cvDraining || v.drain }

/-- Hold every converter and local output that satisfies a condition at rank 1. -/
def State.holdAll (s : State) (p q : Nat → Bool) : State :=
  let s := (s.allConvs.filter p).foldl (fun s c => s.convHold c) s
  (s.allLocs.filter q).foldl (fun s k => s.locSafe k cvSafe) s

/-- DISABLE, not IMMEDIATE, of a converter (R139, R481): the period in progress is completed and later patterns are
cancelled. While a force governs it is only recorded (R134). -/
def State.convDisable (s : State) (c : Nat) : State :=
  let v := s.convOf c
  if s.cnvState c = cvOff || s.cnvState c = cvDraining then s
  else if s.cnvState c = cvSafe || s.cnvState c = cvTripped then s.setConv c { v with offAfter := true }
  else if s.cnvState c = cvWait then
    let s := if v.built.isEmpty then s else s.sendSafe (s.convLegs c) 0
    (s.setConv c { v with fresh := false, firstAt := none, built := [], nextB := none, offAfter := true }).cnvGo c cvOff
  else if v.force ≠ 0 then s.setConv c { v with drain := true, offAfter := true }
  else
    let s := s.setConv c { v with drain := true, built := [], nextB := none, offAfter := true }
    let s := s.sendSafe (s.convLegs c) 2
    s.cnvGo c cvDraining

/-- IMMEDIATE disable of a converter: rank 3 (R135, R139); a draining one is then OFF (R481). -/
def State.convDisableNow (s : State) (c : Nat) : State :=
  if s.cnvState c = cvOff then s
  else if s.cnvState c = cvSafe || s.cnvState c = cvTripped then
    s.setConv c { s.convOf c with offAfter := true, imm := true }
  else
    let st := if s.cnvState c = cvDraining then cvOff else cvSafe
    let s := s.convSafe c st
    s.setConv c { s.convOf c with imm := true }

/-- ENABLE of a converter (R136, R481): from OFF, or from SAFE once ranks 1 and 2 are released, it waits for a fresh
commit; held while it drains; in RUN it ends a DISABLE that waits below a force (R134). Companions its safe state left in
SAFE are sent CLEAR. -/
def State.convEnable (s : State) (c : Nat) : State :=
  let v := s.convOf c
  if s.cnvState c = cvDraining then s.setConv c { v with enHeld := true }
  else if s.rank1 c || s.rank2 c then s
  else if s.cnvState c = cvOff || s.cnvState c = cvSafe || s.cnvState c = cvTripped then
    ((s.setConv c { v with imm := false, fresh := false, firstAt := none, offAfter := false, good := none }).cnvGo
      c cvWait).clearLegs c
  else if v.drain then s.setConv c { v with drain := false, offAfter := false }
  else s

/-- The demand of ranks 1 to 3 has ended without ENABLE: a unit that was off or draining is OFF again (R481). -/
def State.convReleased (s : State) (c : Nat) : State :=
  if s.rank1 c || s.rank2 c then s
  else if s.cnvState c = cvSafe || s.cnvState c = cvTripped then
    if (s.convOf c).offAfter then
      s.cnvGo c cvOff
    else s.cnvGo c cvSafe
  else s

def State.locDisable (s : State) (k : Nat) : State :=
  let v := s.locOf k
  if v.state = cvOff || v.state = cvDraining then s
  else if v.state = cvSafe || v.state = cvTripped then s.setLoc k { v with offAfter := true }
  else if v.state = cvWait then
    s.setLoc k { v with state := cvOff, fresh := false, firstAt := none, nextB := none, offAfter := true }
  else if v.force ≠ 0 then s.setLoc k { v with drain := true, offAfter := true }
  else s.setLoc k { v with state := cvDraining, drain := true, nextB := none, offAfter := true }

def State.locDisableNow (s : State) (k : Nat) : State :=
  let v := s.locOf k
  if v.state = cvOff then s
  else if v.state = cvSafe || v.state = cvTripped then s.setLoc k { v with offAfter := true, imm := true }
  else
    let s := s.locSafe k (if v.state = cvDraining then cvOff else cvSafe)
    s.setLoc k { s.locOf k with imm := true }

def State.locEnable (s : State) (k : Nat) : State :=
  let v := s.locOf k
  if v.state = cvDraining then s.setLoc k { v with enHeld := true }
  else if s.locRank1 k || v.trips != 0 then s
  else if v.state = cvOff || v.state = cvSafe || v.state = cvTripped then
    s.setLoc k { v with state := cvWait, imm := false, fresh := false, firstAt := none, offAfter := false, good := none }
  else if v.drain then s.setLoc k { v with drain := false, offAfter := false }
  else s

def State.locReleased (s : State) (k : Nat) : State :=
  let v := s.locOf k
  if s.locRank1 k || v.trips != 0 then s
  else if v.state = cvSafe || v.state = cvTripped then
    s.setLoc k { v with state := if v.offAfter then cvOff else cvSafe }
  else s

end Sys2Proof.Machine
end

