-- ==== Sys2Proof/Machine/Fabric.lean ====
section
/-!
DEFINITION. Sys2Proof/Machine/Fabric.lean: the fault fabric (chapter 29): raising F1 to F4, the FAULT group (R479), the
hold of converters at rank 1 (R477), what the functions that drive them do then (R479), SAFE-HOLD (R20) and its release.
-/

namespace Sys2Proof.Machine

/-! ### Reasons without a code of their own (CAUSE of R479) -/

def whyPlltUnlock : Nat := 0
def whyPllsFreq : Nat := 1
def whyKatFail : Nat := 2
def whyTrngFail : Nat := 3
def whyLockout : Nat := 4
def whyTrip : Nat := 5
def whyStarved : Nat := 6
def whyDropLost : Nat := 7
def whyDiscrepancy : Nat := 8
def whyBrakeSat : Nat := 9
def whyAxisOverrun : Nat := 10
def whyGrid : Nat := 11
def whyAuxShort : Nat := 12
def whyFan : Nat := 13
def whyCompanion : Nat := 14

/-- The CAUSE byte of a reason the raising block's chapter gives no code for: free. -/
def causeOf (why : Nat) : Nat := (Config.causeCode why).toNat

/-- SRCBLK of a FAULT group: the raising block's base offset in 64 KB units (R479). -/
def blkSYS : Nat := 0x00
def blkCLK : Nat := 0x01
def blkEDG : Nat := 0x05
def blkSEL : Nat := 0x06
def blkBTR : Nat := 0x08
def blkGRD : Nat := 0x0C
def blkAXS : Nat := 0x0D
def blkAUX : Nat := 0x0E
def blkFAN : Nat := 0x0F
def blkJLN : Nat := 0x11

/-- The event bit, count and source of a fault class (Tables 29.1 and 29.5, R486). -/
def State.fltEvent (s : State) (cls unit : Nat) : State :=
  match cls with
  | 1 => ((s.bump Fld.FLT_CNT_F1 0).event Fld.FLT_EVT_F1 0 4)
  | 2 => ((s.bump Fld.FLT_CNT_F2 0).event Fld.FLT_EVT_F2 0 3)
  | 3 => s.event Fld.FLT_EVT_F3 0 (1 + unit)
  | _ => s.event Fld.FLT_EVT_F4 0 0

/-- A fault of class F1 to F4 is raised: event, count, FLT_LAST, source and FAULT group (R475, R479). DETAIL, which the
spec leaves open, is a free value. -/
def State.fault (s : State) (cls blk unit cause : Nat) : State :=
  let s := s.fltEvent cls unit
  let s := (s.set Fld.FLT_LAST_CLASS 0 cls).set Fld.FLT_LAST_SRCBLK 0 blk
  let s := s.set Fld.FLT_LAST_UNIT 0 unit
  let detail := s.freeWord.toNat
  let s := s.nextFree
  s.jnlWrite 0x13 0 none s.time48 0
    ([BitVec.ofNat 8 cls, BitVec.ofNat 8 blk] ++ leBytes 2 unit ++ [BitVec.ofNat 8 cause] ++ leBytes 4 detail) []

/-- The highest class latched against a converter. -/
def State.topClass (s : State) (c : Nat) : Nat :=
  if s.flag Fld.FLT_CNV_F4 c then 4 else if s.flag Fld.FLT_CNV_F3 c then 3
  else if s.flag Fld.FLT_CNV_F2 c then 2 else if s.flag Fld.FLT_CNV_F1 c then 1 else 0

/-- The latch field of a class. -/
def fltField (cls : Nat) : Fld :=
  if cls = 1 then Fld.FLT_CNV_F1 else if cls = 2 then Fld.FLT_CNV_F2
  else if cls = 3 then Fld.FLT_CNV_F3 else Fld.FLT_CNV_F4

/-- Latch a fault against a converter; CAUSE keeps the cause of the highest class (Table 29.5). -/
def State.latchFlt (s : State) (c cls cause : Nat) : State :=
  let top := s.topClass c
  let s := s.set (fltField cls) c 1
  if top ≤ cls then s.set Fld.FLT_CNV_CAUSE c cause else s

/-- F2 on a function: its converters are held at rank 1 (Table 29.1). -/
def State.faultF2 (s : State) (blk unit cause : Nat) (convs : List Nat) : State :=
  convs.foldl (fun s c => (s.latchFlt c 2 cause).convHold c) (s.fault 2 blk unit cause)

/-! ### The functions that drive a converter -/

/-- Grid-tie instances, engines and axes that drive a converter, by their records (R233, R245, R257). -/
def State.gridsOf (s : State) (c : Nat) : List Nat :=
  (List.range 4).filter (fun i => s.hasRec 0x0070 i && s.get Fld.GRD_CFG_CONV i == c)
def State.mpptsOf (s : State) (c : Nat) : List Nat :=
  (List.range 16).filter (fun m => s.hasRec 0x0072 m && s.get Fld.MPPT_CFG_CONV m == c)
def State.axesOf (s : State) (c : Nat) : List Nat :=
  (List.range 32).filter (fun a => s.hasRec 0x0073 a && s.get Fld.AXS_CFG_CONV a == c)

/-- Grid-tie states of Table 13.1. -/
def gdOff : Nat := 0
def gdWait : Nat := 1
def gdClosing : Nat := 2
def gdRamp : Nat := 3
def gdTied : Nat := 4
def gdRide : Nat := 5
def gdTripped : Nat := 6
def gdDraining : Nat := 7

/-- A change of state of a grid-tie instance raises source 640 + 4i (R255). -/
def State.gridGo (s : State) (i st : Nat) : State :=
  if s.get Fld.GRD_STATUS_STATE i = st then s
  else (s.set Fld.GRD_STATUS_STATE i st).raise (640 + 4 * i)

/-- End the connect ramp's ticket (R256). -/
def State.gridClose (s : State) (i outcome : Nat) : State :=
  match (s.grdOf i).ticket with
  | none => s
  | some tk => (s.closeOp tk outcome).setGrd i { s.grdOf i with ticket := none }

/-- An instance enters TRIPPED with its CAUSE (R234, R244): CPIN low, an F2 on itself that holds its converter, the
connect ramp ended, TRIPS counted and source 641 + 4i. -/
def State.gridTrip (s : State) (i cause : Nat) : State :=
  let s := s.gridClose i ocFailed
  let s := s.drivePin (s.get Fld.GRD_CFG_CPIN i) false
  let v := s.grdOf i
  let s := s.setGrd i { v with
    vExc := none, fExc := none, nudge := 0, extra := false, extraNow := false, due := false, active := 0
    cpinSince := none, bandSince := none, zero := 0, frozen := false, reconnect := false, id := 0, iq := 0
    offPend := v.offPend || s.get Fld.GRD_STATUS_STATE i == gdDraining, enHeld := false }
  let s := (s.set Fld.GRD_STATUS_EXC i 0).set Fld.GRD_STATUS_CAUSE i cause
  let s := s.faultF2 blkGRD i cause [s.get Fld.GRD_CFG_CONV i]
  ((s.bump Fld.GRD_CNT_TRIPS i).gridGo i gdTripped).raise (641 + 4 * i)

/-- r and A of an axis are set to 0 at once (R264, R270, R479). -/
def State.axisZero (s : State) (a : Nat) : State :=
  let s := s.setAxs a { s.axsOf a with r := 0, a := 0 }
  (s.set Fld.AXS_OUT_R a 0).set Fld.AXS_ACC_A a 0

/-- An abandoned scan counts ABORT, and a new one starts once the converter runs again (R252). -/
def State.mpptAbort (s : State) (m : Nat) : State :=
  if s.get Fld.MPPT_STATUS_STATE m = 2 && !(s.mpptOf m).again then
    ((s.bump Fld.MPPT_CNT_ABORTS m).event Fld.MPPT_STATUS_ABORT m (656 + m)).setMppt m { s.mpptOf m with again := true }
  else s

/-- A grid-tie instance that a fault holds trips with CAUSE FAULT (R244, R479). -/
def State.gridHeld (s : State) (i : Nat) : State :=
  if s.get Fld.GRD_STATUS_STATE i = gdOff || s.get Fld.GRD_STATUS_STATE i = gdTripped then s else s.gridTrip i 5

/-- An axis that a fault holds stops at once (R479). -/
def State.axisHeld (s : State) (a : Nat) : State :=
  (s.axisZero a).setAxs a { (s.axisZero a).axsOf a with stopped := true }

/-- What the functions driving a held converter do (R479): tied instances trip with CAUSE FAULT, axes stop, engines hold. -/
def State.funcsHeld (s : State) (c : Nat) : State :=
  let s := (s.gridsOf c).foldl (fun s i => s.gridHeld i) s
  let s := (s.axesOf c).foldl (fun s a => s.axisHeld a) s
  (s.mpptsOf c).foldl (fun s m => s.mpptAbort m) s

/-- Hold a converter at rank 1 for a fault that is not on the function that drives it. -/
def State.holdWithFuncs (s : State) (c : Nat) : State := (s.convHold c).funcsHeld c

/-! ### Raising -/

/-- F1 on a converter: latched, reported, and the converter is held at rank 1 (R475, R477). -/
def State.faultF1 (s : State) (c blk cause : Nat) : State :=
  ((s.fault 1 blk c cause).latchFlt c 1 cause).holdWithFuncs c

/-- F1 by a leg: none while the leg is OUT (R484) or in no converter. -/
def State.legF1 (s : State) (n blk cause : Nat) : State :=
  match s.legConv n with
  | none => s
  | some c => if s.legOut n then s else s.faultF1 c blk cause

/-- F3 of a core in LOCKOUT: every converter, local output and function of the core is held (R21, R370), the functions on the
other core's converters too. Loops hold their current (R297). Chapters 15 and 16 give a regulator and a fan no safe state:
both run on (DESIGN CHOICE, log entry 42). -/
def State.faultF3 (s : State) (core : Nat) : State :=
  let cause := causeOf whyLockout
  let s := s.fault 3 blkSYS core cause
  let s := s.setBitOf Fld.FLT_DEV_F3CORE 0 core true
  let s := (s.allConvs.filter (fun c => s.cnvOwner c == core)).foldl
    (fun s c => (s.latchFlt c 3 cause).holdWithFuncs c) s
  let s := ((List.range 4).filter (fun i => s.hasRec 0x0070 i && s.fnOwner (fnGrid i) == core)).foldl
    (fun s i => s.gridHeld i) s
  let s := ((List.range 32).filter (fun a => s.hasRec 0x0073 a && s.fnOwner (fnAxis a) == core)).foldl
    (fun s a => s.axisHeld a) s
  let s := ((List.range 16).filter (fun m => s.hasRec 0x0072 m && s.fnOwner (fnMppt m) == core)).foldl
    (fun s m => s.mpptAbort m) s
  (s.allLocs.filter (fun k => s.locOwner k == core)).foldl (fun s k => s.locSafe k cvSafe) s

/-- Enter SAFE-HOLD from RUN (R20): every converter and local output is at rank 1. -/
def State.enterSafeHold (s : State) : State :=
  if s.pow.st != .run then s
  else
    let s := { s with pow := { s.pow with st := .safeHold } }
    let s := s.set Fld.FLT_DEV_SAFEHOLD 0 1
    let s := s.allConvs.foldl (fun s c => s.holdWithFuncs c) s
    s.allLocs.foldl (fun s k => s.locSafe k cvSafe) s

/-- F4 on the device: FLT_DEV.F4, every converter's latch, and SAFE-HOLD (R475, R20). An F4 of START holds when RUN
begins. -/
def State.faultF4 (s : State) (blk cause : Nat) : State :=
  let s := (s.fault 4 blk 0 cause).set Fld.FLT_DEV_F4 0 1
  let s := s.allConvs.foldl (fun s c => s.latchFlt c 4 cause) s
  s.enterSafeHold

/-- Leave SAFE-HOLD (R20) where nothing holds it any longer: no F4, no PFAILN and no RESTART. -/
def State.leaveSafeHold (s : State) : State :=
  if s.pow.st != .safeHold || s.flag Fld.FLT_DEV_F4 0 || s.pow.pfailHold || s.pow.restartHold then s
  else
    let s := { s with pow := { s.pow with st := .run } }
    let s := s.set Fld.FLT_DEV_SAFEHOLD 0 0
    let s := s.allConvs.foldl (fun s c => s.convReleased c) s
    s.allLocs.foldl (fun s k => s.locReleased k) s

end Sys2Proof.Machine
end

