-- ==== Sys2Proof/Machine/ImageParse.lean ====
section
/-!
DEFINITION. Sys2Proof/Machine/ImageParse.lean: the layout of a Vestry image (chapter 2): the header (Table
2.1), the signature block (R40), the record and overlay catalogue (Table 2.4) and the reason codes of Table 2.5.
-/

namespace Sys2Proof.Machine

/-! ### Reason codes of Table 2.5 -/

def rejNoImage : Nat := 0x01
def rejHdrCrc : Nat := 0x02
def rejHdrFormat : Nat := 0x03
def rejRevision : Nat := 0x04
def rejSigFormat : Nat := 0x05
def rejKeySlot : Nat := 0x06
def rejSignature : Nat := 0x07
def rejRollback : Nat := 0x08
def rejRecLength : Nat := 0x09
def rejRecCrc : Nat := 0x0A
def rejRecType : Nat := 0x0B
def rejRecDup : Nat := 0x0C
def rejRecContent : Nat := 0x0D
def rejRecOvlForbidden : Nat := 0x0E
def rejRecMissing : Nat := 0x0F
def rejRecCount : Nat := 0x10
def rejOvlFormat : Nat := 0x11
def rejOvlCrc : Nat := 0x12
def rejOvlSize : Nat := 0x13
def rejOvlTarget : Nat := 0x14
def rejOvlRange : Nat := 0x15
def rejOvlOverlap : Nat := 0x16
def rejOvlContent : Nat := 0x17
def rejFwRange : Nat := 0x18
def rejReadError : Nat := 0x19

end Sys2Proof.Machine

namespace Sys2Proof

open Machine

/-! ### Bytes of a slot -/

/-- Byte k of a slot: an unlisted byte is erased. -/
def NorSlot.byte (sl : NorSlot) (k : Nat) : Byte := sl.bytes.getD k 0xFF

/-- k bytes of a slot from an offset. -/
def NorSlot.take (sl : NorSlot) (off k : Nat) : List Byte :=
  let l := (sl.bytes.drop off).take k
  l ++ List.replicate (k - l.length) 0xFF

/-- A little-endian field of a slot (R6). -/
def NorSlot.fld (sl : NorSlot) (off k : Nat) : Nat := leNat (sl.take off k)

/-- The first byte below an end that could not be read (Table 2.5, order 1). -/
def NorSlot.unread (sl : NorSlot) (fin : Nat) : Option Nat := sl.bad.filter (fun k => k < fin)

def NorSlot.imgLen (sl : NorSlot) : Nat := sl.fld 8 4
def NorSlot.seq (sl : NorSlot) : Nat := sl.fld 0xC 4
def NorSlot.minRev (sl : NorSlot) : Nat := sl.fld 0x10 1
def NorSlot.startMode (sl : NorSlot) : Nat := sl.fld 0x11 1
def NorSlot.recCount (sl : NorSlot) : Nat := sl.fld 0x12 2
def NorSlot.ovlOff (sl : NorSlot) (m : Nat) : Nat := sl.fld (0x18 + 4 * m) 4
def NorSlot.sigOff (sl : NorSlot) : Nat := sl.fld 0x28 4

/-- Both HCRC and the readability of the header, for the order of R27. -/
def NorSlot.hdrOk (sl : NorSlot) : Bool := (sl.unread 64).isNone && crc32 (sl.take 0 0x3C) == sl.fld 0x3C 4

/-- The nonzero overlay offsets with their modes, in mode order. -/
def NorSlot.overlays (sl : NorSlot) : List (Nat × Nat) :=
  ([0, 1, 2, 3].map (fun m => (m, sl.ovlOff m))).filter (fun p => p.2 != 0)

/-- The end of the record area (R32). -/
def NorSlot.recEnd (sl : NorSlot) : Nat := ((sl.overlays.map Prod.snd).min?).getD sl.sigOff

/-- The header offset of a field that breaks Table 2.1 or R25, R26, R28, R29, the lowest first (R44). Of the reserved bytes
the first nonzero one is taken as the failing field (DESIGN CHOICE, log entry 35). -/
def NorSlot.hdrBad (sl : NorSlot) (size : Nat) : Option Nat :=
  let ov := [0, 1, 2, 3].find? (fun m =>
    let o := sl.ovlOff m
    o != 0 && (o % 4 != 0 || decide (sl.sigOff ≤ o) || decide (o < 64) ||
      ((List.range m).any (fun j => sl.ovlOff j != 0 && decide (o ≤ sl.ovlOff j)))))
  if sl.fld 4 2 ≠ 1 then some 4
  else if sl.fld 6 2 ≠ 64 then some 6
  else if sl.imgLen ≠ sl.sigOff + 80 ∨ size < sl.imgLen then some 8
  else if sl.seq = 0 ∨ sl.seq = 0xFFFFFFFF then some 0xC
  else if 3 < sl.startMode then some 0x11
  else if sl.recCount = 0 ∨ 8192 < sl.recCount then some 0x12
  else if sl.fld 0x14 4 ≠ 64 then some 0x14
  else match ov with
    | some m => some (0x18 + 4 * m)
    | none =>
      if sl.sigOff % 4 ≠ 0 ∨ sl.sigOff < 64 then some 0x28
      else if 1 < sl.fld 0x2C 1 then some 0x2C
      else ((List.range 15).map (· + 0x2D)).find? (fun k => sl.byte k != 0)

/-- Checks 1 to 4 of Table 2.5 against a slot of a size. A byte beyond the header that cannot be read is met only when the rest
of the image is fetched, after checks 2 to 4 of the header (DESIGN CHOICE, log entry 35). -/
def NorSlot.hdrCheck (sl : NorSlot) (size : Nat) : Option Rej :=
  match sl.unread 64 with
  | some k => some { code := rejReadError, off := k }
  | none =>
    if sl.fld 0 4 ≠ 0x54534556 then some { code := rejNoImage }
    else if crc32 (sl.take 0 0x3C) ≠ sl.fld 0x3C 4 then some { code := rejHdrCrc, off := 0x3C }
    else match sl.hdrBad size with
      | some k => some { code := rejHdrFormat, off := k }
      | none =>
        match sl.unread sl.imgLen with
        | some k => some { code := rejReadError, off := k }
        | none => none

/-- Check 5 of Table 2.5: the signature block (R40). -/
def NorSlot.sigCheck (sl : NorSlot) : Option Rej :=
  let o := sl.sigOff
  let bad (k : Nat) : Option Rej := some { code := rejSigFormat, off := o + k }
  if sl.fld o 4 ≠ 0x4E474953 then bad 0
  else if 15 < sl.fld (o + 4) 1 then bad 4
  else if sl.fld (o + 5) 1 ≠ 1 then bad 5
  else if sl.fld (o + 6) 2 ≠ 0 then bad 6
  else if sl.fld (o + 8) 4 ≠ o then bad 8
  else if sl.fld (o + 12) 4 ≠ 0 then bad 12
  else none

end Sys2Proof

namespace Sys2Proof.Machine

/-! ### The record catalogue (Table 2.4) -/

/-- The highest INST of a TYPE, none for a TYPE unknown to this revision. -/
def typeMax : Nat → Option Nat
  | 0x10 => some 0 | 0x11 => some 255 | 0x12 => some 0 | 0x13 => some 0
  | 0x20 => some 0 | 0x21 => some 0 | 0x30 => some 63 | 0x31 => some 1023
  | 0x40 => some 31 | 0x41 => some 15 | 0x50 => some 15 | 0x51 => some 255 | 0x52 => some 15
  | 0x60 => some 15 | 0x61 => some 63 | 0x62 => some 255 | 0x63 => some 31
  | 0x70 => some 3 | 0x71 => some 15 | 0x72 => some 15 | 0x73 => some 31
  | 0x74 => some 7 | 0x75 => some 7 | 0x76 => some 3 | 0x80 => some 3 | 0x81 => some 3
  | 0x90 => some 0 | 0xA0 => some 31 | 0xA1 => some 63 | 0xB0 => some 0 | 0xB1 => some 0
  | 0xC0 => some 0 | 0xD0 => some 511
  | _ => none

/-- The types that Table 2.4 marks overlayable (R35). -/
def typeOvl (t : Nat) : Bool :=
  [0x11, 0x30, 0x31, 0x40, 0x41, 0x51, 0x52, 0x60, 0x63, 0x70, 0x71, 0x72, 0x73, 0x75, 0x76].contains t

/-- The footprint of a record with a VALUE of len bytes (R31). -/
def footprint (len : Nat) : Nat := 12 + 4 * ((len + 3) / 4)

/-! ### Records -/

def Rec.w (r : Rec) (off : Nat) : Nat := r.fld off 4
def Rec.h (r : Rec) (off : Nat) : Nat := r.fld off 2
def Rec.b (r : Rec) (off : Nat) : Nat := r.fld off 1
def Rec.len (r : Rec) : Nat := r.val.length

/-- Every byte from an offset on, k of them, is 0. -/
def Rec.zero (r : Rec) (off k : Nat) : Bool := r.fld off k == 0

/-- The bits a register's fields cover. -/
def Reg.mask (g : Reg) : Nat := g.fields.foldl (fun n f => n + (2 ^ f.width - 1) * 2 ^ f.lo) 0

/-- A word sets no bit outside a register's fields. -/
def Reg.covers (g : Reg) (v : Nat) : Bool := Nat.land v g.mask == v

/-- The word at an offset sets no bit outside a register's fields. -/
def Rec.wordIn (r : Rec) (off : Nat) (g : Reg) : Bool := g.covers (r.w off)

/-- lo ≤ v ≤ hi. -/
def between (lo hi v : Nat) : Bool := decide (lo ≤ v) && decide (v ≤ hi)

/-- A bit of a bitmap in a VALUE. -/
def Rec.bitAt (r : Rec) (off k : Nat) : Bool := (r.b (off + k / 8)).testBit (k % 8)

/-- The load address of a FW_SEGMENT, its length, and the core whose TCM holds it whole (R43, Table 20.1): the core, and
whether the TCM is its instruction TCM. -/
def Rec.fwAddr (r : Rec) : Nat := r.w 0
def Rec.fwLen (r : Rec) : Nat := r.len - 8

def tcmOf (a k : Nat) : Option (Nat × Bool) :=
  [(0, true), (0, false), (1, true), (1, false)].find? (fun p =>
    let base := 0x10000000 + 0x1000000 * p.1 + (if p.2 then 0 else 0x40000)
    decide (base ≤ a) && decide (a + k ≤ base + 0x40000))

end Sys2Proof.Machine
end

