-- ==== Sys2Proof/Machine/RecCheck.lean ====
section
/-!
DEFINITION. Sys2Proof/Machine/RecCheck.lean: what each record's own bytes must hold (order 10 of Table 2.5): the
REC_CONTENT rules of the block chapters, TYPE by TYPE (R15, R58, R83, R100, R119, R140, R164, R181, R199, R218, R231, R255,
R271, R284, R300, R318, R336, R356, R412, R424, R455, R473, R486).
-/

namespace Sys2Proof.Machine

/-! ### Control, clocks and angles -/

/-- LEG_MAP (R15). -/
def recLegMap (r : Rec) : Bool := r.len == 32

/-- Bits 72 to 127 of a function bitmap at an offset are 0 (Table 7.7). -/
def Rec.fnReserved (r : Rec) (off : Nat) : Bool := r.zero (off + 9) 7

/-- OWNERSHIP (R140). -/
def recOwnership (r : Rec) : Bool := r.len == 52 && r.fnReserved 0x24

/-- MODE_MAP (R58). -/
def recModeMap (r : Rec) : Bool := r.len == 208 && [0, 1, 2, 3].all (fun m => r.fnReserved (0x24 + 0x34 * m))

/-- CLOCK (R83, Table 4.8). -/
def recClock (r : Rec) : Bool :=
  r.len == 8 && r.wordIn 0 .CLK_CFG && r.wordIn 4 .CLK_LOCK_CFG &&
  decide (bits (r.w 0) 0 2 ≤ 2) && decide (bits (r.w 0) 2 2 ≤ 2) && decide (bits (r.w 0) 4 3 ≤ 6) &&
  decide (1 ≤ bits (r.w 4) 0 10) && between 16 4096 (bits (r.w 4) 16 13)

/-- The reference ranked k and enabled, of TB_REF_RANK (Table 4.9). -/
def rankCode (w k : Nat) : Option Nat := if bits w (4 * k + 3) 1 = 1 then some (bits w (4 * k) 3) else none

/-- TB_REF (R83): no code at two ranks, XTAL ranked, no rank below it enabled. -/
def recTbRef (r : Rec) : Bool :=
  let w := r.w 0
  let codes := [0, 1, 2, 3].filterMap (rankCode w)
  r.len == 8 && r.wordIn 0 .TB_REF_RANK && r.wordIn 4 .TB_REF_CFG &&
  [0, 1, 2, 3].all (fun k => decide (bits w (4 * k) 3 ≤ 3)) && decide codes.Nodup && codes.getLast? == some 0

/-- TRACKER (R100, R101, Table 5.8). -/
def recTracker (r : Rec) : Bool :=
  let cfg := r.w 0
  let kind := bits cfg 0 3
  let grid := kind == 1
  let enc := kind == 2 || kind == 5
  let drum := kind == 5
  let res := kind == 3
  let sl := kind == 4
  let src := bits cfg 8 6
  let sar := bits cfg 14 1 == 1
  let lossKind := enc || sl
  r.len == 48 && r.wordIn 0 .ANG_CFG && decide (kind ≤ 5) && r.zero 0x2B 1 && r.zero 0x2E 2 &&
  (if kind = 0 then cfg == 0 && r.zero 4 44
   else
    between 1 1000 (bits cfg 16 10) &&
    (drum || bits cfg 4 1 == 0) && (grid || bits cfg 14 1 == 0) && (sl || bits cfg 5 1 == 0) && (!sl || src == 0) &&
    (if grid then (if sar then decide (src ≤ 61) else decide (src ≤ 3))
     else if enc then decide (src ≤ 15) else if res then decide (src ≤ 62) else true) &&
    (if enc then between 4 16777216 (r.w 4) else r.zero 4 4) && (enc || res || r.zero 8 4) &&
    (if res then decide (r.b 0xC ≤ 1) && between 1 8 (r.b 0xD) && between 2000 20000 (r.h 0xE) else r.zero 0xC 4) &&
    (if grid then between 5 50 (r.b 0x10) else r.zero 0x10 1 && r.zero 0x16 2) &&
    (if enc then decide (1 ≤ r.b 0x11) else r.zero 0x11 1) &&
    (if lossKind then decide (5 ≤ r.h 0x12) else r.zero 0x12 2) &&
    decide (r.h 0x14 ≤ 1000) &&
    (if drum then between 1 16 (r.b 0x2A) && decide (r.h 0x2C ≤ r.b 0x2A * r.h 0x28)
     else r.zero 0x24 7 && r.zero 0x2C 2))

/-- The ARG of a slot action is one of Table 6.1. -/
def actArgOk (kind arg : Nat) : Bool :=
  match kind with
  | 0 => arg == 0
  | 1 => decide (arg ≤ 15)
  | 2 => decide (arg ≤ 287)
  | 3 => decide (arg ≤ 126)
  | 4 => decide (arg ≤ 3)
  | 5 => arg == 0
  | 6 => decide (arg ≤ 3)
  | 7 => decide (bits arg 8 2 ≤ 2) && arg == bits arg 8 2 * 256 + bits arg 0 5
  | _ => false

/-- TWILL_SLOT (R119). -/
def recSlot (r : Rec) : Bool :=
  let cfg := r.w 0
  let act := r.w 4
  let trk := bits cfg 0 7
  r.len == 24 && r.wordIn 0 .TWL_SLOT_CFG && r.wordIn 4 .TWL_SLOT_ACT &&
  decide (trk ≤ 64) && decide (bits cfg 8 2 ≤ 2) && (bits cfg 10 1 == 0 || trk != 64) &&
  actArgOk (bits act 0 4) (bits act 8 20) &&
  (bits cfg 12 2 != 3 || bits cfg 24 1 == 1 || bits act 0 4 == 0)

/-! ### The edge engine and companions -/

/-- P(k) of R121 and MINPULSE of R126. -/
def periodOk (p : Nat) : Bool := between 204800 20480000 p
def minPulseOk (m : Nat) : Bool := decide (m ≤ 40960)

/-- The legs of a CONVERTER record (Table 7.7). -/
def Rec.cnvLegs (r : Rec) : List Nat := (r.val.drop 0x14).map (fun b => b.toNat)

/-- CONVERTER (R140, R159). -/
def recConverter (r : Rec) : Bool :=
  let n := r.h 0xE
  between 1 64 n && r.len == 20 + n && r.wordIn 0 .EDG_CNV_CFG && bits (r.w 0) 4 1 == 0 &&
  decide (bits (r.w 0) 0 2 ≤ 2) && decide (bits (r.w 0) 2 2 ≤ 2) &&
  between 133120 20480000 (r.w 4) && minPulseOk (r.h 0xA) && periodOk (r.w 0x10) &&
  decide (r.w 4 ≤ 7 * r.w 0x10) && decide r.cnvLegs.Nodup

/-- LOCAL_PWM (R130, R140). -/
def recLocal (r : Rec) : Bool :=
  r.len == 16 && r.wordIn 0 .EDG_LOC_CFG && bits (r.w 0) 4 1 == 0 && decide (bits (r.w 0) 0 2 ≤ 2) &&
  (bits (r.w 0) 2 2 == 0 || bits (r.w 0) 2 2 == 2) && minPulseOk (r.h 6) && r.zero 0xA 2 && periodOk (r.w 0xC)

/-- TRIP (R140): a FILT of 0 in FILTER mode is refused. -/
def recTrip (r : Rec) : Bool :=
  r.len == 4 && r.wordIn 0 .EDG_TRIP_CFG && (bits (r.w 0) 0 1 == 1 || bits (r.w 0) 2 8 != 0)

/-- SELVEDGE_BUS (R164). -/
def recBus (r : Rec) : Bool := r.len == 4 && r.zero 2 2

/-- COMPANION (R181, R183, R199). -/
def recCompanion (r : Rec) : Bool :=
  let d := r.w 0
  let a := r.w 4
  let smin := bits a 12 4
  let smax := bits a 16 4
  let sinit := bits a 20 4
  r.len == 32 && r.wordIn 0 .BTR_DRIVE_CFG && bits d 2 1 == 0 && bits d 4 2 == 0 &&
  between 13 (if bits d 0 1 = 0 then 640 else 2560) (bits d 16 12) &&
  r.wordIn 4 .BTR_ADAPT_CFG && between 10 200 (bits a 0 8) && decide (smin ≤ sinit) && decide (sinit ≤ smax) &&
  r.wordIn 8 .BTR_ADAPT_IMIN && r.zero 0xC 4 &&
  r.wordIn 0x10 .BTR_PROT_CFG0 && bits (r.w 0x10) 16 12 != 0 && r.wordIn 0x14 .BTR_PROT_CFG1 && r.zero 0x18 8

/-- BRAKE (R199, Table 10.6). -/
def recBrake (r : Rec) : Bool :=
  let leg := r.b 0xC
  let pin := r.b 0xD
  r.len == 16 && decide (r.b 4 ≤ 1) && r.zero 5 3 &&
  decide (r.h 0 ≤ 4095) && decide (r.h 2 ≤ 4095) && decide (r.h 8 ≤ 4095) && decide (r.h 0xA ≤ 4095) &&
  decide (r.h 0 < r.h 8) && decide (r.h 2 < r.h 0) && decide (r.h 0xA < r.h 8) &&
  (leg == 0xFF || decide (leg ≤ 15)) && (pin == 0xFF || decide (pin ≤ 3)) && !(leg == 0xFF && pin == 0xFF) &&
  r.b 0xE != 0 && decide (r.b 0xF ≤ 31) && (pin != 0xFF || r.b 0xF == 0)

/-! ### Conversion and comparators -/

/-- A gain of R205. -/
def gainOk (g : Nat) : Bool := between 0x8000 0x1FFFF g

/-- The ring of R208 lies 8-byte aligned in shared SRAM, with a size from 16 to 4,096 entries. -/
def ringOk (base log2 : Nat) : Bool :=
  base % 8 == 0 && between 4 12 log2 && decide (0x20000000 ≤ base) && decide (base + 8 * 2 ^ log2 ≤ 0x20200000)

/-- ADC_CORE (R218): the entries that LEN takes must be legal. -/
def recAdcCore (r : Rec) : Bool :=
  let k := r.inst
  let cfg := r.w 0
  let len := r.b 0x11
  r.len == 84 && r.wordIn 0 .ADC_CORE_CFG && decide (bits cfg 0 3 ≤ 5) && decide (bits cfg 4 2 ≤ 2) &&
  between 1 64 (bits cfg 16 6) && r.zero 6 2 && gainOk (r.w 8) && r.zero 0x12 2 && between 1 16 len &&
  (k % 2 == 0 || bits cfg 9 1 == 0) &&
  (bits cfg 10 1 == 0 || ringOk (r.w 0xC) (r.b 0x10)) && decide (r.b 0x10 ≤ 12) &&
  (List.range 16).all (fun e => r.wordIn (0x14 + 4 * e) .ADC_SEQ_E) &&
  (List.range 16).all (fun e =>
    let w := r.w (0x14 + 4 * e)
    bits w 0 6 / 8 == k / 2 && between 1 256 (bits w 8 9))

/-- ADC_INPUT (R218). -/
def recAdcInput (r : Rec) : Bool := r.len == 8 && r.zero 2 2 && gainOk (r.w 4)

/-- LEG_SENSE flags: current, DC link, NTC, latch (Table 11.6). -/
def Rec.lsFlag (r : Rec) (k : Nat) : Bool := (r.b 0xB).testBit k
def poolOk (c : Nat) : Bool := between 256 383 c

/-- LEG_SENSE (R218). A quantity whose flag is 0 has no channel, so its gain and pool channel are not judged; DEDUCED (log
entry 43). -/
def recLegSense (r : Rec) : Bool :=
  r.len == 32 && decide (r.b 0xB ≤ 15) &&
  (!r.lsFlag 0 || gainOk (r.w 4)) && (!r.lsFlag 1 || (gainOk (r.w 0x14) && poolOk (r.h 0xC))) &&
  (!r.lsFlag 2 || (gainOk (r.w 0x1C) && poolOk (r.h 0xE))) &&
  !(r.lsFlag 1 && r.lsFlag 2 && r.h 0xC == r.h 0xE) &&
  (r.h 8 == 0xFFFF || decide (r.h 8 ≤ 1023)) && (r.b 0xA == 0xFF || decide (r.b 0xA ≤ 31))

/-- COMPARATOR (R231, R232). -/
def recComparator (r : Rec) : Bool :=
  let ramp := bits (r.w 0xC) 0 6
  r.len == 16 && r.wordIn 0 .CMP_CFG && r.wordIn 4 .CMP_ROUTE && decide (bits (r.w 4) 5 2 ≤ 2) &&
  decide (r.h 8 ≤ 1023) && decide (r.h 0xA ≤ 1023) && r.wordIn 0xC .CMP_RAMP &&
  (decide (ramp ≤ 39) || ramp == 63) && (bits (r.w 4) 4 1 == 0 || decide (r.inst ≤ 3))

/-! ### Grid tie, MPPT and axes -/

def Rec.s16 (r : Rec) (off : Nat) : Int := sgn 16 (r.h off)
def Rec.s32 (r : Rec) (off : Nat) : Int := sgn 32 (r.w off)

/-- GRID_TIE (R255). -/
def recGrid (r : Rec) : Bool :=
  r.len == 48 && r.wordIn 0 .GRD_CFG && decide (r.h 0xA ≤ r.h 8) && decide (r.h 0xC < r.h 0xE) &&
  decide (r.s16 0x10 < r.s16 0x12) && decide (r.b 0x15 ≤ 15) && between 2 50 (r.b 0x1E) && r.zero 0x1F 1 &&
  between 50 300 (r.h 0x22) && between 200 10000 (r.h 0x24) && between 2 10 (r.b 0x27) && r.zero 0x2A 2 &&
  between 20 600 (r.h 0x2C)

/-- The times of a RIDE_CURVE ascend strictly from 0. -/
def timesOk : List Nat → Bool
  | a :: b :: t => decide (a < b) && timesOk (b :: t)
  | _ => true

/-- RIDE_CURVE (R255). -/
def recCurve (r : Rec) : Bool :=
  let n := r.b 1
  r.len == 68 && decide (r.b 0 ≤ 3) && between 1 16 n && r.zero 2 2 && r.h 4 == 0 &&
  timesOk ((List.range n).map (fun j => r.h (4 + 4 * j))) && r.zero (4 + 4 * n) (64 - 4 * n)

/-- MPPT (R245, R246, R247, R255). -/
def recMppt (r : Rec) : Bool :=
  let smin := r.h 8
  let smax := r.h 0xA
  r.len == 24 && r.wordIn 0 .MPPT_CFG && decide (r.h 4 < r.h 6) && decide (1 ≤ smin) && decide (smin ≤ smax) &&
  decide (smax ≤ (r.h 6 - r.h 4) / 4) && between 1 100 (r.h 0xC) && between 1 50 (r.b 0xE) &&
  (r.b 0x14 == 0 || between 5 50 (r.b 0x14)) && r.zero 0x15 3

/-- AXIS (R271). -/
def recAxis (r : Rec) : Bool :=
  let kind := bits (r.w 0) 0 2
  let trk := bits (r.w 0) 16 7
  r.len == 40 && r.wordIn 0 .AXS_CFG && decide (trk ≤ 64) &&
  (kind == 1 || (trk == 64 && r.zero 0x18 2)) && r.zero 0xE 2 && decide (r.h 0x1A ≤ 1) &&
  r.w 4 != 0 && r.w 8 != 0 && r.w 0x1C != 0 && r.w 0x20 != 0 && r.w 0x24 != 0 && decide (r.h 0xC ≤ 10000) &&
  (r.h 0x1A == 0 || decide (r.s32 0x10 < r.s32 0x14))

/-! ### Regulators, fans and loops -/

/-- AUX_REG (R284): a tracking channel never leads itself. -/
def recAux (r : Rec) : Bool :=
  let cfg := r.w 0
  let p := r.w 4
  r.len == 28 && r.wordIn 0 .AUX_CFG && decide (bits cfg 1 2 ≤ 2) && (bits cfg 1 2 == 0 || bits cfg 4 3 != r.inst) &&
  r.wordIn 4 .AUX_PERIOD && between 10240 204800 p && p % 64 == 0 &&
  r.wordIn 8 .AUX_TGT && between 1 4095 (bits (r.w 8) 0 12) && r.h 0xA != 0 &&
  r.wordIn 0xC .AUX_SS && between 1 1000 (r.h 0xC) && between 10 95 (r.b 0xE) &&
  r.wordIn 0x10 .AUX_LIM && between 1 1023 (r.h 0x10) && r.wordIn 0x18 .AUX_B2

/-- FAN (R300). -/
def recFan (r : Rec) : Bool :=
  let code (p : Nat) := r.h (0x14 + 4 * p)
  r.len == 36 && r.wordIn 0 .FAN_CFG && r.b 1 != 0 && r.h 4 != 0 && decide (r.h 6 ≤ 1000) &&
  decide (r.h 8 < r.h 0xA) && decide (r.h 0xA ≤ 1023) &&
  [0, 1, 2, 3].all (fun n => r.h (0xC + 2 * n) == 0xFFFF || poolOk (r.h (0xC + 2 * n))) &&
  [0, 1, 2, 3].all (fun p => decide (r.h (0x16 + 4 * p) ≤ 1000)) &&
  decide (code 1 < code 0) && decide (code 2 < code 1) && decide (code 3 < code 2)

/-- LOOP (R292, R300). -/
def recLoop (r : Rec) : Bool :=
  let fm := bits (r.w 0) 1 2
  r.len == 12 && r.wordIn 0 .LOOP_CFG && decide (fm ≤ 2) && (bits (r.w 0) 3 1 == 0 || fm != 0) &&
  between 7000 46000 (r.h 4) && gainOk (r.w 8)

/-! ### Metering and the Jalam line -/

/-- METER_PORT (R303, R318). -/
def recMeter (r : Rec) : Bool :=
  r.len == 76 && r.wordIn 0 .MTR_PORT_CFG && r.w 4 != 0 && r.w 8 != 0 && r.zero 0x4A 2 &&
  (bits (r.w 0) 1 1 == 0 || bits (r.w 0) 0 1 == 1) &&
  (List.range 7).all (fun c => between 0x400000 0xFFFFFF (r.w (0x10 + 8 * c)) &&
    decide (r.w (0x14 + 8 * c) < 16777216) && decide ((sgn 24 (r.w (0x14 + 8 * c))).natAbs ≤ 8192000))

/-- PULSE_OUT (R318). -/
def recPulse (r : Rec) : Bool :=
  let cfg := r.w 0
  r.len == 16 && r.wordIn 0 .MTR_PLS_CFG && bits cfg 8 3 != 7 &&
  (if bits cfg 1 1 = 0 then r.w 4 != 0 else between 1 1000000 (r.w 8)) && between 1 10000 (r.h 0xC) && r.zero 0xE 2

/-- JALAM (R336, R356, R429): the USE byte of each OTP slot is an argument. -/
def recJalam (use : Nat → Nat) (r : Rec) : Bool :=
  let entry (e : Nat) := 0x10 + 4 * e
  let valid (e : Nat) : Bool := r.b (entry e + 3) == 1
  r.len == 32 && decide (r.b 0 ≤ 31) && between 3 12 (r.b 1) && decide (r.b 2 ≤ 2) && decide (r.b 3 ≤ 1) &&
  decide (r.h 4 ≤ 0x3FF) && decide (r.b 6 ≤ 3) && decide (r.b 7 ≤ 7) && decide (r.h 8 ≤ 500) &&
  (r.b 0xA == 0xFF || decide (r.b 0xA ≤ 63)) && (r.b 0xB == 0xFF || decide (r.b 0xB ≤ 31)) && r.zero 0xE 2 &&
  [0, 1, 2, 3].all (fun e => decide (r.b (entry e + 1) ≤ 15) && decide (r.b (entry e + 3) ≤ 1)) &&
  decide (([0, 1, 2, 3].filter valid).map (fun e => r.b (entry e))).Nodup &&
  (r.b 2 == 0 || valid 0) &&
  [0, 1, 2, 3].all (fun e => !valid e || use (r.b (entry e + 1)) == 0x3C)

/-! ### Interrupts, mailboxes, the journal, the Undercroft and faults -/

/-- IRQ_GROUP (R412). -/
def recIrq (r : Rec) : Bool :=
  r.len == (if r.inst = 27 then 80 else 16) && r.zero 0xE 2 &&
  (r.inst != 27 || (List.range 32).all (fun p =>
    r.b (0x10 + 2 * p) != 0 && decide (bits (r.b (0x11 + 2 * p)) 0 3 ≤ 5) &&
    Nat.land (r.b (0x11 + 2 * p)) 0x17 == r.b (0x11 + 2 * p)))

/-- MAILBOX (R424). -/
def recMailbox (r : Rec) : Bool :=
  r.len == 8 && decide (r.b 0 ≤ 3) && r.zero 1 1 && (r.h 2 == 0xFFFF || between 896 1023 (r.h 2)) &&
  between 1 1000000 (r.w 4)

/-- JOURNAL (R455). -/
def recJournal (r : Rec) : Bool := r.len == 8 && decide (r.b 0 ≤ 1) && decide (r.b 1 ≤ 1) && r.zero 2 2

/-- UNDERCROFT (R473). -/
def recUnder (r : Rec) : Bool :=
  r.len == 8 && decide (r.b 0 ≤ 7) && between 30 52 (r.b 1) && between 18 50 (r.b 2) && decide (r.b 2 < r.b 1) &&
  between 1 100 (r.b 3) && between 10 60000 (r.h 4) && r.zero 6 2

/-- FAULT (R486). -/
def recFault (r : Rec) : Bool := r.len == 8 && decide (r.b 0 ≤ 1) && r.b 1 != 0 && r.zero 2 6

/-! ### All types -/

/-- A record's own bytes hold no reserved or out-of-range value (REC_CONTENT at order 10). -/
def recContentOk (use : Nat → Nat) (r : Rec) : Bool :=
  match r.typ with
  | 0x10 => recLegMap r
  | 0x11 => recConverter r
  | 0x12 => recOwnership r
  | 0x13 => recModeMap r
  | 0x20 => recClock r
  | 0x21 => recTbRef r
  | 0x30 => recTracker r
  | 0x31 => recSlot r
  | 0x40 => recLocal r
  | 0x41 => recTrip r
  | 0x50 => recBus r
  | 0x51 => recCompanion r
  | 0x52 => recBrake r
  | 0x60 => recAdcCore r
  | 0x61 => recAdcInput r
  | 0x62 => recLegSense r
  | 0x63 => recComparator r
  | 0x70 => recGrid r
  | 0x71 => recCurve r
  | 0x72 => recMppt r
  | 0x73 => recAxis r
  | 0x74 => recAux r
  | 0x75 => recFan r
  | 0x76 => recLoop r
  | 0x80 => recMeter r
  | 0x81 => recPulse r
  | 0x90 => recJalam use r
  | 0xA0 => recIrq r
  | 0xA1 => recMailbox r
  | 0xB0 => recJournal r
  | 0xB1 => recUnder r
  | 0xC0 => recFault r
  | 0xD0 => r.zero 4 4
  | _ => true

/-- A FW_SEGMENT loads at least one byte, whole inside one TCM (R43). -/
def fwOk (r : Rec) : Bool := decide (8 < r.len) && (tcmOf r.fwAddr r.fwLen).isSome

/-- Two segments share a byte. -/
def fwMeet (a b : Rec) : Bool := decide (a.fwAddr < b.fwAddr + b.fwLen) && decide (b.fwAddr < a.fwAddr + a.fwLen)

end Sys2Proof.Machine
end

