-- ==== Sys2Proof/Machine/RecCross.lean ====
section
/-!
DEFINITION. Sys2Proof/Machine/RecCross.lean: the conditions that depend on more than one record: mandatory records (order
12 of Table 2.5, R43), the cross-record rules (order 13, R527), and what an overlay may not change (R525).
-/

namespace Sys2Proof.Machine

/-- A configuration: records in stored order. -/
abbrev Cfg := List Rec

def Cfg.find (c : Cfg) (typ inst : Nat) : Option Rec := List.find? (fun (r : Rec) => r.typ == typ && r.inst == inst) c
def Cfg.has (c : Cfg) (typ inst : Nat) : Bool := (c.find typ inst).isSome
def Cfg.of (c : Cfg) (typ : Nat) : List Rec := List.filter (fun (r : Rec) => r.typ == typ) c

/-- The records of r's type stored before it. -/
def Cfg.before (c : Cfg) (r : Rec) : List Rec := (c.of r.typ).filter (fun q => decide (q.index < r.index))

/-- LEG_MAP lists a leg, or names a bus (R15). -/
def Cfg.legListed (c : Cfg) (n : Nat) : Bool :=
  match c.find 0x10 0 with
  | some m => (m.h (2 * (n / 16))).testBit (n % 16)
  | none => false
def Cfg.busNamed (c : Cfg) (b : Nat) : Bool :=
  match c.find 0x10 0 with
  | some m => m.h (2 * b) != 0
  | none => false

/-- The owner OWNERSHIP gives a converter, a local output or a function (Table 7.7): 0 Nave 0, 1 Nave 1. -/
def Cfg.ownBit (c : Cfg) (off k : Nat) : Nat :=
  match c.find 0x12 0 with
  | some o => if o.bitAt off k then 1 else 0
  | none => 0
def Cfg.cnvOwner (c : Cfg) (k : Nat) : Nat := c.ownBit 0 k
def Cfg.locOwner (c : Cfg) (k : Nat) : Nat := c.ownBit 0x20 k
def Cfg.fnOwner (c : Cfg) (f : Nat) : Nat := c.ownBit 0x24 f

/-- The record of a function number (Table 7.7), none for a reserved number. -/
def fnRecord (f : Nat) : Option (Nat × Nat) :=
  if f < 4 then some (0x70, f) else if f < 20 then some (0x72, f - 4) else if f < 52 then some (0x73, f - 20)
  else if f < 60 then some (0x74, f - 52) else if f < 68 then some (0x75, f - 60)
  else if f < 72 then some (0x76, f - 68) else none

def Cfg.fnExists (c : Cfg) (f : Nat) : Bool :=
  match fnRecord f with
  | some p => c.has p.1 p.2
  | none => false

/-! ### Mandatory records (order 12) -/

/-- Core k is named as the owner of a unit that has a record (R43). -/
def Cfg.ownsAny (c : Cfg) (k : Nat) : Bool :=
  (c.of 0x11).any (fun r => c.cnvOwner r.inst == k) ||
  (c.of 0x40).any (fun r => c.locOwner r.inst == k) ||
  (List.range 72).any (fun f => c.fnExists f && c.fnOwner f == k) ||
  (c.of 0x30).any (fun r => bits (r.w 0) 0 3 == 4 && bits (r.w 0) 5 1 == k) ||
  (c.of 0x31).any (fun r => bits (r.w 0) 12 2 == k) ||
  (c.of 0x60).any (fun r => bits (r.w 0) 8 1 == k) ||
  (c.of 0x63).any (fun r => bits (r.w 0) 21 1 == k) ||
  (c.of 0x90).any (fun r => r.b 3 == k) ||
  (c.of 0xA1).any (fun r => r.b 0 == k)

/-- Core k has a firmware segment. -/
def Cfg.hasFw (c : Cfg) (k : Nat) : Bool :=
  (c.of 0xD0).any (fun r => (tcmOf r.fwAddr r.fwLen).map Prod.fst == some k)

/-- The missing TYPE and INST, the lowest first (R44). -/
def Cfg.missing (c : Cfg) : Option (Nat × Nat) :=
  let single (t : Nat) : List (Nat × Nat) := if c.has t 0 then [] else [(t, 0)]
  let buses := (List.range 16).filterMap (fun b => if c.busNamed b && !c.has 0x50 b then some (0x50, b) else none)
  let cores := [0, 1].filterMap (fun k => if c.ownsAny k && !c.hasFw k then some (0xD0, k) else none)
  (single 0x10 ++ single 0x12 ++ single 0x13 ++ single 0x20 ++ single 0x21 ++ buses ++ single 0xC0 ++ cores).head?

/-! ### Cross-record conditions (order 13) -/

/-- A leg holds a BRAKE role (R199). -/
def Cfg.brakeLeg (c : Cfg) (n : Nat) : Bool :=
  (c.of 0x52).any (fun r => r.b 0xC != 0xFF && 16 * r.inst + r.b 0xC == n)

/-- The comparator a record claims (R225). -/
def Rec.claim (r : Rec) : Option Nat :=
  if r.typ = 0x52 ∧ r.b 0xD ≠ 0xFF then some (r.b 0xF)
  else if r.typ = 0x74 then some (bits (r.w 0) 8 5)
  else none

/-- A comparator is claimed. -/
def Cfg.claimed (c : Cfg) (k : Nat) : Bool := List.any c (fun r => r.claim == some k)

/-- A record stored before r claims the comparator that r claims. -/
def Cfg.claimTwice (c : Cfg) (r : Rec) : Bool :=
  r.claim.isSome && List.any c (fun q => decide (q.index < r.index) && q.claim == r.claim)

/-- The leader of a FOLLOW unit is a converter that does not follow, of the same owner (R127, R130, R140). -/
def Cfg.leaderOk (c : Cfg) (cfg owner : Nat) : Bool :=
  bits cfg 0 2 != 1 ||
  (match c.find 0x11 (bits cfg 8 8) with
   | some l => bits (l.w 0) 0 2 != 1 && c.cnvOwner l.inst == owner
   | none => false)

/-- A tracker's record has a KIND, 0 for a tracker without a record. -/
def Cfg.trkKind (c : Cfg) (n : Nat) : Nat :=
  match c.find 0x30 n with
  | some r => bits (r.w 0) 0 3
  | none => 0

def crossConverter (c : Cfg) (r : Rec) : Bool :=
  r.cnvLegs.all (fun n => c.legListed n && !c.brakeLeg n && !(c.before r).any (fun q => q.cnvLegs.contains n)) &&
  c.leaderOk (r.w 0) (c.cnvOwner r.inst)

def crossOwnership (c : Cfg) (r : Rec) : Bool :=
  (List.range 256).all (fun k => !r.bitAt 0 k || c.has 0x11 k) &&
  (List.range 32).all (fun k => !r.bitAt 0x20 k || c.has 0x40 k) &&
  (List.range 72).all (fun f => !r.bitAt 0x24 f || c.fnExists f)

/-- The EN of a regulator, fan or loop by its function number (R58). -/
def Cfg.fnEn (c : Cfg) (f : Nat) : Bool :=
  match fnRecord f with
  | some p => (match c.find p.1 p.2 with
      | some r => bits (r.w 0) 0 1 == 1
      | none => false)
  | none => false

def crossModeMap (c : Cfg) (r : Rec) : Bool :=
  [0, 1, 2, 3].all (fun m =>
    let o := 0x34 * m
    (List.range 256).all (fun k => !r.bitAt o k || c.has 0x11 k) &&
    (List.range 32).all (fun k => !r.bitAt (o + 0x20) k || c.has 0x40 k) &&
    (List.range 72).all (fun f => !r.bitAt (o + 0x24) f || c.fnExists f) &&
    (List.range 20).all (fun f => r.bitAt (o + 0x24) (52 + f) == c.fnEn (52 + f)))

def crossSlot (c : Cfg) (r : Rec) : Bool :=
  let trk := bits (r.w 0) 0 7
  let act := r.w 4
  (trk == 64 || c.trkKind trk != 0) &&
  !(bits act 0 4 == 7 && (c.of 0x70).any (fun g => bits (g.w 0) 16 5 == bits act 8 5))

def crossBrake (c : Cfg) (r : Rec) : Bool :=
  let n := 16 * r.inst + r.b 0xC
  (r.b 0xC == 0xFF || (c.legListed n && !(c.of 0x11).any (fun q => q.cnvLegs.contains n))) &&
  (r.b 0xD == 0xFF || !(c.before r).any (fun q => q.b 0xD == r.b 0xD)) && !c.claimTwice r

/-- The odd core of an interleaved pair holds TRIG 0 (R218). -/
def crossAdcCore (c : Cfg) (r : Rec) : Bool :=
  r.inst % 2 == 0 || bits (r.w 0) 0 3 == 0 ||
  (match c.find 0x60 (r.inst - 1) with
   | some e => bits (e.w 0) 9 1 == 0
   | none => true)

/-- The pool channels a LEG_SENSE record names. -/
def Rec.pools (r : Rec) : List Nat :=
  (if r.lsFlag 1 then [r.h 0xC] else []) ++ (if r.lsFlag 2 then [r.h 0xE] else [])

def crossLegSense (c : Cfg) (r : Rec) : Bool :=
  r.pools.all (fun p => !(c.before r).any (fun q => q.pools.contains p)) &&
  (r.b 0xA == 0xFF || !(c.before r).any (fun q => q.b 0xA == r.b 0xA && q.h 8 != r.h 8))

def crossComparator (c : Cfg) (r : Rec) : Bool :=
  !c.claimed r.inst || (bits (r.w 4) 4 1 == 0 && bits (r.w 0xC) 8 16 == 0)

def crossGrid (c : Cfg) (r : Rec) : Bool :=
  let trk := bits (r.w 0) 0 6
  let cnv := bits (r.w 0) 8 8
  c.trkKind trk == 1 && c.has 0x11 cnv &&
  !(c.before r).any (fun q => bits (q.w 0) 0 6 == trk || bits (q.w 0) 8 8 == cnv)

/-- ICH is the current channel of a leg of the engine's converter (R255). -/
def crossMppt (c : Cfg) (r : Rec) : Bool :=
  let ich := bits (r.w 0) 16 9
  (match c.find 0x11 (bits (r.w 0) 0 8) with
   | some q => q.cnvLegs.contains ich
   | none => false) &&
  (match c.find 0x62 ich with
   | some q => q.lsFlag 0
   | none => false)

def crossAxis (c : Cfg) (r : Rec) : Bool :=
  let cnv := bits (r.w 0) 8 8
  let trk := bits (r.w 0) 16 7
  c.has 0x11 cnv && !(c.before r).any (fun q => bits (q.w 0) 8 8 == cnv) &&
  c.fnOwner (fnAxis r.inst) == c.cnvOwner cnv &&
  (r.h 0x1A == 0 || bits (r.w 0) 0 2 != 1 ||
    (match c.find 0x30 trk with
     | some t => bits (t.w 0) 0 3 == 5 && bits (t.w 0) 4 1 == 1
     | none => false))

/-- The leader of a tracking channel is enabled and does not track (R284). -/
def crossAux (c : Cfg) (r : Rec) : Bool :=
  (bits (r.w 0) 1 2 == 0 ||
    (match c.find 0x74 (bits (r.w 0) 4 3) with
     | some l => bits (l.w 0) 0 1 == 1 && bits (l.w 0) 1 2 == 0
     | none => false)) && !c.claimTwice r

def crossFan (c : Cfg) (r : Rec) : Bool :=
  [0, 1, 2, 3].all (fun n =>
    let ch := r.h (0xC + 2 * n)
    ch == 0xFFFF || (c.of 0x62).any (fun q => q.lsFlag 2 && q.h 0xE == ch))

/-- A sealed port needs the ring retained or mirrored; the first sealing record in stored order is reported (R309). -/
def crossMeter (c : Cfg) (r : Rec) : Bool :=
  bits (r.w 0) 1 1 == 0 ||
  (match c.find 0xB0 0 with
   | some j => j.b 0 == 1 || j.b 1 == 1
   | none => false)

def crossPulse (c : Cfg) (r : Rec) : Bool :=
  match c.find 0x80 (bits (r.w 0) 4 2) with
  | some p => bits (p.w 0) 0 1 == 1
  | none => false

/-- The slots with the BEACON action (R356). -/
def crossJalam (c : Cfg) (r : Rec) : Bool :=
  let beacons := (c.of 0x31).filter (fun q => bits (q.w 4) 0 4 == 5)
  (r.b 0xA == 0xFF || c.trkKind (r.b 0xA) == 1) &&
  (r.b 2 == 0 ||
    (match beacons with
     | [q] => bits (q.w 0) 0 7 != 64 || between 1024000000 20480000000 (q.fld 0x10 8)
     | _ => false))

/-- The ROUTE of source 784 + m is the receiver, where that is a core or Chancel (R424). -/
def Cfg.route (c : Cfg) (src : Nat) : Nat :=
  match c.find 0xA0 (src / 32) with
  | some g => bits (g.w (4 * (src % 32 / 16))) (2 * (src % 16)) 2
  | none => 0
def crossMailbox (c : Cfg) (r : Rec) : Bool := r.b 0 == 3 || c.route (784 + r.inst) == r.b 0

def crossJournal (c : Cfg) (r : Rec) : Bool :=
  (List.range 32).all (fun a => !r.bitAt 4 a ||
    (match c.find 0x73 a with
     | some q => bits (q.w 0) 24 1 == 1
     | none => false))

/-- A record meets the conditions that depend on others. -/
def crossOk (c : Cfg) (r : Rec) : Bool :=
  match r.typ with
  | 0x11 => crossConverter c r
  | 0x12 => crossOwnership c r
  | 0x13 => crossModeMap c r
  | 0x31 => crossSlot c r
  | 0x40 => c.leaderOk (r.w 0) (c.locOwner r.inst)
  | 0x50 => c.busNamed r.inst
  | 0x51 => c.legListed r.inst
  | 0x52 => crossBrake c r
  | 0x60 => crossAdcCore c r
  | 0x62 => crossLegSense c r
  | 0x63 => crossComparator c r
  | 0x70 => crossGrid c r
  | 0x72 => crossMppt c r
  | 0x73 => crossAxis c r
  | 0x74 => crossAux c r
  | 0x75 => crossFan c r
  | 0x80 => crossMeter c r
  | 0x81 => crossPulse c r
  | 0x90 => crossJalam c r
  | 0xA1 => crossMailbox c r
  | 0xB0 => crossJournal c r
  | _ => true

/-- The first record, in stored order, that fails order 13. -/
def Cfg.crossFail (c : Cfg) : Option Rec := List.find? (fun r => !crossOk c r) c

/-! ### What an overlay may not change (R525) -/

/-- Masked bits of the word at an offset are alike. -/
def sameBits (a b : Rec) (off mask : Nat) : Bool := Nat.land (a.w off) mask == Nat.land (b.w off) mask
/-- k bytes from an offset are alike. -/
def sameFld (a b : Rec) (off k : Nat) : Bool := a.fld off k == b.fld off k

/-- The fields that fail validation when patched hold their base values (R102, R138, R179, R191, R199, R216, R228, R251,
R269, R298). -/
def frozenSame (c : Cfg) (a b : Rec) : Bool :=
  match a.typ with
  | 0x11 => sameBits a b 0 0xFF03 && sameFld a b 0xE 2 && a.cnvLegs == b.cnvLegs
  | 0x30 => sameBits a b 0 0x7F27 && sameFld a b 4 4
  | 0x40 => sameBits a b 0 0xFF23
  | 0x51 => sameBits a b 0 3
  | 0x52 => sameFld a b 8 8
  | 0x60 => sameBits a b 0 0x700 && sameFld a b 0xC 5
  | 0x63 => sameBits a b 0 0x203F7F && (!c.claimed a.inst || a.val == b.val)
  | 0x70 => sameFld a b 0 3
  | 0x73 => sameFld a b 0 4
  | 0x75 => sameFld a b 0 4
  | 0x76 => sameFld a b 0 4
  | _ => true

end Sys2Proof.Machine
end

