-- ==== Sys2Proof/Machine/Image.lean ====
section
/-!
DEFINITION. Sys2Proof/Machine/Image.lean: the loader (chapter 2, R41, R427): steps t2 to t4 of START. The slots are read
once, at t2 (R24); the checks of Table 2.5 run in its order, and the first slot that passes all of them is loaded.
-/

namespace Sys2Proof.Machine

/-! ### START, its steps and its hold -/

/-- START is held and VST_STATUS says so (R20). -/
def State.holdStart (s : State) : State :=
  let s := (s.set Fld.VST_STATUS_STATE 0 2).set Fld.VST_STATUS_SKIPPED 0 0
  { s with pow := { s.pow with held := true } }

/-- The result of a slot goes to its VST_REJ registers (R44). -/
def State.reject (s : State) (slotB : Bool) (r : Rej) : State :=
  let b := if slotB then 1 else 0
  let s := (s.set Fld.VST_REJ_REASON b r.code).set Fld.VST_REJ_INDEX b r.index
  ((s.set Fld.VST_REJ_OFFSET_OFFSET b r.off).set Fld.VST_REJ_TYPE_TYPE b r.typ).set Fld.VST_REJ_TYPE_INST b r.inst

/-- A known-answer test fails (R427). -/
def State.katFailed (s : State) : State :=
  let s := { s with chn := { s.chn with katFail := true, katPending := false }, img := { s.img with todo := [] } }
  let s := s.set Fld.SYS_CHN_STATUS_KATFAIL 0 1
  let s := ((s.reject false { code := 0 }).reject true { code := 0 }).holdStart
  s.faultF4 blkSYS (causeOf whyKatFail)

/-! ### t2: headers -/

/-- The bytes of a slot: where slot B exists each has 32 MB, else slot A may use the whole NOR (R25). -/
def slotSize (v : NorView) : Nat := if v.big then 0x2000000 else v.density

/-- The read command and clock of FETCH (R26): single-lane Read at 20 MHz, or Quad Output Fast Read at 80 MHz. -/
def fetchCmd (fetch : Nat) : Nat × Nat := if fetch = 1 then (0x6C, 80) else (0x13, 20)

def norSlot (v : NorView) (b : Bool) : NorSlot := if b then v.b else v.a

/-- The slot to evaluate first where both exist (R27): true for B. -/
def slotFirst (v : NorView) : Bool :=
  v.b.hdrOk && (!v.a.hdrOk || decide (v.a.seq < v.b.seq))

/-- SLOT_HEADERS_READ: the self-tests of t2, the density, the slot order. -/
def State.headersRead (s : State) (nor : NorView) (kat : Bool) : State :=
  if !s.inStart 1 then s
  else
    let s := { s with img := { nor := nor, readCmd := (fetchCmd 0).1, readMhz := (fetchCmd 0).2 } }
    if !kat then s.katFailed
    else
      let s := (s.startStep 2).setFlag Fld.VST_STATUS_SLOTB 0 (nor.sfdp && nor.big)
      let s := { s with chn := { s.chn with katPending := true } }
      if !nor.sfdp then (s.reject false { code := rejReadError }).holdStart
      else
        let first := nor.big && slotFirst nor
        { s with img := { s.img with todo := if nor.big then [first, !first] else [first] } }

/-! ### t3: records -/

/-- What parsing gives: the records known to this revision and those skipped (R34), in stored order, and where it ended. -/
structure Parsed where
  known : List Rec
  all : List Rec
  fin : Nat
  deriving DecidableEq, Repr

/-- The checks of order 10 on one record, in the order of Table 2.5. -/
def recCheck (use : Nat → Nat) (seen : List Rec) (r : Rec) (crcOk : Bool) : Option Nat :=
  let unknown := (typeMax r.typ).isNone
  let skip := unknown && r.flags.testBit 1
  if !crcOk then some rejRecCrc
  else if (unknown && !skip) || (match typeMax r.typ with
      | some m => decide (m < r.inst)
      | none => false) then some rejRecType
  else if seen.any (fun q => q.typ == r.typ && q.inst == r.inst) then some rejRecDup
  else if r.flags.testBit 0 && !typeOvl r.typ then some rejRecOvlForbidden
  else if 4 ≤ r.flags || (!unknown && !recContentOk use r) then some rejRecContent
  else if r.typ = 0xD0 ∧ (!fwOk r || seen.any (fun q => q.typ == 0xD0 && fwMeet q r)) then some rejFwRange
  else none

/-- Parse k records from an offset (R31, R32): a footprint past SIGOFF is REC_LENGTH. R29 has parsing go on past the lowest
overlay offset, so the bound is SIGOFF (DESIGN CHOICE, log entry 35). -/
def parseRecs (sl : NorSlot) (use : Nat → Nat) : Nat → Nat → Nat → Parsed → Except Rej Parsed
  | 0, _, _, acc => .ok acc
  | k + 1, idx, pos, acc =>
    let typ := sl.fld pos 2
    let len := sl.fld (pos + 2) 2
    let inst := sl.fld (pos + 4) 2
    let fail (c : Nat) : Rej := { code := c, index := idx, typ := typ, inst := inst, off := pos }
    if len = 0 ∨ len = 0xFFFF ∨ sl.sigOff < pos + footprint len then .error (fail rejRecLength)
    else
      let bs := sl.take pos (footprint len)
      let r : Rec := { typ := typ, inst := inst, flags := sl.fld (pos + 6) 2, index := idx, off := pos
                       val := (bs.drop 8).take len }
      let body := bs.take (footprint len - 4)
      let crcOk := crc32 body == leNat (bs.drop (footprint len - 4)) && (body.drop (8 + len)).all (fun b => b == 0)
      match recCheck use acc.all r crcOk with
      | some c => .error (fail c)
      | none =>
        parseRecs sl use k (idx + 1) (pos + footprint len)
          { known := if (typeMax typ).isSome then acc.known ++ [r] else acc.known
            all := acc.all ++ [r]
            fin := pos + footprint len }

/-- Orders 10 to 13 of Table 2.5. -/
def checkRecs (sl : NorSlot) (use : Nat → Nat) : Except Rej Parsed :=
  match parseRecs sl use sl.recCount 0 64 ⟨[], [], 64⟩ with
  | .error e => .error e
  | .ok p =>
    if p.fin ≠ sl.recEnd then
      .error { code := rejRecCount, index := sl.recCount - 1, off := p.fin
               typ := (p.all.getLast?.map Rec.typ).getD 0, inst := (p.all.getLast?.map Rec.inst).getD 0 }
    else match Cfg.missing p.known with
      | some m => .error { code := rejRecMissing, typ := m.1, inst := m.2, off := p.fin }
      | none => match Cfg.crossFail p.known with
        | some r => .error { code := rejRecContent, index := r.index, typ := r.typ, inst := r.inst, off := r.off }
        | none => .ok p

/-- The slot now evaluated fails (R27, Table 2.6): the other slot, or START is held. -/
def State.failSlot (s : State) (r : Rej) : State :=
  match s.img.todo with
  | [] => s
  | b :: rest =>
    let s := (s.reject b r).set Fld.VST_STATUS_SKIPPED 0 0
    let s := { s with img := { s.img with todo := rest, fetched := false, early := none, base := [], ovl := [] } }
    if rest.isEmpty then s.holdStart else s

/-- An address lies in a TCM. -/
def inTcm (a : Nat) : Bool := (tcmOf a 1).isSome

/-- Firmware is staged in the TCMs, whose other bytes are 0, and each instruction TCM is hashed (R48, R433). -/
def State.stageFw (s : State) (recs : List Rec) : State :=
  let s := { s with mem := s.mem.filter (fun c => !inTcm c.1) }
  let s := ((Cfg.of recs 0xD0)).foldl (fun s r => s.setBytes r.fwAddr (r.val.drop 8)) s
  let h (c : Nat) : BitVec 256 := Config.sha256 (s.bytes 0x40000 (0x10000000 + 0x1000000 * c))
  { s with chn := { s.chn with itcmHash := Table.set 0 (Table.set 0 [] 0 (h 0)) 1 (h 1) } }

/-- The USE byte of an OTP key slot. -/
def State.keyUse (s : State) (k : Nat) : Nat := (s.keySlot k).use

/-- IMAGE_FETCHED. -/
def State.imageFetched (s : State) : State :=
  if !(s.inStart 2 || s.inStart 3) || s.img.fetched then s
  else match s.img.todo with
    | [] => s
    | b :: _ =>
      let sl := norSlot s.img.nor b
      match sl.hdrCheck (slotSize s.img.nor) with
      | some r => s.failSlot r
      | none =>
        let s := s.startStep 3
        let cmd := fetchCmd (sl.fld 0x2C 1)
        let s := { s with img := { s.img with fetched := true, readCmd := cmd.1, readMhz := cmd.2 } }
        match checkRecs sl s.keyUse with
        | .error r => { s with img := { s.img with early := some r } }
        | .ok p =>
          let s := s.set Fld.VST_STATUS_SKIPPED 0 (p.all.length - p.known.length)
          ({ s with img := { s.img with early := none, base := p.known } }).stageFw p.known

/-! ### t4: overlays -/

/-- Parse n patches of overlay m, whose patches end at an offset (R36). -/
def parsePatches (sl : NorSlot) (m hdr fin : Nat) : Nat → Nat → List Patch → Except Rej (List Patch)
  | 0, pos, acc => if pos = fin then .ok acc else .error { code := rejOvlFormat, index := m, off := hdr }
  | k + 1, pos, acc =>
    let typ := sl.fld pos 2
    let inst := sl.fld (pos + 2) 2
    let plen := sl.fld (pos + 6) 2
    let next := pos + 8 + 4 * ((plen + 3) / 4)
    if fin < pos + 8 then .error { code := rejOvlFormat, index := m, off := hdr }
    else if plen = 0 ∨ 1024 < plen then .error { code := rejOvlFormat, index := m, typ := typ, inst := inst, off := pos }
    else if fin < next then .error { code := rejOvlFormat, index := m, off := hdr }
    else if !(sl.take (pos + 8 + plen) (next - (pos + 8 + plen))).all (fun b => b == 0) then
      .error { code := rejOvlFormat, index := m, typ := typ, inst := inst, off := pos }
    else
      parsePatches sl m hdr fin k next
        (acc ++ [{ typ := typ, inst := inst, poff := sl.fld (pos + 4) 2, data := sl.take (pos + 8) plen, off := pos }])

/-- A patch writes into a VALUE (R37). -/
def Patch.on (p : Patch) (val : List Byte) : List Byte :=
  val.take p.poff ++ p.data ++ val.drop (p.poff + p.data.length)

/-- A patch names a record. -/
def Patch.names (p : Patch) (r : Rec) : Bool := p.typ == r.typ && p.inst == r.inst

/-- The base with an overlay's patches (R39). -/
def patched (base : List Rec) (ps : List Patch) : List Rec :=
  base.map (fun r => { r with val := (ps.filter (fun p => p.names r)).foldl (fun v p => p.on v) r.val })

/-- Two patches touch one byte. -/
def Patch.meets (a b : Patch) : Bool :=
  a.typ == b.typ && a.inst == b.inst && decide (a.poff < b.poff + b.data.length) && decide (b.poff < a.poff + a.data.length)

/-- The first patch that touches a byte that an earlier one touches. -/
def overlap : List Patch → List Patch → Option Patch
  | _, [] => none
  | seen, p :: t => if seen.any p.meets then some p else overlap (p :: seen) t

/-- The patched configuration fails a condition between records (R38). -/
def Cfg.unfit (c : Cfg) : Bool := (Cfg.crossFail c).isSome || (Cfg.missing c).isSome

/-- The first patch, in stored order, with which the configuration becomes unfit. -/
def breaker (base : List Rec) : List Patch → List Patch → Option Patch
  | _, [] => none
  | done, p :: t => if Cfg.unfit (patched base (done ++ [p])) then some p else breaker base (done ++ [p]) t

/-- Every patched record stands in the base, and its configuration is judged as the base was (R38, R525). The patch concerned
(R44) is the first that names a record which fails by itself; else the first that names the record which fails a condition
between records; else, where the patches make a record fail that none of them names, the first with which the configuration
no longer stands (DESIGN CHOICE, log entry 35). -/
def ovlContent (use : Nat → Nat) (base : List Rec) (ps : List Patch) (m : Nat) : Option Rej :=
  let cfg := patched base ps
  let at_ (p : Patch) : Rej := { code := rejOvlContent, index := m, typ := p.typ, inst := p.inst, off := p.off }
  let bad (p : Patch) : Bool :=
    match Cfg.find base p.typ p.inst, Cfg.find cfg p.typ p.inst with
    | some a, some b => !recContentOk use b || !frozenSame base a b
    | _, _ => false
  match ps.find? bad with
  | some p => some (at_ p)
  | none =>
    match Cfg.crossFail cfg with
    | some r => ((ps.find? (fun p => p.names r)).or (breaker base [] ps)).map at_
    | none => if (Cfg.missing cfg).isSome then (breaker base [] ps).map at_ else none

/-- Order 14 on one overlay: mode, offset, and where it must end. -/
def checkOvl (sl : NorSlot) (use : Nat → Nat) (base : List Rec) (m off limit : Nat) : Except Rej (List Patch) :=
  let olen := sl.fld (off + 8) 4
  let pcount := sl.fld (off + 6) 2
  let hdr (c : Nat) : Rej := { code := c, index := m, off := off }
  let pat (c : Nat) (p : Patch) : Rej := { code := c, index := m, typ := p.typ, inst := p.inst, off := p.off }
  if 4096 < olen then .error (hdr rejOvlSize)
  else if sl.fld off 4 ≠ 0x4C564F56 ∨ sl.fld (off + 4) 1 ≠ m ∨ sl.fld (off + 5) 1 ≠ 0 ∨ pcount = 0 ∨ 512 < pcount ∨
      olen < 32 ∨ olen % 4 ≠ 0 ∨ limit < off + olen ∨ sl.fld (off + 12) 4 ≠ 0 then .error (hdr rejOvlFormat)
  else match parsePatches sl m off (off + olen - 4) pcount (off + 16) [] with
    | .error r => .error r
    | .ok ps =>
      if crc32 (sl.take off (olen - 4)) ≠ sl.fld (off + olen - 4) 4 then .error (hdr rejOvlCrc)
      else
        let target (p : Patch) : Option Rec := (Cfg.find base p.typ p.inst).filter (fun r => r.flags.testBit 0)
        match ps.find? (fun p => (target p).isNone) with
        | some p => .error (pat rejOvlTarget p)
        | none => match ps.find? (fun p => decide (((target p).map Rec.len).getD 0 < p.poff + p.data.length)) with
          | some p => .error (pat rejOvlRange p)
          | none => match overlap [] ps with
            | some p => .error (pat rejOvlOverlap p)
            | none => match ovlContent use base ps m with
              | some r => .error r
              | none => .ok ps

/-- The overlays in mode order, each ending at or before the next nonzero offset or SIGOFF. -/
def checkOvls (sl : NorSlot) (use : Nat → Nat) (base : List Rec) : List (Nat × Nat) → List (Nat × List Patch) →
    Except Rej (List (Nat × List Patch))
  | [], acc => .ok acc
  | (m, off) :: t, acc =>
    match checkOvl sl use base m off (((t.map Prod.snd).head?).getD sl.sigOff) with
    | .error r => .error r
    | .ok ps => checkOvls sl use base t (acc ++ [(m, ps)])

/-- The configuration of a mode: the base with its overlay (R39). -/
def State.cfgOf (s : State) (m : Nat) : Cfg := patched s.img.base (s.img.ovl.getD m [])

/-! ### t4: signature and loading -/

/-- Checks 5 to 9 of Table 2.5 (R40 to R42). -/
def State.sigRej (s : State) (sl : NorSlot) : Option Rej :=
  let o := sl.sigOff
  let k := sl.fld (o + 4) 1
  let sig := BitVec.ofNat 512 (sl.fld (o + 16) 32 * 2 ^ 256 + sl.fld (o + 48) 32)
  match sl.sigCheck with
  | some r => some r
  | none =>
    if s.keyUse k ≠ 0x0F ∧ s.keyUse k ≠ 0x33 then some { code := rejKeySlot, off := o + 4 }
    else if !Config.ecdsaVerify (s.keySlot k).key (sl.take 0 o) sig then some { code := rejSignature, off := o + 16 }
    else if sl.seq < s.get Fld.SYS_CHN_FLOOR_FLOOR 0 then some { code := rejRollback, off := 0xC }
    else if s.regValue .SYS_ID 0 % 256 < sl.minRev then some { code := rejRevision, off := 0x10 }
    else none

/-- The image of a slot is loaded: the VST registers name it (Tables 2.6 and 2.7), and an IMGDEV key voids evaluation
(R440). -/
def State.loadImage (s : State) (b : Bool) (sl : NorSlot) (ovl : List (Nat × List Patch)) : State :=
  let patches (m : Nat) : List Patch := ((ovl.find? (fun p => p.1 == m)).map Prod.snd).getD []
  let k := sl.fld (sl.sigOff + 4) 1
  let hash := Config.sha256 (sl.take 0 sl.sigOff)
  let s := (s.setFlag Fld.VST_STATUS_SLOT 0 b).set Fld.VST_STATUS_STATE 0 1
  let s := (s.set Fld.VST_IMG_SEQ_SEQ 0 sl.seq).set Fld.VST_IMG_INFO_MINREV 0 sl.minRev
  let s := (s.set Fld.VST_IMG_INFO_STARTMODE 0 sl.startMode).set Fld.VST_IMG_INFO_FORMAT 0 (sl.fld 4 2)
  let s := s.set Fld.VST_REC_COUNT_COUNT 0 sl.recCount
  let s := [0, 1, 2, 3].foldl (fun s m =>
    (s.set Fld.VST_OVL_LEN_LEN m (if sl.ovlOff m = 0 then 0 else sl.fld (sl.ovlOff m + 8) 4)).set
      Fld.VST_OVL_LEN_PATCHES m (patches m).length) s
  let s := (s.set Fld.SYS_CHN_SIGSLOT_SLOT 0 k).setFlag Fld.SYS_CHN_EVAL_DEVKEY 0 (s.keyUse k == 0x33)
  let s := s.startStep 4
  let s := { s with img := { s.img with ovl := [0, 1, 2, 3].map patches, todo := [] } }
  (List.range 8).foldl (fun s w => s.set Fld.VST_IMG_HASH_HASH w (hash.toNat / 2 ^ (32 * w))) s

/-- SIGNATURE_VERIFIED. -/
def State.signatureVerified (s : State) : State :=
  if !s.inStart 3 || !s.img.fetched || s.chn.katPending then s
  else match s.img.todo with
    | [] => s
    | b :: _ =>
      let sl := norSlot s.img.nor b
      match s.sigRej sl, s.img.early with
      | some r, _ => s.failSlot r
      | none, some r => s.failSlot r
      | none, none => match checkOvls sl s.keyUse s.img.base sl.overlays [] with
        | .error r => s.failSlot r
        | .ok o => s.loadImage b sl o

/-- KAT_ECDSA_DONE (R427). -/
def State.katDone (s : State) (ok : Bool) : State :=
  if !s.chn.katPending then s
  else if ok then { s with chn := { s.chn with katPending := false } }
  else s.katFailed

/-! ### Meanings -/

/-- SLOT_HEADERS_READ (R27). -/
def execSlotHeadersRead (nor : NorView) (aesOk shaOk trngOk : Bool) (s : State) : Out :=
  .next (s.headersRead nor (aesOk && shaOk && trngOk))

/-- IMAGE_FETCHED (R26). -/
def execImageFetched (s : State) : Out := .next s.imageFetched

/-- SIGNATURE_VERIFIED (R44). -/
def execSignatureVerified (s : State) : Out := .next s.signatureVerified

/-- KAT_ECDSA_DONE (R427). -/
def execKatEcdsaDone (ok : Bool) (s : State) : Out := .next (s.katDone ok)

end Sys2Proof.Machine
end

