-- ==== Sys2Proof/Machine/Edge.lean ====
section
/-!
DEFINITION. Sys2Proof/Machine/Edge.lean: the edge engine (chapter 7): commits (R123), cut-offs (R122, R124, R126),
boundaries (R121), starts and followers (R127, R128), forces (R132, R133), demands (R134 to R136), trips (R137) and
local outputs (R130).
-/

namespace Sys2Proof.Machine

/-! ### Patterns -/

/-- The committed set takes every shadow of a converter (R123). -/
def State.shadowSet (s : State) (c : Nat) : PatSet :=
  { period := s.get Fld.EDG_CNV_PERIOD_SH_PERIOD c
    legs := (s.convLegs c).map (fun n =>
      { leg := n, mode := s.get Fld.EDG_LEG_MODE_SH_MODE n
        on := s.get Fld.EDG_LEG_ON_SH_OFFSET n, off := s.get Fld.EDG_LEG_OFF_SH_OFFSET n }) }

/-- A set is refused whole: a period outside R121, or a PWM leg with an offset above the period (R124). -/
def PatSet.bad (p : PatSet) (period : Nat) : Bool :=
  decide (period < 204800) || decide (20480000 < period) ||
    p.legs.any (fun l => l.mode == 0 && (decide (period < l.on) || decide (period < l.off)))

/-- The on time of a PWM leg within a period (R125). -/
def onTime (period on off : Nat) : Nat :=
  if on < off then off - on else if off < on then (period - on) + off else 0

/-- MINPULSE (R126): a short on interval leaves the leg off for the period, a short off interval leaves it on. The second
component says that an interval was removed. -/
def minPulse (period mp : Nat) (l : LegPat) : LegPat × Bool :=
  if l.mode ≠ 0 then (l, false)
  else
    let t := onTime period l.on l.off
    if 0 < t ∧ t < mp then ({ l with on := 0, off := 0 }, true)
    else if 0 < period - t ∧ period - t < mp then ({ l with on := 0, off := period }, true)
    else (l, false)

/-- Leg offsets beyond the leader's period are clamped to it (R127); the second component says that one was. DEDUCED (log
entry 37): OFFSET itself cannot reach beyond the period, so R127 speaks of the offsets of the legs. -/
def clampLeg (period : Nat) (l : LegPat) : LegPat × Bool :=
  ({ l with on := Nat.min l.on period, off := Nat.min l.off period },
   l.mode == 0 && (decide (period < l.on) || decide (period < l.off)))

/-- ON and OFF scaled by new / old period, rounded to nearest (R138). -/
def PatSet.scaled (p : PatSet) (new : Nat) : PatSet :=
  let f (x : Nat) : Nat := if p.period = 0 then x else (2 * x * new + p.period) / (2 * p.period)
  { period := new, legs := p.legs.map (fun l => { l with on := f l.on, off := f l.off }) }

/-- A force holds every leg ALL_OFF or LOW_ON (R132). -/
def forceLeg (force : Nat) (l : LegPat) : LegPat :=
  if force = 1 then { l with mode := 2 } else if force = 2 then { l with mode := 1 } else l

/-! ### Commit -/

/-- The first bus-cycle start at or after a time (R127). -/
def cycleAfter (t : Nat) : Nat := (t + (busCycle - 1)) / busCycle * busCycle

/-- The first bus-cycle start at least `lead` after a first commit whose cut-off can take that commit (R123, R127). -/
def startBound (t lead : Nat) : Nat :=
  let b := cycleAfter (t + lead)
  if beforeCycle t (b - lead) then b else b + busCycle

/-- A follower's offset from its leader's boundary (R127). -/
def followOffset (offset period : Nat) : Nat := Nat.min period ((2 * offset * period + 65536) / 131072)

/-- The periods a leader has in progress or built. -/
def Conv.periods (v : Conv) : List Period := v.cur.toList ++ v.built

/-- The last period a converter has built, or begun: the end of its known grid. -/
def Conv.lastKnown (v : Conv) : Option (Nat × Nat) :=
  match v.periods.getLast? with
  | some p => some (p.bound, p.pat.period)
  | none => v.last

/-- The first boundary after a time on a follower's grid (R127, R128): with those of the leader's periods, or beyond them
with the grid of its last one; and the period that begins there. -/
def State.followNext (s : State) (leader offset after : Nat) : Option (Nat × Nat) :=
  let v := s.convOf leader
  match (v.periods.map (fun p => (p.bound + followOffset offset p.pat.period, p.pat.period))).find?
    (fun x => decide (after < x.1)) with
  | some x => some x
  | none => match v.lastKnown with
    | none => none
    | some (b, p) =>
      let g := b + followOffset offset p
      if p = 0 then none else if after < g then some (g, p) else some (g + ((after - g) / p + 1) * p, p)

/-- A follower's first boundary: that of its leader's first period at least LEAD after its first commit (R128) whose cut-off
can take that commit (R123). -/
def State.followFirst (s : State) (leader offset lead t : Nat) : Option (Nat × Nat) :=
  let at_ (b p : Nat) : Nat × Nat := (b + followOffset offset p, p)
  let takes (b p : Nat) : Bool := decide (t + lead ≤ b) && beforeCycle t ((at_ b p).1 - lead)
  if s.cnvState leader ≠ cvRun then none
  else match (s.convOf leader).periods.find? (fun p => takes p.bound p.pat.period) with
    | some p => some (at_ p.bound p.pat.period)
    | none => match (s.convOf leader).lastKnown with
      | none => none
      | some (b, p) =>
        let g := b + (t + lead - b + (p - 1)) / p * p
        if p = 0 then none else if takes g p then some (at_ g p) else some (at_ (g + p) p)

/-- The boundary that follows the period (b, p) of a follower, and the length of the period it begins (R128). While the
leader is not in RUN, the leader's last grid goes on. When it runs again the follower rejoins at a boundary of its own: one
period reaches to the leader's grid, a gap below the shortest period joined to the period after it. DEDUCED (log entry
37): the spec does not say how it rejoins without a step. -/
def State.followPlan (s : State) (leader offset b p : Nat) (orph : Bool) : Option (Nat × Nat) :=
  if s.cnvState leader ≠ cvRun || !orph then s.followNext leader offset b
  else match s.followNext leader offset (b + p - 1) with
    | none => none
    | some (g, q) =>
      let gap := g - (b + p)
      if gap = 0 then some (g, q)
      else if 2 * p ≤ gap then some (b + p, p)
      else if 204800 ≤ gap then some (b + p, gap)
      else some (b + p, gap + q)

/-- The first boundary after ENABLE and a first commit (R127): FREE, the first bus-cycle start at least LEAD after the
commit; FOLLOW, the leader's first boundary at least LEAD after it (R128). -/
def State.scheduleStart (s : State) (c : Nat) : State :=
  let v := s.convOf c
  match v.firstAt, v.nextB with
  | some t, none =>
    let lead := s.get Fld.EDG_CNV_LEAD_LEAD c
    match s.get Fld.EDG_CNV_CFG_SYNC c with
    | 0 => s.setConv c { v with nextB := some (startBound t lead) }
    | 1 =>
      match s.followFirst (s.get Fld.EDG_CNV_CFG_LEADER c) (s.get Fld.EDG_CNV_OFFSET_OFFSET c) lead t with
      | some x => s.setConv c { v with nextB := some x.1 }
      | none => s
    | _ => s
  | _, _ => s

/-- A set is committed at a time (R123): one that comes before the cut-off that would take an earlier one replaces it and
counts SUPERSEDED; the first after ENABLE schedules the start (R127). -/
def State.commitSet (s : State) (c t : Nat) (p : PatSet) : State :=
  let v := s.convOf c
  let taken := match v.nextB with
    | some b => !beforeCycle t (b - s.get Fld.EDG_CNV_LEAD_LEAD c)
    | none => false
  let s := if v.fresh && !taken then
      (s.bump Fld.EDG_CNV_CNT_SUPERSEDED c).set Fld.EDG_CNV_STATUS_SUPERSEDED c 1 else s
  let first := match v.firstAt with
    | some x => some x
    | none => if s.cnvState c = cvWait then some t else none
  let prev := if v.fresh && !taken then v.prev else v.com
  s.setConv c { v with com := some p, fresh := true, comAt := t, prev := prev, firstAt := first }

/-- EDG_CNV_COMMIT: the committed set takes every shadow (R123). -/
def State.convCommit (s : State) (c t : Nat) : State := s.commitSet c t (s.shadowSet c)

/-! ### Cut-off -/

/-- The mode that is applied at or before a boundary, as its quiet point is predicted (R56, R57). -/
def State.pendingMode (s : State) (bound : Nat) : Option Nat :=
  match s.mode.pend, s.mode.qp with
  | some p, some q => if q ≤ bound then some p.mode else none
  | _, _ => none

/-- The PERIOD and MINPULSE that the period at a boundary is built with (R57, R138): a changed PERIOD of the mode that the
quiet point brings, and its MINPULSE, from the first boundary at or after the quiet point. -/
def State.boundValues (s : State) (typ inst periodAt mpAt bound mp : Nat) : Option Nat × Nat :=
  match s.pendingMode bound with
  | none => (none, mp)
  | some m => match Cfg.find (s.cfgOf m) typ inst with
    | none => (none, mp)
    | some r =>
      (if r.fld periodAt 4 = s.recFld typ inst periodAt 4 then none else some (r.fld periodAt 4), r.fld mpAt 2)

/-- The set a cut-off takes (R123, R124): the committed set, or the one before it where the commit was made in the cut-off's
own system cycle; one that is bad is refused and counted at every cut-off, and the last good set is used. A follower's own
period is ignored (R127). -/
def State.takeSet (s : State) (c t : Nat) : State × Option PatSet :=
  let v := s.convOf c
  let late := v.fresh && !beforeCycle v.comAt t
  match (if late then v.prev else v.com) with
  | none => (s, none)
  | some p =>
    let bad := if s.get Fld.EDG_CNV_CFG_SYNC c = 1 then false else p.bad p.period
    if bad then
      (((s.bump Fld.EDG_CNV_CNT_REFUSED c).set Fld.EDG_CNV_STATUS_REFUSED c 1).setConv c { v with fresh := late }, v.good)
    else (s.setConv c { v with fresh := late, good := some p }, some p)

/-- Legs that take patterns at a cut-off: admitted, in service, and not held in SAFE or LATCHED (R156, R484). -/
def State.legTakes (s : State) (n : Nat) : Bool :=
  s.admitted n && !s.legOut n && (s.legState n == 1 || s.legState n == 2)

/-- The PATTERN blocks of a period, one on each bus with a leg that takes it (R122); one that still waits for the same
boundary is replaced. -/
def State.placePattern (s : State) (c cutoff bound : Nat) (p : PatSet) : State :=
  (List.range 16).foldl (fun s b =>
    let legs := p.legs.filter (fun l => l.leg / 16 == b)
    if legs.isEmpty then s
    else
      let v := s.busOf b
      let blk : PatBlk := { conv := c, dmask := dmaskOf b (legs.map LegPat.leg), cutoff := cutoff, bound := bound,
                            period := p.period, legs := legs }
      s.setBus b { v with pats := v.pats.filter (fun q => !(q.conv == c && q.bound == bound)) ++ [blk] }) s

/-- Legs that leave the DMASK at this cut-off because they are OUT are sent ALL_OFF (R484). -/
def State.cutOutLegs (s : State) (c : Nat) : State :=
  let v := s.convOf c
  s.sendSafe (v.dmask.filter s.legOut) 0

/-- The force that governs a period: the last write of FORCE that applies from its boundary, else the one in force
(R132). -/
def forceFor (q : List (Nat × Nat)) (force bound : Nat) : Nat :=
  match (q.filter (fun x => decide (x.1 ≤ bound))).getLast? with
  | some x => x.2
  | none => force

/-- Build the pattern of the period that begins at a boundary (R122, R126, R132). -/
def State.buildPeriod (s : State) (c t bound period : Nat) (p : PatSet) : State :=
  let v := s.convOf c
  let fitted := p.legs.map (clampLeg period)
  let mp := (s.boundValues 0x0011 c 0x10 0x0A bound (s.get Fld.EDG_CNV_PROT_MINPULSE c)).2
  let clamped := fitted.map (fun x => minPulse period mp x.1)
  let s := if fitted.any Prod.snd || clamped.any Prod.snd then s.set Fld.EDG_CNV_STATUS_CLAMP c 1 else s
  let s := s.cutOutLegs c
  let raw := (clamped.map Prod.fst).filter (fun l => s.legTakes l.leg)
  let pat : PatSet := { period := period, legs := raw.map (forceLeg (forceFor v.forceQ v.force bound)) }
  let s := s.placePattern c t bound pat
  s.setConv c { s.convOf c with
    built := v.built ++ [{ bound := bound, pat := pat, raw := raw }]
    dmask := raw.map LegPat.leg }

/-- The next period of a converter: its boundary, its length and the boundary after it where that is known. FREE, the
set's own period (R121); FOLLOW, the leader's (R127, R128). -/
def State.nextPeriod (s : State) (c b : Nat) (p : PatSet) : Nat × Nat × Option Nat :=
  if s.get Fld.EDG_CNV_CFG_SYNC c ≠ 1 then (b, p.period, some (b + p.period))
  else
    let leader := s.get Fld.EDG_CNV_CFG_LEADER c
    let off := s.get Fld.EDG_CNV_OFFSET_OFFSET c
    let x : Option (Nat × Nat) := match (s.convOf c).periods.getLast? with
      | some q => s.followPlan leader off q.bound q.pat.period (s.convOf c).orph
      | none => s.followNext leader off (b - 1)
    match x with
    | some (b', q) => (b', q, some (b' + q))
    | none => (b, p.period, some (b + p.period))

/-- The cut-off of the next period of a converter (R122, R124). -/
def State.cutoff (s : State) (c t : Nat) : State :=
  let s := s.scheduleStart c
  let v := s.convOf c
  if (s.cnvState c ≠ cvWait && s.cnvState c ≠ cvRun) || s.get Fld.EDG_CNV_CFG_SYNC c == 2 then s
  else match v.nextB with
    | none => s
    | some b =>
      match s.takeSet c t with
      | (s, none) => s.setConv c { s.convOf c with nextB := none, firstAt := none }
      | (s, some p) =>
        let p := match (s.boundValues 0x0011 c 0x10 0x0A b 0).1 with
          | some period => p.scaled period
          | none => p
        let n := s.nextPeriod c b p
        let s := s.buildPeriod c t n.1 n.2.1 p
        s.setConv c { s.convOf c with
          nextB := n.2.2
          orph := s.get Fld.EDG_CNV_CFG_SYNC c == 1 && s.cnvState (s.get Fld.EDG_CNV_CFG_LEADER c) != cvRun }

/-- A Twill EDGE_REQ of a converter (R127): one period with its boundary at the fire time plus LEAD, refused where that
falls before the end of the running period. -/
def State.edgeRequest (s : State) (c t : Nat) : State :=
  let v := s.convOf c
  let b := t + s.get Fld.EDG_CNV_LEAD_LEAD c
  let busyTo := (v.periods.map (fun p => p.bound + p.pat.period)).foldl Nat.max 0
  if s.get Fld.EDG_CNV_CFG_SYNC c ≠ 2 || (s.cnvState c ≠ cvWait && s.cnvState c ≠ cvRun) || v.firstAt.isNone then s
  else if b < busyTo then s.set Fld.EDG_CNV_STATUS_REQOVL c 1
  else match s.takeSet c t with
    | (s, none) => s
    | (s, some p) =>
      let p := match (s.boundValues 0x0011 c 0x10 0x0A b 0).1 with
        | some period => p.scaled period
        | none => p
      s.buildPeriod c t b p.period p

/-! ### Boundary -/

/-- The drain of R139 ends at a boundary: OFF with legs ALL_OFF; a held ENABLE then starts it again (R481). -/
def State.drainEnd (s : State) (c : Nat) : State :=
  let v := s.convOf c
  let s := s.setConv c { v with drain := false, enHeld := false, cur := none, built := [], nextB := none,
                                firstAt := none, fresh := false }
  let s := s.cnvGo c cvOff
  if v.enHeld && s.cnvOn c then s.convEnable c else s

/-- A converter period begins (R121): its force takes effect (R132), and it is counted. -/
def State.beginPeriod (s : State) (c : Nat) (p : Period) (rest : List Period) : State :=
  let v := s.convOf c
  let force := forceFor v.forceQ v.force p.bound
  let s := s.setConv c { v with
    cur := some p, built := rest, last := some (p.bound, p.pat.period), force := force
    forceQ := v.forceQ.filter (fun x => decide (p.bound < x.1)) }
  let s := s.setFlag Fld.EDG_CNV_STATUS_FORCED c (force != 0)
  let s := (s.set64 Fld.EDG_CNV_BOUND_LO_BOUND Fld.EDG_CNV_BOUND_HI_BOUND c p.bound).inc Fld.EDG_CNV_PERIODS_COUNT c
  s.cnvGo c cvRun

/-- A boundary of a converter: a drain ends, a DISABLE that waited below a force that ends here takes effect (R134, R139),
or the next period begins. -/
def State.boundary (s : State) (c : Nat) : State :=
  let v := s.convOf c
  if s.cnvState c = cvDraining then s.drainEnd c
  else match v.built with
    | [] => s.setConv c { v with cur := none }
    | p :: rest =>
      if v.drain && forceFor v.forceQ v.force p.bound == 0 then
        (((s.sendSafe (s.convLegs c) 0).setConv c { v with force := 0, forceQ := [] }).set
          Fld.EDG_CNV_STATUS_FORCED c 0).drainEnd c
      else s.beginPeriod c p rest

/-! ### Register writes of a converter -/

/-- A trip input stands at its active level (R137). -/
def State.tripActive (s : State) (n : Nat) : Bool :=
  s.flag Fld.EDG_TRIP_STATUS_LEVEL n == s.flag Fld.EDG_TRIP_CFG_POL n

/-- Clear the latched trips whose inputs are inactive; the converter then waits in SAFE (R134, R136). -/
def State.clrTrip (s : State) (c : Nat) : State :=
  let keep := (List.range 16).foldl (fun m n =>
    if (s.get Fld.EDG_CNV_TRIPSRC_TRIPS c).testBit n && s.tripActive n then setBit m n else m) 0
  let s := s.set Fld.EDG_CNV_TRIPSRC_TRIPS c keep
  if keep = 0 then s.convReleased c else s

/-- A write of EDG_CNV_CTRL (Table 7.5, R131, R59): by the owner at kernel level; DISABLE wins over ENABLE. -/
def State.writeCnvCtrl (s : State) (a : Acc) (c v : Nat) : State :=
  if !s.hasRec 0x0011 c || !isKernel a (s.cnvOwner c) || decide (16 ≤ v) then s.busErr
  else if v.testBit 0 && !v.testBit 1 && !s.cnvOn c then s.busErr
  else
    let s := if v.testBit 3 then s.clrTrip c else s
    let s :=
      if v.testBit 1 then (if v.testBit 2 then s.convDisableNow c else s.convDisable c)
      else if v.testBit 0 && s.armed (s.cnvOwner c) then s.convEnable c else s
    s.ok

/-- The patterns already built for boundaries that a new force governs are shaped by it and sent again (R132). -/
def State.forceBuilt (s : State) (c t : Nat) : State :=
  let v := s.convOf c
  let shape (p : Period) : Period :=
    { p with pat := { p.pat with legs := p.raw.map (forceLeg (forceFor v.forceQ v.force p.bound)) } }
  let again := v.built.filter (fun p => decide (t + 133120 ≤ p.bound))
  let s := s.setConv c { v with built := v.built.map shape }
  again.foldl (fun s p => s.placePattern c t p.bound (shape p).pat) s

/-- A write of EDG_CNV_FORCE (R131, R132): it takes effect at the first boundary at least 133,120 FTU later. -/
def State.writeCnvForce (s : State) (a : Acc) (c v : Nat) : State :=
  if !s.hasRec 0x0011 c || !isKernel a (s.cnvOwner c) || decide (3 ≤ v) then s.busErr
  else
    let s := s.setConv c { s.convOf c with forceQ := (s.convOf c).forceQ ++ [(a.t + 133120, v)] }
    ((s.forceBuilt c a.t).set Fld.EDG_CNV_FORCE_FORCE c v).ok

/-- A write of EDG_CNV_COMMIT (R123, R131): by the owning core at either level. -/
def State.writeCnvCommit (s : State) (a : Acc) (c v : Nat) : State :=
  if !s.hasRec 0x0011 c || !isCore a (s.cnvOwner c) || decide (2 ≤ v) then s.busErr
  else if v = 1 then ((s.convCommit c a.t).scheduleStart c).ok
  else s.ok

/-! ### Local outputs -/

/-- A local output's shadows as a set of one channel (R130). -/
def State.locShadow (s : State) (k : Nat) : PatSet :=
  { period := s.get Fld.EDG_LOC_PERIOD_SH_PERIOD k
    legs := [{ leg := k, mode := 0, on := s.get Fld.EDG_LOC_ON_SH_OFFSET k, off := s.get Fld.EDG_LOC_OFF_SH_OFFSET k }] }

/-- A set of a local output is committed (R123, R130); the first after ENABLE schedules the start (R127). -/
def State.locCommitSet (s : State) (k t : Nat) (p : PatSet) : State :=
  let v := s.locOf k
  s.setLoc k { v with
    com := some p, fresh := true, comAt := t, prev := if v.fresh then v.prev else v.com
    firstAt := match v.firstAt with
      | some x => some x
      | none => if v.state = cvWait then some t else none }

/-- The first boundary of a local output after its first commit (R127, R130): FREE, the first bus-cycle start at or after
it; FOLLOW, its leader's first boundary at or after it. -/
def State.locStart (s : State) (k : Nat) : State :=
  let v := s.locOf k
  match v.firstAt, v.nextB with
  | some t, none =>
    match s.get Fld.EDG_LOC_CFG_SYNC k with
    | 0 => s.setLoc k { v with nextB := some (startBound t sysCycle) }
    | 1 =>
      match s.followFirst (s.get Fld.EDG_LOC_CFG_LEADER k) (s.get Fld.EDG_LOC_OFFSET_OFFSET k) sysCycle t with
      | some x => s.setLoc k { v with nextB := some x.1 }
      | none => s
    | _ => s
  | _, _ => s

def State.locCommit (s : State) (k t : Nat) : State := (s.locCommitSet k t (s.locShadow k)).locStart k

/-- The set that the cut-off one system cycle before a boundary takes (R130), and whether a commit still waits. -/
def State.locTake (s : State) (k b : Nat) : Option PatSet × Bool :=
  let v := s.locOf k
  let late := v.fresh && !beforeCycle v.comAt (b - sysCycle)
  match (if late then v.prev else v.com) with
  | none => (none, late)
  | some p => (if s.get Fld.EDG_LOC_CFG_SYNC k ≠ 1 && p.bad p.period then v.good else some p, late)

/-- The active level of a local output at a time, by its pattern (R130), as the trip windows of R137 see it. -/
def State.locActiveAt (s : State) (k t : Nat) : Bool :=
  match (s.locOf k).cur with
  | some p => p.pat.legs.any (fun l => l.onAt p.pat.period (t - p.bound))
  | none => (s.locOf k).active

/-- The period of a local output begins at a boundary with a set and a length (R130); a change of its level there is an
edge for the ramps that follow it (R222). -/
def State.locPlace (s : State) (k b period : Nat) (p : PatSet) (late : Bool) : State :=
  let v := s.locOf k
  let was := s.locActiveAt k (b - 1)
  let x := s.boundValues 0x0040 k 0x0C 0x06 b (s.get Fld.EDG_LOC_PROT_MINPULSE k)
  let force := forceFor v.forceQ v.force b
  let legs := p.legs.map (fun l =>
    if force = 0 then (minPulse period x.2 (clampLeg period l).1).1 else { l with mode := 2 })
  let now := legs.any (fun l => l.onAt period 0)
  let s := if was == now then s else if now then s.rampsStart k b else s.rampsEnd k
  s.setLoc k { v with
    fresh := late, good := some p, state := cvRun, driven := true, force := force
    forceQ := v.forceQ.filter (fun x => decide (b < x.1))
    cur := some { bound := b, pat := { period := period, legs := legs } }
    active := now }

/-- The end of a local output's drain (R139): OFF at the inactive level. -/
def State.locDrainEnd (s : State) (k : Nat) : State :=
  let v := s.locOf k
  let s := (s.rampsEnd k).setLoc k { v with
    state := cvOff, drain := false, enHeld := false, cur := none, active := false
    fresh := false, firstAt := none, nextB := none }
  if v.enHeld && s.locOn k then s.locEnable k else s

/-- The next period of a local output: its length, and the boundary after it (R121, R127, R128). -/
def State.locNext (s : State) (k b : Nat) (p : PatSet) : Nat × Nat :=
  if s.get Fld.EDG_LOC_CFG_SYNC k ≠ 1 then (p.period, b + p.period)
  else match s.followNext (s.get Fld.EDG_LOC_CFG_LEADER k) (s.get Fld.EDG_LOC_OFFSET_OFFSET k) (b - 1) with
    | some (_, q) => (q, b + q)
    | none => (p.period, b + p.period)

/-- The next boundary of a local output, on its leader's grid where it follows (R127, R128). -/
def State.locNextBound (s : State) (k : Nat) : Option Nat :=
  match (s.locOf k).nextB, (s.locOf k).cur with
  | some b, some c =>
    if s.get Fld.EDG_LOC_CFG_SYNC k ≠ 1 then some b
    else match s.followNext (s.get Fld.EDG_LOC_CFG_LEADER k) (s.get Fld.EDG_LOC_OFFSET_OFFSET k) c.bound with
      | some x => some x.1
      | none => some b
  | b, _ => b

/-- The boundary of a local output (R121, R130): a drain ends at the inactive level; the period in progress of an output
held to complete it ends; else the next period begins, at its boundary and not before. -/
def State.locBoundary (s : State) (k t : Nat) : State :=
  let s := s.locStart k
  let v := s.locOf k
  if v.state = cvDraining then s.locDrainEnd k
  else if v.state = cvSafe || v.state = cvTripped || v.state = cvOff || s.get Fld.EDG_LOC_CFG_SYNC k = 2 then
    (s.rampsEnd k).setLoc k { v with cur := none, active := false }
  else match s.locNextBound k with
    | none => s
    | some b =>
      if t < b then s
      else if v.drain && forceFor v.forceQ v.force b == 0 then s.locDrainEnd k
      else match s.locTake k b with
        | (none, late) => (s.rampsEnd k).setLoc k { v with fresh := late, nextB := none, firstAt := none, cur := none, active := false }
        | (some p, late) =>
          let p := match (s.boundValues 0x0040 k 0x0C 0x06 b 0).1 with
            | some period => p.scaled period
            | none => p
          let n := s.locNext k b p
          let s := s.locPlace k b n.1 p late
          s.setLoc k { s.locOf k with nextB := some n.2 }

/-- A Twill EDGE_REQ of a local output places one period at the fire time (R130). -/
def State.locRequest (s : State) (k t : Nat) : State :=
  let v := s.locOf k
  let busyTo := match v.cur with
    | some p => p.bound + p.pat.period
    | none => 0
  if s.get Fld.EDG_LOC_CFG_SYNC k ≠ 2 || (v.state ≠ cvWait && v.state ≠ cvRun) || v.firstAt.isNone then s
  else if t < busyTo then s
  else match s.locTake k t with
    | (none, _) => s
    | (some p, late) => s.locPlace k t p.period p late

/-- The pin level of a local output at a time: its active level is that of POL (R130). -/
def State.locLevelAt (s : State) (k t : Nat) : Bool :=
  if s.flag Fld.EDG_LOC_CFG_POL k then s.locActiveAt k t else !s.locActiveAt k t

def State.locClrTrip (s : State) (k : Nat) : State :=
  let v := s.locOf k
  let keep := (List.range 16).foldl (fun m n =>
    if v.trips.testBit n && s.tripActive n then setBit m n else m) 0
  (s.setLoc k { v with trips := keep }).locReleased k

/-- A write of EDG_LOC_CTRL (Table 7.6, R130, R131): COMMIT by the owner at either level, the rest at kernel level. -/
def State.writeLocCtrl (s : State) (a : Acc) (k v : Nat) : State :=
  if !s.hasRec 0x0040 k || !isCore a (s.locOwner k) || decide (32 ≤ v) then s.busErr
  else if v % 16 ≠ 0 && !a.kernel then s.busErr
  else if v.testBit 0 && !v.testBit 1 && !s.locOn k then s.busErr
  else
    let s := if v.testBit 3 then s.locClrTrip k else s
    let s :=
      if v.testBit 1 then (if v.testBit 2 then s.locDisableNow k else s.locDisable k)
      else if v.testBit 0 && s.armed (s.locOwner k) then s.locEnable k else s
    let s := if v.testBit 4 then s.locCommit k a.t else s
    s.ok

/-- A write of EDG_LOC_FORCE (R131, R132, R133): no effect and no error where FORCE_LOCK is 1. -/
def State.writeLocForce (s : State) (a : Acc) (k v : Nat) : State :=
  if !s.hasRec 0x0040 k || !isKernel a (s.locOwner k) || decide (3 ≤ v) then s.busErr
  else if s.flag Fld.EDG_LOC_CFG_FORCE_LOCK k then s.ok
  else
    let s := s.setLoc k { s.locOf k with forceQ := (s.locOf k).forceQ ++ [(a.t + 133120, v)] }
    (s.set Fld.EDG_LOC_FORCE_FORCE k v).ok

/-! ### Trips -/

/-- A trip input changes level (R137): its count restarts, and an input no longer active is not asserted. -/
def State.tripChange (s : State) (n t : Nat) (level : Bool) : State :=
  if s.flag Fld.EDG_TRIP_STATUS_LEVEL n = level then s
  else (s.setFlag Fld.EDG_TRIP_STATUS_LEVEL n level).setTrip n { since := t }

/-- The window of a WINDOW trip is closed at a time: its output stands at WINPOL (R137). -/
def State.inWindow (s : State) (n t : Nat) : Bool :=
  s.locLevelAt (s.get Fld.EDG_TRIP_CFG_WIN n) t == s.flag Fld.EDG_TRIP_CFG_WINPOL n

/-- The input has been active for its count at a time (R137): FILT consecutive system cycles, or 2 outside the window. The
starts of the cycles are open (R523), so k cycles take at least k - 1 of the shortest. -/
def State.tripDue (s : State) (n t : Nat) : Bool :=
  let from? := (s.tripOf n).since
  s.tripActive n &&
    (if s.flag Fld.EDG_TRIP_CFG_MODE n then
      decide (from? + 63 ≤ t) && !s.inWindow n t && !s.inWindow n (t - 63)
    else decide (from? + 63 * (s.get Fld.EDG_TRIP_CFG_FILT n - 1) ≤ t))

/-- An input that stays active counts as asserted again after a later window: a later period of its window output. -/
def State.tripAgain (s : State) (n : Nat) : Bool :=
  s.flag Fld.EDG_TRIP_CFG_MODE n &&
    (match (s.locOf (s.get Fld.EDG_TRIP_CFG_WIN n)).cur with
      | some p => decide ((s.tripOf n).assertAt < p.bound)
      | none => false)

/-- A converter is TRIPPED at rank 2 (R134, R137). -/
def State.tripConv (s : State) (c n : Nat) : State :=
  let s := s.setBitOf Fld.EDG_CNV_TRIPSRC_TRIPS c n true
  (s.set Fld.EDG_CNV_STATUS_TRIP c 1).convSafe c cvTripped

def State.tripLoc (s : State) (k n : Nat) : State :=
  let s := s.locSafe k cvTripped
  s.setLoc k { s.locOf k with trips := setBit (s.locOf k).trips n }

/-- A trip counts as asserted (R137): every converter and local output whose TRIPMASK has its bit trips, an F1 is raised
and COUNT counts. The fault acts at rank 2 alone, so no FLT_CNV latch is set (Table 29.1). -/
def State.tripAssert (s : State) (n t : Nat) : State :=
  let v := s.tripOf n
  if !s.tripDue n t || (v.asserted && !s.tripAgain n) then s
  else
    let s := s.setTrip n { v with asserted := true, assertAt := t }
    let s := (s.set Fld.EDG_TRIP_STATUS_HIT n 1).bump Fld.EDG_TRIP_STATUS_COUNT n
    let s := (s.allConvs.filter (fun c => (s.get Fld.EDG_CNV_PROT_TRIPMASK c).testBit n)).foldl
      (fun s c => s.tripConv c n) s
    let s := (s.allLocs.filter (fun k => (s.get Fld.EDG_LOC_PROT_TRIPMASK k).testBit n)).foldl
      (fun s k => s.tripLoc k n) s
    s.fault 1 blkEDG n (causeOf whyTrip)

/-! ### Meanings -/

/-- EDG_CNV_COMMIT (R123). -/
def execEdgCnvCommit (a : Acc) (c : Fin 256) (s : State) : Out := .next ((s.touch a.t).writeCnvCommit a c 1)

/-- CONVERTER_CUTOFF (R122). -/
def execConverterCutoff (t : Nat) (c : Fin 256) (s : State) : Out := .next ((s.touch t).cutoff c t)

/-- CNV_ENABLE (R136). -/
def execCnvEnable (a : Acc) (c : Fin 256) (s : State) : Out := .next ((s.touch a.t).writeCnvCtrl a c 1)

/-- CNV_DISABLE (R139). -/
def execCnvDisable (a : Acc) (c : Fin 256) (s : State) : Out := .next ((s.touch a.t).writeCnvCtrl a c 2)

/-- CNV_DISABLE_IMMEDIATE (R135). -/
def execCnvDisableImmediate (a : Acc) (c : Fin 256) (s : State) : Out := .next ((s.touch a.t).writeCnvCtrl a c 6)

/-- CNV_CLRTRIP (R134). -/
def execCnvClrtrip (a : Acc) (c : Fin 256) (s : State) : Out := .next ((s.touch a.t).writeCnvCtrl a c 8)

/-- CNV_FORCE_WRITE (R132). -/
def execCnvForceWrite (a : Acc) (c : Fin 256) (v : Word) (s : State) : Out :=
  .next ((s.touch a.t).writeCnvForce a c v.toNat)

/-- LOC_COMMIT (R130). -/
def execLocCommit (a : Acc) (k : Fin 32) (s : State) : Out := .next ((s.touch a.t).writeLocCtrl a k 16)

/-- LOCAL_OUTPUT_BOUNDARY (R130). -/
def execLocalOutputBoundary (t : Nat) (k : Fin 32) (s : State) : Out := .next ((s.touch t).locBoundary k t)

/-- LOC_ENABLE (R130). -/
def execLocEnable (a : Acc) (k : Fin 32) (s : State) : Out := .next ((s.touch a.t).writeLocCtrl a k 1)

/-- LOC_DISABLE (R139). -/
def execLocDisable (a : Acc) (k : Fin 32) (s : State) : Out := .next ((s.touch a.t).writeLocCtrl a k 2)

/-- LOC_DISABLE_IMMEDIATE (R135). -/
def execLocDisableImmediate (a : Acc) (k : Fin 32) (s : State) : Out := .next ((s.touch a.t).writeLocCtrl a k 6)

/-- LOC_CLRTRIP (R134). -/
def execLocClrtrip (a : Acc) (k : Fin 32) (s : State) : Out := .next ((s.touch a.t).writeLocCtrl a k 8)

/-- LOC_FORCE_WRITE (R133). -/
def execLocForceWrite (a : Acc) (k : Fin 32) (v : Word) (s : State) : Out :=
  .next ((s.touch a.t).writeLocForce a k v.toNat)

/-- TRIP_INPUT_CHANGE (R137). -/
def execTripInputChange (t : Nat) (n : Fin 16) (level : Bool) (s : State) : Out :=
  .next ((s.touch t).tripChange n t level)

/-- TRIP_ASSERTED (R137). -/
def execTripAsserted (t : Nat) (n : Fin 16) (s : State) : Out := .next ((s.touch t).tripAssert n t)

end Sys2Proof.Machine
end

