-- ==== Sys2Proof/Machine/Conversion.lean ====
section
/-!
DEFINITION. Sys2Proof/Machine/Conversion.lean: SAR cores (R201 to R212), their FIFO and DMA ring (R207 to R209), and
leg-sense channels with their latches (R213 to R215), with disables (R217) and writers (R219).
-/

namespace Sys2Proof.Machine

/-! ### SAR cores -/

def adOff : Nat := 0
def adIdle : Nat := 1
def adBusy : Nat := 2
def adDrain : Nat := 3

/-- The even core of a pair, for either core of an interleaved pair (R211). -/
def State.adcLead (s : State) (k : Nat) : Nat :=
  if k % 2 = 1 && s.flag Fld.ADC_CORE_CFG_INTLV (k - 1) then k - 1 else k

/-- Core k reaches input i (R201). -/
def adcReach (k i : Nat) : Bool := i / 8 == k / 2

/-- The sequence shadows as a running sequence (R206). -/
def State.adcShadow (s : State) (k : Nat) : List (Nat × Nat) :=
  (List.range (s.get Fld.ADC_SEQ_LEN_LEN k)).map (fun e =>
    (s.get Fld.ADC_SEQ_E_INPUT (16 * k + e), s.get Fld.ADC_SEQ_E_COUNT (16 * k + e)))

/-- The offset and gain of a core, and of an input (R205). -/
def State.adcCoreCorr (s : State) (k : Nat) : Int × Nat :=
  (sgn 16 (s.get Fld.ADC_CORE_OFS_OFS k), s.get Fld.ADC_CORE_GAIN_GAIN k)
def State.adcInCorr (s : State) (i : Nat) : Int × Nat := (sgn 16 (s.get Fld.ADC_IN_OFS_OFS i), s.get Fld.ADC_IN_GAIN_GAIN i)

/-- A dropped start (R204). -/
def State.adcOverrun (s : State) (k : Nat) : State :=
  (s.bump Fld.ADC_CNT_OVERRUN k).event Fld.ADC_CORE_STATUS_OVERRUN k (545 + 2 * k)

/-- A start with its trigger time (R203, R204, R206, R211); the sequence keeps the values it is started with (R216). -/
def State.adcStart (s : State) (k trig : Nat) : State :=
  if s.adcLead k ≠ k then s.event Fld.ADC_CORE_STATUS_IGNSTART k (545 + 2 * k)
  else if s.get Fld.ADC_CORE_STATUS_STATE k = adBusy then s.adcOverrun k
  else if s.get Fld.ADC_CORE_STATUS_STATE k ≠ adIdle || (s.adcShadow k).isEmpty then s
  else
    let v := s.adcOf k
    (s.setAdc k { v with seq := s.adcShadow k, own := s.adcCoreCorr k, other := s.adcCoreCorr (k + 1)
                         ins := (s.adcShadow k).map (fun e => s.adcInCorr e.1), ent := 0, rep := 0, inst := 0, odd := false, first := true,
                         trigAt := trig }).set Fld.ADC_CORE_STATUS_STATE k adBusy

/-- The sampling instant of the conversion in progress (R202, R211). -/
def State.adcInstant (s : State) (k : Nat) : Nat :=
  let v := s.adcOf k
  let base := v.trigAt + 256 + 4096 * v.inst
  if v.odd then ((base + 2048 : Nat) + sgn 8 (s.get Fld.ADC_SKEW_SKEW k)).toNat else base

/-- The corrected result of a raw code and whether it saturates (R205), with the offsets and gains of core and input and a
gain trim in steps of 2^-20 (R212). -/
def adcCorrect (core input : Int × Nat) (trim : Int) (raw : Nat) : Nat × Bool :=
  let x : Int := 16 * (raw : Int) - core.1 - input.1
  let y := roundDiv (x * core.2 * input.2 * (1048576 + trim)) (68719476736 * 1048576)
  if y < 0 then (0, true) else if 65535 < y then (65535, true) else (y.toNat, false)

/-- The corrected result of the conversion in progress: the odd core of a pair also applies its gain trim (R212). -/
def State.adcResult (s : State) (k raw : Nat) : Nat × Bool :=
  let v := s.adcOf k
  let i := v.ins.getD v.ent (0, 65536)
  if v.odd then adcCorrect v.other i (sgn 16 (s.get Fld.ADC_SKEW_GTRIM k)) raw else adcCorrect v.own i 0 raw

/-- The entries of a DMA ring (R208). -/
def State.ringSize (s : State) (k : Nat) : Nat := 2 ^ s.get Fld.ADC_DMA_SIZE_LOG2 k

def State.noteLevel (s : State) (k : Nat) : State :=
  s.set Fld.ADC_CORE_STATUS_LEVEL k (s.adcOf k).fifo.length

/-- Move results from the FIFO into the ring while it has room (R208); half full raises the core's first source. -/
def State.adcFlush (k : Nat) : Nat → State → State
  | 0, s => s
  | fuel + 1, s =>
    let v := s.adcOf k
    let wr := s.get Fld.ADC_DMA_WR_INDEX k
    let nxt := (wr + 1) % s.ringSize k
    match v.fifo with
    | [] => s
    | r :: rest =>
      if nxt = s.get Fld.ADC_DMA_RD_INDEX k % s.ringSize k then s
      else
        let base := s.get Fld.ADC_DMA_BASE_BASE k
        let s := s.setBytes (base + 8 * wr) (leBytes 4 r.1 ++ leBytes 4 r.2)
        let s := (s.setAdc k { v with fifo := rest }).set Fld.ADC_DMA_WR_INDEX k nxt
        let used := (nxt + s.ringSize k - s.get Fld.ADC_DMA_RD_INDEX k % s.ringSize k) % s.ringSize k
        let s := if used = s.ringSize k / 2 then s.raise (544 + 2 * k) else s
        State.adcFlush k fuel s

/-- The ring takes what waits where the core uses DMA. -/
def State.adcDma (s : State) (k : Nat) : State :=
  if s.flag Fld.ADC_CORE_CFG_DMA k then (s.adcFlush k 64).noteLevel k else s.noteLevel k

/-- Store a result (R207, R209): a full FIFO discards it, and the next stored result carries OVF. -/
def State.adcStore (s : State) (k w0 stamp : Nat) : State :=
  let v := s.adcOf k
  if 64 ≤ v.fifo.length then
    ((s.bump Fld.ADC_CNT_OVF k).setAdc k { v with ovf := true }).event Fld.ADC_CORE_STATUS_OVF k (545 + 2 * k)
  else
    let w := w0 + (if v.ovf then 2 ^ 29 else 0)
    let s := (s.setAdc k { v with fifo := v.fifo ++ [(w, stamp % 4294967296)], ovf := false }).adcDma k
    if s.get Fld.ADC_CORE_CFG_WMARK k ≤ (s.adcOf k).fifo.length then s.raise (544 + 2 * k) else s

/-- Word 0 of a result (R207). -/
def adcWord (res input ent : Nat) (first tail sat : Bool) : Nat :=
  res + input * 65536 + ent * 4194304 + (if first then 2 ^ 26 else 0) + (if tail then 2 ^ 27 else 0)
    + (if sat then 2 ^ 28 else 0) + 2 ^ 31

/-- One matching step of a value held within a bound (R212). -/
def trimStep (b : Int) (z : Int) : Trim → Int
  | .hold => z
  | .up => clampInt (-b) b (z + 1)
  | .down => clampInt (-b) b (z - 1)

/-- The trims and MATCHED of a pair on an entry whose COUNT is at least 16 (R212). `pair` says of a pair of conversions
whether its residual skew is within 1 FTU and its gain mismatch within 0.005 %; none while the input is quiet, when trims
hold and MATCHED stays. -/
def State.adcTrim (s : State) (k count : Nat) (skew gain : Trim) (pair : Option Bool) : State :=
  if !s.flag Fld.ADC_CORE_CFG_INTLV k || count < 16 then s
  else match pair with
    | none => s
    | some good =>
      let sk := trimStep 127 (sgn 8 (s.get Fld.ADC_SKEW_SKEW k)) skew
      let gt := trimStep 1048 (sgn 16 (s.get Fld.ADC_SKEW_GTRIM k)) gain
      let n := if good then Nat.min 65536 ((s.adcOf k).pairs + 1) else 0
      let s := (s.set Fld.ADC_SKEW_SKEW k (enc 8 sk)).set Fld.ADC_SKEW_GTRIM k (enc 16 gt)
      (s.setAdc k { s.adcOf k with pairs := n }).setFlag Fld.ADC_CORE_STATUS_MATCHED k (n == 65536)

/-- The STATE of a core, and of the odd core of its pair with it (Table 11.1). -/
def State.adcGo (s : State) (k st : Nat) : State :=
  let s := s.set Fld.ADC_CORE_STATUS_STATE k st
  if s.flag Fld.ADC_CORE_CFG_INTLV k then s.set Fld.ADC_CORE_STATUS_STATE (k + 1) st else s

/-- The conversion after this one, if the sequence goes on. -/
def Adc.advance (v : Adc) (intlv : Bool) : Adc :=
  let count := (v.seq.getD v.ent (0, 1)).2
  let endEnt := decide (count ≤ v.rep + 1)
  let odd := intlv && !v.odd && !endEnt
  { v with
    first := false, odd := odd
    inst := if odd then v.inst else v.inst + 1
    rep := if endEnt then 0 else v.rep + 1
    ent := if endEnt then v.ent + 1 else v.ent }

/-- The engines whose VIN or ICH has just updated take the product of the codes held (R245, R253). -/
def State.mpptSeen (s : State) (ich : Bool) (n : Nat) : State :=
  ((List.range 16).filter (fun m => s.hasRec 0x0072 m &&
    s.get (if ich then Fld.MPPT_CFG_ICH else Fld.MPPT_CFG_VIN) m == n)).foldl (fun s m =>
      let v := s.mpptOf m
      let p := (s.get Fld.ADC_IN_LAST_RESULT (s.get Fld.MPPT_CFG_VIN m) : Int)
        * sgn 24 (s.get Fld.LSN_LAST_VALUE (s.get Fld.MPPT_CFG_ICH m))
      s.setMppt m { v with
        prods := (s.tb, p) :: v.prods
        vinAt := if ich then v.vinAt else some s.tb, ichAt := if ich then some s.tb else v.ichAt }) s

/-- A conversion ends (R202, R205, R207, R210, R217): its result is corrected, kept as the input's latest and stored. -/
def State.adcDone (s : State) (k raw : Nat) (skew gain : Trim) (pair : Option Bool) : State :=
  let st := s.get Fld.ADC_CORE_STATUS_STATE k
  if st ≠ adBusy && st ≠ adDrain then s
  else
    let v := s.adcOf k
    let e := v.seq.getD v.ent (0, 1)
    let core := if v.odd then k + 1 else k
    let stamp := s.adcInstant k
    let y := s.adcResult k raw
    let nv := v.advance (s.flag Fld.ADC_CORE_CFG_INTLV k)
    let last := decide (nv.seq.length ≤ nv.ent)
    let tail := last || st == adDrain
    let s := (s.set Fld.ADC_IN_LAST_RESULT e.1 y.1).set Fld.ADC_IN_LAST_CORE e.1 core
    let s := (s.set Fld.ADC_IN_STAMP_STAMP e.1 stamp).mpptSeen false e.1
    let s := (s.setAdc k nv).adcStore k (adcWord y.1 e.1 v.ent v.first tail y.2) stamp
    let s := if y.2 then s.event Fld.ADC_CORE_STATUS_SAT k (545 + 2 * k) else s
    let s := if v.odd then s.adcTrim k e.2 skew gain pair else s
    if st = adDrain then
      let held := (s.adcOf k).enHeld
      (s.setAdc k { s.adcOf k with seq := [], enHeld := false }).adcGo k (if held then adIdle else adOff)
    else if last then
      (s.event Fld.ADC_CORE_STATUS_DONE k (544 + 2 * k)).set Fld.ADC_CORE_STATUS_STATE k adIdle
    else s

/-- ENABLE of a core, and of both cores of a pair (Table 11.1, R481). -/
def State.adcEnable (s : State) (k : Nat) : State :=
  if s.adcLead k ≠ k then s
  else if s.get Fld.ADC_CORE_STATUS_STATE k = adDrain then s.setAdc k { s.adcOf k with enHeld := true }
  else if s.get Fld.ADC_CORE_STATUS_STATE k = adOff then
    s.adcGo k adIdle
  else s

/-- DISABLE of a core (Table 11.1): the conversion in progress completes; the odd core of a pair accepts none. -/
def State.adcDisable (s : State) (k : Nat) : State :=
  if s.adcLead k ≠ k then s
  else if s.get Fld.ADC_CORE_STATUS_STATE k = adBusy then s.adcGo k adDrain
  else if s.get Fld.ADC_CORE_STATUS_STATE k = adIdle then s.adcGo k adOff
  else s

/-- The access is made by the owner of a core (R219). -/
def State.adcOwns (s : State) (a : Acc) (k : Nat) : Bool :=
  s.hasRec 0x0060 k && isCore a (s.get Fld.ADC_CORE_CFG_OWNER k)

/-- A write of ADC_CORE_CTRL (R203, R217, R219); DISABLE wins. -/
def State.writeAdcCtrl (s : State) (a : Acc) (k v : Nat) : State :=
  if !s.adcOwns a k || decide (8 ≤ v) then s.busErr
  else
    let s :=
      if v.testBit 2 then s.adcDisable k
      else
        let s := if v.testBit 1 then s.adcEnable k else s
        if v.testBit 0 then s.adcStart k a.t else s
    s.ok

/-- A refused sequence write (R206). -/
def State.adcBadLen (s : State) (k : Nat) : State :=
  (s.event Fld.ADC_CORE_STATUS_BADLEN k (545 + 2 * k)).busErr

/-- A write of ADC_SEQ_LEN (R206). -/
def State.writeAdcLen (s : State) (a : Acc) (k v : Nat) : State :=
  if !s.adcOwns a k || decide (32 ≤ v) then s.busErr
  else if v = 0 || decide (16 < v) then s.adcBadLen k
  else (s.set Fld.ADC_SEQ_LEN_LEN k v).ok

/-- A write of a sequence entry (R206). -/
def State.writeAdcEntry (s : State) (a : Acc) (k e v : Nat) : State :=
  let input := bits v 0 6
  let count := bits v 8 9
  if !s.adcOwns a k || v ≠ input + 256 * count || decide (256 < count) then s.busErr
  else if count = 0 || !adcReach k input then s.adcBadLen k
  else ((s.set Fld.ADC_SEQ_E_INPUT (16 * k + e) input).set Fld.ADC_SEQ_E_COUNT (16 * k + e) count).ok

/-- A write of ADC_DMA_RD (R208): results that waited for room follow. -/
def State.writeAdcRd (s : State) (a : Acc) (k v : Nat) : State :=
  if !s.adcOwns a k || decide (4096 ≤ v) then s.busErr
  else ((s.set Fld.ADC_DMA_RD_INDEX k v).adcDma k).ok

/-- A read of ADC_FIFO_DATA (R207): it pops one result and latches its stamp; the debug port pops nothing (R3). -/
def State.readAdcFifo (s : State) (m : Master) (k : Nat) : State :=
  let v := s.adcOf k
  match v.fifo with
  | [] => s.answer 0
  | r :: rest =>
    let s := s.setLatch m .ADC_FIFO_STAMP k r.2
    let s := if m = .debug then s else (s.setAdc k { v with fifo := rest }).noteLevel k
    s.answer r.1

/-- An edge on ADCTRG pin p (R203) starts every core that names it. -/
def State.adcTrigger (s : State) (p t : Nat) (rising : Bool) : State :=
  (List.range 16).foldl (fun s k =>
    let edge := s.get Fld.ADC_CORE_CFG_EDGE k
    if s.get Fld.ADC_CORE_CFG_TRIG k = p + 1 && (edge == 2 || (edge == 0 && rising) || (edge == 1 && !rising))
    then s.adcStart k t else s) s

/-- A Twill ADC_START of core k (R203). -/
def State.adcTwill (s : State) (k t : Nat) : State :=
  if s.adcLead k ≠ k || s.get Fld.ADC_CORE_CFG_TRIG k = 5 then s.adcStart k t else s

/-! ### Leg sense -/

/-- A channel runs: it is in use and not disabled. -/
def State.lsnOn (s : State) (c : Nat) : Bool := s.flag Fld.LSN_CFG_EN c && !(s.lsnOf c).off

/-- The channels that serve leg n, its current channel first (R213). -/
def State.lsnOfLeg (s : State) (n : Nat) : List Nat :=
  (n :: (List.range 128).map (fun j => 256 + j)).filter (fun c => s.flag Fld.LSN_CFG_EN c && s.get Fld.LSN_CFG_LEG c == n)

/-- The corrected value of a sample and whether it saturates (R213). -/
def State.lsnCorrect (s : State) (c : Nat) (raw : Int) : Int × Bool :=
  let v := roundDiv ((16 * raw - sgn 32 (s.get Fld.LSN_OFS_OFS c)) * s.get Fld.LSN_GAIN_GAIN c) 1048576
  let w := if s.get Fld.LSN_CFG_QTY c = 2 then clampInt 0 4095 v else clampInt (-131072) 131071 v
  (w, w != v)

/-- A channel takes a sample with its stamp. -/
def State.lsnUpdate (s : State) (c : Nat) (raw : Int) (stamp : Nat) : State :=
  if !s.lsnOn c then s
  else
    let v := s.lsnCorrect c raw
    let s := (s.set Fld.LSN_LAST_VALUE c (enc 24 v.1)).setFlag Fld.LSN_LAST_SAT c v.2
    let s := (s.set Fld.LSN_LAST_MISS c 0).set Fld.LSN_LAST_STAMP_STAMP c stamp
    (s.setLsn c { s.lsnOf c with updAt := some s.tb }).mpptSeen true c

/-- A channel belongs to a group: its leg's LEG_SENSE record names one (Table 11.6). -/
def State.lsnGrouped (s : State) (c : Nat) : Bool :=
  s.flag Fld.LSN_CFG_LATCH c && s.recFld 0x0062 (s.get Fld.LSN_CFG_LEG c) 0xA 1 != 0xFF

/-- A group is complete for a stamp once no member holds it pending (R215). -/
def State.lsnGroupDone (s : State) (g stamp : Nat) : State :=
  let members := (List.range 384).filter (fun c =>
    s.flag Fld.LSN_CFG_EN c && s.lsnGrouped c && s.get Fld.LSN_CFG_GROUP c == g)
  if members.any (fun c => (s.lsnOf c).pend.contains stamp) then s
  else
    let missed := Table.get [] s.lsnGrp g
    let s := if missed.contains stamp
      then (s.bump Fld.LSN_GRP_CNT_MISS g).set Fld.LSN_GRP_STATUS_MISS g 1 else s
    let s := { s with lsnGrp := Table.set [] s.lsnGrp g (missed.filter (fun x => x != stamp)) }
    s.event Fld.LSN_GRP_STATUS_READY g (576 + g)

/-- A channel completes its latch on a stamp with its last sample (R214). -/
def State.lsnComplete (s : State) (c stamp : Nat) : State :=
  let v := s.lsnOf c
  if !v.pend.contains stamp then s
  else
    let s := s.setLsn c { v with pend := v.pend.filter (fun x => x != stamp) }
    let s := (s.set Fld.LSN_LATCHED_VALUE c (s.get Fld.LSN_LAST_VALUE c)).set Fld.LSN_LATCHED_SAT c
      (s.get Fld.LSN_LAST_SAT c)
    let s := (s.set Fld.LSN_LATCHED_MISS c 0).set Fld.LSN_LATCHED_VALID c 1
    s.set Fld.LSN_LATCH_STAMP_STAMP c stamp

/-- A channel's latch on a stamp completes as MISS (R215). -/
def State.lsnMiss (s : State) (c stamp : Nat) : State :=
  let v := s.lsnOf c
  if !v.pend.contains stamp then s
  else
    let g := s.get Fld.LSN_CFG_GROUP c
    let s := s.setLsn c { v with pend := v.pend.filter (fun x => x != stamp) }
    let s := if s.lsnGrouped c then
        { s with lsnGrp := Table.set [] s.lsnGrp g (stamp :: Table.get [] s.lsnGrp g) } else s
    s.set Fld.LSN_LATCHED_MISS c 1

/-- The groups of a list of channels that latch. -/
def State.lsnGroups (s : State) (cs : List Nat) : List Nat :=
  ((cs.filter s.lsnGrouped).map (fun c => s.get Fld.LSN_CFG_GROUP c)).eraseDups

/-- Complete, or miss, the latches of a leg's channels on a stamp, then judge their groups. -/
def State.lsnFinish (s : State) (n stamp : Nat) (miss : Bool) : State :=
  let cs := (s.lsnOfLeg n).filter (fun c => (s.lsnOf c).pend.contains stamp)
  let s := cs.foldl (fun s c => if miss then s.lsnMiss c stamp else s.lsnComplete c stamp) s
  (s.lsnGroups cs).foldl (fun s g => s.lsnGroupDone g stamp) s

/-- A good data frame of leg n, received in bus cycle cyc (R213, R214): samples carry the start of the cycle before. -/
def State.lsnFrame (s : State) (n cyc : Nat) (cur aux : Int) : State :=
  let stamp := (cyc - 1) * busCycle
  let s := (s.lsnOfLeg n).foldl (fun s c =>
    let q := s.get Fld.LSN_CFG_QTY c
    if q = 0 then s.lsnUpdate c cur stamp
    else if q = 1 && cyc % 2 == 0 then s.lsnUpdate c aux stamp
    else if q = 2 && cyc % 4 == 1 then s.lsnUpdate c (aux % 4096) stamp
    else s) s
  s.lsnFinish n stamp false

/-- A frame of leg n is missing in bus cycle cyc (R160, R215). -/
def State.lsnNoFrame (s : State) (n cyc : Nat) : State :=
  let s := (s.lsnOfLeg n).foldl (fun s c =>
    let q := s.get Fld.LSN_CFG_QTY c
    if s.lsnOn c && (q == 0 || (q == 1 && cyc % 2 == 0) || (q == 2 && cyc % 4 == 1))
    then s.set Fld.LSN_LAST_MISS c 1 else s) s
  s.lsnFinish n ((cyc - 1) * busCycle) true

/-- Every pending latch of a leg completes as MISS (R215, R217). -/
def State.lsnDrop (s : State) (n : Nat) : State :=
  (((s.lsnOfLeg n).flatMap (fun c => (s.lsnOf c).pend)).eraseDups).foldl (fun s st => s.lsnFinish n st true) s

/-- A Twill slot fires at a time (R214): each channel that names it takes a pending latch; legs that are not ADMITTED miss
it at once (R215). -/
def State.lsnLatch (s : State) (slot t : Nat) : State :=
  let stamp := t / busCycle * busCycle
  let cs := (List.range 384).filter (fun c =>
    s.lsnOn c && s.flag Fld.LSN_CFG_LATCH c && s.get Fld.LSN_LATCHSLOT_SLOT c == slot)
  let s := cs.foldl (fun s c =>
    let v := s.lsnOf c
    if v.pend.contains stamp || decide (2 ≤ v.pend.length) then s
    else s.setLsn c { v with pend := v.pend ++ [stamp] }) s
  ((cs.map (fun c => s.get Fld.LSN_CFG_LEG c)).eraseDups.filter (fun n => !s.admitted n)).foldl
    (fun s n => s.lsnFinish n stamp true) s

/-- ENABLE or DISABLE of every channel of a leg (R217). -/
def State.lsnSwitch (s : State) (n : Nat) (off : Bool) : State :=
  let s := if off then s.lsnDrop n else s
  (s.lsnOfLeg n).foldl (fun s c => s.setLsn c { s.lsnOf c with off := off }) s

/-- Who may write a leg's controls: its converter's owner, or either core for a BRAKE-role leg (R182, R219). -/
def State.legOwner (s : State) (a : Acc) (n : Nat) : Bool :=
  match s.legConv n with
  | some c => isCore a (s.cnvOwner c)
  | none => s.flag Fld.BTR_DRIVE_CFG_BRAKE n && (accCore a).isSome

/-- A write of LSN_CTRL (R219); DISABLE wins. -/
def State.writeLsnCtrl (s : State) (a : Acc) (v : Nat) : State :=
  let n := bits v 8 8
  if !s.legOwner a n || decide (65536 ≤ v) || bits v 2 6 ≠ 0 then s.busErr
  else if v.testBit 1 then (s.lsnSwitch n true).ok
  else if v.testBit 0 then (s.lsnSwitch n false).ok
  else s.ok

/-! ### Meanings -/

/-- ADC_SOFTWARE_START (R203). -/
def execAdcSoftwareStart (a : Acc) (k : Fin 16) (s : State) : Out := .next ((s.touch a.t).writeAdcCtrl a k 1)

/-- ADCTRG_EDGE (R203). -/
def execAdctrgEdge (t : Nat) (pin : Fin 4) (rising : Bool) (s : State) : Out :=
  .next ((s.touch t).adcTrigger pin t rising)

/-- ADC_CONVERSION_DONE (R202). -/
def execAdcConversionDone (t : Nat) (k : Fin 16) (raw : BitVec 16) (skew gain : Trim) (pair : Option Bool) (s : State) : Out :=
  .next ((s.touch t).adcDone k raw.toNat skew gain pair)

/-- ADC_CORE_ENABLE (R217). -/
def execAdcCoreEnable (a : Acc) (k : Fin 16) (s : State) : Out := .next ((s.touch a.t).writeAdcCtrl a k 2)

/-- ADC_CORE_DISABLE (R217). -/
def execAdcCoreDisable (a : Acc) (k : Fin 16) (s : State) : Out := .next ((s.touch a.t).writeAdcCtrl a k 4)

/-- ADC_DMA_RD_WRITE (R208). -/
def execAdcDmaRdWrite (a : Acc) (k : Fin 16) (v : Word) (s : State) : Out :=
  .next ((s.touch a.t).writeAdcRd a k v.toNat)

/-- ADC_FIFO_DATA_READ (R207). -/
def execAdcFifoDataRead (a : Acc) (k : Fin 16) (s : State) : Out := .next ((s.touch a.t).readAdcFifo a.m k)

/-- LSN_ENABLE (R219). -/
def execLsnEnable (a : Acc) (_ : Fin 32) (n : Fin 256) (s : State) : Out :=
  .next ((s.touch a.t).writeLsnCtrl a (256 * n.val + 1))

/-- LSN_DISABLE (R217). -/
def execLsnDisable (a : Acc) (_ : Fin 32) (n : Fin 256) (s : State) : Out :=
  .next ((s.touch a.t).writeLsnCtrl a (256 * n.val + 2))

end Sys2Proof.Machine
end

