-- ==== Sys2Proof/Machine/Selvedge.lean ====
section
/-!
DEFINITION. Sys2Proof/Machine/Selvedge.lean: the controller's side of the Selvedge buses (chapter 8): filling downstream
frames (R145 to R149), slot 15 and admission (R154 to R157, R161), data frames (R152, R160), MGMT operations (R153) and
the two paths of R482 and R483.
-/

namespace Sys2Proof.Machine

/-! ### CRC-8 and the data frame -/

def crc8Bits : Nat → Nat → Nat → Nat
  | 0, c, _ => c
  | k + 1, c, d =>
    let top := decide (c / 128 % 2 ≠ d / 2 ^ k % 2)
    let c2 := c * 2 % 256
    crc8Bits k (if top then Nat.xor c2 7 else c2) d

/-- The CRC-8 of Tables 8.3 and 8.4 over the low w bits of d, most significant first. -/
def crc8 (w d : Nat) : Nat := crc8Bits w 0 d

/-- A data frame as Table 8.3 lays it out. -/
structure DataFrame where
  cur : Int
  aux : Nat
  status : Nat
  deriving DecidableEq, Repr

/-- A data frame, where its SYNC and CRC are good. -/
def dataFrame? (f : BitVec 64) : Option DataFrame :=
  let n := f.toNat
  if bits n 56 8 = 0xB4 ∧ crc8 48 (bits n 8 48) = bits n 0 8 then
    some { cur := sgn 18 (bits n 38 18), aux := bits n 20 18, status := bits n 8 12 }
  else none

/-! ### The line (R141, R145) -/

/-- Bits of the stream as a number, first bit most significant (R141). -/
def bitsNat (l : List Bool) : Nat := l.foldl (fun n b => 2 * n + (if b then 1 else 0)) 0

/-- The additive scrambler 1 + x^14 + x^15 from its state of 15 bits (R145). -/
def scramble : Nat → List Bool → List Bool
  | _, [] => []
  | st, b :: t =>
    let k := decide (st / 8192 % 2 ≠ st / 16384 % 2)
    (b != k) :: scramble (st * 2 % 32768 + (if k then 1 else 0)) t

/-- CRC-16 of R145, bit by bit. -/
def crc16 : Nat → List Bool → Nat
  | c, [] => c
  | c, b :: t =>
    let top := (decide (c / 32768 % 2 = 1)) != b
    crc16 (if top then Nat.xor (c * 2 % 65536) 0x1021 else c * 2 % 65536) t

/-- The w bits of a field, most significant first (R141). -/
def fieldBits (w n : Nat) : List Bool := (List.range w).map (fun i => n.testBit (w - 1 - i))

/-- The halfword address of a MGMT operation; D, STARVE_HOLD and APPLY stand at free ones. -/
def mgmtAddr : MgmtTarget → Nat
  | .half a => a.val
  | .delay => (Config.mgmtAddr 0).toNat
  | .starveHold => (Config.mgmtAddr 1).toNat
  | .apply => (Config.mgmtAddr 2).toNat

/-- A block as Table 8.2 lays it out. -/
def Block.bits : Block → List Bool
  | .cycle num op drop => fieldBits 4 1 ++ fieldBits 48 num ++ fieldBits 2 op ++ fieldBits 4 drop ++ fieldBits 6 0
  | .safe m code => fieldBits 4 2 ++ fieldBits 16 m ++ fieldBits 2 code ++ fieldBits 2 0
  | .pattern m bound period legs =>
    fieldBits 4 3 ++ fieldBits 16 m ++ fieldBits 25 bound ++ fieldBits 25 period ++
      (List.range 16).flatMap (fun d => (legs.filter (fun l => l.leg % 16 == d)).flatMap (fun l =>
        fieldBits 2 l.mode ++ fieldBits 25 l.on ++ fieldBits 25 l.off))
  | .mgmt drop write tag dst data =>
    fieldBits 4 4 ++ fieldBits 4 drop ++ fieldBits 2 (if write then 1 else 0) ++ fieldBits 2 tag ++
      fieldBits 7 (mgmtAddr dst) ++ fieldBits 16 data ++ fieldBits 1 0

/-- The 625 bits of a downstream frame (Table 8.1): SYNC, FHDR, the scrambled BODY, FCRC and IDLE. -/
def frameBits (frameB : Bool) (blks : List Block) : List Bool :=
  let raw := blks.flatMap Block.bits
  let body := (raw ++ List.replicate (576 - raw.length) false).take 576
  let fhdr := fieldBits 16 (if frameB then 32768 else 0)
  fieldBits 16 0xF628 ++ fhdr ++ scramble 32767 body ++ fieldBits 16 (crc16 65535 (fhdr ++ body)) ++ [false]

/-! ### Filling frames -/

def cycleBits : Nat := 64
def safeBits : Nat := 24
def mgmtBits : Nat := 36
def PatBlk.bits (p : PatBlk) : Nat := 70 + 52 * p.legs.length

/-- SAFE blocks in order while they fit (R147): blocks placed, bits used, and the list with the placed ones marked sent. -/
def fillSafe : Nat → List SafeBlk → List Block × Nat × List SafeBlk
  | used, [] => ([], used, [])
  | used, b :: t =>
    if used + safeBits ≤ 576 then
      let r := fillSafe (used + safeBits) t
      (.safe b.dmask b.code :: r.1, r.2.1, { b with sent := true } :: r.2.2)
    else ([], used, b :: t)

/-- Insert a pattern by boundary, then converter (R147). -/
def PatBlk.insert (p : PatBlk) : List PatBlk → List PatBlk
  | [] => [p]
  | q :: t => if p.bound < q.bound || (p.bound == q.bound && decide (p.conv < q.conv)) then p :: q :: t
              else q :: PatBlk.insert p t

/-- A pattern may go into a frame that begins at a time: it begins after the cut-off, and BOUND lies at most 1 ms after
its start (R148). -/
def PatBlk.due (p : PatBlk) (start : Nat) : Bool := decide (p.cutoff < start) && decide (p.bound ≤ start + 20480000)

/-- A frame that begins at a time is too late for a pattern (R148): it ends less than 30,720 FTU before BOUND. -/
def PatBlk.late (p : PatBlk) (start : Nat) : Bool := decide (p.bound < start + 51200 + 30720)

/-- Pattern blocks in order (R147, R148): once one does not fit, no later one overtakes it. -/
def fillPat (start base : Nat) : Bool → Nat → List PatBlk → List Block × Nat × List PatBlk
  | _, used, [] => ([], used, [])
  | full, used, p :: t =>
    if full || !p.due start then
      let r := fillPat start base full used t
      (r.1, r.2.1, p :: r.2.2)
    else if used + p.bits ≤ 576 then
      let r := fillPat start base false (used + p.bits) t
      (.pattern (dmaskOf ((p.legs.head?.map LegPat.leg).getD 0 / 16) (p.legs.map LegPat.leg)) (p.bound - base) p.period
        p.legs :: r.1, r.2.1, r.2.2)
    else
      let r := fillPat start base true used t
      (r.1, r.2.1, p :: r.2.2)

/-- TAGs of a drop's operations that are on the line (R153). -/
def tagsOut (ops : List MgmtOp) (drop : Nat) : List Nat :=
  ((ops.filter (fun o => o.drop == drop)).filterMap (fun o => o.tag))

/-- MGMT blocks in order (R147, R153): an operation takes the lowest free TAG of its drop. -/
def fillMgmt (cyc : Nat) (done : List MgmtOp) : Nat → List MgmtOp → List Block × List MgmtOp
  | _, [] => ([], done)
  | used, o :: t =>
    if o.sent then fillMgmt cyc (done ++ [o]) used t
    else if 576 < used + mgmtBits then fillMgmt cyc (done ++ [o]) 576 t
    else
      let free := match o.tag with
        | some g => some g
        | none => (List.range 4).find? (fun g => !(tagsOut (done ++ t) o.drop).contains g)
      match free with
      | none => fillMgmt cyc (done ++ [o]) used t
      | some g =>
        let r := fillMgmt cyc (done ++ [{ o with tag := some g, sent := true, sentCyc := cyc, missed := 0 }])
          (used + mgmtBits) t
        (.mgmt o.drop o.write g o.dst o.data :: r.1, r.2)

/-- Fill and send a frame of bus b (R145, R147, R148). -/
def State.sendFrame (s : State) (b start : Nat) (frameB : Bool) : State :=
  let v := s.busOf b
  let cyc := start / busCycle
  let head : List Block := if frameB then [] else
    [.cycle cyc (s.get Fld.SEL_BUS_STATUS_S15OP b) (s.get Fld.SEL_BUS_STATUS_S15DROP b)]
  let used := if frameB then 0 else cycleBits
  let late := v.pats.filter (fun p => p.late start)
  let pats := (v.pats.filter (fun p => !p.late start)).foldl (fun l p => p.insert l) []
  let f1 := fillSafe used v.safes
  let f2 := fillPat start (cyc * busCycle) false f1.2.1 pats
  let f3 := fillMgmt cyc [] f2.2.1 v.ops
  let s := s.setBus b { v with
    safes := f1.2.2, pats := f2.2.2, ops := f3.2
    frame := head ++ f1.1 ++ f2.1 ++ f3.1, frameB := frameB, cyc := cyc
    line := frameBits frameB (head ++ f1.1 ++ f2.1 ++ f3.1) }
  let s := s.set Fld.SEL_BUS_LOAD_PEAKBITS b (Nat.max (s.get Fld.SEL_BUS_LOAD_PEAKBITS b) f2.2.1)
  late.foldl (fun s _ => (s.bump Fld.SEL_BUS_CNT_PATLATE b).event Fld.SEL_BUS_EVT_PATLATE b (512 + 2 * b)) s

/-! ### Slot 15 -/

def dpAbsent : Nat := 0
def dpEnum : Nat := 1
def dpCal : Nat := 2
def dpAlign : Nat := 3
def dpConfig : Nat := 4
def dpConfirm : Nat := 5
def dpAdmitted : Nat := 6
def dpLost : Nat := 7

def State.dropState (s : State) (n : Nat) : Nat := s.get Fld.SEL_DROP_STATE_STATE n

def State.busRuns (s : State) (b : Nat) : Bool := s.get Fld.SEL_BUS_STATUS_STATE b != 0

/-- Operations still due for drop d of a bus go (R162). -/
def State.dropOps (s : State) (n : Nat) : State :=
  let v := s.busOf (n / 16)
  s.setBus (n / 16) { v with ops := v.ops.filter (fun o => o.drop != n % 16) }

/-- An admission starts again at ENUM (R162). -/
def State.backToEnum (s : State) (n : Nat) : State :=
  let v := s.dropOf n
  ((s.setDrop n { v with echoes := 0, echoSum := 0, align := 0, cfgIdx := 0, cfgRead := false, cfgBad := false
                         confirm := 0, answered := false, miss := 0, state := 0, fault := false, starved := false
                         brakeSince := none }).dropOps n).set
    Fld.SEL_DROP_STATE_STATE n dpEnum

/-- What the slot-15 use of the cycle that ends leaves behind: a silent ENUM poll breaks a row of clashes (R161), and a
CAL cycle without an echo abandons the admission (Table 8.4). -/
def State.closeSlot15 (s : State) (b : Nat) : State :=
  let n := 16 * b + s.get Fld.SEL_BUS_STATUS_S15DROP b
  let v := s.dropOf n
  if v.answered then s.setDrop n { v with answered := false }
  else if s.get Fld.SEL_BUS_STATUS_S15OP b = 1 then s.setDrop n { v with clash := 0 }
  else if s.get Fld.SEL_BUS_STATUS_S15OP b = 2 && s.dropState n == dpCal then s.backToEnum n
  else s

/-- A drop that ALIGN has not brought to ALIGNED within 20 cycles of the write of D starts again (Table 8.4). -/
def State.ageAlign (s : State) (n : Nat) : State :=
  if s.dropState n ≠ dpAlign then s
  else
    let waits := (s.busOf (n / 16)).ops.any (fun o => o.drop == n % 16 && !o.sent)
    let v := s.dropOf n
    if waits then s
    else if 20 ≤ v.align then s.backToEnum n
    else s.setDrop n { v with align := v.align + 1 }

/-- A listed drop that the controller polls (R154, R161). -/
def State.pollable (s : State) (n : Nat) : Bool :=
  s.flag Fld.SEL_DROP_STATE_LISTED n && decide ((s.dropOf n).rest = 0) &&
    (s.dropState n == dpAbsent || s.dropState n == dpEnum || s.dropState n == dpLost)

/-- The drop polled next: round robin after the one polled last (R154). -/
def State.nextPoll (s : State) (b : Nat) : Option Nat :=
  ((List.range 16).map (fun j => ((s.busOf b).poll + 1 + j) % 16)).find? (fun d => s.pollable (16 * b + d))

/-- Another drop's poll has passed for the drops that rest (R161). -/
def State.restPolls (s : State) (b d : Nat) : State :=
  (List.range 16).foldl (fun s j =>
    let v := s.dropOf (16 * b + j)
    if j = d || v.rest = 0 then s else s.setDrop (16 * b + j) { v with rest := v.rest - 1 }) s

/-- ENUM_POLL: poll one listed, unadmitted drop (R154). -/
def State.enumPoll (s : State) (b : Nat) : State :=
  match s.nextPoll b with
  | none => (s.set Fld.SEL_BUS_STATUS_S15OP b 0).set Fld.SEL_BUS_STATUS_S15DROP b 0
  | some d =>
    let s := s.setBus b { s.busOf b with poll := d }
    let s := (s.restPolls b d).set Fld.SEL_DROP_STATE_STATE (16 * b + d) dpEnum
    (s.set Fld.SEL_BUS_STATUS_S15OP b 1).set Fld.SEL_BUS_STATUS_S15DROP b d

/-- The slot-15 use of a cycle (Table 8.4, R154): calibration in progress, else a poll. -/
def State.openSlot15 (s : State) (b : Nat) : State :=
  match (List.range 16).find? (fun d => s.dropState (16 * b + d) == dpCal) with
  | some d => (s.set Fld.SEL_BUS_STATUS_S15OP b 2).set Fld.SEL_BUS_STATUS_S15DROP b d
  | none => s.enumPoll b

/-- The halfwords of the status words, in the order of the rotation (R182): words 0x30 to 0x3C and 0x40 to 0x50. -/
def statusHalves : List Nat := (List.range 8).map (fun j => 0x18 + j) ++ (List.range 10).map (fun j => 0x20 + j)

def half? (a : Nat) : MgmtTarget := .half (Fin.ofNat 128 a)

/-- The rotation of MGMT reads that refreshes a mirror (R182); it stands still while the leg is STALE (R483). -/
def State.rotate (s : State) (n : Nat) : State :=
  let v := s.busOf (n / 16)
  if !s.admitted n || s.legStale n || v.ops.any (fun o => o.drop == n % 16) then s
  else
    let r := (s.dropOf n).rot
    s.setBus (n / 16) { v with ops := v.ops ++
      [{ drop := n % 16, write := false, dst := half? (statusHalves.getD r 0), data := 0, rotn := true }] }

/-- The mirror of a leg whose status words have been refreshed ages by a bus cycle (Table 9.5), also while it is LOST. -/
def State.ageMirror (s : State) (n : Nat) : State :=
  if (s.dropOf n).admittedOnce then s.bump Fld.BTR_AGE_AGE n else s

/-- The drops of a bus. -/
def busDrops (b : Nat) : List Nat := (List.range 16).map (fun d => 16 * b + d)

/-- A bus cycle starts (R143): slot 15, the rotation, and frame A. -/
def State.busCycleStart (s : State) (b t : Nat) : State :=
  if !s.busRuns b then s
  else
    let s := (s.closeSlot15 b)
    let s := (busDrops b).foldl (fun s n => s.ageAlign n) s
    let s := s.openSlot15 b
    let s := (busDrops b).foldl (fun s n => (s.ageMirror n).rotate n) s
    s.sendFrame b (t / busCycle * busCycle) false

/-! ### Admission -/

/-- The configuration words of a leg by mirror halfword (Tables 9.5 and 10.4), as Table 8.4 writes them. -/
def cfgHalves : List Nat := (List.range 6).map (fun j => 4 + j) ++ (List.range 8).map (fun j => 16 + j)

/-- The mirror register at a halfword. -/
def mirrorReg : Nat → Option Reg
  | 0 => some .BTR_ID | 2 => some .BTR_SERIAL | 4 => some .BTR_DRIVE_CFG | 6 => some .BTR_ADAPT_CFG
  | 8 => some .BTR_ADAPT_IMIN | 16 => some .BTR_PROT_CFG0 | 18 => some .BTR_PROT_CFG1
  | 20 => some .BTR_BRAKE_CFG0 | 22 => some .BTR_BRAKE_CFG1 | 24 => some .BTR_PROT_EVT
  | 26 => some .BTR_PROT_CNT | 28 => some .BTR_BRAKE_STAT | 30 => some .BTR_TRIP_STAMP
  | 32 => some .BTR_STATE | 34 => some .BTR_STRENGTH | 36 => some .BTR_TSW | 38 => some .BTR_NTC
  | 40 => some .BTR_CNT | _ => none

/-- The register word that holds a halfword of the mirror of leg n. -/
def State.mirrorWord (s : State) (n a : Nat) : Nat :=
  match mirrorReg (a / 2 * 2) with
  | some r => s.regValue r n
  | none => 0

/-- A halfword of the mirror. -/
def State.mirrorHalf (s : State) (n a : Nat) : Nat := bits (s.mirrorWord n a) (16 * (a % 2)) 16

/-- A status halfword of the mirror takes a value read back. SAT is the controller's own (R200). -/
def State.setMirrorHalf (s : State) (n a v : Nat) : State :=
  match mirrorReg (a / 2 * 2) with
  | none => s
  | some r =>
    let w := s.mirrorWord n a
    let sat := s.get Fld.BTR_BRAKE_STAT_SAT n
    let s := s.setReg r n (if a % 2 = 0 then w / 65536 * 65536 + v % 65536 else w % 65536 + v % 65536 * 65536)
    if a = 28 then s.set Fld.BTR_BRAKE_STAT_SAT n sat else s

/-- Queue the next batch of CONFIG (Table 8.4): up to four words to write, or to read back; then STARVE_HOLD and APPLY. -/
def State.cfgBatch (s : State) (n : Nat) (read : Bool) : State :=
  let v := s.dropOf n
  let s := s.setDrop n { v with cfgRead := read, cfgBad := false }
  let hs := (cfgHalves.drop v.cfgIdx).take 4
  if hs.isEmpty then
    let hold := (s.get Fld.SEL_BUS_CFG_STARVE_HOLD (n / 16)).testBit (n % 16)
    (s.mgmt n true .starveHold (if hold then 1 else 0)).mgmt n true .apply 1
  else hs.foldl (fun s a => s.mgmt n (!read) (half? a) (if read then 0 else s.mirrorHalf n a)) s

/-- An operation of CONFIG is answered (Table 8.4): when its batch has ended the next follows; a read-back that does not
match is written again. -/
def State.cfgAnswered (s : State) (n : Nat) : State :=
  if (s.busOf (n / 16)).ops.any (fun o => o.drop == n % 16) then s
  else
    let v := s.dropOf n
    if cfgHalves.length ≤ v.cfgIdx then
      (s.setDrop n { v with confirm := 0 }).set Fld.SEL_DROP_STATE_STATE n dpConfirm
    else if !v.cfgRead then s.cfgBatch n true
    else if v.cfgBad then s.cfgBatch n false
    else (s.setDrop n { v with cfgIdx := v.cfgIdx + 4 }).cfgBatch n false

/-- DROP_ADMIT: the drop is ADMITTED (R156). -/
def State.dropAdmit (s : State) (n : Nat) : State :=
  let b := n / 16
  let s := s.set Fld.SEL_DROP_STATE_STATE n dpAdmitted
  let s := s.setBitOf Fld.SEL_BUS_STATUS_ADMITTED b (n % 16) true
  let s := s.set Fld.SEL_DROP_SERIAL_SERIAL n (s.get Fld.BTR_SERIAL_SERIAL n)
  let s := s.setDrop n { s.dropOf n with admittedOnce := true, miss := 0, rot := 0, disc := 0, discBad := false, agree := none }
  let s := s.setBitOf Fld.FLT_STALE_STALE (n / 32) (n % 32) false
  (s.set Fld.BTR_AGE_AGE n 0).event Fld.SEL_BUS_EVT_ADMIT b (513 + 2 * b)

/-- A good ENUM answer (R155, R161): NEWID where the serial differs from the last admitted one, and CAL begins. -/
def State.enumGood (s : State) (n serial : Nat) : State :=
  let b := n / 16
  let v := s.dropOf n
  let s := if v.admittedOnce && decide (serial ≠ s.get Fld.SEL_DROP_SERIAL_SERIAL n)
    then s.event Fld.SEL_BUS_EVT_NEWID b (513 + 2 * b) else s
  let s := (s.set Fld.BTR_ID_PART n 0xB001).set Fld.BTR_SERIAL_SERIAL n serial
  (s.setDrop n { v with clash := 0, answered := true, echoes := 0, echoSum := 0, state := 0, fault := false
                        starved := false, miss := 0 }).set
    Fld.SEL_DROP_STATE_STATE n dpCal

/-- Energy without a good CRC (R161): the third poll running raises CLASH and rests the drop. -/
def State.enumEnergy (s : State) (n : Nat) : State :=
  let b := n / 16
  let v := s.dropOf n
  if v.clash < 2 then s.setDrop n { v with clash := v.clash + 1, answered := true }
  else
    let s := s.setDrop n { v with clash := 0, answered := true, rest := 16 }
    (s.bump Fld.SEL_BUS_CNT_CLASH b).event Fld.SEL_BUS_EVT_CLASH b (512 + 2 * b)

/-- An answer in window 15E of the bus that leg n is on, judged for the drop polled (Table 8.4). -/
def State.enumAnswer (s : State) (b ans : Nat) : State :=
  let n := 16 * b + s.get Fld.SEL_BUS_STATUS_S15DROP b
  if !s.busRuns b || s.get Fld.SEL_BUS_STATUS_S15OP b != 1 || s.dropState n != dpEnum then s
  else if bits ans 48 8 ≠ 0xB4 || crc8 40 (bits ans 8 40) ≠ bits ans 0 8 then s.enumEnergy n
  else if bits ans 32 16 ≠ 0xB001 then s.setDrop n { s.dropOf n with answered := true, clash := 0 }
  else s.enumGood n (bits ans 8 24)

/-- A calibration echo with its delay from bit 1,154 (Table 8.4): D is half the mean of 16, rounded. What is not the drop's
echo is no echo. -/
def State.calEcho (s : State) (n : Nat) (echo : EchoRx) : State :=
  let b := n / 16
  let v := s.dropOf n
  if !s.busRuns b || s.dropState n != dpCal || s.get Fld.SEL_BUS_STATUS_S15OP b != 2
      || s.get Fld.SEL_BUS_STATUS_S15DROP b != n % 16 || v.answered || echo.bits.toNat != 0xB400 + 16 * (n % 16) then s
  else if v.echoes < 15 then
    s.setDrop n { v with answered := true, echoes := v.echoes + 1, echoSum := v.echoSum + echo.delay }
  else
    let d := (roundDiv ((v.echoSum + echo.delay : Nat) : Int) 32).toNat
    let s := (s.setDrop n { v with answered := true, align := 0, errSum := 0, errN := 0 }).set Fld.SEL_DROP_DELAY_D n d
    (s.set Fld.SEL_DROP_STATE_STATE n dpAlign).mgmt n true .delay (s.get Fld.SEL_DROP_DELAY_D n)

/-- The mean arrival error over 256 frames corrects D (R157); above 40 FTU it raises DRIFT. -/
def State.driftCorrect (s : State) (n : Nat) : State :=
  let b := n / 16
  let v := s.dropOf n
  if v.errN < 256 then s
  else
    let s := s.setDrop n { v with errN := 0, errSum := 0 }
    if v.errSum.natAbs < v.errN then s
    else
      let d := ((s.get Fld.SEL_DROP_DELAY_D n : Int) + roundDiv v.errSum v.errN).toNat
      let s := (s.set Fld.SEL_DROP_DELAY_D n d).mgmt n true .delay d
      if 40 * v.errN < v.errSum.natAbs then s.event Fld.SEL_BUS_EVT_DRIFT b (512 + 2 * b) else s

/-! ### Two paths (R482, R483) -/

def ocOpen : Nat := 0
def ocStale : Nat := 1
def ocResolved : Nat := 2

/-- A DISCREPANCY group (R482). -/
def State.jnlDiscrepancy (s : State) (n data mir outcome : Nat) : State :=
  s.jnlWrite 0x14 0 none s.time48 0
    [BitVec.ofNat 8 n, BitVec.ofNat 8 data, BitVec.ofNat 8 mir, BitVec.ofNat 8 outcome] []

def State.setStale (s : State) (n : Nat) (on : Bool) : State := s.setBitOf Fld.FLT_STALE_STALE (n / 32) (n % 32) on

/-- A running converter's leg whose governing state is not RUN raises F1 (R482). -/
def State.discF1 (s : State) (n : Nat) : State :=
  match s.legConv n with
  | none => s
  | some c => if s.cnvState c = cvRun && s.legState n != 2 then s.legF1 n blkSEL (causeOf whyDiscrepancy) else s

/-- MGMT_DISCREPANCY: a response with BTR_STATE meets the data frame that carries it (R482). -/
def State.discrepancy (s : State) (n data mir : Nat) : State :=
  let s := s.setDrop n { s.dropOf n with disc := 3, discBad := false }
  let s := (s.discF1 n).bump Fld.FLT_CNT2_DISCREP 0
  (s.event Fld.FLT_EVT_DISCREPANCY 0 5).jnlDiscrepancy n data mir ocOpen

/-- Two states agree where their ranks are one: UNADMITTED and GATED_OFF do (R482). -/
def agrees (x y : Nat) : Bool := stateRank x == stateRank y

/-- A data frame is judged against the mirror after a discrepancy: once the third is in, the leg is STALE if any of them
disagreed (R482, Table 29.6). -/
def State.judgeDisc (s : State) (n data : Nat) : State :=
  let v := s.dropOf n
  let bad := v.discBad || !agrees data (s.get Fld.BTR_STATE_STATE n)
  if v.disc = 0 then s
  else if 1 < v.disc || !bad then s.setDrop n { v with disc := v.disc - 1, discBad := bad }
  else
    let s := (s.setDrop n { v with disc := 0, discBad := false, agree := none, staleAt := s.tb }).setStale n true
    let s := (s.bump Fld.FLT_CNT2_STALE 0).event Fld.FLT_EVT_STALE 0 6
    s.jnlDiscrepancy n data (s.get Fld.BTR_STATE_STATE n) ocStale

/-- A data frame of a STALE leg that has had a response that agreed: the third that agrees clears STALE (R483). -/
def State.judgeStale (s : State) (n data : Nat) : State :=
  let v := s.dropOf n
  match s.legStale n, v.agree with
  | true, some k =>
    if !agrees data (s.get Fld.BTR_STATE_STATE n) then s.setDrop n { v with agree := none }
    else if k < 2 then s.setDrop n { v with agree := some (k + 1) }
    else ((s.setDrop n { v with agree := none }).setStale n false).jnlDiscrepancy n data data ocResolved
  | _, _ => s

/-- A response that carries BTR_STATE (R482, R483): the mirror follows; while STALE a change is journaled, with OUTCOME STALE,
which the spec does not give (DESIGN CHOICE, log entry 53). -/
def State.stateResponse (s : State) (n data v : Nat) : State :=
  let mir := v % 8
  if s.legStale n then
    let s := if mir ≠ s.get Fld.BTR_STATE_STATE n then s.jnlDiscrepancy n data mir ocStale else s
    let s := s.setMirrorHalf n 32 v
    if agrees mir data then s.setDrop n { s.dropOf n with agree := some 0 }
    else (s.setDrop n { s.dropOf n with agree := none }).discF1 n
  else
    let s := s.setMirrorHalf n 32 v
    if agrees mir data then s else s.discrepancy n data mir

/-! ### MGMT answers -/

/-- A read is answered: a status halfword refreshes the mirror, one of CONFIG is compared (R153, R155, R182). -/
def State.readAnswered (s : State) (n data : Nat) (o : MgmtOp) (v : Nat) : State :=
  match o.dst with
  | .half a =>
    if s.dropState n = dpConfig ∧ a.val < 24 then
      if v = s.mirrorHalf n a then s else s.setDrop n { s.dropOf n with cfgBad := true }
    else
      let s := if a.val = 32 then s.stateResponse n data v else if 24 ≤ a.val then s.setMirrorHalf n a v else s
      if o.rotn then
        let r := (s.dropOf n).rot
        if r + 1 < statusHalves.length then s.setDrop n { s.dropOf n with rot := r + 1 }
        else (s.setDrop n { s.dropOf n with rot := 0 }).set Fld.BTR_AGE_AGE n 0
      else s
  | _ => s

/-- The MGMT response of a data frame (R153). -/
def State.mgmtAnswer (s : State) (n cyc data aux : Nat) : State :=
  let v := s.busOf (n / 16)
  let hit (o : MgmtOp) : Bool := o.drop == n % 16 && o.sent && decide (o.sentCyc < cyc) && o.tag == some (aux / 65536)
  match v.ops.find? hit with
  | none => s
  | some o =>
    let s := s.setBus (n / 16) { v with ops := v.ops.filter (fun x => !hit x) }
    let s := if o.write then s else s.readAnswered n data o (aux % 65536)
    if s.dropState n = dpConfig then s.cfgAnswered n else s

/-- Operations of a drop that a cycle with CYC mod 4 = 3 has left unanswered (R153). -/
def State.mgmtUnanswered (s : State) (n cyc : Nat) : State :=
  let v := s.busOf (n / 16)
  s.setBus (n / 16) { v with ops := v.ops.map (fun o =>
    if o.drop == n % 16 && o.sent && decide (o.sentCyc < cyc) then { o with missed := o.missed + 1 } else o) }

/-- An operation left unanswered for 4 such cycles goes again with the same TAG (R153). -/
def State.mgmtRetry (s : State) (n tag : Nat) : State :=
  let v := s.busOf (n / 16)
  s.setBus (n / 16) { v with ops := v.ops.map (fun o =>
    if o.drop == n % 16 && o.sent && o.tag == some tag && decide (4 ≤ o.missed) then { o with sent := false, missed := 0 }
    else o) }

/-! ### Data frames -/

/-- A SAFE block ends once every drop in its DMASK reports SAFE or is more restricted, or has left the bus (R149). -/
def State.pruneSafe (s : State) (b : Nat) : State :=
  let v := s.busOf b
  let acted (d : Nat) : Bool := !s.admitted (16 * b + d) || decide (3 ≤ (s.dropOf (16 * b + d)).state)
  s.setBus b { v with safes := v.safes.filter (fun k =>
    !(k.sent && (List.range 16).all (fun d => !k.dmask.testBit d || acted d))) }

/-- The MGMT reads that a first FAULT asks for, ahead of the rotation (R194): BTR_STATE and words 0x30 to 0x3C. -/
def State.faultReads (s : State) (n : Nat) : State :=
  let v := s.busOf (n / 16)
  let s := s.setBus (n / 16) { v with ops := v.ops.filter (fun o => !(o.drop == n % 16 && o.rotn && !o.sent)) }
  ([32, 33] ++ (List.range 8).map (fun j => 0x18 + j)).foldl (fun s a => s.mgmt n false (half? a) 0) s

/-- The first frame that reports FAULT (R194): the reads, then F1, or F2 for a BRAKE-role leg. -/
def State.firstFault (s : State) (n : Nat) : State :=
  let s := s.faultReads n
  if s.flag Fld.BTR_DRIVE_CFG_BRAKE n then s.faultF2 blkBTR n (causeOf whyCompanion) []
  else s.legF1 n blkBTR (causeOf whyCompanion)

/-- STATUS of a data frame (R158, R180, R194, R200). -/
def State.judgeStatus (s : State) (n t st : Nat) : State :=
  let old := s.dropOf n
  let state := st % 8
  let fault := st.testBit 9
  let starved := st.testBit 5
  let braking := st.testBit 8
  let s := s.setDrop n { old with
    state := state, fault := fault, starved := starved
    brakeSince := if !braking then none else match old.brakeSince with
      | some x => some x
      | none => some t }
  let s := if braking then s else s.set Fld.BTR_BRAKE_STAT_SAT n 0
  let report := (fault && !old.fault) || (starved && !old.starved) || (state ≠ old.state && (state == 3 || state == 4))
  let s := if report then s.raise (256 + n) else s
  let s := if fault && !old.fault then s.firstFault n else s
  if starved && !old.starved then s.legF1 n blkSEL (causeOf whyStarved) else s

/-- A data frame is missing (R160): the third in a row loses the drop; in CONFIG and CONFIRM it cuts the admission short
(R162). -/
def State.frameMissing (s : State) (n cyc : Nat) (badCrc : Bool) : State :=
  let b := n / 16
  let s := if cyc % 4 = 3 then s.mgmtUnanswered n cyc else s
  if s.dropState n = dpConfig || s.dropState n = dpConfirm then
    let v := s.dropOf n
    if v.miss < 2 then s.setDrop n { v with miss := v.miss + 1, confirm := 0 } else s.backToEnum n
  else if !s.admitted n then s
  else
    let s := if badCrc then s.bump Fld.SEL_DROP_CNT_UPCRC n else s.bump Fld.SEL_DROP_CNT_MISS n
    let s := s.lsnNoFrame n cyc
    let v := s.dropOf n
    if v.miss < 2 then s.setDrop n { v with miss := v.miss + 1 }
    else
      let s := s.setDrop n { v with miss := 0 }
      let s := (s.set Fld.SEL_DROP_STATE_STATE n dpLost).setBitOf Fld.SEL_BUS_STATUS_ADMITTED b (n % 16) false
      let s := (((s.dropOps n).lsnDrop n).pruneSafe b).event Fld.SEL_BUS_EVT_DROPLOST b (512 + 2 * b)
      let s := match s.legConv n with
        | none => s
        | some c => s.setConv c { s.convOf c with dmask := (s.convOf c).dmask.filter (fun x => x != n) }
      s.legF1 n blkSEL (causeOf whyDropLost)

/-- What every good data frame gives, admitted or not: its arrival error counts (R157), and its STATUS is judged (R180,
R194). -/
def State.frameTaken (s : State) (n t : Nat) (f : DataFrame) (err : Int) : State :=
  let v := s.dropOf n
  let base := if 256 ≤ v.errN then (0, 0) else (v.errSum, v.errN)
  (s.setDrop n { v with miss := 0, errSum := base.1 + err, errN := base.2 + 1 }).judgeStatus n t f.status

/-- A good data frame of an ADMITTED drop (R152, R213, R482, R483). -/
def State.frameAdmitted (s : State) (n cyc : Nat) (f : DataFrame) : State :=
  let s := s.lsnFrame n cyc f.cur (if cyc % 4 = 1 then (f.aux % 4096 : Nat) else sgn 18 f.aux)
  let s := (s.judgeDisc n (f.status % 8)).judgeStale n (f.status % 8)
  let s := if cyc % 4 = 3 then (s.mgmtAnswer n cyc (f.status % 8) f.aux).mgmtUnanswered n cyc else s
  s.pruneSafe (n / 16)

/-- The write of D that ALIGN waited for goes, answered or not. -/
def State.dropDelay (s : State) (n : Nat) : State :=
  let v := s.busOf (n / 16)
  s.setBus (n / 16) { v with ops := v.ops.filter (fun o => o.drop != n % 16 || o.dst != .delay) }

/-- A good data frame during admission (Table 8.4). -/
def State.frameAdmission (s : State) (n cyc : Nat) (f : DataFrame) : State :=
  let st := s.dropState n
  let s := if cyc % 4 = 3 && (st == dpConfig || st == dpAlign || st == dpConfirm)
    then (s.mgmtAnswer n cyc (f.status % 8) f.aux).mgmtUnanswered n cyc else s
  let v := s.dropOf n
  if st = dpAlign then
    if f.status.testBit 4 then
      (((s.dropDelay n).setDrop n { v with cfgIdx := 0, cfgRead := false, cfgBad := false }).set
        Fld.SEL_DROP_STATE_STATE n dpConfig).cfgBatch n false
    else s
  else if st = dpConfirm then
    let good := f.status % 8 = 1 && f.status.testBit 4 && f.status.testBit 3 && !f.status.testBit 9
    let s := s.setDrop n { v with confirm := if good then v.confirm + 1 else 0 }
    if good && decide (2 ≤ v.confirm) then s.dropAdmit n else s
  else s

/-- A data frame arrives in window d of its bus (R152, R160): one with a bad SYNC or CRC counts as missing. -/
def State.dataArrives (s : State) (n t : Nat) (frame : BitVec 64) (err : Int) : State :=
  let cyc := t / busCycle
  if !s.busRuns (n / 16) then s
  else match dataFrame? frame with
    | none => s.frameMissing n cyc true
    | some f =>
      if s.dropState n < dpAlign || s.dropState n = dpLost then s
      else
        let s := s.frameTaken n t f err
        if s.admitted n then s.frameAdmitted n cyc f else s.frameAdmission n cyc f

/-- A write of BTR_CTRL (R182): forwarded as a MGMT write to a drop whose delay is known. -/
def State.writeBtrCtrl (s : State) (a : Acc) (n v : Nat) : State :=
  if !s.legOwner a n || !a.kernel || decide (2 ≤ v) then s.busErr
  else if v = 1 && decide (dpAlign ≤ s.dropState n) && decide (s.dropState n ≤ dpAdmitted) then (s.sendClear n).ok
  else s.ok

/-- STALEPER × 4 bus cycles have passed since the leg became STALE or was last read again (R483). -/
def State.rereadDue (s : State) (n t : Nat) : Bool :=
  decide ((s.dropOf n).staleAt + s.get Fld.FLT_DEV_STALEPER 0 * 4 * busCycle ≤ t)

/-- A fresh read of BTR_STATE for a STALE leg (R483). -/
def State.staleReread (s : State) (n t : Nat) : State :=
  if s.legStale n && s.admitted n && s.rereadDue n t then
    (s.setDrop n { s.dropOf n with staleAt := t }).mgmt n false (half? 32) 0
  else s

/-! ### Meanings -/

/-- SELVEDGE_CYCLE_START (R143, R154, R161). -/
def execSelvedgeCycleStart (t : Nat) (b : Fin 16) (s : State) : Out := .next ((s.touch t).busCycleStart b t)

/-- FRAME_B_SEND (R145): frame B starts 2.5 µs after the cycle start. -/
def execFrameBSend (t : Nat) (b : Fin 16) (s : State) : Out :=
  let s := s.touch t
  .next (if s.busRuns b then s.sendFrame b (t / busCycle * busCycle + 51200) true else s)

/-- MGMT_RETRY (R153). -/
def execMgmtRetry (t : Nat) (n : Fin 256) (tag : Fin 4) (s : State) : Out := .next ((s.touch t).mgmtRetry n tag)

/-- UPSTREAM_DATA_FRAME (R152, R156, R482). -/
def execUpstreamDataFrame (t : Nat) (n : Fin 256) (frame : BitVec 64) (err : Int) (s : State) : Out :=
  .next ((s.touch t).dataArrives n t frame err)

/-- DATA_FRAME_MISSING (R160). -/
def execDataFrameMissing (t : Nat) (n : Fin 256) (badCrc : Bool) (s : State) : Out :=
  let s := s.touch t
  .next (if s.busRuns (n / 16) then s.frameMissing n (t / busCycle) badCrc else s)

/-- ENUM_ANSWER (R155, R161). -/
def execEnumAnswer (t : Nat) (n : Fin 256) (answer : BitVec 56) (s : State) : Out :=
  .next ((s.touch t).enumAnswer (n / 16) answer.toNat)

/-- CAL_ECHO (R155). -/
def execCalEcho (t : Nat) (n : Fin 256) (echo : EchoRx) (s : State) : Out := .next ((s.touch t).calEcho n echo)

/-- DELAY_DRIFT_CORRECT (R157). -/
def execDelayDriftCorrect (t : Nat) (n : Fin 256) (s : State) : Out := .next ((s.touch t).driftCorrect n)

/-- BTR_CTRL_WRITE (R182). -/
def execBtrCtrlWrite (a : Acc) (n : Fin 256) (v : Word) (s : State) : Out :=
  .next ((s.touch a.t).writeBtrCtrl a n v.toNat)

/-- STALE_REREAD (R483). -/
def execStaleReread (t : Nat) (n : Fin 256) (s : State) : Out := .next ((s.touch t).staleReread n t)

end Sys2Proof.Machine
end

