-- ==== Sys2Proof/Machine/Companion.lean ====
section
/-!
DEFINITION. Sys2Proof/Machine/Companion.lean: the KX-B1 companion (chapters 8 and 9): frames received (R145, R146, R150),
patterns and starving (R158, R159), gates and dead time (R169, R170, R177, R178), gate-strength adaptation (R172), MGMT
(R153, R179, R196), supplies (R166, R167, R174 to R176) and data frames (Table 8.3).
-/

namespace Sys2Proof.Machine

/-! ### Gates -/

/-- FLTN is driven low while STATE is SAFE or LATCHED, by a powered primary (Table 9.1). -/
def Comp.fltnLow (c : Comp) : Bool := c.vddp && (c.st == .safe || c.st == .latched)

/-- The charge pump runs (R168). -/
def Comp.pump (c : Comp) : Bool :=
  c.vls && (c.act.cpen == 1 || c.st == .unadmitted || c.st == .gatedOff || c.st == .safe)

/-- A time on the companion's own timebase (R150). -/
def Comp.now (c : Comp) (t : Nat) : Nat := ((t : Int) + c.skew).toNat

/-- The other side of a leg. -/
def otherSide : Side → Side
  | .high => .low
  | .low => .high

/-- A side is on. -/
def Comp.on (c : Comp) : Side → Bool
  | .high => c.hi
  | .low => c.lo

/-- A side may be on at all: its supplies hold, and it has not tripped (R174, R187). -/
def Comp.can (c : Comp) : Side → Bool
  | .high => c.vls && c.vhs && !c.tripHi
  | .low => c.vls && !c.tripLo

/-- A gate edge of a kind: 1 µs begins in which a transition is attributed to it (R172). -/
def Comp.gateMoves (c : Comp) (t : Nat) (e : EdgeKind) : Comp := { c with edges := (e, t) :: c.edges }

/-- The dead time counts from a turn-off of a side (R169, R170). -/
def Comp.deadFrom (c : Comp) (t : Nat) (side : Side) : Comp :=
  { c with dead := some side, sensed := false, deadAt := t }

/-- A side turns off, and no longer waits to turn on. -/
def Comp.turnOff (c : Comp) (t : Nat) (side : Side) : Comp :=
  let c : Comp := { c with want := if c.want == some side then none else c.want }
  match side with
  | .high => if c.hi then (({ c with hi := false }).deadFrom t .high).gateMoves t .hoff else c
  | .low => if c.lo then (({ c with lo := false }).deadFrom t .low).gateMoves t .loff else c

/-- A side turns on. -/
def Comp.turnOn (c : Comp) (t : Nat) (side : Side) : Comp :=
  let c : Comp := { c with want := none }
  match side with
  | .high => ({ c with hi := true, onHi := t }).gateMoves t .hon
  | .low => ({ c with lo := true, onLo := t }).gateMoves t .lon

/-- Both sides off. -/
def Comp.gatesOff (c : Comp) (t : Nat) : Comp := (c.turnOff t .high).turnOff t .low

/-- A side is to be on: the opposite side turns off, and this one follows once the dead time of that turn-off has passed
(R169); at once where it has passed already. -/
def Comp.go (c : Comp) (t : Nat) (side : Side) : Comp :=
  let c := c.turnOff t (otherSide side)
  if !c.can side || c.on side then c
  else if c.dead == some (otherSide side) then { c with want := some side }
  else c.turnOn t side

/-- The gates a safe-state code asks for (R135); a BRAKE-role leg keeps its chopper (R188). -/
def Comp.safeGates (c : Comp) (t code : Nat) : Comp :=
  if c.act.brake = 1 then c.turnOff t .high
  else if code = 1 then c.go t .low else c.gatesOff t

/-- A pattern holds the high side on at an offset (R125). -/
def CPat.highAt (p : CPat) (o : Nat) : Bool :=
  p.mode == 3 || ({ leg := 0, mode := p.mode, on := p.on, off := p.off : LegPat }).onAt p.period o

/-- The side a pattern has on at an offset; none in ALL_OFF. -/
def CPat.sideAt (p : CPat) (o : Nat) : Option Side :=
  if p.mode = 2 then none else if p.highAt o then some .high else some .low

/-- The gates at the start of a period, after the pattern before it (R169, R177): where both are PWM and the boundary is no
edge, the gates stay as the last edge left them. -/
def Comp.startGates (c : Comp) (t : Nat) (before : Option CPat) (p : CPat) : Comp :=
  let same := match before with
    | some q => q.mode == 0 && p.mode == 0 && q.sideAt (q.period - 1) == p.sideAt 0
    | none => false
  if same then c
  else match p.sideAt 0 with
    | none => c.gatesOff t
    | some side => c.go t side

/-! ### Configuration -/

/-- Strengths clamped into SMIN to SMAX (R179). -/
def clampNat (lo hi n : Nat) : Nat := Nat.max lo (Nat.min hi n)

def Comp.initStrength (c : Comp) : Comp :=
  { c with hon := c.act.sinit, hoff := c.act.sinit, lon := c.act.sinit, loff := c.act.sinit }

/-- Staging becomes active (R179): at the first CONFIG the strengths start at SINIT. -/
def Comp.copyCfg (c : Comp) : Comp :=
  let c' := { c with act := c.stag, applyPend := false, configured := true, brkWords := true }
  if c.configured then
    { c' with
      hon := clampNat c.stag.smin c.stag.smax c.hon, hoff := clampNat c.stag.smin c.stag.smax c.hoff
      lon := clampNat c.stag.smin c.stag.smax c.lon, loff := clampNat c.stag.smin c.stag.smax c.loff }
  else c'.initStrength

/-- Outside RUN a pending APPLY acts at once (R179). -/
def Comp.settle (c : Comp) : Comp := if c.applyPend && c.st != .run then c.copyCfg else c

/-! ### Safe states -/

/-- Enter SAFE and apply a safe-state code (R135): HOLD_ONE_PERIOD completes a period in progress, edges and all. -/
def Comp.enterSafe (c : Comp) (t code : Nat) (mayHold : Bool) : Comp :=
  let c : Comp := { c with st := if c.st == .latched then .latched else .safe, queue := [] }
  (if code = 2 && mayHold && c.cur.isSome then { c with holdOne := true }
   else ({ c with cur := none, holdOne := false, repeated := false }).safeGates t code).settle

/-- A SAFE block (R135, R149, R189): in SAFE and LATCHED, and before admission, it only turns off sides that are on. -/
def Comp.safeBlock (c : Comp) (t code : Nat) : Comp :=
  if c.st = .run ∨ c.st = .gatedOff then c.enterSafe t code true
  else if c.act.brake = 1 then c
  else if code = 0 then ({ c with cur := none, holdOne := false }).gatesOff t
  else if code = 1 then ({ c with cur := none, holdOne := false }).turnOff t .high
  else c

/-! ### Patterns -/

/-- The end of the last period a companion holds (R159). -/
def Comp.lastEnd (c : Comp) : Option Nat :=
  match c.queue.getLast? with
  | some p => some (p.bound + p.period)
  | none => match c.cur with
    | some p => some (p.bound + p.period)
    | none => none

/-- A PATTERN (R159, R189). -/
def Comp.pattern (c : Comp) (t : Nat) (p : CPat) : Comp :=
  if c.act.brake = 1 ∨ (c.st ≠ .run ∧ c.st ≠ .gatedOff) then c
  else if c.queue.any (fun q => q.bound == p.bound) then
    { c with queue := c.queue.map (fun q => if q.bound = p.bound then p else q) }
  else if p.bound < (c.lastEnd.getD (c.now t)) then { c with paterr := true }
  else if 7 ≤ c.queue.length then { c with qfull := true }
  else { c with queue := c.queue ++ [p] }

/-! ### Configuration words -/

/-- A halfword of the configuration words (Tables 9.5 and 10.4). -/
def CompCfg.half (g : CompCfg) : Nat → Nat
  | 4 => g.mode + 2 * g.cpen + 4 * g.brake + 16 * g.safe
  | 5 => g.dt
  | 6 => g.target + 256 * g.tol + 4096 * g.smin
  | 7 => g.smax + 16 * g.sinit + 256 * g.adapt
  | 8 => g.imin % 65536
  | 9 => g.imin / 65536
  | 16 => g.dsth
  | 17 => g.octh
  | 18 => g.ovth
  | 19 => g.otth
  | 20 => g.pon
  | 21 => g.poff
  | 22 => g.ron + 32768 * g.ren
  | 23 => g.roff
  | _ => 0

/-- A halfword of the configuration words is written. -/
def CompCfg.setHalf (g : CompCfg) (a v : Nat) : CompCfg :=
  match a with
  | 4 => { g with mode := bits v 0 1, cpen := bits v 1 1, brake := bits v 2 1, safe := bits v 4 2 }
  | 5 => { g with dt := bits v 0 12 }
  | 6 => { g with target := bits v 0 8, tol := bits v 8 4, smin := bits v 12 4 }
  | 7 => { g with smax := bits v 0 4, sinit := bits v 4 4, adapt := bits v 8 1 }
  | 8 => { g with imin := g.imin / 65536 * 65536 + v % 65536 }
  | 9 => { g with imin := g.imin % 65536 + bits v 0 1 * 65536 }
  | 16 => { g with dsth := bits v 0 2 }
  | 17 => { g with octh := bits v 0 12 }
  | 18 => { g with ovth := bits v 0 12 }
  | 19 => { g with otth := bits v 0 12 }
  | 20 => { g with pon := bits v 0 12 }
  | 21 => { g with poff := bits v 0 12 }
  | 22 => { g with ron := bits v 0 12, ren := bits v 15 1 }
  | 23 => { g with roff := bits v 0 12 }
  | _ => g

/-! ### CLEAR -/

/-- The conditions of R196: supplies, the OC comparator, VDC (not judged for a BRAKE-role leg, which ignores OVTH) and the
last NTC code. -/
def Comp.mayClear (c : Comp) : Bool :=
  c.supok10 && !c.oc && (c.act.brake == 1 || decide (c.vdc < c.act.ovth)) && decide (c.act.otth ≤ c.ntc)

/-- COMPANION_CLEAR: a CLEAR ends SAFE or LATCHED where every condition holds (R176, R196); at any other time it sets
CLRREJ. -/
def Comp.clear (c : Comp) (t : Nat) : Comp :=
  if (c.st = .safe ∨ c.st = .latched) ∧ c.mayClear then
    let c := if c.act.brake = 1 then c else c.gatesOff t
    ({ c with
      st := .gatedOff, cause := 0, fault := false, starved := false, stamp := none
      evt := c.evt / 64 % 2 * 64, tripHi := false, tripLo := false, softHi := false, softLo := false
      cur := none, queue := [], holdOne := false, repeated := false }).initStrength
  else { c with evt := setBit c.evt 6 }

/-! ### MGMT -/

/-- STATE as Table 8.3 codes it. -/
def CState.code : CState → Nat
  | .unadmitted => 0 | .gatedOff => 1 | .run => 2 | .safe => 3 | .latched => 4

/-- A 32-bit status word of the companion by its halfword address (Tables 9.5 and 10.4). -/
def Comp.statusWord (c : Comp) : Nat → Nat
  | 24 => c.evt
  | 26 => c.trips + 65536 * c.brksw
  | 28 => (if c.act.brake = 1 ∧ c.lo then 1 else 0) + 2 * c.act.ren
  | 30 => c.stamp.getD 0 % 4294967296
  | 32 => c.st.code + (if c.vddp then 0 else 256) + (if c.vls then 0 else 512) + (if c.vhs then 0 else 1024) + 4096 * c.cause
  | 34 => c.hon + 16 * c.hoff + 256 * c.lon + 4096 * c.loff
  | 36 => c.rise + 65536 * c.fall
  | 38 => c.ntc
  | 40 => c.nomeas + 65536 * c.adaptlim
  | _ => 0

/-- A halfword of the companion's mirror as a MGMT operation finds it. -/
def Comp.half (c : Comp) (serial a : Nat) : Nat :=
  if a = 0 then 0xB001
  else if a = 2 ∨ a = 3 then bits serial (16 * (a % 2)) 16
  else if a < 24 then c.stag.half a
  else bits (c.statusWord (a / 2 * 2)) (16 * (a % 2)) 16

/-- A MGMT write (R153): D, STARVE_HOLD and APPLY, a configuration halfword into staging (R179), or CLEAR. -/
def Comp.mgmtWrite (c : Comp) (t : Nat) (dst : MgmtTarget) (data : Nat) : Comp :=
  match dst with
  | .delay => { c with delay := some data }
  | .starveHold => { c with starveHold := decide (data % 2 = 1) }
  | .apply => if data % 2 = 0 then c else if c.st == .run then { c with applyPend := true } else c.copyCfg
  | .half a =>
    if a.val = 64 then (if data % 2 = 1 then c.clear t else c)
    else { c with stag := c.stag.setHalf a.val data }

/-- An operation is answered in the drop's next cycle with CYC mod 4 = 3 (R153). -/
def Comp.queueAns (c : Comp) (tag addr val cyc : Nat) : Comp :=
  { c with answers := c.answers ++ [{ tag := tag, addr := addr, val := val, cyc := cyc }] }

/-- A halfword address for an answer. -/
def targetAddr : MgmtTarget → Nat
  | .half a => a.val
  | _ => 128

/-- The powered primary of companion n takes a MGMT operation. -/
def State.compMgmt (s : State) (n t tag : Nat) (write : Bool) (dst : MgmtTarget) (data : Nat) : State :=
  let c := s.compOf n
  if !c.vddp then s
  else
    let c := if write then c.mgmtWrite t dst data else c
    let v := match dst with
      | .half a => if a.val = 64 then data else c.half (Config.compSerial n).toNat a.val
      | _ => data
    s.setComp n (c.queueAns tag (targetAddr dst) v (c.now t / busCycle))

/-! ### Downstream frames -/

/-- A downstream frame taken apart: whether it is frame B, and its body. A frame of another length, without SYNC, or with a
bad CRC is none. -/
def downFrame? (f : List Bool) : Option (Bool × List Bool) :=
  let body := scramble 32767 ((f.drop 32).take 576)
  let fhdr := (f.drop 16).take 16
  if f.length = 625 ∧ bitsNat (f.take 16) = 0xF628 ∧ crc16 65535 (fhdr ++ body) = bitsNat ((f.drop 608).take 16)
  then some (decide (bitsNat fhdr = 32768), body) else none

/-- Take a field of w bits. -/
def takeField (w : Nat) (l : List Bool) : Nat × List Bool := (bitsNat (l.take w), l.drop w)

/-- The target of a MGMT ADDR: a listed halfword, else one of the free addresses of D, STARVE_HOLD and APPLY. -/
def addrTarget (a : Nat) : MgmtTarget :=
  if (mirrorReg (a / 2 * 2)).isSome ∨ a / 2 = 32 then half? a
  else if a = (Config.mgmtAddr 0).toNat then .delay
  else if a = (Config.mgmtAddr 1).toNat then .starveHold
  else if a = (Config.mgmtAddr 2).toNat then .apply
  else half? a

/-- What an UNADMITTED companion sends in window 15E (Table 8.4): SYNC 0xB4, PARTID, SERIAL and CRC-8 for ENUM; 0xB4, its
drop and four zeros for CAL. -/
def enumAnswer56 (serial : Nat) : BitVec 56 :=
  let p := 0xB001 * 16777216 + serial % 16777216
  BitVec.ofNat 56 (0xB4 * 2 ^ 48 + p * 256 + crc8 40 p)

def calEcho16 (drop : Nat) : BitVec 16 := BitVec.ofNat 16 (0xB400 + 16 * (drop % 16))

/-- CYCLE_BLOCK: the cycle number and slot-15 operation (Table 8.4). A companion that holds D is aligned: the first SYNC bit
of frame A of cycle c marks 102,400 × c + D (R150). The time is that of this bit at the companion. -/
def Comp.cycleBlock (c : Comp) (t serial num op drop : Nat) : Comp :=
  let polled := c.st == .unadmitted && drop == c.strap
  let c : Comp := { c with
    cyc := num, s15op := op, s15drop := drop, skew := (busCycle * num + c.delay.getD 0 : Nat) - (t : Int)
    enumAns := if polled && op == 1 then some (enumAnswer56 serial) else none
    echo := if polled && op == 2 then some (calEcho16 drop) else none }
  if c.delay.isSome then { c with aligned := true, st := if c.st == .unadmitted then .gatedOff else c.st } else c

/-- The set bits of a DMASK, ascending. -/
def maskDrops (m : Nat) : List Nat := (List.range 16).filter (fun d => m.testBit d)

/-- The blocks of a body, one after another, for companion n (R146): BTYPE 0 ends it, and a reserved BTYPE sets PATERR. -/
def State.blocks (n t : Nat) : Nat → List Bool → State → State
  | 0, _, s => s
  | fuel + 1, l, s =>
    let c := s.compOf n
    let ty := takeField 4 l
    match ty.1 with
    | 0 => s
    | 1 =>
      let num := takeField 48 ty.2
      let op := takeField 2 num.2
      let dp := takeField 4 op.2
      State.blocks n t fuel (dp.2.drop 6) (s.setComp n (c.cycleBlock t (Config.compSerial n).toNat num.1 op.1 dp.1))
    | 2 =>
      let m := takeField 16 ty.2
      let code := takeField 2 m.2
      let s := if m.1.testBit c.strap then s.setComp n (c.safeBlock t code.1) else s
      State.blocks n t fuel (code.2.drop 2) s
    | 3 =>
      let m := takeField 16 ty.2
      let bound := takeField 25 m.2
      let per := takeField 25 bound.2
      let drops := maskDrops m.1
      let at? := drops.findIdx? (fun d => d == c.strap)
      let s := match at? with
        | none => s
        | some j =>
          let md := takeField 2 (per.2.drop (52 * j))
          let on := takeField 25 md.2
          let off := takeField 25 on.2
          s.setComp n (c.pattern t { bound := c.now t / busCycle * busCycle + bound.1, period := per.1, mode := md.1,
                                     on := on.1, off := off.1 })
      State.blocks n t fuel (per.2.drop (52 * drops.length)) s
    | 4 =>
      let dp := takeField 4 ty.2
      let op := takeField 2 dp.2
      let tag := takeField 2 op.2
      let ad := takeField 7 tag.2
      let da := takeField 16 ad.2
      let s := if dp.1 = c.strap && decide (op.1 < 2)
        then s.compMgmt n t tag.1 (op.1 == 1) (addrTarget ad.1) da.1 else s
      State.blocks n t fuel (da.2.drop 1) s
    | _ => s.setComp n { c with paterr := true }

/-- A companion's fifth missing or failed frame A (R151): its safe state, which completes a held period (R135), and it is
UNADMITTED. -/
def Comp.lostA (c : Comp) (t : Nat) : Comp :=
  let c := c.enterSafe t c.act.safe true
  ({ c with
    st := if c.st == CState.latched then CState.latched else CState.unadmitted, aligned := false, delay := none, answers := []
    enumAns := none, echo := none }).settle

/-- A failed frame (R145, R151): it is counted and sets DNERR; a frame A that fails five cycles after the last good one is
the fifth. -/
def Comp.badFrame (c : Comp) (t : Nat) : Comp :=
  let now := c.now t
  let c : Comp := { c with dnerr := true, crcCnt := c.crcCnt + 1 }
  if c.aligned && decide (now % busCycle < 51200) && decide (c.cyc + 5 ≤ now / busCycle) then c.lostA t else c

/-- A companion receives a downstream frame (R145), whose first SYNC bit reaches it at a time. -/
def State.downRx (s : State) (n t : Nat) (f : List Bool) : State :=
  let c := s.compOf n
  if !c.vddp then s
  else match downFrame? f with
    | none => s.setComp n (c.badFrame t)
    | some (_, body) => State.blocks n t 145 body s

/-! ### Boundaries -/

/-- A period begins with a pattern (R158, R169). -/
def Comp.startPeriod (c : Comp) (t : Nat) (p : CPat) : Comp :=
  ({ c with st := .run, cur := some p, repeated := false }).startGates t c.cur p

/-- A companion's period ends (R158, R179). Between the periods of a TWILL converter the legs are ALL_OFF (R127): that is no
starving (DESIGN CHOICE, log entry 36). -/
def Comp.boundary (c : Comp) (t : Nat) (twill : Bool) : Comp :=
  let now := c.now t
  match c.cur with
  | none =>
    if c.st ≠ .run ∧ c.st ≠ .gatedOff then c
    else match c.queue with
      | [] => c
      | p :: rest =>
        if now < p.bound then c
        else
          let c := if c.applyPend then c.copyCfg else c
          ({ c with queue := rest }).startPeriod t p
  | some q =>
    if now < q.bound + q.period then c
    else
      let c := if c.applyPend then c.copyCfg else c
      if c.holdOne then ({ c with holdOne := false, cur := none }).gatesOff t
      else if c.st ≠ .run ∧ c.st ≠ .gatedOff then { c with cur := none }
      else match c.queue with
        | [] => starve c q
        | p :: rest =>
          if p.bound = q.bound + q.period then ({ c with queue := rest }).startPeriod t p else starve c q
where
  /-- No pattern with that boundary: the last is repeated once under STARVE_HOLD, else the safe state (R158). -/
  starve (c : Comp) (q : CPat) : Comp :=
    if twill then ({ c with cur := none, repeated := false }).gatesOff t
    else if c.starveHold && !c.repeated then
      ({ c with cur := some { q with bound := q.bound + q.period }, repeated := true }).startGates t (some q) q
    else { (c.enterSafe t c.act.safe false) with starved := true }

/-! ### Edges -/

/-- The pattern in force places the turn-off edge of a side at a time (R125, R150, R169): of the low side at ON, of the high
side at OFF, while the period runs or is held. -/
def Comp.edgeDue (c : Comp) (t : Nat) (side : Side) : Bool :=
  match c.cur with
  | none => false
  | some p =>
    p.mode == 0 && p.on != p.off && (c.st == .run || c.holdOne) &&
      c.now t == p.bound + (match side with
        | .low => p.on
        | .high => p.off)

/-- A turn-off edge of a side in a PWM period (R169, R177): it cancels a turn-on of the same side that has not come, and both
sides then stay off until the next edge; else the other side follows after the dead time, counted from the edge. -/
def Comp.gateEdge (c : Comp) (t : Nat) (side : Side) : Comp :=
  if !c.edgeDue t side then c
  else if c.want == some side then { c with want := none }
  else
    let wasOff := !c.on side && c.dead != some side
    let c := c.turnOff t side
    let c : Comp := if wasOff then { c.deadFrom t side with sensed := true } else c
    if c.can (otherSide side) && !c.on (otherSide side) then { c with want := some (otherSide side) } else c

/-- The gate sense of a side falls below 2.0 V (R170): in HANDSHAKE mode DT counts from here. -/
def Comp.senseLow (c : Comp) (t : Nat) (side : Side) : Comp :=
  if c.dead == some side && !c.sensed then
    { c with sensed := true, deadAt := if c.act.mode = 0 then t else c.deadAt }
  else c

/-- DT has passed (R170): the incoming side turns on. FIXED counts DT from the turn-off edge, HANDSHAKE from the sense. -/
def Comp.deadEnd (c : Comp) (t : Nat) : Comp :=
  if c.dead.isNone || (c.act.mode == 0 && !c.sensed) || decide (t < c.deadAt + 16 * c.act.dt) then c
  else
    let c : Comp := { c with dead := none, sensed := false }
    match c.want with
    | none => c
    | some side => if c.can side then c.turnOn t side else { c with want := none }

/-! ### Gate strength -/

def Comp.strength (c : Comp) : EdgeKind → Nat
  | .hon => c.hon | .hoff => c.hoff | .lon => c.lon | .loff => c.loff

def Comp.setStrength (c : Comp) (v : Nat) : EdgeKind → Comp
  | .hon => { c with hon := v } | .hoff => { c with hoff := v }
  | .lon => { c with lon := v } | .loff => { c with loff := v }

def Comp.noMeas (c : Comp) : Comp := { c with nomeas := satSucc 16 c.nomeas }

/-- One step of adaptation for an attributed edge (R172); tsw counts 16 FTU, which is 25/32 ns. -/
def Comp.adaptStep (c : Comp) (e : EdgeKind) (tsw : Nat) (cur : Int) : Comp :=
  if c.act.adapt = 0 || decide (cur.natAbs < c.act.imin) then c.noMeas
  else if 32 * (c.act.target + c.act.tol) < 25 * tsw then
    if c.strength e < c.act.smax then c.setStrength (c.strength e + 1) e
    else { c with adaptlim := satSucc 16 c.adaptlim }
  else if 25 * tsw + 32 * c.act.tol < 32 * c.act.target then
    if c.act.smin < c.strength e then c.setStrength (c.strength e - 1) e
    else { c with adaptlim := satSucc 16 c.adaptlim }
  else c

/-- A transition's time from its 10 % to its 90 % crossing, in units of 16 FTU (R172). -/
def tswUnits (t10 t90 : Nat) : Nat := (t90 - t10) / 16

/-- A transition is timed (BTR_TSW, in FTU) and attributed to the latest gate edge before its 10 % crossing, where that lies
within 1 µs; an edge takes one transition at most (R172). -/
def Comp.transition (c : Comp) (rising : Bool) (t10 t90 : Nat) (cur : Int) : Comp :=
  let tsw := tswUnits t10 t90
  let later := c.edges.filter (fun x => decide (t10 < x.2))
  let c : Comp := match c.edges.filter (fun x => decide (x.2 ≤ t10)) with
    | [] => c
    | (e, at_) :: rest =>
      if t10 ≤ at_ + 20480 then ({ c with edges := later ++ rest }).adaptStep e tsw cur else c
  if rising then { c with rise := 16 * tsw % 65536 } else { c with fall := 16 * tsw % 65536 }

/-- 1 µs has passed after gate edges of a kind without a transition (R172): each counts NOMEAS. -/
def Comp.windowEnd (c : Comp) (t : Nat) (e : EdgeKind) : Comp :=
  let past (x : EdgeKind × Nat) : Bool := x.1 == e && decide (x.2 + 20480 ≤ t)
  (c.edges.filter past).foldl (fun c _ => c.noMeas) { c with edges := c.edges.filter (fun x => !past x) }

/-! ### Supplies -/

/-- VDDP first rises (R167): the straps are latched. -/
def Comp.vddpUp (c : Comp) (strap : Nat) : Comp := if c.vddp then c else { c with vddp := true, strap := strap }

/-- LATCHED lasts while the primary or the secondary holds it (R196). -/
def Comp.keepLatched (c : Comp) : Comp :=
  if c.st == .latched && !c.vddp && !c.vls then { c with st := .unadmitted, tripHi := false, tripLo := false } else c

/-- A UVLO in RUN is a fault (R176). -/
def Comp.uvFault (c : Comp) (cause : Nat) : Comp :=
  if c.st == .run then
    ({ c with st := .safe, fault := true, cause := cause, queue := [], cur := none, holdOne := false }).settle
  else c

/-- A supply falls below its UVLO threshold (Table 9.3, R166, R175, R176, R192). VDDP: the primary resets; what the secondary
holds of LATCHED stays (R196). VLS: both sides off. VHS: the high side is off, and the low side takes the safe state; before
patterns have run the low side stays as it is (R176), but a chopper stops (R192). -/
def Comp.uvlo (c : Comp) (t : Nat) : CompSupply → Comp
  | .vddp =>
    let kept := c.st == CState.latched
    ({ c with
      vddp := false, supok10 := false, aligned := false, delay := none, answers := [], queue := [], cur := none
      holdOne := false, repeated := false, applyPend := false, starved := false, dnerr := false, paterr := false
      qfull := false, starveHold := false, frame := none, enumAns := none, echo := none, edges := []
      fault := c.fault && kept, cause := if kept then c.cause else 0
      st := if kept then CState.latched else CState.unadmitted }).keepLatched
  | .vls =>
    let c := (c.uvFault 1).gatesOff t
    ({ c with
      vls := false, supok10 := false, softHi := false, softLo := false, minRun := false, brkWords := false }).keepLatched
  | .vhs =>
    let c : Comp := { (c.uvFault 2) with vhs := false, supok10 := false, softHi := false }
    let c := c.turnOff t .high
    if c.act.brake = 1 then c.turnOff t .low
    else if c.st = .unadmitted ∨ c.st = .gatedOff then c
    else if c.act.safe = 1 ∧ !c.softLo then c.go t .low
    else if c.softLo then c
    else c.turnOff t .low

/-- VLS or VHS rises above its threshold (R174). -/
def Comp.uvloUp (c : Comp) : GateSupply → Comp
  | .vls => { c with vls := true }
  | .vhs => { c with vhs := true }

/-- VDDP, VLS and VHS have stayed above UVLO for 10 ms (R152). -/
def Comp.supok (c : Comp) : Comp := if c.vddp && c.vls && c.vhs then { c with supok10 := true } else c

/-- The primary's heartbeat stops (R175): the safe state held, as far as the supplies allow; a soft turn-off ends first
(R187). -/
def Comp.heartbeatLoss (c : Comp) (t : Nat) : Comp :=
  let c : Comp := { c with holdOne := false, cur := none, queue := [] }
  if c.softHi || c.softLo then c else c.safeGates t c.act.safe

/-! ### Data frames -/

/-- STATUS of a data frame (Table 8.3). -/
def Comp.status (c : Comp) : Nat :=
  let b (x : Bool) (k : Nat) : Nat := if x then 2 ^ k else 0
  c.st.code + b c.supok10 3 + b c.aligned 4 + b c.starved 5 + b c.qfull 6 + b c.dnerr 7
    + b (c.act.brake == 1 && c.lo) 8 + b c.fault 9 + b c.paterr 10

/-- A data frame with its SYNC and CRC (Table 8.3). -/
def mkDataFrame (cur aux status : Nat) : BitVec 64 :=
  let p := cur % 262144 * 2 ^ 30 + aux % 262144 * 4096 + status % 4096
  BitVec.ofNat 64 (0xB4 * 2 ^ 56 + p * 256 + crc8 48 p)

/-- The live conditions a companion's samples give: the OC comparator, VDC and NTC (R173, R184). -/
def Comp.sample (c : Comp) (cyc : Nat) (cur dc : Int) (ntc : Nat) : Comp :=
  let c : Comp := { c with oc := decide (32 * c.act.octh < cur.natAbs), vdc := (dc / 32).toNat }
  if cyc % 4 = 1 then { c with ntc := ntc, ntcLow := if ntc < c.act.otth then c.ntcLow + 1 else 0 } else c

/-- The AUX field by CYC mod 4 (Table 8.3), and the companion without the answer that leaves. With no operation to answer
the field is free. -/
def Comp.auxField (c : Comp) (cyc free : Nat) (dc : BitVec 18) (ntc : Nat) : Nat × Comp :=
  if cyc % 4 = 1 then (ntc, c)
  else if cyc % 4 ≠ 3 then (dc.toNat, c)
  else match c.answers with
    | [] => (free % 262144, c)
    | a :: rest =>
      if a.cyc < cyc then
        let v := if a.addr = 32 then bits (c.statusWord 32) 0 16 else a.val
        (v % 65536 + 65536 * (a.tag % 4), { c with answers := rest })
      else (free % 262144, c)

/-- An aligned companion sends its data frame (R152, R173). -/
def State.dataTx (s : State) (n t : Nat) (cur dc : BitVec 18) (ntc : Nat) : State :=
  let c := s.compOf n
  if !c.vddp || !c.aligned then s
  else
    let cyc := c.now t / busCycle
    let c := c.sample cyc cur.toInt dc.toInt ntc
    let ax := c.auxField cyc s.freeWord.toNat dc ntc
    let f := mkDataFrame cur.toNat ax.1 c.status
    (s.setComp n { ax.2 with frame := some f, dnerr := false, paterr := false, qfull := false }).nextFree

/-- Apply a function to companion n. -/
def State.mapComp (s : State) (n : Nat) (f : Comp → Comp) : State := s.setComp n (f (s.compOf n))

/-- Apply a function to companion n while its primary is powered. -/
def State.mapPrimary (s : State) (n : Nat) (f : Comp → Comp) : State :=
  if (s.compOf n).vddp then s.mapComp n f else s

/-- Leg n is in a converter in TWILL sync (R127). -/
def State.twillLeg (s : State) (n : Nat) : Bool :=
  match s.legConv n with
  | some c => s.get Fld.EDG_CNV_CFG_SYNC c == 2
  | none => false

/-! ### Meanings -/

/-- DOWNSTREAM_FRAME_RX (R145). -/
def execDownstreamFrameRx (t : Nat) (n : Fin 256) (frame : List Bool) (s : State) : Out :=
  .next ((s.touch t).downRx n t frame)

/-- SAFE_BLOCK (R135). -/
def execSafeBlock (t : Nat) (n : Fin 256) (code : Fin 3) (s : State) : Out :=
  .next ((s.touch t).mapPrimary n (fun c => c.safeBlock t code))

/-- PATTERN_BLOCK (R159). -/
def execPatternBlock (t : Nat) (n : Fin 256) (bound period : Nat) (mode : Fin 4) (on off : Nat) (s : State) : Out :=
  .next ((s.touch t).mapPrimary n (fun c =>
    c.pattern t { bound := bound, period := period, mode := mode, on := on, off := off }))

/-- MGMT_READ (R153). -/
def execMgmtRead (t : Nat) (n : Fin 256) (tag : Fin 4) (addr : Fin 128) (s : State) : Out :=
  .next ((s.touch t).compMgmt n t tag false (.half addr) 0)

/-- MGMT_WRITE (R153, R179, R196). -/
def execMgmtWrite (t : Nat) (n : Fin 256) (tag : Fin 4) (dst : MgmtTarget) (data : BitVec 16) (s : State) : Out :=
  .next ((s.touch t).compMgmt n t tag true dst data.toNat)

/-- COMPANION_FRAME_A_LOSS (R151). -/
def execCompanionFrameALoss (t : Nat) (n : Fin 256) (s : State) : Out := .next ((s.touch t).mapPrimary n (fun c => c.lostA t))

/-- COMPANION_DATA_TX (R152). -/
def execCompanionDataTx (t : Nat) (n : Fin 256) (cur dc : BitVec 18) (ntc : BitVec 12) (s : State) : Out :=
  .next ((s.touch t).dataTx n t cur dc ntc.toNat)

/-- COMPANION_BOUNDARY (R158). -/
def execCompanionBoundary (t : Nat) (n : Fin 256) (s : State) : Out :=
  .next ((s.touch t).mapPrimary n (fun c => c.boundary t (s.twillLeg n)))

/-- COMPANION_GATE_EDGE (R169). -/
def execCompanionGateEdge (t : Nat) (n : Fin 256) (side : Side) (s : State) : Out :=
  .next ((s.touch t).mapPrimary n (fun c => c.gateEdge t side))

/-- GATE_SENSE_LOW (R170). -/
def execGateSenseLow (t : Nat) (n : Fin 256) (side : Side) (s : State) : Out :=
  .next ((s.touch t).mapComp n (fun c => c.senseLow t side))

/-- DEAD_TIME_END (R170). -/
def execDeadTimeEnd (t : Nat) (n : Fin 256) (s : State) : Out := .next ((s.touch t).mapComp n (fun c => c.deadEnd t))

/-- SWITCH_TRANSITION (R172). -/
def execSwitchTransition (t : Nat) (n : Fin 256) (rising : Bool) (t10 t90 : Nat) (cur : Int) (s : State) : Out :=
  .next ((s.touch t).mapPrimary n (fun c => c.transition rising t10 t90 cur))

/-- NO_TRANSITION_WINDOW (R172). -/
def execNoTransitionWindow (t : Nat) (n : Fin 256) (edge : EdgeKind) (s : State) : Out :=
  .next ((s.touch t).mapPrimary n (fun c => c.windowEnd t edge))

/-- COMPANION_VDDP_UP (R167). -/
def execCompanionVddpUp (n : Fin 256) (strap : Fin 16) (s : State) : Out :=
  .next (s.mapComp n (fun c => c.vddpUp strap))

/-- COMPANION_UVLO (R174). -/
def execCompanionUvlo (t : Nat) (n : Fin 256) (sup : CompSupply) (s : State) : Out :=
  .next ((s.touch t).mapComp n (fun c => c.uvlo t sup))

/-- COMPANION_UVLO_RECOVERY (R174). -/
def execCompanionUvloRecovery (t : Nat) (n : Fin 256) (sup : GateSupply) (s : State) : Out :=
  .next ((s.touch t).mapComp n (fun c => c.uvloUp sup))

/-- SUPOK10_SET (R152). -/
def execSupok10Set (t : Nat) (n : Fin 256) (s : State) : Out := .next ((s.touch t).mapComp n Comp.supok)

/-- HEARTBEAT_LOSS (R175). -/
def execHeartbeatLoss (t : Nat) (n : Fin 256) (s : State) : Out := .next ((s.touch t).mapComp n (fun c => c.heartbeatLoss t))

end Sys2Proof.Machine
end

