-- ==== Sys2Proof/Machine/Protect.lean ====
section
/-!
DEFINITION. Sys2Proof/Machine/Protect.lean: companion protections (R184 to R189, R195, R178), the BRAKE role (R190 to
R192, R197), BRK pins (R193) and brake saturation (R200).
-/

namespace Sys2Proof.Machine

/-! ### Trips -/

/-- A trip is recorded (R195, Table 10.4): its event bit, TRIPS, the stamp of the first trip, and CAUSE, which keeps the
first trip by time; within one 16-FTU step the lower code governs, and a LATCHED trip during SAFE replaces it. -/
def Comp.recordTrip (c : Comp) (t bit cause : Nat) (latch : Bool) : Comp :=
  let replace := c.cause == 0 || (latch && c.st == .safe)
    || (decide (c.causeAt / 16 = t / 16) && decide (cause < c.cause))
  { c with
    evt := setBit c.evt bit, trips := satSucc 16 c.trips, fault := true
    stamp := match c.stamp with
      | some x => some x
      | none => some (if c.aligned then t % 4294967296 else 0)
    cause := if replace then cause else c.cause
    causeAt := if replace then t else c.causeAt
    st := if latch || c.st == .latched then CState.latched else CState.safe }

/-- The safe state a protection leaves (R187, R188): HOLD_ONE_PERIOD counts as ALL_OFF, a tripped side stays off, and any
turn-on waits for the dead time of R170. -/
def Comp.protSafe (c : Comp) (t : Nat) : Comp :=
  (({ c with cur := none, queue := [], holdOne := false, repeated := false }).safeGates t
    (if c.act.safe = 1 then 1 else 0)).settle

/-- Soft turn-off begins on sides that are on (R187), whose dead time counts from here; with none, the safe state follows at
once. -/
def Comp.softOff (c : Comp) (t : Nat) (high low : Bool) : Comp :=
  let h := high && c.hi && !c.softHi
  let l := low && c.lo && !c.softLo
  let c : Comp := if h then (c.deadFrom t .high).gateMoves t .hoff else c
  let c : Comp := if l then (c.deadFrom t .low).gateMoves t .loff else c
  let c : Comp := { c with
    softHi := c.softHi || h, softLo := c.softLo || l, tripHi := c.tripHi || h, tripLo := c.tripLo || l
    want := none, cur := none, queue := [], holdOne := false }
  if c.softHi || c.softLo then c.settle else c.protSafe t

/-- OC (Table 10.1): every side that is on is softly turned off, and the companion latches. -/
def Comp.ocTrip (c : Comp) (t : Nat) : Comp :=
  ({ (c.recordTrip t 0 4 true) with oc := true }).softOff t true true

/-- Desaturation of a side senses while the side is on and not being turned off, from 400 ns after its turn-on, and the
condition lasts 100 ns (R185, Table 10.1). -/
def Comp.senses (c : Comp) (t : Nat) : Side → Bool
  | .high => c.hi && !c.softHi && decide (c.onHi + 8192 + 2048 ≤ t)
  | .low => c.lo && !c.softLo && decide (c.onLo + 8192 + 2048 ≤ t)

/-- Desaturation of a side (Table 10.1). -/
def Comp.desatTrip (c : Comp) (t : Nat) (side : Side) : Comp :=
  if !c.senses t side then c
  else match side with
    | .high => (c.recordTrip t 1 5 true).softOff t true false
    | .low => (c.recordTrip t 2 6 true).softOff t false true

/-- OV_DC (R188): a BRAKE-role leg ignores OVTH. -/
def Comp.ovTrip (c : Comp) (t vdc : Nat) : Comp :=
  if c.act.brake = 1 || decide (vdc ≤ c.act.ovth) then c
  else
    let c := ({ c with vdc := vdc }).recordTrip t 3 7 false
    if c.st == .latched then c else c.protSafe t

/-- OT (R184, R188): a second NTC code in a row below OTTH. -/
def Comp.otTrip (c : Comp) (t code : Nat) : Comp :=
  if c.act.otth ≤ code then c
  else
    let c := ({ c with ntc := code }).recordTrip t 4 8 false
    if c.st == .latched then c else c.protSafe t

/-- A soft turn-off ends (R187): the side is held off; after the last one the safe state follows. -/
def Comp.softEnd (c : Comp) (t : Nat) (side : Side) : Comp :=
  if !(c.softHi || c.softLo) then c
  else
    let c : Comp := match side with
      | .high => if c.softHi then { c with softHi := false, hi := false } else c
      | .low => if c.softLo then { c with softLo := false, lo := false } else c
    if c.softHi || c.softLo then c else c.protSafe t

/-- The opposite gate has stayed at or above 2.0 V for 2 µs after its turn-off edge in HANDSHAKE mode (R178). -/
def Comp.gateStuck (c : Comp) (t : Nat) : Comp :=
  if c.act.mode ≠ 0 || c.want.isNone || c.sensed || decide (t < c.deadAt + 40960) then c
  else
    let c := (c.recordTrip t 5 3 true).gatesOff t
    ({ c with cur := none, queue := [], holdOne := false }).settle

/-! ### The chopper -/

/-- The active thresholds (R191). -/
def CompCfg.onTh (g : CompCfg) : Nat := if g.ren = 1 then g.ron else g.pon
def CompCfg.offTh (g : CompCfg) : Nat := if g.ren = 1 then g.roff else g.poff

/-- The chopper runs (R192): with brake words held, not in LATCHED, and above the UVLO thresholds. -/
def Comp.chops (c : Comp) : Bool := c.act.brake == 1 && c.brkWords && c.st != .latched && c.vls && c.vhs

/-- The chopper judges VDC (R190): it changes state only once its minimum interval has passed; turning the low side on
ends any wait of the high side. -/
def Comp.chop (c : Comp) (t vdc : Nat) : Comp :=
  let c : Comp := { c with vdc := vdc }
  if !c.chops || c.minRun then c
  else if !c.lo && decide (c.act.onTh < vdc) then
    { ((c.turnOff t .high).turnOn t .low) with minRun := true, brksw := satSucc 16 c.brksw }
  else if c.lo && decide (vdc < c.act.offTh) then { (c.turnOff t .low) with minRun := true }
  else c

/-- The minimum interval ends (R190). -/
def Comp.minEnd (c : Comp) (t vdc : Nat) : Comp := ({ c with minRun := false }).chop t vdc

/-! ### BRK pins -/

/-- A field of the BRAKE record of a group (Table 10.6). -/
def State.brakeFld (s : State) (g off k : Nat) : Nat := s.recFld 0x0052 g off k

/-- The active thresholds of the group a BRK pin follows (R191, R193). -/
def State.brkOn (s : State) (k : Nat) : Nat :=
  let g := s.get Fld.EDG_BRK_CFG_GROUP k
  if s.brakeFld g 4 1 = 1 then s.brakeFld g 0 2 else s.brakeFld g 8 2

def State.brkOff (s : State) (k : Nat) : Nat :=
  let g := s.get Fld.EDG_BRK_CFG_GROUP k
  if s.brakeFld g 4 1 = 1 then s.brakeFld g 2 2 else s.brakeFld g 10 2

/-- The chopper sets its comparator's DAC to the active threshold shifted right by 2 bits (R193), and REGEN follows the
pair. -/
def State.brkDac (s : State) (k : Nat) : State :=
  let th := if s.flag Fld.EDG_BRK_STATUS_BRAKING k then s.brkOff k else s.brkOn k
  let s := s.set Fld.CMP_DAC_DAC (s.get Fld.EDG_BRK_CFG_CMP k) (th / 4)
  s.set Fld.EDG_BRK_STATUS_REGEN k (s.brakeFld (s.get Fld.EDG_BRK_CFG_GROUP k) 4 1)

/-- BRK pin k follows its comparator at a time (R190, R193). -/
def State.brkFollow (s : State) (k t : Nat) : State :=
  let v := s.brkOf k
  let on := s.flag Fld.EDG_BRK_STATUS_BRAKING k
  if !s.flag Fld.EDG_BRK_CFG_EN k || !s.tbRun || decide (t < v.nextAt) || v.above == on then s
  else
    let s := s.setBrk k { v with driven := true, nextAt := t + 40960, since := if on then none else some t }
    let s := s.setFlag Fld.EDG_BRK_STATUS_BRAKING k (!on)
    (if on then s else s.bump Fld.EDG_BRK_STATUS_COUNT k).brkDac k

/-- The claimed comparator's output changes (R193). -/
def State.brkChange (s : State) (k t : Nat) (above : Bool) : State :=
  (s.setBrk k { s.brkOf k with above := above }).brkFollow k t

/-- BRAKING or a BRK pin has stayed set for BRKMAX (R200): SAT and an F2; the chopper runs on (R476). -/
def State.brakeSat (s : State) : BrakeUnit → State
  | .leg n =>
    if (s.dropOf n).brakeSince.isNone then s
    else (s.set Fld.BTR_BRAKE_STAT_SAT n 1).faultF2 blkBTR n (causeOf whyBrakeSat) []
  | .pin k =>
    if (s.brkOf k).since.isNone then s
    else (s.set Fld.EDG_BRK_STATUS_SAT k 1).faultF2 blkEDG k (causeOf whyBrakeSat) []

/-! ### Meanings -/

/-- GATESTUCK (R178). -/
def execGatestuck (t : Nat) (n : Fin 256) (s : State) : Out := .next ((s.touch t).mapComp n (fun c => c.gateStuck t))

/-- OVER_CURRENT_TRIP (R184, R186). -/
def execOverCurrentTrip (t : Nat) (n : Fin 256) (s : State) : Out := .next ((s.touch t).mapComp n (fun c => c.ocTrip t))

/-- DESAT_TRIP (R185). -/
def execDesatTrip (t : Nat) (n : Fin 256) (side : Side) (s : State) : Out :=
  .next ((s.touch t).mapComp n (fun c => c.desatTrip t side))

/-- OV_DC_TRIP (R188). -/
def execOvDcTrip (t : Nat) (n : Fin 256) (vdc : Fin 4096) (s : State) : Out :=
  .next ((s.touch t).mapComp n (fun c => c.ovTrip t vdc))

/-- OVER_TEMPERATURE_TRIP (R184). -/
def execOverTemperatureTrip (t : Nat) (n : Fin 256) (code : Fin 4096) (s : State) : Out :=
  .next ((s.touch t).mapComp n (fun c => c.otTrip t code))

/-- SOFT_TURNOFF_END (R187). -/
def execSoftTurnoffEnd (t : Nat) (n : Fin 256) (side : Side) (s : State) : Out :=
  .next ((s.touch t).mapComp n (fun c => c.softEnd t side))

/-- BRAKE_CHOPPER_ON (R190). -/
def execBrakeChopperOn (t : Nat) (n : Fin 256) (vdc : Fin 4096) (s : State) : Out :=
  .next ((s.touch t).mapComp n (fun c => c.chop t vdc))

/-- BRAKE_CHOPPER_OFF (R190). -/
def execBrakeChopperOff (t : Nat) (n : Fin 256) (vdc : Fin 4096) (s : State) : Out :=
  .next ((s.touch t).mapComp n (fun c => c.chop t vdc))

/-- BRAKE_MIN_INTERVAL_END (R190). -/
def execBrakeMinIntervalEnd (t : Nat) (who : BrakeUnit) (vdc : Fin 4096) (s : State) : Out :=
  .next (match who with
    | .leg n => (s.touch t).mapComp n (fun c => c.minEnd t vdc)
    | .pin k => (s.touch t).brkFollow k t)

/-- BRK_PIN_CHANGE (R193). -/
def execBrkPinChange (t : Nat) (k : Fin 4) (above : Bool) (s : State) : Out := .next ((s.touch t).brkChange k t above)

/-- BRAKE_SATURATION (R200). -/
def execBrakeSaturation (t : Nat) (who : BrakeUnit) (s : State) : Out := .next ((s.touch t).brakeSat who)

end Sys2Proof.Machine
end

