-- ==== Sys2Proof/Machine/Comparator.lean ====
section
/-!
DEFINITION. Sys2Proof/Machine/Comparator.lean: comparators (chapter 12): raw and accepted edges (R221, R224), the slope
ramp (R222, R223), tests (R229), the hold after a mode change (R227), and ENABLE and DISABLE (R230).
-/

namespace Sys2Proof.Machine

def State.cmpUser (s : State) (k : Nat) : Nat := s.get Fld.CMP_ROUTE_USER k

/-- The DAC level in force at a time, in 1/4,096 codes (R222, R223): the code, less the ramp, stopped at 0. -/
def State.cmpDacAt (s : State) (k t : Nat) : Nat :=
  let v := s.cmpOf k
  let dac := v.oldDac.getD (s.get Fld.CMP_DAC_DAC k)
  match v.rampAt with
  | none => dac * 4096
  | some t0 => dac * 4096 - s.get Fld.CMP_RAMP_SLOPE k * ((t - t0) / 64)

/-- Half the hysteresis of a HYST code, in microvolts (R221). -/
def hystHalf (h : Nat) : Nat := if h = 0 then 0 else if h = 1 then 2500 else if h = 2 then 5000 else 10000

/-- A comparison with hysteresis (R221): two voltages and half the hysteresis in one unit, and the level before. -/
def crossHyst (half pos neg : Nat) (was : Bool) : Bool :=
  if neg + half < pos then true else if pos + half < neg then false else was

/-- The positive input in microvolts, from the voltage of the pin that POS names: TIE puts another in its place (R229). -/
def State.cmpPos (s : State) (k pos : Nat) : Nat :=
  match s.get Fld.CMP_TEST_TIE k with
  | 1 => 200000
  | 2 => 900000
  | 3 => 1600000
  | _ => pos

/-- The comparison before INV (R220, R221, R229), from the microvolts at the pins that POS and NEGPIN name. A step of 1/4,096
code is 1.8 V / 2^22, so a microvolt is 2^22 and such a step 1,800,000 of one unit. -/
def State.cmpAbove (s : State) (k t pos neg : Nat) : Bool :=
  let p := s.cmpPos k pos * 4194304
  let n := if s.get Fld.CMP_CFG_NEGSEL k = 0 then s.cmpDacAt k t * 1800000 else neg * 4194304
  let half := hystHalf (s.get Fld.CMP_CFG_HYST k) * 4194304
  if s.get Fld.CMP_TEST_SWAP k = 0 then crossHyst half p n (s.cmpOf k).raw else crossHyst half n p (s.cmpOf k).raw

/-- The level that a comparison gives the output: INV inverts it before all routes (R221). -/
def State.cmpWants (s : State) (k : Nat) : Bool := (s.cmpOf k).raw != s.flag Fld.CMP_CFG_INV k

/-- The BRK pin whose record claims a comparator. -/
def State.cmpBrk (s : State) (k : Nat) : Option Nat :=
  (List.range 4).find? (fun j => s.flag Fld.EDG_BRK_CFG_EN j && s.get Fld.EDG_BRK_CFG_CMP j == k)

/-- AUXDRV goes low (R274): the regulator's off-edge, which ends the ramps that follow it (R222). -/
def State.auxOffEdge (s : State) (k : Nat) : State := (s.setAux k { s.auxOf k with drv := false }).rampsEnd (32 + k)

/-- The LEB system cycles of blanking have passed since AUXDRV went high (R274); where each cycle starts is open (R523), so
they are counted at their shortest. -/
def State.auxUnblanked (s : State) (k t : Nat) : Bool := decide ((s.auxOf k).onAt + 63 * s.get Fld.AUX_SS_LEB k ≤ t)

/-- A claimed comparator's output rises (R224, R274): the on-time of the regulator that claims it ends. -/
def State.auxSense (s : State) (c t : Nat) : State :=
  match (List.range 8).find? (fun j => s.hasRec 0x0074 j && s.get Fld.AUX_CFG_CMP j == c) with
  | some j => if (s.auxOf j).drv && s.auxUnblanked j t then s.auxOffEdge j else s
  | none => s

/-- The output takes a level at a time: the unfiltered BRAKE and regulator routes follow (R193, R274), and the filter starts
(R224). -/
def State.cmpLevel (s : State) (k t : Nat) (level : Bool) : State :=
  let v := s.cmpOf k
  let s := s.setFlag Fld.CMP_STATUS_OUT k level
  let s := s.setCmp k { v with edgeAt := if v.quiet || level == v.acc then none else some t }
  if s.cmpUser k = 1 then
    match s.cmpBrk k with
    | some j => s.brkChange j t level
    | none => s
  else if s.cmpUser k = 2 && level then s.auxSense k t
  else s

/-- The inputs are compared (R221): a change of the level reaches the output unless it is held (R227). -/
def State.cmpRaw (s : State) (k t : Nat) (v : PinVolts) : State :=
  let s := s.setCmp k { s.cmpOf k with raw := s.cmpAbove k t v.pos v.neg }
  if !s.cmpRuns k || (s.cmpOf k).held || s.cmpWants k == s.flag Fld.CMP_STATUS_OUT k then s
  else s.cmpLevel k t (s.cmpWants k)

/-- An edge is selected: 0 none, 1 rising, 2 falling, 3 both. -/
def edgeSel (sel : Nat) (rising : Bool) : Bool := sel == 3 || (sel == 1 && rising) || (sel == 2 && !rising)

/-- The output has held its new level for FILT system cycles (R224): capture with the stamp of the raw edge, and interrupt.
No edge is accepted during a hold (R227). The starts of the cycles are open (R523), so FILT of them take at least FILT - 1 of
the shortest. -/
def State.cmpAccept (s : State) (k t : Nat) : State :=
  let v := s.cmpOf k
  match v.edgeAt with
  | none => s
  | some t0 =>
    if v.held || v.quiet || decide (t < t0 + 63 * (s.get Fld.CMP_CFG_FILT k - 1)) then s
    else
      let up := s.flag Fld.CMP_STATUS_OUT k
      let s := s.setCmp k { v with acc := up, edgeAt := none }
      let s := if edgeSel (s.get Fld.CMP_ROUTE_CAPEDGE k) up then
          (s.set64 Fld.CMP_CAP_LO_STAMP Fld.CMP_CAP_HI_STAMP k t0).bump Fld.CMP_CNT_EDGES k
        else s
      if edgeSel (s.get Fld.CMP_ROUTE_IRQEDGE k) up then
        s.event (if up then Fld.CMP_STATUS_RISE else Fld.CMP_STATUS_FALL) k (608 + k)
      else s

/-- The level of a ramp source at a time: a local output's active level (R130), or AUXDRV (R222). -/
def State.rampSource (s : State) (k t : Nat) : Bool :=
  let src := s.get Fld.CMP_RAMP_RAMPSRC k
  if src < 32 then s.locActiveAt src t else (s.auxOf (src - 32)).drv

/-- The owner that CMP_CFG names may write an unclaimed comparator (R225). -/
def State.cmpOwns (s : State) (a : Acc) (k : Nat) : Bool :=
  s.cmpUser k == 0 && isCore a (s.get Fld.CMP_CFG_OWNER k)

/-- A write of CMP_DAC (R223). -/
def State.writeCmpDac (s : State) (a : Acc) (k v : Nat) : State :=
  if !s.cmpOwns a k || decide (1024 ≤ v) then s.busErr
  else
    let o := s.cmpOf k
    let s := if s.get Fld.CMP_RAMP_RAMPSRC k = 63 then s.setCmp k { o with oldDac := none }
      else s.setCmp k { o with oldDac := some (o.oldDac.getD (s.get Fld.CMP_DAC_DAC k)) }
    (s.set Fld.CMP_DAC_DAC k v).ok

/-- A write of CMP_TEST (R229): TIE or SWAP suppresses the routes; 0 restores the inputs. -/
def State.writeCmpTest (s : State) (a : Acc) (k v : Nat) : State :=
  if !s.cmpOwns a k || decide (8 ≤ v) then s.busErr
  else
    let s := (s.set Fld.CMP_TEST_TIE k (v % 4)).set Fld.CMP_TEST_SWAP k (v / 4)
    if v = 0 then s.ok
    else
      ((s.set Fld.CMP_STATUS_STATE k cpTest).setCmp k { s.cmpOf k with quiet := true, edgeAt := none }).ok

/-- The routes resume after a test (R229): no edge from the test is delivered, and a comparator that is not enabled is OFF
again. -/
def State.cmpResume (s : State) (k : Nat) : State :=
  let v := s.cmpOf k
  if !v.quiet || s.get Fld.CMP_TEST_TIE k != 0 || s.get Fld.CMP_TEST_SWAP k != 0 then s
  else
    let s := s.setCmp k { v with quiet := false, acc := s.flag Fld.CMP_STATUS_OUT k, edgeAt := none }
    if s.cmpState k ≠ cpTest then s
    else if v.on then s.set Fld.CMP_STATUS_STATE k cpRun
    else (s.setFlag Fld.CMP_STATUS_OUT k false).set Fld.CMP_STATUS_STATE k cpOff

/-- An overlay has changed MODE (R227): MODECHG, and every route of a comparator that runs holds its level. -/
def State.cmpModeHold (s : State) (k : Nat) : State :=
  let s := s.set Fld.CMP_STATUS_MODECHG k 1
  if s.cmpRuns k then s.setCmp k { s.cmpOf k with held := true } else s

/-- The hold ends (R227): an edge results where the level differs from the held one. -/
def State.cmpHoldEnd (s : State) (k t : Nat) : State :=
  if !(s.cmpOf k).held then s
  else
    let s := s.setCmp k { s.cmpOf k with held := false }
    if s.cmpWants k == s.flag Fld.CMP_STATUS_OUT k then s else s.cmpLevel k t (s.cmpWants k)

/-- A comparator runs: its output follows the comparison, and no edge results. A request met in the one cycle of DRAINING
acts when it ends (R481), which no later command can tell from acting at once. -/
def State.cmpEnable (s : State) (k : Nat) : State :=
  if (s.cmpOf k).on then s
  else
    let tied := s.get Fld.CMP_TEST_TIE k != 0 || s.get Fld.CMP_TEST_SWAP k != 0
    let s := s.setCmp k { s.cmpOf k with acc := s.cmpWants k, edgeAt := none, quiet := tied, held := false, on := true }
    (s.setFlag Fld.CMP_STATUS_OUT k (s.cmpWants k)).set Fld.CMP_STATUS_STATE k (if tied then cpTest else cpRun)

/-- DISABLE (R230): DRAINING for one system cycle, then OFF; the output reads 0. -/
def State.cmpDisable (s : State) (k : Nat) : State :=
  if !s.cmpRuns k then s
  else
    let s := (s.rampEnd k).setCmp k { s.cmpOf k with
      edgeAt := none, held := false, rampAt := none, acc := false, on := false, drainAt := s.tb }
    (s.setFlag Fld.CMP_STATUS_OUT k false).set Fld.CMP_STATUS_STATE k cpDrain

/-- A write of CMP_CTRL (Table 12.5, R230); DISABLE wins. -/
def State.writeCmpCtrl (s : State) (a : Acc) (k v : Nat) : State :=
  if !s.cmpOwns a k || decide (4 ≤ v) then s.busErr
  else if v.testBit 1 then (s.cmpDisable k).ok
  else if v.testBit 0 then (s.cmpEnable k).ok
  else s.ok

/-! ### Meanings -/

/-- COMPARATOR_RAW_EDGE (R221), with the microvolts at the pins that POS and NEGPIN name. -/
def execComparatorRawEdge (t : Nat) (k : Fin 32) (v : PinVolts) (s : State) : Out := .next ((s.touch t).cmpRaw k t v)

/-- COMPARATOR_EDGE_ACCEPTED (R224). -/
def execComparatorEdgeAccepted (t : Nat) (k : Fin 32) (s : State) : Out := .next ((s.touch t).cmpAccept k t)

/-- SLOPE_RAMP_START (R222): an on-edge, after which the source is on. -/
def execSlopeRampStart (t : Nat) (k : Fin 32) (s : State) : Out :=
  let s := s.touch t
  .next (if s.rampSource k t then s.rampStart k t else s)

/-- SLOPE_RAMP_END (R222): an off-edge, after which the source is off. -/
def execSlopeRampEnd (t : Nat) (k : Fin 32) (s : State) : Out :=
  let s := s.touch t
  .next (if s.rampSource k t then s else s.rampEnd k)

/-- CMP_DAC_WRITE (R223). -/
def execCmpDacWrite (a : Acc) (k : Fin 32) (v : Word) (s : State) : Out := .next ((s.touch a.t).writeCmpDac a k v.toNat)

/-- CMP_TEST_WRITE (R229). -/
def execCmpTestWrite (a : Acc) (k : Fin 32) (v : Word) (s : State) : Out :=
  .next ((s.touch a.t).writeCmpTest a k v.toNat)

/-- CMP_TEST_ROUTES_RESUME (R229). -/
def execCmpTestRoutesResume (t : Nat) (k : Fin 32) (s : State) : Out := .next ((s.touch t).cmpResume k)

/-- CMP_MODE_HOLD_END (R227). -/
def execCmpModeHoldEnd (t : Nat) (k : Fin 32) (s : State) : Out := .next ((s.touch t).cmpHoldEnd k t)

/-- CMP_ENABLE (R230). -/
def execCmpEnable (a : Acc) (k : Fin 32) (s : State) : Out := .next ((s.touch a.t).writeCmpCtrl a k 1)

/-- CMP_DISABLE (R230). -/
def execCmpDisable (a : Acc) (k : Fin 32) (s : State) : Out := .next ((s.touch a.t).writeCmpCtrl a k 2)

end Sys2Proof.Machine
end

