-- ==== Sys2Proof/Machine/AuxReg.lean ====
section
/-!
DEFINITION. Sys2Proof/Machine/AuxReg.lean: auxiliary regulators (chapter 15): periods and the compensator (R274, R275),
soft start, fold-back and groups (R276 to R278), shorts and retries (R279 to R282), disables (R283).
-/

namespace Sys2Proof.Machine

def auOff : Nat := 0
def auSoft : Nat := 1
def auRun : Nat := 2
def auHiccup : Nat := 3
def auHold : Nat := 4
def auShort : Nat := 5
def auDrain : Nat := 6

def State.auxSt (s : State) (k : Nat) : Nat := s.get Fld.AUX_STATUS_STATE k

/-- t7 of Table 3.1: every regulator channel with EN 1 is in RUN (R528). -/
def State.tryT7 (s : State) : State :=
  if s.inStart 6 && (List.range 8).all (fun k => !s.flag Fld.AUX_CFG_EN k || s.auxSt k == auRun) then s.startStep 7 else s

/-- A change of STATE raises source 704 + 2k. -/
def State.auxGo (s : State) (k st : Nat) : State :=
  if s.auxSt k = st then s else ((s.set Fld.AUX_STATUS_STATE k st).raise (704 + 2 * k)).tryT7

def State.auxEvent (s : State) (f : Fld) (k : Nat) : State := if s.flag f k then s else s.event f k (705 + 2 * k)

/-! ### Groups (R277) -/

def State.auxLead (s : State) (k : Nat) : Nat := if s.get Fld.AUX_CFG_TRACK k = 0 then k else s.get Fld.AUX_CFG_LEADER k

/-- The members of a leader's group: channels in use. -/
def State.auxGroup (s : State) (l : Nat) : List Nat :=
  (List.range 8).filter (fun k => s.flag Fld.AUX_CFG_EN k && s.auxLead k == l)

/-- TSS in FTU. -/
def State.tss (s : State) (l : Nat) : Nat := s.get Fld.AUX_SS_TSS l * 2048000

def State.auxVtgt (s : State) (k : Nat) : Nat := s.get Fld.AUX_TGT_VTGT k

/-- ref as numerator and denominator, in codes, at a progress (R276, R277). -/
def State.auxRef (s : State) (k p : Nat) : Nat × Nat :=
  let l := s.auxLead k
  if s.get Fld.AUX_CFG_TRACK k = 2 then
    let den := s.tss l * s.get Fld.AUX_TGT_FBFS k
    (Nat.min (s.auxVtgt k * den) (s.auxVtgt l * s.get Fld.AUX_TGT_FBFS l * p), den)
  else (s.auxVtgt k * Nat.min p (s.tss l), s.tss l)

/-- ref has reached VTGT. -/
def State.auxThere (s : State) (k p : Nat) : Bool :=
  decide (s.auxVtgt k * (s.auxRef k p).2 ≤ (s.auxRef k p).1)

/-- The progress at which a channel stands: its own, or its group's. -/
def State.auxProg (s : State) (k : Nat) : Nat := (s.auxOf k).own.getD (s.auxOf (s.auxLead k)).prog

/-- fb lies below ref by more than 10 % of VTGT (R277). -/
def State.auxLags (s : State) (k : Nat) : Bool :=
  let r := s.auxRef k (s.auxProg k)
  decide (((10 * s.get Fld.AUX_MEAS_FB k + s.auxVtgt k) * r.2 : Nat) < 10 * r.1)

/-- A member holds the group's other members where they stand (R280). -/
def State.auxHeldBy (s : State) (k : Nat) : Bool :=
  s.auxSt k == auHiccup || s.auxSt k == auShort || (s.auxSt k == auSoft && (s.auxOf k).own.isSome)

/-- The group's progress moves on to a time unless it is held or paused (R277, R280). -/
def State.auxAdvance (s : State) (l t : Nat) : State :=
  let g := s.auxGroup l
  let v := s.auxOf l
  let held := g.any (fun k => s.auxHeldBy k)
  let lag := decide (1 < g.length) && g.any (fun k => s.auxSt k != auOff && s.auxSt k != auDrain && s.auxLags k)
  let paused := lag && !held
  let s := g.foldl (fun s k => s.setFlag Fld.AUX_STATUS_PAUSED k (paused && s.auxSt k == auSoft)) s
  s.setAux l { v with prog := if held || lag then v.prog else v.prog + (t - v.progAt), progAt := t }

/-! ### Tickets (R278) -/

def State.auxOpen (s : State) (l attempt : Nat) : State :=
  match s.openOp 3 l [BitVec.ofNat 8 attempt] [] with
  | none => s.auxEvent Fld.AUX_STATUS_NOTICKET l
  | some (tk, s) => s.setAux l { s.auxOf l with ticket := some tk, lastTkt := some tk }

def State.auxClose (s : State) (l outcome : Nat) : State :=
  match (s.auxOf l).ticket with
  | none => s
  | some tk => (s.closeOp tk outcome).setAux l { s.auxOf l with ticket := none }

/-- The number of a channel's present attempt. -/
def State.auxAttempt (s : State) (k : Nat) : Nat := s.get Fld.AUX_STATUS_RETRY k + 1

/-! ### Attempts -/

/-- The channel starts an attempt at a time, from ref 0. Its compensator starts at 0 too: DESIGN CHOICE (log entry 49). -/
def State.auxBegin (s : State) (k t : Nat) (own : Bool) : State :=
  let s := s.setAux k { s.auxOf k with
    own := if own then some 0 else none, ownAt := t, e1 := 0, e2 := 0, acc := 0
    attemptAt := t, check := true, lowSince := none }
  s.auxGo k auSoft

/-- A group's soft start (R277, R278). -/
def State.auxStart (s : State) (l t : Nat) : State :=
  let s := s.setAux l { s.auxOf l with prog := 0, progAt := t, enHeld := false, needTkt := false }
  let s := (s.auxGroup l).foldl (fun s k => if s.auxSt k = auOff then s.auxBegin k t false else s) s
  match (s.auxOf l).resume with
  | some (tk, n) =>
    let s := s.setAux l { s.auxOf l with resume := none, ticket := some tk, lastTkt := some tk }
    (s.set Fld.AUX_STATUS_RETRY l (Nat.min 7 n)).progOp tk (Nat.min 8 (n + 1))
  | none => s.auxOpen l 1

/-- A channel's failed attempt (R279): HICCUP, or SHORT on the eighth; the group's other members hold (R280). A start that
ends in SHORT holds START. -/
def State.auxFail (s : State) (k t : Nat) : State :=
  let l := s.auxLead k
  let fromRun := s.auxSt k == auRun
  let s := s.auxOffEdge k
  let s := s.setAux k { s.auxOf k with hiccAt := t, check := false, lowSince := none, own := none }
  let s := (s.auxGroup l).foldl (fun s j =>
    if j ≠ k && (s.auxSt j == auSoft || s.auxSt j == auRun) && (s.auxOf j).own.isNone then s.auxGo j auHold else s) s
  if s.get Fld.AUX_STATUS_RETRY k = 7 then
    let s := ((s.auxGo k auShort).auxEvent Fld.AUX_STATUS_REG_SHORT k).auxClose l ocFailed
    let s := s.faultF2 blkAUX k (causeOf whyAuxShort) []
    if s.pow.st == .start then { s with pow := { s.pow with held := true } } else s
  else
    let s := if fromRun then s.setAux l { s.auxOf l with needTkt := true } else s
    (s.bump Fld.AUX_CNT_HICCUPS k).auxGo k auHiccup

/-- fb is below 30 % of VTGT. -/
def State.auxLow (s : State) (k : Nat) : Bool := decide (10 * s.get Fld.AUX_MEAS_FB k < 3 * s.auxVtgt k)

/-- Another member's fb holds the group's progress while this one's follows its ref: it is not the one that fails. DEDUCED from
Table 15.4 (log entry 49). -/
def State.auxInnocent (s : State) (k : Nat) : Bool :=
  !s.auxLags k && (s.auxGroup (s.auxLead k)).any (fun j => j != k && s.auxLags j)

/-- The short check of an attempt (R279). -/
def State.auxCheck (s : State) (k t : Nat) : State :=
  let v := s.auxOf k
  if !v.check || (s.auxSt k != auSoft && s.auxSt k != auRun) || decide (t < v.attemptAt + s.tss (s.auxLead k) + 2 * ftuMs)
  then s
  else
    let s := s.setAux k { v with check := false }
    if s.auxLow k && !s.auxInnocent k then s.auxFail k t else s

/-- fb has stayed below 30 % of VTGT for 2 ms in RUN (R281). -/
def State.auxRunShort (s : State) (k t : Nat) : State :=
  match (s.auxOf k).lowSince with
  | some x => if s.auxSt k = auRun && decide (x + 2 * ftuMs ≤ t) then s.auxFail k t else s
  | none => s

/-- A retry begins (R279): the channel ramps its own ref from 0, with the group's ticket. -/
def State.auxRetry (s : State) (k t : Nat) : State :=
  let l := s.auxLead k
  if s.auxSt k ≠ auHiccup || decide (t < (s.auxOf k).hiccAt + 64 * ftuMs) then s
  else
    let s := (s.set Fld.AUX_STATUS_RETRY k (s.get Fld.AUX_STATUS_RETRY k + 1)).auxBegin k t true
    if (s.auxOf l).needTkt then (s.setAux l { s.auxOf l with needTkt := false }).auxOpen l (s.auxAttempt k)
    else match (s.auxOf l).ticket with
      | some tk => s.progOp tk (s.auxAttempt k)
      | none => s

/-- CLRSHORT (R282, R481): the first attempt again, with the same ticket; OFF where a disable met SHORT. -/
def State.auxClrShort (s : State) (k t : Nat) : State :=
  let l := s.auxLead k
  if s.auxSt k ≠ auShort then s
  else if (s.auxOf k).offPend then
    ((s.setAux k { s.auxOf k with offPend := false }).set Fld.AUX_STATUS_RETRY k 0).auxGo k auOff
  else
    let s := (s.set Fld.AUX_STATUS_RETRY k 0).auxBegin k t true
    match (s.auxOf l).lastTkt with
    | none => s.auxOpen l 1
    | some tk =>
      match s.reopenOp tk 3 l [1] with
      | none => s.auxEvent Fld.AUX_STATUS_NOTICKET l
      | some (tk, s) => s.setAux l { s.auxOf l with ticket := some tk, lastTkt := some tk }

/-! ### Periods -/

/-- A channel's own progress (R280): a retry that reaches the held point joins its group, which then advances together. -/
def State.auxOwn (s : State) (k t : Nat) : State :=
  let l := s.auxLead k
  let v := s.auxOf k
  match v.own with
  | none => s
  | some p =>
    let q := p + (t - v.ownAt)
    let goal := (s.auxOf l).prog
    if q < goal then s.setAux k { v with own := some q, ownAt := t }
    else
      let s := s.setAux k { v with own := none }
      let s := s.setAux l { s.auxOf l with progAt := t }
      let g := s.auxGroup l
      if g.any (fun j => s.auxHeldBy j) then s
      else g.foldl (fun s j =>
        if s.auxSt j = auHold then
          (s.setAux j { s.auxOf j with runSince := t }).auxGo j (if s.auxThere j (s.auxOf l).prog then auRun else auSoft)
        else s) s

/-- A channel whose ref has reached VTGT is in RUN (R276); the group's ticket completes once every member is. -/
def State.auxArrive (s : State) (k t : Nat) : State :=
  let l := s.auxLead k
  if s.auxSt k ≠ auSoft || (s.auxOf k).own.isSome || !s.auxThere k (s.auxProg k) then s
  else
    let s := (s.setAux k { s.auxOf k with runSince := t }).auxGo k auRun
    if (s.auxGroup l).all (fun j => s.auxSt j == auRun) then s.auxClose l ocComplete else s

/-- The fold-back limit of R276, as numerator and denominator. -/
def State.auxIlim (s : State) (k : Nat) : Nat × Nat :=
  let imax := s.get Fld.AUX_LIM_IMAX k
  let v := s.auxVtgt k
  let den := 28 * Nat.max 1 v
  (imax * Nat.min den (7 * v + 30 * s.get Fld.AUX_MEAS_FB k), den)

/-- The compensator (R275): u is the comparator's DAC code. -/
def State.auxComp (s : State) (k : Nat) : State :=
  let free := s.freeWord
  let s := s.nextFree
  let v := s.auxOf k
  let r := s.auxRef k (s.auxProg k)
  let ref := roundFree free r.1 (Nat.max 1 r.2)
  let il := s.auxIlim k
  let ilim := roundFree (free >>> 1) il.1 il.2
  let e := ref - s.get Fld.AUX_MEAS_FB k
  let acc := v.acc + sgn 16 (s.get Fld.AUX_B01_B0 k) * e + sgn 16 (s.get Fld.AUX_B01_B1 k) * v.e1
    + sgn 16 (s.get Fld.AUX_B2_B2 k) * v.e2
  let u := clampInt 0 ilim (roundFree (free >>> 2) acc 4096)
  let acc := if u = ilim || u = 0 then u * 4096 else acc
  let s := s.setAux k { v with acc := acc, e2 := v.e1, e1 := e }
  let s := (s.set Fld.AUX_MEAS_U k u.toNat).set Fld.AUX_MEAS_ILIM k ilim.toNat
  let s := if u = ilim then s.auxEvent Fld.AUX_STATUS_LIMIT k else s
  s.set Fld.CMP_DAC_DAC (s.get Fld.AUX_CFG_CMP k) u.toNat

/-- A drain step (Table 15.1): ref falls at the rate of the soft start; at 0 AUXDRV is low and the channel is OFF. -/
def State.auxDrainStep (s : State) (k t : Nat) : State :=
  let l := s.auxLead k
  let v := s.auxOf k
  let q := v.own.getD 0 - (t - v.ownAt)
  if q ≠ 0 then (s.setAux k { v with own := some q, ownAt := t }).auxComp k
  else
    let s := ((s.setAux k { v with own := none }).auxOffEdge k).auxGo k auOff
    let g := s.auxGroup l
    if (s.auxOf l).enHeld && g.all (fun j => s.auxSt j == auOff) && s.fnOn (fnAux l) then s.auxStart l t else s

/-- A period starts with the sample taken before it (R274, R275). -/
def State.auxPeriod (s : State) (k t fb : Nat) : State :=
  let st := s.auxSt k
  let s := s.set Fld.AUX_MEAS_FB k fb
  if st = auOff || st == auHiccup || st == auShort then s
  else
    let s := (s.setAux k { s.auxOf k with drv := true, onAt := t }).rampsStart (32 + k) t
    if st = auDrain then s.auxDrainStep k t
    else
      let s := ((s.auxAdvance (s.auxLead k) t).auxOwn k t).auxArrive k t
      let v := s.auxOf k
      let s := s.setAux k { v with lowSince := if s.auxLow k then some (v.lowSince.getD t) else none }
      let s := if s.auxSt k = auRun && decide (v.runSince + ftuSec ≤ t) then s.set Fld.AUX_STATUS_RETRY k 0 else s
      s.auxComp k

/-- The on-time ends (R274): the comparator's output is 1 after blanking, or DMAX % of the period has passed. -/
def State.auxOntimeEnd (s : State) (k t : Nat) : State :=
  let sensed := s.flag Fld.CMP_STATUS_OUT (s.get Fld.AUX_CFG_CMP k) && s.auxUnblanked k t
  let full := decide (s.get Fld.AUX_SS_DMAX k * s.get Fld.AUX_PERIOD_PERIOD k ≤ 100 * (t - (s.auxOf k).onAt))
  if (s.auxOf k).drv && (sensed || full) then s.auxOffEdge k else s

/-! ### Disable (R283) -/

/-- The progress from which a channel's ref falls: no further than where it reaches VTGT. -/
def State.auxTop (s : State) (k : Nat) : Nat :=
  let l := s.auxLead k
  if s.get Fld.AUX_CFG_TRACK k = 2 then
    let den := Nat.max 1 (s.auxVtgt l * s.get Fld.AUX_TGT_FBFS l)
    Nat.min (s.auxProg k) (s.auxVtgt k * s.get Fld.AUX_TGT_FBFS k * s.tss l / den)
  else Nat.min (s.auxProg k) (s.tss l)

/-- DISABLE of a member applies to its whole group. -/
def State.auxDisable (s : State) (k t : Nat) : State :=
  let l := s.auxLead k
  let s := s.auxClose l ocCancelled
  (s.auxGroup l).foldl (fun s j =>
    let st := s.auxSt j
    if st = auOff || st == auDrain then s
    else if st = auShort then s.setAux j { s.auxOf j with offPend := true }
    else if st = auHiccup then ((s.setAux j { s.auxOf j with own := none }).auxOffEdge j).auxGo j auOff
    else (s.setAux j { s.auxOf j with own := some (s.auxTop j), ownAt := t, check := false }).auxGo j auDrain) s

/-- DISABLE with IMMEDIATE: AUXDRV low, OFF. -/
def State.auxDisableNow (s : State) (k : Nat) : State :=
  let l := s.auxLead k
  let s := (s.auxClose l ocCancelled).setAux l { (s.auxClose l ocCancelled).auxOf l with enHeld := false }
  (s.auxGroup l).foldl (fun s j =>
    let st := s.auxSt j
    if st = auOff then s
    else if st = auShort then (s.setAux j { s.auxOf j with offPend := true }).auxOffEdge j
    else ((s.setAux j { s.auxOf j with own := none, check := false }).auxOffEdge j).auxGo j auOff) s

/-- ENABLE (R481): held while the group drains. -/
def State.auxEnable (s : State) (k t : Nat) : State :=
  let l := s.auxLead k
  let g := s.auxGroup l
  if g.any (fun j => s.auxSt j == auDrain) then s.setAux l { s.auxOf l with enHeld := true }
  else if s.flag Fld.AUX_CFG_EN k && g.all (fun j => s.auxSt j == auOff) then s.auxStart l t
  else s

/-- A write of AUX_CTRL (R285, R59); DISABLE wins. -/
def State.writeAuxCtrl (s : State) (a : Acc) (k v : Nat) : State :=
  if !s.hasRec 0x0074 k || !isKernel a (s.fnOwner (fnAux k)) || decide (16 ≤ v) then s.busErr
  else if v.testBit 0 && !v.testBit 1 && !s.fnOn (fnAux k) then s.busErr
  else
    let s := if v.testBit 3 then s.auxClrShort k a.t else s
    let s :=
      if v.testBit 1 then (if v.testBit 2 then s.auxDisableNow k else s.auxDisable k a.t)
      else if v.testBit 0 then s.auxEnable k a.t else s
    s.ok

/-- Step t6 (R273, R278): the comparators claimed by any record are set (R225), and every channel in use starts. -/
def State.auxT6 (s : State) (t : Nat) : State :=
  let on := (List.range 8).filter (fun k => s.flag Fld.AUX_CFG_EN k)
  let s := ((List.range 8).filter (fun k => s.hasRec 0x0074 k)).foldl (fun s k =>
    let c := s.get Fld.AUX_CFG_CMP k
    let s := (s.set Fld.CMP_CFG_MODE c 0).set Fld.CMP_CFG_NEGSEL c 0
    let s := (s.set Fld.CMP_RAMP_RAMPSRC c (32 + k)).set Fld.CMP_RAMP_SLOPE c (s.get Fld.AUX_LIM_SLOPE k)
    s.cmpEnable c) s
  (on.filter (fun k => s.auxLead k == k)).foldl (fun s k => s.auxStart k t) s

/-! ### Meanings -/

/-- AUX_PERIOD_START (R274). -/
def execAuxPeriodStart (t : Nat) (k : Fin 8) (fb : Fin 4096) (s : State) : Out := .next ((s.touch t).auxPeriod k t fb)

/-- AUX_ONTIME_END (R274). -/
def execAuxOntimeEnd (t : Nat) (k : Fin 8) (s : State) : Out := .next ((s.touch t).auxOntimeEnd k t)

/-- AUX_SHORT_CHECK (R279). -/
def execAuxShortCheck (t : Nat) (k : Fin 8) (s : State) : Out := .next ((s.touch t).auxCheck k t)

/-- AUX_RUN_SHORT (R281). -/
def execAuxRunShort (t : Nat) (k : Fin 8) (s : State) : Out := .next ((s.touch t).auxRunShort k t)

/-- AUX_HICCUP_END (R279). -/
def execAuxHiccupEnd (t : Nat) (k : Fin 8) (s : State) : Out := .next ((s.touch t).auxRetry k t)

/-- AUX_ENABLE (R283). -/
def execAuxEnable (a : Acc) (k : Fin 8) (s : State) : Out := .next ((s.touch a.t).writeAuxCtrl a k 1)

/-- AUX_DISABLE (R283). -/
def execAuxDisable (a : Acc) (k : Fin 8) (s : State) : Out := .next ((s.touch a.t).writeAuxCtrl a k 2)

/-- AUX_DISABLE_IMMEDIATE (R283). -/
def execAuxDisableImmediate (a : Acc) (k : Fin 8) (s : State) : Out := .next ((s.touch a.t).writeAuxCtrl a k 6)

/-- AUX_CLRSHORT (R282). -/
def execAuxClrshort (a : Acc) (k : Fin 8) (s : State) : Out := .next ((s.touch a.t).writeAuxCtrl a k 8)

end Sys2Proof.Machine
end

