-- ==== Sys2Proof/Machine/Tracker.lean ====
section
/-!
DEFINITION. Sys2Proof/Machine/Tracker.lean: angle trackers (chapter 5): updates (R85 to R90), reversal and wrap (R93, R97),
loss and return (R94, R95), sensorless writes (R88) and queries (R92).
-/

namespace Sys2Proof.Machine

/-! ### Angle words -/

/-- The signed difference of R84: an integer taken modulo 2^64 into the signed range. -/
def wrap64 (z : Int) : Int := sgn 64 (enc 64 z)

def tkOff : Nat := 0
def tkAcquire : Nat := 1
def tkTrack : Nat := 2
def tkCoast : Nat := 3
def tkHeld : Nat := 4
def tkDrain : Nat := 5

def State.trkState (s : State) (n : Nat) : Nat := s.get Fld.ANG_STATE_STATE n
def State.trkKind (s : State) (n : Nat) : Nat := s.get Fld.ANG_CFG_KIND n

/-- The angle word of the latest update, signed. -/
def State.trkAngle (s : State) (n : Nat) : Int := sgn 64 (s.get64 Fld.ANG_ANGLE_LO_ANGLE Fld.ANG_ANGLE_HI_ANGLE n)

/-- The rate of the latest update (R90). -/
def State.trkRate (s : State) (n : Nat) : Int := sgn 64 (s.get64 Fld.ANG_RATE_LO_RATE Fld.ANG_RATE_HI_RATE n)

def State.trkStamp (s : State) (n : Nat) : Nat := s.get64 Fld.ANG_STAMP_LO_STAMP Fld.ANG_STAMP_HI_STAMP n

/-- A field of the TRACKER record in force (Table 5.8). -/
def State.trkFld (s : State) (n off k : Nat) : Nat := s.recFld 0x0030 n off k

/-- A rate in ANG_FREQ units: 10^-4 turn/s, or 10^-4 mm/s for payout (R90). -/
def freqOf (rate : Int) : Int := clampInt (-2147483648) 2147483647 (roundDiv (rate * 204800000000000) (2 ^ 80))

/-- The angle at a time by rate from an update (R92), where it is not whole one of the two neighbours. -/
def angleAt (free : BitVec 64) (angle rate : Int) (stamp : Nat) (t : Int) : Int :=
  angle + roundFree free (rate * (t - stamp)) (2 ^ 48)

/-! ### The drum layer model (R89) -/

/-- π in units of 10^-40. -/
def piE40 : Nat := 31415926535897932384626433832795028841972

/-- The line wound below w turns (in 2^-32 turn), summed over the layers from i, before the factor π: 0.1 mm × 2^-32. -/
def drumSum (dcore dline wraps : Nat) (w : Int) : Nat → Nat → Int
  | 0, _ => 0
  | k + 1, i =>
    let d : Int := dcore + dline * (2 * i + 1)
    let n := clampInt 0 (wraps * 4294967296) (w - wraps * i * 4294967296)
    d * n + drumSum dcore dline wraps w k (i + 1)

/-- The same, continued at layer 0 below 0 and at the outermost diameter beyond the last layer. -/
def drumLen (dcore dline wraps layers : Nat) (w : Int) : Int :=
  let full : Int := layers * wraps * 4294967296
  if w < 0 then (dcore + dline : Nat) * w
  else if full < w then
    drumSum dcore dline wraps w layers 0 + (dcore + dline * (2 * (layers - 1) + 1) : Nat) * (w - full)
  else drumSum dcore dline wraps w layers 0

/-- The diameter of the layer w lies in, 0.1 mm. -/
def drumDia (dcore dline wraps layers : Nat) (w : Int) : Nat :=
  let full : Int := layers * wraps * 4294967296
  let i := if w < 0 then 0 else if full < w then layers - 1 else Nat.min (layers - 1) (w.toNat / (wraps * 4294967296))
  dcore + dline * (2 * i + 1)

/-- Payout in 2^-32 mm of a turn word, its rate from the turn rate, and whether the line lies outside the layers. -/
def State.drumPayout (s : State) (n : Nat) (turns rate : Int) : Int × Int × Bool :=
  let dcore := s.trkFld n 0x24 2
  let dline := s.trkFld n 0x26 2
  let wraps := s.trkFld n 0x28 2
  let layers := s.trkFld n 0x2A 1
  let tref : Int := s.trkFld n 0x2C 2 * 4294967296
  let w := tref - turns
  let l := drumLen dcore dline wraps layers tref - drumLen dcore dline wraps layers w
  (roundDiv (l * piE40) (10 ^ 41), roundDiv (rate * drumDia dcore dline wraps layers w * piE40) (10 ^ 41),
   decide (w < 0) || decide ((layers * wraps * 4294967296 : Nat) < w))

/-! ### Writing an update -/

/-- An event bit of a tracker raises source 64 + n. -/
def State.trkEvent (s : State) (f : Fld) (n : Nat) : State := s.event f n (64 + n)

/-- The rate and its ANG_FREQ (R90). -/
def State.setRate (s : State) (n : Nat) (rate : Int) : State :=
  (s.set64 Fld.ANG_RATE_LO_RATE Fld.ANG_RATE_HI_RATE n (enc 64 rate)).set Fld.ANG_FREQ_FREQ n (enc 32 (freqOf rate))

/-- Each Damask's NEW bit for the tracker sets (R395). -/
def State.markNew (s : State) (n : Nat) : State :=
  { s with
    nave0 := { s.nave0 with dm := { s.nave0.dm with newBits := setBit s.nave0.dm.newBits n } }
    nave1 := { s.nave1 with dm := { s.nave1.dm with newBits := setBit s.nave1.dm.newBits n } } }

/-- One update writes angle, rate and stamp together (R85); WRAP where the turn count wraps (R97). -/
def State.putAngle (s : State) (n : Nat) (angle rate : Int) (t : Nat) : State :=
  let old := s.trkAngle n
  let new := wrap64 angle
  let d := wrap64 (new - old)
  let wrapped := (decide (0 ≤ old) && decide (new < 0) && decide (0 < d)) || (decide (old < 0) && decide (0 ≤ new) && decide (d < 0))
  let s := (s.set64 Fld.ANG_ANGLE_LO_ANGLE Fld.ANG_ANGLE_HI_ANGLE n (enc 64 angle)).setRate n rate
  let s := (s.set64 Fld.ANG_STAMP_LO_STAMP Fld.ANG_STAMP_HI_STAMP n t).markNew n
  if wrapped then (s.bump Fld.ANG_CNT_WRAPS n).trkEvent Fld.ANG_EVT_WRAP n else s

/-- DIR changes once the angle has moved back by more than REV_HYST from its extreme (R93); the second component says that
REV was raised. A reversal that came before an index edge of the same bus cycle comes first (R96). -/
def State.judgeRev (s : State) (n : Nat) : State × Bool :=
  let v := s.trkOf n
  let a := s.trkAngle n
  if v.revDue then
    let s := (s.setTrk n { v with extreme := a, revDue := false }).setFlag Fld.ANG_STATE_DIR n (!s.flag Fld.ANG_STATE_DIR n)
    (s.trkEvent Fld.ANG_EVT_REV n, true)
  else
  let neg := s.flag Fld.ANG_STATE_DIR n
  let d := wrap64 (a - v.extreme)
  let fwd := if neg then decide (d ≤ 0) else decide (0 ≤ d)
  if fwd then (s.setTrk n { v with extreme := a }, false)
  else if d.natAbs ≤ s.trkFld n 0x18 4 then (s, false)
  else
    let s := (s.setTrk n { v with extreme := a }).setFlag Fld.ANG_STATE_DIR n (!neg)
    (s.trkEvent Fld.ANG_EVT_REV n, true)

/-- The word nearest `near` whose fraction is `frac` (R95). -/
def nearestWord (near : Int) (frac : Nat) : Int :=
  near + sgn 32 (enc 32 (frac - near))

/-! ### Measuring -/

/-- The angle word a quadrature port's counts give (R86), with INVERT applied as they were counted. -/
def State.encAngle (s : State) (n : Nat) : Int :=
  let v := s.trkOf n
  v.base + roundDiv (v.count * 4294967296) (Nat.max 1 (s.trkFld n 4 4))

/-- What the source gives as angle and rate, near a predicted angle (R85 to R87, R89). -/
def State.measure (s : State) (n : Nat) (near : Int) (smp : TrkSample) : Int × Int × Bool :=
  let inv := s.flag Fld.ANG_CFG_INVERT n
  let rate := if inv then -smp.rate else smp.rate
  let frac : Nat := if inv then enc 32 (-(smp.frac.toNat : Int)) else smp.frac.toNat
  match s.trkKind n with
  | 1 => (nearestWord near frac, rate, false)
  | 3 =>
    let poles := Nat.max 1 (s.trkFld n 0x0D 1)
    let ofs : Int := s.trkFld n 8 4
    (roundDiv (nearestWord ((near - ofs) * poles) frac) poles + ofs, rate, false)
  | 5 => if s.flag Fld.ANG_CFG_LINEPOS n then s.drumPayout n (s.encAngle n) rate else (s.encAngle n, rate, false)
  | _ => (s.encAngle n, rate, false)

/-- ENCODER and DRUM trackers count edges. -/
def State.counts (s : State) (n : Nat) : Bool := s.trkKind n == 2 || s.trkKind n == 5

/-- The coasted count of a quadrature port moves on to a time (R94, R95). -/
def State.coastBase (s : State) (n t : Nat) : State :=
  let v := s.trkOf n
  s.setTrk n { v with count := 0, base := v.base + roundDiv (v.turnRate * (t - v.lostAt : Nat)) (2 ^ 48), lostAt := t }

/-- The correction on a return of the source, against STEP_TOL (R95). -/
def State.noteStep (s : State) (n : Nat) (corr : Int) : State :=
  if s.trkFld n 0x1C 4 < corr.natAbs then
    (s.set Fld.ANG_STEP_STEP n (enc 32 (clampInt (-2147483648) 2147483647 corr))).trkEvent Fld.ANG_EVT_STEP n
  else s

/-- The source is back (R94, R95): ACQUIRE and REGAIN; an ENCODER or DRUM resumes from the coasted count with UNREF, which
is the extrapolated angle itself unless it gives payout. -/
def State.regain (s : State) (n : Nat) (near : Int) (smp : TrkSample) : State :=
  let s := (s.set Fld.ANG_STATE_STATE n tkAcquire).trkEvent Fld.ANG_EVT_REGAIN n
  let s := if s.counts n then s.set Fld.ANG_STATE_UNREF n 1 else s
  if s.counts n && !s.flag Fld.ANG_CFG_LINEPOS n then s else s.noteStep n (wrap64 ((s.measure n near smp).1 - near))

/-- A GRID tracker's metering port is OFF, so that the tracker has lost its source (Table 17.4). -/
def State.portOff (s : State) (n : Nat) : Bool :=
  s.trkKind n == 1 && !s.flag Fld.ANG_CFG_GRIDSRC n && s.get Fld.MTR_PORT_STATUS_STATE (s.get Fld.ANG_CFG_SRC n) == 0

/-- A tracker's SAR inputs have converted within the bus cycle that ends at a time (R85, R210); a source of another kind is
not sampled by them. -/
def State.sarFresh (s : State) (n t : Nat) : Bool :=
  let src := s.get Fld.ANG_CFG_SRC n
  let k := if s.trkKind n = 3 then 2 else if s.trkKind n = 1 && s.flag Fld.ANG_CFG_GRIDSRC n then 3 else 0
  (List.range k).all (fun i =>
    decide ((t % 4294967296 + 4294967296 - s.get Fld.ADC_IN_STAMP_STAMP (src + i)) % 4294967296 ≤ busCycle))

/-- What an update finds of a tracker's source: no sample where the SAR inputs have not converted, and no voltage of a port that
is OFF. -/
def State.trkSmp (s : State) (n t : Nat) (smp : TrkSample) : TrkSample :=
  if s.portOff n then { smp with present := false, vmag := 0 } else { smp with present := smp.present && s.sarFresh n t }

/-- A tracker's amplitude lies outside the limits of Table 5.2: GRID below UVMIN of nominal, RESOLVER outside 50 to 150 %. -/
def State.ampOut (s : State) (n : Nat) (smp : TrkSample) : Bool :=
  match s.trkKind n with
  | 1 => decide (smp.vmag < 10 * s.trkFld n 0x10 1)
  | 3 => decide (smp.vmag < 500) || decide (1500 < smp.vmag)
  | _ => false

/-- Since when the amplitude has been outside its limits (R94). -/
def State.noteAmp (s : State) (n t : Nat) (smp : TrkSample) : State :=
  let v := s.trkOf n
  s.setTrk n { v with lowSince := if s.ampOut n smp then some (v.lowSince.getD t) else none }

/-- One update of an enabled tracker other than a sensorless one (R85, R93 to R95). The second component says that REV was
raised. -/
def State.trkUpdate (s : State) (n t : Nat) (smp : TrkSample) : State × Bool :=
  let st := s.trkState n
  let smp := s.trkSmp n t smp
  let s := if st = tkOff then s else s.noteAmp n t smp
  let free := s.freeWord
  let s := s.nextFree
  let rate := s.trkRate n
  let near := angleAt free (s.trkAngle n) rate (s.trkStamp n) t
  if st = tkOff then (s, false)
  else if st = tkDrain then (s.set Fld.ANG_STATE_STATE n tkOff, false)
  else if st = tkHeld && !smp.present then (s, false)
  else if (st = tkCoast || st = tkHeld) && s.trkKind n != 4 && smp.present then
    let near := if st = tkHeld then s.trkAngle n else near
    let s := (if st = tkCoast && s.counts n then s.coastBase n t else s).regain n near smp
    let m := s.measure n near smp
    let s := s.putAngle n m.1 m.2.1 t
    (if m.2.2 then s.trkEvent Fld.ANG_EVT_OUTSIDE n else s, false)
  else if st = tkCoast then (s.putAngle n near rate t, false)
  else if s.trkKind n = 4 then (s, false)
  else if !smp.present then if st = tkAcquire then (s, false) else (s.putAngle n near rate t).judgeRev n
  else
    let m := s.measure n (if st = tkTrack then near else s.trkAngle n) smp
    let turn := if s.flag Fld.ANG_CFG_INVERT n then -smp.rate else smp.rate
    let first := s.trkStamp n == 0
    let s := (s.putAngle n m.1 m.2.1 t).setTrk n { s.trkOf n with
      turnRate := turn, extreme := if first then m.1 else (s.trkOf n).extreme }
    let s := if m.2.2 then s.trkEvent Fld.ANG_EVT_OUTSIDE n else s
    s.judgeRev n

/-! ### Quadrature edges -/

/-- The output that a quadrature port's counts give now: turns, or payout. -/
def State.encOut (s : State) (n : Nat) : Int :=
  if s.flag Fld.ANG_CFG_LINEPOS n then (s.drumPayout n (s.encAngle n) 0).1 else s.encAngle n

/-- The port has moved back by more than REV_HYST from the extreme (R93). -/
def State.movedBack (s : State) (n : Nat) : Bool :=
  let d := wrap64 (s.encOut n - (s.trkOf n).extreme)
  decide (s.trkFld n 0x18 4 < d.natAbs) && (if s.flag Fld.ANG_STATE_DIR n then decide (0 < d) else decide (d < 0))

/-- An edge of a quadrature port at a time, for one tracker that follows it (R86): illegal transitions count, and the edge's
stamp is kept; while the source is lost the count stands, since the tracker resumes from the coasted one (R95). A reversal
before an index edge is noted before the index acts (R96). -/
def State.trkEdge (s : State) (n t : Nat) (e : EncEdge) : State :=
  let v := { s.trkOf n with edgeAt := t }
  let one : Int := if s.flag Fld.ANG_CFG_INVERT n then -1 else 1
  let counting := s.trkState n == tkAcquire || s.trkState n == tkTrack
  match e with
  | .illegal =>
    (s.bump Fld.ANG_CNT_ILLEGAL n).setTrk n { v with ills := v.ills.filter (fun x => decide (t ≤ x + ftuMs)) ++ [t] }
  | .up => s.setTrk n { v with count := if counting then v.count + one else v.count }
  | .down => s.setTrk n { v with count := if counting then v.count - one else v.count }
  | .index =>
    if !counting then s.setTrk n v
    else
      let a := s.encAngle n
      let s := s.setTrk n { v with
        revDue := v.revDue || s.movedBack n
        base := a / 4294967296 * 4294967296 + s.trkFld n 8 4, count := 0 }
      s.set Fld.ANG_STATE_UNREF n 0

/-- An edge of a port reaches every ENCODER or DRUM tracker on it that is not off. -/
def State.encEdge (s : State) (t port : Nat) (e : EncEdge) : State :=
  (List.range 64).foldl (fun s n =>
    if s.counts n && s.get Fld.ANG_CFG_SRC n == port && s.trkState n != tkOff && s.trkState n != tkDrain
    then s.trkEdge n t e else s) s

/-! ### Sensorless writes -/

/-- The owning core of a SENSORLESS tracker makes the access (R88). -/
def State.slOwner (s : State) (a : Acc) (n : Nat) : Bool :=
  s.trkKind n == 4 && isCore a (s.get Fld.ANG_CFG_OWNER n)

/-- The angle words of a sensorless write, with INVERT; on a return the turn count is the one that puts it nearest the
extrapolated angle (R88, R95). -/
def State.slWord (s : State) (n : Nat) (near : Int) : Int :=
  let a := sgn 64 (s.get64 Fld.ANG_SL_ANGLE_LO_ANGLE Fld.ANG_SL_ANGLE_HI_ANGLE n)
  let a := if s.flag Fld.ANG_CFG_INVERT n then -a else a
  if s.trkState n = tkCoast || s.trkState n = tkHeld then nearestWord near (enc 32 a) else a

/-- A sensorless commit that arrives at a time (R88): an update with the angle and stamp of the ANG_SL registers; the rate
comes from it and the write before it, and is free where they give none (no write before it, or no later stamp). -/
def State.slCommit (s : State) (n now : Nat) : State × Bool :=
  let v := s.trkOf n
  let t := s.get64 Fld.ANG_SL_STAMP_LO_STAMP Fld.ANG_SL_STAMP_HI_STAMP n
  let st := s.trkState n
  if st = tkOff || st = tkDrain then (s, false)
  else
    let near := if st = tkHeld then s.trkAngle n
      else angleAt s.freeWord (s.trkAngle n) (s.trkRate n) (s.trkStamp n) t
    let a := s.slWord n near
    let rate := match v.slPrev with
      | some (b, u) => if u < t then roundFree s.freeWord (wrap64 (a - b) * 281474976710656) (t - u) else s.freeWord.toInt
      | none => s.freeWord.toInt
    let s := s.nextFree.setTrk n { v with slPrev := some (a, t), slAt := now }
    if st = tkCoast || st = tkHeld then
      let s := (s.set Fld.ANG_STATE_STATE n tkAcquire).trkEvent Fld.ANG_EVT_REGAIN n
      ((s.noteStep n (wrap64 (a - near))).putAngle n a rate t, false)
    else (s.putAngle n a rate t).judgeRev n

/-! ### States -/

/-- The rate predicts at least 4 edges in a time (Table 5.2). -/
def State.edgesDue (s : State) (n span : Nat) : Bool :=
  decide (4 * 2 ^ 80 ≤ (s.trkOf n).turnRate.natAbs * span * s.trkFld n 4 4)

/-- The loss condition of a tracker's kind holds at a time (Table 5.2). -/
def State.lossDue (s : State) (n t : Nat) : Bool :=
  let v := s.trkOf n
  let long := s.trkFld n 0x12 2 * ftuUs
  let ampLost := match v.lowSince with
    | some x => decide (x + ftuMs ≤ t)
    | none => false
  match s.trkKind n with
  | 1 =>
    let f := sgn 32 (s.get Fld.ANG_FREQ_FREQ n)
    ampLost || decide (f.natAbs < 400000) || decide (700000 < f.natAbs)
  | 3 => ampLost
  | 4 => decide (v.slAt + long ≤ t)
  | _ =>
    decide (s.trkFld n 0x11 1 < (v.ills.filter (fun x => decide (t ≤ x + ftuMs))).length) ||
      (decide (v.edgeAt + long ≤ t) && s.edgesDue n long)

/-- The loss condition holds (R94): COAST. -/
def State.trkLost (s : State) (n t : Nat) : State :=
  if (s.trkState n ≠ tkAcquire && s.trkState n ≠ tkTrack) || !s.lossDue n t then s
  else
    let s := s.setTrk n { s.trkOf n with lostAt := t, coastAt := t, count := 0, base := s.encAngle n }
    let s := if s.counts n then s.set Fld.ANG_STATE_UNREF n 1 else s
    (s.set Fld.ANG_STATE_STATE n tkCoast).trkEvent Fld.ANG_EVT_LOST n

/-- COAST has lasted for COAST_MAX (R94). -/
def State.coastOver (s : State) (n t : Nat) : Bool :=
  s.trkState n == tkCoast && decide ((s.trkOf n).coastAt + s.trkFld n 0x14 2 * ftuMs ≤ t)

/-- COAST_MAX has passed (R94): HELD, rate 0. -/
def State.trkHeld (s : State) (n t : Nat) : State :=
  if !s.coastOver n t then s
  else (((if s.counts n then s.coastBase n t else s).set Fld.ANG_STATE_STATE n tkHeld)).setRate n 0

/-- 4 loop time constants have passed in ACQUIRE (R94). -/
def State.trkAcquired (s : State) (n : Nat) : State :=
  if s.trkState n ≠ tkAcquire then s
  else s.set Fld.ANG_STATE_STATE n tkTrack

/-! ### Queries -/

/-- The first time after a stamp at which an angle is reached in the direction of a rate (R92): none for NEVER. -/
def timeAt (qmin : Nat) (angle rate : Int) (stamp : Nat) (a : Int) : Option Nat :=
  let d := wrap64 (a - angle)
  if rate.natAbs * 204800000000000 < qmin * 2 ^ 80 || rate == 0 then none
  else if (decide (0 < rate) && decide (d < 0)) || (decide (rate < 0) && decide (0 < d)) then none
  else some (stamp + (d.natAbs * 281474976710656 + (rate.natAbs - 1)) / rate.natAbs)

/-- A write of ANG_QRY_CTRL in window w (R92). -/
def State.writeQry (s : State) (a : Acc) (w v : Nat) : State :=
  if masterNum a.m ≠ w || v ≠ bits v 0 6 + 256 * bits v 8 1 then s.busErr
  else
    let n := bits v 0 6
    let q : Qry := {
      busy := true, trk := n, kind := v.testBit 8
      input := s.get64 Fld.ANG_QRY_IN_LO_IN Fld.ANG_QRY_IN_HI_IN w
      angle := s.trkAngle n, rate := s.trkRate n, stamp := s.trkStamp n, state := s.trkState n }
    ((s.setQry w q).set Fld.ANG_QRY_STATUS_READY w 0).ok

/-- Results and flags of a window. -/
def State.qryOut (s : State) (w out : Nat) (never lost far : Bool) : State :=
  let s := s.set64 Fld.ANG_QRY_OUT_LO_OUT Fld.ANG_QRY_OUT_HI_OUT w out
  let s := (s.setFlag Fld.ANG_QRY_STATUS_NEVER w never).setFlag Fld.ANG_QRY_STATUS_LOST w lost
  (s.setFlag Fld.ANG_QRY_STATUS_FAR w far).set Fld.ANG_QRY_STATUS_READY w 1

/-- A query completes (R92, R96, R99). -/
def State.qryDone (s : State) (w : Nat) : State :=
  let q := s.qryOf w
  if !q.busy then s
  else
    let s := s.setQry w { q with busy := false }
    let lost := q.state == tkCoast || q.state == tkHeld
    let ones := 18446744073709551615
    if q.state = tkOff || q.state = tkDrain then s.qryOut w ones true true false
    else if q.kind then
      match timeAt (s.trkFld q.trk 0x20 4) q.angle q.rate q.stamp (sgn 64 q.input) with
      | none => s.qryOut w ones true lost false
      | some t => s.qryOut w t false lost (decide (ftuSec < t - q.stamp))
    else
      let out := enc 64 (angleAt s.freeWord q.angle q.rate q.stamp q.input)
      s.nextFree.qryOut w out false lost (decide (ftuSec < ((q.input : Int) - q.stamp).natAbs))

/-- A read of ANG_QRY_OUT_LO (R92, R7): it stalls until the result is ready, and latches the high word. -/
def State.readQryOut (s : State) (a : Acc) (w : Nat) : State :=
  if masterNum a.m ≠ w then s.busErr
  else if (s.qryOf w).busy then s.stall
  else (s.setLatch a.m .ANG_QRY_OUT_HI w (s.get Fld.ANG_QRY_OUT_HI_OUT w)).answer (s.get Fld.ANG_QRY_OUT_LO_OUT w)

/-- The phase of an excitation sine of a frequency in Hz at a time, as a turn fraction (R87): locked to TB_NOW. -/
def excPhase (freq t : Nat) : Nat := t * freq % ftuSec * 4294967296 / ftuSec

/-- The frequency that EXC0 or EXC1 is driven at: EXCFREQ of the first RESOLVER tracker that names it (R87, Table 5.8). -/
def State.excFreq (s : State) (e : Nat) : Option Nat :=
  ((List.range 64).find? (fun n => s.trkKind n == 3 && s.trkFld n 0x0C 1 == e)).map (fun n => s.trkFld n 0x0E 2)

/-- The phase of the sine that an excitation output drives now, if it drives one (R87). -/
def State.excOut (s : State) (e : Nat) : Option Nat :=
  if s.tbRun then (s.excFreq e).map (fun f => excPhase f s.tb) else none

/-! ### Meanings -/

/-- ENCODER_EDGE (R86). -/
def execEncoderEdge (t : Nat) (port : Fin 16) (e : EncEdge) (s : State) : Out := .next ((s.touch t).encEdge t port e)

/-- ANGLE_AT_TIME_QUERY (R92). -/
def execAngleAtTimeQuery (a : Acc) (w : Fin 5) (n : Fin 64) (s : State) : Out := .next ((s.touch a.t).writeQry a w n)

/-- TIME_AT_ANGLE_QUERY (R92). -/
def execTimeAtAngleQuery (a : Acc) (w : Fin 5) (n : Fin 64) (s : State) : Out :=
  .next ((s.touch a.t).writeQry a w (n.val + 256))

/-- A read that the debug port or the SPI host has waiting for the result completes (R92, R491, R516). -/
def State.qryServe (s : State) (w : Nat) : State :=
  let a (m : Master) : Acc := { m := m, kernel := false, t := s.tb }
  if w = 4 && s.dbg.resp.status == .stall then
    let s' := s.readQryOut (a .debug) w
    { s' with resp := s.resp, dbg := { s.dbg with resp := s'.resp } }
  else if w = 3 && s.dbg.hostWait then
    let s' := s.readQryOut (a .host) w
    { s' with dbg := { s.dbg with hostWait := false } }
  else s

/-- QUERY_RESULT_READY (R92). -/
def execQueryResultReady (w : Fin 5) (s : State) : Out :=
  .next (if (s.qryOf w).busy then (s.qryDone w).qryServe w else s)

/-- ANG_QRY_OUT_READ (R92). -/
def execAngQryOutRead (a : Acc) (w : Fin 5) (s : State) : Out := .next ((s.touch a.t).readQryOut a w)

end Sys2Proof.Machine
end

