-- ==== Sys2Proof/Machine/Grid.lean ====
section
/-!
DEFINITION. Sys2Proof/Machine/Grid.lean: grid tie (R233 to R244, R248 to R251, R254, R256): states, references,
ride-through, islanding evidence and tokens.
-/

namespace Sys2Proof.Machine

def State.gridSt (s : State) (i : Nat) : Nat := s.get Fld.GRD_STATUS_STATE i

/-- The access is made by the owner of function f; at kernel level for CTRL registers. -/
def State.fnOwns (s : State) (a : Acc) (f : Nat) (kernel : Bool) : Bool :=
  isCore a (s.fnOwner f) && (!kernel || a.kernel)

/-- The states in which CPIN is high: CLOSING, RAMP, TIED, RIDE, and DRAINING until the drain ends (R233). -/
def gdTiedState (st : Nat) : Bool := st == gdClosing || st == gdRamp || st == gdTied || st == gdRide || st == gdDraining

/-- The instance is tied: CPIN is high (R233). A drain that began in WAIT found it low. -/
def State.cpinUp (s : State) (i : Nat) : Bool :=
  gdTiedState (s.gridSt i) && (s.gridSt i != gdDraining || (s.grdOf i).cpinSince.isSome)

/-! ### Start and stop -/

/-- An OFF instance begins its start sequence (Table 13.1). -/
def State.gridStart (s : State) (i : Nat) : State :=
  if s.gridSt i = gdOff then
    (s.setGrd i { s.grdOf i with reconnect := false, bandSince := none, offPend := false, enHeld := false }).gridGo i gdWait
  else if s.gridSt i = gdDraining then s.setGrd i { s.grdOf i with enHeld := true }
  else s

/-- DISABLE (R254, R481): DRAINING from any state but TRIPPED, which records it; in WAIT and CLOSING the converter is
disabled, so nothing has to come to 0. -/
def State.gridDisable (s : State) (i : Nat) : State :=
  let st := s.gridSt i
  if st = gdOff || st = gdDraining then s
  else if st = gdTripped then s.setGrd i { s.grdOf i with offPend := true }
  else
    let s := s.gridClose i ocCancelled
    (s.setGrd i { s.grdOf i with zero := if st = gdClosing || st = gdWait then 3 else 0 }).gridGo i gdDraining

/-- DISABLE with IMMEDIATE (R254): CPIN low at once, the converter at rank 3, OFF. -/
def State.gridDisableNow (s : State) (i : Nat) : State :=
  let st := s.gridSt i
  if st = gdOff then s
  else if st = gdTripped then s.setGrd i { s.grdOf i with offPend := true }
  else
    let s := s.gridClose i ocCancelled
    let s := s.drivePin (s.get Fld.GRD_CFG_CPIN i) false
    let s := if st = gdWait then s else s.convDisableNow (s.get Fld.GRD_CFG_CONV i)
    let s := s.setGrd i { s.grdOf i with
      vExc := none, fExc := none, nudge := 0, extra := false, extraNow := false, due := false, zero := 0, enHeld := false
      id := 0, iq := 0, cpinSince := none }
    (s.set Fld.GRD_STATUS_EXC i 0).gridGo i gdOff

/-- The drain has ended (Table 13.3): CPIN low, the converter disabled under R139, OFF; a held ENABLE follows (R481). -/
def State.gridDrainDone (s : State) (i : Nat) : State :=
  let v := s.grdOf i
  let c := s.get Fld.GRD_CFG_CONV i
  if s.gridSt i ≠ gdDraining || (decide (v.zero < 3) && s.cnvState c == cvRun) then s
  else
    let s := s.drivePin (s.get Fld.GRD_CFG_CPIN i) false
    let s := (s.convDisable c).setGrd i { v with
      zero := 0, id := 0, iq := 0, vExc := none, fExc := none, nudge := 0, cpinSince := none, enHeld := false }
    let s := (s.set Fld.GRD_STATUS_EXC i 0).gridGo i gdOff
    if v.enHeld && s.fnOn (fnGrid i) then s.gridStart i else s

/-! ### Declaration -/

/-- Islanding is declared on a row of Table 13.2 (R243, R244), on a tied instance with ISLEN at 1. -/
def State.gridDeclare (s : State) (i row cause : Nat) : State :=
  if !s.flag Fld.GRD_CFG_ISLEN i || !s.cpinUp i then s
  else
    let s := (s.set Fld.GRD_ISL_RESP_EVID i (2 ^ row)).set Fld.GRD_STATUS_DECLARE i 1
    s.gridTrip i cause

/-- An excursion without a curve (R237): CAUSE WINDOW, which is row 1 where islanding detection is on. -/
def State.gridWindow (s : State) (i : Nat) : State :=
  if s.flag Fld.GRD_CFG_ISLEN i then s.gridDeclare i 0 4 else s.gridTrip i 4

/-- Row 2 of Table 13.2 (R243): the token of a tied instance is DEAD. -/
def State.gridDead (s : State) (i : Nat) : State :=
  if s.flag Fld.GRD_CFG_TOKEN i && s.get Fld.GRD_STATUS_TOKEN i == 2 then s.gridDeclare i 1 1 else s

/-- RIDE is entered from RAMP, with ID frozen, or from TIED (R234, R248). -/
def State.rideEnter (s : State) (i : Nat) : State :=
  let st := s.gridSt i
  if st = gdRamp || st = gdTied then
    let s := s.setGrd i { s.grdOf i with frozen := st == gdRamp }
    ((s.bump Fld.GRD_RIDE_CNT_RIDES i).event Fld.GRD_STATUS_RIDEIN i (642 + 4 * i)).gridGo i gdRide
  else s

/-! ### The start sequence -/

/-- The instance waits no longer (Table 13.1, WAIT): CPIN goes high. -/
def State.gridTryClose (s : State) (i t : Nat) : State :=
  let v := s.grdOf i
  let ready := match v.bandSince with
    | some b => decide (b + s.get Fld.GRD_RECON_RECON i * ftuSec ≤ t)
    | none => false
  let token := !s.flag Fld.GRD_CFG_TOKREQ i || s.get Fld.GRD_STATUS_TOKEN i == 1
  if s.gridSt i = gdWait && ready && token && s.trkState (s.get Fld.GRD_CFG_TRACKER i) == tkTrack
      && (s.flag Fld.GRD_CFG_AUTORECON i || v.reconnect) then
    let s := s.drivePin (s.get Fld.GRD_CFG_CPIN i) true
    ((s.setGrd i { v with cpinSince := some t, vExc := none, fExc := none }).gridGo i gdClosing).gridDead i
  else s

/-- CPIN has been high for CLOSE_MS (R234, R256): RAMP, the converter enabled, and the connect ramp's ticket; an excursion
that began in CLOSING leads on to RIDE (R248). -/
def State.gridCloseDone (s : State) (i t : Nat) : State :=
  let v := s.grdOf i
  let ready := match v.cpinSince with
    | some b => decide (b + s.get Fld.GRD_RECON_CLOSE_MS i * ftuMs ≤ t)
    | none => false
  if s.gridSt i ≠ gdClosing || !ready then s
  else
    let s := (s.setGrd i { v with id := 0, iq := 0, pubAt := t }).gridGo i gdRamp
    let s := s.convEnable (s.get Fld.GRD_CFG_CONV i)
    let s := match s.openOp 4 i (leBytes 2 (s.get Fld.GRD_ID_SP_ID i) ++ leBytes 2 (s.get Fld.GRD_IQ_SP_IQ i)) [] with
      | none => s
      | some (tk, s) => s.setGrd i { s.grdOf i with ticket := some tk }
    if v.vExc.isSome || v.fExc.isSome then s.rideEnter i else s

/-- CLRTRIP (Table 13.1): a TRIPPED instance returns to WAIT, or goes OFF where a disable met it (R481). -/
def State.gridClrTrip (s : State) (i : Nat) : State :=
  if s.gridSt i ≠ gdTripped then s
  else
    let v := s.grdOf i
    let s := (s.setGrd i { v with offPend := false, reconnect := false, bandSince := none }).set Fld.GRD_STATUS_CAUSE i 0
    s.gridGo i (if v.offPend then gdOff else gdWait)

/-! ### References -/

/-- A value that moves towards a target by at most a step. -/
def approach (step z goal : Int) : Int := if z < goal then min goal (z + step) else max goal (z - step)

/-- The rate of the references in 2^-16 of 0.01 % per second: PRAMP during RAMP, IMAX per STOPMS during a drain, else
SPRATE (R236, R239, R254). -/
def State.gridRate (s : State) (i : Nat) : Nat :=
  let st := s.gridSt i
  if st = gdRamp then s.get Fld.GRD_RIDE_PRAMP i * 10 * 65536
  else if st = gdDraining then
    s.get Fld.GRD_IMAX_IMAX i * 65536 * 1000 / Nat.max 1 (s.get Fld.GRD_RATES_STOPMS i)
  else s.get Fld.GRD_RATES_SPRATE i * 100 * 65536

/-- IQ of a voltage excursion (R238), in 0.01 %, and whether IQMAX limits it; 0 while the voltage is back in its band. -/
def State.rideIq (s : State) (i : Nat) : Int × Bool :=
  let v := (s.grdOf i).vNow
  let k := s.get Fld.GRD_RIDE_KRIDE i
  let m := s.get Fld.GRD_IMAX_IQMAX i
  let under := k * (s.get Fld.GRD_VBAND_VNMIN i - v)
  let exceed := k * (v - s.get Fld.GRD_VBAND_VNMAX i)
  if 0 < under then ((Nat.min under m : Nat), decide (m < under))
  else (-(Nat.min exceed m : Nat), decide (m < exceed))

/-- Publish references with a limit flag. -/
def State.putRefs (s : State) (i : Nat) (id iq : Int) (limit : Bool) : State :=
  let s := (s.set Fld.GRD_REF_DQ_ID i (enc 16 id)).set Fld.GRD_REF_DQ_IQ i (enc 16 iq)
  if limit && !s.flag Fld.GRD_STATUS_LIMIT i then s.event Fld.GRD_STATUS_LIMIT i (643 + 4 * i) else s

/-- References in 2^-16 of 0.01 % scaled down in proportion where they exceed IMAX (R236), and whether they do. -/
def gridScale (imax : Nat) (id iq : Int) : Int × Int × Bool :=
  let sq := id.natAbs * id.natAbs + iq.natAbs * iq.natAbs
  if imax * 65536 * (imax * 65536) < sq then
    let r : Int := (isqrt (sq * 4294967296) + 1 : Nat)
    ((id * (imax * 4294967296 : Nat)).tdiv r, (iq * (imax * 4294967296 : Nat)).tdiv r, true)
  else (id, iq, false)

/-- What the published references move towards: the set-points within IMAX, or 0 in a drain (R236, R254). That the limit acts
on the set-points, so that TIED follows where they exceed IMAX, is DEDUCED (log entry 46). -/
def State.gridGoal (s : State) (i : Nat) : Int × Int × Bool :=
  if s.gridSt i = gdDraining then (0, 0, false)
  else gridScale (s.get Fld.GRD_IMAX_IMAX i) (sgn 16 (s.get Fld.GRD_ID_SP_ID i) * 65536)
    (sgn 16 (s.get Fld.GRD_IQ_SP_IQ i) * 65536)

/-- The references of R236 and R238 at a boundary: they move on from those last published; in RIDE from RAMP, ID is frozen
there (R248). -/
def State.gridRefs (s : State) (i t : Nat) : State :=
  let v := s.grdOf i
  let ride := s.gridSt i == gdRide
  let free := s.freeWord
  let goal := s.gridGoal i
  let step : Int := (s.gridRate i * (t - v.pubAt) / ftuSec : Nat)
  let imax := s.get Fld.GRD_IMAX_IMAX i
  let s := s.nextFree
  if ride && v.vExc.isSome then
    let q := s.rideIq i
    let cap : Int := isqrt (imax * imax - q.1.natAbs * q.1.natAbs)
    let want := if v.frozen then v.id else approach step v.id (sgn 16 (s.get Fld.GRD_ID_SP_ID i) * 65536)
    let id := clampInt (-(cap * 65536)) (cap * 65536) want
    let s := s.setGrd i { v with id := id, iq := q.1 * 65536, pubAt := t }
    s.putRefs i (roundFree free id 65536) q.1 (q.2 || want != id)
  else
    let id := if ride && v.frozen then v.id else approach step v.id goal.1
    let out := gridScale imax id (approach step v.iq goal.2.1)
    let s := s.setGrd i { v with id := out.1, iq := out.2.1, pubAt := t }
    s.putRefs i (roundFree free out.1 65536) (roundFree (free >>> 1) out.2.1 65536) (goal.2.2 || out.2.2)

/-- THETA (R235): the tracker's angle at 1.5 periods after the boundary, plus any nudge in force (R241). -/
def State.gridTheta (s : State) (i bound period : Nat) : State :=
  let n := s.get Fld.GRD_CFG_TRACKER i
  let free := s.freeWord
  let s := s.nextFree
  let num := s.trkRate n * (2 * (bound : Int) + 3 * period - 2 * s.trkStamp n) * 36000
    + (s.grdOf i).nudge * 4294967296 * 2 ^ 49
  s.set Fld.GRD_REF_THETA_THETA i (enc 32 (s.trkAngle n + roundFree free num (36000 * 2 ^ 49)))

/-- What an instance does at a boundary of its converter (R235, R236, R256, R254). -/
def State.gridPublish (s : State) (i bound period : Nat) : State :=
  let st := s.gridSt i
  if st ≠ gdRamp && st ≠ gdTied && st ≠ gdRide && st ≠ gdDraining then s
  else
    let s := (s.gridTheta i bound period).gridRefs i bound
    let v := s.grdOf i
    if st = gdRamp && v.id == (s.gridGoal i).1 && v.iq == (s.gridGoal i).2.1 then
      (s.gridClose i ocComplete).gridGo i gdTied
    else if st = gdDraining && v.id == 0 && v.iq == 0 then s.setGrd i { v with zero := v.zero + 1 }
    else s

/-! ### Excursions (R237 to R239) -/

/-- The ride curves of a kind that the instance uses (R237), each its points: time in ms and level. -/
def State.rideCurves (s : State) (i kind : Nat) : List (List (Nat × Int)) :=
  ((List.range 4).filter (fun j =>
    (s.get Fld.GRD_RIDE_CURVES i).testBit j && s.hasRec 0x0071 (4 * i + j) && s.recFld 0x0071 (4 * i + j) 0 1 == kind)).map
  (fun j =>
    (List.range (s.recFld 0x0071 (4 * i + j) 1 1)).map (fun k =>
      let level := s.recFld 0x0071 (4 * i + j) (6 + 4 * k) 2
      (s.recFld 0x0071 (4 * i + j) (4 + 4 * k) 2, if kind < 2 then (level : Int) else sgn 16 level)))

/-- The sign of a value less the boundary at a time after te, where each level counts `unit` of the value; none once the
last point has passed. -/
def curveSide (unit : Int) (tau : Nat) (x : Int) : List (Nat × Int) → Option Int
  | [] => none
  | [(t0, l0)] => if tau ≤ t0 * ftuMs then some (x - l0 * unit) else none
  | (t0, l0) :: (t1, l1) :: rest =>
    if tau ≤ t1 * ftuMs then
      let dt : Int := (t1 * ftuMs : Nat) - (t0 * ftuMs : Nat)
      some (x * dt - (l0 * unit * dt + (l1 - l0) * unit * ((tau : Int) - (t0 * ftuMs : Nat))))
    else curveSide unit tau x ((t1, l1) :: rest)

/-- A quantity below (or above) its band trips on its curve (R237). -/
def rideTrips (pts : List (Nat × Int)) (unit : Int) (tau : Nat) (x : Int) (low : Bool) : Bool :=
  match curveSide unit tau x pts with
  | none => true
  | some d => if low then decide (d < 0) else decide (0 < d)

/-- The voltage is inside its normal band. -/
def State.vIn (s : State) (i : Nat) : Bool :=
  let v := (s.grdOf i).vNow
  decide (s.get Fld.GRD_VBAND_VNMIN i ≤ v) && decide (v ≤ s.get Fld.GRD_VBAND_VNMAX i)

/-- The frequency, in 0.1 mHz from nominal, is inside its normal band. -/
def State.fIn (s : State) (i : Nat) : Bool :=
  let f := (s.grdOf i).fNow
  decide (sgn 16 (s.get Fld.GRD_FBAND_FNMIN i) * 10 ≤ f) && decide (f ≤ sgn 16 (s.get Fld.GRD_FBAND_FNMAX i) * 10)

/-- An excursion begins (R237, R248): RIDE from RAMP or TIED; no nudge runs (R241). -/
def State.excBegin (s : State) (i : Nat) : State :=
  ((s.setGrd i { s.grdOf i with nudge := 0, extra := false, extraNow := false, due := false }).set
    Fld.GRD_STATUS_EXC i 1).rideEnter i

/-- Judge one quantity of a tied instance that stands out of its band since te (R237), by every curve of its kind. -/
def State.rideJudge (s : State) (i t te kind : Nat) (unit x : Int) (low : Bool) : State :=
  if (s.rideCurves i kind).isEmpty then s.gridWindow i
  else if (s.rideCurves i kind).any (fun pts => rideTrips pts unit (t - te) x low) then s.gridTrip i 2
  else s

/-- Judge the excursions of a tied instance with a voltage in 0.1 % and a frequency in 0.1 mHz from nominal. -/
def State.gridJudge (s : State) (i t v : Nat) (f : Int) : State :=
  let s := s.setGrd i { s.grdOf i with vNow := v, fNow := f }
  if !s.cpinUp i then s
  else
    let vin := s.vIn i
    let fin := s.fIn i
    let g := s.grdOf i
    let s := if vin && fin then s
      else
        let s := if g.vExc.isNone && g.fExc.isNone then s.excBegin i else s
        let g := s.grdOf i
        s.setGrd i { g with
          vExc := if vin then g.vExc else some (g.vExc.getD t)
          fExc := if fin then g.fExc else some (g.fExc.getD t)
          lastOut := t }
    let g := s.grdOf i
    let low := decide (v < s.get Fld.GRD_VBAND_VNMIN i)
    let s := if vin then s else s.rideJudge i t (g.vExc.getD t) (if low then 0 else 1) 1 v low
    let flow := decide (f < sgn 16 (s.get Fld.GRD_FBAND_FNMIN i) * 10)
    if fin || !s.cpinUp i then s
    else s.rideJudge i t (g.fExc.getD t) (if flow then 2 else 3) 10 f flow

/-- Every quantity has been in band for 20 ms (R239): back to RAMP from RIDE. -/
def State.excursionEnd (s : State) (i t : Nat) : State :=
  let g := s.grdOf i
  if (g.vExc.isNone && g.fExc.isNone) || !s.vIn i || !s.fIn i || decide (t < g.lastOut + 20 * ftuMs) then s
  else
    let s := (s.setGrd i { g with vExc := none, fExc := none, excEnd := some t, frozen := false }).set
      Fld.GRD_STATUS_EXC i 0
    if s.gridSt i = gdRide then
      (s.event Fld.GRD_STATUS_RIDEOUT i (642 + 4 * i)).gridGo i gdRamp
    else s

/-! ### Islanding evidence (R240, R241, R243) -/

/-- The measurements of a positive-going zero crossing at a time with a frequency in 0.1 mHz: ROCOF as numerator and
denominator in 0.01 Hz/s, and the vector shift as numerator of 0.01 degree over 204,800,000,000,000. -/
def State.gridMeas (s : State) (i t : Nat) (f : Int) : (Int × Nat) × Int :=
  let cr := (s.grdOf i).cross
  let rocof : Int × Nat := match cr[s.get Fld.GRD_ROCOF_ROCOF_WIN i - 1]? with
    | some (t0, f0) => ((f - f0) * ftuSec, 100 * Nat.max 1 (t - t0))
    | none => (0, 1)
  let shift : Int := match cr with
    | (t0, f0) :: _ => 36000 * (((t0 : Int) - t) * f0 + 204800000000000)
    | [] => 0
  (rocof, shift)

def shiftDen : Nat := 204800000000000

/-- Passive evidence may be formed (R240). -/
def State.passiveOn (s : State) (i t : Nat) : Bool :=
  let g := s.grdOf i
  s.flag Fld.GRD_CFG_ISLEN i && (s.gridSt i == gdTied || s.gridSt i == gdRamp) && g.vExc.isNone && g.fExc.isNone &&
    (match g.excEnd with
      | some e => decide (e + 100 * ftuMs < t)
      | none => true)

/-- A nudge begins at this crossing where one is due (R241). -/
def State.nudgeBegin (s : State) (i t : Nat) (extra : Bool) : State :=
  let g := s.grdOf i
  let size : Int := s.get Fld.GRD_VSN_NUDGE i
  let s := s.setGrd i { g with
    nudge := if g.nudgeNeg then -size else size, nudgeNeg := !g.nudgeNeg, nudgeAt := t, extraNow := extra
    due := if extra then g.due else false, extra := false }
  s.bump Fld.GRD_CNT_NUDGES i

/-- A positive-going zero crossing of an instance in RAMP or TIED (R240, R241, R243); in any other state it only ends a nudge
in force. -/
def State.gridCrossing (s : State) (i t : Nat) (f : Int) : State :=
  let m := s.gridMeas i t f
  let free := s.freeWord
  let s := s.nextFree
  let g := s.grdOf i
  let keep := (s.get Fld.GRD_ROCOF_ROCOF_WIN i)
  let s := s.setGrd i { g with cross := ((t, f) :: g.cross).take (Nat.max 1 keep) }
  let s := s.set Fld.GRD_ISL_MEAS_ROCOF i (enc 16 (clampInt (-32768) 32767 (roundFree free m.1.1 m.1.2)))
  let s := s.set Fld.GRD_ISL_MEAS_VSHIFT i (enc 16 (clampInt (-32768) 32767 (roundFree (free >>> 1) m.2 shiftDen)))
  if s.gridSt i ≠ gdTied && s.gridSt i ≠ gdRamp then s.setGrd i { s.grdOf i with nudge := 0, extraNow := false }
  else
    let passive := s.passiveOn i t &&
      (decide (s.get Fld.GRD_ROCOF_ROCOF_TH i * m.1.2 ≤ m.1.1.natAbs) ||
        decide (s.get Fld.GRD_VSN_VS_TH i * shiftDen ≤ m.2.natAbs))
    let sign : Int := if g.nudge < 0 then -1 else 1
    let resp := decide ((s.get Fld.GRD_NPER_ARESP i * g.nudge.natAbs * shiftDen : Nat) ≤ m.2 * sign * 100)
    let s := if g.nudge = 0 then s
      else
        let r := roundFree (free >>> 2) (m.2 * sign * 100) (g.nudge.natAbs * shiftDen)
        (s.set Fld.GRD_ISL_RESP_RATIO i (clampInt 0 255 r).toNat).setGrd i { s.grdOf i with
          nudge := 0, extraNow := false, active := if resp then g.active + 1 else 0 }
    let tok := s.get Fld.GRD_STATUS_TOKEN i
    let noTok := !s.flag Fld.GRD_CFG_TOKEN i || tok == 0
    if g.nudge ≠ 0 && resp && decide (1 ≤ g.active) && s.flag Fld.GRD_CFG_ISLEN i then s.gridDeclare i 2 1
    else if passive && noTok then s.gridDeclare i 3 1
    else if g.nudge ≠ 0 && resp && g.extraNow && s.flag Fld.GRD_CFG_ISLEN i then s.gridDeclare i 4 1
    else
      let s := if s.flag Fld.GRD_CFG_ACTEN i && (g.extra || g.due) && g.vExc.isNone && g.fExc.isNone
        then s.nudgeBegin i t g.extra else s
      if passive && !noTok && tok == 1 && s.flag Fld.GRD_CFG_ACTEN i then s.setGrd i { s.grdOf i with extra := true } else s

/-! ### Updates of the tracker -/

/-- The instances that follow a tracker. -/
def State.gridsOn (s : State) (n : Nat) : List Nat :=
  (List.range 4).filter (fun i => s.hasRec 0x0070 i && s.get Fld.GRD_CFG_TRACKER i == n)

/-- WAIT (Table 13.1, R250): the time since which voltage and frequency are in band; with TOKREQ at 1 a DEAD token restarts
it, and it runs from the next LIVE one. -/
def State.gridWaitBand (s : State) (i t : Nat) : State :=
  let g := s.grdOf i
  let dead := s.flag Fld.GRD_CFG_TOKREQ i && s.get Fld.GRD_STATUS_TOKEN i == 2
  s.setGrd i { g with bandSince := if s.vIn i && s.fIn i && !dead then some (g.bandSince.getD t) else none }

/-- The frequency of a tracker in 0.1 mHz. -/
def State.trkFreq (s : State) (n : Nat) : Int := sgn 32 (s.get Fld.ANG_FREQ_FREQ n)

/-- An instance sees an update of its tracker (R237, R240): its angle before, and the amplitude. -/
def State.gridUpdate (s : State) (i t v : Nat) (a0 : Int) (t0 : Nat) : State :=
  let n := s.get Fld.GRD_CFG_TRACKER i
  let f := s.trkFreq n
  let s := s.gridJudge i t v (f - Config.gridNominal i)
  let s := if s.gridSt i = gdWait then s.gridWaitBand i t else s
  let a1 := s.trkAngle n
  if a0 / 4294967296 < a1 / 4294967296 && decide (0 < wrap64 (a1 - a0)) then
    let z := (a0 / 4294967296 + 1) * 4294967296 - a0
    let tc := t0 + (roundFree s.freeWord (z * (t - t0 : Nat)) (a1 - a0).natAbs).toNat
    s.nextFree.gridCrossing i tc f
  else s

/-- The tracker has reached HELD (Table 13.1): a tied instance trips with CAUSE TRACK. -/
def State.gridTrackLost (s : State) (n : Nat) : State :=
  (s.gridsOn n).foldl (fun s i => if s.cpinUp i then s.gridTrip i 3 else s) s

/-! ### Tokens (R242, R250) -/

/-- A token arrives at an instance with TOKEN at 1. -/
def State.gridToken (s : State) (i t ped : Nat) (supply : Bool) : State :=
  if !s.hasRec 0x0070 i || !s.flag Fld.GRD_CFG_TOKEN i then s
  else if ped ≠ s.get Fld.GRD_PED_PEDID i then
    (s.bump Fld.GRD_RIDE_CNT_TOKBAD i).event Fld.GRD_STATUS_TOKBAD i (643 + 4 * i)
  else if supply then
    let s := (s.setGrd i { s.grdOf i with tokAt := some t }).set Fld.GRD_STATUS_TOKEN i 1
    if s.gridSt i = gdWait then s.gridWaitBand i t else s
  else
    let s := (s.setGrd i { s.grdOf i with tokAt := none }).set Fld.GRD_STATUS_TOKEN i 2
    let s := if s.gridSt i = gdWait then s.gridWaitBand i t else s
    s.gridDead i

/-- No LIVE token for TOKAGE beacon periods (R242). -/
def State.tokenAged (s : State) (i : Nat) : State :=
  if s.get Fld.GRD_STATUS_TOKEN i ≠ 1 then s
  else
    (s.setGrd i { s.grdOf i with tokAt := none }).set Fld.GRD_STATUS_TOKEN i 0

/-- The nudge timer expires (R241): a nudge begins at the next crossing, unless an excursion runs. -/
def State.nudgeDue (s : State) (i : Nat) : State :=
  let g := s.grdOf i
  if !s.flag Fld.GRD_CFG_ACTEN i || (s.gridSt i ≠ gdTied && s.gridSt i ≠ gdRamp) || g.vExc.isSome || g.fExc.isSome then s
  else s.setGrd i { g with due := true }

/-- A quiet point ends a nudge and discards evidence not completed (R251); a DEAD token declares where ISLEN or TOKEN comes
into force (R243). -/
def State.gridModeApply (s : State) (i : Nat) : State :=
  (s.setGrd i { s.grdOf i with nudge := 0, extra := false, extraNow := false, due := false, active := 0 }).gridDead i

/-! ### Writers -/

/-- A write of GRD_CTRL (Table 13.7, R59): DISABLE wins over ENABLE. -/
def State.writeGrdCtrl (s : State) (a : Acc) (i v : Nat) : State :=
  if !s.hasRec 0x0070 i || !s.fnOwns a (fnGrid i) true || decide (32 ≤ v) then s.busErr
  else if v.testBit 0 && !v.testBit 1 && !s.fnOn (fnGrid i) then s.busErr
  else
    let s := if v.testBit 4 then s.gridClrTrip i else s
    let s :=
      if v.testBit 1 then (if v.testBit 2 then s.gridDisableNow i else s.gridDisable i)
      else if v.testBit 0 && s.armed (s.fnOwner (fnGrid i)) then s.gridStart i else s
    let s := if v.testBit 3 && s.gridSt i == gdWait then
      (s.setGrd i { s.grdOf i with reconnect := true }).gridTryClose i a.t else s
    s.ok

/-- Writes of the set-points (R236): the newest wins. -/
def State.writeGrdSp (s : State) (a : Acc) (i : Nat) (q : Bool) (v : Nat) : State :=
  if !s.hasRec 0x0070 i || !s.fnOwns a (fnGrid i) false || decide (65536 ≤ v) then s.busErr
  else (s.set (if q then Fld.GRD_IQ_SP_IQ else Fld.GRD_ID_SP_ID) i v).ok

/-! ### Meanings -/

/-- GRD_ENABLE (R234). -/
def execGrdEnable (a : Acc) (i : Fin 4) (s : State) : Out := .next ((s.touch a.t).writeGrdCtrl a i 1)

/-- GRD_DISABLE (R254). -/
def execGrdDisable (a : Acc) (i : Fin 4) (s : State) : Out := .next ((s.touch a.t).writeGrdCtrl a i 2)

/-- GRD_DISABLE_IMMEDIATE (R254). -/
def execGrdDisableImmediate (a : Acc) (i : Fin 4) (s : State) : Out := .next ((s.touch a.t).writeGrdCtrl a i 6)

/-- GRD_RECONNECT (R234). -/
def execGrdReconnect (a : Acc) (i : Fin 4) (s : State) : Out := .next ((s.touch a.t).writeGrdCtrl a i 8)

/-- GRD_CLRTRIP (R234). -/
def execGrdClrtrip (a : Acc) (i : Fin 4) (s : State) : Out := .next ((s.touch a.t).writeGrdCtrl a i 16)

/-- GRID_RECON_ELAPSED (R234). -/
def execGridReconElapsed (t : Nat) (i : Fin 4) (s : State) : Out := .next ((s.touch t).gridTryClose i t)

/-- GRID_CLOSE_DONE (R234). -/
def execGridCloseDone (t : Nat) (i : Fin 4) (s : State) : Out := .next ((s.touch t).gridCloseDone i t)

/-- GRID_RIDE_TRIP (R237): the curves are judged at a time with a voltage and a frequency. -/
def execGridRideTrip (t : Nat) (i : Fin 4) (v : Nat) (f : Int) (s : State) : Out := .next ((s.touch t).gridJudge i t v f)

/-- GRID_EXCURSION_END (R239). -/
def execGridExcursionEnd (t : Nat) (i : Fin 4) (s : State) : Out := .next ((s.touch t).excursionEnd i t)

/-- NUDGE_START (R241). -/
def execNudgeStart (t : Nat) (i : Fin 4) (s : State) : Out := .next ((s.touch t).nudgeDue i)

/-- TOKEN_AGE_EXPIRE (R242). -/
def execTokenAgeExpire (t : Nat) (i : Fin 4) (s : State) : Out := .next ((s.touch t).tokenAged i)

/-- GRID_DRAIN_DONE (R254). -/
def execGridDrainDone (t : Nat) (i : Fin 4) (s : State) : Out := .next ((s.touch t).gridDrainDone i)

end Sys2Proof.Machine
end

