-- ==== Sys2Proof/Machine/Mppt.lean ====
section
/-!
DEFINITION. Sys2Proof/Machine/Mppt.lean: MPPT engines (R245 to R247, R252 to R254).
-/

namespace Sys2Proof.Machine

def mpOff : Nat := 0
def mpTrack : Nat := 1
def mpScan : Nat := 2
def mpHold : Nat := 3
def mpDark : Nat := 4
def mpDrain : Nat := 5

def State.mpptSt (s : State) (m : Nat) : Nat := s.get Fld.MPPT_STATUS_STATE m
def State.mpptGo (s : State) (m st : Nat) : State := s.set Fld.MPPT_STATUS_STATE m st
/-- The engine's converter is in RUN, and its owner does not hold it in LOCKOUT (R21). -/
def State.mpptRuns (s : State) (m : Nat) : Bool :=
  s.cnvState (s.get Fld.MPPT_CFG_CONV m) == cvRun && !s.lockedOut (s.fnOwner (fnMppt m))
def State.mpptEvent (s : State) (f : Fld) (m : Nat) : State := s.event f m (656 + m)

def State.vMin (s : State) (m : Nat) : Nat := s.get Fld.MPPT_VLIM_VMIN m
def State.vMax (s : State) (m : Nat) : Nat := s.get Fld.MPPT_VLIM_VMAX m

/-! ### Power and staleness (R245, R253) -/

/-- The products that stand at or after a time: the newer ones, and the one in force then. -/
def prodsFrom (t : Nat) : List (Nat × Int) → List (Nat × Int)
  | [] => []
  | (u, p) :: rest => if u ≤ t then [(u, p)] else (u, p) :: prodsFrom t rest

/-- The product of the codes held at a time, if the engine has kept it. -/
def prodAt (u : Nat) : List (Nat × Int) → Option Int
  | [] => none
  | (x, p) :: rest => if x ≤ u then some p else prodAt u rest

/-- p of R245 over a span, in 2^16 code²: the mean of the products of the codes held at the sampling instants that fall into
it. Which instants those are the spec leaves open: they are the command's operand; with none p is free, and so is which of the
two nearest units p takes (log entry 45). -/
def State.mpptPower (s : State) (m t0 t1 : Nat) (samples : List Nat) : Int :=
  let ps := (samples.filter (fun u => decide (t0 ≤ u) && decide (u ≤ t1))).filterMap (fun u => prodAt u (s.mpptOf m).prods)
  if ps.isEmpty then sgn 32 s.freeWord.toNat
  else roundFree s.freeWord (ps.foldl (· + ·) 0) (65536 * ps.length)

/-- VIN or ICH has not updated for 1 ms (R253). -/
def State.mpptStale (s : State) (m t : Nat) : Bool :=
  let old (x : Option Nat) : Bool := match x with
    | some u => decide (u + ftuMs < t)
    | none => true
  old (s.mpptOf m).vinAt || old (s.mpptOf m).ichAt

/-- HOLD while VIN or ICH is stale (R253). -/
def State.mpptHold (s : State) (m : Nat) : State :=
  if s.mpptSt m = mpHold then s
  else
    let s := s.setMppt m { s.mpptOf m with wasDark := s.mpptSt m == mpDark }
    (s.mpptEvent Fld.MPPT_STATUS_STALE m).mpptGo m mpHold

/-! ### Scans (R246, R247) -/

/-- VREF of step k of a scan, 1 to 64, rounded to the code. -/
def State.scanRef (s : State) (m k : Nat) : Nat :=
  (s.vMax m - roundDiv ((s.vMax m - s.vMin m) * k : Nat) 64).toNat

/-- A scan starts; with its converter not in RUN it starts once that runs again (R252). -/
def State.scanStart (s : State) (m t : Nat) : State :=
  let v := s.mpptOf m
  if !s.mpptRuns m then (s.setMppt m { v with again := true }).mpptGo m mpTrack
  else
    let s := s.setMppt m { v with
      idx := 1, best := 0, bestV := 0, lastScan := some t, again := false, dwellAt := t }
    ((s.set Fld.MPPT_VREF_VREF m (s.scanRef m 1)).bump Fld.MPPT_CNT_SCANS m).mpptGo m mpScan

/-- A scan is abandoned where its converter has left RUN (R252). -/
def State.mpptLeft (s : State) (m : Nat) : State :=
  if s.mpptSt m = mpScan && !s.mpptRuns m then (s.mpptAbort m).mpptGo m mpTrack else s

/-- The engine's converter runs again (R252): a scan that waits for it starts. -/
def State.mpptAgain (s : State) (m t : Nat) : State :=
  if (s.mpptOf m).again && s.mpptRuns m && s.mpptSt m != mpOff && s.mpptSt m != mpDrain then s.scanStart m t else s

/-- The last scan of an engine began at least 60 s before a time (R247). -/
def State.scanSpaced (s : State) (m t : Nat) : Bool :=
  match (s.mpptOf m).lastScan with
  | some x => decide (x + 60 * ftuSec ≤ t)
  | none => true

/-- A request to scan; one in progress goes on, and VREF stays unchanged in HOLD (R253). -/
def State.scanAsk (s : State) (m t : Nat) : State :=
  if s.mpptSt m = mpTrack || s.mpptSt m == mpDark then s.scanStart m t else s

/-- A time at which engine m scans (R247): a TB_NOW multiple of SCAN_MIN minutes, offset by m × SCAN_MIN / 16 minutes, falls
in the system cycle that ends then. -/
def State.scanDue (s : State) (m t : Nat) : Bool :=
  let span := s.get Fld.MPPT_TIM_SCAN_MIN m * 60 * ftuSec
  decide (0 < span) && decide (m * (span / 16) ≤ t) && decide ((t - m * (span / 16)) % span < sysCycle)

/-- A dwell ends (R246), with the mean of p over its second half: the next step, or the end of the scan. -/
def State.scanDwell (s : State) (m t : Nat) (samples : List Nat) : State :=
  let s := s.mpptLeft m
  if s.mpptSt m ≠ mpScan then s
  else if s.mpptStale m t then s.mpptHold m
  else
    let p := s.mpptPower m ((s.mpptOf m).dwellAt + s.get Fld.MPPT_TIM_DWELL m * ftuMs / 2) t samples
    let s := s.nextFree
    let s := s.setMppt m { s.mpptOf m with dwellAt := t }
    let v := s.mpptOf m
    let better := v.idx == 1 || decide (v.best < p)
    let best := if better then p else v.best
    let bestV := if better then s.get Fld.MPPT_VREF_VREF m else v.bestV
    let s := s.setMppt m { v with idx := v.idx + 1, best := best, bestV := bestV }
    if v.idx < 64 then s.set Fld.MPPT_VREF_VREF m (s.scanRef m (v.idx + 1))
    else
      let s := (s.set Fld.MPPT_VMPP_VMPP m bestV).set Fld.MPPT_PMAX_PMAX m (enc 32 best)
      let s := s.mpptEvent Fld.MPPT_STATUS_SCANDONE m
      if best < s.get Fld.MPPT_PDEAD_PDEAD m then
        ((s.set Fld.MPPT_VREF_VREF m (s.vMax m)).mpptEvent Fld.MPPT_STATUS_DARK m).mpptGo m mpDark
      else
        let s := (s.set Fld.MPPT_VREF_VREF m bestV).set Fld.MPPT_VREF_STEP m (s.get Fld.MPPT_SLIM_SMIN m)
        (s.set Fld.MPPT_STATUS_DIR m 1).mpptGo m mpTrack

/-! ### Perturb and observe (R245) -/

/-- The law of R245. -/
def State.mpptPerturb (s : State) (m : Nat) (p : Int) : State :=
  let v := s.mpptOf m
  let dp := p - v.pPrev
  let step := s.get Fld.MPPT_VREF_STEP m
  let smin := s.get Fld.MPPT_SLIM_SMIN m
  let smax := s.get Fld.MPPT_SLIM_SMAX m
  let half := Nat.max (step / 2) smin
  let down := s.flag Fld.MPPT_STATUS_DIR m
  let r : Nat × Bool × Nat :=
    if dp.natAbs < s.get Fld.MPPT_PDEAD_PDEAD m then (half, down, v.same)
    else if dp < 0 then (half, !down, 0)
    else if 3 ≤ v.same + 1 then (Nat.min (2 * step) smax, down, 0)
    else (step, down, v.same + 1)
  let vref : Int := s.get Fld.MPPT_VREF_VREF m
  let vref := clampInt (s.vMin m) (s.vMax m) (if r.2.1 then vref - r.1 else vref + r.1)
  let s := s.setMppt m { v with pPrev := p, same := r.2.2 }
  ((s.set Fld.MPPT_VREF_VREF m vref.toNat).set Fld.MPPT_VREF_STEP m r.1).setFlag Fld.MPPT_STATUS_DIR m r.2.1

/-- p against its maximum of the last 10 s (R247): a fall by more than DROP % starts a scan. -/
def State.mpptDrop (s : State) (m t : Nat) (p : Int) : State :=
  let v := s.mpptOf m
  let hist := (t, p) :: v.hist.filter (fun x => decide (t < x.1 + 10 * ftuSec))
  let top := hist.foldl (fun q x => max q x.2) p
  let drop := s.get Fld.MPPT_DROP_DROP m
  let s := s.setMppt m { v with hist := hist }
  if drop ≠ 0 && decide (p * 100 < top * (100 - drop : Int)) && s.scanSpaced m t then s.scanStart m t else s

/-- A drain step (Table 13.3): VREF rises to VMAX by SMAX, then the engine is OFF; a held ENABLE follows (R481). -/
def State.mpptDrainStep (s : State) (m t : Nat) : State :=
  let vref := Nat.min (s.vMax m) (s.get Fld.MPPT_VREF_VREF m + s.get Fld.MPPT_SLIM_SMAX m)
  let s := s.set Fld.MPPT_VREF_VREF m vref
  if vref < s.vMax m then s
  else
    let v := s.mpptOf m
    let s := (s.setMppt m { v with enHeld := false, again := false }).mpptGo m mpOff
    if v.enHeld && s.fnOn (fnMppt m) then
      let s := (s.set Fld.MPPT_VREF_VREF m (s.vMax m)).set Fld.MPPT_VREF_STEP m (s.get Fld.MPPT_SLIM_SMIN m)
      ((s.set Fld.MPPT_STATUS_DIR m 1).mpptGo m mpTrack).scanStart m t
    else s

/-- A step begins: the products before it are dropped but the one in force, and those that a dwell in progress needs. -/
def State.mpptNextStep (s : State) (m t : Nat) : State :=
  let v := s.mpptOf m
  let from? := if s.mpptSt m = mpScan then Nat.min t v.dwellAt else t
  s.setMppt m { v with prods := prodsFrom from? v.prods }

/-- P&O takes the step's p (R245), or resumes after HOLD; DARK pauses it until the next scan (R246). -/
def State.mpptTrack (s : State) (m t t0 : Nat) (samples : List Nat) : State :=
  let p := s.mpptPower m t0 t samples
  ((s.nextFree.mpptGo m mpTrack).mpptPerturb m p).mpptDrop m t p

/-- One step of an engine, from t0 to t (R245, R252 to R254). -/
def State.mpptStep (s : State) (m t t0 : Nat) (samples : List Nat) : State :=
  let s := s.mpptLeft m
  let s := if s.mpptSt m ≠ mpOff && s.mpptSt m ≠ mpDrain && s.mpptStale m t then s.mpptHold m else s.mpptAgain m t
  let st := s.mpptSt m
  let s :=
    if st = mpOff then s
    else if st = mpDrain then s.mpptDrainStep m t
    else if s.mpptStale m t || st = mpDark || st = mpScan || !s.mpptRuns m then s
    else if st = mpHold && (s.mpptOf m).wasDark then s.mpptGo m mpDark
    else s.mpptTrack m t t0 samples
  s.mpptNextStep m t

/-! ### Start and stop -/

/-- ENABLE from OFF (R245): VREF at VMAX, DIR downward, STEP at SMIN, and a scan. -/
def State.mpptStart (s : State) (m t : Nat) : State :=
  if s.mpptSt m = mpDrain then s.setMppt m { s.mpptOf m with enHeld := true }
  else if s.mpptSt m ≠ mpOff then s
  else
    let s := (s.set Fld.MPPT_VREF_VREF m (s.vMax m)).set Fld.MPPT_VREF_STEP m (s.get Fld.MPPT_SLIM_SMIN m)
    (s.set Fld.MPPT_STATUS_DIR m 1).scanStart m t

def State.mpptDisable (s : State) (m : Nat) : State := if s.mpptSt m = mpOff then s else s.mpptGo m mpDrain

def State.mpptDisableNow (s : State) (m : Nat) : State :=
  if s.mpptSt m = mpOff then s
  else
    let s := s.setMppt m { s.mpptOf m with enHeld := false, again := false }
    (s.set Fld.MPPT_VREF_VREF m (s.vMax m)).mpptGo m mpOff

/-- A quiet point that changes the record (R252): a running scan is abandoned, VREF is clamped, and P&O resumes with STEP
at SMIN. -/
def State.mpptModeApply (s : State) (m : Nat) : State :=
  if s.mpptSt m = mpOff || s.mpptSt m == mpDrain then s
  else
    let s := if s.mpptSt m = mpScan then
      (s.mpptAbort m).setMppt m { (s.mpptAbort m).mpptOf m with again := false } else s
    let vref := Nat.max (s.vMin m) (Nat.min (s.vMax m) (s.get Fld.MPPT_VREF_VREF m))
    let s := (s.set Fld.MPPT_VREF_VREF m vref).set Fld.MPPT_VREF_STEP m (s.get Fld.MPPT_SLIM_SMIN m)
    s.mpptGo m mpTrack

/-- A write of MPPT_CTRL (Table 13.7, R59). -/
def State.writeMpptCtrl (s : State) (a : Acc) (m v : Nat) : State :=
  if !s.hasRec 0x0072 m || !s.fnOwns a (fnMppt m) true || decide (16 ≤ v) then s.busErr
  else if v.testBit 0 && !v.testBit 1 && !s.fnOn (fnMppt m) then s.busErr
  else
    let s :=
      if v.testBit 1 then (if v.testBit 2 then s.mpptDisableNow m else s.mpptDisable m)
      else if v.testBit 0 && s.armed (s.fnOwner (fnMppt m)) then s.mpptStart m a.t else s
    let s := if v.testBit 3 && s.scanSpaced m a.t then s.scanAsk m a.t else s
    s.ok

/-! ### Meanings -/

/-- MPPT_STEP (R245). -/
def execMpptStep (t : Nat) (m : Fin 16) (t0 : Nat) (samples : List Nat) (s : State) : Out :=
  .next ((s.touch t).mpptStep m t t0 samples)

/-- MPPT_SCAN_DWELL_END (R246). -/
def execMpptScanDwellEnd (t : Nat) (m : Fin 16) (samples : List Nat) (s : State) : Out :=
  .next ((s.touch t).scanDwell m t samples)

/-- MPPT_SCHEDULED_SCAN (R247), at one of the engine's times. -/
def execMpptScheduledScan (t : Nat) (m : Fin 16) (s : State) : Out :=
  let s := s.touch t
  .next (if s.scanDue m t then s.scanAsk m t else s)

/-- MPPT_SCAN_CMD (R247). -/
def execMpptScanCmd (a : Acc) (m : Fin 16) (s : State) : Out := .next ((s.touch a.t).writeMpptCtrl a m 8)

/-- MPPT_ENABLE (R245). -/
def execMpptEnable (a : Acc) (m : Fin 16) (s : State) : Out := .next ((s.touch a.t).writeMpptCtrl a m 1)

/-- MPPT_DISABLE (R254). -/
def execMpptDisable (a : Acc) (m : Fin 16) (s : State) : Out := .next ((s.touch a.t).writeMpptCtrl a m 2)

/-- MPPT_DISABLE_IMMEDIATE (R254). -/
def execMpptDisableImmediate (a : Acc) (m : Fin 16) (s : State) : Out := .next ((s.touch a.t).writeMpptCtrl a m 6)

end Sys2Proof.Machine
end

