-- ==== Sys2Proof/Machine/Axis.lean ====
section
/-!
DEFINITION. Sys2Proof/Machine/Axis.lean: axes (chapter 14): the update (R258 to R265), tickets (R267), enable and disable
(R266, R270), faults (R264). r and A are held in 2^-32 AU and AU/s.
-/

namespace Sys2Proof.Machine

def axOff : Nat := 0
def axRun : Nat := 1
def axReversing : Nat := 2
def axDwell : Nat := 3
def axDrain : Nat := 4
def axFault : Nat := 5

def State.axsSt (s : State) (x : Nat) : Nat := s.get Fld.AXS_STATUS_STATE x
def State.axsGo (s : State) (x st : Nat) : State := s.set Fld.AXS_STATUS_STATE x st

/-- An event bit sets; source 672 + a is raised where it was clear (R271's chapter). -/
def State.axsEvent (s : State) (f : Fld) (x : Nat) : State := if s.flag f x then s else s.event f x (672 + x)

def axUnit : Int := 4294967296

def State.axsSp (s : State) (x : Nat) : Int := sgn 32 (s.get Fld.AXS_SP_SP x)
def State.axsWinch (s : State) (x : Nat) : Bool := s.get Fld.AXS_CFG_KIND x == 1
def State.axsLimen (s : State) (x : Nat) : Bool := s.flag Fld.AXS_LIMFLAGS_LIMEN x
def State.limLo (s : State) (x : Nat) : Int := sgn 32 (s.get Fld.AXS_LIM_LO_LIM x)
def State.limHi (s : State) (x : Nat) : Int := sgn 32 (s.get Fld.AXS_LIM_HI_LIM x)

/-- The payout a winch's tracker reports, in 2^-32 mm (R89, R263). -/
def State.axsPayout (s : State) (x : Nat) : Int := s.trkAngle (s.get Fld.AXS_CFG_TRACKER x)

def State.axsTrkState (s : State) (x : Nat) : Nat := s.trkState (s.get Fld.AXS_CFG_TRACKER x)

/-- vstop of R263 in 2^-32 AU, from a distance in 2^-32 of 0.01 mm. -/
def vstop (rate jerk : Nat) (d : Int) : Int :=
  if d ≤ 0 then 0
  else
    let a2 := rate * rate
    let root := isqrt ((a2 * a2 * 4294967296 + 8 * d.toNat * rate * jerk * jerk) * 4294967296)
    (((root : Int) - a2 * 4294967296) / (2 * Nat.max 1 jerk : Nat))

/-- The tickets and the place of an axis that stops: entering OFF sets AXS_SP to 0 (R266). -/
def State.axsOff (s : State) (x : Nat) : State :=
  let s := s.setAxs x { s.axsOf x with r := 0, a := 0, dir := 0, stopped := false, clamped := false }
  let s := ((s.set Fld.AXS_OUT_R x 0).set Fld.AXS_ACC_A x 0).set Fld.AXS_SP_SP x 0
  let s := ((s.set Fld.AXS_STATUS_SETTLED x 0).set Fld.AXS_STATUS_REGEN x 0).set Fld.AXS_STATUS_DIR x 0
  s.axsGo x axOff

/-- End the ramp's ticket. -/
def State.axsClose (s : State) (x outcome : Nat) : State :=
  match (s.axsOf x).ticket with
  | none => s
  | some tk => (s.closeOp tk outcome).setAxs x { s.axsOf x with ticket := none }

/-- The axis starts at rest (R266); a set-point that replay gives back comes with its ticket (Table 26.3). -/
def State.axsStart (s : State) (x : Nat) : State :=
  if s.axsSt x = axDrain then s.setAxs x { s.axsOf x with enHeld := true }
  else if s.axsSt x ≠ axOff then s
  else
    let v := s.axsOf x
    let s := s.setAxs x { v with r := 0, a := 0, dir := 0, stopped := false, clamped := false, enHeld := false, fresh := true }
    let s := match v.resume with
      | none => s
      | some (tk, sp) =>
        (s.setAxs x { s.axsOf x with resume := none, ticket := some tk, progSp := sp }).set Fld.AXS_SP_SP x (enc 32 sp)
    s.axsGo x axRun

/-- DISABLE (R270, R481). -/
def State.axsDisable (s : State) (x : Nat) : State :=
  if s.axsSt x = axOff || s.axsSt x == axDrain || s.axsSt x == axFault then s
  else (s.axsClose x ocCancelled).axsGo x axDrain

/-- DISABLE with IMMEDIATE (R270). -/
def State.axsDisableNow (s : State) (x : Nat) : State :=
  if s.axsSt x = axOff || s.axsSt x == axFault then s
  else
    let s := (s.axsClose x ocCancelled).setAxs x { s.axsOf x with enHeld := false }
    let s := s.setAxs x { s.axsOf x with ticket := none }
    (s.convDisableNow (s.get Fld.AXS_CFG_CONV x)).axsOff x

/-- The drain has ended (R270): the converter is disabled under R139, and a held ENABLE follows (R481). -/
def State.axsDrainEnd (s : State) (x : Nat) : State :=
  let held := (s.axsOf x).enHeld
  let s := (s.convDisable (s.get Fld.AXS_CFG_CONV x)).axsOff x
  let s := s.setAxs x { s.axsOf x with enHeld := false }
  if held && s.fnOn (fnAxis x) then s.axsStart x else s

/-! ### The update -/

/-- The payout bounds of R263 and R264 on a set-point in 2^-32 AU: the bounded set-point, and whether the tracker is lost. -/
def State.axsPay (s : State) (x : Nat) (sp : Int) : Int × Bool :=
  let st := s.axsTrkState x
  if st ≠ tkTrack && st ≠ tkCoast then (0, true)
  else
    let p := s.axsPayout x
    let rate := s.get Fld.AXS_RATE_RATE x
    let jerk := s.get Fld.AXS_JERK_JERK x
    let up := vstop rate jerk (100 * (s.limHi x * axUnit - p))
    let down := vstop rate jerk (100 * (p - s.limLo x * axUnit))
    (clampInt (-down) up sp, false)

/-- The clamped set-point in 2^-32 AU (R259, R262 to R264), and which clamps act: limits, payout, payout lost. -/
def State.axsTarget (s : State) (x : Nat) : Int × Bool × Bool × Bool :=
  let sp := s.axsSp x
  let vmax : Int := s.get Fld.AXS_VMAX_VMAX x
  let s1 := clampInt (-vmax) vmax sp
  if !s.axsLimen x then (s1 * axUnit, s1 != sp, false, false)
  else if s.axsWinch x then
    let b := s.axsPay x (s1 * axUnit)
    let acts := b.1 != s1 * axUnit
    (b.1, s1 != sp || (acts && !b.2), acts && !b.2, b.2)
  else
    let s2 := clampInt (s.limLo x) (s.limHi x) s1
    let r := (s.axsOf x).r
    (s2 * axUnit, s2 != sp || decide (r < s.limLo x * axUnit) || decide (s.limHi x * axUnit < r), false, false)

def signOf (z : Int) : Int := if 0 < z then 1 else if z < 0 then -1 else 0

/-- The choice of R261: target and state. -/
def axsChoose (r sp dir : Int) (dwell : Bool) : Int × Nat :=
  if r ≠ 0 && signOf sp == -signOf r then (0, axReversing)
  else if r = 0 && decide (dir ≠ 0) && signOf sp == -dir && dwell then (0, axDwell)
  else (sp, axRun)

/-- The law of R260 in 2^-32: r and A after an update, and whether r landed. -/
def axsLaw (free : BitVec 64) (rate jerk : Nat) (r a tgt : Int) : Int × Int × Bool :=
  let e := tgt - r
  let aw := signOf e * min (rate * axUnit) (isqrt (2 * jerk * e.natAbs * 4294967296) : Nat)
  let dj : Int := roundFree free (jerk * axUnit) 10000
  let a := a + clampInt (-dj) dj (aw - a)
  if 10000 * e.natAbs ≤ a.natAbs && signOf a == signOf e then (tgt, 0, true)
  else (r + roundFree (free >>> 1) a 10000, a, false)

/-- A winch past its limits faults (R264). -/
def State.axsOverrun (s : State) (x : Nat) : State :=
  let s := (s.axsClose x ocFailed).axisZero x
  let s := (s.axsGo x axFault).axsEvent Fld.AXS_STATUS_OVERRUN x
  let s := (s.set Fld.AXS_STATUS_REGEN x 0).set Fld.AXS_STATUS_SETTLED x 0
  s.faultF2 blkAXS x (causeOf whyAxisOverrun) [s.get Fld.AXS_CFG_CONV x]

/-- p has passed LIM_HI + OVRUN or LIM_LO - OVRUN (R264). -/
def State.axsPast (s : State) (x : Nat) : Bool :=
  let p := s.axsPayout x
  let o : Int := s.get Fld.AXS_LIMFLAGS_OVRUN x
  s.axsWinch x && s.axsLimen x && (s.axsTrkState x == tkTrack || s.axsTrkState x == tkCoast) &&
    (decide ((s.limHi x + o) * axUnit < p) || decide (p < (s.limLo x - o) * axUnit))

/-- Clamps that act set LIMIT, PAYLIM and PAYLOST; LIMITS counts where one begins to act. -/
def State.axsClamps (s : State) (x : Nat) (limit pay lost : Bool) : State :=
  let s := if limit && !(s.axsOf x).clamped then s.bump Fld.AXS_CNT_LIMITS x else s
  let s := s.setAxs x { s.axsOf x with clamped := limit }
  let s := if limit then s.axsEvent Fld.AXS_STATUS_LIMIT x else s
  let s := if pay then s.axsEvent Fld.AXS_STATUS_PAYLIM x else s
  if lost then s.axsEvent Fld.AXS_STATUS_PAYLOST x else s

/-- The ticket of a ramp (R267): taken when r leaves SETTLED, its progress journaled at most once per 10 ms. -/
def State.axsTicket (s : State) (x t : Nat) (leaves : Bool) : State :=
  let v := s.axsOf x
  match v.ticket with
  | some tk =>
    if v.progSp ≠ s.axsSp x && decide (v.progAt + 10 * ftuMs ≤ t) then
      (s.progOp tk (s.get Fld.AXS_SP_SP x)).setAxs x { v with progAt := t, progSp := s.axsSp x }
    else s
  | none =>
    if !leaves || !s.flag Fld.AXS_CFG_JNL x then s
    else match s.openOp 2 x (leBytes 4 (s.get Fld.AXS_SP_SP x)) [] with
      | none => s.axsEvent Fld.AXS_STATUS_NOTICKET x
      | some (tk, s) => s.setAxs x { v with ticket := some tk, progAt := t, progSp := s.axsSp x }

/-- The output registers, written together (R258). -/
def State.axsOut (s : State) (x t : Nat) (r a : Int) : State :=
  let free := s.freeWord
  let s := (s.nextFree.set Fld.AXS_OUT_R x (enc 32 (roundFree free r 4294967296))).set Fld.AXS_ACC_A x
    (enc 32 (roundFree (free >>> 1) a 4294967296))
  let s := s.set Fld.AXS_STAMP_STAMP x t
  s.setFlag Fld.AXS_STATUS_REGEN x (s.axsWinch x && decide (0 < r))

/-- r has landed on 0 from a nonzero value (R261): DIR and its time. -/
def State.axsLanded0 (s : State) (x t : Nat) (was : Int) : State :=
  if was = 0 || (s.axsOf x).r ≠ 0 then s
  else (s.setAxs x { s.axsOf x with dir := signOf was, tZero := t }).setFlag Fld.AXS_STATUS_DIR x (decide (was < 0))

/-- SETTLED (R260): set with SETTLE on landing on the clamped set-point, clear while the target differs from r. -/
def State.axsSettle (s : State) (x : Nat) (landed onSp : Bool) : State :=
  if landed && onSp then
    if s.flag Fld.AXS_STATUS_SETTLED x then s
    else ((s.set Fld.AXS_STATUS_SETTLED x 1).axsEvent Fld.AXS_STATUS_SETTLE x).axsClose x ocComplete
  else s

/-- One update of a moving axis with its limits and its target (R260). -/
def State.axsMove (s : State) (x t rate jerk : Nat) (tgt : Int) (onSp : Bool) : State :=
  let v := s.axsOf x
  let free := s.freeWord
  let s := s.nextFree
  let leaves := (s.flag Fld.AXS_STATUS_SETTLED x || v.fresh) && tgt != v.r
  let s := if tgt ≠ v.r then (s.set Fld.AXS_STATUS_SETTLED x 0).setAxs x { v with fresh := false } else s
  let s := s.axsTicket x t (leaves && s.axsSt x != axDrain)
  let m := axsLaw free rate jerk v.r v.a tgt
  let s := (s.setAxs x { s.axsOf x with r := m.1, a := m.2.1 }).axsLanded0 x t v.r
  (s.axsSettle x m.2.2 onSp).axsOut x t m.1 m.2.1

/-- The update of one axis (R258). -/
def State.axsUpdate (s : State) (x t : Nat) : State :=
  let st := s.axsSt x
  let c := s.get Fld.AXS_CFG_CONV x
  if st = axOff || st == axFault then s
  else if s.axsPast x then s.axsOverrun x
  else if (s.axsOf x).stopped && (s.cnvState c != cvRun || s.lockedOut (s.fnOwner (fnAxis x))) then
    let s := s.axsOut x t 0 0
    if st = axDrain then s.axsDrainEnd x else s
  else
    let s := s.setAxs x { s.axsOf x with stopped := false }
    let v := s.axsOf x
    if st = axDrain then
      let s := s.axsMove x t (s.get Fld.AXS_STOPRATE_STOPRATE x) (s.get Fld.AXS_STOPJERK_STOPJERK x) 0 false
      if (s.axsOf x).r = 0 then s.axsDrainEnd x else s
    else
      let g := s.axsTarget x
      let s := s.axsClamps x g.2.1 g.2.2.1 g.2.2.2
      let dwell := decide (t < v.tZero + s.get Fld.AXS_ZDWELL_ZDWELL x * ftuMs)
      let k := axsChoose v.r g.1 v.dir dwell
      let s := if v.r = 0 && v.dir ≠ 0 && k.2 == axRun && signOf g.1 == -v.dir
        then s.bump Fld.AXS_CNT_REVERSALS x else s
      let s := s.axsGo x k.2
      s.axsMove x t (s.get Fld.AXS_RATE_RATE x) (s.get Fld.AXS_JERK_JERK x) k.1 (k.1 == g.1)

/-- CLRFLT (R264): with payout inside the limits a faulted axis goes OFF. -/
def State.axsClrFlt (s : State) (x : Nat) : State :=
  let p := s.axsPayout x
  if s.axsSt x = axFault && decide (s.limLo x * axUnit ≤ p) && decide (p ≤ s.limHi x * axUnit) then s.axsOff x else s

/-! ### Writers -/

/-- A write of AXS_CTRL (R272, R59); DISABLE wins. -/
def State.writeAxsCtrl (s : State) (a : Acc) (x v : Nat) : State :=
  if !s.hasRec 0x0073 x || !s.fnOwns a (fnAxis x) true || decide (16 ≤ v) then s.busErr
  else if v.testBit 0 && !v.testBit 1 && !s.fnOn (fnAxis x) then s.busErr
  else
    let s := if v.testBit 3 then s.axsClrFlt x else s
    let s :=
      if v.testBit 1 then (if v.testBit 2 then s.axsDisableNow x else s.axsDisable x)
      else if v.testBit 0 && s.armed (s.fnOwner (fnAxis x)) then s.axsStart x else s
    s.ok

/-- A write of AXS_SP (R259, R270, R272): discarded without error while draining. -/
def State.writeAxsSp (s : State) (a : Acc) (x v : Nat) : State :=
  if !s.hasRec 0x0073 x || !s.fnOwns a (fnAxis x) false then s.busErr
  else if s.axsSt x = axDrain then s.ok
  else (s.set Fld.AXS_SP_SP x v).ok

/-! ### Meanings -/

/-- AXIS_UPDATE (R260). -/
def execAxisUpdate (t : Nat) (s : State) : Out :=
  .next ((List.range 32).foldl (fun s x => if s.hasRec 0x0073 x then s.axsUpdate x t else s) (s.touch t))

/-- AXS_ENABLE (R266). -/
def execAxsEnable (a : Acc) (x : Fin 32) (s : State) : Out := .next ((s.touch a.t).writeAxsCtrl a x 1)

/-- AXS_DISABLE (R270). -/
def execAxsDisable (a : Acc) (x : Fin 32) (s : State) : Out := .next ((s.touch a.t).writeAxsCtrl a x 2)

/-- AXS_DISABLE_IMMEDIATE (R270). -/
def execAxsDisableImmediate (a : Acc) (x : Fin 32) (s : State) : Out := .next ((s.touch a.t).writeAxsCtrl a x 6)

/-- AXS_CLRFLT (R264). -/
def execAxsClrflt (a : Acc) (x : Fin 32) (s : State) : Out := .next ((s.touch a.t).writeAxsCtrl a x 8)

end Sys2Proof.Machine
end

