-- ==== Sys2Proof/Machine/FaultFam.lean ====
section
/-!
DEFINITION. Sys2Proof/Machine/FaultFam.lean: what releases the fault fabric (R477, R478) and takes a leg out of service
and back (R484).
-/

namespace Sys2Proof.Machine

/-- A trip of a converter's TRIPMASK is asserted. -/
def State.tripsNow (s : State) (c : Nat) : Bool :=
  (List.range 16).any (fun n => (s.get Fld.EDG_CNV_PROT_TRIPMASK c).testBit n && s.tripActive n && (s.tripOf n).asserted)

/-- Every leg of a converter is ADMITTED, reports neither SAFE nor LATCHED, and is not STALE; a leg that is OUT is not
judged (R484). -/
def State.legsClear (s : State) (c : Nat) : Bool :=
  (s.convLegs c).all (fun n =>
    s.legOut n || (s.admitted n && !s.legStale n && s.legState n != 3 && s.legState n != 4))

/-- Every function that drives a converter has left its fault state. -/
def State.funcsClear (s : State) (c : Nat) : Bool :=
  (s.gridsOf c).all (fun i => s.get Fld.GRD_STATUS_STATE i != gdTripped)
    && (s.axesOf c).all (fun a => s.get Fld.AXS_STATUS_STATE a != axFault)

/-- The conditions of R477. -/
def State.cnvClearable (s : State) (c : Nat) : Bool :=
  !s.tripsNow c && s.legsClear c && s.funcsClear c && !s.flag Fld.FLT_CNV_F3 c && !s.flag Fld.FLT_CNV_F4 c

/-- A write of FLT_CNV_CLR (R477, R487). -/
def State.writeCnvClr (s : State) (a : Acc) (v : Nat) : State :=
  if 256 ≤ v || !s.hasRec 0x0011 v || !isKernel a (s.cnvOwner v) then s.busErr
  else if s.cnvClearable v then
    (((((s.set Fld.FLT_CNV_F1 v 0).set Fld.FLT_CNV_F2 v 0).set Fld.FLT_CNV_CAUSE v 0)).convReleased v).ok
  else (s.event Fld.FLT_EVT_CLRREF 0 7).ok

/-- A write of FLT_SVC_CTRL (R484, R487); OUT wins. -/
def State.writeSvcCtrl (s : State) (a : Acc) (v : Nat) : State :=
  let n := v % 256
  match s.legConv n with
  | none => s.busErr
  | some c =>
    if 1024 ≤ v || !isKernel a (s.cnvOwner c) then s.busErr
    else if v.testBit 8 then (s.setBitOf Fld.FLT_OUT_OUT (n / 32) (n % 32) true).ok
    else if v.testBit 9 && s.legOut n then
      let s := s.setBitOf Fld.FLT_OUT_OUT (n / 32) (n % 32) false
      (if s.admitted n then s.sendClear n else s).ok
    else s.ok

/-- Every F4 cause has been clear for 1 s (R478). -/
def State.autoRelease (s : State) (t : Nat) : State :=
  if s.pow.st != .safeHold || !s.flag Fld.FLT_DEV_AUTOREL 0 || !s.flag Fld.FLT_DEV_F4 0
      || !s.flag Fld.CLK_STATUS_PLLT_LOCK 0 || !s.flag Fld.CLK_STATUS_PLLS_OK 0 || s.flag Fld.SYS_CHN_STATUS_KATFAIL 0
      || decide (t < s.pow.f4ClearAt + ftuSec) then s
  else
    let s := s.set Fld.FLT_DEV_F4 0 0
    let s := s.allConvs.foldl (fun s c =>
      let s := s.set Fld.FLT_CNV_F4 c 0
      if s.topClass c = 0 then s.set Fld.FLT_CNV_CAUSE c 0 else s) s
    s.leaveSafeHold

/-! ### Meanings -/

/-- SAFE_HOLD_AUTO_RELEASE (R478). -/
def execSafeHoldAutoRelease (t : Nat) (s : State) : Out := .next ((s.touch t).autoRelease t)

/-- FLT_CNV_CLR (R477). -/
def execFltCnvClr (a : Acc) (c : Fin 256) (s : State) : Out := .next ((s.touch a.t).writeCnvClr a c)

/-- LEG_OUT (R484). -/
def execLegOut (a : Acc) (n : Fin 256) (s : State) : Out := .next ((s.touch a.t).writeSvcCtrl a (n + 256))

/-- LEG_IN (R484). -/
def execLegIn (a : Acc) (n : Fin 256) (s : State) : Out := .next ((s.touch a.t).writeSvcCtrl a (n + 512))

end Sys2Proof.Machine
end

