-- ==== Sys2Proof/Machine/IrqFam.lean ====
section
/-!
DEFINITION. Sys2Proof/Machine/IrqFam.lean: the interrupt controller (chapter 23): which source a target takes (R403),
hold-off (R404), the SET and CLR addresses (R405), pins (R406) and doorbells (R407, R408).
-/

namespace Sys2Proof.Machine

/-! ### Eligibility (R402 to R404) -/

/-- ROUTE of a source. -/
def State.route (s : State) (src : Nat) : Nat := bits (s.get Fld.IRQ_ROUTE_ROUTE (src / 16)) (2 * (src % 16)) 2

def State.isPend (s : State) (src : Nat) : Bool := s.bitOf Fld.IRQ_PEND_PEND (src / 32) (src % 32)
def State.isEn (s : State) (src : Nat) : Bool := s.bitOf Fld.IRQ_EN_EN (src / 32) (src % 32)

/-- A group is held off for a target now. -/
def State.heldOff (s : State) (g t : Nat) : Bool :=
  s.bitOf Fld.IRQ_GRP_STATUS_HELD g t && decide (s.tb < Table.get 0 s.irq.hold (3 * g + t))

/-- A source is eligible for target t (R403). -/
def State.eligible (s : State) (t src : Nat) : Bool :=
  s.isPend src && s.isEn src && s.route src == t && !s.heldOff (src / 32) t

/-- The lowest-numbered eligible source. -/
def State.nextSource (s : State) (t : Nat) : Option Nat :=
  (List.range 1024).find? (fun n => s.eligible t n)

/-- The hold-off of a group for a target starts (R404). -/
def State.startHold (s : State) (g t : Nat) : State :=
  let us := s.get Fld.IRQ_GRP_CFG_HOLDOFF g
  if us = 0 then s
  else
    let s := s.setBitOf Fld.IRQ_GRP_STATUS_HELD g t true
    { s with irq := { s.irq with hold := Table.set 0 s.irq.hold (3 * g + t) (s.tb + us * ftuUs) } }

/-- Target t takes a source (R403). -/
def State.takeSource (s : State) (t src : Nat) : State :=
  let s := s.setBitOf Fld.IRQ_PEND_PEND (src / 32) (src % 32) false
  let s := (s.set Fld.IRQ_TAKEN_SRC t src).set Fld.IRQ_TAKEN_VALID t 1
  s.startHold (src / 32) t

/-! ### SET and CLR (R405) -/

/-- The target a writer of R405 stands for: a core at kernel level, or Chancel; none for any other. -/
def irqWriter (a : Acc) : Option Nat :=
  match a.m with
  | .nave0 => if a.kernel then some 0 else none
  | .nave1 => if a.kernel then some 1 else none
  | .chancel => some 2
  | _ => none

/-- The sources of group g a writer's 1 bits act on: its own; Chancel's, every one. -/
def State.irqActs (s : State) (w g v : Nat) : List Nat :=
  ((List.range 32).filter (fun i => v.testBit i && (w == 2 || s.route (32 * g + i) == w))).map (fun i => 32 * g + i)

def State.writeIrq (s : State) (a : Acc) (g v : Nat) (act : State → Nat → State) : State :=
  match irqWriter a with
  | none => s.busErr
  | some w => ((s.irqActs w g v).foldl act s).ok

def State.writePendSet (s : State) (a : Acc) (g v : Nat) : State := s.writeIrq a g v (fun s n => s.raise n)
def State.writePendClr (s : State) (a : Acc) (g v : Nat) : State :=
  s.writeIrq a g v (fun s n => s.setBitOf Fld.IRQ_PEND_PEND (n / 32) (n % 32) false)
def State.writeEnSet (s : State) (a : Acc) (g v : Nat) : State :=
  s.writeIrq a g v (fun s n => s.setBitOf Fld.IRQ_EN_EN (n / 32) (n % 32) true)
def State.writeEnClr (s : State) (a : Acc) (g v : Nat) : State :=
  s.writeIrq a g v (fun s n => s.setBitOf Fld.IRQ_EN_EN (n / 32) (n % 32) false)

/-! ### Doorbells (R407, R408) -/

/-- The sender codes of R408. -/
def senderCode (a : Acc) : Nat :=
  match a.m with
  | .nave0 => if a.kernel then 1 else 0
  | .nave1 => if a.kernel then 3 else 2
  | .chancel => 4
  | .host => 5
  | .debug => 6

/-- Replace nibble j of a word. -/
def setNibble (w j v : Nat) : Nat := w - bits w (4 * j) 4 * 2 ^ (4 * j) + v * 2 ^ (4 * j)

/-- A write of IRQ_DOORBELL: a number below 896 is reserved. -/
def State.writeDoorbell (s : State) (a : Acc) (v : Nat) : State :=
  if 1024 ≤ v || v < 896 then s.busErr
  else
    let k := (v - 896) / 8
    let s := s.raise v
    (s.set Fld.IRQ_DB_SENDER_SENDER k (setNibble (s.get Fld.IRQ_DB_SENDER_SENDER k) (v % 8) (senderCode a))).ok

/-! ### Pins (R406) -/

/-- A level-sensed pin at its active level sets its pending bit. -/
def State.pinLevel (s : State) (p : Nat) : State :=
  let on := s.flag Fld.IRQ_PIN_CFG_LEVEL p
  let sense := s.get Fld.IRQ_PIN_CFG_SENSE p
  if (sense = 4 && on) || (sense = 5 && !on) then s.setBitOf Fld.IRQ_PEND_PEND 27 p true else s

/-- What the filter of a pin finds there: the level that the controller drives, where the pin is an output. -/
def State.pinLevelAt (s : State) (p : Nat) (level : Bool) : Bool := if (s.pinOf p).out then (s.pinOf p).level else level

/-- A time is a tick of a pin's filter clock: any system cycle, or every 2,048 FTU of TB_NOW. -/
def State.pinTick (s : State) (p t : Nat) : Bool := !s.flag Fld.IRQ_PIN_CFG_FCLK p || decide (t % 2048 = 0)

/-- A filter-clock sample of a pin: its filtered level changes after FILT equal samples. -/
def State.pinFilter (s : State) (p : Nat) (level : Bool) : State :=
  let v := s.pinOf p
  let was := s.flag Fld.IRQ_PIN_CFG_LEVEL p
  let put (s : State) (k : Nat) : State :=
    { s with irq := { s.irq with pins := Table.set {} s.irq.pins p { v with count := k } } }
  if level = was then (put s 0).pinLevel p
  else if v.count + 1 < s.get Fld.IRQ_PIN_CFG_FILT p then (put s (v.count + 1)).pinLevel p
  else
    let s := (put s 0).setFlag Fld.IRQ_PIN_CFG_LEVEL p level
    let sense := s.get Fld.IRQ_PIN_CFG_SENSE p
    let edge := sense = 3 || (sense = 1 && level) || (sense = 2 && !level)
    (if edge then s.raise (864 + p) else s).pinLevel p

/-- A sample of a pin at a time, whose level outside is given. -/
def State.pinSample (s : State) (p t : Nat) (level : Bool) : State :=
  if s.pinTick p t then s.pinFilter p (s.pinLevelAt p level) else s

/-! ### Meanings -/

/-- IRQ_HOLDOFF_END (R404). -/
def execIrqHoldoffEnd (t : Nat) (g : Fin 32) (target : Fin 3) (s : State) : Out :=
  let s := s.touch t
  .next (if Table.get 0 s.irq.hold (3 * g + target) ≤ t then s.setBitOf Fld.IRQ_GRP_STATUS_HELD g target false else s)

/-- IRQ_PEND_SET (R405). -/
def execIrqPendSet (a : Acc) (g : Fin 32) (v : Word) (s : State) : Out := .next ((s.touch a.t).writePendSet a g v.toNat)

/-- IRQ_PEND_CLR (R405). -/
def execIrqPendClr (a : Acc) (g : Fin 32) (v : Word) (s : State) : Out := .next ((s.touch a.t).writePendClr a g v.toNat)

/-- IRQ_EN_SET (R405). -/
def execIrqEnSet (a : Acc) (g : Fin 32) (v : Word) (s : State) : Out := .next ((s.touch a.t).writeEnSet a g v.toNat)

/-- IRQ_EN_CLR (R405). -/
def execIrqEnClr (a : Acc) (g : Fin 32) (v : Word) (s : State) : Out := .next ((s.touch a.t).writeEnClr a g v.toNat)

/-- IRQ_DOORBELL (R407). -/
def execIrqDoorbell (a : Acc) (v : Word) (s : State) : Out := .next ((s.touch a.t).writeDoorbell a v.toNat)

/-- GPIO_INPUT_SAMPLE (R406). -/
def execGpioInputSample (t : Nat) (p : Fin 32) (level : Bool) (s : State) : Out := .next ((s.touch t).pinSample p t level)

end Sys2Proof.Machine
end

