-- ==== Sys2Proof/Machine/Mailbox.lean ====
section
/-!
DEFINITION. Sys2Proof/Machine/Mailbox.lean: mailboxes (chapter 24): staging (R414), commits (R415, R417, R421), TAKE (R416),
timeouts (R418), WITHDRAW (R419) and NOTIFY (R420).
-/

namespace Sys2Proof.Machine

/-- A mailbox has a MAILBOX record (R423). -/
def State.hasMbx (s : State) (m : Nat) : Bool := s.hasRec 0x00A1 m

def State.mbxFull (s : State) (m : Nat) : Bool := s.get Fld.MBX_STATUS_STATE m == 1

/-- The NOTIFY doorbell rings, its SENDER field unchanged (R420). -/
def State.mbxNotify (s : State) (m : Nat) : State :=
  if s.flag Fld.MBX_CFG_NOTEN m then s.raise (s.get Fld.MBX_CFG_NOTIFY m) else s

/-- The message's ticket, if any, closes. -/
def State.mbxClose (s : State) (m outcome : Nat) : State :=
  match (s.mbxOf m).ticket with
  | none => s
  | some tk => (s.closeOp tk outcome).setMbx m { s.mbxOf m with ticket := none }

/-- The mailbox is EMPTY and its timeout stops. -/
def State.mbxEmpty (s : State) (m : Nat) : State :=
  (s.set Fld.MBX_STATUS_STATE m 0).setMbx m { s.mbxOf m with till := none }

/-- The window of a master (R414). -/
def stageOf (a : Acc) : Option Nat :=
  match a.m with
  | .nave0 => some 0
  | .nave1 => some 1
  | .chancel => some 2
  | .host => some 3
  | .debug => none

/-- A write of a staging word: by the window's master. -/
def State.writeStage (s : State) (a : Acc) (i v : Nat) : State :=
  if stageOf a = some (i / 16) then (s.set Fld.MBX_STAGE_DATA i v).ok else s.busErr

/-- Words 0 to COUNT - 1 of a window are copied. -/
def State.copyStage (s : State) (k m : Nat) (n : Nat) : State :=
  (List.range n).foldl (fun s w => s.set Fld.MBX_DATA_DATA (16 * m + w) (s.get Fld.MBX_STAGE_DATA (16 * k + w))) s

/-- A commit (R414, R415, R417, R421). -/
def State.writeMbxHdr (s : State) (a : Acc) (m v : Nat) : State :=
  match stageOf a with
  | none => s.busErr
  | some k =>
    let n := bits v 0 5
    if !s.hasMbx m || bits v 5 3 ≠ 0 || bits v 20 12 ≠ 0 || (6 < bits v 16 4 && bits v 16 4 ≠ 15) then s.busErr
    else if n = 0 || 16 < n then (s.set Fld.MBX_STAGE_STATUS_BADCOUNT k 1).busErr
    else
      let s := if s.mbxFull m then
          let s := (s.bump Fld.MBX_CNT_COLLISIONS m).set Fld.MBX_STATUS_COLLISION m 1
          (s.mbxClose m ocCancelled).mbxNotify m
        else s
      let kind := bits v 8 8
      let s := s.copyStage k m n
      let s := ((s.set Fld.MBX_HDR_COUNT m n).set Fld.MBX_HDR_KIND m kind).set Fld.MBX_HDR_SENDER m (senderCode a)
      let s := s.set64 Fld.MBX_STAMP_LO_TIME Fld.MBX_STAMP_HI_TIME m s.tb
      let s := (s.set Fld.MBX_STATUS_STATE m 1).setMbx m
        { till := some (s.tb + s.recFld 0x00A1 m 4 4 * ftuUs), ticket := none }
      let s := match s.openOp 6 m [BitVec.ofNat 8 (senderCode a), BitVec.ofNat 8 n, BitVec.ofNat 8 kind] [] with
        | none => s.set Fld.MBX_STATUS_NOTICKET m 1
        | some (tk, s) => (s.set Fld.MBX_STATUS_TICKET m tk).setMbx m { s.mbxOf m with ticket := some tk }
      (s.raise (784 + m)).ok

/-- The message is taken (R416). -/
def State.mbxTake (s : State) (m : Nat) : State :=
  if !s.mbxFull m then s
  else (((s.mbxClose m ocComplete).mbxEmpty m).set Fld.MBX_STATUS_TAKEN m 1).mbxNotify m

/-- The access is made by the receiver: 0 Nave 0, 1 Nave 1, 2 Chancel, 3 the SPI host. -/
def State.mbxReceiver (s : State) (a : Acc) (m : Nat) : Bool :=
  s.hasMbx m && stageOf a == some (s.get Fld.MBX_CFG_RECEIVER m)

/-- The access is made by the sender in the header; either level of one core counts (R419). -/
def State.mbxSender (s : State) (a : Acc) (m : Nat) : Bool :=
  let h := s.get Fld.MBX_HDR_SENDER m
  let c := senderCode a
  decide (c ≤ 5) && (h == c || (decide (h < 4) && decide (c < 4) && h / 2 == c / 2))

/-- A write of MBX_CTRL: TAKE before WITHDRAW (R422). -/
def State.writeMbxCtrl (s : State) (a : Acc) (m v : Nat) : State :=
  if 4 ≤ v then s.busErr
  else if v.testBit 0 && !s.mbxReceiver a m then s.busErr
  else
    let s := if v.testBit 0 then s.mbxTake m else s
    if v.testBit 1 then
      if !s.mbxSender a m || !s.mbxFull m then s.busErr
      else (((s.mbxClose m ocCancelled).mbxEmpty m).set Fld.MBX_STATUS_WITHDRAWN m 1).ok
    else s.ok

/-- TMO has passed with the message still FULL (R418). -/
def State.mbxTimeout (s : State) (m t : Nat) : State :=
  match (s.mbxOf m).till with
  | none => s
  | some x =>
    if t < x || !s.mbxFull m then s
    else
      let s := s.setMbx m { s.mbxOf m with till := none }
      ((s.bump Fld.MBX_CNT_TIMEOUTS m).set Fld.MBX_STATUS_TIMEOUT m 1).mbxNotify m

/-- A payload word as a master reads it: 0 for one that is neither the receiver nor the debug port (R416). -/
def State.mbxData (s : State) (a : Acc) (i : Nat) : Nat :=
  if a.m == .debug || s.mbxReceiver a (i / 16) then s.get Fld.MBX_DATA_DATA i else 0

/-! ### Meanings -/

/-- MBX_HDR_COMMIT (R414). -/
def execMbxHdrCommit (a : Acc) (m : Fin 64) (v : Word) (s : State) : Out :=
  .next ((s.touch a.t).writeMbxHdr a m v.toNat)

/-- MBX_TAKE (R416). -/
def execMbxTake (a : Acc) (m : Fin 64) (s : State) : Out := .next ((s.touch a.t).writeMbxCtrl a m 1)

/-- MBX_WITHDRAW (R419). -/
def execMbxWithdraw (a : Acc) (m : Fin 64) (s : State) : Out := .next ((s.touch a.t).writeMbxCtrl a m 2)

/-- MBX_TIMEOUT (R418). -/
def execMbxTimeout (t : Nat) (m : Fin 64) (s : State) : Out := .next ((s.touch t).mbxTimeout m t)

end Sys2Proof.Machine
end

