-- ==== Sys2Proof/Machine/FanLoop.lean ====
section
/-!
DEFINITION. Sys2Proof/Machine/FanLoop.lean: fans (R286 to R291, R298, R299) and current-loop outputs (R292 to R297, R299).
-/

namespace Sys2Proof.Machine

/-! ### Fans -/

def fnOff : Nat := 0
def fnKick : Nat := 1
def fnRetry : Nat := 2
def fnRun : Nat := 3
def fnTachLost : Nat := 4
def fnStall : Nat := 5
def fnOpen : Nat := 6
def fnDrain : Nat := 7

def State.fanSt (s : State) (k : Nat) : Nat := s.get Fld.FAN_STATUS_STATE k
def State.fanGo (s : State) (k st : Nat) : State := s.set Fld.FAN_STATUS_STATE k st

/-- An event bit sets and raises source 720 + k. -/
def State.fanEvent (s : State) (f : Fld) (k : Nat) : State := s.event f k (720 + k)

def State.fanPpr (s : State) (k : Nat) : Nat := s.get Fld.FAN_CFG_PPR k + 1

/-- The speed shown by the last intervals is at least MINRPM (R286). -/
def State.fanFast (s : State) (k : Nat) : Bool :=
  let v := s.fanOf k
  !v.ivs.isEmpty &&
    decide (s.get Fld.FAN_MIN_MINRPM k * s.fanPpr k * v.ivs.foldl (· + ·) 0 ≤ 60 * ftuSec * v.ivs.length)

/-- The NTC channels a fan names that have updated within 100 ms (R287). -/
def State.fanNtcs (s : State) (k t : Nat) : List Nat :=
  [s.get Fld.FAN_NTC01_NTC0 k, s.get Fld.FAN_NTC01_NTC1 k, s.get Fld.FAN_NTC23_NTC2 k, s.get Fld.FAN_NTC23_NTC3 k].filter
    (fun c => c != 0xFFFF &&
      (match (s.lsnOf c).updAt with
        | some x => decide (t < x + 100 * ftuMs)
        | none => false))

/-- The curve of four points, by linear interpolation (R287). -/
def fanCurve (free : BitVec 64) (x : Nat) : List (Nat × Nat) → Nat
  | [] => 1000
  | [(_, d)] => d
  | (c0, d0) :: (c1, d1) :: rest =>
    if c0 ≤ x then d0
    else if c1 ≤ x then
      ((d0 : Int) + roundFree free (((d1 : Int) - d0) * (c0 - x : Nat)) (c0 - c1)).toNat
    else fanCurve free x ((c1, d1) :: rest)

/-- The duty of R287 and whether no named channel remains. -/
def State.fanDuty (s : State) (k t : Nat) : Nat × Bool :=
  let floor := s.get Fld.FAN_MIN_MINDUTY k
  if s.flag Fld.FAN_CFG_MODE k then (Nat.max floor (s.get Fld.FAN_DUTY_SP_DUTY k), false)
  else
    match (s.fanNtcs k t).map (fun c => s.get Fld.LSN_LAST_VALUE c) with
    | [] => (1000, true)
    | x :: xs =>
      let code := xs.foldl Nat.min x
      let pts := (List.range 4).map (fun p => (s.get Fld.FAN_PT_CODE (4 * k + p), s.get Fld.FAN_PT_DUTY (4 * k + p)))
      (Nat.max floor (fanCurve s.freeWord code pts), false)

/-- The start sequence of Table 16.1, from an attempt. -/
def State.fanAttempt (s : State) (k t n : Nat) : State :=
  let s := s.setFan k { s.fanOf k with
    attemptAt := t, kick := true, ivs := [], goodSince := none }
  ((s.set Fld.FAN_STATUS_ATTEMPT k n).set Fld.FAN_MEAS_RPM k 0).fanGo k fnKick

def State.fanStart (s : State) (k t : Nat) : State :=
  if s.fanSt k = fnDrain then s.setFan k { s.fanOf k with enHeld := true }
  else if s.fanSt k = fnOff && s.flag Fld.FAN_CFG_EN k then s.fanAttempt k t 0
  else s

/-- The samples of FANISk at 1 kS/s (R286): the code of the command that opens a millisecond of TB_NOW; which moment of the
millisecond the converter takes is a DESIGN CHOICE (log entry 50). Those of the last 100 ms are kept. -/
def fanCurs (t cur : Nat) (l : List (Nat × Nat)) : List (Nat × Nat) :=
  if l.head?.any (fun x => x.1 / ftuMs == t / ftuMs) then l
  else (t, cur) :: l.filter (fun x => decide (t < x.1 + 100 * ftuMs))

/-- The converter's code at FANISk at a time (R286). -/
def State.fanSample (s : State) (k t cur : Nat) : State :=
  (s.set Fld.FAN_MEAS_CUR k cur).setFan k { s.fanOf k with curs := fanCurs t cur (s.fanOf k).curs }

/-- A period starts (R286): the duty of the state takes effect; a drain has ended (R299). -/
def State.fanPeriod (s : State) (k t cur : Nat) : State :=
  let s := s.fanSample k t cur
  let st := s.fanSt k
  let v := s.fanOf k
  if st = fnDrain then
    let s := ((s.set Fld.FAN_DUTY_DUTY k 0).setFan k { v with enHeld := false }).fanGo k fnOff
    if v.enHeld && s.fnOn (fnFan k) then s.fanStart k t else s
  else if st = fnTachLost || (st = fnKick && v.kick) then s.set Fld.FAN_DUTY_DUTY k 1000
  else if st = fnRun || st = fnKick then
    let d := s.fanDuty k t
    let s := s.nextFree.set Fld.FAN_DUTY_DUTY k d.1
    if d.2 && !s.flag Fld.FAN_STATUS_NOTEMP k then s.fanEvent Fld.FAN_STATUS_NOTEMP k else s
  else s.set Fld.FAN_DUTY_DUTY k 0

/-- An accepted tach edge (R286). -/
def State.fanEdge (s : State) (k t : Nat) : State :=
  let v := s.fanOf k
  let ivs := match v.lastEdge with
    | some x => ((t - x) :: v.ivs).take (s.fanPpr k)
    | none => []
  let s := s.setFan k { v with lastEdge := some t, ivs := ivs }
  let fast := s.fanFast k
  let s := s.setFan k { s.fanOf k with goodSince := if fast then some (v.goodSince.getD t) else none }
  let sum := ivs.foldl (· + ·) 0
  if sum = 0 then s
  else
    let rpm := roundFree s.freeWord (60 * ftuSec * ivs.length : Nat) (s.fanPpr k * sum)
    s.nextFree.set Fld.FAN_MEAS_RPM k (Nat.min 65535 rpm.toNat)

/-- 2 s after an attempt starts (Table 16.1). -/
def State.fanKickEnd (s : State) (k t : Nat) : State :=
  let v := s.fanOf k
  if s.fanSt k = fnKick && decide (v.attemptAt + 2 * ftuSec ≤ t) then s.setFan k { v with kick := false } else s

/-- The check 3 s after an attempt starts (Table 16.1). -/
def State.fanCheck (s : State) (k t : Nat) : State :=
  let v := s.fanOf k
  if s.fanSt k ≠ fnKick || decide (t < v.attemptAt + 3 * ftuSec) then s
  else if s.fanFast k then (s.setFan k { v with kick := false }).fanGo k fnRun
  else if s.get Fld.FAN_STATUS_ATTEMPT k < 3 then
    ((s.setFan k { v with kick := false, retryAt := t }).bump Fld.FAN_CNT_RETRIES k).fanGo k fnRetry
  else (s.fanEvent Fld.FAN_STATUS_FAN_STALL k).fanGo k fnStall

/-- The pause of 2 s ends (Table 16.1). -/
def State.fanRetryEnd (s : State) (k t : Nat) : State :=
  if s.fanSt k = fnRetry && decide ((s.fanOf k).retryAt + 2 * ftuSec ≤ t) then
    s.fanAttempt k t (s.get Fld.FAN_STATUS_ATTEMPT k + 1)
  else s

/-- The tach is missing at a time (R289). -/
def State.tachMissing (s : State) (k t : Nat) : Bool :=
  match (s.fanOf k).lastEdge with
  | none => true
  | some x =>
    decide (180 * ftuSec ≤ (t - x) * s.fanPpr k * s.get Fld.FAN_MIN_MINRPM k) && decide (x + 100 * ftuMs ≤ t)

/-- The supply-current codes of the last 100 ms (R289): their sum and how many there are. -/
def State.fanCurrent (s : State) (k t : Nat) : Nat × Nat :=
  let l := ((s.fanOf k).curs.filter (fun x => decide (t < x.1 + 100 * ftuMs))).map Prod.snd
  (l.foldl (· + ·) 0, l.length)

/-- A missing tach is judged in RUN at once, and every 100 ms while it stays missing (R289). -/
def State.fanJudgeDue (s : State) (k t : Nat) : Bool :=
  s.tachMissing k t &&
    (s.fanSt k == fnRun || (s.fanSt k == fnTachLost && decide ((s.fanOf k).judgedAt + 100 * ftuMs ≤ t)))

/-- The judgement of Table 16.2, with the code at FANISk as it stands. -/
def State.fanJudge (s : State) (k t cur : Nat) : State :=
  let st := s.fanSt k
  let due := s.fanJudgeDue k t
  let s := if due then s.fanSample k t cur else s
  let m := s.fanCurrent k t
  let s := if due then s.setFan k { s.fanOf k with judgedAt := t } else s
  if !due then s
  else if m.1 < m.2 * s.get Fld.FAN_I_IOPEN k then
    ((s.fanEvent Fld.FAN_STATUS_FAN_OPEN k).set Fld.FAN_STATUS_DERATE k 0 |>.fanGo k fnOpen).faultF2 blkFAN k
      (causeOf whyFan) []
  else if m.2 * s.get Fld.FAN_I_IHIGH k < m.1 then
    ((s.fanEvent Fld.FAN_STATUS_FAN_STALL k).set Fld.FAN_STATUS_DERATE k 0 |>.fanGo k fnStall).faultF2 blkFAN k
      (causeOf whyFan) []
  else if st = fnTachLost then s
  else
    let s := (s.fanEvent Fld.FAN_STATUS_TACH_LOST k).set Fld.FAN_STATUS_DERATE k 1
    ((s.bump Fld.FAN_CNT_TACHLOSS k).setFan k { s.fanOf k with goodSince := none }).fanGo k fnTachLost

/-- The edge before a time is recent enough for MINRPM: a longer silence breaks what R290 counts. -/
def State.fanFresh (s : State) (k t : Nat) : Bool :=
  (s.fanOf k).lastEdge.any (fun x => decide ((t - x) * s.fanPpr k * s.get Fld.FAN_MIN_MINRPM k ≤ 60 * ftuSec))

/-- Edges have shown MINRPM for 1 s without a break (R290). -/
def State.fanRegained (s : State) (k t : Nat) : State :=
  match (s.fanOf k).goodSince with
  | some x =>
    if s.fanSt k = fnTachLost && decide (x + ftuSec ≤ t) && s.fanFresh k t then (s.set Fld.FAN_STATUS_DERATE k 0).fanGo k fnRun else s
  | none => s

/-- CLRFAULT (R291, R481). -/
def State.fanClear (s : State) (k t : Nat) : State :=
  if s.fanSt k ≠ fnStall && s.fanSt k ≠ fnOpen then s
  else if (s.fanOf k).offPend then (s.setFan k { s.fanOf k with offPend := false }).fanGo k fnOff
  else s.fanAttempt k t 0

def State.fanDisable (s : State) (k : Nat) : State :=
  let st := s.fanSt k
  if st = fnOff then s
  else if st = fnStall || st = fnOpen then s.setFan k { s.fanOf k with offPend := true }
  else (s.set Fld.FAN_STATUS_DERATE k 0).fanGo k fnDrain

/-- DISABLE with IMMEDIATE (Table 16.3): FANPWM low. -/
def State.fanDisableNow (s : State) (k : Nat) : State :=
  let st := s.fanSt k
  if st = fnOff then s
  else if st = fnStall || st = fnOpen then s.setFan k { s.fanOf k with offPend := true }
  else ((s.set Fld.FAN_DUTY_DUTY k 0).setFan k { s.fanOf k with enHeld := false }).set Fld.FAN_STATUS_DERATE k 0 |>.fanGo k fnOff

/-- A write of FAN_CTRL (R301, R59). -/
def State.writeFanCtrl (s : State) (a : Acc) (k v : Nat) : State :=
  if !s.hasRec 0x0075 k || !isKernel a (s.fnOwner (fnFan k)) || decide (16 ≤ v) then s.busErr
  else if v.testBit 0 && !v.testBit 1 && !s.fnOn (fnFan k) then s.busErr
  else
    let s := if v.testBit 3 then s.fanClear k a.t else s
    let s :=
      if v.testBit 1 then (if v.testBit 2 then s.fanDisableNow k else s.fanDisable k)
      else if v.testBit 0 && s.armed (s.fnOwner (fnFan k)) then s.fanStart k a.t else s
    s.ok

/-- A write of FAN_DUTY_SP (R301). The codes 1,001 to 1,023, to which R286 gives no duty, are accepted and act as numbers
above full on-time (DESIGN CHOICE, log entry 47). -/
def State.writeFanDuty (s : State) (a : Acc) (k v : Nat) : State :=
  if !s.hasRec 0x0075 k || !isCore a (s.fnOwner (fnFan k)) || decide (1024 ≤ v) then s.busErr
  else (s.set Fld.FAN_DUTY_SP_DUTY k v).ok

/-! ### Loops -/

def lpOff : Nat := 0
def lpRun : Nat := 1
def lpFault : Nat := 2
def lpSafe : Nat := 3
def lpDrain : Nat := 4

def State.lpSt (s : State) (j : Nat) : Nat := s.get Fld.LOOP_STATUS_STATE j

/-- A change of STATE raises source 728 + 2j. -/
def State.lpGo (s : State) (j st : Nat) : State :=
  if s.lpSt j = st then s else (s.set Fld.LOOP_STATUS_STATE j st).raise (728 + 2 * j)

/-- The owner is in LOCKOUT or halted (R21, R22, R296). -/
def State.lpStopped (s : State) (j : Nat) : Bool :=
  s.lockedOut (s.fnOwner (fnLoop j)) || s.halted (s.fnOwner (fnLoop j))

/-- RUN, FAULTCUR or SAFE, as R296 and R297 give them. -/
def State.lpJudge (s : State) (j : Nat) : State :=
  let st := s.lpSt j
  if st = lpOff || st = lpDrain then s
  else
    let mode := s.get Fld.LOOP_CFG_FAULTMODE j
    let fault := mode != 0 && ((s.lpOf j).faultHeld || (s.flag Fld.LOOP_CFG_LOCKSUB j && s.lpStopped j))
    s.lpGo j (if fault then lpFault else if s.lpStopped j then lpSafe else lpRun)

/-- Every loop is judged again: a core has entered or left LOCKOUT or a halt. -/
def State.lpJudgeAll (s : State) : State := (List.range 4).foldl (fun s j => s.lpJudge j) s

/-- The current commanded now, in 0.5 µA (R292, R296). -/
def State.lpCurrent (s : State) (j : Nat) : Nat :=
  if s.lpSt j = lpFault then (if s.get Fld.LOOP_CFG_FAULTMODE j = 1 then 7200 else 42000) else s.get Fld.LOOP_CODE_CODE j

/-- The loop starts at INITCODE once its owner has armed (R297). -/
def State.lpStart (s : State) (j : Nat) : State :=
  if s.lpSt j = lpDrain then s.setLp j { s.lpOf j with enHeld := true }
  else if s.lpSt j = lpOff && s.flag Fld.LOOP_CFG_EN j then
    let s := s.set Fld.LOOP_CODE_CODE j (s.get Fld.LOOP_INIT_INITCODE j)
    ((s.setLp j { s.lpOf j with low := 0, high := 0, mis := 0, fit := 0, enHeld := false }).lpGo j lpRun).lpJudge j
  else s

def State.lpEvent (s : State) (f : Fld) (j : Nat) : State := s.event f j (729 + 2 * j)

/-- Headroom in µV (R293): 20 times the voltage at LOOPj_VC less that at LOOPj_SNS, of which a code of 0.5 µA through RSNS is
25 µV (R292). DEDUCED (log entry 50): the uncorrected sample is counted in those codes. -/
def headroomUv (sns vc : Nat) : Int := 20 * (vc : Int) - 25 * sns

/-- Headroom in µV, judged (R294). -/
def State.lpHeadroom (s : State) (j : Nat) (uv : Int) : State :=
  let v := s.lpOf j
  let low := if uv < 1000000 then Nat.min 5 (v.low + 1) else 0
  let high := if 1200000 < uv then Nat.min 50 (v.high + 1) else 0
  let s := s.setLp j { v with low := low, high := high }
  if low = 5 && !s.flag Fld.LOOP_STATUS_HEADROOM j then
    ((s.set Fld.LOOP_STATUS_HEADROOM j 1).bump Fld.LOOP_CNT_HEADROOM j).lpEvent Fld.LOOP_STATUS_LOOP_HEADROOM j
  else if high = 50 then s.set Fld.LOOP_STATUS_HEADROOM j 0
  else s

/-- Read-back against the current commanded (R295). -/
def State.lpMismatch (s : State) (j rb : Nat) : State :=
  let v := s.lpOf j
  let off := decide (200 < ((rb : Int) - s.lpCurrent j).natAbs)
  let mis := if off then Nat.min 50 (v.mis + 1) else 0
  let fit := if off then 0 else Nat.min 50 (v.fit + 1)
  let s := s.setLp j { v with mis := mis, fit := fit }
  if mis = 50 && !s.flag Fld.LOOP_STATUS_MISMATCH j then
    ((s.set Fld.LOOP_STATUS_MISMATCH j 1).bump Fld.LOOP_CNT_MISMATCH j).lpEvent Fld.LOOP_STATUS_LOOP_MISMATCH j
  else if fit = 50 then s.set Fld.LOOP_STATUS_MISMATCH j 0
  else s

/-- A sample (R293): read-back corrected by OFS and GAIN, and headroom. A drain ends with it (Table 16.3). -/
def State.lpSample (s : State) (j sns vc : Nat) : State :=
  let st := s.lpSt j
  if st = lpOff then s
  else
    let rb := clampInt 0 65535
      (roundDiv ((sns - sgn 16 (s.get Fld.LOOP_INIT_OFS j)) * s.get Fld.LOOP_GAIN_GAIN j) 65536)
    let vce := clampInt 0 65535 (roundFree s.freeWord (headroomUv sns vc) 10000)
    let s := (s.nextFree.set Fld.LOOP_MEAS_READBACK j rb.toNat).set Fld.LOOP_MEAS_VCE j vce.toNat
    let s := (s.lpHeadroom j (headroomUv sns vc)).lpMismatch j rb.toNat
    if st = lpDrain then
      let held := (s.lpOf j).enHeld
      let s := (s.setLp j { s.lpOf j with enHeld := false }).lpGo j lpOff
      if held && s.fnOn (fnLoop j) then s.lpStart j else s
    else s

/-- A write of LOOP_CTRL (R301, R296, R59); DISABLE wins, and ENABLE releases a held FAULT. -/
def State.writeLoopCtrl (s : State) (a : Acc) (j v : Nat) : State :=
  if !s.hasRec 0x0076 j || !isKernel a (s.fnOwner (fnLoop j)) || decide (16 ≤ v) then s.busErr
  else if v.testBit 0 && !v.testBit 1 && !s.fnOn (fnLoop j) then s.busErr
  else
    let s := if v.testBit 0 && !v.testBit 1 then (s.setLp j { s.lpOf j with faultHeld := false }).lpJudge j else s
    let s := if v.testBit 3 then (s.setLp j { s.lpOf j with faultHeld := true }).lpJudge j else s
    let s :=
      if v.testBit 1 then
        (if s.lpSt j = lpOff then s
         else if v.testBit 2 then (s.setLp j { s.lpOf j with enHeld := false }).lpGo j lpOff
         else s.lpGo j lpDrain)
      else if v.testBit 0 && s.armed (s.fnOwner (fnLoop j)) then s.lpStart j else s
    s.ok

/-- A write of LOOP_CODE (R292, R301). -/
def State.writeLoopCode (s : State) (a : Acc) (j v : Nat) : State :=
  if !s.hasRec 0x0076 j || !isCore a (s.fnOwner (fnLoop j)) || decide (v < 7000) || decide (46000 < v) then s.busErr
  else (s.set Fld.LOOP_CODE_CODE j v).ok

/-- A mode switches a loop off (R59, Table 16.3). -/
def State.lpDisable (s : State) (j : Nat) : State := if s.lpSt j = lpOff then s else s.lpGo j lpDrain

/-! ### Meanings -/

/-- FAN_PERIOD_START (R286). -/
def execFanPeriodStart (t : Nat) (k : Fin 8) (cur : Fin 1024) (s : State) : Out := .next ((s.touch t).fanPeriod k t cur)

/-- FANTACH_EDGE (R286). -/
def execFantachEdge (t : Nat) (k : Fin 8) (s : State) : Out := .next ((s.touch t).fanEdge k t)

/-- FAN_KICK_END (R288). -/
def execFanKickEnd (t : Nat) (k : Fin 8) (s : State) : Out := .next ((s.touch t).fanKickEnd k t)

/-- FAN_START_CHECK (R288). -/
def execFanStartCheck (t : Nat) (k : Fin 8) (s : State) : Out := .next ((s.touch t).fanCheck k t)

/-- FAN_RETRY_END (R288). -/
def execFanRetryEnd (t : Nat) (k : Fin 8) (s : State) : Out := .next ((s.touch t).fanRetryEnd k t)

/-- FAN_TACH_MISSING (R289). -/
def execFanTachMissing (t : Nat) (k : Fin 8) (cur : Fin 1024) (s : State) : Out := .next ((s.touch t).fanJudge k t cur)

/-- FAN_TACH_REGAINED (R290). -/
def execFanTachRegained (t : Nat) (k : Fin 8) (s : State) : Out := .next ((s.touch t).fanRegained k t)

/-- FAN_ENABLE (R288). -/
def execFanEnable (a : Acc) (k : Fin 8) (s : State) : Out := .next ((s.touch a.t).writeFanCtrl a k 1)

/-- FAN_DISABLE (R299). -/
def execFanDisable (a : Acc) (k : Fin 8) (s : State) : Out := .next ((s.touch a.t).writeFanCtrl a k 2)

/-- FAN_DISABLE_IMMEDIATE (R299). -/
def execFanDisableImmediate (a : Acc) (k : Fin 8) (s : State) : Out := .next ((s.touch a.t).writeFanCtrl a k 6)

/-- FAN_CLRFAULT (R291). -/
def execFanClrfault (a : Acc) (k : Fin 8) (s : State) : Out := .next ((s.touch a.t).writeFanCtrl a k 8)

/-- LOOP_SAMPLE (R293). -/
def execLoopSample (t : Nat) (j : Fin 4) (sns : Fin 65536) (vc : Nat) (s : State) : Out :=
  .next ((s.touch t).lpSample j sns vc)

/-- LOOP_ENABLE (R297). -/
def execLoopEnable (a : Acc) (j : Fin 4) (s : State) : Out := .next ((s.touch a.t).writeLoopCtrl a j 1)

/-- LOOP_DISABLE (R299). -/
def execLoopDisable (a : Acc) (j : Fin 4) (s : State) : Out := .next ((s.touch a.t).writeLoopCtrl a j 2)

/-- LOOP_DISABLE_IMMEDIATE (R299). -/
def execLoopDisableImmediate (a : Acc) (j : Fin 4) (s : State) : Out := .next ((s.touch a.t).writeLoopCtrl a j 6)

/-- LOOP_FAULT (R296). -/
def execLoopFault (a : Acc) (j : Fin 4) (s : State) : Out := .next ((s.touch a.t).writeLoopCtrl a j 8)

end Sys2Proof.Machine
end

