-- ==== Sys2Proof/Machine/JalamPhy.lean ====
section
/-!
DEFINITION. Sys2Proof/Machine/JalamPhy.lean: the Jalam physical layer (chapter 18): coding, interleaving and modulation of a
frame (R321 to R327), and the receiver (R328, R331, R333, R335). What a preamble's SNR is and which bits the receiver's
convolutional decoder gives are operands: the spec gives no decoding arithmetic.
-/

namespace Sys2Proof.Machine

/-! ### Times -/

/-- A symbol with its prefix is 720 µs (R321); RIFS is as long (R340). -/
def jlnSym : Nat := 14745600
def jlnRifs : Nat := 14745600

/-- The sample instant at or after a time (R320, R321). -/
def jlnSample (t : Nat) : Nat := (t + 51199) / 51200 * 51200

/-- Data bits per symbol (Table 18.1). -/
def jlnData (md : Nat) : Nat :=
  match md % 4 with
  | 0 => 9
  | 1 => 36
  | 2 => 72
  | _ => 108

/-- Payload symbols of a frame (R327). -/
def jlnPayload (md len : Nat) : Nat := (8 * (len + 4) + 6 + (jlnData md - 1)) / jlnData md

/-- Symbols of a whole frame (R326). -/
def jlnSymbols (md len : Nat) : Nat := 10 + jlnPayload md len

/-! ### Bits -/

/-- The k bits of a number, most significant first. -/
def msbBits : Nat → Nat → List Bool
  | 0, _ => []
  | k + 1, n => n.testBit k :: msbBits k n

/-- A byte, least significant bit first (R327). -/
def lsbBits (b : Byte) : List Bool := (List.range 8).map (fun k => b.toNat.testBit k)

/-- Bits, most significant first, as a number. -/
def jlnBitsNat (bs : List Bool) : Nat := bs.foldl (fun n b => 2 * n + (if b then 1 else 0)) 0

/-- Eight bits, least significant first, as a byte. -/
def lsbByte (bs : List Bool) : Byte := BitVec.ofNat 8 (jlnBitsNat bs.reverse)

/-- k bytes of a bit string. -/
def packBytes : Nat → List Bool → List Byte
  | 0, _ => []
  | k + 1, bs => lsbByte (bs.take 8) :: packBytes k (bs.drop 8)

/-- CRC-16 of Table 18.2 over bits in order. -/
def jlnCrc16 (bs : List Bool) : Nat :=
  bs.foldl (fun c b =>
    if (c.testBit 15) != b then Nat.xor (2 * c % 65536) 0x1021 else 2 * c % 65536) 0xFFFF

/-- The 30 bits of the header (Table 18.2). -/
def jlnHeader (len md : Nat) (bcn : Bool) : List Bool :=
  let h := msbBits 11 len ++ msbBits 2 md ++ [bcn]
  h ++ msbBits 16 (jlnCrc16 h)

/-- The additive scrambler 1 + x^4 + x^7 (R325), its register in `r`, newest bit lowest. -/
def jlnScramble : Nat → List Bool → List Bool
  | _, [] => []
  | r, b :: t =>
    let o := r.testBit 6 != r.testBit 3
    (b != o) :: jlnScramble ((2 * r + (if o then 1 else 0)) % 128) t

/-- Parity of a seven-bit number. -/
def parity7 (n : Nat) : Bool := (List.range 7).foldl (fun p k => p != n.testBit k) false

/-- The convolutional code (R323): constraint length 7, 133 then 171 octal; `r` holds the last six bits, newest highest. -/
def convCode : Nat → List Bool → List Bool
  | _, [] => []
  | r, b :: t =>
    let w := (if b then 64 else 0) + r
    parity7 (Nat.land w 91) :: parity7 (Nat.land w 121) :: convCode (w / 2) t

/-- Bits filled out with zeros to a length. -/
def padBits (n : Nat) (bs : List Bool) : List Bool := bs ++ List.replicate (n - bs.length) false

/-- A coded block cut into pieces of n. -/
def pieces (n : Nat) : Nat → List Bool → List (List Bool)
  | 0, _ => []
  | k + 1, bs => bs.take n :: pieces n k (bs.drop n)

/-! ### Symbols -/

/-- The index j whose image under j ↦ a j mod n is k. -/
def preimage (a n k : Nat) : Nat := ((List.range n).find? (fun j => a * j % n == k)).getD 0

/-- The phase change of a group of bits (Table 18.1), in π / 72. -/
def phaseOf (md : Nat) (g : List Bool) : Nat :=
  match md with
  | 3 => (match jlnBitsNat g with
    | 0 => 0 | 1 => 18 | 3 => 36 | 2 => 54 | 6 => 72 | 7 => 90 | 5 => 108 | _ => 126)
  | 2 => (match jlnBitsNat g with
    | 0 => 0 | 1 => 36 | 3 => 72 | _ => 108)
  | _ => if jlnBitsNat g = 0 then 0 else 72

/-- The group of bits of carrier c in a payload symbol whose coded bits are given (R324). -/
def carrierBits (md : Nat) (coded : List Bool) (c : Nat) : List Bool :=
  if md = 0 then [coded.getD (preimage 5 18 (c % 18)) false]
  else (List.range md).map (fun b => coded.getD (preimage 13 (72 * md) (72 * b + c)) false)

/-- The bit of carrier c in a header symbol (R324). -/
def headerBit (coded : List Bool) (c : Nat) : List Bool := [coded.getD (preimage 13 36 (c % 36)) false]

/-- Phases of the next symbol from those of the one before it and the changes (R322). -/
def turnPhases (prev change : List Nat) : List Nat := (prev.zip change).map (fun p => (p.1 + p.2) % 144)

/-- Symbols keyed one after the other. -/
def keyed : List Nat → List (List Nat) → List (List Nat)
  | _, [] => []
  | prev, d :: t => turnPhases prev d :: keyed (turnPhases prev d) t

/-- The preamble's phases, π c² / 72 on carrier c (R326), turned by a further phase. -/
def preamble (add : Nat) : List Nat := (List.range 72).map (fun c => (c * c + add) % 144)

/-- The two abort symbols (R335). -/
def abortSymbols : List (List Nat) := [preamble 36, preamble 36]

/-- The bits of a payload and its FCS as they are coded (R325, R327, R323). -/
def payloadBits (md : Nat) (bytes : List Byte) : List Bool :=
  let plain := (bytes ++ leBytes 4 (crc32 bytes)).flatMap lsbBits
  padBits (jlnPayload md bytes.length * jlnData md) (jlnScramble 127 plain ++ List.replicate 6 false)

/-- All symbols of a frame (R321 to R327). -/
def jlnSignal (md : Nat) (bcn : Bool) (bytes : List Byte) : List (List Nat) :=
  let head := pieces 36 2 (convCode 0 (jlnHeader bytes.length md bcn ++ List.replicate 6 false))
  let body := pieces (2 * jlnData md) (jlnPayload md bytes.length) (convCode 0 (payloadBits md bytes))
  let hs := head.map (fun cd => (List.range 72).map (fun c => phaseOf 0 (headerBit cd c)))
  let ps := body.map (fun cd => (List.range 72).map (fun c => phaseOf md (carrierBits md cd c)))
  List.replicate 7 (preamble 0) ++ [preamble 72] ++ keyed (preamble 72) (hs ++ ps)

/-! ### The receiver -/

def phOff : Nat := 0
def phSearch : Nat := 1
def phHeader : Nat := 2
def phPayload : Nat := 3
def phTx : Nat := 4
def phAborting : Nat := 5
def phDraining : Nat := 6

def State.phy (s : State) : Nat := s.get Fld.JLN_PHY_STATUS_STATE 0
def State.phyGo (s : State) (st : Nat) : State := s.set Fld.JLN_PHY_STATUS_STATE 0 st

def State.busyEnd (s : State) : Nat := s.get64 Fld.JLN_BUSY_END_LO_END Fld.JLN_BUSY_END_HI_END 0

/-- BUSY at a time (R328). -/
def State.jlnBusy (s : State) (t : Nat) : Bool := decide (t < s.busyEnd)

def State.rxStamp (s : State) : Nat := s.get64 Fld.JLN_RX_STAMP_LO_STAMP Fld.JLN_RX_STAMP_HI_STAMP 0

/-- The receiver takes a frame whose preamble it has judged (R328). -/
def State.rxLock (s : State) (snr : Int) (agc : Nat) : State :=
  let s := { s with jln := { s.jln with rxSnr := snr, answering := true } }
  ((s.set Fld.JLN_RX_SNR_SNR 0 (enc 8 snr)).set Fld.JLN_PHY_STATUS_AGC 0 agc).phyGo phHeader

/-- Four preamble symbols correlate with an SNR in 0.25 dB (R328), or beside a frame in reception (R333). -/
def State.rxPreamble (s : State) (snr : Int) (agc : Nat) : State :=
  if s.phy = phSearch then s.rxLock snr agc
  else if s.phy = phPayload && !s.flag Fld.JLN_RX_HDR_BCN 0
      && decide (s.jln.rxSnr + 4 * (s.get Fld.JLN_PHY_CFG_CAPDB 0 : Int) ≤ snr) then
    ((s.bump Fld.JLN_PHY_CNT0_CAPTURE 0).event Fld.JLN_PHY_STATUS_CAPTURE 0 753).rxLock snr agc
  else s

/-- The header's bits decode (R326, R328, R331); `stamp` is when the prefix of the first header symbol began. -/
def State.rxHeader (s : State) (hdr : BitVec 30) (stamp : Nat) : State :=
  if s.phy ≠ phHeader then s
  else
    let n := hdr.toNat
    let len := n / 2 ^ 19
    let md := bits n 17 2
    let s := s.set64 Fld.JLN_RX_STAMP_LO_STAMP Fld.JLN_RX_STAMP_HI_STAMP 0 stamp
    let good := jlnCrc16 (msbBits 14 (n / 65536)) == n % 65536
    let s := if good then ((s.set Fld.JLN_RX_HDR_LEN 0 len).set Fld.JLN_RX_HDR_MOD 0 md).set Fld.JLN_RX_HDR_BCN 0 (bits n 16 1)
      else s
    if !good || len == 0 then
      ((s.bump Fld.JLN_PHY_CNT1_BADHDR 0).event Fld.JLN_PHY_STATUS_BADHDR 0 753).phyGo phSearch
    else
      let s := s.set64 Fld.JLN_BUSY_END_LO_END Fld.JLN_BUSY_END_HI_END 0 (stamp + (2 + jlnPayload md len) * jlnSym)
      if 1024 < len then ((s.bump Fld.JLN_PHY_CNT0_LONG 0).event Fld.JLN_PHY_STATUS_LONG 0 753).phyGo phSearch
      else s.phyGo phPayload

/-- The end of a frame that is still being received has not come (R328). -/
def State.rxEarly (s : State) (t : Nat) : Bool := s.phy == phPayload && s.jlnBusy t

/-- A frame's last symbol has ended; the bits are those the convolutional decoder gives (R325, R327, R328). The answer is the
payload where the FCS checks. -/
def State.rxPayload (s : State) (bs : List Bool) : State × Option (List Byte) :=
  if s.phy ≠ phPayload then (s, none)
  else
    let len := s.get Fld.JLN_RX_HDR_LEN 0
    let all := packBytes (len + 4) (jlnScramble 127 bs)
    let s := s.phyGo phSearch
    if 8 * (len + 4) ≤ bs.length && leNat (all.drop len) == crc32 (all.take len) then
      (s.event Fld.JLN_PHY_STATUS_RXDONE 0 752, some (all.take len))
    else ((s.bump Fld.JLN_PHY_CNT1_FCSERR 0).event Fld.JLN_PHY_STATUS_FCSERR 0 753, none)

/-- The abort symbols are seen in a frame being received (R335). -/
def State.rxAborted (s : State) : State :=
  if s.phy = phHeader || s.phy = phPayload then
    ((s.bump Fld.JLN_PHY_CNT2_ABORTED 0).event Fld.JLN_PHY_STATUS_ABORTED 0 753).phyGo phSearch
  else s

/-! ### Meanings -/

/-- JALAM_PREAMBLE_DETECT (R328, R333). -/
def execJalamPreambleDetect (t : Nat) (snr : BitVec 8) (agc : Fin 8) (s : State) : Out :=
  .next ((s.touch t).rxPreamble snr.toInt agc)

/-- JALAM_HEADER_DECODED (R331). -/
def execJalamHeaderDecoded (t : Nat) (hdr : BitVec 30) (stamp : Nat) (s : State) : Out :=
  .next ((s.touch t).rxHeader hdr stamp)

/-- ABORT_SYMBOLS_DETECTED (R335). -/
def execAbortSymbolsDetected (t : Nat) (s : State) : Out := .next ((s.touch t).rxAborted)

end Sys2Proof.Machine
end

