-- ==== Sys2Proof/Machine/Meter.lean ====
section
/-!
DEFINITION. Sys2Proof/Machine/Meter.lean: metering ports (R302 to R307), checkpoints and TAIL groups (R308, R446), sealing
(R310, R311), pulse outputs (R313 to R316) and port requests (R317).
-/

namespace Sys2Proof.Machine

def mtOff : Nat := 0
def mtRun : Nat := 1
def mtDrain : Nat := 2

def State.mtrSt (s : State) (p : Nat) : Nat := s.get Fld.MTR_PORT_STATUS_STATE p

/-- A change of STATE raises source 736 + 2p. -/
def State.mtrGo (s : State) (p st : Nat) : State :=
  if s.mtrSt p = st then s else (s.set Fld.MTR_PORT_STATUS_STATE p st).raise (736 + 2 * p)

/-- SEALED changes (source 736 + 2p). -/
def State.setSealed (s : State) (p : Nat) (on : Bool) : State :=
  if s.flag Fld.MTR_PORT_STATUS_SEALED p = on then s
  else (s.setFlag Fld.MTR_PORT_STATUS_SEALED p on).raise (736 + 2 * p)

/-! ### Samples (R302, R303) -/

/-- A sample after GAIN in 2^-23 code, and whether it is clamped (R303). -/
def State.mtrGain (s : State) (p c : Nat) (x : Int) : Int × Bool :=
  let y := x * s.get Fld.MTR_CHGAIN_GAIN (7 * p + c)
  let top : Int := 2 ^ 46
  (clampInt (-top) top y, decide (y < -top) || decide (top < y))

/-- The corrected channels, V0 to V2 then I0 to I3. -/
def State.mtrChans (s : State) (p : Nat) (x : MtrSample) : List (Int × Bool) :=
  [s.mtrGain p 0 x.v0, s.mtrGain p 1 x.v1, s.mtrGain p 2 x.v2, s.mtrGain p 3 x.i0, s.mtrGain p 4 x.i1,
   s.mtrGain p 5 x.i2, if s.flag Fld.MTR_PORT_CFG_NEUTRAL p then s.mtrGain p 6 x.i3 else (0, false)]

/-- A phase's sums take one sample: voltage, current and the voltage delayed 90 degrees. -/
def PhaseSum.add (a : PhaseSum) (v i h : Int) : PhaseSum :=
  { p := a.p + v * i, q := a.q + h * i, v := a.v + v.natAbs * v.natAbs, i := a.i + i.natAbs * i.natAbs }

/-! ### Pulse outputs (R313 to R316) -/

/-- Pulses whose time has come wait in PENDING, which saturates and sets OVERRANGE (R313). -/
def State.plsWait (s : State) (k t : Nat) : State :=
  let v := s.plsOf k
  let now := v.due.filter (fun x => decide (x ≤ t))
  let s := s.setPls k { v with due := v.due.filter (fun x => decide (t < x)) }
  let n := s.get Fld.MTR_PLS_STATUS_PENDING k + now.length
  let s := s.set Fld.MTR_PLS_STATUS_PENDING k (Nat.min 65535 n)
  if 65535 < n then s.event Fld.MTR_PLS_STATUS_OVERRANGE k (744 + k) else s

/-- A pulse starts once WIDTH has passed since the previous one ended (R313). -/
def State.plsStart (s : State) (k t : Nat) : State :=
  let s := s.plsWait k t
  let v := s.plsOf k
  let spaced := match v.lastEnd with
    | some e => decide (e + s.get Fld.MTR_PLS_WIDTH_WIDTH k * 204800 ≤ t)
    | none => true
  if v.active || !spaced || s.get Fld.MTR_PLS_STATUS_PENDING k == 0 then s
  else
    let s := s.set Fld.MTR_PLS_STATUS_PENDING k (s.get Fld.MTR_PLS_STATUS_PENDING k - 1)
    (s.setPls k { v with active := true, driven := true, startAt := t }).inc Fld.MTR_PLS_CNT_COUNT k

/-- A draining port whose outputs have no pulse left is OFF (Table 17.4). -/
def State.mtrDrained (s : State) (p : Nat) : State :=
  let outs := (List.range 4).filter (fun k => s.flag Fld.MTR_PLS_CFG_EN k && s.get Fld.MTR_PLS_CFG_PORT k == p)
  if s.mtrSt p = mtDrain && (s.mtrOf p).n == 0 && outs.all (fun k =>
      (s.plsOf k).due.isEmpty && s.get Fld.MTR_PLS_STATUS_PENDING k == 0 && !(s.plsOf k).active)
  then s.mtrGo p mtOff else s

/-- A pulse ends WIDTH × 10 µs after its start (R313). -/
def State.plsEnd (s : State) (k t : Nat) : State :=
  let v := s.plsOf k
  let e := v.startAt + s.get Fld.MTR_PLS_WIDTH_WIDTH k * 204800
  if !v.active || decide (t < e) then s
  else ((s.setPls k { v with active := false, lastEnd := some e }).plsWait k t).mtrDrained (s.get Fld.MTR_PLS_CFG_PORT k)

/-- An output that follows a port, in a mode (R313): KIND 0 RESIDUE, 1 DFC. -/
def State.plsFor (s : State) (k p kind : Nat) : Bool :=
  s.flag Fld.MTR_PLS_CFG_EN k && s.get Fld.MTR_PLS_CFG_PORT k == p && s.get Fld.MTR_PLS_CFG_KIND k == kind

/-- The crossings of EPP in an interval that ends at `t1` with energy dE from accumulator a (R314). -/
def crossings (free : BitVec 64) (t1 epp a dE : Nat) : List Nat :=
  (List.range ((a + dE) / epp)).map (fun (j : Nat) =>
    t1 + (roundFree (free >>> j) (204800000 * (((j + 1) * epp : Nat) - (a : Int))) dE).toNat)

/-- An interval's energy goes to a RESIDUE output (R314): each pulse is emitted 10 ms after its crossing. -/
def State.plsResidue (s : State) (k t1 dE : Nat) : State :=
  let v := s.plsOf k
  let epp := s.get Fld.MTR_PLS_EPP_EPP k * 4294967296
  if epp = 0 || dE = 0 then s
  else
    let a := v.acc.toNat
    let times := crossings s.freeWord t1 epp a dE
    s.nextFree.setPls k { v with acc := ((a + dE) % epp : Nat), due := v.due ++ times }

/-- The power a DFC output adds at a sample (R315): of its quantity, for its phase or the gated sum. DEDUCED (log entry 51): the
sign is that of Table 17.1, whatever the direction, and APP counts active power. -/
def State.plsPower (s : State) (k p : Nat) (prods : List (Int × Int)) : Int :=
  let g := (s.mtrOf p).gates
  let qty := s.get Fld.MTR_PLS_CFG_QTY k
  let one (x : Nat) : Int :=
    if !g.getD x false then 0
    else
      let z := prods.getD x (0, 0)
      if qty = 1 then -z.1 else if qty = 2 || qty = 3 then z.2 else if qty = 4 || qty = 5 then -z.2 else z.1
  let ph := s.get Fld.MTR_PLS_CFG_PHASE k
  if ph < 3 then one ph else one 0 + one 1 + one 2

/-- A sample's energy goes to a DFC output (R315): a pulse where the accumulator reaches 3.6 × 10^9 / C mJ. -/
def State.plsDfc (s : State) (k p t : Nat) (prods : List (Int × Int)) : State :=
  let v := s.plsOf k
  let w := s.plsPower k p prods * (s.get Fld.MTR_VFS_VFS p * s.get Fld.MTR_IFS_IFS p * s.get Fld.MTR_PLS_C_C k : Nat)
  let goal : Int := 72000000000000000 * 2 ^ 92
  let a := v.acc + w
  if goal ≤ a then s.setPls k { v with acc := a - goal, due := v.due ++ [t] } else s.setPls k { v with acc := a }

/-- A metering sample (R302 to R304, R315). -/
def State.mtrSample (s : State) (p t : Nat) (x : MtrSample) : State :=
  if s.mtrSt p ≠ mtRun && !(s.mtrSt p = mtDrain && decide ((s.mtrOf p).n ≠ 0)) then s
  else
    let ch := s.mtrChans p x
    let c (j : Nat) : Int := (ch.getD j (0, false)).1
    let h := [(s.mtrGain p 0 x.h0).1, (s.mtrGain p 1 x.h1).1, (s.mtrGain p 2 x.h2).1]
    let s := if ch.any Prod.snd
      then (s.bump Fld.MTR_PORT_CNT_OVLD p).event Fld.MTR_PORT_STATUS_OVLD p (737 + 2 * p) else s
    let v := s.mtrOf p
    let sumI := c 3 + c 4 + c 5 + c 6
    let s := s.setMtr p { v with
      n := v.n + 1
      ph := (List.range 3).map (fun j => (v.ph.getD j {}).add (c j) (c (3 + j)) (h.getD j 0))
      neu := v.neu + sumI.natAbs * sumI.natAbs
      sq := (List.range 7).map (fun j => v.sq.getD j 0 + (c j).natAbs * (c j).natAbs) }
    let prods := (List.range 3).map (fun j => (c j * c (3 + j), h.getD j 0 * c (3 + j)))
    ((List.range 4).filter (fun k => s.plsFor k p 1)).foldl (fun s k => s.plsDfc k p t prods) s

/-! ### Intervals (R304 to R306) -/

def mtrIdx (p x q : Nat) : Nat := 28 * p + 7 * x + q

/-- An energy register in 2^-32 mWh. -/
def State.energy (s : State) (p x q : Nat) : Nat :=
  s.get64 Fld.MTR_E_LO_E Fld.MTR_E_HI_E (mtrIdx p x q) * 4294967296 + Table.get 0 (s.mtrOf p).frac (7 * x + q)

/-- Add an energy in 2^-32 mWh to a register (R305). -/
def State.addEnergy (s : State) (p x q e : Nat) : State :=
  let n := (s.energy p x q + e) % 2 ^ 96
  let s := s.set64 Fld.MTR_E_LO_E Fld.MTR_E_HI_E (mtrIdx p x q) (n / 4294967296)
  s.setMtr p { s.mtrOf p with frac := Table.set 0 (s.mtrOf p).frac (7 * x + q) (n % 4294967296) }

/-- An interval's energies of one phase, or of the total (Table 17.1). -/
def State.addPhase (s : State) (p x : Nat) (e : Int × Int × Nat) : State :=
  let s := if 0 ≤ e.1 then s.addEnergy p x 0 e.1.toNat else s.addEnergy p x 1 e.1.natAbs
  let q := if 0 ≤ e.1 then (if 0 ≤ e.2.1 then 2 else 5) else (if 0 ≤ e.2.1 then 3 else 4)
  (s.addEnergy p x q e.2.1.natAbs).addEnergy p x 6 e.2.2

/-- An energy in 2^-32 mWh of a sum of sample products over n samples (R304). -/
def energyOf (free : BitVec 64) (vfs ifs n : Nat) (sum : Int) : Int :=
  roundFree free (sum * (vfs * ifs : Nat)) (n * 36000000 * 2 ^ 60)

/-- The apparent energy of a phase: vr × ir × 10 ms. -/
def appOf (free : BitVec 64) (vfs ifs n : Nat) (a : PhaseSum) : Nat :=
  let num := a.v * a.i * (vfs * ifs) * (vfs * ifs)
  let den := n * 36000000 * 2 ^ 60
  let r := isqrt (num / (den * den))
  if r * r * (den * den) = num then r else r + (if free.toNat % 2 = 1 then 1 else 0)

/-- A phase is gated in: ir is at least ISTART (R304). -/
def gateOf (ifs istart n : Nat) (a : PhaseSum) : Bool := decide (istart * istart * n * 2 ^ 92 ≤ a.i * ifs * ifs)

/-- The decision of NEUTRAL at an interval end (R306): onset is journaled in a pinned record. -/
def State.mtrNeutral (s : State) (p : Nat) : State :=
  let v := s.mtrOf p
  if !s.flag Fld.MTR_PORT_CFG_NEUTRAL p then s
  else
    let ifs := s.get Fld.MTR_IFS_IFS p
    let d := s.get Fld.MTR_INDIFF_INDIFF p
    let exceeds := decide (d * d * Nat.max 1 v.n * 2 ^ 92 < v.neu * ifs * ifs)
    let above := if exceeds then Nat.min 100 (v.above + 1) else 0
    let below := if exceeds then 0 else Nat.min 100 (v.below + 1)
    let s := s.setMtr p { v with above := above, below := below }
    if above = 100 && !v.neutral then
      let s := (s.setMtr p { s.mtrOf p with neutral := true }).event Fld.MTR_PORT_STATUS_NEUTRAL p (737 + 2 * p)
      s.pinEvent 0x26 [BitVec.ofNat 8 p] []
    else if below = 100 && v.neutral then
      (s.setMtr p { s.mtrOf p with neutral := false }).set Fld.MTR_PORT_STATUS_NEUTRAL p 0
    else s

/-- The RMS registers of the last interval, in codes. -/
def State.mtrRms (s : State) (p n : Nat) (sq : List Nat) : State :=
  let free := s.freeWord
  (List.range 7).foldl (fun s c =>
    let m := sq.getD c 0
    let r := isqrt (m / (n * 2 ^ 46))
    let r := if r * r * (n * 2 ^ 46) = m then r else r + (if (free >>> (c + 16)).toNat % 2 = 1 then 1 else 0)
    s.set Fld.MTR_RMS_RMS (7 * p + c) r) s.nextFree

/-- The 28 registers of a port, 8 bytes each (R446). -/
def State.mtrBytes (s : State) (p : Nat) : List Byte :=
  (List.range 28).flatMap (fun j => leBytes 8 (s.get64 Fld.MTR_E_LO_E Fld.MTR_E_HI_E (28 * p + j)))

/-- A TAIL group of a port (R446). -/
def State.mtrTail (s : State) (p : Nat) : State :=
  s.ringPut 0x28 0 none s.time48 p true ([BitVec.ofNat 8 p] ++ leBytes 6 ((s.mtrOf p).intEnd / 65536))
    (contParts 11 (s.mtrBytes p))

/-- A port's signed CHECKPOINT (R308, Table 26.2): PORT, interval end, PREP and the 28 registers. -/
def State.mtrCheckpoint (s : State) (p : Nat) (prep : Bool) : State :=
  if !s.flag Fld.MTR_PORT_STATUS_SEALED p || !s.canSign then s
  else s.jnlWrite 0x20 fSigned none s.time48 p
    ([BitVec.ofNat 8 p] ++ leBytes 6 ((s.mtrOf p).intEnd / 65536) ++ [if prep then 1 else 0])
    (contParts 11 (s.mtrBytes p))

/-- Every sealed port is checkpointed; with PREP, TAIL groups follow at interval ends (R308). -/
def State.checkpointAll (s : State) (prep : Bool) : State :=
  let s := (List.range 4).foldl (fun s p => s.mtrCheckpoint p prep) s
  if prep then { s with tailing := true } else s

/-- An interval ends at a time, a multiple of 10 ms of TB_NOW (R304, R305, R314, R308). The means are over the samples the
interval holds, fewer than 2,000 where the port was not in RUN throughout (log entry 51). -/
def State.mtrInterval (s : State) (p t : Nat) : State :=
  let st := s.mtrSt p
  if t % 204800000 ≠ 0 then s
  else if st ≠ mtRun && !(st = mtDrain && decide ((s.mtrOf p).n ≠ 0)) then s
  else
    let v := s.mtrOf p
    let n := Nat.max 1 v.n
    let vfs := s.get Fld.MTR_VFS_VFS p
    let ifs := s.get Fld.MTR_IFS_IFS p
    let free := s.freeWord
    let s := s.nextFree
    let gates := v.ph.map (gateOf ifs (s.get Fld.MTR_THR_ISTART p) n)
    let gated := (v.ph.zip gates).map (fun z => if z.2 then z.1 else {})
    let pt := gated.foldl (fun a b => a + b.p) (0 : Int)
    let qt := gated.foldl (fun a b => a + b.q) (0 : Int)
    let floor := s.get Fld.MTR_THR_NOLOAD p * 10000 * n * 2 ^ 92
    let idle := decide (pt.natAbs * vfs * ifs < floor) && decide (qt.natAbs * vfs * ifs < floor)
    let before := (List.range 28).map (fun j => s.energy p (j / 7) (j % 7))
    let es := (List.range 3).map (fun x =>
      let a := gated.getD x {}
      (energyOf (free >>> (3 * x)) vfs ifs n a.p, energyOf (free >>> (3 * x + 1)) vfs ifs n a.q,
       appOf (free >>> (3 * x + 2)) vfs ifs n a))
    let tot := (es.foldl (fun a e => a + e.1) (0 : Int), es.foldl (fun a e => a + e.2.1) (0 : Int),
                es.foldl (fun a e => a + e.2.2) 0)
    let s := if idle then s
      else ((((s.addPhase p 0 (es.getD 0 (0, 0, 0))).addPhase p 1 (es.getD 1 (0, 0, 0))).addPhase p 2
        (es.getD 2 (0, 0, 0))).addPhase p 3 tot)
    let s := (s.setFlag Fld.MTR_PORT_STATUS_NOLOAD p idle).mtrNeutral p
    let s := s.mtrRms p n v.sq
    let now := (List.range 28).map (fun j => s.get64 Fld.MTR_E_LO_E Fld.MTR_E_HI_E (28 * p + j))
    let s := s.setMtr p { s.mtrOf p with
      n := 0, ph := [{}, {}, {}], neu := 0, sq := [0, 0, 0, 0, 0, 0, 0], intEnd := t
      past := ((t, now) :: (s.mtrOf p).past).take 8
      gates := if idle then [false, false, false] else gates }
    let s := ((List.range 4).filter (fun k => s.plsFor k p 0)).foldl (fun s k =>
      let j := 7 * s.get Fld.MTR_PLS_CFG_PHASE k + s.get Fld.MTR_PLS_CFG_QTY k
      s.plsResidue k t (s.energy p (j / 7) (j % 7) - before.getD j 0)) s
    let s := if s.tailing && s.flag Fld.MTR_PORT_STATUS_SEALED p then s.mtrTail p else s
    s.mtrDrained p

/-- The registers of a port at the end of the latest interval that ended at or before a time, and that end (R307): those held
now where no interval has ended since START. -/
def State.mtrAt (s : State) (p t : Nat) : Nat × List Nat :=
  let past := (s.mtrOf p).past
  ((past.find? (fun z => decide (z.1 ≤ t))).or past.getLast?).getD
    ((s.mtrOf p).intEnd, (List.range 28).map (fun j => s.get64 Fld.MTR_E_LO_E Fld.MTR_E_HI_E (28 * p + j)))

/-- The checkpoints of every 60 s (R308): of each sealed port whose last one lies 60 s back. -/
def State.checkpointDue (s : State) (t : Nat) : State :=
  (List.range 4).foldl (fun s p =>
    if s.flag Fld.MTR_PORT_STATUS_SEALED p && s.canSign && (s.mtrOf p).ckptAt.all (fun x => decide (x + 60 * ftuSec ≤ t))
    then (s.mtrCheckpoint p false).setMtr p { s.mtrOf p with ckptAt := some t } else s) s

/-- A snapshot at a fire time (R307). -/
def State.mtrSnapshot (s : State) (p t : Nat) : State :=
  let v := s.mtrAt p t
  let s := (List.range 28).foldl (fun s j =>
    s.set64 Fld.MTR_ES_LO_E Fld.MTR_ES_HI_E (28 * p + j) (v.2.getD j 0)) s
  let s := s.set64 Fld.MTR_SNAP_TIME_LO_TIME Fld.MTR_SNAP_TIME_HI_TIME p v.1
  let s := if s.flag Fld.MTR_PORT_STATUS_SNAPNEW p then s.set Fld.MTR_PORT_STATUS_SNAPOVR p 1 else s
  s.event Fld.MTR_PORT_STATUS_SNAPNEW p (736 + 2 * p)

/-! ### Sealing (R310, R311) -/

/-- SHA-256 of a port's METER_PORT value and the PULSE_OUT values that name the port (R310). -/
def State.portHash (s : State) (p : Nat) : BitVec 256 :=
  let val (typ i : Nat) : List Byte := match s.rec? typ i with
    | some r => r.val
    | none => []
  Config.sha256 (val 0x0080 p ++ ((List.range 4).filter (fun k =>
    s.hasRec 0x0081 k && s.get Fld.MTR_PLS_CFG_PORT k == p)).flatMap (fun k => val 0x0081 k))

def hashBytes (h : BitVec 256) : List Byte := leBytes 32 h.toNat

/-- The body and continuations of a SEAL (0x21), CHANGE (0x22) or UNSEAL (0x23) record. -/
def State.sealParts (s : State) (p kind : Nat) (old : BitVec 256) : List Byte × List (List Byte) :=
  ([BitVec.ofNat 8 p],
   contParts 3 (if kind = 0x22 then hashBytes old ++ hashBytes (s.portHash p)
     else if kind = 0x21 then hashBytes (s.portHash p) else hashBytes old))

/-- Write the pinned record a port needs, or leave it SEALPEND (R310, R311). -/
def State.sealRecord (s : State) (p kind : Nat) (old : BitVec 256) : State :=
  let r := s.sealParts p kind old
  if s.pinReady r.2 then
    let s := s.pinPut kind s.time48 r.1 r.2
    let s := (s.setMtr p { s.mtrOf p with pendKind := 0 }).set Fld.MTR_PORT_STATUS_SEALPEND p 0
    s.setSealed p (kind != 0x23)
  else
    let s := if s.canSign then s.pinFull else s
    let s := (s.setMtr p { s.mtrOf p with pendKind := kind, pendOld := old }).set Fld.MTR_PORT_STATUS_SEALPEND p 1
    s.setSealed p false

/-- What a port's SEAL asks at a start, beside the latest pinned record of the port: its KIND and hash (R310). -/
def State.sealPort (s : State) (p : Nat) (last : Option (Nat × BitVec 256)) : State :=
  let sealed? := match last with
    | some (k, h) => if k = 0x23 then none else some h
    | none => none
  if s.flag Fld.MTR_PORT_CFG_SEAL p then
    match sealed? with
    | none => s.sealRecord p 0x21 0
    | some h => if h = s.portHash p then s.setSealed p true else s.sealRecord p 0x22 h
  else match sealed? with
    | none => s
    | some h => s.sealRecord p 0x23 h

/-- The records of SEALPEND ports, in port order, while they fit (R462). -/
def State.sealWaiting (s : State) : State :=
  (List.range 4).foldl (fun s p =>
    let v := s.mtrOf p
    if s.flag Fld.MTR_PORT_STATUS_SEALPEND p && s.pinReady (s.sealParts p v.pendKind v.pendOld).2
    then s.sealRecord p v.pendKind v.pendOld else s) s

/-! ### Requests (R317) -/

/-- A write of MTR_PORT_REQ: by either core at kernel level; DISABLE wins. -/
def State.writePortReq (s : State) (a : Acc) (p v : Nat) : State :=
  if !anyKernel a || decide (4 ≤ v) then s.busErr
  else if v = 0 then s.ok
  else ((s.setMtr p { s.mtrOf p with req := some (v.testBit 0) }).set Fld.MTR_PORT_STATUS_REQRES p 0).ok

/-- Chancel decides a request (R317, Table 17.4): a sealed or SEALPEND port refuses it. -/
def State.portDecide (s : State) (p : Nat) : State :=
  match (s.mtrOf p).req with
  | none => s
  | some dis =>
    let s := s.setMtr p { s.mtrOf p with req := none }
    if s.flag Fld.MTR_PORT_STATUS_SEALED p || s.flag Fld.MTR_PORT_STATUS_SEALPEND p then
      let s := (s.set Fld.MTR_PORT_STATUS_REQRES p 2).bump Fld.MTR_PORT_CNT_REFUSED p
      (s.raise (737 + 2 * p)).jnlWrite 0x27 0 none s.time48 0 [BitVec.ofNat 8 p] []
    else
      let s := s.set Fld.MTR_PORT_STATUS_REQRES p 1
      if dis then (if s.mtrSt p = mtRun then (s.mtrGo p mtDrain).mtrDrained p else s)
      else if s.mtrSt p = mtDrain then s
      else if s.flag Fld.MTR_PORT_CFG_EN p then s.mtrGo p mtRun else s

/-! ### Meanings -/

/-- METER_SAMPLE (R303). -/
def execMeterSample (t : Nat) (p : Fin 4) (smp : MtrSample) (s : State) : Out := .next ((s.touch t).mtrSample p t smp)

/-- METER_INTERVAL_END (R304). -/
def execMeterIntervalEnd (t : Nat) (p : Fin 4) (s : State) : Out := .next ((s.touch t).mtrInterval p t)

/-- PULSE_START (R314). -/
def execPulseStart (t : Nat) (k : Fin 4) (s : State) : Out := .next ((s.touch t).plsStart k t)

/-- PULSE_END (R313). -/
def execPulseEnd (t : Nat) (k : Fin 4) (s : State) : Out := .next ((s.touch t).plsEnd k t)

/-- METER_SNAPSHOT (R307). -/
def execMeterSnapshot (t : Nat) (p : Fin 4) (s : State) : Out := .next ((s.touch t).mtrSnapshot p t)

/-- METER_CHECKPOINT (R308). -/
def execMeterCheckpoint (t : Nat) (s : State) : Out := .next ((s.touch t).checkpointDue t)

/-- MTR_PORT_DISABLE (R317). -/
def execMtrPortDisable (a : Acc) (p : Fin 4) (s : State) : Out := .next ((s.touch a.t).writePortReq a p 1)

/-- MTR_PORT_ENABLE (R317). -/
def execMtrPortEnable (a : Acc) (p : Fin 4) (s : State) : Out := .next ((s.touch a.t).writePortReq a p 2)

end Sys2Proof.Machine
end

