-- ==== Sys2Proof/Machine/ModeReq.lean ====
section
/-!
DEFINITION. Sys2Proof/Machine/ModeReq.lean: mode requests (R54, R55, R60 to R65) and the quiet point (R56).
-/

namespace Sys2Proof.Machine

/-! ### Results -/

def mrPending : Nat := 1
def mrApplied : Nat := 2
def mrSuperseded : Nat := 3
def mrNoop : Nat := 4
def mrNoTicket : Nat := 5
def mrWithdrawn : Nat := 6

/-- Report a result to a requester (R60): each reads its own. -/
def State.modeResult (s : State) (src ticket result : Nat) : State :=
  { s with mode := { s.mode with res := Table.set 0 s.mode.res src (65536 * ticket + result), last := src } }

/-- SYS_MODE_RESULT as a master reads it: a core or Chancel its own; any other the latest reported. -/
def State.modeResultFor (s : State) : Master → Nat
  | .nave0 => Table.get 0 s.mode.res 0
  | .nave1 => Table.get 0 s.mode.res 1
  | .chancel => Table.get 0 s.mode.res 2
  | _ => Table.get 0 s.mode.res s.mode.last

/-! ### The quiet point -/

/-- A grid-tie instance is tied while its CPIN is high (R233). -/
def State.gridTied (s : State) (i : Nat) : Bool :=
  s.hasRec 0x0070 i && (s.pinOf (s.get Fld.GRD_CFG_CPIN i)).out && (s.pinOf (s.get Fld.GRD_CFG_CPIN i)).level

/-- A converter is live: RUN or DRAINING, and FREE or FOLLOW (R56). -/
def State.convLive (s : State) (c : Nat) : Bool :=
  (s.cnvState c == cvRun || s.cnvState c == cvDraining) && s.get Fld.EDG_CNV_CFG_SYNC c != 2

/-- The last period a converter has built: its boundary and length. -/
def Conv.lastPeriod (v : Conv) : Option (Nat × Nat) :=
  match v.built.getLast? with
  | some p => some (p.bound, p.pat.period)
  | none => v.cur.map (fun p => (p.bound, p.pat.period))

/-- A converter starts a period at a time, by its built periods and its last period's grid beyond them. -/
def Conv.startsAt (v : Conv) (x : Nat) : Bool :=
  (v.cur.toList ++ v.built).any (fun p => p.bound == x) ||
    (match v.lastPeriod with
      | some (b, p) => decide (b ≤ x) && decide (p ≠ 0) && decide ((x - b) % p = 0)
      | none => true)

/-- The first start of a period of a converter after a time. -/
def Conv.nextStart (v : Conv) (t : Nat) : Option Nat :=
  match (v.cur.toList ++ v.built).find? (fun p => decide (t < p.bound)) with
  | some p => some p.bound
  | none => match v.lastPeriod with
    | some (b, p) => if p = 0 then none else some (b + ((t - b) / p + 1) * p)
    | none => none

/-- The first time, from the starts of one converter, at which every other starts a period too. -/
def commonStart (vs : List Conv) (v : Conv) (limit : Nat) : Nat → Nat → Option Nat
  | 0, _ => none
  | k + 1, x =>
    if limit < x then none
    else if vs.all (fun u => u.startsAt x) then some x
    else match v.nextStart x with
      | some y => commonStart vs v limit k y
      | none => none

/-- The live converter with the longest period, the lowest number where several have it. -/
def State.longest (s : State) (cs : List Nat) : Option Nat :=
  let per (c : Nat) : Nat := ((s.convOf c).lastPeriod.map Prod.snd).getD 0
  cs.foldl (fun m c => match m with
    | none => some c
    | some d => if per d < per c then some c else some d) none

/-- The next crossing of angle 0 or a half turn of a tracker after a time (R56). -/
def State.nextCrossing (s : State) (n t : Nat) : Option Nat :=
  let a := s.trkAngle n
  let rate := s.trkRate n
  if rate = 0 then none
  else
    let now := a + rate * (t - s.trkStamp n : Int) / 281474976710656
    let half : Int := 2147483648
    let goal := if 0 < rate then (now / half + 1) * half else (-((-now) / half + 1)) * half
    let d := (goal - a) * 281474976710656
    let x := (s.trkStamp n : Int) + (if 0 < rate then (d + (rate - 1)) / rate else (-d + (-rate - 1)) / (-rate))
    some (Nat.max (t + 1) x.toNat)

/-- The quiet point strictly after a time (R56, R61), and whether it is the fallback. -/
def State.quietPoint (s : State) (t : Nat) : Option Nat × Bool :=
  match (List.range 4).find? s.gridTied with
  | some g => (s.nextCrossing (s.get Fld.GRD_CFG_TRACKER g) t, false)
  | none =>
    let cs := s.allConvs.filter s.convLive
    match s.longest cs with
    | none => (some ((t / busCycle + 1) * busCycle), false)
    | some m =>
      let limit := t + 50 * ftuMs
      match (s.convOf m).nextStart t with
      | none => (none, false)
      | some x =>
        match commonStart (cs.map s.convOf) (s.convOf m) limit 5001 x with
        | some y => (some y, false)
        | none => (some x, true)

/-- QUIET_POINT_PREDICT: the selection of a pending request runs again (R56). -/
def State.predictQuiet (s : State) (t : Nat) : State :=
  match s.mode.pend with
  | none => s
  | some p =>
    let q := s.quietPoint (Nat.max p.time (t - 1))
    { s with mode := { s.mode with qp := q.1, forced := q.2 } }

/-! ### Requests -/

/-- SRC of a master that may request (R54): a core at kernel level, or Chancel. -/
def modeSrc (a : Acc) : Option Nat :=
  match a.m with
  | .nave0 => if a.kernel then some 0 else none
  | .nave1 => if a.kernel then some 1 else none
  | .chancel => some 2
  | _ => none

/-- No request waits any longer: SYS_MODE's PEND and PENDING read 0 (Table 3.6). -/
def State.clearPend (s : State) : State :=
  (({ s with mode := { s.mode with pend := none, qp := none, forced := false } }).set Fld.SYS_MODE_PEND 0 0).set
    Fld.SYS_MODE_PENDING 0 0

/-- The pending request is cancelled with a result for its requester (R60, R63). -/
def State.cancelPend (s : State) (result : Nat) : State :=
  match s.mode.pend with
  | none => s
  | some p => ((s.clearPend).closeOp p.ticket ocCancelled).modeResult p.src p.ticket result

/-- The MODE byte of an OP_CLOSE whose request was a NOOP: nothing was applied (R62). Table 26.7 gives no layout; bit 7 is
this model's (DESIGN CHOICE, log entry 38). -/
def noopMode (mode : Nat) : Byte := BitVec.ofNat 8 (128 + mode)

/-- PARAM of OP_OPEN of a mode request (Table 26.8). -/
def modeParam (mode src t : Nat) : List Byte := [BitVec.ofNat 8 mode, BitVec.ofNat 8 src] ++ leBytes 6 (t / 65536)

/-- A request of a mode at a time (R55, R60, R62, R65). -/
def State.modeRequest (s : State) (src mode t : Nat) : State :=
  match s.openOp 1 0 (modeParam mode src t) [] with
  | none => s.modeResult src 0 mrNoTicket
  | some (tk, s) =>
    if mode = s.modeNow then
      ((s.cancelPend mrSuperseded).closeOpWith tk ocComplete [noopMode mode]).modeResult src tk mrNoop
    else
      let s := s.cancelPend mrSuperseded
      let s := { s with mode := { s.mode with pend := some { src := src, mode := mode, ticket := tk, time := t } } }
      let s := (s.set Fld.SYS_MODE_PENDING 0 mode).set Fld.SYS_MODE_PEND 0 1
      (s.modeResult src tk mrPending).predictQuiet t

/-- A withdrawal (R63): the withdrawer also reads WITHDRAWN. -/
def State.modeWithdraw (s : State) (src : Nat) : State :=
  match s.mode.pend with
  | none => s
  | some p => (s.cancelPend mrWithdrawn).modeResult src p.ticket mrWithdrawn

/-- A write of SYS_MODE_REQ (R54, R63): before RUN no request can be made. -/
def State.writeModeReq (s : State) (a : Acc) (v : Nat) : State :=
  match modeSrc a with
  | none => s.busErr
  | some src =>
    if v ≠ bits v 0 2 + 256 * bits v 8 1 then s.busErr
    else if s.pow.st != .run && s.pow.st != .safeHold then s.ok
    else if v.testBit 8 then (s.modeWithdraw src).ok
    else (s.modeRequest src (bits v 0 2) a.t).ok

/-! ### Meanings -/

/-- SYS_MODE_REQ (R54). -/
def execSysModeReq (a : Acc) (mode : Fin 4) (s : State) : Out := .next ((s.touch a.t).writeModeReq a mode)

/-- SYS_MODE_CANCEL (R63). -/
def execSysModeCancel (a : Acc) (s : State) : Out := .next ((s.touch a.t).writeModeReq a 256)

end Sys2Proof.Machine
end

