-- ==== Sys2Proof/Machine/TwillBase.lean ====
section
/-!
DEFINITION. Sys2Proof/Machine/TwillBase.lean: Twill's slots (chapter 6) apart from what a firing does elsewhere: writes
(R110, R111, R118), arming (R105), prediction (R104, R106, R114), stalls (R115) and the move of targets (R107, R112).
-/

namespace Sys2Proof.Machine

def twIdle : Nat := 0
def twPredict : Nat := 1
def twCommit : Nat := 2
def twWait : Nat := 3
def twStalled : Nat := 4

def State.slotSt (s : State) (n : Nat) : Nat := s.get Fld.TWL_SLOT_STATUS_STATE n
def State.slotTrk (s : State) (n : Nat) : Nat := s.get Fld.TWL_SLOT_CFG_TRACKER n
def State.slotPure (s : State) (n : Nat) : Bool := s.slotTrk n == 64

def State.setPred (s : State) (n v : Nat) : State := s.set64 Fld.TWL_PRED_LO_TIME Fld.TWL_PRED_HI_TIME n v
def State.predTime (s : State) (n : Nat) : Nat := s.get64 Fld.TWL_PRED_LO_TIME Fld.TWL_PRED_HI_TIME n
def allOnes64 : Nat := 18446744073709551615

/-- A state without a prediction. -/
def State.slotGo (s : State) (n st : Nat) : State := (s.set Fld.TWL_SLOT_STATUS_STATE n st).setPred n allOnes64

/-- An event of a slot raises its line (R119's chapter: EVLINE 127 raises none). -/
def State.slotEvent (s : State) (f : Fld) (n : Nat) : State :=
  let s := s.set f n 1
  let line := s.get Fld.TWL_SLOT_CFG_EVLINE n
  if line = 127 then s else s.raise (128 + line)

/-- The target in force moves, and its register with it. -/
def State.setTgt (s : State) (n tgt : Nat) : State :=
  let tgt := tgt % 18446744073709551616
  (s.setSlot n { s.slotOf n with tgt := tgt }).set64 Fld.TWL_SLOT_TGT_LO_TARGET Fld.TWL_SLOT_TGT_HI_TARGET n tgt

/-- The latest angle and stamp that a slot's tracker gives. -/
def State.slotNow (s : State) (n : Nat) : Int × Nat := (s.trkAngle (s.slotTrk n), s.trkStamp (s.slotTrk n))

/-- A written pair comes into force (R111); a crossing of a new target counts from here on. -/
def State.takeNew (s : State) (n : Nat) : State :=
  let v := s.slotOf n
  s.setSlot n { v with tgt := v.newTgt.getD v.tgt, step := v.newStep.getD v.step, newTgt := none, newStep := none
                       start := if v.newTgt.isSome then some (s.slotNow n) else v.start }

/-! ### Directions -/

/-- The slot's direction as a sign (R104): for BOTH, the present direction of motion. -/
def State.slotDir (s : State) (n : Nat) : Int :=
  if s.slotPure n then 1
  else match s.get Fld.TWL_SLOT_CFG_DIR n with
    | 0 => 1
    | 1 => -1
    | _ => if s.flag Fld.ANG_STATE_DIR (s.slotTrk n) then -1 else 1

/-- How far the angle, or the time, stands beyond the target in the slot's direction. -/
def State.beyond (s : State) (n : Nat) (now : Int) : Int :=
  let d := now - ((s.slotOf n).tgt : Int)
  if s.slotPure n then d else wrap64 d * s.slotDir n

/-- Move the target in a direction by k steps. -/
def State.stepTgt (s : State) (n k : Nat) (dir : Int) : State :=
  let v := s.slotOf n
  s.setTgt n (enc 64 ((v.tgt : Int) + dir * (k * v.step : Nat)))

/-- SKIPS counts targets passed over (R112, R115). -/
def State.countSkips (s : State) (n k : Nat) : State :=
  s.set Fld.TWL_SLOT_STATUS_SKIPS n (Nat.min 65535 (s.get Fld.TWL_SLOT_STATUS_SKIPS n + k))

/-- Targets that a firing passed over are counted and set SKIP (R112). -/
def State.skips (s : State) (n k : Nat) : State :=
  if k = 0 then s else (s.countSkips n k).slotEvent Fld.TWL_SLOT_STATUS_SKIP n

/-! ### Arming (R105, R110, R113) -/

/-- The turn count that puts a fraction strictly ahead of an angle in a direction (R105). -/
def fracTarget (angle : Int) (frac : Nat) (dir : Int) : Int :=
  let turn := angle / 4294967296 * 4294967296 + frac
  if 0 < dir then (if angle < turn then turn else turn + 4294967296)
  else (if turn < angle then turn else turn - 4294967296)

/-- Arm a slot: not before t6, and one whose action is MODE not before t10 (R110). A firing already committed stands (R111):
there ARM only takes back a DISARM that waits for it. -/
def State.slotArm (s : State) (n : Nat) : State :=
  let isMode := s.get Fld.TWL_SLOT_ACT_KIND n == 4
  if !s.tbRun || (isMode && s.pow.st == .start) then s
  else if s.slotSt n = twCommit then s.setSlot n { s.slotOf n with disarm := false }
  else
    let s := s.takeNew n
    let s := s.setSlot n { s.slotOf n with start := some (s.slotNow n), disarm := false }
    let s := if s.flag Fld.TWL_SLOT_CFG_MATCH n && !s.slotPure n then
        s.setTgt n (enc 64 (fracTarget (s.trkAngle (s.slotTrk n)) ((s.slotOf n).tgt % 4294967296) (s.slotDir n)))
      else s
    let stalled := !s.slotPure n && s.trkState (s.slotTrk n) != tkTrack
    s.slotGo n (if stalled then twStalled else twPredict)

/-- Disarm a slot (R118): a committed firing still happens. -/
def State.slotDisarm (s : State) (n : Nat) : State :=
  if s.slotSt n = twCommit then s.setSlot n { s.slotOf n with disarm := true } else s.slotGo n twIdle

/-- Slots with AUTOARM are armed (R110). -/
def State.autoArm (s : State) (p : Nat → Bool) : State :=
  ((List.range 1024).filter (fun n => s.hasRec 0x0031 n && s.flag Fld.TWL_SLOT_CFG_AUTOARM n && p n)).foldl
    (fun s n => s.slotArm n) s

/-! ### Withdrawal, stall and return (R114, R115) -/

/-- The armed slots of a tracker. -/
def State.slotsOf (s : State) (k : Nat) : List Nat :=
  (List.range 1024).filter (fun n => s.slotTrk n == k && s.slotSt n != twIdle)

/-- A slot's commit is withdrawn: it returns to prediction, or is IDLE where it was disarmed. -/
def State.withdraw (s : State) (n st : Nat) : State :=
  let v := s.slotOf n
  (s.setSlot n { v with disarm := false }).slotGo n (if v.disarm then twIdle else st)

/-- An update raised REV (R114): committed firings on the tracker are withdrawn; UP and DOWN slots set WITHDRAWN. -/
def State.revSlots (s : State) (k : Nat) : State :=
  ((s.slotsOf k).filter (fun n => s.slotSt n == twCommit)).foldl (fun s n =>
    let s := s.withdraw n twPredict
    if s.get Fld.TWL_SLOT_CFG_DIR n = 2 then s else s.slotEvent Fld.TWL_SLOT_STATUS_WITHDRAWN n) s

/-- The tracker leaves TRACK (R115): its slots stall, and commits go without WITHDRAWN. -/
def State.stallSlots (s : State) (k : Nat) : State := (s.slotsOf k).foldl (fun s n => s.withdraw n twStalled) s

/-- A target passed while STALLED (R115). -/
def State.missed (s : State) (n : Nat) : State :=
  (s.bump Fld.TWL_CNT_MISSED 0).slotEvent Fld.TWL_SLOT_STATUS_MISSED n

/-- The tracker is back in TRACK (R115): a one-shot slot whose target is behind is disarmed, a repeating one advances. -/
def State.returnSlot (s : State) (n : Nat) : State :=
  let s := (s.takeNew n)
  let d := s.beyond n (s.trkAngle (s.slotTrk n))
  let step := (s.slotOf n).step
  let s := s.setSlot n { s.slotOf n with start := some (s.slotNow n) }
  if d < 0 then s.slotGo n twPredict
  else if step = 0 then (s.slotGo n twIdle).missed n
  else
    let k := d.toNat / step + 1
    (((s.stepTgt n k (s.slotDir n)).countSkips n k).missed n).slotGo n twPredict

def State.returnSlots (s : State) (k : Nat) : State :=
  ((s.slotsOf k).filter (fun n => s.slotSt n == twStalled)).foldl (fun s n => s.returnSlot n) s

/-! ### Prediction (R104, R106, R112) -/

/-- The time at which a slot's target is predicted (R106), none for NEVER: a motion against an UP or DOWN slot's direction
reaches it in no crossing that counts (R104, R114). -/
def State.slotTime (s : State) (n : Nat) : Option Nat :=
  let v := s.slotOf n
  if s.slotPure n then some v.tgt
  else
    let k := s.slotTrk n
    let rate := s.trkRate k
    let dir := s.get Fld.TWL_SLOT_CFG_DIR n
    if (dir = 0 && decide (rate < 0)) || (dir = 1 && decide (0 < rate)) then none
    else timeAt (s.trkFld k 0x20 4) (s.trkAngle k) rate (s.trkStamp k) v.tgt

/-- The angle and stamp since which a pass judges crossings of a slot's target (R112). -/
def State.slotSince (s : State) (n : Nat) : Option (Int × Nat) :=
  let t := s.trkOf (s.slotTrk n)
  (s.slotOf n).start.or (if t.hasPrev then some (t.prev, t.prevStamp) else none)

/-- A movement of the angle crosses a target: onto it or to its other side, upwards or downwards (R104). -/
def crosses (old new tgt : Int) (up : Bool) : Bool :=
  let d := wrap64 (tgt - old)
  let m := wrap64 (new - old)
  if up then decide (0 < d) && decide (d ≤ m) else decide (d < 0) && decide (m ≤ d)

/-- The target was crossed since the previous pass (R104, R112); a pure-time target is past (R113). -/
def State.crossed (s : State) (n now : Nat) : Bool :=
  let v := s.slotOf n
  if s.slotPure n then decide (v.tgt ≤ now)
  else match s.slotSince n with
    | none => false
    | some (old, _) =>
      let a := s.trkAngle (s.slotTrk n)
      match s.get Fld.TWL_SLOT_CFG_DIR n with
      | 0 => crosses old a v.tgt true
      | 1 => crosses old a v.tgt false
      | _ => crosses old a v.tgt true || crosses old a v.tgt false

/-- When a crossing found late came about: by linear interpolation since the angle before it. -/
def State.crossTime (s : State) (n : Nat) : Nat :=
  let v := s.slotOf n
  if s.slotPure n then v.tgt
  else
    let k := s.slotTrk n
    match s.slotSince n with
    | none => s.trkStamp k
    | some (old, at_) =>
      let span := (wrap64 (s.trkAngle k - old)).natAbs
      let part := (wrap64 ((v.tgt : Int) - old)).natAbs
      if span = 0 then s.trkStamp k else at_ + part * (s.trkStamp k - at_) / span

/-- Predict, commit or leave waiting a slot that was not crossed (R106, R114). -/
def State.predictSlot (s : State) (n now : Nat) : State :=
  match s.slotTime n with
  | none => s.slotGo n twWait
  | some t => (s.set Fld.TWL_SLOT_STATUS_STATE n (if t ≤ now + 204800 then twCommit else twPredict)).setPred n t

/-! ### Writers (R110) -/

/-- The access is made by a slot's owner. -/
def State.slotOwner (s : State) (a : Acc) (n : Nat) : Bool :=
  s.hasRec 0x0031 n &&
    (match s.get Fld.TWL_SLOT_CFG_OWNER n with
      | 0 => a.m == .nave0
      | 1 => a.m == .nave1
      | 2 => a.m == .chancel
      | _ => false)

/-- A write of TWL_SLOT_CTRL; DISARM wins. -/
def State.writeSlotCtrl (s : State) (a : Acc) (n v : Nat) : State :=
  if !s.slotOwner a n || decide (4 ≤ v) then s.busErr
  else if v.testBit 1 then (s.slotDisarm n).ok
  else if v.testBit 0 then (s.slotArm n).ok
  else s.ok

/-- A write of a word of the target or step (R110): the _HI word commits the value. -/
def State.writeSlotTgtLo (s : State) (a : Acc) (n v : Nat) : State :=
  if !s.slotOwner a n then s.busErr else (s.set Fld.TWL_SLOT_TGT_LO_TARGET n v).ok
def State.writeSlotTgtHi (s : State) (a : Acc) (n v : Nat) : State :=
  if !s.slotOwner a n then s.busErr
  else
    let s := s.set Fld.TWL_SLOT_TGT_HI_TARGET n v
    (s.setSlot n { s.slotOf n with
      newTgt := some (s.get64 Fld.TWL_SLOT_TGT_LO_TARGET Fld.TWL_SLOT_TGT_HI_TARGET n) }).ok
def State.writeSlotStepLo (s : State) (a : Acc) (n v : Nat) : State :=
  if !s.slotOwner a n then s.busErr else (s.set Fld.TWL_SLOT_STEP_LO_STEP n v).ok
def State.writeSlotStepHi (s : State) (a : Acc) (n v : Nat) : State :=
  if !s.slotOwner a n then s.busErr
  else
    let s := s.set Fld.TWL_SLOT_STEP_HI_STEP n v
    (s.setSlot n { s.slotOf n with
      newStep := some (s.get64 Fld.TWL_SLOT_STEP_LO_STEP Fld.TWL_SLOT_STEP_HI_STEP n) }).ok

/-! ### Meanings -/

/-- TWILL_SLOT_ARM (R110). -/
def execTwillSlotArm (a : Acc) (slot : Fin 1024) (s : State) : Out := .next ((s.touch a.t).writeSlotCtrl a slot 1)

/-- TWILL_SLOT_DISARM (R118). -/
def execTwillSlotDisarm (a : Acc) (slot : Fin 1024) (s : State) : Out := .next ((s.touch a.t).writeSlotCtrl a slot 2)

/-- TWILL_TARGET_COMMIT (R111). -/
def execTwillTargetCommit (a : Acc) (slot : Fin 1024) (v : Word) (s : State) : Out :=
  .next ((s.touch a.t).writeSlotTgtHi a slot v.toNat)

/-- TWILL_STEP_COMMIT (R111). -/
def execTwillStepCommit (a : Acc) (slot : Fin 1024) (v : Word) (s : State) : Out :=
  .next ((s.touch a.t).writeSlotStepHi a slot v.toNat)

end Sys2Proof.Machine
end

