-- ==== Sys2Proof/Machine/JalamNet.lean ====
section
/-!
DEFINITION. Sys2Proof/Machine/JalamNet.lean: the Jalam network (chapter 19): the MAC header (R337), acceptance (R338), the
superframe (R340), contention (R341), acknowledgement (R342), polling (R343), MGMT frames (R344 to R346), beacons (R347,
R348), association (R349, R350), sequence numbers (R351), buffers (R352, R353), the disable of R335 and R355, and Chancel's
answers to READ_METER and REVOKE (R436 to R438).
-/

namespace Sys2Proof.Machine

/-! ### The JALAM record (Table 19.7) -/

def State.jrec (s : State) (off k : Nat) : Nat := s.recFld 0x0090 0 off k
def State.jRole (s : State) : Nat := s.jrec 2 1
def State.jOwner (s : State) : Nat := s.jrec 3 1
def State.jAddr (s : State) : Nat := s.jrec 4 2
def State.jBmod (s : State) : Nat := s.jrec 6 1 % 4
def State.jRetry (s : State) : Nat := s.jrec 7 1
def State.jCfplen (s : State) : Nat := s.jrec 8 2
def State.jTrk (s : State) : Nat := s.jrec 10 1
def State.jTokcmp (s : State) : Nat := s.jrec 11 1
def State.jPedid (s : State) : Nat := s.jrec 12 2
def State.netId (s : State) (e : Nat) : Nat := s.jrec (16 + 4 * e) 1
def State.netKey (s : State) (e : Nat) : Nat := s.jrec (17 + 4 * e) 1
def State.netPrio (s : State) (e : Nat) : Nat := s.jrec (18 + 4 * e) 1

/-- A NET entry is valid; a revoked or missing JLN slot voids it (R438). -/
def State.netValid (s : State) (e : Nat) : Bool :=
  s.jrec (19 + 4 * e) 1 != 0 && (s.keySlot (s.netKey e)).use == 0x3C

/-- The valid entry of a NETID. -/
def State.netOf (s : State) (id : Nat) : Option Nat :=
  (List.range 4).find? (fun e => s.netValid e && s.netId e == id)

/-! ### States (Table 19.4) -/

def nwOff : Nat := 0
def nwListen : Nat := 1
def nwAssoc : Nat := 2
def nwMember : Nat := 3
def nwCoord : Nat := 4
def nwDrain : Nat := 5

def State.net (s : State) : Nat := s.get Fld.JLN_NET_STATUS_STATE 0
def State.netIdx (s : State) : Nat := s.get Fld.JLN_NET_STATUS_NET 0

/-- A change of STATE raises source 756. -/
def State.netGo (s : State) (st : Nat) : State :=
  if s.net = st then s else (s.set Fld.JLN_NET_STATUS_STATE 0 st).raise 756

def State.jlnSet (s : State) (f : Jln → Jln) : State := { s with jln := f s.jln }

/-- Members in the poll list, as MEMBERS counts them. -/
def State.noteMembers (s : State) : State :=
  s.set Fld.JLN_NET_STATUS_MEMBERS 0 (s.jln.members.filter (fun m => m.conf)).length

def State.setMembers (s : State) (ms : List JMember) : State :=
  (s.jlnSet (fun j => { j with members := ms })).noteMembers

def State.memberOf (s : State) (a : Nat) : Option JMember := s.jln.members.find? (fun m => m.addr == a)

def State.updMember (s : State) (a : Nat) (f : JMember → JMember) : State :=
  s.setMembers (s.jln.members.map (fun m => if m.addr = a then f m else m))

def State.dropMember (s : State) (a : Nat) : State :=
  let k := s.jln.members.findIdx (fun m => m.addr == a)
  let s := s.jlnSet (fun j => { j with pollAt := if k < j.pollAt then j.pollAt - 1 else j.pollAt })
  s.setMembers (s.jln.members.filter (fun m => m.addr != a))

/-! ### Frames -/

/-- FTYPE codes (Table 19.1). -/
def ftData : Nat := 0
def ftAck : Nat := 1
def ftPoll : Nat := 2
def ftNull : Nat := 3
def ftMgmt : Nat := 4

/-- The MAC header (Table 19.1). -/
def macHead (ftype : Nat) (bcast ackreq : Bool) (net dst src seq : Nat) : List Byte :=
  [BitVec.ofNat 8 (ftype + (if bcast then 16 else 0) + (if ackreq then 32 else 0)), BitVec.ofNat 8 net]
    ++ leBytes 2 (if bcast then 0 else dst) ++ leBytes 2 src ++ leBytes 2 seq

/-- A received frame's fields (Table 19.1). -/
def JIn.fctl (f : JIn) : Nat := leNat (f.bytes.take 1)
def JIn.ftype (f : JIn) : Nat := f.fctl % 16
def JIn.bcast (f : JIn) : Bool := f.fctl.testBit 4
def JIn.ackreq (f : JIn) : Bool := f.fctl.testBit 5
def JIn.netid (f : JIn) : Nat := leNat ((f.bytes.drop 1).take 1)
def JIn.dst (f : JIn) : Nat := leNat ((f.bytes.drop 2).take 2)
def JIn.src (f : JIn) : Nat := leNat ((f.bytes.drop 4).take 2)
def JIn.seq (f : JIn) : Nat := leNat ((f.bytes.drop 6).take 2)
def JIn.body (f : JIn) : List Byte := f.bytes.drop 8

/-- Fields of a MGMT frame (R344). -/
def JIn.mtype (f : JIn) : Nat := leNat ((f.bytes.drop 8).take 1)
def JIn.fcnt (f : JIn) : Nat := leNat ((f.bytes.drop 9).take 5)
def JIn.epoch (f : JIn) : Nat := leNat ((f.bytes.drop 14).take 1)
def JIn.mbody (f : JIn) : List Byte := (f.bytes.take (f.bytes.length - 8)).drop 15
def JIn.tag (f : JIn) : List Byte := f.bytes.drop (f.bytes.length - 8)

/-- The pair of R346, EPOCH most significant. -/
def JIn.stampPair (f : JIn) : Nat := f.epoch * 1099511627776 + f.fcnt

/-- The AES-256 key of a NET entry. -/
def State.netKeyBits (s : State) (e : Nat) : BitVec 256 := BitVec.ofNat 256 (s.keySlot (s.netKey e)).key.toNat

/-- TAG of a MGMT frame (R344). -/
def State.mgmtTag (s : State) (e net src fcnt mtype epoch : Nat) (assoc : List Byte) : List Byte :=
  leBytes 8 (Config.ccmTag (s.netKeyBits e)
    ([BitVec.ofNat 8 net] ++ leBytes 2 src ++ leBytes 5 fcnt ++ [BitVec.ofNat 8 mtype, BitVec.ofNat 8 epoch, 0, 0, 0])
    assoc).toNat

/-- A received frame's TAG holds under a NET entry. -/
def State.tagOk (s : State) (e : Nat) (f : JIn) : Bool :=
  f.tag == s.mgmtTag e f.netid f.src f.fcnt f.mtype f.epoch (f.bytes.take (f.bytes.length - 8))

/-- The chipset's epoch (R432). -/
def State.epochNow (s : State) : Nat := s.chn.epoch

/-- A MGMT frame as first sent at a time (R344, R345). -/
def State.mgmtBytes (s : State) (mtype dst seq start : Nat) (bcast : Bool) (body : List Byte) : List Byte :=
  let e := s.netIdx
  let net := s.netId e
  let fcnt := start / 16777216 % 1099511627776
  let pre := macHead ftMgmt bcast (!bcast) net dst s.jAddr seq ++ [BitVec.ofNat 8 mtype] ++ leBytes 5 fcnt
    ++ [BitVec.ofNat 8 s.epochNow] ++ body
  pre ++ s.mgmtTag e net s.jAddr fcnt mtype s.epochNow pre

/-- JLN_FCNT takes what a MGMT frame sent at a time carries. -/
def State.noteFcnt (s : State) (start : Nat) : State :=
  let fcnt := start / 16777216 % 1099511627776
  let s := (s.set Fld.JLN_FCNT_LO_FCNT 0 fcnt).set Fld.JLN_FCNT_HI_FCNT 0 (fcnt / 4294967296)
  (s.set Fld.JLN_FCNT_HI_EPOCH 0 s.epochNow).jlnSet (fun j => { j with lastMgmt := some start })

/-! ### Sequence numbers (R351) -/

/-- SEQ is journaled (Table 26.2). -/
def State.journalSeq (s : State) : State := s.jnlWrite 0x15 0 none s.time48 0 (leBytes 2 (s.get Fld.JLN_SEQ_SEQ 0)) []

/-- The next SEQ is used; every 128th increment is journaled. -/
def State.takeSeq (s : State) : Nat × State :=
  let q := s.get Fld.JLN_SEQ_SEQ 0
  let s := s.set Fld.JLN_SEQ_SEQ 0 (q + 1)
  (q, if (q + 1) % 128 = 0 then s.journalSeq else s)

/-! ### Transmit buffers (R352) -/

def txEmpty : Nat := 0
def txQueued : Nat := 1
def txSending : Nat := 2
def txWaitAck : Nat := 3
def txDone : Nat := 4
def txFailed : Nat := 5
def txCancelled : Nat := 6

/-- STATE of the buffer a frame comes from. -/
def State.txState (s : State) (f : JFrame) (st : Nat) : State :=
  match f.src with
  | .buf b => s.set Fld.JLN_TX_STATUS_STATE b st
  | .mgmt _ => s

/-- A frame's ticket, if any, closes. -/
def State.txClose (s : State) (f : JFrame) (outcome : Nat) : State :=
  match f.tkt with
  | none => s
  | some tk => s.closeOp tk outcome

def State.txComplete (s : State) (f : JFrame) : State := (s.txState f txDone).txClose f ocComplete

/-- A frame is cancelled: CANCELLED, TXCANCEL and source 757. -/
def State.cancelFrame (s : State) (f : JFrame) : State :=
  let s := (s.txState f txCancelled).txClose f ocCancelled
  match f.src with
  | .buf _ => s.event Fld.JLN_NET_EVT_TXCANCEL 0 757
  | .mgmt _ => s

/-- The n body bytes of a buffer. -/
def State.txBody (s : State) (b n : Nat) : List Byte :=
  ((List.range 256).flatMap (fun w => leBytes 4 (s.get Fld.JLN_TXBUF_DATA (256 * b + w)))).take n

/-- The payload LEN of a frame to send: MAC header, body, and for MGMT the security header and TAG. -/
def JFrame.len (f : JFrame) : Nat :=
  match f.src with
  | .buf _ => 8 + f.body.length
  | .mgmt _ => 23 + f.body.length

def JFrame.isMgmt (f : JFrame) : Bool :=
  match f.src with
  | .buf _ => false
  | .mgmt _ => true

/-- A frame's modulation: MGMT frames at BMOD (R339). -/
def State.frameMod (s : State) (f : JFrame) : Nat := if f.isMgmt then s.jBmod else f.md

/-- How long a frame takes, with RIFS and an ACK where one is asked for (R341, R343). -/
def State.frameTime (s : State) (f : JFrame) : Nat :=
  jlnSymbols (s.frameMod f) f.len * jlnSym
    + (if f.ackreq then jlnRifs + jlnSymbols s.jBmod 8 * jlnSym else 0)

/-- A MGMT frame of Chancel's, queued. -/
def State.queueMgmt (s : State) (mtype dst : Nat) (cfp : Bool) (body : List Byte) : State :=
  let f : JFrame := { src := .mgmt mtype, dst := dst, ackreq := true, cfp := cfp, body := body }
  s.jlnSet (fun j => { j with queue := if cfp then f :: j.queue else j.queue ++ [f] })

/-! ### Starting transmissions (R340, R341, R343) -/

def State.addJob (s : State) (start : Nat) (i : JItem) : State :=
  s.jlnSet (fun j => { j with jobs := j.jobs ++ [⟨start, i⟩] })

/-- Nothing of the node's own is on the line, commanded or awaited. -/
def State.jlnFree (s : State) : Bool :=
  s.jln.line.isNone && s.jln.jobs.isEmpty && s.jln.wait.isNone && s.jln.polled.isNone

/-- The medium is idle for a backoff slot (R341): BUSY reads 0 and no preamble has been detected. -/
def State.jlnIdle (s : State) (t : Nat) : Bool := s.phy == phSearch && !s.jlnBusy t

/-- A time at or after which a frame may start: first transmissions of MGMT frames stand 11 symbols apart (R345). -/
def State.spaced (s : State) (f : JFrame) (t : Nat) : Nat :=
  match s.jln.lastMgmt with
  | some x => if f.isMgmt && f.bytes.isEmpty then Nat.max t (x + 11 * jlnSym) else t
  | none => t

def dropFirst (f : JFrame) : List JFrame → List JFrame
  | [] => []
  | g :: t => if g = f then t else g :: dropFirst f t

/-- VLD is below 10.8 V: the transmitter sends nothing (R464). -/
def State.vldLow (s : State) : Bool := s.flag Fld.UCR_STATUS_VLDLOW 0

/-- Command a queued frame's transmission. -/
def State.sendQueued (s : State) (f : JFrame) (start : Nat) : State :=
  (s.jlnSet (fun j => { j with queue := dropFirst f j.queue })).addJob start (.frame f)

/-- Frames this node may send in the CP now: the request to join while ASSOCIATING, any but CFP frames once it is in. -/
def State.cpFrame? (s : State) : Option JFrame :=
  s.jln.queue.find? (fun f => !f.cfp && (s.net != nwAssoc || f.src == .mgmt 1))

/-- Contention (R341): a backoff is drawn, and at zero the frame starts if it and its ACK end before the next beacon. A node
whose NET entry a revoked key has voided (R438) sends nothing more in that network (DEDUCED, log entry 53). -/
def State.contend (s : State) (t : Nat) : State :=
  if !(s.net = nwAssoc || s.net = nwMember || s.net = nwCoord) || !s.jlnFree || t < s.jln.cpFrom || s.vldLow
      || !s.netValid s.netIdx then s
  else match s.cpFrame? with
    | none => s
    | some f =>
      let s := match s.jln.backoff with
        | some _ => s
        | none => s.nextFree.jlnSet (fun j => { j with backoff := some (s.freeWord.toNat % Nat.max 1 j.cw), slotAt := t })
      if s.jln.backoff = some 0 && s.jlnIdle t then
        let start := jlnSample (s.spaced f t)
        if start + s.frameTime f < s.jln.nextBcn then
          (s.sendQueued f start).jlnSet (fun j => { j with backoff := none })
        else s
      else s

/-- When the coordinator's CFP ends. -/
def State.cfpEnd (s : State) : Nat := s.jln.cpFrom

/-- The coordinator's next act in the CFP (R343): a frame of its own that fits, else a poll. ROOM, which the spec leaves to
the coordinator, is a free value among those that fit. -/
def State.cfpNext (s : State) (at0 : Nat) : State :=
  let fits (f : JFrame) : Bool := f.cfp && decide (jlnSample (s.spaced f at0) + s.frameTime f ≤ s.cfpEnd)
  match s.jln.queue.find? fits with
  | some f => s.sendQueued f (jlnSample (s.spaced f at0))
  | none =>
    let ms := s.jln.members.filter (fun m => m.conf)
    match ms[s.jln.pollAt % Nat.max 1 ms.length]? with
    | none => s
    | some m =>
      let fixed := jlnSymbols s.jBmod 10 * jlnSym + 2 * jlnRifs + jlnSymbols s.jBmod 8 * jlnSym
      let room := (s.cfpEnd - (jlnSample at0 + fixed)) / jlnSym
      if s.cfpEnd ≤ jlnSample at0 + fixed || room = 0 then s
      else
        let r := 1 + s.freeWord.toNat % Nat.min room 65535
        let s := s.nextFree.addJob (jlnSample at0) (.poll m.addr r)
        s.jlnSet (fun j => { j with pollAt := (j.pollAt % Nat.max 1 ms.length) + 1 })

/-- What the node does next once an exchange has ended at a time. -/
def State.proceed (s : State) (t gap : Nat) : State :=
  if !s.jlnFree || s.vldLow then s
  else if s.net = nwCoord && decide (t < s.cfpEnd) then s.cfpNext (t + gap)
  else s.contend t

/-! ### Beacons to send (R340, R347) -/

/-- Vessel time (R77). -/
def State.vesselTime (s : State) (t : Nat) : Nat :=
  (t + s.get64 Fld.TB_ORIGIN_LO_ORIGIN Fld.TB_ORIGIN_HI_ORIGIN 0) % 18446744073709551616

/-- The slot with the BEACON action. -/
def State.beaconSlot (s : State) : Option Nat :=
  (List.range 1024).find? (fun n => s.hasRec 0x0031 n && s.get Fld.TWL_SLOT_ACT_KIND n == 5)

/-- The start of the next beacon, from Twill's prediction. -/
def State.beaconNext (s : State) : Option Nat :=
  match s.beaconSlot with
  | none => none
  | some n => (s.takeNew n).slotTime n

/-- A token is carried: TOKCMP names a comparator and PEDID is nonzero (R347). -/
def State.hasToken (s : State) : Bool := decide (s.jTokcmp < 32) && s.jPedid != 0

/-- NEXT of a beacon that starts at a time, in µs; free where Twill predicts none. -/
def State.beaconGap (s : State) (start : Nat) : Nat :=
  match s.beaconNext with
  | some x => (roundFree s.freeWord ((x : Int) - start) ftuUs).toNat
  | none => s.freeWord.toNat

/-- The beacon body (Table 19.3) of a beacon that starts at a time. -/
def State.beaconBody (s : State) (start : Nat) : List Byte :=
  let at0 := start + 8 * jlnSym
  let k := s.jTrk
  let phase := if k < 64
    then enc 32 (angleAt (s.freeWord >>> 1) (s.trkAngle k) (s.trkRate k) (s.trkStamp k) at0) else (s.freeWord >>> 1).toNat
  let freq := if k < 64 then s.get Fld.ANG_FREQ_FREQ k else (s.freeWord >>> 32).toNat
  let valid := decide (k < 64) && s.trkState k == tkTrack
  let live := s.hasToken && s.flag Fld.CMP_STATUS_OUT s.jTokcmp
  leBytes 8 (s.vesselTime at0) ++ leBytes 4 (s.beaconGap start) ++ leBytes 2 s.jCfplen
    ++ [BitVec.ofNat 8 (s.netPrio 0), BitVec.ofNat 8 ((if valid then 1 else 0) + (if s.hasToken then 2 else 0))]
    ++ leBytes 4 phase ++ leBytes 4 freq ++ leBytes 2 s.jPedid ++ [if live then 1 else 2, 0]

/-- The CP begins after the beacon, RIFS and the CFP, CFPLEN ms but at most half of NEXT (R340). -/
def cpStart (bcnStart bcnEnd gapUs cfplen : Nat) : Nat × Nat :=
  (bcnEnd + jlnRifs + Nat.min (cfplen * ftuMs) (gapUs * ftuUs / 2), bcnStart + gapUs * ftuUs)

/-- BEACON_OPEN (R340): a coordinator transmits its beacon at the fire time; one that has seen a network of higher priority
goes to LISTEN instead (Table 19.4). -/
def State.beaconOpen (s : State) (t : Nat) : State :=
  if s.net ≠ nwCoord || s.vldLow || !s.netValid s.netIdx then s
  else if s.jln.foreign then
    let s := s.jlnSet (fun j => { j with
      foreign := false, heard := [], lastBcn := t, members := [], polled := none, backoff := none
      jobs := [], queue := (j.jobs.filterMap (fun x => match x.item with
        | .frame f => if f.isMgmt then none else some f
        | _ => none)) ++ j.queue.filter (fun f => !f.isMgmt) })
    s.noteMembers.netGo nwListen
  else s.jlnSet (fun j => { j with jobs := ⟨t, .beacon⟩ :: j.jobs })

/-! ### A transmission begins (R321, R334) -/

/-- The transmitter puts bytes on the line. -/
def State.putLine (s : State) (item : JItem) (start md : Nat) (bcn : Bool) (bytes : List Byte) : State :=
  let s := if s.phy = phHeader || s.phy = phPayload
    then (s.bump Fld.JLN_PHY_CNT2_RXPREEMPT 0).event Fld.JLN_PHY_STATUS_RXPREEMPT 0 753 else s
  let l : JLine := { item := item, bytes := bytes, start := start
                     endAt := start + jlnSymbols md bytes.length * jlnSym, sig := jlnSignal md bcn bytes }
  (s.jlnSet (fun j => { j with line := some l })).phyGo phTx

/-- The bytes of a queued frame, with its SEQ, FCNT and TAG from its first transmission on (R345, R351). -/
def State.frameBytes (s : State) (f : JFrame) (start : Nat) : JFrame × State :=
  if !f.bytes.isEmpty then (f, s)
  else match f.src with
    | .buf _ =>
      ({ f with bytes := macHead ftData f.bcast f.ackreq (s.netId s.netIdx) f.dst s.jAddr (f.seq.getD 0) ++ f.body }, s)
    | .mgmt mt =>
      let q := s.takeSeq
      ({ f with seq := some q.1, bytes := q.2.mgmtBytes mt f.dst q.1 start f.bcast f.body }, q.2.noteFcnt start)

/-- The first commanded transmission that is due begins, unless the transmitter is busy or off. -/
def State.txStart (s : State) (t : Nat) : State :=
  match s.jln.line, s.jln.jobs.find? (fun j => decide (jlnSample j.start ≤ t)) with
  | none, some job =>
    if s.phy = phOff then s
    else if s.vldLow then
      s.jlnSet (fun j => { j with
        jobs := []
        queue := (j.jobs.filterMap (fun x => match x.item with
          | .frame f => some f
          | _ => none)) ++ j.queue })
    else
      let s := s.jlnSet (fun j => { j with jobs := j.jobs.filter (fun x => x != job) })
      let start := jlnSample job.start
      let net := s.netId s.netIdx
      match job.item with
      | .frame f =>
        let r := s.frameBytes f start
        (r.2.txState r.1 txSending).putLine (.frame r.1) start (s.frameMod f) false r.1.bytes
      | .ack d q => s.putLine job.item start s.jBmod false (macHead ftAck false false net d s.jAddr q)
      | .null d => s.putLine job.item start s.jBmod false (macHead ftNull false false net d s.jAddr (s.get Fld.JLN_SEQ_SEQ 0))
      | .poll d room =>
        let q := s.takeSeq
        q.2.putLine job.item start s.jBmod false (macHead ftPoll false false net d s.jAddr q.1 ++ leBytes 2 room)
      | .beacon =>
        let q := s.takeSeq
        let bytes := q.2.mgmtBytes 0 0 q.1 start true (q.2.beaconBody start)
        let gap := s.beaconGap start
        let c := cpStart start (start + jlnSymbols s.jBmod bytes.length * jlnSym) gap s.jCfplen
        let s := (q.2.noteFcnt start).nextFree.jlnSet (fun j => { j with
          cpFrom := c.1, nextBcn := c.2, period := gap * ftuUs, polled := none })
        s.putLine .beacon start s.jBmod true bytes
  | _, _ => s

/-! ### Disable (R335, R355) -/

/-- The function is OFF; a held ENABLE starts it again (Table 29.2). -/
def State.jlnListen (s : State) (t : Nat) : State :=
  ((s.jlnSet (fun j => { j with heard := [], lastBcn := t, foreign := false, enHeld := false })).phyGo phSearch).netGo nwListen

def State.jlnOff (s : State) (t : Nat) : State :=
  let s := ((s.jlnSet (fun j => { j with line := none })).phyGo phOff).netGo nwOff
  if s.jln.enHeld then s.jlnListen t else s

/-- Every frame waiting to be sent or acknowledged. -/
def Jln.allFrames (j : Jln) : List JFrame :=
  (match j.wait with
    | some w => [w.f]
    | none => []) ++
  (match j.line with
    | some l => (match l.item with
      | .frame f => [f]
      | _ => [])
    | none => []) ++
  j.jobs.filterMap (fun x => match x.item with
    | .frame f => some f
    | _ => none) ++ j.queue

/-- The function is disabled, IMMEDIATE or not (Tables 18.3 and 19.5). -/
def State.jlnDisable (s : State) (t : Nat) : State :=
  if s.net = nwOff || s.net = nwDrain then (if s.net = nwDrain then s.jlnSet (fun j => { j with enHeld := false }) else s)
  else
    let s := s.jln.allFrames.foldl (fun s f => s.cancelFrame f) s
    let s := s.jlnSet (fun j => { j with
      queue := [], jobs := [], wait := none, backoff := none, members := [], polled := none, inbox := none
      assocBy := none, foreign := false, entry := none })
    let s := (s.noteMembers.netGo nwDrain).journalSeq
    match s.jln.line with
    | none => s.jlnOff t
    | some l =>
      let k := (t - l.start + (jlnSym - 1)) / jlnSym
      if s.phy = phAborting then s
      else
        let l : JLine := { l with endAt := l.start + (k + 2) * jlnSym, sig := l.sig.take k ++ abortSymbols }
        (s.jlnSet (fun j => { j with line := some l })).phyGo phAborting

/-- The last symbol of a transmission has ended (R328). -/
def State.txDoneAt (s : State) (t : Nat) : State :=
  match s.jln.line with
  | none => s
  | some l =>
    if t < l.endAt then s
    else if s.phy = phAborting then s.jlnOff t
    else
      let s := ((s.jlnSet (fun j => { j with line := none })).phyGo phSearch).event Fld.JLN_PHY_STATUS_TXDONE 0 754
      match l.item with
      | .frame f =>
        let s := if f.src = .mgmt 1 && s.jln.assocBy.isNone
          then s.jlnSet (fun j => { j with assocBy := some (l.endAt + 3 * j.period) }) else s
        let s := if f.src = .mgmt 2
          then s.updMember f.dst (fun m => { m with confBy := some (l.endAt + 3 * s.jln.period) }) else s
        if f.ackreq then
          (s.txState f txWaitAck).jlnSet (fun j => { j with wait := some ⟨f, l.endAt + jlnRifs + 10 * jlnSym⟩ })
        else ((s.txComplete f).jlnSet (fun j => { j with cw := 8 })).proceed t jlnRifs
      | .poll d _ => s.jlnSet (fun j => { j with polled := some (d, l.endAt + jlnRifs + 2 * jlnSym), answering := false })
      | .beacon => (s.event Fld.JLN_NET_EVT_BCNTX 0 755).proceed t jlnRifs
      | _ => s.proceed t jlnRifs

/-! ### Acknowledgement (R342) -/

/-- An ACK for an accepted unicast frame starts RIFS after it ends. -/
def State.ackFrame (s : State) (f : JIn) : State :=
  if f.ackreq && !f.bcast && (s.net = nwAssoc || s.net = nwMember || s.net = nwCoord)
  then s.addJob (f.endAt + jlnRifs) (.ack f.src f.seq) else s

/-- The header of an ACK has been decoded: a payload of the MAC header alone is being received (R342). -/
def State.ackHeader (s : State) : Bool := s.phy == phPayload && s.get Fld.JLN_RX_HDR_LEN 0 == 8

/-- No ACK header in time (R342): CW doubles; the frame is sent again, or FAILED, or CANCELLED where CANCEL stopped it. -/
def State.ackTimeout (s : State) (t : Nat) : State :=
  match s.jln.wait with
  | none => s
  | some w =>
    if t < w.till || s.ackHeader then s
    else
      let s := s.jlnSet (fun j => { j with wait := none, cw := Nat.min 256 (2 * j.cw), backoff := none })
      let f := w.f
      let s :=
        if f.halt then s.cancelFrame f
        else if s.jRetry ≤ f.tries then
          let s := (s.txState f txFailed).txClose f ocFailed
          (s.bump Fld.JLN_CNT1_TXFAIL 0).event Fld.JLN_NET_EVT_TXFAIL 0 757
        else
          let f := { f with tries := f.tries + 1 }
          let s := s.txState f txQueued
          let s := match f.src with
            | .buf b => s.set Fld.JLN_TX_STATUS_TRIES b f.tries
            | .mgmt _ => s
          let s := match f.tkt with
            | some tk => s.progOp tk f.tries
            | none => s
          s.jlnSet (fun j => { j with queue := f :: j.queue })
      s.proceed t 0

/-! ### Acceptance (R338) -/

/-- The NETIDs heard: those of the NET entries in LISTEN, the network's own once in one. -/
def State.hears (s : State) (id : Nat) : Bool :=
  if s.net = nwListen then (s.netOf id).isSome
  else if s.net = nwAssoc || s.net = nwMember || s.net = nwCoord then s.netValid s.netIdx && s.netId s.netIdx == id
  else false

/-- A beacon of another NET entry, which only a coordinator of ROLE AUTO judges (Table 19.4). -/
def State.foreignBcn (s : State) (f : JIn) : Bool :=
  s.net == nwCoord && s.jRole == 2 && f.ftype == ftMgmt && f.bcast && f.mtype == 0 && (s.netOf f.netid).isSome
    && f.netid != s.netId s.netIdx

/-- The body length of an MTYPE (Table 19.2), and whether reserved bytes are 0. -/
def JIn.mgmtForm (f : JIn) : Bool :=
  let n := f.mbody.length
  if f.bytes.length < 23 then false
  else match f.mtype with
    | 0 => n == 28 && f.bcast && decide (leNat ((f.mbody.drop 15).take 1) < 4) && leNat (f.mbody.drop 27) == 0
    | 1 => n == 8 && !f.bcast && f.ackreq
    | 2 => n == 18 && !f.bcast && f.ackreq && leNat (f.mbody.drop 17) == 0
    | 3 => n == 8 && !f.bcast && f.ackreq
    | 4 => n == 2 && !f.bcast && f.ackreq && leNat (f.mbody.drop 1) == 0
    | 5 => decide (1 ≤ n) && decide (n ≤ 1001) && !f.bcast && f.ackreq
    | _ => false

/-- No reserved FTYPE, no reserved bit, and the form of its kind (R337 to R339). -/
def JIn.wellFormed (f : JIn) : Bool :=
  decide (f.ftype ≤ 4) && decide (f.fctl < 64) && decide (f.dst < 1024) && decide (f.src < 1024)
    && !(f.bcast && f.ackreq)
    && (match f.ftype with
      | 0 => true
      | 2 => f.bytes.length == 10
      | 4 => f.mgmtForm
      | _ => f.bytes.length == 8)

/-- A frame whose header and FCS check comes to the MAC (R338). -/
def State.macReceive (s : State) (f : JIn) : State :=
  if f.bytes.length < 8 then s
  else
    let s := if s.hears f.netid && f.src == s.jAddr then s.event Fld.JLN_NET_EVT_ADDRCLASH 0 759 else s
    if s.foreignBcn f then s.jlnSet (fun j => { j with inbox := some f })
    else if !s.hears f.netid || !(f.bcast || f.dst == s.jAddr) then s
    else if !f.wellFormed then (s.bump Fld.JLN_CNT3_BADFRM 0).event Fld.JLN_NET_EVT_BADFRM 0 758
    else s.jlnSet (fun j => { j with inbox := some f })

/-- JALAM_FRAME_RECEIVED: a frame ends, at BUSY_END, and goes to the MAC. -/
def State.frameReceived (s : State) (t : Nat) (bs : List Bool) : State :=
  let r := if s.rxEarly t then (s, none) else s.rxPayload bs
  match r.2 with
  | none => r.1
  | some bytes => r.1.macReceive ⟨bytes, s.rxStamp, s.busyEnd⟩

/-- The frame in the inbox, if it is one of a kind, and the state without it. -/
def State.takeIn (s : State) (p : JIn → Bool) : Option (JIn × State) :=
  match s.jln.inbox with
  | none => none
  | some f => if p f then some (f, s.jlnSet (fun j => { j with inbox := none })) else none

def JIn.isMtype (k : Nat) (f : JIn) : Bool := f.ftype == ftMgmt && f.mtype == k

/-- A coordinator has answered an address whose ASSOC_CONF is still to come: it accepts nothing else from it (R350). -/
def State.unconfirmed (s : State) (a : Nat) : Bool := s.net == nwCoord && (s.memberOf a).any (fun m => !m.conf)

/-- A member or poll answer has been heard. -/
def State.heardFrom (s : State) (a t : Nat) : State :=
  let s := s.updMember a (fun m => { m with heard := t, noresp := 0 })
  s.jlnSet (fun j => { j with polled := match j.polled with
    | some (d, _) => if d = a then none else j.polled
    | none => none })

/-! ### Judging MGMT frames (R346) -/

def State.replay (s : State) : State := (s.bump Fld.JLN_CNT0_REPLAY 0).event Fld.JLN_NET_EVT_REPLAY 0 758
def State.authFail (s : State) : State := (s.bump Fld.JLN_CNT0_AUTHFAIL 0).event Fld.JLN_NET_EVT_AUTHFAIL 0 758

/-- The replay entry of a source: a coordinator's of its members, a member's of its coordinator. -/
def State.entryOf (s : State) (src : Nat) : Option (Nat × Nat) :=
  if s.net = nwCoord then (s.memberOf src).map (fun m => (m.entry, m.seq))
  else if src = s.jln.coord then s.jln.entry else none

/-- A frame is accepted and becomes the entry. -/
def State.newEntry (s : State) (f : JIn) : State :=
  if s.net = nwCoord then s.updMember f.src (fun m => { m with entry := f.stampPair, seq := f.seq })
  else s.jlnSet (fun j => { j with entry := some (f.stampPair, f.seq) })

/-- The verdicts of R346 on a frame whose TAG holds: against its source's entry. -/
inductive Verdict where
  | noEntry | old | again | fresh
  deriving DecidableEq, Repr

def State.verdict (s : State) (f : JIn) : Verdict :=
  match s.entryOf f.src with
  | none => .noEntry
  | some (p, q) =>
    if f.stampPair < p then .old
    else if f.stampPair = p then (if f.seq = q then .again else .old)
    else .fresh

/-- A MGMT frame is judged; what it does when it is new is given by `act`, and what its lack of an entry means by `first`. -/
def State.judge (s : State) (f : JIn) (first act : State → State) : State :=
  if !s.tagOk s.netIdx f then s.authFail
  else match s.verdict f with
    | .noEntry => first s
    | .old => s.replay
    | .again => s.ackFrame f
    | .fresh => act (s.newEntry f)

/-! ### Beacons received (R346, R348, Table 19.4) -/

def beaconFld (f : JIn) (off k : Nat) : Nat := leNat ((f.mbody.drop off).take k)

/-- A beacon's CP and next beacon as its receiver finds them. -/
def State.noteBeacon (s : State) (f : JIn) : State :=
  let gap := beaconFld f 8 4
  let c := cpStart (f.stamp - 8 * jlnSym) f.endAt gap (beaconFld f 12 2)
  s.jlnSet (fun j => { j with lastBcn := f.endAt, period := gap * ftuUs, cpFrom := c.1, nextBcn := c.2 })

/-- A member takes time, phase and token (R348). -/
def State.useBeacon (s : State) (f : JIn) (t : Nat) : State :=
  let s := (s.noteBeacon f).event Fld.JLN_NET_EVT_BCNRX 0 755
  let time := beaconFld f 0 8
  let flags := beaconFld f 15 1
  let ped := beaconFld f 24 2
  let tok := beaconFld f 26 1
  let s := s.set64 Fld.JLN_BCN_TIME_LO_TIME Fld.JLN_BCN_TIME_HI_TIME 0 time
  let s := (s.set Fld.JLN_BCN_PHASE_PHASE 0 (beaconFld f 16 4)).set Fld.JLN_BCN_FREQ_FREQ 0 (beaconFld f 20 4)
  let s := (s.set Fld.JLN_BCN_NEXT_NEXT 0 (beaconFld f 8 4)).set Fld.JLN_BCN_TOKEN_PEDID 0 ped
  let s := (s.set Fld.JLN_BCN_TOKEN_STATE 0 tok).set Fld.JLN_BCN_TOKEN_FLAGS 0 flags
  let s := { s with tbs := { s.tbs with beacon := (time : Int) - f.stamp } }
  if flags.testBit 1 then (List.range 4).foldl (fun s i => s.gridToken i t ped (tok == 1)) s else s

/-- LISTEN: a second beacon of one NET entry begins association with its source (Table 19.4). -/
def State.hearBeacon (s : State) (f : JIn) (e : Nat) : State :=
  let s := (s.noteBeacon f).event Fld.JLN_NET_EVT_BCNRX 0 755
  let old := ((s.jln.heard.find? (fun h => h.e == e)).map (fun h => h.n)).getD 0
  let hs := ⟨e, f.src, old + 1⟩ :: s.jln.heard.filter (fun h => h.e != e)
  let s := s.jlnSet (fun j => { j with heard := hs })
  let ready := hs.filter (fun h => decide (2 ≤ h.n))
  let best := ready.foldl (fun (m : Option JHeard) h => match m with
    | none => some h
    | some b => if s.netPrio b.e < s.netPrio h.e then some h else some b) none
  match best with
  | none => s
  | some b =>
    if s.flag Fld.SYS_CHN_STATUS_TRNGFAIL 0 then s
    else
      let nm := leBytes 8 (Config.trng s.free).toNat
      let s := s.nextFree.jlnSet (fun j => { j with heard := [], coord := b.src, entry := none, nm := nm, assocBy := none })
      ((s.set Fld.JLN_NET_STATUS_NET 0 b.e).netGo nwAssoc).queueMgmt 1 b.src false nm

/-- RX_BEACON. -/
def State.rxBeacon (s : State) (t : Nat) : State :=
  match s.takeIn (JIn.isMtype 0) with
  | none => s
  | some (f, s) =>
    match s.netOf f.netid with
    | none => s
    | some e =>
      if s.net = nwListen then (if s.tagOk e f then s.hearBeacon f e else s.authFail)
      else if s.net = nwCoord then
        if f.netid != s.netId s.netIdx then
          if s.tagOk e f && decide (s.netPrio 0 < s.netPrio e) then
            (s.jlnSet (fun j => { j with foreign := true })).event Fld.JLN_NET_EVT_FOREIGN 0 759
          else s
        else if !s.tagOk e f then s.authFail
        else
          let s := if f.src = s.jAddr then s else s.event Fld.JLN_NET_EVT_DUPCOORD 0 759
          s.replay
      else s.judge f State.replay (fun s => s.useBeacon f t)

/-! ### Association (R350) -/

/-- Leave the network for LISTEN: the exchange and Chancel's queued frames go, ticketed frames stay queued. -/
def State.toListen (s : State) (t : Nat) : State :=
  let back := s.jln.jobs.filterMap (fun x => match x.item with
    | .frame f => if f.isMgmt then none else some f
    | _ => none)
  let s := s.jlnSet (fun j => { j with
    jobs := [], queue := back ++ j.queue.filter (fun f => !f.isMgmt), backoff := none, heard := [], lastBcn := t
    entry := none, assocBy := none, polled := none, members := [] })
  s.noteMembers.netGo nwListen

def rAccept : Nat := 0
def rInUse : Nat := 1
def rFull : Nat := 2

/-- RX_ASSOC_REQ at a coordinator: the answer heads its next CFP. -/
def State.rxAssocReq (s : State) (t : Nat) : State :=
  match s.takeIn (JIn.isMtype 1) with
  | none => s
  | some (f, s) =>
    if s.net ≠ nwCoord then s.replay
    else
      let act (s : State) : State :=
        if s.flag Fld.SYS_CHN_STATUS_TRNGFAIL 0 then s.ackFrame f
        else
          let nc := leBytes 8 (Config.trng s.free).toNat
          let s := s.nextFree
          let old := s.memberOf f.src
          let inUse := match old with
            | some m => m.conf && decide (t ≤ m.heard + 3 * s.jln.period)
            | none => false
          let r := if inUse then rInUse else if 256 ≤ (s.jln.members.filter (fun m => m.addr != f.src)).length then rFull
            else rAccept
          let s := if r = rAccept then
              let s := s.dropMember f.src
              s.setMembers (s.jln.members ++
                [{ addr := f.src, nc := nc, entry := f.stampPair, seq := f.seq, heard := t }])
            else s
          (s.queueMgmt 2 f.src true (f.mbody ++ nc ++ [BitVec.ofNat 8 r, 0])).ackFrame f
      s.judge f act act

/-- RX_ASSOC_RESP at a node in ASSOCIATING. -/
def State.rxAssocResp (s : State) (t : Nat) : State :=
  match s.takeIn (JIn.isMtype 2) with
  | none => s
  | some (f, s) =>
    let mine := s.net == nwAssoc && f.src == s.jln.coord && f.mbody.take 8 == s.jln.nm
    let act (s : State) : State :=
      if !mine then s.replay
      else if leNat ((f.mbody.drop 16).take 1) = rAccept then
        let s := s.ackFrame f
        let s := s.jlnSet (fun j => { j with entry := some (f.stampPair, f.seq), assocBy := none })
        ((s.event Fld.JLN_NET_EVT_ASSOC 0 756).netGo nwMember).queueMgmt 3 f.src false ((f.mbody.drop 8).take 8)
      else (s.toListen t).addJob (f.endAt + jlnRifs) (.ack f.src f.seq)
    s.judge f act (fun s => s.ackFrame f)

/-- RX_ASSOC_CONF at a coordinator: NC echoed puts the member into the poll list. -/
def State.rxAssocConf (s : State) (t : Nat) : State :=
  match s.takeIn (JIn.isMtype 3) with
  | none => s
  | some (f, s) =>
    s.judge f State.replay (fun s =>
      match s.memberOf f.src with
      | none => s
      | some m =>
        if s.net = nwCoord && !m.conf && m.nc == f.mbody then
          let s := s.updMember f.src (fun m => { m with conf := true, confBy := none, heard := t })
          (s.event Fld.JLN_NET_EVT_ASSOC 0 756).ackFrame f
        else s)

/-- RX_DISASSOC: a member returns to LISTEN; a coordinator drops the member. -/
def State.rxDisassoc (s : State) (t : Nat) : State :=
  match s.takeIn (JIn.isMtype 4) with
  | none => s
  | some (f, s) =>
    if s.unconfirmed f.src then s
    else s.judge f State.replay (fun s =>
      let s := s.event Fld.JLN_NET_EVT_DISASSOC 0 756
      if s.net = nwCoord then (s.dropMember f.src).ackFrame f
      else (s.toListen t).addJob (f.endAt + jlnRifs) (.ack f.src f.seq))

/-- No ASSOC_RESP in time (Table 19.4). -/
def State.assocTimeout (s : State) (t : Nat) : State :=
  match s.jln.assocBy with
  | none => s
  | some x => if s.net = nwAssoc && decide (x ≤ t) then s.toListen t else s

/-- No ASSOC_CONF in time: the coordinator drops the entries (R350). -/
def State.confTimeout (s : State) (t : Nat) : State :=
  if s.net ≠ nwCoord then s
  else s.setMembers (s.jln.members.filter (fun m => m.conf || (match m.confBy with
    | some x => decide (t < x)
    | none => true)))

/-! ### Losses and timeouts (Table 19.4) -/

/-- No beacon in LISTEN for 2,000 ms, and for ROLE AUTO 100 ms more for each step of ADDR mod 16: COORD, of the network of
NET entry 0 (R349), unless a revoked key has voided that entry (R438). -/
def State.listenTimeout (s : State) (t : Nat) : State :=
  let wait := 2000 + (if s.jRole = 2 then 100 * (s.jAddr % 16) else 0)
  if s.net ≠ nwListen || s.jRole = 0 || !s.netValid 0 || t < s.jln.lastBcn + wait * ftuMs then s
  else
    let s := s.jlnSet (fun j => { j with members := [], pollAt := 0, heard := [], foreign := false, backoff := none
                                         cpFrom := 0, nextBcn := 0 })
    (s.noteMembers.set Fld.JLN_NET_STATUS_NET 0 0).netGo nwCoord

/-- Three beacon periods without an accepted beacon. -/
def State.beaconLoss (s : State) (t : Nat) : State :=
  if s.net ≠ nwMember || t < s.jln.lastBcn + 3 * s.jln.period then s
  else ((s.bump Fld.JLN_CNT2_BCNLOST 0).event Fld.JLN_NET_EVT_BCNLOST 0 759).toListen t

/-! ### Data, ACK, POLL and NULL (R342, R343, R351, R353) -/

/-- The lowest free receive buffer. -/
def State.rxBuffer (s : State) : Option Nat := (List.range 4).find? (fun r => !s.flag Fld.JLN_RX_INFO_FULL r)

/-- Write a body into receive buffer r, word by word. -/
def State.fillRx (s : State) (r : Nat) (body : List Byte) : State :=
  (List.range 256).foldl (fun s w =>
    if 4 * w < body.length then s.set Fld.JLN_RXBUF_DATA (256 * r + w) (leNat ((body.drop (4 * w)).take 4)) else s) s

/-- RX_DATA. -/
def State.rxData (s : State) (t : Nat) : State :=
  match s.takeIn (fun f => f.ftype == ftData) with
  | none => s
  | some (f, s) =>
    if s.unconfirmed f.src then s
    else
      let s := s.heardFrom f.src t
      let last := Table.get 0 s.jln.seen f.src
      let dup := last != 0 && (last - 1) % 65536 == f.seq && decide (t ≤ (last - 1) / 65536 + 3 * s.jln.period)
      if dup then ((s.bump Fld.JLN_CNT3_DUP 0).ackFrame f).proceed t jlnRifs
      else match s.rxBuffer with
        | none => ((s.bump Fld.JLN_CNT1_RXOVF 0).event Fld.JLN_NET_EVT_RXOVF 0 760).proceed t jlnRifs
        | some r =>
          let s := (s.fillRx r f.body).jlnSet (fun j => { j with seen := Table.set 0 j.seen f.src (65536 * t + f.seq + 1) })
          let s := (s.set Fld.JLN_RX_INFO_SRC r f.src).set Fld.JLN_RX_INFO_BCAST r (if f.bcast then 1 else 0)
          let s := (s.set Fld.JLN_RX_INFO_LEN r f.body.length).set Fld.JLN_RX_INFO_FULL r 1
          let s := (s.set Fld.JLN_RX_SEQ_SEQ r f.seq).set Fld.JLN_RX_TIME_STAMP r f.stamp
          ((s.raise 760).ackFrame f).proceed t jlnRifs

/-- RX_ACK: the frame awaiting this ACK is complete, and CW returns to 8. -/
def State.rxAck (s : State) (t : Nat) : State :=
  match s.takeIn (fun f => f.ftype == ftAck) with
  | none => s
  | some (f, s) =>
    let s := s.heardFrom f.src t
    match s.jln.wait with
    | none => s
    | some w =>
      if w.f.seq == some f.seq && w.f.dst == f.src then
        let s := s.jlnSet (fun j => { j with wait := none, cw := 8, backoff := none })
        let s := s.txComplete w.f
        let s := if w.f.isMgmt then s else s.event Fld.JLN_NET_EVT_TXACK 0 757
        s.proceed t jlnRifs
      else s

/-- A frame may answer a poll at a time (R343): its symbols fit ROOM, and a MGMT frame stands 11 symbols from the last (R345). -/
def State.fitsRoom (s : State) (start room : Nat) (f : JFrame) : Bool :=
  decide (jlnSymbols (s.frameMod f) f.len ≤ room) && s.spaced f start == start

/-- RX_POLL at a member: the answer starts RIFS after the POLL. -/
def State.rxPoll (s : State) (t : Nat) : State :=
  match s.takeIn (fun f => f.ftype == ftPoll) with
  | none => s
  | some (f, s) =>
    if s.net ≠ nwMember || f.src ≠ s.jln.coord then s
    else
      let s := s.heardFrom f.src t
      let room := leNat (f.body.take 2)
      let start := f.endAt + jlnRifs
      let s := s.jlnSet (fun j => { j with backoff := none })
      match (s.jln.queue.find? (fun g => g.cfp)).filter (fun g => s.fitsRoom start room g) with
      | some g => s.sendQueued g start
      | none =>
        match (s.jln.queue.find? (fun g => !g.cfp && !g.bcast)).filter (fun g => s.fitsRoom start room g) with
        | some g => s.sendQueued g start
        | none => s.addJob start (.null f.src)

/-- RX_NULL at a coordinator. -/
def State.rxNull (s : State) (t : Nat) : State :=
  match s.takeIn (fun f => f.ftype == ftNull) with
  | none => s
  | some (f, s) => (s.heardFrom f.src t).proceed t jlnRifs

/-- A poll brought no answer (R343): the eighth in a row removes the member. -/
def State.pollNoresp (s : State) (t : Nat) : State :=
  match s.jln.polled with
  | none => s
  | some (d, till) =>
    if t < till || s.phy = phHeader || s.phy = phPayload then s
    else if s.jln.answering then (s.jlnSet (fun j => { j with polled := none })).proceed t 0
    else
      let s := (s.jlnSet (fun j => { j with polled := none })).bump Fld.JLN_CNT2_NORESP 0
      let n := ((s.memberOf d).map (fun m => m.noresp + 1)).getD 0
      let s := if n = 8 then (s.dropMember d).event Fld.JLN_NET_EVT_DISASSOC 0 756
        else s.updMember d (fun m => { m with noresp := n })
      s.proceed t 0

/-! ### Chancel's frames (R436 to R438) -/

def State.badCmd (s : State) : State := s.bump Fld.SYS_CHN_CNT_BADCMD 0

/-- USE as SYS_CHN_KEYUSE shows it (Table 25.8). -/
def useCode (use : Nat) : Nat :=
  if use = 0x00 then 0 else if use = 0x0F then 1 else if use = 0x33 then 2 else if use = 0x3C then 3
  else if use = 0x55 then 4 else 5

/-- The KEYUSE registers show the key slots. -/
def State.noteKeys (s : State) : State :=
  (List.range 2).foldl (fun s w => s.set Fld.SYS_CHN_KEYUSE_USE w
    ((List.range 8).foldl (fun n i => n + useCode (s.keySlot (8 * w + i)).use * 16 ^ i) 0)) s

def State.setKeySlot (s : State) (k : Nat) (v : KeySlot) : State :=
  ({ s with chn := { s.chn with slots := Table.set {} s.chn.slots k v } }).noteKeys

/-- RESULT of a METER frame: how the port stands (Table 25.5). -/
def State.meterResult (s : State) (p : Nat) : Nat :=
  if s.flag Fld.MTR_PORT_STATUS_SEALPEND p then 3
  else if s.flag Fld.MTR_PORT_STATUS_SEALED p then 0
  else if s.mtrSt p = mtOff then 2 else 1

/-- The METER bytes from CMD through the last register (R437): the values at the end of the latest interval that ended at or
before the request's RX_STAMP. -/
def State.meterFrame (s : State) (p x : Nat) (nonce : List Byte) (stamp : Nat) : List Byte :=
  let v := s.mtrAt p stamp
  [0x11, BitVec.ofNat 8 p, BitVec.ofNat 8 x, BitVec.ofNat 8 (s.meterResult p)] ++ nonce ++ leBytes 8 (s.vesselTime v.1)
    ++ (List.range 7).flatMap (fun q => leBytes 8 (v.2.getD (7 * x + q) 0))

/-- READ_METER (R437): answered, signed, to the SRC of the request; discarded with BADCMD without a DEVICE key (R521). -/
def State.readMeter (s : State) (f : JIn) : State :=
  let b := f.mbody
  let p := leNat ((b.drop 1).take 1)
  let x := leNat ((b.drop 2).take 1)
  if b.length ≠ 12 || 4 ≤ p || 4 ≤ x || leNat ((b.drop 3).take 1) ≠ 0 || (s.keySlot 0).use ≠ 0x55 then s.badCmd
  else if !s.canSign then s
  else
    let m := s.meterFrame p x ((b.drop 4).take 8) f.stamp
    ({ s with free := s.free + 1 }).queueMgmt 5 f.src false (m ++ s.sign m)

/-- A REVOKE's conditions (R438). -/
def State.revokeOk (s : State) (b : List Byte) : Bool :=
  let slot := leNat ((b.drop 1).take 1)
  let signer := leNat ((b.drop 2).take 1)
  let img (k : Nat) : Bool := (s.keySlot k).use == 0x0F
  let sig := BitVec.ofNat 512 (leNat ((b.drop 12).take 32) * 2 ^ 256 + leNat ((b.drop 44).take 32))
  ((b.drop 4).take 8) == s.devid && decide (signer < 16) && signer != slot && img signer && slot != 0 && decide (slot < 16)
    && Config.ecdsaVerify (s.keySlot signer).key (b.take 12) sig
    && (List.range 16).any (fun k => k != slot && img k)

/-- REVOKE (R438): the slot becomes REVOKED with a pinned record, or the answer is REFUSED (R460, R521). -/
def State.revoke (s : State) (f : JIn) : State :=
  let b := f.mbody
  if b.length ≠ 76 || leNat ((b.drop 3).take 1) ≠ 0 then s.badCmd
  else
    let slot := leNat ((b.drop 1).take 1)
    let ok := s.revokeOk b && s.canSign && !s.flag Fld.JNL_PIN_STATUS_FULL 0
    let fits := s.pinReady []
    let s := if ok && !fits then s.pinFull else s
    let s := if ok && fits then
        ((s.setKeySlot slot { s.keySlot slot with use := 0xFF })).pinPut 0x31 s.time48 ((b.drop 1).take 2) []
      else s
    s.queueMgmt 5 f.src false [0x21, BitVec.ofNat 8 slot, if ok && fits then 0 else 1, 0]

/-- A CHANCEL frame: acknowledged, source 761, and its command judged (R353, R436). -/
def State.rxChancel (s : State) (t : Nat) (p : Nat → Bool) (act : State → JIn → State) : State :=
  match s.takeIn (fun f => f.isMtype 5 && p (leNat (f.mbody.take 1))) with
  | none => s
  | some (f, s) =>
    if s.unconfirmed f.src then s
    else s.judge f State.replay (fun s =>
      (act ((s.heardFrom f.src t).raise 761 |>.ackFrame f) f).proceed t jlnRifs)

/-! ### Writes by the owner (R352, R353, R357) -/

/-- The JALAM owner makes the access, at either level. -/
def State.jlnOwner (s : State) (a : Acc) : Bool := s.hasRec 0x0090 0 && isCore a s.jOwner

/-- GO (R332, R339, R352). -/
def State.txGo (s : State) (b t : Nat) : State :=
  let st := s.get Fld.JLN_TX_STATUS_STATE b
  let len := s.get Fld.JLN_TX_LEN_LEN b
  let bc := s.flag Fld.JLN_TX_CFG_BCAST b
  let aq := s.flag Fld.JLN_TX_CFG_ACKREQ b
  if st = txQueued || st = txSending || st = txWaitAck then s
  else if bc && aq then s.event Fld.JLN_NET_EVT_TXBADFLAG 0 757
  else if len = 0 || 1016 < len then s.event Fld.JLN_PHY_STATUS_TXBADLEN 0 754
  else
    let body := s.txBody b len
    let q := s.takeSeq
    let f : JFrame := {
      src := .buf b, dst := s.get Fld.JLN_TX_CFG_DST b, bcast := bc, ackreq := aq, cfp := s.flag Fld.JLN_TX_CFG_CFP b
      md := s.get Fld.JLN_TX_CFG_MOD b, body := body, seq := some q.1 }
    let s := (q.2.set Fld.JLN_TX_STATUS_STATE b txQueued).set Fld.JLN_TX_STATUS_TRIES b 0
    let r : JFrame × State :=
      if !aq then (f, s)
      else match s.openOp 5 b (leBytes 4 (s.regValue .JLN_TX_CFG b) ++ leBytes 2 len ++ leBytes 2 q.1)
          (contParts 47 body) with
        | none => (f, s.event Fld.JLN_NET_EVT_NOTICKET 0 757)
        | some (tk, s) => ({ f with tkt := some tk }, s.set Fld.JLN_TX_STATUS_TICKET b tk)
    (r.2.jlnSet (fun j => { j with queue := j.queue ++ [r.1] })).contend t

/-- A frame of a buffer stops being retried. -/
def stopOf (b : Nat) (f : JFrame) : JFrame := if f.src = .buf b then { f with halt := true } else f

/-- CANCEL (R352): a queued frame is withdrawn, the retries of one awaiting its ACK stop; one on the line completes. -/
def State.txCancel (s : State) (b t : Nat) : State :=
  let isB (f : JFrame) : Bool := f.src == .buf b
  let jobF := s.jln.jobs.filterMap (fun x => match x.item with
    | .frame f => some f
    | _ => none)
  match (s.jln.queue ++ jobF).find? isB with
  | some f =>
    let s := s.jlnSet (fun j => { j with
      queue := j.queue.filter (fun f => !isB f)
      jobs := j.jobs.filter (fun x => x.item != .frame f), backoff := none })
    (s.cancelFrame f).contend t
  | none => s.jlnSet (fun j => { j with
      wait := j.wait.map (fun w => { w with f := stopOf b w.f })
      line := j.line.map (fun l => { l with item := match l.item with
        | .frame f => .frame (stopOf b f)
        | i => i }) })

def State.writeTxCtrl (s : State) (a : Acc) (b v : Nat) : State :=
  if !s.jlnOwner a || decide (4 ≤ v) then s.busErr
  else if v.testBit 1 then (s.txCancel b a.t).ok
  else if v.testBit 0 then (s.txGo b a.t).ok
  else s.ok

def State.writeRxRel (s : State) (a : Acc) (r v : Nat) : State :=
  if !s.jlnOwner a || decide (2 ≤ v) then s.busErr
  else if v = 1 then (s.set Fld.JLN_RX_INFO_FULL r 0).ok else s.ok

/-- JLN_CTRL: by OWNER at kernel level; DISABLE wins; ENABLE in DRAINING is held. -/
def State.writeJlnCtrl (s : State) (a : Acc) (v : Nat) : State :=
  if !s.jlnOwner a || !a.kernel || decide (8 ≤ v) then s.busErr
  else if v.testBit 1 then (s.jlnDisable a.t).ok
  else if v.testBit 0 then
    (if s.net = nwOff then s.jlnListen a.t
     else if s.net = nwDrain then s.jlnSet (fun j => { j with enHeld := true }) else s).ok
  else s.ok

/-! ### Start (R349, R351, Table 26.3) -/

/-- At t6 a node with a JALAM record enters LISTEN. -/
def State.jlnStart (s : State) (t : Nat) : State := if s.hasRec 0x0090 0 then s.jlnListen t else s

/-- A frame replayed under its ticket goes back into its buffer as QUEUED (Table 26.3). -/
def State.jlnRequeue (s : State) (b cfg len seq tk : Nat) (body : List Byte) : State :=
  let s := (s.setReg .JLN_TX_CFG b cfg).set Fld.JLN_TX_LEN_LEN b len
  let s := (List.range 256).foldl (fun s w =>
    if 4 * w < body.length then s.set Fld.JLN_TXBUF_DATA (256 * b + w) (leNat ((body.drop (4 * w)).take 4)) else s) s
  let s := ((s.set Fld.JLN_TX_STATUS_STATE b txQueued).set Fld.JLN_TX_STATUS_TRIES b 0).set Fld.JLN_TX_STATUS_TICKET b tk
  let f : JFrame := {
    src := .buf b, dst := s.get Fld.JLN_TX_CFG_DST b, bcast := s.flag Fld.JLN_TX_CFG_BCAST b
    ackreq := s.flag Fld.JLN_TX_CFG_ACKREQ b, cfp := s.flag Fld.JLN_TX_CFG_CFP b, md := s.get Fld.JLN_TX_CFG_MOD b
    body := body.take len, seq := some seq, tkt := some tk }
  s.jlnSet (fun j => { j with queue := j.queue ++ [f] })

/-! ### Meanings -/

/-- JALAM_FRAME_RECEIVED (R328, R338). -/
def execJalamFrameReceived (t : Nat) (bits : List Bool) (s : State) : Out := .next ((s.touch t).frameReceived t bits)

/-- JALAM_TX_START (R321). -/
def execJalamTxStart (t : Nat) (s : State) : Out := .next ((s.touch t).txStart t)

/-- JALAM_TX_DONE (R328). -/
def execJalamTxDone (t : Nat) (s : State) : Out := .next ((s.touch t).txDoneAt t)

/-- CFP_END (R340): the contention period begins. -/
def execCfpEnd (t : Nat) (s : State) : Out := .next ((s.touch t).contend t)

/-- A backoff slot has passed (R341): 720 µs of the CP since the one before it and since the medium was last busy. -/
def State.slotOver (s : State) (t : Nat) : Bool :=
  s.jlnIdle t && s.jlnFree && decide (Nat.max s.jln.slotAt (Nat.max s.jln.cpFrom s.busyEnd) + jlnSym ≤ t)

/-- BACKOFF_SLOT (R341): a slot counts while the medium is idle. -/
def State.backoffSlot (s : State) (t : Nat) : State :=
  match s.jln.backoff with
  | some (k + 1) =>
    if s.slotOver t then (s.jlnSet (fun j => { j with backoff := some k, slotAt := t })).contend t else s
  | _ => if s.jlnIdle t then s.contend t else s

/-- BACKOFF_SLOT (R341). -/
def execBackoffSlot (t : Nat) (s : State) : Out := .next ((s.touch t).backoffSlot t)

/-- ACK_TIMEOUT (R342). -/
def execAckTimeout (t : Nat) (s : State) : Out := .next ((s.touch t).ackTimeout t)

/-- POLL_NORESP (R343). -/
def execPollNoresp (t : Nat) (s : State) : Out := .next ((s.touch t).pollNoresp t)

/-- RX_DATA (R353). -/
def execRxData (t : Nat) (s : State) : Out := .next ((s.touch t).rxData t)

/-- RX_ACK (R342). -/
def execRxAck (t : Nat) (s : State) : Out := .next ((s.touch t).rxAck t)

/-- RX_POLL (R343). -/
def execRxPoll (t : Nat) (s : State) : Out := .next ((s.touch t).rxPoll t)

/-- RX_NULL (R343). -/
def execRxNull (t : Nat) (s : State) : Out := .next ((s.touch t).rxNull t)

/-- RX_BEACON (R346, R348). -/
def execRxBeacon (t : Nat) (s : State) : Out := .next ((s.touch t).rxBeacon t)

/-- RX_ASSOC_REQ (R350). -/
def execRxAssocReq (t : Nat) (s : State) : Out := .next ((s.touch t).rxAssocReq t)

/-- RX_ASSOC_RESP (R350). -/
def execRxAssocResp (t : Nat) (s : State) : Out := .next ((s.touch t).rxAssocResp t)

/-- RX_ASSOC_CONF (R350). -/
def execRxAssocConf (t : Nat) (s : State) : Out := .next ((s.touch t).rxAssocConf t)

/-- RX_DISASSOC (R349). -/
def execRxDisassoc (t : Nat) (s : State) : Out := .next ((s.touch t).rxDisassoc t)

/-- READ_METER (R437); a CHANCEL frame of an unknown command counts BADCMD (R436). -/
def execReadMeter (t : Nat) (s : State) : Out :=
  .next ((s.touch t).rxChancel t (fun c => c != 0x20) (fun s f =>
    let c := leNat (f.mbody.take 1)
    if c = 0x10 then s.readMeter f else if c = 0x11 || c = 0x21 then s else s.badCmd))

/-- REVOKE (R438). -/
def execRevoke (t : Nat) (s : State) : Out := .next ((s.touch t).rxChancel t (fun c => c == 0x20) State.revoke)

/-- LISTEN_TIMEOUT (R349). -/
def execListenTimeout (t : Nat) (s : State) : Out := .next ((s.touch t).listenTimeout t)

/-- BEACON_LOSS (R349). -/
def execBeaconLoss (t : Nat) (s : State) : Out := .next ((s.touch t).beaconLoss t)

/-- ASSOC_TIMEOUT (R349). -/
def execAssocTimeout (t : Nat) (s : State) : Out := .next ((s.touch t).assocTimeout t)

/-- ASSOC_CONF_TIMEOUT (R350). -/
def execAssocConfTimeout (t : Nat) (s : State) : Out := .next ((s.touch t).confTimeout t)

/-- JLN_TX_GO (R352). -/
def execJlnTxGo (a : Acc) (b : Fin 2) (s : State) : Out := .next ((s.touch a.t).writeTxCtrl a b 1)

/-- JLN_TX_CANCEL (R352). -/
def execJlnTxCancel (a : Acc) (b : Fin 2) (s : State) : Out := .next ((s.touch a.t).writeTxCtrl a b 2)

/-- JLN_RX_RELEASE (R353). -/
def execJlnRxRelease (a : Acc) (r : Fin 4) (s : State) : Out := .next ((s.touch a.t).writeRxRel a r 1)

/-- JLN_ENABLE (R354). -/
def execJlnEnable (a : Acc) (s : State) : Out := .next ((s.touch a.t).writeJlnCtrl a 1)

/-- JLN_DISABLE (R355). -/
def execJlnDisable (a : Acc) (imm : Bool) (s : State) : Out :=
  .next ((s.touch a.t).writeJlnCtrl a (if imm then 6 else 2))

end Sys2Proof.Machine
end

