-- ==== Sys2Proof/Machine/Chancel.lean ====
section
/-!
DEFINITION. Sys2Proof/Machine/Chancel.lean: the Chancel boundary (chapter 25): provisioning and LOCK (R430, R460, R521), the
floor (R431), the epoch (R432), service requests (R434, R435), TRNG failure (R427), tamper inputs (R439, R461), TESTEN
(R440, R495), and acknowledgement of pinned groups with what then follows (R448, R462).
-/

namespace Sys2Proof.Machine

/-! ### What waits for room in the pinned area (R459 to R462) -/

/-- A COVER record of a latched tamper event, if it can be written or queued now (R312, R439, R461). -/
def State.coverRecord (s : State) (k : Nat) : State :=
  let v := Table.get {} s.chn.tamper k
  let body := [BitVec.ofNat 8 k] ++ leBytes 6 v.firstOpen
  let free := (s.jnl.queue.isEmpty && s.pinReady []) || decide (s.jnl.queue.length < 32)
  if !v.pend || !s.jnl.ready || !free then s
  else
    let s := s.pinEvent 0x25 body []
    ({ s with chn := { s.chn with tamper := Table.set {} s.chn.tamper k { v with pend := false } } }).set
      Fld.SYS_TAMPER_PENDREC k 0

/-- Every COVER record that waits, input 0 first. -/
def State.coverWaiting (s : State) : State := (s.coverRecord 0).coverRecord 1

/-- The key and the LOCK record of an accepted GO with LOCK (R430). -/
def State.lockNow (s : State) : State :=
  let s := { s with chn := { s.chn with lockWait := false } }
  if !s.chn.lockOk then
    let u := s.freeWord.toNat % 256
    let s := s.nextFree.setKeySlot 0 { use := if u = 0x55 then 0xFF else u, key := Config.failedKey s.free }
    s.set Fld.SYS_CHN_PROV_RES_PRES 0 3
  else
    let key := Config.trng s.free
    let pub := leBytes 64 (Config.ecdsaPub key).toNat
    let s := s.nextFree.setKeySlot 0 { use := 0x55, key := BitVec.ofNat 512 key.toNat }
    let s := (List.range 16).foldl (fun s w =>
      s.set Fld.SYS_CHN_DEVPUB_KEY w (leNat ((pub.drop (4 * w)).take 4))) s
    let id := (Config.sha256 pub).toNat
    let s := (s.set Fld.SYS_CHN_DEVID_LO_DEVID 0 id).set Fld.SYS_CHN_DEVID_HI_DEVID 0 (id / 4294967296)
    let s := ({ s with chn := { s.chn with lock := true } }).set Fld.SYS_CHN_STATUS_LOCK 0 1
    let s := s.pinPut 0x30 s.time48 (s.devid ++ [BitVec.ofNat 8 (s.get Fld.SYS_CHN_SIGSLOT_SLOT 0)]) []
    s.set Fld.SYS_CHN_PROV_RES_PRES 0 1

/-- A waiting LOCK goes on once nothing is FULL, random output runs and its record fits (R427, R460). -/
def State.lockTry (s : State) : State :=
  if s.chn.lockWait && !s.flag Fld.JNL_PIN_STATUS_FULL 0 && !s.flag Fld.SYS_CHN_STATUS_TRNGFAIL 0 && s.jnl.ready then
    if s.pinFits 4 then s.lockNow else s.pinFull
  else s

/-- FULL clears once every waiting group has had room (R459). -/
def State.fullNote (s : State) : State :=
  let waits := !s.jnl.queue.isEmpty || (List.range 2).any (fun k => (Table.get {} s.chn.tamper k).pend)
    || (List.range 4).any (fun p => s.flag Fld.MTR_PORT_STATUS_SEALPEND p)
  if waits && s.canSign then s else s.set Fld.JNL_PIN_STATUS_FULL 0 0

/-- Slots have come free, or Chancel can sign at last: what waits is written in the order of R462. -/
def State.pinsFreed (s : State) : State :=
  let s := (((s.drainQueue 33).coverWaiting).sealWaiting).fullNote
  let s := s.lockTry
  ((((s.drainQueue 33).coverWaiting).sealWaiting).fullNote).openPass

/-- A SEQ is at or before another, by the signed difference modulo 2^32 (Table 26.4). -/
def seqLe (a b : Nat) : Bool := decide ((b + 4294967296 - a) % 4294967296 < 2147483648)

/-- A write of JNL_PIN_ACK (R448): by the SPI host or Chancel. -/
def State.writePinAck (s : State) (a : Acc) (v : Nat) : State :=
  if a.m ≠ .host && a.m ≠ .chancel then s.busErr
  else
    let s := s.pinAckOf (fun g => seqLe g.seq v)
    let gone := s.jnl.archive.filter (fun x => seqLe x.1 v)
    let s := { s with jnl := { s.jnl with
      archive := s.jnl.archive.filter (fun x => !seqLe x.1 v)
      fram := clearSlots s.jnl.fram (gone.flatMap Prod.snd) } }
    s.pinsFreed.ok

/-! ### Provisioning (R430) -/

/-- The SPI host makes the access while LOCK is 0 and nothing is being programmed. -/
def State.provOpen (s : State) (a : Acc) : Bool :=
  a.m == .host && !s.chn.lock && !s.chn.provBusy && !s.chn.lockWait

/-- A write of a key register. -/
def State.writeProvKey (s : State) (a : Acc) (w v : Nat) : State :=
  if !s.provOpen a then s.busErr
  else
    ({ s with chn := { s.chn with
      provKey := Table.set 0 s.chn.provKey w v
      provMask := setBit s.chn.provMask w
      provDirty := true } }).ok

/-- The 64 key bytes as written. -/
def State.provBits (s : State) : BitVec 512 :=
  BitVec.ofNat 512 ((List.range 16).foldl (fun n w => n + Table.get 0 s.chn.provKey w * 2 ^ (32 * w)) 0)

/-- A write of SYS_CHN_PROV_CMD; `ok` says how generating the device key ends, where it starts that. -/
def State.writeProvCmd (s : State) (a : Acc) (v : Nat) (ok : Bool) : State :=
  if !s.provOpen a || bits v 4 4 ≠ 0 || bits v 18 14 ≠ 0 then s.busErr
  else
    let dirty := s.chn.provDirty
    let s := { s with chn := { s.chn with provDirty := false } }
    if !v.testBit 16 then
      ({ s with chn := { s.chn with provSlot := bits v 0 4, provUse := bits v 8 8, provMask := 0 } }).ok
    else
      let s := s.set Fld.SYS_CHN_PROV_RES_PRES 0 0
      if v.testBit 17 then
        let img := (List.range 16).any (fun k => (s.keySlot k).use == 0x0F)
        if !img || dirty || (s.keySlot 0).use ≠ 0 then (s.set Fld.SYS_CHN_PROV_RES_PRES 0 2).ok
        else
          let s := { s with chn := { s.chn with lockWait := true, lockOk := ok } }
          s.pinsFreed.ok
      else
        let k := s.chn.provSlot
        let u := s.chn.provUse
        if k = 0 || (s.keySlot k).use ≠ 0 || (u ≠ 0x0F && u ≠ 0x33 && u ≠ 0x3C) || s.chn.provMask ≠ 65535 then
          (s.set Fld.SYS_CHN_PROV_RES_PRES 0 2).ok
        else ({ s with chn := { s.chn with provBusy := true } }).ok

/-- Programming ends (R430): DONE, or OTPFAIL, after which the slot's contents are free. -/
def State.provDone (s : State) (ok : Bool) : State :=
  if !s.chn.provBusy then s
  else
    let s := { s with chn := { s.chn with provBusy := false } }
    if ok then (s.setKeySlot s.chn.provSlot ⟨s.chn.provUse, s.provBits⟩).set Fld.SYS_CHN_PROV_RES_PRES 0 1
    else
      let u := s.freeWord.toNat % 256
      (s.nextFree.setKeySlot s.chn.provSlot ⟨u, Config.failedKey s.free⟩).set Fld.SYS_CHN_PROV_RES_PRES 0 3

/-! ### Services (R434) -/

def resDone : Nat := 1
def resRefused : Nat := 2
def resFull : Nat := 3

/-- SYS_CHN_RES. -/
def State.chnRes (s : State) (result kind ticket : Nat) : State :=
  ((s.set Fld.SYS_CHN_RES_RESULT 0 result).set Fld.SYS_CHN_RES_KIND 0 kind).set Fld.SYS_CHN_RES_TICKET 0 ticket

/-- A FULL mailbox whose RECEIVER is Chancel; none is taken once a RESTART has been (chapter 25). -/
def State.chnMbx (s : State) (m : Nat) : Bool :=
  s.hasMbx m && s.get Fld.MBX_CFG_RECEIVER m == 2 && s.mbxFull m && !s.pow.restartHold

/-- Raise the floor to the image in use (R431). -/
def State.raiseFloor (s : State) : Nat × State :=
  let q := s.get Fld.VST_IMG_SEQ_SEQ 0
  if q ≤ s.get Fld.SYS_CHN_FLOOR_FLOOR 0 then (resDone, s)
  else if 64 ≤ s.chn.floors.length then (resFull, s)
  else
    let s := { s with chn := { s.chn with floors := q :: s.chn.floors } }
    (resDone, (s.set Fld.SYS_CHN_FLOOR_FLOOR 0 q).set Fld.SYS_CHN_FLOOR_LEFT_LEFT 0 (64 - s.chn.floors.length))

/-- Chancel takes a FLOOR message, or one of no permitted service (R434). -/
def State.serveFloor (s : State) (m : Nat) : State :=
  let kind := s.get Fld.MBX_HDR_KIND m
  let snd := s.get Fld.MBX_HDR_SENDER m
  let tk := s.get Fld.MBX_STATUS_TICKET m
  if !s.chnMbx m || kind = 2 then s
  else
    let s := s.mbxTake m
    if kind = 1 && (snd = 1 || snd = 3) then
      let r := s.raiseFloor
      r.2.chnRes r.1 kind tk
    else s.chnRes resRefused kind tk

/-- Chancel takes a RESTART message (R435): SAFE-HOLD, and the wait for the companions. -/
def State.serveRestart (s : State) (m t : Nat) : State :=
  let kind := s.get Fld.MBX_HDR_KIND m
  let snd := s.get Fld.MBX_HDR_SENDER m
  let tk := s.get Fld.MBX_STATUS_TICKET m
  if !s.chnMbx m || kind ≠ 2 then s
  else
    let s := s.mbxTake m
    if snd = 1 || snd = 3 || snd = 5 then
      let s := { s with pow := { s.pow with restartHold := true, restartTicket := some tk, restartAt := t } }
      s.enterSafeHold
    else s.chnRes resRefused kind tk

/-! ### Health and tamper -/

/-- The TRNG fails its continuous test (R427, R476). -/
def State.trngFail (s : State) : State :=
  (s.set Fld.SYS_CHN_STATUS_TRNGFAIL 0 1).faultF2 blkJLN 0 (causeOf whyTrngFail) []

/-- A port's COVER names a tamper input: 0 input 0, 1 input 1, 2 none, 3 both (Table 17.5). -/
def State.coverNames (s : State) (p k : Nat) : Bool :=
  let c := s.get Fld.MTR_PORT_CFG_COVER p
  s.hasRec 0x0080 p && (c == k || c == 3)

/-- A tamper input is armed: a METER_PORT record names it in COVER (R439). -/
def State.tamperArmed (s : State) (k : Nat) : Bool := s.pow.tampArmed.testBit k

/-- The Undercroft time count. -/
def State.ucrTime (s : State) : Nat := s.get64 Fld.UCR_TIME_LO_COUNT Fld.UCR_TIME_HI_COUNT 0

/-- A change of a tamper event raises source 862 + k while the device is up. -/
def State.tamperRaise (s : State) (k : Nat) : State :=
  if s.pow.st == .off || s.pow.st == .vigil then s else s.raise (862 + k)

/-- The ports that name a tamper input set COVER (R312). -/
def State.coverPorts (s : State) (k : Nat) : State :=
  ((List.range 4).filter (fun p => s.coverNames p k)).foldl
    (fun s p => s.event Fld.MTR_PORT_STATUS_COVER p (736 + 2 * p)) s

/-- A probe is good when TAMPINk reads high at the third tick of the pulse and low 2 ticks after it ends (R439). -/
def probeGood (v : ProbeLevels) : Bool := v.third && !v.after

/-- A seal loop is probed once in 2,048 Undercroft ticks (R439). -/
def State.probeDue (s : State) (k : Nat) : Bool :=
  match (Table.get {} s.chn.tamper k).probeAt with
  | some x => decide (x + 2048 ≤ s.ucrTime)
  | none => true

/-- A probe of a seal loop (R439): two bad ones in a row open an event, two good ones close it. -/
def State.tamperProbe (s : State) (k : Nat) (good : Bool) : State :=
  if !s.pow.under || !s.tamperArmed k || !s.probeDue k then s
  else
    let v := { Table.get {} s.chn.tamper k with probeAt := some s.ucrTime }
    let put (s : State) (v : Tamper) : State :=
      { s with chn := { s.chn with tamper := Table.set {} s.chn.tamper k v } }
    if good then
      let v := { v with bad := 0, good := Nat.min 2 (v.good + 1) }
      if v.isOpen && v.good = 2 then
        ((put s { v with isOpen := false, lastClose := s.ucrTime }).set Fld.SYS_TAMPER_OPEN k 0).tamperRaise k
      else put s v
    else
      let v := { v with good := 0, bad := Nat.min 2 (v.bad + 1) }
      if !v.isOpen && v.bad = 2 then
        let first := if v.pend then v.firstOpen else s.ucrTime
        let v := { v with isOpen := true, firstOpen := first, count := Nat.min 255 (v.count + 1), pend := true }
        let s := (put s v).set Fld.SYS_TAMPER_OPEN k 1
        let s := ((s.set Fld.SYS_TAMPER_COUNT k v.count).set Fld.SYS_TAMPER_PENDREC k 1).tamperRaise k
        if s.pow.st == .off || s.pow.st == .vigil then s else (s.coverPorts k).coverRecord k
      else put s v

/-- TESTEN has been high for 1 µs (R440, R495). -/
def State.testenHigh (s : State) : State :=
  if s.dbg.testen then s
  else
    let s := { s with dbg := { s.dbg with testen := true } }
    let s := (s.set Fld.DBG_STATUS_TESTEN 0 1).set Fld.SYS_CHN_EVAL_TESTEN 0 1
    s.pinEvent 0x32 (leBytes 4 0x92564D21) []

/-- SYS_CHN_EVAL as it reads (R440). -/
def State.evalNow (s : State) : Nat :=
  (if s.flag Fld.SYS_CHN_STATUS_LOCK 0 then 0 else 1) + (if s.flag Fld.SYS_CHN_EVAL_TESTEN 0 then 2 else 0)
    + (if s.flag Fld.SYS_CHN_EVAL_DEVKEY 0 then 4 else 0)
    + (if (List.range 4).any (fun p => s.flag Fld.MTR_PORT_STATUS_SEALPEND p) then 8 else 0)
    + (if s.flag Fld.SYS_CHN_EVAL_EPOCHFULL 0 then 16 else 0)

/-- EPOCH_RAISE (R432): at t6 of a timebase restart the next epoch bit sets, or EXHAUSTED. -/
def State.raiseEpoch (s : State) : State :=
  if s.chn.epoch < 64 then
    let s := { s with chn := { s.chn with epoch := s.chn.epoch + 1 } }
    s.set Fld.SYS_CHN_EPOCH_EPOCH 0 s.chn.epoch
  else
    let s := { s with chn := { s.chn with exhausted := true } }
    (s.set Fld.SYS_CHN_EPOCH_EXHAUSTED 0 1).set Fld.SYS_CHN_EVAL_EPOCHFULL 0 1

/-- A write of SYS_NV_RELEASE (R371, R373): by Chancel. -/
def State.writeNvRelease (s : State) (a : Acc) (v : Nat) : State :=
  if a.m ≠ .chancel || 4 ≤ v then s.busErr
  else
    let want := (if v.testBit 0 && s.lockedOut 0 then 1 else 0) + (if v.testBit 1 && s.lockedOut 1 then 2 else 0)
    ({ s with chn := { s.chn with release := Nat.lor s.chn.release want } }).ok

/-! ### Meanings -/

/-- PROV_LATCH (R430). -/
def execProvLatch (a : Acc) (slot : Fin 16) (use : Byte) (s : State) : Out :=
  .next ((s.touch a.t).writeProvCmd a (slot + 256 * use.toNat) true)

/-- PROV_GO (R430). -/
def execProvGo (a : Acc) (s : State) : Out := .next ((s.touch a.t).writeProvCmd a 65536 true)

/-- PROV_LOCK (R430). -/
def execProvLock (a : Acc) (ok : Bool) (s : State) : Out := .next ((s.touch a.t).writeProvCmd a 196608 ok)

/-- PROV_PROGRAM_DONE (R430). -/
def execProvProgramDone (ok : Bool) (s : State) : Out := .next (s.provDone ok)

/-- FLOOR (R431). -/
def execFloor (t : Nat) (m : Fin 64) (s : State) : Out := .next ((s.touch t).serveFloor m)

/-- RESTART (R435). -/
def execRestart (t : Nat) (m : Fin 64) (s : State) : Out := .next ((s.touch t).serveRestart m t)

/-- PORT_REQ (R317). -/
def execPortReq (t : Nat) (p : Fin 4) (s : State) : Out := .next ((s.touch t).portDecide p)

/-- TRNG_HEALTH_FAIL (R427). -/
def execTrngHealthFail (t : Nat) (s : State) : Out := .next ((s.touch t).trngFail)

/-- TAMPER_PROBE (R439). -/
def execTamperProbe (t : Nat) (k : Fin 2) (levels : ProbeLevels) (s : State) : Out :=
  .next ((s.touch t).tamperProbe k (probeGood levels))

/-- TESTEN_ASSERT (R495). -/
def execTestenAssert (t : Nat) (s : State) : Out := .next ((s.touch t).testenHigh)

/-- SYS_NV_RELEASE (R371). -/
def execSysNvRelease (a : Acc) (v : Word) (s : State) : Out := .next ((s.touch a.t).writeNvRelease a v.toNat)

/-- JNL_PIN_ACK (R448). -/
def execJnlPinAck (a : Acc) (v : Word) (s : State) : Out := .next ((s.touch a.t).writePinAck a v.toNat)

/-- PINNED_AREA_FULL (R459): a group waits that does not fit. -/
def execPinnedAreaFull (t : Nat) (s : State) : Out :=
  let s := s.touch t
  .next (match s.jnl.queue with
    | [] => s
    | q :: _ => if s.canSign && !s.pinFits (q.conts.length + 4) then s.pinFull else s)

end Sys2Proof.Machine
end

