-- ==== Sys2Proof/Machine/JournalFam.lean ====
section
/-!
DEFINITION. Sys2Proof/Machine/JournalFam.lean: the journal's work of t5 (R444, R451 to R453, R470, Table 26.3), what metering
ports resume from and how they seal (R308, R310), the value TB_NOW starts from (R74), and the FRAM mirror (R449).
-/

namespace Sys2Proof.Machine

/-! ### Reading records back (R444, Table 26.1) -/

/-- A slot's 32 bytes are a record: its RCRC holds. -/
def recOk (bs : List Byte) : Bool := bs.length == 32 && leNat (bs.drop 28) == crc32 (bs.take 28)

/-- A source of records: slots and the groups that stand in them, oldest first. -/
structure JSource where
  slots : Table (List Byte)
  grps : List JGrp
  deriving DecidableEq, Repr

def JSource.at0 (j : JSource) (k : Nat) : List Byte := Table.get [] j.slots k

/-- A group is valid: every record of it passes its RCRC. -/
def JSource.ok (j : JSource) (g : JGrp) : Bool := !g.slots.isEmpty && g.slots.all (fun k => recOk (j.at0 k))

/-- The valid groups alone. -/
def JSource.valid (j : JSource) : JSource := { j with grps := j.grps.filter j.ok }

/-- The head of a group, and the fields of it. -/
def JSource.head (j : JSource) (g : JGrp) : List Byte := j.at0 (g.slots.headD 0)
def JSource.fld (j : JSource) (g : JGrp) (off k : Nat) : Nat := leNat (((j.head g).drop off).take k)
def JSource.time (j : JSource) (g : JGrp) : Nat := j.fld g 8 6
def JSource.tkt (j : JSource) (g : JGrp) : Nat := j.fld g 6 2

/-- k bytes of BODY at an offset. -/
def JSource.body (j : JSource) (g : JGrp) (off k : Nat) : Nat := j.fld g (15 + off) k

/-- The data of a group's continuations. -/
def JSource.conts (j : JSource) (g : JGrp) : List Byte :=
  g.slots.tail.flatMap (fun k => ((j.at0 k).drop 6).take 22)

/-- Slots that hold something that is no record: they count in BADREC. -/
def badRecs (slots : Table (List Byte)) : Nat :=
  (slots.filter (fun e => !e.2.all (fun b => b == 0) && !recOk e.2)).length

/-- The source of R451: 1 the retained ring, 2 the mirror, 0 none, and its valid groups. -/
def State.jnlSource (s : State) : Nat × JSource :=
  let ring := (JSource.mk s.jnl.slots s.jnl.grps).valid
  if ring.grps.any (fun g => g.kind == 0x10) then (1, ring)
  else
    let mir := (JSource.mk s.jnl.fram s.jnl.mgrps).valid
    if s.flag Fld.JNL_CFG_MIRROR 0 && mir.grps.any (fun g => g.kind == 0x10) then (2, mir) else (0, ⟨[], []⟩)

/-- BADREC for what was read (R444). -/
def State.countBad (s : State) (src : Nat) : State :=
  let n := badRecs s.jnl.slots + (if src = 1 || !s.flag Fld.JNL_CFG_MIRROR 0 then 0 else badRecs s.jnl.fram)
  if n = 0 then s else (s.bumpBy Fld.JNL_CNT_BADREC 0 n).event Fld.JNL_EVT_BADREC 0 851

/-! ### Operations found open (R451, R453) -/

/-- What the journal tells of an open operation. -/
structure OpRec where
  tkt : Nat
  kind : Nat
  unit : Nat
  param : List Byte
  conts : List Byte
  /-- The latest journaled progress, if any. -/
  prog : Option Nat := none
  replays : Nat := 0
  deriving DecidableEq, Repr

/-- One group more. -/
def opFold (j : JSource) (ops : List OpRec) (g : JGrp) : List OpRec :=
  let tk := j.tkt g
  if g.kind = 1 then
    ops.filter (fun o => o.tkt != tk) ++
      [{ tkt := tk, kind := j.body g 0 1, unit := j.body g 1 2, param := ((j.head g).drop 18).take 10, conts := j.conts g }]
  else if g.kind = 2 then ops.map (fun o => if o.tkt = tk then { o with prog := some (j.body g 3 4) } else o)
  else if g.kind = 3 then ops.filter (fun o => o.tkt != tk)
  else if g.kind = 4 then ops.map (fun o => if o.tkt = tk then { o with replays := o.replays + 1 } else o)
  else ops

/-- The open operations, in the order they opened. -/
def JSource.openOps (j : JSource) : List OpRec := j.grps.foldl (opFold j) []

/-- The generation each index starts from: one above the latest ticket of it (R450, R451). -/
def JSource.gens (j : JSource) : Table Nat :=
  j.grps.foldl (fun tb g =>
    if g.kind ≤ 4 && g.kind ≠ 0 then Table.set 0 tb (j.tkt g % 256) ((j.tkt g / 256 + 1) % 256) else tb) []

/-- ACTION codes (Table 26.2). -/
def acResume : Nat := 0
def acRetransmit : Nat := 1
def acReapply : Nat := 2
def acAbandon : Nat := 3

/-- The action of Table 26.3; an operation replayed twice already is abandoned (R453). -/
def State.replayAction (s : State) (o : OpRec) : Nat :=
  if 2 ≤ o.replays then acAbandon
  else match o.kind with
    | 1 => acReapply
    | 2 => if s.bitOf Fld.JNL_AXRESUME_AXRESUME 0 o.unit then acResume else acAbandon
    | 3 => acResume
    | 5 => acRetransmit
    | 7 => acResume
    | _ => acAbandon

/-- Records of a group up to and including a SEQ. -/
def JGrp.upTo (g : JGrp) (c : Nat) : Nat :=
  ((List.range g.slots.length).filter (fun i => seqLe ((g.seq + i) % 4294967296) c)).length

/-- Carry out an action that acts at t5. -/
def State.replayAct (s : State) (o : OpRec) : State :=
  match o.kind with
  | 2 => s.setAxs o.unit { s.axsOf o.unit with
      resume := some (o.tkt, sgn 32 (o.prog.getD (leNat (o.param.take 4)))) }
  | 3 => s.setAux o.unit { s.auxOf o.unit with resume := some (o.tkt, o.prog.getD (leNat (o.param.take 1))) }
  | 5 => s.jlnRequeue o.unit (leNat (o.param.take 4)) (leNat ((o.param.drop 4).take 2)) (leNat ((o.param.drop 6).take 2))
      o.tkt o.conts
  | 7 =>
    let c := o.prog.getD ((leNat (o.param.take 4) + 4294967295) % 4294967296)
    { s with jnl := { s.jnl with
      pass := some o.tkt, copied := 0, grps := s.jnl.grps.map (fun g => { g with mir := g.upTo c }) } }
  | _ => s

/-- Replay one operation: its ticket is retaken, OP_REPLAY is written, its action follows. -/
def State.replayOp (s : State) (o : OpRec) : State :=
  let i := o.tkt % 256
  let ac := s.replayAction o
  let s := { s with jnl := { s.jnl with ops := Table.set {} s.jnl.ops i ⟨o.kind, o.unit⟩ } }
  let s := ((s.set Fld.JNL_OP_TICKET i o.tkt).set Fld.JNL_OP_OPKIND i o.kind).set Fld.JNL_OP_STATE i 2
  let s := (s.set Fld.JNL_OP_PROG_PROG i (o.prog.getD 0)).set Fld.JNL_OP_PROG_REPLAYS i o.replays
  let flags := fTkt + (if ac = acRetransmit then fDup else 0)
  let s := s.ringPut 4 flags (some o.tkt) s.time48 0 (o.kind == 7)
    ([BitVec.ofNat 8 o.kind] ++ leBytes 2 o.unit ++ [BitVec.ofNat 8 ac, BitVec.ofNat 8 o.replays]) []
  let s : State := { s with jnl := { s.jnl with
    replayed := s.jnl.replayed ++ [⟨o.tkt, o.kind, o.unit, ac, o.replays, o.param, o.prog.getD 0⟩] } }
  if ac = acAbandon then s.closeOp o.tkt ocAbandoned else s.replayAct o

/-! ### The time TB_NOW starts from (R74) and what it is bounded by -/

/-- The latest TIME of a source's valid groups. -/
def JSource.latest (j : JSource) : Option Nat :=
  j.grps.foldl (fun m g => match m with
    | none => some (j.time g)
    | some x => some (Nat.max x (j.time g))) none

/-- The latest TIME in a valid record of the retained ring, or of the mirror where it is on (R74). -/
def State.latestTime (s : State) : Option Nat :=
  let ring := (JSource.mk s.jnl.slots s.jnl.grps).valid
  let mir := if s.flag Fld.JNL_CFG_MIRROR 0 then (JSource.mk s.jnl.fram s.jnl.mgrps).valid else ⟨[], []⟩
  match ring.latest, mir.latest with
  | some a, some b => some (Nat.max a b)
  | a, b => a.or b

def ceilTick (x : Nat) : Nat := (x + 624999) / 625000 * 625000

/-- The first value available in the list of R74, and whether this is a timebase restart. -/
def State.tbStartValue (s : State) (latest : Option Nat) : Nat × Bool :=
  if s.flag Fld.UCR_STATUS_UVALID 0 then ((s.ucrTime + 1) * 625000, false)
  else match latest with
    | some x => (ceilTick (x * 65536) + 625000, false)
    | none => (0, true)

/-! ### Metering ports at t5 (R308, R310) -/

/-- The public key as SYS_CHN_DEVPUB holds it. -/
def State.devPub (s : State) : BitVec 512 :=
  BitVec.ofNat 512 ((List.range 16).foldl (fun n w => n + s.get Fld.SYS_CHN_DEVPUB_KEY w * 2 ^ (32 * w)) 0)

/-- A SIGNED group's signature verifies (R445). -/
def State.signedOk (s : State) (j : JSource) (g : JGrp) : Bool :=
  let n := g.slots.length - 3
  let msg := s.devid ++ (g.slots.take n).flatMap (fun k => (j.at0 k).take 28)
  let sig := (g.slots.drop n).flatMap (fun k => ((j.at0 k).drop 6).take 22)
  Config.ecdsaVerify s.devPub msg (BitVec.ofNat 512 (leNat (sig.take 32) * 2 ^ 256 + leNat ((sig.drop 32).take 32)))

/-- The latest of a list of groups that satisfies a condition. -/
def lastGrp (gs : List JGrp) (p : JGrp → Bool) : Option JGrp := gs.reverse.find? p

/-- The 28 registers of a port take the values of a group's continuations. -/
def State.loadEnergy (s : State) (p : Nat) (j : JSource) (g : JGrp) : State :=
  let d := j.conts g
  let s := (List.range 28).foldl (fun s i =>
    s.set64 Fld.MTR_E_LO_E Fld.MTR_E_HI_E (28 * p + i) (leNat ((d.drop (8 * i)).take 8))) s
  s.setMtr p { s.mtrOf p with intEnd := j.body g 1 6 * 65536 }

/-- A sealing port resumes (R308): from its latest TAIL after a PREP checkpoint of a retained ring, else from its latest
CHECKPOINT, with GAP. -/
def State.portResume (s : State) (p src : Nat) (j : JSource) : State :=
  if !s.flag Fld.MTR_PORT_CFG_SEAL p then s
  else
    let ck := lastGrp j.grps (fun g => g.kind == 0x20 && j.body g 0 1 == p && s.signedOk j g)
    let gap (s : State) (x : Nat) : State :=
      (s.event Fld.MTR_PORT_STATUS_GAP p (736 + 2 * p)).setMtr p { s.mtrOf p with gap := some x }
    match ck with
    | none => gap s 0
    | some c =>
      let after := (j.grps.dropWhile (fun g => g != c)).drop 1
      match lastGrp after (fun g => g.kind == 0x28 && j.body g 0 1 == p) with
      | some g =>
        if src = 1 && j.body c 7 1 = 1 then (s.loadEnergy p j g).mtrCheckpoint p false
        else gap (s.loadEnergy p j c) (j.body c 1 6 + 1)
      | none => gap (s.loadEnergy p j c) (j.body c 1 6 + 1)

/-- The latest pinned SEAL, CHANGE or UNSEAL record of a port in one source, as `sealPort` takes it. -/
def JSource.lastSeal (j : JSource) (p : Nat) : Option (JGrp × (Nat × BitVec 256)) :=
  (lastGrp j.grps (fun g => (g.kind == 0x21 || g.kind == 0x22 || g.kind == 0x23) && j.body g 0 1 == p)).map (fun g =>
    (g, g.kind, BitVec.ofNat 256 (leNat (((j.conts g).drop (if g.kind = 0x22 then 32 else 0)).take 32))))

/-- The same, over the pinned area and the pinned archive: the later of the two by SEQ. -/
def State.lastSeal (s : State) (p : Nat) : Option (Nat × BitVec 256) :=
  let a := (JSource.mk s.jnl.slots s.jnl.grps).valid.lastSeal p
  let b := if s.flag Fld.JNL_CFG_MIRROR 0 then (JSource.mk s.jnl.fram s.jnl.mgrps).valid.lastSeal p else none
  match a, b with
  | some x, some y => some (if seqLe x.1.seq y.1.seq then y.2 else x.2)
  | some x, none => some x.2
  | none, some y => some y.2
  | none, none => none

/-! ### The work of t5 (R451) -/

/-- R470: a retention SRAM that was not retained reads as erased. -/
def State.eraseRing (s : State) : State :=
  if s.pow.retained then s else { s with jnl := { s.jnl with slots := [], grps := [] } }

/-- The mode of the latest completed overlay application, if it carries the SEQ of the image in use (R53); a NOOP applied
nothing (R62). -/
def State.resumedMode (s : State) (j : JSource) : Option Nat :=
  match lastGrp j.grps (fun g => g.kind == 3 && j.body g 0 1 == 1 && j.body g 3 1 == ocComplete &&
      decide (j.body g 4 1 < 128)) with
  | some g => if j.body g 5 4 = s.get Fld.VST_IMG_SEQ_SEQ 0 then some (j.body g 4 1 % 4) else none
  | none => none

/-- The SEQ after the latest record of a source, by the order of Table 26.4. -/
def JSource.nextSeq (j : JSource) : Option Nat :=
  j.grps.foldl (fun m g =>
    let n := (g.seq + g.slots.length) % 4294967296
    match m with
    | none => some n
    | some x => some (if seqLe x n then n else x)) none

/-- The journal's state at the start of its work: next SEQ and ring slot, tickets of a source. -/
def State.jnlOpen (s : State) (src : Nat) (j : JSource) : State :=
  let ringAt := (lastGrp s.jnl.grps (fun g => g.slots.all (fun k => decide (256 ≤ k)))).bind (fun g => g.slots.getLast?)
  let s := { s with jnl := { s.jnl with
    ready := true, queue := [], gen := j.gens, ops := [], pass := none, copied := 0, retry := 0, stopped := false
    replayed := [], grps := s.jnl.grps.filter (JSource.mk s.jnl.slots s.jnl.grps).ok
    ring := match ringAt with
      | some k => ringNext k
      | none => 256
    startTime := s.pow.tbStart / 65536 } }
  (s.set Fld.JNL_SEQ_SEQ 0 (j.nextSeq.getD 0)).set Fld.JNL_STATUS_SOURCE 0 src |>.notePins

/-- Replay, JLN_SEQ, START record (R351, R451, Table 26.7). -/
def State.jnlReplay (s : State) (src : Nat) (j : JSource) : State :=
  let s := (s.jnlOpen src j).countBad src
  let s := s.set Fld.JLN_SEQ_SEQ 0 (match lastGrp j.grps (fun g => g.kind == 0x15) with
    | some g => (j.body g 0 2 + 256) % 65536
    | none => 0)
  let s := j.openOps.foldl State.replayOp s
  let n := s.jnl.replayed.length
  let flags := (if s.flag Fld.SYS_START_RESUMED 0 then 1 else 0) + (if s.flag Fld.SYS_START_TBRESTART 0 then 2 else 0)
  let s := s.noteOpen
  s.jnlWrite 0x10 0 none s.time48 0
    (leBytes 4 (s.get Fld.VST_IMG_SEQ_SEQ 0) ++ [BitVec.ofNat 8 flags, BitVec.ofNat 8 src, BitVec.ofNat 8 s.modeNow,
      BitVec.ofNat 8 n, BitVec.ofNat 8 (s.get Fld.VST_STATUS_SLOT 0)]) []

/-- Ports resume and seal; tamper events latched before t5 are recorded (R308, R310, R439). -/
def State.portsStart (s : State) (src : Nat) (j : JSource) : State :=
  let s := ((List.range 4).filter (fun p => s.hasRec 0x0080 p)).foldl (fun s p => s.sealPort p (s.lastSeal p)) s
  let s := ((List.range 4).filter (fun p => s.hasRec 0x0080 p)).foldl (fun s p => s.portResume p src j) s
  let s := ((List.range 2).filter (fun k => (Table.get {} s.chn.tamper k).pend)).foldl (fun s k => s.coverPorts k) s
  s.coverWaiting

/-! ### The mirror (R449) -/

/-- The next group to copy: pinned ones first, while the archive has room; then the ring in order; TAIL groups never. -/
def State.archFree (s : State) : List Nat :=
  let used := s.jnl.archive.flatMap Prod.snd
  (List.range 4096).filter (fun k => !used.contains k)

def State.mirrorNext (s : State) : Option JGrp :=
  match s.jnl.grps.find? (fun g => g.inPinned && decide (0 < g.unmirrored)
      && (decide (0 < g.mir) || decide (g.slots.length ≤ s.archFree.length))) with
  | some g => some g
  | none => s.jnl.grps.find? (fun g => !g.inPinned && g.kind != 0x28 && decide (0 < g.unmirrored))

def mringNext (p : Nat) : Nat := if p + 1 < 16384 then p + 1 else 4096

/-- k slots of the ring mirror from p on. -/
def mringTake : Nat → Nat → List Nat
  | 0, _ => []
  | k + 1, p => p :: mringTake k (mringNext p)

/-- The pass closes once no group other than the mirror's own waits. -/
def State.closePass (s : State) : State :=
  match s.jnl.pass with
  | none => s
  | some tk =>
    if s.jnl.grps.any (fun g => !g.own && g.kind != 0x28 && decide (0 < g.unmirrored)
        && (!g.inPinned || decide (0 < g.mir) || decide (g.slots.length ≤ s.archFree.length))) then s
    else { (s.closeOp tk ocComplete) with jnl := { (s.closeOp tk ocComplete).jnl with pass := none } }

/-- A group's copy is complete: it joins the groups of the FRAM, and a pinned one is acknowledged (R448). -/
def State.mirrorDone (s : State) (g : JGrp) : State :=
  if g.inPinned then
    let sl := s.jnl.arcNow
    let s := { s with jnl := { s.jnl with
      archive := s.jnl.archive ++ [(g.seq, sl)], arcNow := [], mgrps := s.jnl.mgrps ++ [{ g with slots := sl }] } }
    (s.pinAckOf (fun h => h.seq == g.seq)).pinsFreed
  else s

/-- One record is copied and read back; three mismatches stop the mirror until the next start. -/
def State.mirrorCopy (s : State) (ok : Bool) : State :=
  match s.jnl.pass, s.mirrorNext with
  | some tk, some g =>
    if s.jnl.stopped then s
    else if !ok then
      if s.jnl.retry < 2 then { s with jnl := { s.jnl with retry := s.jnl.retry + 1 } }
      else ({ s with jnl := { s.jnl with stopped := true, retry := 0 } }).event Fld.JNL_EVT_MIRFAIL 0 850
    else
      let bs := Table.get [] s.jnl.slots (g.slots.getD g.mir 0)
      let seq := (g.seq + g.mir) % 4294967296
      let arc := if g.mir = 0 then s.archFree.take g.slots.length else s.jnl.arcNow
      let dst := if g.inPinned then arc.getD g.mir 0 else s.jnl.mring
      let kept := s.jnl.mgrps.filter (fun h => !h.slots.contains dst)
      let g' := { g with mir := g.mir + 1 }
      let whole := g'.mir == g.slots.length
      let ringSl := mringTake g.slots.length ((s.jnl.mring + 12288 - 4096 - g.mir) % 12288 + 4096)
      let s : State := { s with jnl := { s.jnl with
        retry := 0
        copied := s.jnl.copied + 1
        fram := Table.set [] s.jnl.fram dst bs
        arcNow := if g.inPinned then arc else s.jnl.arcNow
        mring := if g.inPinned then s.jnl.mring else mringNext s.jnl.mring
        mgrps := if !g.inPinned && whole then kept ++ [{ g with slots := ringSl, mir := 0 }] else kept
        grps := s.jnl.grps.map (fun h => if h = g then g' else h) } }
      let s := s.set Fld.JNL_MIR_SEQ_SEQ 0 seq
      let s := if s.jnl.copied % 64 = 0 then s.progOp tk seq else s
      (if whole then s.mirrorDone g' else s).closePass
  | _, _ => s.closePass

/-! ### Meanings -/

/-- MIRROR_RECORD_COPY (R449). -/
def execMirrorRecordCopy (t : Nat) (ok : Bool) (s : State) : Out := .next ((s.touch t).mirrorCopy ok)

end Sys2Proof.Machine
end

