-- ==== Sys2Proof/Machine/Power.lean ====
section
/-!
DEFINITION. Sys2Proof/Machine/Power.lean: supplies, device reset, VIGIL and the Undercroft (R20, R23, R463 to R474, R504),
VLD (R464), the power-fail warning (R465) and the reset that ends a RESTART (R435).
-/

namespace Sys2Proof.Machine

/-! ### What a reset or the loss of the main supplies leaves -/

/-- The fields the Undercroft keeps: its registers and the tamper latches. -/
def undercroftFields : List Fld := Reg.allUCR.flatMap Reg.fields

/-- Copy fields of instance i into a state. -/
def State.copyFields (s : State) (src : State) (fs : List Fld) (i : Nat) : State :=
  fs.foldl (fun s f => s.set f i (src.get f i)) s

/-- A COVER record of tamper input k waits in Chancel's queue (R461). -/
def State.coverQueued (s : State) (k : Nat) : Bool :=
  s.jnl.queue.any (fun q => q.kind == 0x25 && q.body.head? == some (BitVec.ofNat 8 k))

/-- The tamper latches as they survive a reset: an event whose COVER record was lost with Chancel's queue is still to be
recorded (R461). -/
def State.tamperKept (s : State) : State :=
  ((List.range 2).filter s.coverQueued).foldl (fun s k =>
    let v : Tamper := Table.get {} s.chn.tamper k
    ({ s with chn := { s.chn with tamper := Table.set {} s.chn.tamper k { v with pend := true } } }).set
      Fld.SYS_TAMPER_PENDREC k 1) s

/-- Everything outside the Undercroft is at its reset value: OTP, the retention SRAM, FRAM, the companions and the test
access port keep theirs. -/
def State.powerDown (s : State) (ring : Bool) : State :=
  let base : State := { State.reset with
    jnl := { slots := s.jnl.slots, fram := s.jnl.fram, grps := s.jnl.grps, ring := s.jnl.ring, mring := s.jnl.mring,
             archive := s.jnl.archive, mgrps := s.jnl.mgrps }
    pow := { st := s.pow.st, held := false, inReset := true, rstn := s.pow.rstn, supplies := s.pow.supplies,
             under := s.pow.under, pwren := s.pow.pwren, pwrlow := s.pow.pwrlow, wakeLatch := s.pow.wakeLatch,
             pwrenAt := s.pow.pwrenAt, retained := ring, armedBefore := s.pow.armedBefore, retain := s.pow.retain,
             tampArmed := s.pow.tampArmed, uwake := s.pow.uwake, alarm := s.pow.alarm }
    chn := { slots := s.chn.slots, floors := s.chn.floors, epoch := s.chn.epoch, exhausted := s.chn.exhausted,
             lock := s.chn.lock, tamper := s.chn.tamper }
    comp := s.comp
    dbg := { ir := s.dbg.ir, resp := s.dbg.resp }
    free := s.free
    pending := s.pending }
  let base := base.copyFields s undercroftFields 0
  (base.copyFields s [Fld.SYS_TAMPER_OPEN, Fld.SYS_TAMPER_PENDREC, Fld.SYS_TAMPER_COUNT] 0).copyFields s
    [Fld.SYS_TAMPER_OPEN, Fld.SYS_TAMPER_PENDREC, Fld.SYS_TAMPER_COUNT] 1

/-- A source of the Undercroft is raised while the interrupt controller is powered; its event bit stays latched. -/
def State.ucrEvent (s : State) (f : Fld) (src : Nat) : State :=
  let s := s.set f 0 1
  if s.powered then s.raise src else s

/-! ### The Undercroft (R467 to R469) -/

/-- Every field of the Undercroft and the tamper latches at reset. -/
def State.clearUnder (s : State) : State :=
  let s := undercroftFields.foldl (fun s f => s.set f 0 f.reset) s
  let s := { s with chn := { s.chn with tamper := [] }, pow := { s.pow with alarm := 0 } }
  (List.range 2).foldl (fun s k =>
    ((s.set Fld.SYS_TAMPER_OPEN k 0).set Fld.SYS_TAMPER_PENDREC k 0).set Fld.SYS_TAMPER_COUNT k 0) s

/-- The Undercroft starts from dead: time count 0, UVALID 0 (R467). -/
def State.underStart (s : State) : State :=
  if s.pow.under then s
  else
    let s := s.clearUnder
    { s with pow := { s.pow with under := true, retained := false, pwren := .low, pwrlow := true, wakeLatch := 0 } }

/-- The harvester mode that a VHARV in millivolts gives, from the present one (R468): 0 OFF, 1 COLD, 2 BOOST. -/
def harvMode (now mv : Nat) : Nat :=
  if mv < 280 then 0
  else if now = 2 then (if mv < 450 then 1 else 2)
  else if 500 < mv then 2
  else if now = 1 then 1
  else if 300 ≤ mv then 1 else 0

def State.harvester (s : State) (mv : Nat) : State :=
  let now := s.get Fld.UCR_STATUS_HARV 0
  let s := if s.pow.st == .run then s.set Fld.UCR_MEAS_VHARV 0 (Nat.min 1023 (mv / 10)) else s
  if harvMode now mv = now then s
  else (s.set Fld.UCR_STATUS_HARV 0 (harvMode now mv)).ucrEvent Fld.UCR_EVT_HARVCHG 856

/-- The time count increments (R469): at a multiple of 625,000 FTU while TB_NOW counts, else at a tick of the crystal. -/
def State.ucrTick (s : State) (t : Nat) : State :=
  if s.pow.under && (!s.tbRun || t % 625000 == 0) then s.set64 Fld.UCR_TIME_LO_COUNT Fld.UCR_TIME_HI_COUNT 0 (s.ucrTime + 1) else s

/-! ### VIGIL (R23, R75, R466, R470, R471) -/

/-- The time count on entry to VIGIL: ceil(TB_NOW / 625,000), unless it already holds a larger value (R75). -/
def State.setCount (s : State) : State :=
  if !s.tbRun || !s.pow.under then s
  else s.set64 Fld.UCR_TIME_LO_COUNT Fld.UCR_TIME_HI_COUNT 0 (Nat.max s.ucrTime ((s.tb + 624999) / 625000))

/-- The last group the journal wrote is torn: its last record fails its RCRC. -/
def State.tearLast (s : State) : State :=
  match s.jnl.grps.getLast? with
  | none => s
  | some g => match g.slots.getLast? with
    | none => s
    | some k =>
      let bs := Table.get [] s.jnl.slots k
      { s with jnl := { s.jnl with slots := Table.set [] s.jnl.slots k (bs.take 28 ++ (bs.drop 28).map (fun b => ~~~ b)) } }

/-- A main supply is out of range (R466): the count is set, PWREN goes low and the device is in VIGIL. -/
def State.enterVigil (s : State) (torn : Bool) : State :=
  let s := { s with pow := { s.pow with supplies := false } }
  if s.pow.st == .off || s.pow.st == .vigil then s
  else
    let s := if torn then s.tearLast else s
    let s := s.setCount
    let ring := (if s.img.loaded then true else s.pow.retained) && s.pow.retain
    let s := (s.set Fld.UCR_STATUS_WAKESRC 0 0).set Fld.UCR_STATUS_UWAKEN 0 0
    let s := s.tamperKept.powerDown ring
    { s with
      pow := { s.pow with st := .vigil, pwren := .low, pwrlow := true, pwrenAt := s.ucrTime, wakeLatch := 0 }
      dbg := {} }

/-- The Undercroft dies (R467): OFF. -/
def State.underDeath (s : State) : State :=
  if s.pow.st != .vigil then s
  else
    let s := s.clearUnder
    { s with pow := { s.pow with st := .off, under := false, retained := false, pwren := .z, pwrlow := false,
                                 wakeLatch := 0 } }

/-! ### Wake (R471) -/

def wakeBit : WakeCause → Nat
  | .alarm => 0
  | .uwake .. => 1
  | .tamper => 2

/-- A wake comparator in VIGIL (R226): MICRO, its pin against VDAC from the 1.8 V reference, with HYST and INV of R221; the
output is 1 outside the hysteresis. DEDUCED (log entry 44): that a level of 1 is what acts, that HYST and INV apply. -/
def WakeCmp.out (w : WakeCmp) (uv : Nat) : Bool :=
  let half := hystHalf w.hyst * 1024
  if w.inv then decide (uv * 1024 + half < w.vdac * 1800000) else decide (w.vdac * 1800000 + half < uv * 1024)

/-- A cause can wake the device: as its record or register says. -/
def State.wakeOn (s : State) (c : WakeCause) : Bool :=
  match c with
  | .uwake k uv => s.pow.uwake.any (fun w => w.k == k.val && w.out uv)
  | .alarm => s.flag Fld.UCR_CFG_ALARMWAKE 0 && s.pow.alarm != 0 && s.ucrTime == s.pow.alarm
  | .tamper => s.flag Fld.UCR_CFG_TAMPWAKE 0 && (List.range 2).any (fun k => (Table.get {} s.chn.tamper k).isOpen)

/-- A wake event in VIGIL: it drives PWREN high, or is latched while PWRLOW runs. -/
def State.wake (s : State) (c : WakeCause) : State :=
  if s.pow.st != .vigil || !s.wakeOn c then s
  else
    let s := s.setBitOf Fld.UCR_STATUS_WAKESRC 0 (wakeBit c) true
    let s := match c with
      | .uwake k _ => s.setBitOf Fld.UCR_STATUS_UWAKEN 0 k true
      | _ => s
    if s.pow.pwrlow then { s with pow := { s.pow with wakeLatch := setBit s.pow.wakeLatch (wakeBit c) } }
    else if s.pow.pwren == .high then s
    else { s with pow := { s.pow with pwren := .high, pwrenAt := s.ucrTime } }

/-- PWRLOW ms have passed since PWREN went low, by the time count of 32,768 Hz (R471). -/
def State.pwrlowOver (s : State) : Bool :=
  decide (s.get Fld.UCR_PWRLOW_PWRLOW 0 * 32768 ≤ (s.ucrTime - s.pow.pwrenAt) * 1000)

/-- The PWRLOW time ends: an event latched during it acts. -/
def State.pwrlowEnd (s : State) : State :=
  if s.pow.st != .vigil || !s.pow.pwrlow || !s.pwrlowOver then s
  else if s.pow.wakeLatch = 0 then { s with pow := { s.pow with pwrlow := false } }
  else { s with pow := { s.pow with pwrlow := false, wakeLatch := 0, pwren := .high, pwrenAt := s.ucrTime } }

/-- WAKETMO, in 0.1 s, has passed since PWREN went high (R471, Table 28.4). -/
def State.waketmoOver (s : State) : Bool :=
  decide (s.get Fld.UCR_CFG_WAKETMO 0 * 32768 ≤ (s.ucrTime - s.pow.pwrenAt) * 10)

/-- The supplies have not come into range within WAKETMO. -/
def State.wakeTimeout (s : State) : State :=
  if s.pow.st != .vigil || s.pow.pwren != .high || !s.waketmoOver then s
  else
    let s := { s with pow := { s.pow with pwren := .low } }
    (s.bump Fld.UCR_CNT_WAKEFAIL 0).ucrEvent Fld.UCR_EVT_WAKEFAIL 857

/-! ### Reset and START t0 (R47, R463, R504) -/

/-- Device reset is released with all main supplies valid: START begins (R20). -/
def State.startBegin (s : State) : State :=
  if !s.pow.inReset then s
  else
    let fromVigil := s.pow.st == .vigil
    let s := s.underStart
    let s := if fromVigil && s.pow.pwren != .high then s.setBitOf Fld.UCR_STATUS_WAKESRC 0 3 true else s
    let s := s.set Fld.UCR_STATUS_PREPDONE 0 0
    { s with pow := { s.pow with
      st := .start, held := false, inReset := false, rstn := true, supplies := true, pwren := .high, pwrlow := false
      wakeLatch := 0, woke := fromVigil && s.get Fld.UCR_STATUS_WAKESRC 0 % 8 != 0
      uvalidAtStart := s.flag Fld.UCR_STATUS_UVALID 0 } }

/-- RSTN is low for 1 µs (R504): the retention SRAM stays powered, the Undercroft is unaffected. -/
def State.deviceReset (s : State) : State :=
  let s := { s with pow := { s.pow with rstn := false } }
  if s.pow.st == .off || s.pow.st == .vigil || s.pow.inReset then s
  else
    let ring := if s.img.loaded then true else s.pow.retained
    let s := s.tamperKept.powerDown ring
    { s with pow := { s.pow with st := .start } }

/-! ### The power-fail warning (R465) and VLD (R464) -/

/-- Chancel requests SAFE-HOLD and prepares for VIGIL. -/
def State.prepare (s : State) : State :=
  let s := s.ucrEvent Fld.UCR_EVT_PFAIL 852
  let s := { s with pow := { s.pow with pfailHold := true } }
  let s := s.enterSafeHold
  let s := if s.hasRec 0x0090 0 then s.journalSeq else s
  (s.checkpointAll true).set Fld.UCR_STATUS_PREPDONE 0 1

def State.pfailAssert (s : State) : State :=
  let s := s.set Fld.UCR_STATUS_PFAIL 0 1
  if (s.pow.st == .run || s.pow.st == .safeHold) && !s.pow.pfailHold then s.prepare else s

/-- PFAILN has stayed high for 100 ms with the main supplies in range. -/
def State.pfailRelease (s : State) : State :=
  let s := (s.set Fld.UCR_STATUS_PFAIL 0 0).set Fld.UCR_STATUS_PREPDONE 0 0
  ({ s with pow := { s.pow with pfailHold := false } }).leaveSafeHold

/-- VLD falls: what is on the line stops, and a frame of a queue goes back to it (R464). -/
def State.vldFall (s : State) : State :=
  let s := (s.set Fld.UCR_STATUS_VLDLOW 0 1).ucrEvent Fld.UCR_EVT_VLDLOW 857
  match s.jln.line with
  | none => s
  | some l =>
    if s.phy = phAborting then s.jlnOff s.tb
    else
      let s := (s.jlnSet (fun j => { j with line := none })).phyGo phSearch
      match l.item with
      | .frame f => (s.txState f txQueued).jlnSet (fun j => { j with queue := f :: j.queue })
      | _ => s

/-- VLD is in range again: queued frames contend. -/
def State.vldRise (s : State) (t : Nat) : State := (s.set Fld.UCR_STATUS_VLDLOW 0 0).contend t

/-- VBAK is measured in RUN, and below VBAKWARN sets VBAKLOW (R473, Table 28.4). -/
def State.vbakLow (s : State) (vbak : Nat) : State :=
  if s.pow.st != .run then s
  else
  let s := s.set Fld.UCR_MEAS_VBAK 0 vbak
  if vbak < 10 * s.get Fld.UCR_CFG_VBAKWARN 0 then
    (s.set Fld.UCR_STATUS_VBAKLOW 0 1).ucrEvent Fld.UCR_EVT_VBAKLOW 855
  else s.set Fld.UCR_STATUS_VBAKLOW 0 0

/-! ### RESTART (R308, R435) -/

/-- Every admitted companion reports SAFE. -/
def State.allSafe (s : State) : Bool := (List.range 256).all (fun n => !s.admitted n || s.legState n == 3)

/-- Chancel checkpoints, journals RESTART, writes DONE and resets the device, which starts again. -/
def State.restartReset (s : State) (t : Nat) : State :=
  match s.pow.restartTicket with
  | none => s
  | some tk =>
    if !s.pow.restartHold || !(s.allSafe || decide (s.pow.restartAt + 10 * ftuMs ≤ t)) then s
    else
      let s := (s.checkpointAll true).jnlWrite 0x12 0 none s.time48 0 [] []
      ((s.chnRes resDone 2 tk).deviceReset).startBegin

/-! ### Meanings -/

/-- UNDERCROFT_START (R467). -/
def execUndercroftStart (s : State) : Out :=
  .next (if s.pow.st == .off then { s.underStart with pow := { s.underStart.pow with st := .vigil } } else s)

/-- UNDERCROFT_DEATH (R467). -/
def execUndercroftDeath (s : State) : Out := .next s.underDeath

/-- HARVESTER_MODE_CHANGE (R468). -/
def execHarvesterModeChange (mv t : Nat) (s : State) : Out := .next ((s.touch t).harvester mv)

/-- DEVICE_RESET_RELEASE (R47, R463). -/
def execDeviceResetRelease (s : State) : Out := .next s.startBegin

/-- DEVICE_RESET (R504). -/
def execDeviceReset (s : State) : Out := .next s.deviceReset

/-- MAIN_SUPPLY_OUT_OF_RANGE (R466). -/
def execMainSupplyOutOfRange (t : Nat) (torn : Bool) (s : State) : Out := .next ((s.touch t).enterVigil torn)

/-- VLD_LOW (R464). -/
def execVldLow (t : Nat) (s : State) : Out := .next ((s.touch t).vldFall)

/-- VLD_IN_RANGE (R464). -/
def execVldInRange (t : Nat) (s : State) : Out := .next ((s.touch t).vldRise t)

/-- PFAILN_ASSERT (R465). -/
def execPfailnAssert (t : Nat) (s : State) : Out := .next ((s.touch t).pfailAssert)

/-- PFAILN_RELEASE (R465). -/
def execPfailnRelease (t : Nat) (s : State) : Out := .next ((s.touch t).pfailRelease)

/-- VBAKLOW (R473). -/
def execVbaklow (t : Nat) (vbak : Fin 1024) (s : State) : Out := .next ((s.touch t).vbakLow vbak)

/-- UCR_TIME_TICK (R469). -/
def execUcrTimeTick (t : Nat) (s : State) : Out := .next ((s.touch t).ucrTick t)

/-- VIGIL_WAKE_EVENT (R471). -/
def execVigilWakeEvent (cause : WakeCause) (s : State) : Out := .next (s.wake cause)

/-- PWRLOW_END (R471). -/
def execPwrlowEnd (s : State) : Out := .next s.pwrlowEnd

/-- WAKE_TIMEOUT (R471). -/
def execWakeTimeout (s : State) : Out := .next s.wakeTimeout

/-- RESTART_RESET (R435). -/
def execRestartReset (t : Nat) (s : State) : Out := .next ((s.touch t).restartReset t)

end Sys2Proof.Machine
end

