-- ==== Sys2Proof/Machine/Load.lean ====
section
/-!
DEFINITION. Sys2Proof/Machine/Load.lean: what a record writes to the registers of its block when it comes into force (R48,
R57): the VALUE's words in their register layout, and what the loader derives from several records (owners, leg map, brake
roles, claimed comparators, interrupt routes).
-/

namespace Sys2Proof.Machine

/-- Registers of instance i take words of a VALUE. -/
def State.loadWords (s : State) (r : Rec) (i : Nat) (ws : List (Nat × Reg)) : State :=
  ws.foldl (fun s p => s.setReg p.2 i (r.w p.1)) s

/-- The words of the types whose VALUE is register words of the record's own instance. -/
def recWords : Nat → List (Nat × Reg)
  | 0x11 => [(0, .EDG_CNV_CFG), (4, .EDG_CNV_LEAD), (8, .EDG_CNV_PROT), (0xC, .EDG_CNV_OFFSET), (0x10, .EDG_CNV_PERIOD_SH)]
  | 0x20 => [(0, .CLK_CFG), (4, .CLK_LOCK_CFG)]
  | 0x21 => [(0, .TB_REF_RANK), (4, .TB_REF_CFG)]
  | 0x30 => [(0, .ANG_CFG)]
  | 0x31 => [(0, .TWL_SLOT_CFG), (4, .TWL_SLOT_ACT), (8, .TWL_SLOT_TGT_LO), (0xC, .TWL_SLOT_TGT_HI),
             (0x10, .TWL_SLOT_STEP_LO), (0x14, .TWL_SLOT_STEP_HI)]
  | 0x40 => [(0, .EDG_LOC_CFG), (4, .EDG_LOC_PROT), (8, .EDG_LOC_OFFSET), (0xC, .EDG_LOC_PERIOD_SH)]
  | 0x41 => [(0, .EDG_TRIP_CFG)]
  | 0x60 => [(0, .ADC_CORE_CFG), (4, .ADC_CORE_OFS), (8, .ADC_CORE_GAIN), (0xC, .ADC_DMA_BASE)]
  | 0x61 => [(0, .ADC_IN_OFS), (4, .ADC_IN_GAIN)]
  | 0x63 => [(0, .CMP_CFG), (0xC, .CMP_RAMP)]
  | 0x70 => [(0, .GRD_CFG), (4, .GRD_RATED), (8, .GRD_IMAX), (0xC, .GRD_VBAND), (0x10, .GRD_FBAND), (0x14, .GRD_RIDE),
             (0x18, .GRD_RATES), (0x1C, .GRD_ROCOF), (0x20, .GRD_VSN), (0x24, .GRD_NPER), (0x28, .GRD_PED),
             (0x2C, .GRD_RECON)]
  | 0x72 => [(0, .MPPT_CFG), (4, .MPPT_VLIM), (8, .MPPT_SLIM), (0xC, .MPPT_TIM), (0x10, .MPPT_PDEAD), (0x14, .MPPT_DROP)]
  | 0x73 => [(0, .AXS_CFG), (4, .AXS_RATE), (8, .AXS_JERK), (0xC, .AXS_ZDWELL), (0x10, .AXS_LIM_LO), (0x14, .AXS_LIM_HI),
             (0x18, .AXS_LIMFLAGS), (0x1C, .AXS_VMAX), (0x20, .AXS_STOPRATE), (0x24, .AXS_STOPJERK)]
  | 0x74 => [(0, .AUX_CFG), (4, .AUX_PERIOD), (8, .AUX_TGT), (0xC, .AUX_SS), (0x10, .AUX_LIM), (0x14, .AUX_B01),
             (0x18, .AUX_B2)]
  | 0x75 => [(0, .FAN_CFG), (4, .FAN_MIN), (8, .FAN_I), (0xC, .FAN_NTC01), (0x10, .FAN_NTC23)]
  | 0x76 => [(0, .LOOP_CFG), (4, .LOOP_INIT), (8, .LOOP_GAIN)]
  | 0x80 => [(0, .MTR_PORT_CFG), (4, .MTR_VFS), (8, .MTR_IFS), (0xC, .MTR_THR), (0x48, .MTR_INDIFF)]
  | 0x81 => [(0, .MTR_PLS_CFG), (4, .MTR_PLS_EPP), (8, .MTR_PLS_C), (0xC, .MTR_PLS_WIDTH)]
  | 0xB1 => [(0, .UCR_CFG), (4, .UCR_PWRLOW)]
  | _ => []

/-- A leg-sense channel (Table 11.6). -/
def State.loadLsn (s : State) (r : Rec) (c qty ofs : Nat) (on : Bool) : State :=
  if !on then s
  else
    let latch := r.lsFlag 3 && r.h 8 != 0xFFFF
    let s := ((s.set Fld.LSN_CFG_EN c 1).set Fld.LSN_CFG_QTY c qty).set Fld.LSN_CFG_GROUP c (r.b 0xA % 32)
    let s := (s.setFlag Fld.LSN_CFG_LATCH c latch).set Fld.LSN_CFG_LEG c r.inst
    let s := s.set Fld.LSN_LATCHSLOT_SLOT c (if latch then r.h 8 else 0)
    (s.setReg .LSN_OFS c (r.w ofs)).setReg .LSN_GAIN c (r.w (ofs + 4))

/-- JNL_CFG's MIRROR stands in byte 1 of the JOURNAL VALUE. -/
def State.loadJournal (s : State) (r : Rec) : State :=
  ((s.set Fld.JNL_CFG_RETAIN 0 (r.b 0)).set Fld.JNL_CFG_MIRROR 0 (r.b 1)).set Fld.JNL_AXRESUME_AXRESUME 0 (r.w 4)

/-- The words and what stands beside them. -/
def State.loadRec (s : State) (r : Rec) : State :=
  let i := r.inst
  let s := s.loadWords r i (recWords r.typ)
  match r.typ with
  | 0x50 => s.set Fld.SEL_BUS_CFG_STARVE_HOLD i (r.h 0)
  | 0x51 =>
    let s := s.set Fld.BTR_DRIVE_CFG_MODE i (bits (r.w 0) 0 1)
    let s := (s.set Fld.BTR_DRIVE_CFG_CPEN i (bits (r.w 0) 1 1)).set Fld.BTR_DRIVE_CFG_DT i (bits (r.w 0) 16 12)
    let s := (s.setReg .BTR_ADAPT_CFG i (r.w 4)).setReg .BTR_ADAPT_IMIN i (r.w 8)
    (s.setReg .BTR_PROT_CFG0 i (r.w 0x10)).setReg .BTR_PROT_CFG1 i (r.w 0x14)
  | 0x60 =>
    let s := (s.set Fld.ADC_DMA_SIZE_LOG2 i (r.b 0x10)).set Fld.ADC_SEQ_LEN_LEN i (r.b 0x11)
    (List.range 16).foldl (fun s e => s.setReg .ADC_SEQ_E (16 * i + e) (r.w (0x14 + 4 * e))) s
  | 0x62 =>
    let s := s.loadLsn r i 0 0 (r.lsFlag 0)
    (s.loadLsn r (r.h 0xC) 1 0x10 (r.lsFlag 1)).loadLsn r (r.h 0xE) 2 0x18 (r.lsFlag 2)
  | 0x63 =>
    let s := (s.set Fld.CMP_ROUTE_IRQEDGE i (bits (r.w 4) 0 2)).set Fld.CMP_ROUTE_CAPEDGE i (bits (r.w 4) 2 2)
    ((s.set Fld.CMP_ROUTE_WAKE i (bits (r.w 4) 4 1)).set Fld.CMP_DAC_DAC i (r.h 8)).set Fld.CMP_VIGIL_VDAC i (r.h 0xA)
  | 0x71 => (List.range 17).foldl (fun s w => s.set Fld.RIDE_W_WORD (17 * i + w) (r.w (4 * w))) s
  | 0x75 => (List.range 4).foldl (fun s p => s.setReg .FAN_PT (4 * i + p) (r.w (0x14 + 4 * p))) s
  | 0x80 => (List.range 7).foldl (fun s c =>
      (s.setReg .MTR_CHGAIN (7 * i + c) (r.w (0x10 + 8 * c))).setReg .MTR_CHPHASE (7 * i + c) (r.w (0x14 + 8 * c))) s
  | 0x90 =>
    let s := (List.range 8).foldl (fun s w => s.set Fld.JLN_W_WORD w (r.w (4 * w))) s
    (s.set Fld.JLN_PHY_CFG_TXATT 0 (r.b 0)).set Fld.JLN_PHY_CFG_CAPDB 0 (r.b 1)
  | 0xA0 =>
    let s := (s.set Fld.IRQ_ROUTE_ROUTE (2 * i) (r.w 0)).set Fld.IRQ_ROUTE_ROUTE (2 * i + 1) (r.w 4)
    let s := (s.set Fld.IRQ_EN_EN i (r.w 8)).set Fld.IRQ_GRP_CFG_HOLDOFF i (r.h 0xC)
    if i ≠ 27 then s
    else (List.range 32).foldl (fun s p =>
      let f := r.b (0x11 + 2 * p)
      let s := (s.set Fld.IRQ_PIN_CFG_FILT p (r.b (0x10 + 2 * p))).set Fld.IRQ_PIN_CFG_SENSE p (bits f 0 3)
      s.set Fld.IRQ_PIN_CFG_FCLK p (bits f 4 1)) s
  | 0xA1 =>
    let s := s.set Fld.MBX_CFG_RECEIVER i (r.b 0)
    if r.h 2 = 0xFFFF then (s.set Fld.MBX_CFG_NOTIFY i 0).set Fld.MBX_CFG_NOTEN i 0
    else (s.set Fld.MBX_CFG_NOTIFY i (r.h 2)).set Fld.MBX_CFG_NOTEN i 1
  | 0xB0 => s.loadJournal r
  | 0xC0 => (s.set Fld.FLT_DEV_AUTOREL 0 (r.b 0)).set Fld.FLT_DEV_STALEPER 0 (r.b 1)
  | _ => s

/-! ### What several records give together -/

/-- Owner bits of OWNERSHIP (R11, Table 7.7), MODE_MAP bitmaps (R58). -/
def State.loadOwners (s : State) (cfg : Cfg) : State :=
  let own (off k : Nat) : Nat := match cfg.find 0x12 0 with
    | some r => r.fld off k
    | none => 0
  let map (off k : Nat) : List Nat := match cfg.find 0x13 0 with
    | some r => [0, 1, 2, 3].map (fun m => r.fld (0x34 * m + off) k)
    | none => []
  let s := { s with mode := { s.mode with
    ownCnv := own 0 32, ownLoc := own 0x20 4, ownFn := own 0x24 16
    mapCnv := map 0 32, mapLoc := map 0x20 4, mapFn := map 0x24 16 } }
  let s := (cfg.of 0x11).foldl (fun s r => s.set Fld.EDG_CNV_CFG_OWNER r.inst (cfg.cnvOwner r.inst)) s
  (cfg.of 0x40).foldl (fun s r => s.set Fld.EDG_LOC_CFG_OWNER r.inst (cfg.locOwner r.inst)) s

/-- EDG_LEG_MAP, and the safe-state code each companion takes from its converter (R175). -/
def State.loadLegs (s : State) (cfg : Cfg) : State :=
  (cfg.of 0x11).foldl (fun s r => r.cnvLegs.foldl (fun s n =>
    ((s.set Fld.EDG_LEG_MAP_CONV n r.inst).set Fld.EDG_LEG_MAP_MEMBER n 1).set Fld.BTR_DRIVE_CFG_SAFE n
      (bits (r.w 0) 2 2)) s) s

/-- What BRAKE records give (Table 10.6): the BRAKE role's words in the companion's mirror, the BRK pin and the comparator
it claims (R193, R225). -/
def State.loadBrakes (s : State) (cfg : Cfg) : State :=
  (cfg.of 0x52).foldl (fun s r =>
    let n := 16 * r.inst + r.b 0xC
    let s := if r.b 0xC = 0xFF then s
      else
        let s := (s.set Fld.BTR_DRIVE_CFG_BRAKE n 1).set Fld.BTR_BRAKE_CFG0_PON n (r.h 8)
        let s := (s.set Fld.BTR_BRAKE_CFG0_POFF n (r.h 0xA)).set Fld.BTR_BRAKE_CFG1_RON n (r.h 0)
        (s.set Fld.BTR_BRAKE_CFG1_ROFF n (r.h 2)).set Fld.BTR_BRAKE_CFG1_REN n (r.b 4)
    if r.b 0xD = 0xFF then s
    else
      let k := r.b 0xD
      let s := (s.set Fld.EDG_BRK_CFG_GROUP k r.inst).set Fld.EDG_BRK_CFG_CMP k (r.b 0xF)
      (s.set Fld.EDG_BRK_CFG_EN k 1).set Fld.CMP_ROUTE_USER (r.b 0xF) 1) s

/-- Comparators that AUX_REG records claim (R225). -/
def State.loadClaims (s : State) (cfg : Cfg) : State :=
  (cfg.of 0x74).foldl (fun s r => s.set Fld.CMP_ROUTE_USER (bits (r.w 0) 8 5) 2) s

/-- The buses and drops LEG_MAP names (R15). -/
def State.loadLegMap (s : State) (cfg : Cfg) : State :=
  let s := (List.range 16).foldl (fun s b => s.setFlag Fld.SEL_BUS_CFG_EN b (cfg.busNamed b)) s
  (List.range 256).foldl (fun s n => s.setFlag Fld.SEL_DROP_STATE_LISTED n (cfg.legListed n)) s

/-- A group without an IRQ_GROUP record routes nothing (R402). -/
def State.loadRoutes (s : State) (cfg : Cfg) : State :=
  ((List.range 32).filter (fun g => !cfg.has 0xA0 g)).foldl (fun s g =>
    (s.set Fld.IRQ_ROUTE_ROUTE (2 * g) 4294967295).set Fld.IRQ_ROUTE_ROUTE (2 * g + 1) 4294967295) s

/-- The slots' targets and steps in force (R111). -/
def State.loadSlot (s : State) (n : Nat) : State :=
  s.setSlot n { tgt := s.get64 Fld.TWL_SLOT_TGT_LO_TARGET Fld.TWL_SLOT_TGT_HI_TARGET n
                step := s.get64 Fld.TWL_SLOT_STEP_LO_STEP Fld.TWL_SLOT_STEP_HI_STEP n }

/-- The comparators of 0 to 3 with WAKE 1, as the Undercroft runs them in VIGIL (R226). -/
def State.leaveWakes (s : State) : State :=
  let wakes := ([0, 1, 2, 3].filter (fun k => s.flag Fld.CMP_ROUTE_WAKE k)).map (fun k =>
    ({ k := k, vdac := s.get Fld.CMP_VIGIL_VDAC k, hyst := s.get Fld.CMP_CFG_HYST k,
       inv := s.flag Fld.CMP_CFG_INV k } : WakeCmp))
  { s with pow := { s.pow with uwake := wakes } }

/-- What the image leaves with the Undercroft (R226, R439, R470). -/
def State.leaveUnder (s : State) (cfg : Cfg) : State :=
  let covers (k : Nat) : Bool := (cfg.of 0x80).any (fun r => bits (r.w 0) 4 2 == k || bits (r.w 0) 4 2 == 3)
  let armed := (if covers 0 then 1 else 0) + (if covers 1 then 2 else 0)
  let s := s.leaveWakes
  { s with pow := { s.pow with
    armedBefore := s.pow.tampArmed != 0, retain := s.flag Fld.JNL_CFG_RETAIN 0, tampArmed := armed } }

/-- Every record of a configuration reaches its registers (R48). -/
def State.loadAll (s : State) (cfg : Cfg) : State :=
  let s := { s with img := { s.img with live := cfg, loaded := true } }
  let s := List.foldl (fun s r => s.loadRec r) s cfg
  let s := (((s.loadOwners cfg).loadLegs cfg).loadBrakes cfg).loadClaims cfg
  let s := (s.loadLegMap cfg).loadRoutes cfg
  let s := (cfg.of 0x31).foldl (fun s r => s.loadSlot r.inst) s
  s.leaveUnder cfg

end Sys2Proof.Machine
end

