-- ==== Sys2Proof/Machine/Timebase.lean ====
section
/-!
DEFINITION. Sys2Proof/Machine/Timebase.lean: references and discipline (R76 to R80), PLL-T unlock and PLLS_FREQ (R81).
-/

namespace Sys2Proof.Machine

def tbHoldover : Nat := 0
def tbQualify : Nat := 1
def tbSlew : Nat := 2
def tbLocked : Nat := 3

def State.tbState (s : State) : Nat := s.get Fld.TB_STATE_STATE 0

/-- The references by rank, best first, that are enabled (R76). -/
def State.ranked (s : State) : List Nat :=
  ([(Fld.TB_REF_RANK_EN0, Fld.TB_REF_RANK_RANK0), (Fld.TB_REF_RANK_EN1, Fld.TB_REF_RANK_RANK1),
    (Fld.TB_REF_RANK_EN2, Fld.TB_REF_RANK_RANK2), (Fld.TB_REF_RANK_EN3, Fld.TB_REF_RANK_RANK3)].filter
      (fun p => s.flag p.1 0)).map (fun p => s.get p.2 0)

/-- A reference is present and not barred. -/
def State.refUsable (s : State) (r : Nat) : Bool :=
  s.bitOf Fld.TB_STATE_PRESENT 0 r && !s.bitOf Fld.TB_STATE_BARRED 0 r

/-- The selector's target (R76). -/
def State.target (s : State) : Option Nat := s.ranked.find? s.refUsable

/-- A reference ranks above another. -/
def State.ranksAbove (s : State) (a b : Nat) : Bool :=
  match s.ranked.findIdx? (fun r => r == a), s.ranked.findIdx? (fun r => r == b) with
  | some i, some j => decide (i < j)
  | some _, none => true
  | none, _ => false

/-- A phase taken modulo a reference's period into the signed range (R79). Of the two offsets of smallest magnitude at half a
period it takes the negative one: DESIGN CHOICE (log entry 41), R77 names neither. -/
def wrapPhase (p : Nat) (z : Int) : Int :=
  if p = 0 then z else
    let m := z % p
    if 2 * m < p then m else m - p

/-- The period of a reference in FTU, 0 where its phase is exact (Table 4.3). -/
def State.refPeriod (s : State) (r : Nat) : Nat :=
  if r = 1 then (if s.get Fld.TB_REF_CFG_REFIN_FREQ 0 = 0 then 2048 else 800) else if r = 2 then ftuSec else 0

/-- A value that moves towards another by at most `step`. -/
def moveTo (step z goal : Int) : Int := if z < goal then min goal (z + step) else max goal (z - step)

/-- TB_FREQ at a time: a slew moves it by 0.1 ppm/s (R79). -/
def State.freqAt (s : State) (t : Nat) : Int :=
  let f := sgn 32 (s.get Fld.TB_FREQ_OFFSET 0)
  match s.tbs.slewAt with
  | none => f
  | some t0 => moveTo ((t - t0) * 100 / ftuSec : Nat) f s.tbs.freqTo

/-- TB_DEBT at a time: a slew removes 10 ns/s, that is 204.8 FTU/s (R79). -/
def State.debtAt (s : State) (t : Nat) : Int :=
  let d := sgn 64 (s.get64 Fld.TB_DEBT_LO_DEBT Fld.TB_DEBT_HI_DEBT 0)
  match s.tbs.slewAt with
  | none => d
  | some t0 => moveTo ((t - t0) * 1024 / (5 * ftuSec) : Nat) d 0

def State.setDebt (s : State) (d : Int) : State := s.set64 Fld.TB_DEBT_LO_DEBT Fld.TB_DEBT_HI_DEBT 0 (enc 64 d)
def State.setFreq (s : State) (f : Int) : State := s.set Fld.TB_FREQ_OFFSET 0 (enc 32 f)

/-- The slew stops where it stands (Table 4.4). -/
def State.freezeSlew (s : State) (t : Nat) : State :=
  let f := s.freqAt t
  let d := s.debtAt t
  { ((s.setFreq f).setDebt d) with tbs := { ((s.setFreq f).setDebt d).tbs with slewAt := none } }

/-- A change of the discipline's state raises source 35. -/
def State.tbGo (s : State) (st : Nat) : State :=
  if s.tbState = st then s else (s.set Fld.TB_STATE_STATE 0 st).raise 35

/-- QUALIFY on a reference. -/
def State.qualify (s : State) (r : Nat) : State :=
  ((s.set Fld.TB_STATE_CAND 0 r).set Fld.TB_STATE_QBUSY 0 1).tbGo tbQualify

/-- HOLDOVER, and QUALIFY at once where a target exists (Table 4.4). -/
def State.holdover (s : State) : State :=
  let s := (s.tbGo tbHoldover).set Fld.TB_STATE_QBUSY 0 0
  match s.target with
  | none => s
  | some r => s.qualify r

/-- A reference has become usable (R78). -/
def State.refUsableNow (s : State) (t : Nat) : State :=
  match s.target with
  | none => s
  | some r =>
    if !s.tbRun then s
    else if s.tbState = tbHoldover then s.qualify r
    else if s.tbState = tbQualify then
      if s.ranksAbove r (s.get Fld.TB_STATE_CAND 0) then s.qualify r else s
    else if !s.ranksAbove r (s.get Fld.TB_STATE_FOLLOW 0) then s
    else if s.tbState = tbSlew then (s.freezeSlew t).qualify r
    else if !s.flag Fld.TB_STATE_QBUSY 0 || s.ranksAbove r (s.get Fld.TB_STATE_CAND 0) then
      (s.set Fld.TB_STATE_CAND 0 r).set Fld.TB_STATE_QBUSY 0 1
    else s

/-- A reference becomes present (R76). -/
def State.refPresent (s : State) (r t : Nat) : State := (s.setBitOf Fld.TB_STATE_PRESENT 0 r true).refUsableNow t

/-- A candidate fails QUALIFY (R78, R80): barred for 10 s, QFAIL and source 37; then the next target. -/
def State.qualFail (s : State) : State :=
  if !s.flag Fld.TB_STATE_QBUSY 0 then s
  else
    let r := s.get Fld.TB_STATE_CAND 0
    let s := ((s.setBitOf Fld.TB_STATE_BARRED 0 r true).bump Fld.TB_SWITCHES_QFAIL 0).raise 37
    if s.tbState = tbQualify then
      (match s.target with
      | none => s.holdover
      | some q => s.qualify q)
    else
      let s := s.set Fld.TB_STATE_QBUSY 0 0
      match s.target with
      | none => s
      | some q =>
        if s.ranksAbove q (s.get Fld.TB_STATE_FOLLOW 0)
        then (s.set Fld.TB_STATE_CAND 0 q).set Fld.TB_STATE_QBUSY 0 1 else s

/-- The followed reference's frequency, summed over the FTU from a time on, from the measurements that follow it. -/
def freqSum (t : Nat) : List (Nat × Int) → Int
  | [] => 0
  | [(a, f)] => f * (t - a : Nat)
  | (a, f) :: (b, g) :: rest => f * (b - a : Nat) + freqSum t ((b, g) :: rest)

/-- The average of the followed reference over the last 10 s (Table 4.4), from its measured frequencies; over the time it has
been followed where that is shorter. -/
def State.freqAvg (s : State) (t : Nat) : Int :=
  let from? := t - 10 * ftuSec
  let fs := s.tbs.freqs.map (fun x => (Nat.max from? x.1, x.2))
  match fs with
  | [] => s.tbs.freqTo
  | (a, f) :: _ => if t ≤ a then f else freqSum t fs / (t - a : Nat)

/-- A reference is lost (R76, R78, R80): source 36. -/
def State.refLost (s : State) (r t : Nat) : State :=
  if r = 0 then s
  else
    let s := (s.setBitOf Fld.TB_STATE_PRESENT 0 r false).raise 36
    let cand := s.flag Fld.TB_STATE_QBUSY 0 && s.get Fld.TB_STATE_CAND 0 == r
    if (s.tbState = tbSlew || s.tbState = tbLocked) && s.get Fld.TB_STATE_FOLLOW 0 == r then
      ((s.freezeSlew t).setFreq (s.freqAvg t)).holdover
    else if cand then s.qualFail
    else s

/-- Follow a reference (R80). -/
def State.follow (s : State) (r : Nat) : State :=
  let s := if s.get Fld.TB_STATE_FOLLOW 0 = r then s
    else { (s.bump Fld.TB_SWITCHES_COUNT 0) with tbs := { s.tbs with freqs := [] } }
  (s.set Fld.TB_STATE_FOLLOW 0 r).set Fld.TB_STATE_QBUSY 0 0

/-- Slew to the followed reference's frequency as measured at a time (R79); measurements older than 10 s but the last are
no longer needed for the average of Table 4.4. -/
def State.slewTo (s : State) (t : Nat) (freq : Int) : State :=
  let late := s.tbs.freqs.filter (fun x => decide (t < x.1 + 10 * ftuSec))
  let before := (s.tbs.freqs.filter (fun x => !decide (t < x.1 + 10 * ftuSec))).getLast?
  { s with tbs := { s.tbs with slewAt := some t, freqTo := freq, freqs := before.toList ++ late ++ [(t, freq)] } }

/-- The candidate has qualified with its phase against vessel time and its frequency (R77 to R79): the first reference other
than XTAL sets TB_ORIGIN and is LOCKED with zero debt; any other is slewed to, XTAL in frequency only. A beacon's debt is its
vessel time less this one. Outside ±50 ppm the candidate fails. -/
def State.qualPass (s : State) (t : Nat) (phase freq : Int) : State :=
  if !s.flag Fld.TB_STATE_QBUSY 0 then s
  else
    let r := s.get Fld.TB_STATE_CAND 0
    if 50000 < freq.natAbs then s.qualFail
    else
    let s := (s.freezeSlew t).follow r
    let off := if r = 3 then s.tbs.beacon else wrapPhase (s.refPeriod r) phase
    if r ≠ 0 && !s.tbs.originSet then
      let s := s.set64 Fld.TB_ORIGIN_LO_ORIGIN Fld.TB_ORIGIN_HI_ORIGIN 0 (enc 64 off)
      let s := { s with tbs := { s.tbs with originSet := true } }
      ((s.setDebt 0).slewTo t freq).tbGo tbLocked
    else
      let origin := sgn 64 (s.get64 Fld.TB_ORIGIN_LO_ORIGIN Fld.TB_ORIGIN_HI_ORIGIN 0)
      let debt := if r = 0 then 0 else if r = 3 then s.tbs.beacon - origin else wrapPhase (s.refPeriod r) phase
      ((s.setDebt debt).slewTo t (if r = 0 then 0 else freq)).tbGo tbSlew

/-- Debt is below 1 ns, that is 20 FTU, and frequency within 1 ppb of the followed reference's as now measured (Table 4.4):
LOCKED, and what is left goes on under R79. -/
def State.slewDone (s : State) (t : Nat) (freq : Int) : State :=
  if s.tbState ≠ tbSlew || decide (20 < (s.debtAt t).natAbs) || decide (1 < (s.freqAt t - freq).natAbs) then s
  else ((s.freezeSlew t).slewTo t freq).tbGo tbLocked

/-- The bar on a reference ends (R78). -/
def State.barEnd (s : State) (r t : Nat) : State := (s.setBitOf Fld.TB_STATE_BARRED 0 r false).refUsableNow t

/-- A phase error as CLK_STATUS holds it: signed FTU, saturating. -/
def errCode (err : Int) : Nat := enc 16 (clampInt (-32768) 32767 err)

/-- CLK_STATUS.PLLT_ERR holds the last phase error (Table 4.8). -/
def State.plltErr (s : State) (errs : List Int) : State :=
  match errs.getLast? with
  | none => s
  | some e => s.set Fld.CLK_STATUS_PLLT_ERR 0 (errCode e)

/-- The last k values of a list. -/
def lastOf {α : Type} (k : Nat) (xs : List α) : List α := xs.drop (xs.length - k)

/-- PLL-T's phase error has stayed within ±W for N consecutive cycles (R69). -/
def State.plltWithin (s : State) (errs : List Int) : Bool :=
  let n := s.get Fld.CLK_LOCK_CFG_N 0
  decide (n ≤ errs.length) && (lastOf n errs).all (fun e => decide (e.natAbs ≤ s.get Fld.CLK_LOCK_CFG_W 0))

/-- PLL-T's phase error has exceeded 2W for 4 consecutive cycles (R69). -/
def State.plltOut (s : State) (errs : List Int) : Bool :=
  decide (4 ≤ errs.length) && (lastOf 4 errs).all (fun e => decide (2 * s.get Fld.CLK_LOCK_CFG_W 0 < e.natAbs))

/-- PLL-T unlock (R69, R81): F4, source 33, and the discipline goes to HOLDOVER, where it stays until lock is declared again
or a reference event comes (DESIGN CHOICE, log entry 41: Table 4.4 would leave HOLDOVER at once where a target exists).
Before t6 a lock already declared no longer counts for it (R49). -/
def State.plltUnlock (s : State) (t : Nat) (errs : List Int) : State :=
  let s := s.plltErr errs
  if !s.flag Fld.CLK_STATUS_PLLT_LOCK 0 || !s.plltOut errs then s
  else
    let s := ({ s with pow := { s.pow with plltReady := false } }).set Fld.CLK_STATUS_PLLT_LOCK 0 0
    let s := (s.event Fld.CLK_EVENTS_PLLT_UNLOCK 0 33).freezeSlew t
    ((s.tbGo tbHoldover).set Fld.TB_STATE_QBUSY 0 0).faultF4 blkCLK (causeOf whyPlltUnlock)

/-- The least and greatest counts of system cycles per bus cycle that Table 4.2 accepts; fractional bounds round outward. -/
def pllsBand (spread : Nat) : Nat × Nat :=
  match spread with
  | 1 => (1576, 1616) | 2 => (1568, 1616) | 3 => (1552, 1616)
  | 4 => (1580, 1620) | 5 => (1576, 1624) | 6 => (1568, 1632)
  | _ => (1584, 1616)

/-- A count of system cycles lies in the band of the spreading in force (R73). -/
def State.pllsGood (s : State) (count : Nat) : Bool :=
  let b := pllsBand (s.get Fld.CLK_CFG_SPREAD 0)
  decide (b.1 ≤ count) && decide (count ≤ b.2)

/-- A cause of F4 clears: the 1 s of R478 runs from the present. -/
def State.f4Clears (s : State) : State := { s with pow := { s.pow with f4ClearAt := s.tb } }

/-- The monitor of PLL-S after the counts of consecutive bus cycles, the last of them last (R73, R81): PLLS_OK follows the
last; four out of the band are PLLS_FREQ, an F4. -/
def State.pllsFreq (s : State) (counts : List Nat) : State :=
  match counts.getLast? with
  | none => s
  | some c =>
    if s.pllsGood c then
      if s.flag Fld.CLK_STATUS_PLLS_OK 0 then s else s.f4Clears.set Fld.CLK_STATUS_PLLS_OK 0 1
    else
      let s := s.set Fld.CLK_STATUS_PLLS_OK 0 0
      if decide (4 ≤ counts.length) && (lastOf 4 counts).all (fun c => !s.pllsGood c) then
        (s.event Fld.CLK_EVENTS_PLLS_FREQ 0 34).faultF4 blkCLK (causeOf whyPllsFreq)
      else s

/-! ### Meanings -/

/-- PLLT_UNLOCK (R69, R81): the phase errors of the last cycles. -/
def execPlltUnlock (t : Nat) (errs : List Int) (s : State) : Out :=
  let s := s.touch t
  .next (if s.powered && !s.pow.inReset then s.plltUnlock t errs else s)

/-- PLLS_FREQ_FAULT (R73): the counts of the last bus cycles. -/
def execPllsFreqFault (run : CountRun) (s : State) : Out :=
  let s := s.touch run.t
  .next (if s.tbRun then s.pllsFreq run.counts else s)

/-- REFERENCE_PRESENT (R78). -/
def execReferencePresent (t : Nat) (r : RefId) (s : State) : Out := .next ((s.touch t).refPresent r t)

/-- REFERENCE_LOST (R76). -/
def execReferenceLost (t : Nat) (r : RefId) (s : State) : Out := .next ((s.touch t).refLost r t)

/-- QUALIFY_PASS (R78). -/
def execQualifyPass (t : Nat) (phase freq : Int) (s : State) : Out := .next ((s.touch t).qualPass t phase freq)

/-- QUALIFY_FAIL (R80). -/
def execQualifyFail (t : Nat) (s : State) : Out := .next ((s.touch t).qualFail)

/-- REFERENCE_BAR_EXPIRE (R78). -/
def execReferenceBarExpire (t : Nat) (r : RefId) (s : State) : Out := .next ((s.touch t).barEnd r t)

/-- SLEW_COMPLETE (R78). -/
def execSlewComplete (t : Nat) (freq : Int) (s : State) : Out := .next ((s.touch t).slewDone t freq)

end Sys2Proof.Machine
end

