-- ==== Sys2Proof/Machine/TrackerSteps.lean ====
section
/-!
DEFINITION. Sys2Proof/Machine/TrackerSteps.lean: what an update of a tracker and a converter's boundary do in the blocks
that follow them: Twill's slots (R114, R115), grid-tie instances (R234, R235, R237, R240) and MPPT engines (R252).
-/

namespace Sys2Proof.Machine

/-- An update of tracker n (R85) and what follows from it. -/
def State.trackerUpdate (s : State) (t n : Nat) (smp : TrkSample) : State :=
  let a0 := s.trkAngle n
  let t0 := s.trkStamp n
  let st := s.trkState n
  match s.trkUpdate n t smp with
  | (s, rev) =>
    let s := if rev then s.revSlots n else s
    if st = tkOff || st = tkDrain then s
    else (s.gridsOn n).foldl (fun s i => s.gridUpdate i t (s.trkSmp n t smp).vmag a0 t0) s

/-- The source of a tracker is lost (R94): its slots stall (R115). -/
def State.trackerLoss (s : State) (t n : Nat) : State :=
  if (s.trkState n ≠ tkAcquire && s.trkState n ≠ tkTrack) || !s.lossDue n t then s else (s.trkLost n t).stallSlots n

/-- COAST_MAX passes (R94): tied instances trip with CAUSE TRACK (R234). -/
def State.trackerHeld (s : State) (t n : Nat) : State :=
  if !s.coastOver n t then s else (s.trkHeld n t).gridTrackLost n

/-- A tracker enters TRACK (R94): its stalled slots return (R115). -/
def State.trackerAcquired (s : State) (n : Nat) : State :=
  if s.trkState n ≠ tkAcquire then s else (s.trkAcquired n).returnSlots n

/-- A write of ANG_SL_STAMP_HI by the owner (R88) commits a sensorless update. -/
def State.writeSlStampHi (s : State) (a : Acc) (n v : Nat) : State :=
  if !s.slOwner a n then s.busErr
  else
    match (s.set Fld.ANG_SL_STAMP_HI_STAMP n v).slCommit n a.t with
    | (s, rev) => (if rev then s.revSlots n else s).ok

/-- A converter's next boundary is due at a time: that of its next period, or the end of the one in progress. -/
def State.boundDue (s : State) (c t : Nat) : Bool :=
  match (s.convOf c).built, (s.convOf c).cur with
  | p :: _, _ => decide (p.bound ≤ t)
  | [], some p => decide (p.bound + p.pat.period ≤ t)
  | [], none => true

/-- A converter's boundary (R121) and what the functions that drive it do then (R235, R252); a call before it is due does nothing. -/
def State.convBoundary (s : State) (c t : Nat) : State :=
  if s.boundDue c t = false then s else
  let s := s.boundary c
  let s : State := match (s.convOf c).cur with
    | some p => (s.gridsOf c).foldl (fun s i => s.gridPublish i p.bound p.pat.period) s
    | none => s
  (s.mpptsOf c).foldl (fun s m => (s.mpptLeft m).mpptAgain m t) s

/-! ### Meanings -/

/-- TRACKER_UPDATE (R85). -/
def execTrackerUpdate (t : Nat) (n : Fin 64) (smp : TrkSample) (s : State) : Out := .next ((s.touch t).trackerUpdate t n smp)

/-- TRACKER_SOURCE_LOSS (R94). -/
def execTrackerSourceLoss (t : Nat) (n : Fin 64) (s : State) : Out := .next ((s.touch t).trackerLoss t n)

/-- TRACKER_COAST_EXPIRE (R94). -/
def execTrackerCoastExpire (t : Nat) (n : Fin 64) (s : State) : Out := .next ((s.touch t).trackerHeld t n)

/-- TRACKER_ACQUIRED (R94). -/
def execTrackerAcquired (t : Nat) (n : Fin 64) (s : State) : Out := .next ((s.touch t).trackerAcquired n)

/-- ANG_SL_STAMP_HI_WRITE (R88). -/
def execAngSlStampHiWrite (a : Acc) (n : Fin 64) (v : Word) (s : State) : Out :=
  .next ((s.touch a.t).writeSlStampHi a n v.toNat)

/-- CONVERTER_BOUNDARY (R121). -/
def execConverterBoundary (t : Nat) (c : Fin 256) (s : State) : Out := .next ((s.touch t).convBoundary c t)

end Sys2Proof.Machine
end

