-- ==== Sys2Proof/Machine/TwillPass.lean ====
section
/-!
DEFINITION. Sys2Proof/Machine/TwillPass.lean: Twill's pass (R106, R112, R113), its firings (R107, R108, R111, R116) and
what a firing's action does (Table 6.1).
-/

namespace Sys2Proof.Machine

/-- The GPIO action: 0 low, 1 high, 2 toggle. -/
def State.gpioAction (s : State) (arg : Nat) : State :=
  let p := bits arg 0 5
  s.drivePin p (match bits arg 8 2 with
    | 0 => false
    | 1 => true
    | _ => !(s.pinOf p).level)

/-- The action of slot n at a time (Table 6.1). -/
def State.slotAction (s : State) (n t : Nat) : State :=
  let arg := s.get Fld.TWL_SLOT_ACT_ARG n
  match s.get Fld.TWL_SLOT_ACT_KIND n with
  | 1 => s.adcTwill (bits arg 0 4) t
  | 2 => if arg.testBit 8 then s.locRequest (bits arg 0 5) t else s.edgeRequest (bits arg 0 8) t
  | 3 => s.raise (128 + bits arg 0 7)
  | 4 => if s.pow.st == .run || s.pow.st == .safeHold then s.modeRequest 3 (bits arg 0 2) t else s
  | 5 => s.beaconOpen t
  | 6 => s.mtrSnapshot (bits arg 0 2) t
  | 7 => s.gpioAction arg
  | _ => s

/-- The start of the system cycle in which an action due at a time takes effect: at most 8 in one (R116, R523). -/
def State.actionCycle (s : State) (t : Nat) : Nat × State :=
  let c := cycleStart t
  let w := s.twl
  if w.cycle < c then (c, { s with twl := { w with cycle := c, count := 1 } })
  else if w.count < 8 then (w.cycle, { s with twl := { w with count := w.count + 1 } })
  else
    let next := cycleStart (w.cycle + 1)
    (next, { s with twl := { w with cycle := next, count := 1 } })

/-- A firing is late by a number of system cycles. -/
def State.noteLate (s : State) (n cycles : Nat) : State :=
  let s := (s.bump Fld.TWL_CNT_LATE 0).set Fld.TWL_LATE_LAST_SLOT 0 n
  (s.set Fld.TWL_LATE_LAST_CYCLES 0 (Nat.min 65535 cycles)).slotEvent Fld.TWL_SLOT_STATUS_LATE n

/-- A fired slot's target: a STEP of 0 disarms it, any other moves it past `passed` targets (R107). A target written since
the firing was committed is used as written at the next pass, and a STEP written since governs from there (R111). A slot
disarmed meanwhile is IDLE (R118). -/
def State.slotAfter (s : State) (n passed : Nat) : State :=
  let v := s.slotOf n
  let move := v.newTgt.isNone && v.step != 0
  let st := if v.disarm || (v.newTgt.isNone && v.step == 0) then twIdle else twPredict
  let s := if move then (s.stepTgt n (passed + 1) (s.slotDir n)).skips n passed else s
  (s.setSlot n { s.slotOf n with disarm := false, start := none }).slotGo n st

/-- Slot n fires at a time; `late` is how many FTU after its crossing, `passed` the further targets crossed with it. -/
def State.slotFire (s : State) (n t : Nat) (late : Option Nat) (passed : Nat) : State :=
  let own := cycleStart t
  let c := if s.get Fld.TWL_SLOT_ACT_KIND n == 0 then (own, s) else s.actionCycle t
  let moved := c.1 != own
  let ta := if moved then c.1 else t
  let wait := (c.1 - own + (sysCycle - 1)) / sysCycle
  let s := c.2
  let s : State := match late with
    | some d => s.noteLate n ((d + (sysCycle - 1)) / sysCycle + wait)
    | none => if moved then s.noteLate n wait else s
  let s := (s.slotAction n ta).lsnLatch n ta
  s.slotAfter n passed

/-- Further repeat targets that the angle, or the time, has passed with the one that fires. -/
def State.passedBy (s : State) (n now : Nat) : Nat :=
  let step := (s.slotOf n).step
  let pos : Int := if s.slotPure n then now else s.trkAngle (s.slotTrk n)
  if step = 0 then 0 else (s.beyond n pos).toNat / step

/-- One slot in a pass. -/
def State.passSlot (s : State) (n t : Nat) : State :=
  let st := s.slotSt n
  if st = twIdle || st = twCommit then s
  else if st = twStalled then s.takeNew n
  else
    let s := s.takeNew n
    if s.crossed n t then s.slotFire n t (some (t - s.crossTime n)) (s.passedBy n t)
    else
      let s := s.predictSlot n t
      s.setSlot n { s.slotOf n with start := none }

/-- The armed slots. -/
def State.armedSlots (s : State) : List Nat := (List.range 1024).filter (fun n => s.slotSt n != twIdle)

/-- Each tracker's angle as the pass saw it (R112). -/
def State.notePrev (s : State) : State :=
  (List.range 64).foldl (fun s k =>
    if s.trkState k = tkOff then s
    else s.setTrk k { s.trkOf k with prev := s.trkAngle k, prevStamp := s.trkStamp k, hasPrev := true }) s

/-- A prediction pass, and QUIET_POINT_PREDICT on the private slot (R56, R109). -/
def State.twillPass (s : State) (t : Nat) : State :=
  if !s.tbRun then s
  else
    let s := s.armedSlots.foldl (fun s n => s.passSlot n t) s
    (s.notePrev.predictQuiet t)

/-- The slots committed to fire in the system cycle of slot n's fire time, in ascending order (R116). -/
def State.firingWith (s : State) (n : Nat) : List Nat :=
  (List.range 1024).filter (fun m => s.slotSt m == twCommit && cycleStart (s.predTime m) == cycleStart (s.predTime n))

/-- A committed slot reaches its fire time: the actions of its system cycle are executed in ascending slot number (R116). -/
def State.twillFire (s : State) (n t : Nat) : State :=
  if s.slotSt n ≠ twCommit || t < s.predTime n then s
  else (s.firingWith n).foldl (fun s m => s.slotFire m (s.predTime m) none 0) s

/-! ### Meanings -/

/-- TWILL_PASS (R106). -/
def execTwillPass (t : Nat) (s : State) : Out := .next ((s.touch t).twillPass t)

/-- TWILL_FIRE (R108). -/
def execTwillFire (t : Nat) (slot : Fin 1024) (s : State) : Out := .next ((s.touch t).twillFire slot t)

end Sys2Proof.Machine
end

