-- ==== Sys2Proof/Machine/Start.lean ====
section
/-!
DEFINITION. Sys2Proof/Machine/Start.lean: the steps of START that are not the loader's (Table 3.1): t1, t5 with the work of
the journal, t6 with the timebase, t8, t10 with RUN, and the arming of a core (R52).
-/

namespace Sys2Proof.Machine

/-! ### t1 -/

/-- What the OTP holds reaches its registers: keys, LOCK, floor, epoch, the public key and DEVID (Table 25.8). -/
def State.loadOtp (s : State) : State :=
  let s := s.noteKeys
  let s := s.setFlag Fld.SYS_CHN_STATUS_LOCK 0 s.chn.lock
  let s := (s.set Fld.SYS_CHN_FLOOR_FLOOR 0 (s.chn.floors.headD 0)).set Fld.SYS_CHN_FLOOR_LEFT_LEFT 0 (64 - s.chn.floors.length)
  let s := (s.set Fld.SYS_CHN_EPOCH_EPOCH 0 s.chn.epoch).setFlag Fld.SYS_CHN_EPOCH_EXHAUSTED 0 s.chn.exhausted
  let s := s.setFlag Fld.SYS_CHN_EVAL_EPOCHFULL 0 s.chn.exhausted
  if (s.keySlot 0).use ≠ 0x55 then s
  else
    let pub := leBytes 64 (Config.ecdsaPub s.devKey).toNat
    let s := (List.range 16).foldl (fun s w =>
      s.set Fld.SYS_CHN_DEVPUB_KEY w (leNat ((pub.drop (4 * w)).take 4))) s
    let id := (Config.sha256 pub).toNat
    (s.set Fld.SYS_CHN_DEVID_LO_DEVID 0 id).set Fld.SYS_CHN_DEVID_HI_DEVID 0 (id / 4294967296)

/-- PLL-S locks (R528): its phase error lies within the window of LOCKA, and step t1 completes. -/
def State.pllsLock (s : State) : State :=
  if s.inStart 0 then ({ s with pow := { s.pow with pllsIn := true } }).loadOtp.startStep 1 else s

/-- What LOCKA does in a phase-detector cycle of PLL-S (R71): it sources 50 µA where the error lies within 1 ns, nothing
where it does not, and is high impedance in reset and when unpowered. -/
def State.lockA (s : State) : LockA :=
  if s.pow.inReset || !s.powered then .z else if s.pow.pllsIn then .source else .idle

/-! ### t5 -/

/-- The record values reach their registers under the mode of R53, and the journal does its work of t5 (R451, R308). -/
def State.valuesCommitted (s : State) : State :=
  if !s.inStart 4 then s
  else
    let s := s.eraseRing
    let s := match (Cfg.find s.img.base 0xB0 0) with
      | some r => s.loadJournal r
      | none => s
    match s.jnlSource with
    | (src, j) =>
      let latest := s.latestTime
      let tb := s.tbStartValue latest
      let s := { s with pow := { s.pow with lower := latest, tbStart := tb.1, plltReady := false, jnlReady := false } }
      let s := s.setFlag Fld.SYS_START_TBRESTART 0 tb.2
      let mode := s.resumedMode j
      let s := s.setFlag Fld.SYS_START_RESUMED 0 mode.isSome
      let m := mode.getD (s.get Fld.VST_IMG_INFO_STARTMODE 0 % 4)
      let s := (s.set Fld.SYS_MODE_CURRENT 0 m).loadAll (s.cfgOf m)
      ((s.jnlReplay src j).portsStart src j).startStep 5

/-! ### t6 -/

/-- The pinned GAP records of ports that resumed without their last intervals (R308): port, the lower bound, 0 where it is
unbounded, and the first trusted time. -/
def State.gapRecords (s : State) : State :=
  (List.range 4).foldl (fun s p => match (s.mtrOf p).gap with
    | none => s
    | some g =>
      let s := s.setMtr p { s.mtrOf p with gap := none }
      s.pinEvent 0x24 ([BitVec.ofNat 8 p] ++ leBytes 6 (g - 1) ++ leBytes 6 (s.tb / 65536)) []) s

/-- The UNWITNESSED record of a start with UVALID 0 (R472). -/
def State.unwitnessed (s : State) : State :=
  if s.pow.uvalidAtStart then s
  else
    let flags := (if s.pow.lower.isNone then 1 else 0) + (if s.pow.armedBefore then 2 else 0)
    let s := s.pinEvent 0x33 (leBytes 6 (s.pow.lower.getD 0) ++ leBytes 6 (s.tb / 65536) ++ [BitVec.ofNat 8 flags]) []
    s.ucrEvent Fld.UCR_EVT_UNWIT 854

/-- The GPIO outputs of R503: every CPIN, and every pin that a slot's GPIO action names in any mode. -/
def State.gpioOutputs (s : State) : List Nat :=
  let cfgs := [0, 1, 2, 3].map s.cfgOf
  let cp := (s.img.live.filter (fun r => r.typ == 0x70)).map (fun r => bits (r.w 0) 16 5)
  let act := cfgs.flatMap (fun (c : Cfg) => ((List.filter (fun (r : Rec) => r.typ == 0x31 && bits (r.w 4) 0 4 == 7) c).map
    (fun (r : Rec) => bits (r.w 4) 8 5)))
  (List.range 32).filter (fun p => cp.contains p || act.contains p)

/-- Pins that their blocks drive from t6 (R502): local outputs and pulse outputs at their inactive level, BRK pins. -/
def State.drivePins (s : State) : State :=
  let s := s.gpioOutputs.foldl (fun s p => s.drivePin p false) s
  let s := s.allLocs.foldl (fun s k => s.setLoc k { s.locOf k with driven := true, active := false }) s
  let s := ((List.range 4).filter (fun k => s.hasRec 0x0081 k)).foldl (fun s k =>
    s.setPls k { s.plsOf k with driven := true }) s
  ((List.range 4).filter (fun k => s.flag Fld.EDG_BRK_CFG_EN k)).foldl (fun s k =>
    s.setBrk k { s.brkOf k with driven := true }) s

/-- The BRK pins' comparators run FAST against their own DAC, on the brake group's threshold (R193, R225). -/
def State.brkStart (s : State) : State :=
  ((List.range 4).filter (fun k => s.flag Fld.EDG_BRK_CFG_EN k)).foldl (fun s k =>
    let c := s.get Fld.EDG_BRK_CFG_CMP k
    let s := (s.set Fld.CMP_CFG_MODE c 0).set Fld.CMP_CFG_NEGSEL c 0
    (s.brkDac k).cmpEnable c) s

/-- TIMEBASE_START: TB_NOW counts from its starting value (R74), and the blocks of Table 3.1's t6 start (R49, R51). -/
def State.timebaseStart (s : State) : State :=
  let s := { s with tb := s.pow.tbStart, tbRun := true }
  let s := s.startStep 6
  let s := (s.set Fld.CLK_STATUS_PLLS_OK 0 1).set Fld.UCR_STATUS_UVALID 0 1
  let s := if s.flag Fld.SYS_START_TBRESTART 0 then s.raiseEpoch else s
  let s := s.gapRecords.unwitnessed
  let s := s.holdover
  let s := ((List.range 64).filter (fun n => s.trkKind n != 0)).foldl (fun s n => s.set Fld.ANG_STATE_STATE n tkAcquire) s
  let s := ((List.range 16).filter (fun k => s.hasRec 0x0060 k)).foldl (fun s k => s.adcEnable k) s
  let s := ((List.range 32).filter (fun k => s.hasRec 0x0063 k && s.cmpUser k == 0)).foldl (fun s k => s.cmpEnable k) s
  let s := s.drivePins.brkStart
  let s := s.auxT6 s.tb
  let s := ((List.range 4).filter (fun p => s.flag Fld.MTR_PORT_CFG_EN p)).foldl (fun s p => s.mtrGo p mtRun) s
  let s := s.jlnStart s.tb
  let s := ((List.range 8).filter (fun k => s.hasRec 0x0075 k)).foldl (fun s k => s.fanStart k s.tb) s
  (s.autoArm (fun n => s.get Fld.TWL_SLOT_ACT_KIND n != 4)).tryT7

/-- t6 is the later of PLL-T's first lock and the end of the journal work (R49). -/
def State.tryT6 (s : State) : State :=
  if s.inStart 5 && s.pow.plltReady && s.pow.jnlReady then s.timebaseStart else s

def State.journalDone (s : State) : State :=
  if !s.inStart 5 then s else ({ s with pow := { s.pow with jnlReady := true } }).tryT6

/-- PLL-T's phase errors in a run of phase-detector cycles have been measured, the last of them last. Where the last N all
lie within ±W it declares lock (R69): source 32; in RUN after an unlock the discipline goes on (R78). -/
def State.plltLock (s : State) (t : Nat) (errs : List Int) : State :=
  if !s.powered || s.pow.inReset || decide (s.get Fld.SYS_START_STEP 0 < 5) then s
  else
    let s := s.plltErr errs
    if !s.plltWithin errs then s
    else
      let s := if s.flag Fld.CLK_STATUS_PLLT_LOCK 0 then s else s.f4Clears
      let s := (s.set Fld.CLK_STATUS_PLLT_LOCK 0 1).raise 32
      let s := ({ s with pow := { s.pow with plltReady := true } }).tryT6
      s.refUsableNow t

/-! ### t8 and t10 -/

/-- t8: every regulator channel with EN is in RUN and gate supplies have been up for 10 ms: the buses start (R50). -/
def State.gateSupplies (s : State) : State :=
  if !s.inStart 7 || !(List.range 8).all (fun k => !s.flag Fld.AUX_CFG_EN k || s.auxSt k == auRun) then s
  else
    ((List.range 16).filter (fun b => s.flag Fld.SEL_BUS_CFG_EN b)).foldl
      (fun s b => s.set Fld.SEL_BUS_STATUS_STATE b 1) (s.startStep 8)

/-- A replayed mode request is requested again with its ticket (Table 26.3). -/
def State.reapply (s : State) (o : Replayed) : State :=
  let mode := leNat (o.param.take 1) % 4
  let src := leNat ((o.param.drop 1).take 1) % 4
  if mode = s.modeNow then
    ((s.cancelPend mrSuperseded).closeOpWith o.ticket ocComplete [noopMode mode]).modeResult src o.ticket mrNoop
  else
    let s := s.cancelPend mrSuperseded
    let s := { s with mode := { s.mode with
      pend := some { src := src, mode := mode, ticket := o.ticket, time := s.tb } } }
    let s := (s.set Fld.SYS_MODE_PENDING 0 mode).set Fld.SYS_MODE_PEND 0 1
    (s.modeResult src o.ticket mrPending).predictQuiet s.tb

/-- JNL_STATUS.REPLAYED, source 848 and the requests replayed (R451). -/
def State.reportReplay (s : State) : State :=
  let rs := s.jnl.replayed
  let s := s.set Fld.JNL_STATUS_REPLAYED 0 (Nat.min 255 rs.length)
  let s := if rs.isEmpty then s else s.event Fld.JNL_EVT_REPLAY 0 848
  let s := { s with jnl := { s.jnl with replayed := [] } }
  (rs.filter (fun o => o.kind == 1 && o.action == acReapply)).foldl (fun s o => s.reapply o) s

/-- Listed companions not admitted (Table 3.3). -/
def State.missing (s : State) : Nat :=
  ((List.range 256).filter (fun n => s.flag Fld.SEL_DROP_STATE_LISTED n && !s.admitted n)).length

/-- t9 and t10: RUN begins and both cores leave reset (R50, Table 3.1). An F4 of START, or PFAILN, then acts. -/
def State.runBegins (s : State) : State :=
  if !s.inStart 8 then s
  else
    let s := (s.set Fld.SYS_START_MISSING 0 (Nat.min 255 s.missing)).startStep 10
    let s := ((List.range 16).filter (fun b => s.flag Fld.SEL_BUS_CFG_EN b)).foldl
      (fun s b => s.set Fld.SEL_BUS_STATUS_STATE b 2) s
    let s := { s with
      pow := { s.pow with st := .run }
      nave0 := { Nave.init 0 with running := true, since := s.tb }
      nave1 := { Nave.init 1 with running := true, since := s.tb } }
    let s := s.reportReplay
    let s := if s.pow.woke then s.ucrEvent Fld.UCR_EVT_WAKE 853 else s
    let s := s.autoArm (fun n => s.get Fld.TWL_SLOT_ACT_KIND n == 4)
    let s := if s.flag Fld.FLT_DEV_F4 0 then s.enterSafeHold else s
    if s.flag Fld.UCR_STATUS_PFAIL 0 then s.prepare else s

/-! ### Arming (R52) -/

/-- A function that the mode in force switches on begins its start sequence (R59). -/
def State.fnStart (s : State) (f t : Nat) : State :=
  if f < 4 then s.gridStart f
  else if f < 20 then s.mpptStart (f - 4) t
  else if f < 52 then s.axsStart (f - 20)
  else if f < 60 then s
  else if f < 68 then s.fanStart (f - 60) t
  else s.lpStart (f - 68)

/-- The record of a function exists. -/
def State.fnHas (s : State) (f : Nat) : Bool :=
  match fnRecord f with
  | some (typ, inst) => s.hasRec typ inst
  | none => false

/-- Each function that core c owns and the mode in force switches on starts. Fans with EN have run since t6 (Table 3.2);
R288 starts one that is OFF here. DESIGN CHOICE (log entry 39). -/
def State.startOwned (s : State) (c t : Nat) : State :=
  ((List.range 72).filter (fun f => s.fnHas f && s.fnOwner f == c && s.fnOn f)).foldl (fun s f => s.fnStart f t) s

/-- A write of SYS_CORE_ARM (Table 3.4): a core sets its own bit; other bits and other masters are ignored. -/
def State.writeCoreArm (s : State) (a : Acc) (v : Nat) : State :=
  if 4 ≤ v then s.busErr
  else match accCore a with
    | none => s.ok
    | some c =>
      if !v.testBit c || s.armed c then s.ok
      else ((s.set (if c = 0 then Fld.SYS_CORE_ARM_ARM0 else Fld.SYS_CORE_ARM_ARM1) 0 1).startOwned c a.t).ok

/-! ### Meanings -/

/-- PLLS_LOCK (R528). -/
def execPllsLock (s : State) : Out := .next s.pllsLock

/-- RECORD_VALUES_COMMITTED (R48). -/
def execRecordValuesCommitted (s : State) : Out := .next s.valuesCommitted

/-- JOURNAL_WORK_DONE (R49). -/
def execJournalWorkDone (s : State) : Out := .next s.journalDone

/-- PLLT_LOCK_DECLARED (R69). -/
def execPlltLockDeclared (t : Nat) (errs : List Int) (s : State) : Out := .next ((s.touch t).plltLock t errs)

/-- GATE_SUPPLIES_UP (R50). -/
def execGateSuppliesUp (t : Nat) (s : State) : Out := .next ((s.touch t).gateSupplies)

/-- ADMISSION_WAIT_END (R50). -/
def execAdmissionWaitEnd (t : Nat) (s : State) : Out := .next ((s.touch t).runBegins)

/-- SYS_CORE_ARM (R52). -/
def execSysCoreArm (a : Acc) (v : Word) (s : State) : Out := .next ((s.touch a.t).writeCoreArm a v.toNat)

end Sys2Proof.Machine
end

