-- ==== Sys2Proof/Machine/ModeApply.lean ====
section
/-!
DEFINITION. Sys2Proof/Machine/ModeApply.lean: the application of a mode at its quiet point (R57, R59): records of the new
configuration that differ reach their blocks as each chapter lays down, and units switch as MODE_MAP gives them.
-/

namespace Sys2Proof.Machine

/-! ### Records that differ -/

/-- A record of the new configuration whose value differs from the one in force. -/
def recDiffers (old : Cfg) (r : Rec) : Bool :=
  match Cfg.find old r.typ r.inst with
  | some o => o.val != r.val
  | none => true

/-- The set in use: the one that waits for a cut-off, else the last good one, else the committed one (R138). -/
def inUse (com good : Option PatSet) (fresh : Bool) : Option PatSet := if fresh then com else good.or com

/-- Periods already built for boundaries that can still be sent with the new values are built again at their cut-offs
(R57). -/
def State.rebuildConv (s : State) (c q : Nat) : State :=
  let v := s.convOf c
  let late (p : Period) : Bool := decide (q + 133120 ≤ p.bound)
  match v.built.find? late with
  | none => s
  | some p => s.setConv c { v with built := v.built.filter (fun p => !late p), nextB := some p.bound }

/-- A changed PERIOD is written to the shadow and committed, the ON and OFF of the set in use scaled (R138); an unchanged one
leaves the shadow as written. -/
def State.applyConv (s : State) (old : Cfg) (r : Rec) (q : Nat) : State :=
  let c := r.inst
  let sh := s.get Fld.EDG_CNV_PERIOD_SH_PERIOD c
  let same (off k : Nat) : Bool := match Cfg.find old r.typ c with
    | some o => o.fld off k == r.fld off k
    | none => false
  let rebuild := s.get Fld.EDG_CNV_CFG_SYNC c == 0 && !(same 0x10 4 && same 0x0A 2)
  let s := s.loadRec r
  let s :=
    if same 0x10 4 then s.set Fld.EDG_CNV_PERIOD_SH_PERIOD c sh
    else
      let p := match inUse (s.convOf c).com (s.convOf c).good (s.convOf c).fresh with
        | some p => p.scaled (r.w 0x10)
        | none => s.shadowSet c
      (s.commitSet c q p).scheduleStart c
  if rebuild then s.rebuildConv c q else s

/-- The same for a LOCAL_PWM record (R138). -/
def State.applyLoc (s : State) (old : Cfg) (r : Rec) (q : Nat) : State :=
  let k := r.inst
  let sh := s.get Fld.EDG_LOC_PERIOD_SH_PERIOD k
  let s := s.loadRec r
  let same := match Cfg.find old r.typ k with
    | some o => o.w 0xC == r.w 0xC
    | none => false
  if same then s.set Fld.EDG_LOC_PERIOD_SH_PERIOD k sh
  else
    let p := match inUse (s.locOf k).com (s.locOf k).good (s.locOf k).fresh with
      | some p => p.scaled (r.w 0xC)
      | none => s.locShadow k
    (s.locCommitSet k q p).locStart k

/-- A changed TRIP record: an input whose active level changes starts its count again (R137). -/
def State.applyTrip (s : State) (r : Rec) (q : Nat) : State :=
  let n := r.inst
  let was := s.tripActive n
  let s := s.loadRec r
  if was == s.tripActive n then s else s.setTrip n { since := q }

/-- A changed TRACKER record; a LINEPOS that differs switches the output's unit at once (R98). -/
def State.applyTracker (s : State) (r : Rec) : State :=
  let n := r.inst
  let was := s.flag Fld.ANG_CFG_LINEPOS n
  let s := { (s.loadRec r) with img := { s.img with live := r :: s.img.live.filter (fun o => !(o.typ == r.typ && o.inst == n)) } }
  if was == s.flag Fld.ANG_CFG_LINEPOS n then s
  else
    let s := if s.trkState n = tkCoast then s.coastBase n (s.trkStamp n) else s
    let turns := s.encAngle n
    let rate := if s.trkState n = tkHeld then 0 else (s.trkOf n).turnRate
    let out : Int × Int × Bool := if was then (turns, rate, false) else s.drumPayout n turns rate
    let s := (s.set64 Fld.ANG_ANGLE_LO_ANGLE Fld.ANG_ANGLE_HI_ANGLE n (enc 64 out.1)).setRate n out.2.1
    let s := if out.2.2 then s.trkEvent Fld.ANG_EVT_OUTSIDE n else s
    (s.setTrk n { s.trkOf n with extreme := out.1, hasPrev := false }).trkEvent Fld.ANG_EVT_UNITCHG n

/-- A slot whose record value changes is disarmed with any commit it holds, takes its value, and is armed again if AUTOARM
is 1 (R117, R110). -/
def State.applySlot (s : State) (r : Rec) : State :=
  let n := r.inst
  let s := ((s.slotGo n twIdle).loadRec r).loadSlot n
  if s.flag Fld.TWL_SLOT_CFG_AUTOARM n then s.slotArm n else s

/-- A changed COMPARATOR record (R227): a written DAC code waits for the next ramp start where a ramp is configured
(R223); a ramp ends with its source; a changed INV inverts the output at the quiet point (R221). -/
def State.applyCmp (s : State) (r : Rec) (q : Nat) : State :=
  let k := r.inst
  let mode := s.get Fld.CMP_CFG_MODE k
  let dac := s.get Fld.CMP_DAC_DAC k
  let src := s.get Fld.CMP_RAMP_RAMPSRC k
  let s := s.loadRec r
  let s := if s.get Fld.CMP_RAMP_RAMPSRC k = src then s else s.rampEnd k
  let s := s.setCmp k { s.cmpOf k with
    oldDac := if s.get Fld.CMP_RAMP_RAMPSRC k = 63 then none else some ((s.cmpOf k).oldDac.getD dac) }
  let s := if mode = s.get Fld.CMP_CFG_MODE k then s else s.cmpModeHold k
  if !s.cmpRuns k || (s.cmpOf k).held || s.cmpWants k == s.flag Fld.CMP_STATUS_OUT k then s
  else s.cmpLevel k q (s.cmpWants k)

/-- A record that differs reaches its block. -/
def State.applyRec (s : State) (old : Cfg) (r : Rec) (q : Nat) : State :=
  match r.typ with
  | 0x11 => s.applyConv old r q
  | 0x40 => s.applyLoc old r q
  | 0x41 => s.applyTrip r q
  | 0x30 => s.applyTracker r
  | 0x31 => s.applySlot r
  | 0x63 => s.applyCmp r q
  | 0x70 => (s.loadRec r).gridModeApply r.inst
  | 0x72 => (s.loadRec r).mpptModeApply r.inst
  | _ => s.loadRec r

/-! ### What follows from them -/

/-- Slots that keep their value on a tracker that changed unit are disarmed and set UNIT (R117). -/
def State.unitSlots (s : State) (new : Cfg) (changed : List Nat) (n : Nat) : State :=
  ((List.range 1024).filter (fun k =>
    s.slotTrk k == n && !changed.contains k && Cfg.has new 0x31 k)).foldl
      (fun s k => (s.slotGo k twIdle).slotEvent Fld.TWL_SLOT_STATUS_UNIT k) s

/-- The configuration halfwords of a companion whose mirror changed are written to its staging copy, then APPLY (R179). -/
def State.sendCfg (s : State) (before : State) (n : Nat) : State :=
  let hs := cfgHalves.filter (fun a => before.mirrorHalf n a != s.mirrorHalf n a)
  if hs.isEmpty then s
  else (hs.foldl (fun s a => s.mgmt n true (half? a) (s.mirrorHalf n a)) s).mgmt n true .apply 1

/-- The mode's configuration comes into force at its quiet point (R39); trackers before the slots that name them (R117). A
record whose value is the same in both modes is not written again, so what firmware wrote into its RW registers since
(CMP_DAC, ADC_SEQ_LEN, ADC_SEQ_E) stands; DESIGN CHOICE (log entry 40): the spec does not say. -/
def State.applyCfg (s : State) (new : Cfg) (q : Nat) : State :=
  let old := s.img.live
  let changed := List.filter (fun (r : Rec) => recDiffers old r) new
  let before := s
  let isTrk (r : Rec) : Bool := r.typ == 0x30
  let s := List.foldl (fun (s : State) r => s.applyRec old r q) s (changed.filter isTrk ++ changed.filter (fun r => !isTrk r))
  let s := { s with img := { s.img with live := new } }
  let s := ((((s.loadOwners new).loadLegs new).loadBrakes new).loadClaims new).leaveWakes
  let units := (List.range 64).filter (fun n => before.flag Fld.ANG_CFG_LINEPOS n != s.flag Fld.ANG_CFG_LINEPOS n)
  let slots := (changed.filter (fun r => r.typ == 0x31)).map (fun r => r.inst)
  let s := units.foldl (fun s n => s.unitSlots new slots n) s
  let s := ((List.range 4).filter (fun k => s.flag Fld.EDG_BRK_CFG_EN k)).foldl (fun s k => s.brkDac k) s
  ((List.range 256).filter (fun n => s.admitted n)).foldl (fun s n => s.sendCfg before n) s

/-! ### Units switched (R59) -/

/-- A function that the mode does not switch on receives a disable request (R17). -/
def State.fnDisable (s : State) (f : Nat) : State :=
  if f < 4 then s.gridDisable f
  else if f < 20 then s.mpptDisable (f - 4)
  else if f < 52 then s.axsDisable (f - 20)
  else s

/-- A converter whose grid-tie instance or axis is draining is disabled by it, when its ramp has ended (R480). -/
def State.drainedBy (s : State) (c : Nat) : Bool :=
  (List.range 4).any (fun i => s.hasRec 0x0070 i && s.get Fld.GRD_CFG_CONV i == c && s.gridSt i == gdDraining) ||
  (List.range 32).any (fun x => s.hasRec 0x0073 x && s.get Fld.AXS_CFG_CONV x == c && s.axsSt x == axDrain)

def State.switchUnits (s : State) (t : Nat) : State :=
  let s := ((List.range 52).filter (fun f => s.fnHas f && !s.fnOn f)).foldl (fun s f => s.fnDisable f) s
  let s := (s.allConvs.filter (fun c => !s.cnvOn c && !s.drainedBy c)).foldl (fun s c => s.convDisable c) s
  let s := (s.allLocs.filter (fun k => !s.locOn k)).foldl (fun s k => s.locDisable k) s
  ((List.range 52).filter (fun f => s.fnHas f && s.fnOn f && s.armed (s.fnOwner f))).foldl (fun s f => s.fnStart f t) s

/-! ### The application -/

/-- The pending mode is applied at its quiet point (R55, R57, R60). OP_CLOSE's BODY holds, after OUTCOME, the mode, the image
SEQ and the low word of the quiet point's TB_NOW, whose upper bits the record's TIME gives; Table 26.7 places none of them
(DESIGN CHOICE, log entry 38). -/
def State.modeApply (s : State) (t : Nat) : State :=
  match s.mode.pend, s.mode.qp with
  | some p, some q =>
    if t < q then s
    else
      let forced := s.mode.forced
      let s := ((s.clearPend).applyCfg (s.cfgOf p.mode) q).set Fld.SYS_MODE_CURRENT 0 p.mode
      let s := (s.switchUnits q).raise 255
      let s := (s.setFlag Fld.SYS_MODE_QP_FORCED 0 forced).set Fld.SYS_MODE_SRC 0 p.src
      let s := s.set64 Fld.SYS_MODE_TIME_LO_TIME Fld.SYS_MODE_TIME_HI_TIME 0 q
      let s := s.closeOpWith p.ticket ocComplete
        ([BitVec.ofNat 8 p.mode] ++ leBytes 4 (s.get Fld.VST_IMG_SEQ_SEQ 0) ++ leBytes 4 q)
      s.modeResult p.src p.ticket mrApplied
  | _, _ => s

/-! ### Meanings -/

/-- MODE_APPLY (R57). -/
def execModeApply (t : Nat) (s : State) : Out := .next ((s.touch t).modeApply t)

end Sys2Proof.Machine
end

