-- ==== Sys2Proof/Machine/NaveBase.lean ====
section
/-!
DEFINITION. Sys2Proof/Machine/NaveBase.lean: what every instruction of a Nave core does to the core: its registers with the
banked stack pointer (R358), the checks of R368, the default map (Tables 20.1 and 20.8) and the MPU (R363).
-/

namespace Sys2Proof.Machine

/-! ### Registers (R358) -/

/-- The core runs at kernel level (R359). -/
def Nave.kernel (n : Nave) : Bool := n.status.getLsbD 0
def Nave.ie (n : Nave) : Bool := n.status.getLsbD 1
def Nave.mpuOn (n : Nave) : Bool := n.status.getLsbD 8

/-- The stack pointer of the present level. -/
def Nave.sp (n : Nave) : Word := if n.kernel then n.spK else n.spT

/-- A general register: g0 reads 0, g31 is the stack pointer of the level. -/
def Nave.reg (n : Nave) (r : Fin 32) : Word :=
  if r = 0 then 0 else if r = 31 then n.sp else Table.get 0 n.g r.val

/-- Write a general register without the check of R368: writes to g0 are ignored. -/
def Nave.setReg (n : Nave) (r : Fin 32) (v : Word) : Nave :=
  if r = 0 then n
  else if r = 31 then (if n.kernel then { n with spK := v } else { n with spT := v })
  else { n with g := Table.set 0 n.g r.val v }

/-- The check of R368 on a value for SP_K or SP_T: inside the limits and a multiple of 8. -/
def Nave.spOk (n : Nave) (kernel : Bool) (v : Word) : Bool :=
  let lo := if kernel then n.splimLo else n.tsplimLo
  let hi := if kernel then n.splimHi else n.tsplimHi
  decide (lo.toNat ≤ v.toNat) && decide (v.toNat ≤ hi.toNat) && decide (v.toNat % 8 = 0)

/-- A write of register r by an instruction or the debugger is accepted (R368, R376). -/
def Nave.regOk (n : Nave) (r : Fin 32) (v : Word) : Bool := r != 31 || n.spOk n.kernel v

/-! ### The memory map -/

/-- What an address belongs to (Tables 20.1 and 20.8). -/
inductive Region where
  | itcm (c : Nat)
  | dtcm (c : Nat)
  | sram
  | ret
  | periph
  | none
  deriving DecidableEq, Repr

/-- The base of a core's instruction TCM and data TCM. -/
def itcmBase (c : Nat) : Nat := 0x10000000 + 0x1000000 * c
def dtcmBase (c : Nat) : Nat := 0x10040000 + 0x1000000 * c

def regionOf (a : Nat) : Region :=
  if 0x10000000 ≤ a ∧ a < 0x10040000 then .itcm 0
  else if 0x10040000 ≤ a ∧ a < 0x10080000 then .dtcm 0
  else if 0x11000000 ≤ a ∧ a < 0x11040000 then .itcm 1
  else if 0x11040000 ≤ a ∧ a < 0x11080000 then .dtcm 1
  else if 0x20000000 ≤ a ∧ a < 0x20200000 then .sram
  else if 0x28000000 ≤ a ∧ a < 0x28010000 then .ret
  else if 0x40000000 ≤ a ∧ a < 0x40190000 then .periph
  else .none

/-- The kinds of access of R363. -/
inductive AccKind where
  | read | write | fetch
  deriving DecidableEq, Repr

/-- The rights Table 20.1 gives Nave c. -/
def mapRight (c : Nat) (k : AccKind) : Region → Bool
  | .itcm i => i == c && k != .write
  | .dtcm i => i == c && k != .fetch
  | .sram => k != .fetch
  | .ret => k == .read
  | .periph => k != .fetch
  | .none => false

/-- The rights Table 20.8 gives the other masters; a halted core's data TCM accepts the debug port's writes (R524). -/
def State.otherRight (s : State) (m : Master) (write : Bool) : Region → Bool
  | .itcm _ => m == .debug && !write
  | .dtcm i => m == .debug && (!write || s.halted i)
  | .sram => true
  | .ret => !write
  | .periph => true
  | .none => false

/-- An MPU region is enabled and contains an address (R363). -/
def MpuRegion.has (r : MpuRegion) (a : Nat) : Bool :=
  let size := bits r.attr 1 5
  r.attr.testBit 0 && a / 2 ^ size == r.base / 2 ^ size

/-- The right a region grants at a level: TR, TW, TX in bits 8 to 10, KR, KW, KX in bits 12 to 14. -/
def MpuRegion.grants (r : MpuRegion) (kernel : Bool) (k : AccKind) : Bool :=
  let bit := match k with
    | .read => 0
    | .write => 1
    | .fetch => 2
  r.attr.testBit ((if kernel then 12 else 8) + bit)

/-- The highest-numbered enabled region that contains an address. -/
def Nave.mpuHit (n : Nave) (a : Nat) : Option MpuRegion :=
  ((List.range 16).reverse.map (fun r => Table.get {} n.mpu r)).find? (fun r => r.has a)

/-- The MPU's decision at a level (R363); the default map stands where it does not decide. -/
def Nave.mpuOk (n : Nave) (kernel : Bool) (k : AccKind) (a : Nat) : Bool :=
  if !n.mpuOn then true
  else match n.mpuHit a with
    | some r => r.grants kernel k
    | none => kernel

/-- A core has a right at an address at a level (R361, R363). -/
def Nave.right (n : Nave) (c : Nat) (kernel : Bool) (k : AccKind) (a : Nat) : Bool :=
  mapRight c k (regionOf a) && n.mpuOk kernel k a

/-! ### Memory proper -/

/-- One byte outside the peripheral range. -/
def State.memByte (s : State) (a : Nat) : Byte :=
  match regionOf a with
  | .ret =>
    let off := a - 0x28000000
    (Table.get [] s.jnl.slots (off / 32)).getD (off % 32) 0
  | _ => s.byte a

/-- k bytes from an address, as a little-endian number (R6). -/
def State.memRead (s : State) : Nat → Nat → Nat
  | 0, _ => 0
  | k + 1, a => (s.memByte a).toNat + 256 * State.memRead s k (a + 1)

/-- The bytes of an access size. -/
def sizeBytes : AccSize → Nat
  | .byte => 1
  | .half => 2
  | .word => 4

end Sys2Proof.Machine
end

