-- ==== Sys2Proof/Machine/Bus.lean ====
section
/-!
DEFINITION. Sys2Proof/Machine/Bus.lean: an access of a master to the memory map: the address (R4, R518, R524), reserved
encodings (R5), the writer rules of each block, and reads with the latches of R7, R91, R207, R235 and R258.
-/

namespace Sys2Proof.Machine

/-! ### The register at an address (R518) -/

/-- The index a stride takes out of an offset. -/
def stride (s off : Nat) : Nat × Nat := if s = 0 then (0, off) else (off / s, off % s)

/-- The instance of a register at an address, if it has one there. -/
def Reg.instAt (r : Reg) (a : Nat) : Option Nat :=
  let f := r.info
  if a < f.base then none
  else
    let x := stride f.s1 (a - f.base)
    let y := stride f.s2 x.2
    let z := stride f.s3 y.2
    if z.2 = 0 && decide (x.1 < f.n1) && decide (y.1 < f.n2) && decide (z.1 < f.n3)
    then some ((x.1 * f.n2 + y.1) * f.n3 + z.1) else none

/-- The register that an address names. -/
def regAt (a : Nat) : Option (Reg × Nat) :=
  (Reg.blockAt (a / 65536)).findSome? (fun r => (r.instAt a).map (fun i => (r, i)))

/-! ### Writable fields and reserved encodings (R2, R5) -/

def Fld.writable (f : Fld) : Bool := f.acc == .RW || f.acc == .WO || f.acc == .W1S || f.acc == .W1C

def Reg.writable (r : Reg) : Bool := r.fields.any Fld.writable

/-- No reserved encoding stands in any field, RO ones included, and no bit outside the fields (R5). -/
def Reg.legal (r : Reg) (v : Nat) : Bool :=
  r.covers v && r.fields.all (fun f => decide (f.min ≤ bits v f.lo f.width) && decide (bits v f.lo f.width ≤ f.max))

/-- Each W1C field loses the bits written as 1. -/
def State.clearW1c (s : State) (r : Reg) (i v : Nat) : State :=
  (r.fields.filter (fun f => f.acc == .W1C)).foldl (fun s f =>
    s.set f i (s.get f i - Nat.land (s.get f i) (bits v f.lo f.width))) s

/-- Each RW field takes its bits. -/
def State.storeRw (s : State) (r : Reg) (i v : Nat) : State :=
  (r.fields.filter (fun f => f.acc == .RW)).foldl (fun s f => s.set f i (bits v f.lo f.width)) s

/-- A write that a writer rule permits is stored; any other is discarded with a bus error. -/
def State.storeIf (s : State) (p : Bool) (r : Reg) (i v : Nat) : State := if p then (s.storeRw r i v).ok else s.busErr

/-! ### Writer rules of shadows (R11, R131, R357, R474) -/

/-- The owning core of a converter. -/
def State.cnvWriter (s : State) (a : Acc) (c : Nat) : Bool := s.hasRec 0x0011 c && isCore a (s.cnvOwner c)

def State.legWriter (s : State) (a : Acc) (n : Nat) : Bool :=
  match s.legConv n with
  | some c => s.cnvWriter a c
  | none => false

def State.locWriter (s : State) (a : Acc) (k : Nat) : Bool := s.hasRec 0x0040 k && isCore a (s.locOwner k)

/-- Writing UCR_ALARM_HI commits the alarm (Table 28.6). -/
def State.writeAlarmHi (s : State) (a : Acc) (v : Nat) : State :=
  if a.m == .chancel || anyKernel a then
    let s := s.set Fld.UCR_ALARM_HI_ALARM 0 v
    ({ s with pow := { s.pow with
      alarm := s.get64 Fld.UCR_ALARM_LO_ALARM Fld.UCR_ALARM_HI_ALARM 0 } }).ok
  else s.busErr

/-! ### Debug registers (R493, R496) -/

/-- The debug port, or the core's own kernel level. -/
def dbgWriter (a : Acc) (c : Nat) : Bool := a.m == .debug || isKernel a c

/-- A write of DBG_PC. -/
def State.writeDbgPc (s : State) (a : Acc) (c v : Nat) : State :=
  if a.m != .debug || !s.halted c || v % 4 != 0 || regionOf v != .itcm c then s.busErr
  else (s.setCore c { s.core c with pc := BitVec.ofNat 32 v }).ok

/-- A write of DBG_GREGr; one to g31 is checked under R368. -/
def State.writeDbgReg (s : State) (a : Acc) (c r v : Nat) : State :=
  let w := BitVec.ofNat 32 v
  let r := Fin.ofNat 32 r
  if a.m != .debug || !s.halted c || !(s.core c).regOk r w then s.busErr
  else (s.setCore c ((s.core c).setReg r w)).ok

/-! ### Writes -/

/-- A write of a register that holds a writable field, by its block's rule. `CORE_CTRL` of the debug block acts on a core
and stands in Machine/Debug.lean; here it answers as for a master that may not write it. -/
def State.writeRule (s : State) (a : Acc) (r : Reg) (i v : Nat) : State :=
  match r with
  | .SYS_CORE_ARM => s.writeCoreArm a v
  | .SYS_MODE_REQ => s.writeModeReq a v
  | .SYS_NV_RELEASE => s.writeNvRelease a v
  | .SYS_CHN_PROV_CMD => s.nextFree.writeProvCmd a v (s.freeWord.getLsbD 0)
  | .SYS_CHN_PROV_KEY => s.writeProvKey a i v
  | .ANG_SL_ANGLE_LO => s.storeIf (s.slOwner a i) r i v
  | .ANG_SL_ANGLE_HI => s.storeIf (s.slOwner a i) r i v
  | .ANG_SL_STAMP_LO => s.storeIf (s.slOwner a i) r i v
  | .ANG_SL_STAMP_HI => s.writeSlStampHi a i v
  | .ANG_QRY_CTRL => s.writeQry a i v
  | .ANG_QRY_IN_LO => s.storeIf (masterNum a.m == i) r i v
  | .ANG_QRY_IN_HI => s.storeIf (masterNum a.m == i) r i v
  | .TWL_SLOT_TGT_LO => s.writeSlotTgtLo a i v
  | .TWL_SLOT_TGT_HI => s.writeSlotTgtHi a i v
  | .TWL_SLOT_STEP_LO => s.writeSlotStepLo a i v
  | .TWL_SLOT_STEP_HI => s.writeSlotStepHi a i v
  | .TWL_SLOT_CTRL => s.writeSlotCtrl a i v
  | .EDG_CNV_PERIOD_SH => s.storeIf (s.cnvWriter a i) r i v
  | .EDG_CNV_COMMIT => s.writeCnvCommit a i v
  | .EDG_CNV_CTRL => s.writeCnvCtrl a i v
  | .EDG_CNV_FORCE => s.writeCnvForce a i v
  | .EDG_LEG_ON_SH => s.storeIf (s.legWriter a i) r i v
  | .EDG_LEG_OFF_SH => s.storeIf (s.legWriter a i) r i v
  | .EDG_LEG_MODE_SH => s.storeIf (s.legWriter a i) r i v
  | .EDG_LOC_PERIOD_SH => s.storeIf (s.locWriter a i) r i v
  | .EDG_LOC_ON_SH => s.storeIf (s.locWriter a i) r i v
  | .EDG_LOC_OFF_SH => s.storeIf (s.locWriter a i) r i v
  | .EDG_LOC_CTRL => s.writeLocCtrl a i v
  | .EDG_LOC_FORCE => s.writeLocForce a i v
  | .BTR_CTRL => s.writeBtrCtrl a i v
  | .ADC_SEQ_LEN => s.writeAdcLen a i v
  | .ADC_SEQ_E => s.writeAdcEntry a (i / 16) (i % 16) v
  | .ADC_CORE_CTRL => s.writeAdcCtrl a i v
  | .ADC_DMA_RD => s.writeAdcRd a i v
  | .LSN_CTRL => s.writeLsnCtrl a v
  | .CMP_DAC => s.writeCmpDac a i v
  | .CMP_TEST => s.writeCmpTest a i v
  | .CMP_CTRL => s.writeCmpCtrl a i v
  | .GRD_CTRL => s.writeGrdCtrl a i v
  | .GRD_ID_SP => s.writeGrdSp a i false v
  | .GRD_IQ_SP => s.writeGrdSp a i true v
  | .MPPT_CTRL => s.writeMpptCtrl a i v
  | .AXS_SP => s.writeAxsSp a i v
  | .AXS_CTRL => s.writeAxsCtrl a i v
  | .AUX_CTRL => s.writeAuxCtrl a i v
  | .FAN_DUTY_SP => s.writeFanDuty a i v
  | .FAN_CTRL => s.writeFanCtrl a i v
  | .LOOP_CODE => s.writeLoopCode a i v
  | .LOOP_CTRL => s.writeLoopCtrl a i v
  | .MTR_PORT_STATUS => if a.m == .host then s.busErr else (s.clearW1c r i v).ok
  | .MTR_PORT_REQ => s.writePortReq a i v
  | .MTR_PLS_STATUS => if a.m == .host then s.busErr else (s.clearW1c r i v).ok
  | .JLN_CTRL => s.writeJlnCtrl a v
  | .JLN_TX_CFG => s.storeIf (s.jlnOwner a) r i v
  | .JLN_TX_LEN => s.storeIf (s.jlnOwner a) r i v
  | .JLN_TX_CTRL => s.writeTxCtrl a i v
  | .JLN_RX_REL => s.writeRxRel a i v
  | .JLN_TXBUF => s.storeIf (s.jlnOwner a) r i v
  | .IRQ_PEND_SET => s.writePendSet a i v
  | .IRQ_PEND_CLR => s.writePendClr a i v
  | .IRQ_EN_SET => s.writeEnSet a i v
  | .IRQ_EN_CLR => s.writeEnClr a i v
  | .IRQ_DOORBELL => s.writeDoorbell a v
  | .MBX_HDR => s.writeMbxHdr a i v
  | .MBX_CTRL => s.writeMbxCtrl a i v
  | .MBX_STATUS => if a.m == .debug then s.busErr else (s.clearW1c r i v).ok
  | .MBX_STAGE => s.writeStage a i v
  | .MBX_STAGE_STATUS => if stageOf a = some i then (s.clearW1c r i v).ok else s.busErr
  | .JNL_PIN_ACK => s.writePinAck a v
  | .UCR_ALARM_LO => s.storeIf (a.m == .chancel || anyKernel a) r i v
  | .UCR_ALARM_HI => s.writeAlarmHi a v
  | .FLT_CNV_CLR => s.writeCnvClr a v
  | .FLT_SVC_CTRL => s.writeSvcCtrl a v
  | .DBG_CORE_CTRL => s.busErr
  | .DBG_PC => s.writeDbgPc a i v
  | .DBG_BP => s.storeIf (dbgWriter a (i / 4)) r i v
  | .DBG_WP_ADDR => s.storeIf (dbgWriter a (i / 2)) r i v
  | .DBG_WP_CFG => s.storeIf (dbgWriter a (i / 2)) r i v
  | .DBG_GREG => s.writeDbgReg a (i / 32) (i % 32) v
  | .DBG_STATUS => if a.m == .debug then (s.clearW1c r i v).ok else s.busErr
  | _ => (s.clearW1c r i v).ok

/-- Writes that a chapter rejects although the register is RO throughout: the debug block's by any master but the debug
port (chapter 30), the mirror's by every master (R182), and those of a query window by a master whose window it is not
(R92). SYS_CHN_PROV_RES counts as no part of the provisioning window of R430 and R441, so a write of it is ignored under
R2 (DESIGN CHOICE, log entry 34). -/
def roRejects (a : Acc) (r : Reg) (i : Nat) : Bool :=
  match r with
  | .DBG_CORE_STATUS => a.m != .debug
  | .ANG_QRY_OUT_LO => masterNum a.m != i
  | .ANG_QRY_OUT_HI => masterNum a.m != i
  | .ANG_QRY_STATUS => masterNum a.m != i
  | _ => r.info.base / 65536 == 0x4008

/-- A write of a register (R2, R5). -/
def State.writeReg (s : State) (a : Acc) (r : Reg) (i v : Nat) : State :=
  if !r.writable then (if roRejects a r i then s.busErr else s.ok)
  else if r = .MBX_HDR then s.writeMbxHdr a i v
  else if !r.legal v then s.busErr
  else s.writeRule a r i v

/-! ### Reads -/

/-- The high word of a 64-bit register (R7). -/
def Reg.hiOf : Reg → Option Reg
  | .SYS_MODE_TIME_LO => some .SYS_MODE_TIME_HI
  | .SYS_NV_TIME_LO => some .SYS_NV_TIME_HI
  | .SYS_CHN_DEVID_LO => some .SYS_CHN_DEVID_HI
  | .TB_NOW_LO => some .TB_NOW_HI
  | .TB_ORIGIN_LO => some .TB_ORIGIN_HI
  | .TB_DEBT_LO => some .TB_DEBT_HI
  | .ANG_SL_ANGLE_LO => some .ANG_SL_ANGLE_HI
  | .ANG_SL_STAMP_LO => some .ANG_SL_STAMP_HI
  | .ANG_QRY_IN_LO => some .ANG_QRY_IN_HI
  | .ANG_QRY_OUT_LO => some .ANG_QRY_OUT_HI
  | .TWL_SLOT_TGT_LO => some .TWL_SLOT_TGT_HI
  | .TWL_SLOT_STEP_LO => some .TWL_SLOT_STEP_HI
  | .TWL_PRED_LO => some .TWL_PRED_HI
  | .EDG_CNV_BOUND_LO => some .EDG_CNV_BOUND_HI
  | .CMP_CAP_LO => some .CMP_CAP_HI
  | .MTR_E_LO => some .MTR_E_HI
  | .MTR_ES_LO => some .MTR_ES_HI
  | .MTR_SNAP_TIME_LO => some .MTR_SNAP_TIME_HI
  | .JLN_RX_STAMP_LO => some .JLN_RX_STAMP_HI
  | .JLN_BUSY_END_LO => some .JLN_BUSY_END_HI
  | .JLN_BCN_TIME_LO => some .JLN_BCN_TIME_HI
  | .JLN_FCNT_LO => some .JLN_FCNT_HI
  | .MBX_STAMP_LO => some .MBX_STAMP_HI
  | .UCR_TIME_LO => some .UCR_TIME_HI
  | .UCR_ALARM_LO => some .UCR_ALARM_HI
  | _ => none

/-- The registers that a read of a register latches (R7, R91, R207, R235, R258). -/
def Reg.latches : Reg → List Reg
  | .ANG_ANGLE_LO => [.ANG_ANGLE_HI, .ANG_RATE_LO, .ANG_RATE_HI, .ANG_STAMP_LO, .ANG_STAMP_HI]
  | .GRD_REF_THETA => [.GRD_REF_DQ]
  | .AXS_OUT => [.AXS_ACC, .AXS_STAMP]
  | r => match r.hiOf with
    | some h => [h]
    | none => []

/-- The registers read from a latch. -/
def latchedRegs : List Reg :=
  [.SYS_MODE_TIME_HI, .SYS_NV_TIME_HI, .SYS_CHN_DEVID_HI, .TB_NOW_HI, .TB_ORIGIN_HI, .TB_DEBT_HI, .ANG_ANGLE_HI,
   .ANG_RATE_LO, .ANG_RATE_HI, .ANG_STAMP_LO, .ANG_STAMP_HI, .ANG_SL_ANGLE_HI, .ANG_SL_STAMP_HI, .ANG_QRY_IN_HI,
   .ANG_QRY_OUT_HI, .TWL_SLOT_TGT_HI, .TWL_SLOT_STEP_HI, .TWL_PRED_HI, .EDG_CNV_BOUND_HI, .CMP_CAP_HI] ++
  [.MTR_E_HI, .MTR_ES_HI, .MTR_SNAP_TIME_HI, .JLN_RX_STAMP_HI, .JLN_BUSY_END_HI, .JLN_BCN_TIME_HI, .JLN_FCNT_HI,
   .MBX_STAMP_HI, .UCR_TIME_HI, .UCR_ALARM_HI, .GRD_REF_DQ, .AXS_ACC, .AXS_STAMP, .ADC_FIFO_STAMP]

/-- The value of a register beside WO fields, which read 0 (R2). -/
def State.readable (s : State) (r : Reg) (i : Nat) : Nat :=
  (r.fields.filter (fun f => f.acc != .WO)).foldl (fun n f => n + s.get f i * 2 ^ f.lo) 0

/-- The live value of a register at an access: the stored one, or what the block shows in its place. -/
def State.regLive (s : State) (a : Acc) (r : Reg) (i : Nat) : Nat :=
  match r with
  | .SYS_MODE_RESULT =>
    let x := s.modeResultFor a.m
    bits x 0 4 + x / 65536 % 65536 * 65536
  | .SYS_NV_RELEASE => s.chn.release
  | .SYS_CHN_EVAL => s.evalNow
  | .TB_NOW_LO => s.tb % 4294967296
  | .TB_NOW_HI => s.tb / 4294967296 % 4294967296
  | .TB_FREQ => enc 32 (s.freqAt a.t)
  | .TB_DEBT_LO => enc 64 (s.debtAt a.t) % 4294967296
  | .TB_DEBT_HI => enc 64 (s.debtAt a.t) / 4294967296
  | .JLN_PHY_STATUS =>
    let x := s.readable r i
    (if x.testBit 4 then x - 16 else x) + (if s.jlnBusy a.t then 16 else 0)
  | .CMP_STATUS => s.readable r i / 8 * 8 + s.cmpState i
  | .IRQ_GRP_STATUS =>
    s.readable r i / 8 * 8 + ((List.range 3).filter (fun t => s.heldOff i t)).foldl (fun n t => n + 2 ^ t) 0
  | .IRQ_PEND_SET => s.get Fld.IRQ_PEND_PEND i
  | .IRQ_PEND_CLR => s.get Fld.IRQ_PEND_PEND i
  | .IRQ_EN_SET => s.get Fld.IRQ_EN_EN i
  | .IRQ_EN_CLR => s.get Fld.IRQ_EN_EN i
  | .MBX_DATA => s.mbxData a i
  | .DBG_PC => if s.halted i then (s.core i).pc.toNat else 0
  | .DBG_GREG => if s.halted (i / 32) then ((s.core (i / 32)).reg (Fin.ofNat 32 i)).toNat else 0
  | _ => s.readable r i

/-- A read of a register by a master. -/
def State.readReg (s : State) (a : Acc) (r : Reg) (i : Nat) : State :=
  match r with
  | .ADC_FIFO_DATA => s.readAdcFifo a.m i
  | .ANG_QRY_OUT_LO => s.readQryOut a i
  | _ =>
    let window := r == .ANG_QRY_CTRL || r == .ANG_QRY_IN_LO || r == .ANG_QRY_IN_HI || r == .ANG_QRY_OUT_HI
      || r == .ANG_QRY_STATUS
    if window && masterNum a.m != i then s.busErr
    else if latchedRegs.contains r then s.answer (s.latched a.m r i)
    else
      let v := s.regLive a r i
      (r.latches.foldl (fun x h => x.setLatch a.m h i (s.regLive a h i)) s).answer v

/-! ### Accesses to an address -/

/-- A master has the right of Table 20.1 or 20.8 at an address; a core's MPU has been asked by the instruction. -/
def State.mapOk (s : State) (a : Acc) (write : Bool) (addr : Nat) : Bool :=
  match accCore a with
  | some c => mapRight c (if write then .write else .read) (regionOf addr)
  | none => s.otherRight a.m write (regionOf addr)

/-- An access that no block or memory can answer: wrong size or alignment in the peripheral range (R4), a misaligned one
elsewhere, no right, or a device without power. -/
def State.accessBad (s : State) (a : Acc) (write : Bool) (addr : Nat) (sz : AccSize) : Bool :=
  !s.powered || s.pow.inReset || addr % sizeBytes sz != 0 || (regionOf addr == .periph && sz != .word)
    || !s.mapOk a write addr

/-- A read at an address: the answer stands in `resp`. -/
def State.busRead (s : State) (a : Acc) (addr : Nat) (sz : AccSize) : State :=
  if s.accessBad a false addr sz then s.busErr
  else if regionOf addr = .periph then
    match regAt addr with
    | some (r, i) => s.readReg a r i
    | none => s.busErr
  else s.answer (s.memRead (sizeBytes sz) addr)

/-- A write at an address. -/
def State.busWrite (s : State) (a : Acc) (addr : Nat) (sz : AccSize) (v : Nat) : State :=
  if s.accessBad a true addr sz then s.busErr
  else if regionOf addr = .periph then
    match regAt addr with
    | some (r, i) => s.writeReg a r i v
    | none => s.busErr
  else (s.setBytes addr (leBytes (sizeBytes sz) v)).ok

end Sys2Proof.Machine
end

