-- ==== Sys2Proof/Machine/Float.lean ====
section
/-!
DEFINITION. Sys2Proof/Machine/Float.lean: the arithmetic of the Damask (R391, R393): binary32 with round-to-nearest-even and
subnormals flushed to zero, and the bounds of the transforms.
-/

namespace Sys2Proof.Machine

/-! ### Flags (Table 22.4) -/

def fgSat : Nat := 1
def fgNv : Nat := 2
def fgDz : Nat := 4
def fgOf : Nat := 8
def fgUf : Nat := 16
def fgStale : Nat := 32

/-- A result and the flags its operation sets. -/
structure Flagged where
  v : Word
  flags : Nat := 0
  deriving DecidableEq, Repr

/-! ### Values -/

/-- A binary32 value: NaN (signalling or quiet), an infinity, or (-1)^neg m 2^e. -/
inductive FVal where
  | nan (signal : Bool)
  | inf (neg : Bool)
  | fin (neg : Bool) (m : Nat) (e : Int)
  deriving DecidableEq, Repr

/-- What a word holds; a subnormal is flushed to zero, and the second component says so. -/
def unpackF (w : Word) : FVal × Bool :=
  let neg := w.getLsbD 31
  let ex := bits w.toNat 23 8
  let fr := bits w.toNat 0 23
  if ex = 255 then (if fr = 0 then .inf neg else .nan (!fr.testBit 22), false)
  else if ex = 0 then (.fin neg 0 0, fr != 0)
  else (.fin neg (fr + 8388608) ((ex : Int) - 150), false)

def signBit (neg : Bool) : Nat := if neg then 2147483648 else 0

def infF (neg : Bool) : Word := BitVec.ofNat 32 (signBit neg + 2139095040)
def zeroF (neg : Bool) : Word := BitVec.ofNat 32 (signBit neg)

/-- A quiet NaN; its sign and payload, which IEEE 754 leaves open, are free. -/
def nanF (free : BitVec 64) : Word :=
  BitVec.ofNat 32 (2139095040 + 4194304 + free.toNat % 4194304 + free.toNat / 4294967296 % 2 * 2147483648)

/-- Round (-1)^neg m 2^e to nearest even, m above 0; with `sticky` the value lies strictly between m and m + 1. -/
def roundF (neg : Bool) (m : Nat) (e : Int) (sticky : Bool) : Flagged :=
  let k := Nat.log2 m + 1
  let q0 := if k ≤ 24 then m * 2 ^ (24 - k) else m / 2 ^ (k - 24)
  let rem := if k ≤ 24 then 0 else m % 2 ^ (k - 24)
  let half := if k ≤ 24 then 1 else 2 ^ (k - 25)
  let up := decide (half < rem) || (rem == half && (sticky || q0 % 2 == 1))
  let q1 := if up then q0 + 1 else q0
  let q := if q1 = 16777216 then 8388608 else q1
  let ex : Int := e + k - 1 + (if q1 = 16777216 then 1 else 0)
  if 127 < ex then ⟨infF neg, fgOf⟩
  else if ex < -126 then ⟨zeroF neg, fgUf⟩
  else ⟨BitVec.ofNat 32 (signBit neg + (ex + 127).toNat * 8388608 + (q - 8388608)), 0⟩

/-- The UF flag of flushed inputs. -/
def ufIf (b : Bool) : Nat := if b then fgUf else 0

/-- Add flags to a result. -/
def Flagged.with (r : Flagged) (f : Nat) : Flagged := { r with flags := Nat.lor r.flags f }

def isSNan : FVal → Bool
  | .nan s => s
  | _ => false

def isNan : FVal → Bool
  | .nan _ => true
  | _ => false

/-- An exact sum of two finite values, rounded once; a zero sum is positive unless both are negative zeros or terms. -/
def addFin (n1 : Bool) (m1 : Nat) (e1 : Int) (n2 : Bool) (m2 : Nat) (e2 : Int) : Flagged :=
  if m1 = 0 ∧ m2 = 0 then ⟨zeroF (n1 && n2), 0⟩
  else
    let e := min e1 e2
    let a : Int := (m1 * 2 ^ (e1 - e).toNat : Nat)
    let b : Int := (m2 * 2 ^ (e2 - e).toNat : Nat)
    let z := (if n1 then -a else a) + (if n2 then -b else b)
    if z = 0 then ⟨zeroF false, 0⟩ else roundF (decide (z < 0)) z.natAbs e false

/-! ### Operations -/

/-- The sum of a value and an exact product or value. -/
def addV (free : BitVec 64) (x y : FVal) : Flagged :=
  if isNan x || isNan y then ⟨nanF free, if isSNan x || isSNan y then fgNv else 0⟩
  else match x, y with
    | .inf a, .inf b => if a = b then ⟨infF a, 0⟩ else ⟨nanF free, fgNv⟩
    | .inf a, _ => ⟨infF a, 0⟩
    | _, .inf b => ⟨infF b, 0⟩
    | .fin n1 m1 e1, .fin n2 m2 e2 => addFin n1 m1 e1 n2 m2 e2
    | _, _ => ⟨nanF free, 0⟩

def negV : FVal → FVal
  | .inf n => .inf (!n)
  | .fin n m e => .fin (!n) m e
  | v => v

/-- The exact product of two values; none where it is invalid. -/
def mulV (x y : FVal) : Option FVal :=
  match x, y with
  | .inf a, .inf b => some (.inf (a != b))
  | .inf a, .fin n m _ => if m = 0 then none else some (.inf (a != n))
  | .fin n m _, .inf b => if m = 0 then none else some (.inf (n != b))
  | .fin n1 m1 e1, .fin n2 m2 e2 => some (.fin (n1 != n2) (m1 * m2) (e1 + e2))
  | .nan s, _ => some (.nan s)
  | _, .nan s => some (.nan s)

def faddW (free : BitVec 64) (a b : Word) : Flagged :=
  (addV free (unpackF a).1 (unpackF b).1).with (ufIf ((unpackF a).2 || (unpackF b).2))

def fsubW (free : BitVec 64) (a b : Word) : Flagged :=
  (addV free (unpackF a).1 (negV (unpackF b).1)).with (ufIf ((unpackF a).2 || (unpackF b).2))

def fmulW (free : BitVec 64) (a b : Word) : Flagged :=
  let x := (unpackF a).1
  let y := (unpackF b).1
  let r : Flagged :=
    if isNan x || isNan y then ⟨nanF free, if isSNan x || isSNan y then fgNv else 0⟩
    else match mulV x y with
      | none => ⟨nanF free, fgNv⟩
      | some (.fin n m e) => if m = 0 then ⟨zeroF n, 0⟩ else roundF n m e false
      | some (.inf n) => ⟨infF n, 0⟩
      | some (.nan _) => ⟨nanF free, 0⟩
  r.with (ufIf ((unpackF a).2 || (unpackF b).2))

/-- d[A] + d[B] × d[C], rounded once. Whether 0 × ∞ added to a quiet NaN is invalid is left open by IEEE 754: free. -/
def fmacW (free : BitVec 64) (acc a b : Word) : Flagged :=
  let x := (unpackF a).1
  let y := (unpackF b).1
  let z := (unpackF acc).1
  let r : Flagged :=
    if isSNan x || isSNan y || isSNan z then ⟨nanF free, fgNv⟩
    else if isNan x || isNan y then ⟨nanF free, 0⟩
    else match mulV x y with
      | none => ⟨nanF free, if isNan z && !free.getLsbD 63 then 0 else fgNv⟩
      | some p => addV free z p
  r.with (ufIf ((unpackF a).2 || (unpackF b).2 || (unpackF acc).2))

def fdivW (free : BitVec 64) (a b : Word) : Flagged :=
  let x := (unpackF a).1
  let y := (unpackF b).1
  let r : Flagged := match x, y with
    | .nan s, y => ⟨nanF free, if s || isSNan y then fgNv else 0⟩
    | _, .nan s => ⟨nanF free, if s then fgNv else 0⟩
    | .inf _, .inf _ => ⟨nanF free, fgNv⟩
    | .inf n, .fin m _ _ => ⟨infF (n != m), 0⟩
    | .fin n _ _, .inf m => ⟨zeroF (n != m), 0⟩
    | .fin n1 m1 e1, .fin n2 m2 e2 =>
      if m2 = 0 then (if m1 = 0 then ⟨nanF free, fgNv⟩ else ⟨infF (n1 != n2), fgDz⟩)
      else if m1 = 0 then ⟨zeroF (n1 != n2), 0⟩
      else roundF (n1 != n2) (m1 * 4294967296 / m2) (e1 - e2 - 32) (m1 * 4294967296 % m2 != 0)
  r.with (ufIf ((unpackF a).2 || (unpackF b).2))

def fsqrtW (free : BitVec 64) (a : Word) : Flagged :=
  let r : Flagged := match (unpackF a).1 with
    | .nan s => ⟨nanF free, if s then fgNv else 0⟩
    | .inf n => if n then ⟨nanF free, fgNv⟩ else ⟨infF false, 0⟩
    | .fin n m e =>
      if m = 0 then ⟨zeroF n, 0⟩
      else if n then ⟨nanF free, fgNv⟩
      else
        let odd : Nat := if e % 2 = 0 then 0 else 1
        let big := m * 2 ^ (40 + odd)
        let root := isqrt big
        roundF false root ((e - 40 - odd) / 2) (root * root != big)
  r.with (ufIf (unpackF a).2)

/-- Round num / den to nearest even. -/
def rneDiv (z : Int) (d : Nat) : Int :=
  let q := z / d
  let r := z % d
  if 2 * r < d then q else if (d : Int) < 2 * r then q + 1 else if q % 2 = 0 then q else q + 1

/-- Q31 of a binary32, to nearest, saturating; of a NaN, for which the spec states no value, NV and a free value. -/
def ftoqW (free : BitVec 64) (a : Word) : Flagged :=
  let r : Flagged := match (unpackF a).1 with
    | .nan _ => ⟨free.truncate 32, fgNv⟩
    | .inf n => ⟨if n then 2147483648 else 2147483647, fgSat⟩
    | .fin n m e =>
      let z : Int := if n then -(m : Int) else m
      let q := if 0 ≤ e + 31 then z * (2 ^ (e + 31).toNat : Nat) else rneDiv z (2 ^ (-(e + 31)).toNat)
      let c := clampInt (-2147483648) 2147483647 q
      ⟨BitVec.ofInt 32 c, if c = q then 0 else fgSat⟩
  r.with (ufIf (unpackF a).2)

/-- The binary32 of a Q31. -/
def qtofW (a : Word) : Flagged :=
  if a = 0 then ⟨0, 0⟩ else roundF (decide (a.toInt < 0)) a.toInt.natAbs (-31) false

/-! ### Transforms (R393) -/

/-- A value in the Q31 range, with SAT where it had to be clamped. -/
def satQ (z : Int) : Flagged :=
  let c := clampInt (-2147483648) 2147483647 z
  ⟨BitVec.ofInt 32 c, if c = z then 0 else fgSat⟩

/-- An output within 2 LSB of the ideal value that lies between `fl` and `ce`; which one is free. -/
def within2 (k : Nat) (fl ce : Int) : Int := clampInt (ce - 2) (fl + 2) (fl + Config.damaskError k)

/-- An output within 2 LSB of z / d. -/
def ratOut (k : Nat) (z : Int) (d : Nat) : Flagged := satQ (within2 k (z / d) (-((-z) / d)))

/-- An output within 2 LSB of z / √3. -/
def sqrt3Out (k : Nat) (z : Int) : Flagged :=
  let r : Int := isqrt (z.natAbs * z.natAbs / 3)
  if z = 0 then satQ (within2 k 0 0)
  else if 0 < z then satQ (within2 k r (r + 1)) else satQ (within2 k (-r - 1) (-r))

/-- π in units of 10^-40 (also the drum model's). -/
def pi40 : Nat := 31415926535897932384626433832795028841972

/-- Alternating Taylor terms of sine (from x) or cosine (from 1), 2^100 standing for 1: fuel, next divisor, term, sum. -/
def taylor : Nat → Nat → Nat → Bool → Nat → Int → Int
  | 0, _, _, _, _, acc => acc
  | k + 1, d, x2, neg, term, acc =>
    let next := term * x2 / 2 ^ 100 / (d * (d + 1))
    taylor k (d + 2) x2 (!neg) next (acc + (if neg then -(term : Int) else term))

/-- The angle of the first quadrant that the low 30 bits give, in radians × 2^100. -/
def radians (r : Nat) : Nat := r * 2 * pi40 * 2 ^ 68 / 10 ^ 40

def sinQ (r : Nat) : Int := let x := radians r; taylor 24 2 (x * x / 2 ^ 100) false x 0
def cosQ (r : Nat) : Int := let x := radians r; taylor 24 1 (x * x / 2 ^ 100) false (2 ^ 100) 0

/-- sin and cos of 2π g / 2^32, 2^100 standing for 1. -/
def sinCos (g : Nat) : Int × Int :=
  let r := g % 1073741824
  match g / 1073741824 % 4 with
  | 0 => (sinQ r, cosQ r)
  | 1 => (cosQ r, -sinQ r)
  | 2 => (-sinQ r, -cosQ r)
  | _ => (-cosQ r, sinQ r)

/-- An output within 2 LSB of a value in 2^-100, held inside the Q31 range without SAT: 1.0 lies within 2 LSB of it. -/
def trigOut (k : Nat) (z : Int) : Word :=
  (satQ (within2 k (z / (2 ^ 69 : Nat)) (-((-z) / (2 ^ 69 : Nat))))).v

end Sys2Proof.Machine
end

