-- ==== Sys2Proof/Machine/NaveCore.lean ====
section
/-!
DEFINITION. Sys2Proof/Machine/NaveCore.lean: how an instruction of a Nave core retires: taking an exception (R364, R365),
LOCKOUT (R370), breakpoints (R493), and what blocks issue (R371, R384, R386, R388).
-/

namespace Sys2Proof.Machine

/-! ### LOCKOUT (R370, R454) -/

/-- Open operations of functions that the core owns are journaled ABANDONED (R454). -/
def State.abandonOwned (s : State) (c : Nat) : State :=
  let s := ((List.range 4).filter (fun i => s.fnOwner (fnGrid i) == c)).foldl (fun s i => s.gridClose i ocAbandoned) s
  let s := ((List.range 32).filter (fun x => s.fnOwner (fnAxis x) == c)).foldl (fun s x => s.axsClose x ocAbandoned) s
  ((List.range 8).filter (fun k => s.fnOwner (fnAux k) == c)).foldl (fun s k => s.auxClose k ocAbandoned) s

/-- The core's arm bit (Table 3.4). -/
def armBit (c : Nat) : Fld := if c = 0 then Fld.SYS_CORE_ARM_ARM0 else Fld.SYS_CORE_ARM_ARM1

/-- The core enters LOCKOUT (R370): the snapshot, its arm bit, the LOCKOUT and ABANDONED records, and F3. -/
def State.lockout (s : State) (c vec check : Nat) : State :=
  let n := s.core c
  let t := s.tb
  let s := (s.set Fld.SYS_NV_STATE_LOCKOUT c 1).set Fld.SYS_NV_STATE_VECTOR c vec
  let s := (s.set Fld.SYS_NV_STATE_CHECK c check).set Fld.SYS_NV_PC_PC c n.pc.toNat
  let s := (s.set Fld.SYS_NV_STATUS_STATUS c n.status.toNat).set Fld.SYS_NV_SP_SP c n.spK.toNat
  let s := s.set64 Fld.SYS_NV_TIME_LO_TIME Fld.SYS_NV_TIME_HI_TIME c t
  let s := (s.set (armBit c) 0 0).setCore c { n with wfi := false, irqDue := false, stepping := false, busy := .idle }
  let s := s.pinEvent 0x11
    ([BitVec.ofNat 8 c, BitVec.ofNat 8 (vec + 16 * check)] ++ leBytes 4 n.pc.toNat ++ leBytes 4 n.spK.toNat)
    [leBytes 4 n.status.toNat ++ leBytes 8 t]
  ((s.abandonOwned c).faultF3 c).lpJudgeAll

/-! ### Taking an exception (R365) -/

/-- Why a frame cannot be pushed (R370): alignment 1, bounds 0, MPU 2; none where it can. -/
def Nave.frameCheck (n : Nave) (c : Nat) : Option Nat :=
  let sp := n.spK.toNat
  if sp % 8 ≠ 0 then some 1
  else if sp < 32 || decide (sp - 32 < n.splimLo.toNat) || decide (n.splimHi.toNat < sp) then some 0
  else if !([0, 4, 8, 12, 16, 20, 24, 28].all (fun k => n.right c true .write (sp - 32 + k))) then some 2
  else none

/-- NV_CAUSE of an exception: vector, detail, source, and whether it came from task level (Table 20.6). -/
def causeWord (vec detail src : Nat) (fromTask : Bool) : Word :=
  BitVec.ofNat 32 (vec + 16 * detail + 65536 * src + (if fromTask then 2147483648 else 0))

/-- The frame of Table 20.3, as bytes. -/
def excFrame (n : Nave) (epc cause tval : Word) : List Byte :=
  [epc, n.status, cause, tval, n.reg 30, n.sp, n.reg 1, n.reg 2].flatMap (fun w => leBytes 4 w.toNat)

/-- Take an exception: push the frame, go to kernel level with IE 0, and fetch from the vector's entry; or LOCKOUT. -/
def State.enterExc (s : State) (c vec detail src : Nat) (tval epc : Word) : State :=
  let n := s.core c
  match n.frameCheck c with
  | some check => s.lockout c vec check
  | none =>
    let cause := causeWord vec detail src (!n.kernel)
    let sp := n.spK - 32
    let s := s.setBytes sp.toNat (excFrame n epc cause tval)
    s.setCore c { n with
      spK := sp
      status := BitVec.ofNat 32 (n.status.toNat / 4 * 4 + 1)
      cause := cause
      tval := tval
      pc := n.vbase + BitVec.ofNat 32 (16 * vec)
      wfi := false
      irqDue := false
      busy := .idle }

/-! ### Retiring an instruction -/

/-- What an instruction does: it commits and the pc goes on, it raises an exception (vector, DETAIL, NV_TVAL), it has not
committed yet and waits for an access or for a long operation, or a watchpoint halts the core before it commits. -/
inductive Ret where
  | done (s : State) (pc : Word)
  | exc (s : State) (vec detail : Nat) (tval : Word)
  | wait (s : State)
  | halt (s : State)
  deriving DecidableEq, Repr

/-- The pc after an instruction in sequence. -/
def Nave.next (n : Nave) : Word := n.pc + 4

/-- A result goes to a general register (R376): a refused write of g31 raises STACK. -/
def State.put (s : State) (c : Nat) (rd : Fin 32) (v pc : Word) : Ret :=
  let n := s.core c
  if n.regOk rd v then .done (s.setCore c (n.setReg rd v)) pc else .exc s 6 0 v

/-- The core can issue: out of reset, powered, not in LOCKOUT, halted only where it steps, no long operation under way, and
no wait for an interrupt (R371, R384, R388, R492). -/
def State.issues (s : State) (c : Nat) : Bool :=
  let n := s.core c
  let pend := (s.nextSource c).isSome
  n.running && s.powered && !s.pow.inReset && !s.lockedOut c && (!s.halted c || n.stepping) && n.busy == .idle
    && (n.stepping || !((n.wfi && !pend) || ((n.wfi || n.irqDue) && n.ie && pend)))

/-- A breakpoint matches the pc (R493): none, or its MON. -/
def State.breakHit (s : State) (c : Nat) : Option Bool :=
  let pc := (s.core c).pc.toNat
  let hits := (List.range 4).filter (fun k =>
    s.flag Fld.DBG_BP_EN (4 * c + k) && s.get Fld.DBG_BP_ADDR (4 * c + k) == pc / 4)
  if hits.isEmpty then none else some (hits.all (fun k => s.flag Fld.DBG_BP_MON (4 * c + k)))

/-- A watchpoint matches a load or store (R493): none, or its MON. -/
def State.watchHit (s : State) (c a : Nat) (write : Bool) : Option Bool :=
  let hits := (List.range 2).filter (fun j =>
    let i := 2 * c + j
    let m := 2 ^ s.get Fld.DBG_WP_CFG_MASK i
    s.flag Fld.DBG_WP_CFG_EN i && s.flag (if write then Fld.DBG_WP_CFG_WR else Fld.DBG_WP_CFG_RD) i
      && s.get Fld.DBG_WP_ADDR_ADDR i / m == a / m)
  if hits.isEmpty then none else some (hits.all (fun j => s.flag Fld.DBG_WP_CFG_MON (2 * c + j)))

/-- The core halts (R492, R493): its converters, local outputs and functions are held at rank 1 and no fault latches. -/
def State.haltCore (s : State) (c cause : Nat) : State :=
  let s := (s.set Fld.DBG_CORE_STATUS_HALTED c 1).set Fld.DBG_CORE_STATUS_CAUSE c cause
  let s := s.set Fld.SYS_NV_STATE_HALT c 1
  let s := s.setCore c { s.core c with wfi := false, stepping := false, busy := .idle }
  let s := (s.allConvs.filter (fun v => s.cnvOwner v == c)).foldl (fun s v => s.holdWithFuncs v) s
  ((s.allLocs.filter (fun k => s.locOwner k == c)).foldl (fun s k => s.locSafe k cvSafe) s).lpJudgeAll

/-- The result of an instruction reaches the state. -/
def State.commit (s : State) (c : Nat) : Ret → State
  | .done s' pc => s'.setCore c { s'.core c with pc := pc }
  | .exc s' vec detail tval =>
    s'.enterExc c vec detail 0 tval (if vec = 7 then (s.core c).next else (s.core c).pc)
  | .wait s' => s'
  | .halt s' => s'.haltCore c 3

/-- A fetch at the pc has its right (R361, R374). -/
def State.fetchOk (s : State) (c : Nat) : Bool :=
  (s.core c).right c (s.core c).kernel .fetch (s.core c).pc.toNat

/-- IFETCH at the pc, or what the instruction does. -/
def State.fetched (s : State) (c : Nat) (body : State → Ret) : Ret :=
  if s.fetchOk c then body s else .exc s 1 0 (s.core c).pc

/-- An instruction of core c: nothing where the core cannot issue; else breakpoints, the fetch right and its own effect. A
monitor breakpoint raises BREAK unless the instruction raises a lower vector (R364, R493). -/
def State.retire (s : State) (c : Nat) (body : State → Ret) : State :=
  if !s.issues c then s
  else
    let s := s.setCore c { s.core c with wfi := false, irqDue := false }
    match (if (s.core c).stepping then none else s.breakHit c) with
    | none => s.commit c (s.fetched c body)
    | some false => s.haltCore c 2
    | some true =>
      match s.fetched c body with
      | .exc s' vec detail tval => s.commit c (if vec < 8 then .exc s' vec detail tval else .exc s 8 0 0)
      | _ => s.commit c (.exc s 8 0 0)

/-- A kernel-only instruction at task level raises PRIV with its word (R359, R382). -/
def State.kernelOnly (s : State) (c : Nat) (w : Word) (body : Ret) : Ret :=
  if (s.core c).kernel then body else .exc s 3 0 w

/-- An instruction retires as a command of the block at a time. -/
def State.runNave (s : State) (t c : Nat) (body : State → Ret) : State := (s.touch t).retire c body

end Sys2Proof.Machine
end

