-- ==== Sys2Proof/Machine/NaveAlu.lean ====
section
/-!
DEFINITION. Sys2Proof/Machine/NaveAlu.lean: the register instructions (Tables 21.3 to 21.5): ALU, multiply, divide, Q31 and
bit-field (R376 to R379).
-/

namespace Sys2Proof.Machine

/-! ### Shared forms -/

/-- A value of 32 bits from an integer, modulo 2^32. -/
def word (z : Int) : Word := BitVec.ofInt 32 z

def bool01 (b : Bool) : Word := if b then 1 else 0

/-- Clamp to the signed 32-bit range (R376). -/
def sat32 (z : Int) : Int := clampInt (-2147483648) 2147483647 z

/-- The rounded Q31 product before saturation (R377). -/
def qprod (a b : Word) : Int := (a.toInt * b.toInt + 1073741824) / 2147483648

/-- Two registers give a result. -/
def State.alu (s : State) (c : Nat) (rd rs1 rs2 : Fin 32) (f : Word → Word → Word) : Ret :=
  let n := s.core c
  s.put c rd (f (n.reg rs1) (n.reg rs2)) n.next

/-- A register gives a result. -/
def State.alu1 (s : State) (c : Nat) (rd rs1 : Fin 32) (f : Word → Word) : Ret :=
  let n := s.core c
  s.put c rd (f (n.reg rs1)) n.next

/-- The number of leading zeros of a word. -/
def clz32 (w : Word) : Nat := ((List.range 32).find? (fun i => w.getLsbD (31 - i))).getD 32

def popc32 (w : Word) : Nat := ((List.range 32).filter (fun i => w.getLsbD i)).length

/-- The byte order reversed. -/
def revb32 (w : Word) : Word := BitVec.ofNat 32 (leNat (leBytes 4 w.toNat).reverse)

/-! ### Table 21.3 -/

def State.doAdd (s : State) (c : Nat) (rd rs1 rs2 : Fin 32) : Ret := s.alu c rd rs1 rs2 (fun a b => a + b)
def State.doSub (s : State) (c : Nat) (rd rs1 rs2 : Fin 32) : Ret := s.alu c rd rs1 rs2 (fun a b => a - b)
def State.doAnd (s : State) (c : Nat) (rd rs1 rs2 : Fin 32) : Ret := s.alu c rd rs1 rs2 (fun a b => a &&& b)
def State.doOr (s : State) (c : Nat) (rd rs1 rs2 : Fin 32) : Ret := s.alu c rd rs1 rs2 (fun a b => a ||| b)
def State.doXor (s : State) (c : Nat) (rd rs1 rs2 : Fin 32) : Ret := s.alu c rd rs1 rs2 (fun a b => a ^^^ b)
def State.doSlt (s : State) (c : Nat) (rd rs1 rs2 : Fin 32) : Ret := s.alu c rd rs1 rs2 (fun a b => bool01 (a.slt b))
def State.doSltu (s : State) (c : Nat) (rd rs1 rs2 : Fin 32) : Ret := s.alu c rd rs1 rs2 (fun a b => bool01 (a.ult b))
def State.doSll (s : State) (c : Nat) (rd rs1 rs2 : Fin 32) : Ret := s.alu c rd rs1 rs2 (fun a b => a <<< (b.toNat % 32))
def State.doSrl (s : State) (c : Nat) (rd rs1 rs2 : Fin 32) : Ret := s.alu c rd rs1 rs2 (fun a b => a >>> (b.toNat % 32))
def State.doSra (s : State) (c : Nat) (rd rs1 rs2 : Fin 32) : Ret :=
  s.alu c rd rs1 rs2 (fun a b => a.sshiftRight (b.toNat % 32))
def State.doSlli (s : State) (c : Nat) (rd rs1 sh : Fin 32) : Ret := s.alu1 c rd rs1 (fun a => a <<< sh.val)
def State.doSrli (s : State) (c : Nat) (rd rs1 sh : Fin 32) : Ret := s.alu1 c rd rs1 (fun a => a >>> sh.val)
def State.doSrai (s : State) (c : Nat) (rd rs1 sh : Fin 32) : Ret := s.alu1 c rd rs1 (fun a => a.sshiftRight sh.val)
def State.doMin (s : State) (c : Nat) (rd rs1 rs2 : Fin 32) : Ret := s.alu c rd rs1 rs2 (fun a b => if a.slt b then a else b)
def State.doMax (s : State) (c : Nat) (rd rs1 rs2 : Fin 32) : Ret := s.alu c rd rs1 rs2 (fun a b => if a.slt b then b else a)
def State.doClz (s : State) (c : Nat) (rd rs1 : Fin 32) : Ret := s.alu1 c rd rs1 (fun a => BitVec.ofNat 32 (clz32 a))
def State.doPopc (s : State) (c : Nat) (rd rs1 : Fin 32) : Ret := s.alu1 c rd rs1 (fun a => BitVec.ofNat 32 (popc32 a))
def State.doRevb (s : State) (c : Nat) (rd rs1 : Fin 32) : Ret := s.alu1 c rd rs1 revb32
def State.doAddi (s : State) (c : Nat) (rd rs1 : Fin 32) (imm : BitVec 16) : Ret :=
  s.alu1 c rd rs1 (fun a => a + imm.signExtend 32)
def State.doAndi (s : State) (c : Nat) (rd rs1 : Fin 32) (imm : BitVec 16) : Ret :=
  s.alu1 c rd rs1 (fun a => a &&& imm.zeroExtend 32)
def State.doOri (s : State) (c : Nat) (rd rs1 : Fin 32) (imm : BitVec 16) : Ret :=
  s.alu1 c rd rs1 (fun a => a ||| imm.zeroExtend 32)
def State.doXori (s : State) (c : Nat) (rd rs1 : Fin 32) (imm : BitVec 16) : Ret :=
  s.alu1 c rd rs1 (fun a => a ^^^ imm.zeroExtend 32)
def State.doSlti (s : State) (c : Nat) (rd rs1 : Fin 32) (imm : BitVec 16) : Ret :=
  s.alu1 c rd rs1 (fun a => bool01 (a.slt (imm.signExtend 32)))
def State.doSltiu (s : State) (c : Nat) (rd rs1 : Fin 32) (imm : BitVec 16) : Ret :=
  s.alu1 c rd rs1 (fun a => bool01 (a.ult (imm.signExtend 32)))
def State.doLui (s : State) (c : Nat) (rd : Fin 32) (imm : BitVec 16) : Ret :=
  s.put c rd (imm.zeroExtend 32 <<< 16) (s.core c).next

/-! ### Table 21.4 -/

def State.doMul (s : State) (c : Nat) (rd rs1 rs2 : Fin 32) : Ret := s.alu c rd rs1 rs2 (fun a b => a * b)
def State.doMulh (s : State) (c : Nat) (rd rs1 rs2 : Fin 32) : Ret :=
  s.alu c rd rs1 rs2 (fun a b => word (a.toInt * b.toInt / 4294967296))
def State.doMulhu (s : State) (c : Nat) (rd rs1 rs2 : Fin 32) : Ret :=
  s.alu c rd rs1 rs2 (fun a b => BitVec.ofNat 32 (a.toNat * b.toNat / 4294967296))
def State.doQadd (s : State) (c : Nat) (rd rs1 rs2 : Fin 32) : Ret :=
  s.alu c rd rs1 rs2 (fun a b => word (sat32 (a.toInt + b.toInt)))
def State.doQsub (s : State) (c : Nat) (rd rs1 rs2 : Fin 32) : Ret :=
  s.alu c rd rs1 rs2 (fun a b => word (sat32 (a.toInt - b.toInt)))
def State.doQmul (s : State) (c : Nat) (rd rs1 rs2 : Fin 32) : Ret :=
  s.alu c rd rs1 rs2 (fun a b => word (sat32 (qprod a b)))
def State.doQmac (s : State) (c : Nat) (rd rs1 rs2 : Fin 32) : Ret :=
  let acc := ((s.core c).reg rd).toInt
  s.alu c rd rs1 rs2 (fun a b => word (sat32 (acc + qprod a b)))
def State.doQneg (s : State) (c : Nat) (rd rs1 : Fin 32) : Ret := s.alu1 c rd rs1 (fun a => word (sat32 (-a.toInt)))
def State.doQabs (s : State) (c : Nat) (rd rs1 : Fin 32) : Ret := s.alu1 c rd rs1 (fun a => word (sat32 a.toInt.natAbs))
def State.doSats (s : State) (c : Nat) (rd rs1 sh : Fin 32) : Ret :=
  s.alu1 c rd rs1 (fun a => word (clampInt (-(2 ^ sh.val : Nat)) ((2 ^ sh.val : Nat) - 1) a.toInt))

/-- The quotients and remainders of R378. -/
def divS (a b : Word) : Word := if b = 0 then 4294967295 else word (Int.tdiv a.toInt b.toInt)
def remS (a b : Word) : Word := if b = 0 then a else word (Int.tmod a.toInt b.toInt)
def divU (a b : Word) : Word := if b = 0 then 4294967295 else BitVec.ofNat 32 (a.toNat / b.toNat)
def remU (a b : Word) : Word := if b = 0 then a else BitVec.ofNat 32 (a.toNat % b.toNat)

/-- A divide issues and blocks the core until it completes (R386); it commits only then (R387). -/
def State.divide (s : State) (c : Nat) (rd rs1 rs2 : Fin 32) (f : Word → Word → Word) : Ret :=
  let n := s.core c
  .wait (s.setCore c { n with busy := .divide rd (f (n.reg rs1) (n.reg rs2)) })

def State.doDiv (s : State) (c : Nat) (rd rs1 rs2 : Fin 32) : Ret := s.divide c rd rs1 rs2 divS
def State.doDivu (s : State) (c : Nat) (rd rs1 rs2 : Fin 32) : Ret := s.divide c rd rs1 rs2 divU
def State.doRem (s : State) (c : Nat) (rd rs1 rs2 : Fin 32) : Ret := s.divide c rd rs1 rs2 remS
def State.doRemu (s : State) (c : Nat) (rd rs1 rs2 : Fin 32) : Ret := s.divide c rd rs1 rs2 remU

/-- A divide in progress delivers its result and commits. -/
def State.divideDone (s : State) (c : Nat) : State :=
  match (s.core c).busy with
  | .divide rd v =>
    let s := s.setCore c { s.core c with busy := .idle }
    s.commit c (s.put c rd v (s.core c).next)
  | _ => s

/-! ### Table 21.5 -/

/-- The field of w1 + 1 bits at pos. -/
def fieldOf (a : Word) (pos w1 : Nat) : Nat := a.toNat / 2 ^ pos % 2 ^ (w1 + 1)

def State.doExtu (s : State) (c : Nat) (rd rs1 pos w1 : Fin 32) : Ret :=
  s.alu1 c rd rs1 (fun a => BitVec.ofNat 32 (fieldOf a pos w1))
def State.doExts (s : State) (c : Nat) (rd rs1 pos w1 : Fin 32) : Ret :=
  s.alu1 c rd rs1 (fun a => word (sgn (w1 + 1) (fieldOf a pos w1)))
def State.doIns (s : State) (c : Nat) (rd rs1 pos w1 : Fin 32) : Ret :=
  let old := ((s.core c).reg rd).toNat
  s.alu1 c rd rs1 (fun a =>
    BitVec.ofNat 32 (old - fieldOf (BitVec.ofNat 32 old) pos w1 * 2 ^ pos.val + a.toNat % 2 ^ (w1.val + 1) * 2 ^ pos.val))

/-! ### Branches and jumps (R381) -/

/-- The target of a branch of 16 bits, or of a jump of 26, in words from the branch itself. -/
def Nave.target {k : Nat} (n : Nave) (off : BitVec k) : Word := n.pc + off.signExtend 32 * 4

def State.branch (s : State) (c : Nat) (rs1 rs2 : Fin 32) (off : BitVec 16) (p : Word → Word → Bool) : Ret :=
  let n := s.core c
  .done s (if p (n.reg rs1) (n.reg rs2) then n.target off else n.next)

def State.doBeq (s : State) (c : Nat) (rs1 rs2 : Fin 32) (off : BitVec 16) : Ret := s.branch c rs1 rs2 off (fun a b => a == b)
def State.doBne (s : State) (c : Nat) (rs1 rs2 : Fin 32) (off : BitVec 16) : Ret := s.branch c rs1 rs2 off (fun a b => a != b)
def State.doBlt (s : State) (c : Nat) (rs1 rs2 : Fin 32) (off : BitVec 16) : Ret := s.branch c rs1 rs2 off (fun a b => a.slt b)
def State.doBge (s : State) (c : Nat) (rs1 rs2 : Fin 32) (off : BitVec 16) : Ret := s.branch c rs1 rs2 off (fun a b => !a.slt b)
def State.doBltu (s : State) (c : Nat) (rs1 rs2 : Fin 32) (off : BitVec 16) : Ret := s.branch c rs1 rs2 off (fun a b => a.ult b)
def State.doBgeu (s : State) (c : Nat) (rs1 rs2 : Fin 32) (off : BitVec 16) : Ret := s.branch c rs1 rs2 off (fun a b => !a.ult b)
def State.doJ (s : State) (c : Nat) (off : BitVec 26) : Ret := .done s ((s.core c).target off)
def State.doJal (s : State) (c : Nat) (off : BitVec 26) : Ret :=
  let n := s.core c
  s.put c 30 n.next (n.target off)
def State.doJalr (s : State) (c : Nat) (rd rs1 : Fin 32) (imm : BitVec 16) : Ret :=
  let n := s.core c
  s.put c rd n.next ((n.reg rs1 + imm.signExtend 32) &&& 0xFFFFFFFC)

end Sys2Proof.Machine
end

