-- ==== Sys2Proof/Machine/NaveMem.lean ====
section
/-!
DEFINITION. Sys2Proof/Machine/NaveMem.lean: loads and stores (R380, Table 21.6): alignment, rights (R361, R363), watchpoints
(R493), and the access on the bus.
-/

namespace Sys2Proof.Machine

/-- The access a core makes now. -/
def State.coreAcc (s : State) (c : Nat) : Acc :=
  { m := if c = 0 then .nave0 else .nave1, kernel := (s.core c).kernel, t := s.tb }

/-- What stands before an access at an address: ALIGN, a missing right, a watchpoint; none where it is made. -/
def State.accessStop (s : State) (c a : Nat) (sz : AccSize) (write : Bool) : Option Ret :=
  let n := s.core c
  let tval := BitVec.ofNat 32 a
  if a % sizeBytes sz ≠ 0 then some (.exc s 4 0 tval)
  else if !n.right c n.kernel (if write then .write else .read) a then some (.exc s 5 0 tval)
  else if n.stepping then none
  else match s.watchHit c a write with
    | none => none
    | some true => some (.exc s 8 0 0)
    | some false => some (.halt s)

/-- A read by a core: the data, an exception, a watchpoint, or a stall (R92), in which nothing commits. -/
def State.coreRead (s : State) (c a : Nat) (sz : AccSize) (k : State → Word → Ret) : Ret :=
  match s.accessStop c a sz false with
  | some r => r
  | none =>
    let s' := s.busRead (s.coreAcc c) a sz
    match s'.resp.status with
    | .ok => k { s' with resp := s.resp } s'.resp.data
    | .stall => .wait s
    | _ => .exc { s' with resp := s.resp } 5 1 (BitVec.ofNat 32 a)

/-- A write by a core. -/
def State.coreWrite (s : State) (c a : Nat) (sz : AccSize) (v : Nat) (k : State → Ret) : Ret :=
  match s.accessStop c a sz true with
  | some r => r
  | none =>
    let s' := s.busWrite (s.coreAcc c) a sz v
    match s'.resp.status with
    | .ok => k { s' with resp := s.resp }
    | _ => .exc { s' with resp := s.resp } 5 1 (BitVec.ofNat 32 a)

/-- The effective address (R380). -/
def Nave.addr (n : Nave) (rs1 : Fin 32) (imm : BitVec 16) : Nat := (n.reg rs1 + imm.signExtend 32).toNat

/-- A load: the extension of what is read goes to rd. -/
def State.load (s : State) (c : Nat) (rd rs1 : Fin 32) (imm : BitVec 16) (sz : AccSize) (ext : Word → Word) : Ret :=
  s.coreRead c ((s.core c).addr rs1 imm) sz (fun s' v => s'.put c rd (ext v) (s'.core c).next)

/-- A store: the low bits of rs2. -/
def State.store (s : State) (c : Nat) (rs2 rs1 : Fin 32) (imm : BitVec 16) (sz : AccSize) : Ret :=
  let n := s.core c
  s.coreWrite c (n.addr rs1 imm) sz ((n.reg rs2).toNat % 2 ^ (8 * sizeBytes sz)) (fun s' => .done s' (s'.core c).next)

def State.doLb (s : State) (c : Nat) (rd rs1 : Fin 32) (imm : BitVec 16) : Ret :=
  s.load c rd rs1 imm .byte (fun v => (v.truncate 8).signExtend 32)
def State.doLbu (s : State) (c : Nat) (rd rs1 : Fin 32) (imm : BitVec 16) : Ret :=
  s.load c rd rs1 imm .byte (fun v => (v.truncate 8).zeroExtend 32)
def State.doLh (s : State) (c : Nat) (rd rs1 : Fin 32) (imm : BitVec 16) : Ret :=
  s.load c rd rs1 imm .half (fun v => (v.truncate 16).signExtend 32)
def State.doLhu (s : State) (c : Nat) (rd rs1 : Fin 32) (imm : BitVec 16) : Ret :=
  s.load c rd rs1 imm .half (fun v => (v.truncate 16).zeroExtend 32)
def State.doLw (s : State) (c : Nat) (rd rs1 : Fin 32) (imm : BitVec 16) : Ret := s.load c rd rs1 imm .word (fun v => v)
def State.doSb (s : State) (c : Nat) (rs2 rs1 : Fin 32) (imm : BitVec 16) : Ret := s.store c rs2 rs1 imm .byte
def State.doSh (s : State) (c : Nat) (rs2 rs1 : Fin 32) (imm : BitVec 16) : Ret := s.store c rs2 rs1 imm .half
def State.doSw (s : State) (c : Nat) (rs2 rs1 : Fin 32) (imm : BitVec 16) : Ret := s.store c rs2 rs1 imm .word

end Sys2Proof.Machine
end

