-- ==== Sys2Proof/Machine/NaveSys.lean ====
section
/-!
DEFINITION. Sys2Proof/Machine/NaveSys.lean: the system instructions (Table 21.8): SYSCALL, BREAK, the exception return (R366,
R388), the control registers (R360, R372, R383) and WFI (R384).
-/

namespace Sys2Proof.Machine

/-! ### Control registers (Table 20.6) -/

/-- The bits of NV_STATUS that exist: MODE, IE and MPUEN. -/
def statusMask : Word := 0x103

/-- System cycles since core reset: 64 FTU each while PLL-S does not spread (R523); free where it does. -/
def State.cycles (s : State) (c : Nat) : Nat :=
  if s.flag Fld.CLK_CFG_SPREAD 0 then s.freeWord.toNat else (s.tb - (s.core c).since) / 64

/-- A control register by number; none for one that Table 20.6 does not list. -/
def State.crRead (s : State) (c n : Nat) : Option Word :=
  let v := s.core c
  match n with
  | 0x00 => some v.status
  | 0x01 => some v.cause
  | 0x02 => some v.tval
  | 0x03 => some v.vbase
  | 0x04 => some v.spT
  | 0x05 => some v.splimLo
  | 0x06 => some v.splimHi
  | 0x07 => some v.tsplimLo
  | 0x08 => some v.tsplimHi
  | 0x09 => some (BitVec.ofNat 32 c)
  | 0x0A => some (BitVec.ofNat 32 (s.cycles c))
  | 0x0B => some (BitVec.ofNat 32 v.cycleHi)
  | _ =>
    if 0x10 ≤ n ∧ n < 0x30 then
      let r := Table.get {} v.mpu ((n - 0x10) / 2)
      some (BitVec.ofNat 32 (if n % 2 = 0 then r.base else r.attr))
    else none

/-- A read of NV_CYCLE_LO latches the upper word (R372). -/
def State.crLatch (s : State) (c n : Nat) : State :=
  if n ≠ 0x0A then s
  else
    let hi := s.cycles c / 4294967296
    let s := if s.flag Fld.CLK_CFG_SPREAD 0 then s.nextFree else s
    s.setCore c { s.core c with cycleHi := hi }

/-- A control register accepts MTCR: it is listed and not RO. -/
def crWritable (n : Nat) : Bool :=
  n == 0 || n == 3 || (decide (4 ≤ n) && decide (n ≤ 8)) || (decide (0x10 ≤ n) && decide (n < 0x30))

/-- The value a control register takes; none where it holds a reserved value (R372). -/
def Nave.crSet (v : Nave) (c n : Nat) (x : Word) : Option Nave :=
  let w := x.toNat
  match n with
  | 0x00 => if x &&& ~~~statusMask = 0 then some { v with status := x } else none
  | 0x03 => if w % 256 = 0 then some { v with vbase := BitVec.ofNat 32 (itcmBase c + w % 262144) } else none
  | 0x04 => some { v with spT := x }
  | 0x05 => if w % 8 = 0 then some { v with splimLo := x } else none
  | 0x06 => if w % 8 = 0 then some { v with splimHi := x } else none
  | 0x07 => if w % 8 = 0 then some { v with tsplimLo := x } else none
  | 0x08 => if w % 8 = 0 then some { v with tsplimHi := x } else none
  | _ =>
    let r := (n - 0x10) / 2
    let g := Table.get {} v.mpu r
    if n % 2 = 0 then
      (if w % 32 = 0 then some { v with mpu := Table.set {} v.mpu r { g with base := w } } else none)
    else if w = w % 64 + bits w 8 3 * 256 + bits w 12 3 * 4096 && decide (5 ≤ bits w 1 5) then
      some { v with mpu := Table.set {} v.mpu r { g with attr := w } }
    else none

/-! ### Table 21.8 -/

def State.doSyscall (s : State) (_c : Nat) (arg : BitVec 12) : Ret := .exc s 7 0 (arg.zeroExtend 32)

def State.doBreak (s : State) (_c : Nat) : Ret := .exc s 8 0 0

/-- The word of the frame at SP_K (Table 20.3). -/
def State.frameWord (s : State) (c k : Nat) : Word := BitVec.ofNat 32 (s.memRead 4 ((s.core c).spK.toNat + 4 * k))

/-- The exception return (R366): pc, NV_STATUS, g30, g1 and g2 come back, and SP_K rises by 32. -/
def State.doEret (s : State) (c : Nat) : Ret :=
  let n := s.core c
  let sp := n.spK.toNat
  s.kernelOnly c (wordOf .nvEret)
    (if n.splimHi.toNat < sp + 32 || sp % 8 ≠ 0 then .exc s 6 0 (n.spK + 32)
    else match [0, 4, 16, 24, 28].find? (fun k => !n.right c true .read (sp + k)) with
      | some k => .exc s 5 0 (BitVec.ofNat 32 (sp + k))
      | none =>
        let st := s.frameWord c 1 &&& statusMask
        let n' := ((n.setReg 30 (s.frameWord c 4)).setReg 1 (s.frameWord c 6)).setReg 2 (s.frameWord c 7)
        let n' := { n' with
          spK := n.spK + 32
          status := st
          irqDue := st.getLsbD 1 && (s.nextSource c).isSome }
        .done (s.setCore c n') (s.frameWord c 0 &&& 0xFFFFFFFC))

/-- MFCR: an unlisted number raises ILLEGAL, which is the lower vector at task level too (R364, R383). -/
def State.doMfcr (s : State) (c : Nat) (rd : Fin 32) (n : BitVec 8) : Ret :=
  let w := wordOf (.nvMfcr rd n)
  match s.crRead c n.toNat with
  | none => .exc s 2 0 w
  | some v => s.kernelOnly c w ((s.crLatch c n.toNat).put c rd v (s.core c).next)

/-- MTCR: an unlisted or RO number, and a reserved value, raise ILLEGAL; NV_SPT is checked under R368. -/
def State.doMtcr (s : State) (c : Nat) (rs1 : Fin 32) (n : BitVec 8) : Ret :=
  let w := wordOf (.nvMtcr rs1 n)
  let v := s.core c
  let x := v.reg rs1
  if !crWritable n.toNat then .exc s 2 0 w
  else s.kernelOnly c w
    (if n = 4 && !v.spOk false x then .exc s 6 0 x
    else match v.crSet c n.toNat x with
      | none => .exc s 2 0 w
      | some v' => .done (s.setCore c v') v.next)

/-- WFI: issue halts until an interrupt is pending for the core (R384). -/
def State.doWfi (s : State) (c : Nat) : Ret :=
  s.kernelOnly c (wordOf .nvWfi) (.done (s.setCore c { s.core c with wfi := true }) (s.core c).next)

end Sys2Proof.Machine
end

