-- ==== Sys2Proof/Machine/Damask.lean ====
section
/-!
DEFINITION. Sys2Proof/Machine/Damask.lean: the operations of Table 22.1: their results and flags, traps (R399), controller
sections (R394), the FIR bank, and the operations with effects outside the Damask (R395, R396).
-/

namespace Sys2Proof.Machine

/-! ### Registers -/

def Damask.reg (m : Damask) (x : Nat) : Word := Table.get 0 m.d x
def Damask.setReg (m : Damask) (x : Nat) (v : Word) : Damask := { m with d := Table.set 0 m.d x v }

/-- Word k of a controller section; word 7 holds 0 (R394). -/
def Damask.sec (m : Damask) (i k : Nat) : Word := if k = 7 then 0 else Table.get 0 m.sections (8 * i + k)
def Damask.setSec (m : Damask) (i k : Nat) (v : Word) : Damask :=
  if k = 7 then m else { m with sections := Table.set 0 m.sections (8 * i + k) v }

/-- FIR words: 0 to 63 coefficients, 64 to 127 history. -/
def Damask.firWord (m : Damask) (k : Nat) : Word := Table.get 0 m.fir k
def Damask.setFir (m : Damask) (k : Nat) (v : Word) : Damask := { m with fir := Table.set 0 m.fir k v }

/-- The code of Table 22.3 of the lowest flag of a set. -/
def lowFlag (f : Nat) : Nat :=
  if f.testBit 0 then 1 else if f.testBit 1 then 2 else if f.testBit 2 then 3 else if f.testBit 3 then 4
  else if f.testBit 4 then 5 else 7

/-- A Damask operation of core c. -/
def State.dm (s : State) (c : Nat) : Damask := (s.core c).dm
def State.setDm (s : State) (c : Nat) (m : Damask) : State := s.setCore c { s.core c with dm := m }

/-- Flags set, and where one of them has its trap enabled no result is written and DAMASK is raised (R399). -/
def State.flagged (s : State) (c : Nat) (w : Word) (flags : Nat) (k : State → Ret) : Ret :=
  let m := s.dm c
  let s := s.setDm c { m with status := Nat.lor m.status flags }
  let trap := Nat.land flags (bits m.status 8 6)
  if trap = 0 then k s else .exc s 9 (lowFlag trap) w

/-- An operation that writes Damask registers. -/
def State.dmOut (s : State) (c : Nat) (w : Word) (flags : Nat) (outs : List (Nat × Word)) : Ret :=
  s.flagged c w flags (fun s =>
    .done (s.setDm c (outs.foldl (fun m o => m.setReg o.1 o.2) (s.dm c))) (s.core c).next)

/-- One flagged result. -/
def State.dmOne (s : State) (c : Nat) (w : Word) (x : Nat) (r : Flagged) : Ret := s.dmOut c w r.flags [(x, r.v)]

/-- Two flagged results of a register pair. -/
def State.dmPair (s : State) (c : Nat) (w : Word) (x : Nat) (a b : Flagged) : Ret :=
  s.dmOut c w (Nat.lor a.flags b.flags) [(x, a.v), (x + 1, b.v)]

/-- The state with the free values a transform took behind it. -/
def State.skipFree (s : State) (k : Nat) : State := { s with free := s.free + k }

/-- A long operation issues and blocks the core until it completes (R390); it commits only then (R398). -/
def State.long (s : State) (c fn : Nat) (x y z : Fin 32) : Ret :=
  .wait (s.setCore c { s.core c with busy := .damask fn x y z })

/-! ### Moves -/

def State.doDmtd (s : State) (c : Nat) (x y : Fin 32) : Ret :=
  .done (s.setDm c ((s.dm c).setReg x ((s.core c).reg y))) (s.core c).next
def State.doDmfd (s : State) (c : Nat) (x y : Fin 32) : Ret := s.put c x ((s.dm c).reg y) (s.core c).next
def State.doDmfs (s : State) (c : Nat) (x : Fin 32) : Ret := s.put c x (BitVec.ofNat 32 (s.dm c).status) (s.core c).next

/-- dmts: the sticky flags and TRAPEN (Table 22.4). -/
def State.doDmts (s : State) (c : Nat) (y : Fin 32) : Ret :=
  let v := ((s.core c).reg y).toNat
  .done (s.setDm c { s.dm c with status := v % 64 + bits v 8 6 * 256 }) (s.core c).next

/-! ### Q31 -/

/-- Two Damask registers give a Q31 result. -/
def State.q31 (s : State) (c : Nat) (w : Word) (x y z : Fin 32) (f : Int → Int → Int) : Ret :=
  s.dmOne c w x (satQ (f ((s.dm c).reg y).toInt ((s.dm c).reg z).toInt))

def State.doDqadd (s : State) (c : Nat) (x y z : Fin 32) : Ret := s.q31 c (wordOf (.dkDqadd x y z)) x y z (fun a b => a + b)
def State.doDqsub (s : State) (c : Nat) (x y z : Fin 32) : Ret := s.q31 c (wordOf (.dkDqsub x y z)) x y z (fun a b => a - b)
def State.doDqmul (s : State) (c : Nat) (x y z : Fin 32) : Ret :=
  s.dmOne c (wordOf (.dkDqmul x y z)) x (satQ (qprod ((s.dm c).reg y) ((s.dm c).reg z)))

/-- dqmac: the product saturates as qmul's, then the sum. -/
def State.doDqmac (s : State) (c : Nat) (x y z : Fin 32) : Ret :=
  let m := s.dm c
  let p := satQ (qprod (m.reg y) (m.reg z))
  s.dmOne c (wordOf (.dkDqmac x y z)) x ((satQ ((m.reg x).toInt + p.v.toInt)).with p.flags)

def State.doDqdiv (s : State) (c : Nat) (x y z : Fin 32) : Ret := s.long c 0x14 x y z

/-- dqdiv: the quotient as Q31, its rounding free; a divisor of 0 gives full scale of the dividend's sign, free for 0, and
sets DZ. -/
def State.endDqdiv (s : State) (c : Nat) (x y z : Fin 32) : Ret :=
  let a := ((s.dm c).reg y).toInt
  let b := ((s.dm c).reg z).toInt
  let free := s.freeWord
  let w := wordOf (.dkDqdiv x y z)
  let s := s.nextFree
  if b = 0 then
    let neg := decide (a < 0) || (a == 0 && free.getLsbD 0)
    s.dmOne c w x ⟨if neg then 2147483648 else 2147483647, fgDz⟩
  else
    let num := (if b < 0 then -a else a) * 2147483648
    s.dmOne c w x (satQ (roundFree free num b.natAbs))

/-! ### binary32 -/

/-- Two Damask registers give a binary32 result. -/
def State.float2 (s : State) (c : Nat) (w : Word) (x y z : Fin 32) (f : BitVec 64 → Word → Word → Flagged) : Ret :=
  s.nextFree.dmOne c w x (f s.freeWord ((s.dm c).reg y) ((s.dm c).reg z))

def State.doFadd (s : State) (c : Nat) (x y z : Fin 32) : Ret := s.float2 c (wordOf (.dkFadd x y z)) x y z faddW
def State.doFsub (s : State) (c : Nat) (x y z : Fin 32) : Ret := s.float2 c (wordOf (.dkFsub x y z)) x y z fsubW
def State.doFmul (s : State) (c : Nat) (x y z : Fin 32) : Ret := s.float2 c (wordOf (.dkFmul x y z)) x y z fmulW
def State.doFmac (s : State) (c : Nat) (x y z : Fin 32) : Ret :=
  s.nextFree.dmOne c (wordOf (.dkFmac x y z)) x
    (fmacW s.freeWord ((s.dm c).reg x) ((s.dm c).reg y) ((s.dm c).reg z))
def State.doFdiv (s : State) (c : Nat) (x y z : Fin 32) : Ret := s.long c 0x24 x y z
def State.endFdiv (s : State) (c : Nat) (x y z : Fin 32) : Ret := s.float2 c (wordOf (.dkFdiv x y z)) x y z fdivW
def State.doFsqrt (s : State) (c : Nat) (x y : Fin 32) : Ret := s.long c 0x25 x y 0
def State.endFsqrt (s : State) (c : Nat) (x y : Fin 32) : Ret :=
  s.nextFree.dmOne c (wordOf (.dkFsqrt x y)) x (fsqrtW s.freeWord ((s.dm c).reg y))
def State.doFtoq (s : State) (c : Nat) (x y : Fin 32) : Ret :=
  s.nextFree.dmOne c (wordOf (.dkFtoq x y)) x (ftoqW s.freeWord ((s.dm c).reg y))
def State.doQtof (s : State) (c : Nat) (x y : Fin 32) : Ret :=
  s.dmOne c (wordOf (.dkQtof x y)) x (qtofW ((s.dm c).reg y))

/-! ### Transforms (R393) -/

/-- Signed value of a Damask register. -/
def State.dmInt (s : State) (c x : Nat) : Int := ((s.dm c).reg x).toInt

/-- Two sums of Q31 products, each within 2 LSB. -/
def State.products (s : State) (c : Nat) (w : Word) (x : Fin 32) (p q : Int) : Ret :=
  (s.skipFree 2).dmPair c w x (ratOut s.free p 2147483648) (ratOut (s.free + 1) q 2147483648)

def State.doCmul (s : State) (c : Nat) (x y z : Fin 32) : Ret :=
  let b0 := s.dmInt c y
  let b1 := s.dmInt c (y + 1)
  let c0 := s.dmInt c z
  let c1 := s.dmInt c (z + 1)
  s.products c (wordOf (.dkCmul x y z)) x (b0 * c0 - b1 * c1) (b0 * c1 + b1 * c0)

def State.doClarke (s : State) (c : Nat) (x y : Fin 32) : Ret :=
  let a := s.dmInt c y
  let b := s.dmInt c (y + 1)
  let d := s.dmInt c (y + 2)
  (s.skipFree 2).dmPair c (wordOf (.dkClarke x y)) x (ratOut s.free (2 * a - b - d) 3) (sqrt3Out (s.free + 1) (b - d))

def State.doPark (s : State) (c : Nat) (x y z : Fin 32) : Ret :=
  let al := s.dmInt c y
  let be := s.dmInt c (y + 1)
  let sn := s.dmInt c z
  let cs := s.dmInt c (z + 1)
  s.products c (wordOf (.dkPark x y z)) x (al * cs + be * sn) (be * cs - al * sn)

def State.doIpark (s : State) (c : Nat) (x y z : Fin 32) : Ret :=
  let d := s.dmInt c y
  let q := s.dmInt c (y + 1)
  let sn := s.dmInt c z
  let cs := s.dmInt c (z + 1)
  s.products c (wordOf (.dkIpark x y z)) x (d * cs - q * sn) (d * sn + q * cs)

def State.doSincos (s : State) (c : Nat) (x y : Fin 32) : Ret :=
  let r := sinCos ((s.core c).reg y).toNat
  (s.skipFree 2).dmOut c (wordOf (.dkSincos x y)) 0 [(x, trigOut s.free r.1), (x + 1, trigOut (s.free + 1) r.2)]

/-! ### Controller sections (R394) -/

/-- A section's word as an integer in 2^-29. -/
def Damask.secInt (m : Damask) (i k : Nat) : Int := (m.sec i k).toInt

/-- A step's output and states: flags, d[A], and the section's words 5 and 6. Where the spec gives no rounding from 2^-60,
the neighbour taken is free. -/
def State.sectionOut (s : State) (c : Nat) (w : Word) (x z : Fin 32) (y s1 s2 : Flagged) : Ret :=
  s.flagged c w (Nat.lor y.flags (Nat.lor s1.flags s2.flags)) (fun s =>
    .done (s.setDm c ((((s.dm c).setReg x y.v).setSec z 5 s1.v).setSec z 6 s2.v)) (s.core c).next)

/-- bq: direct form II transposed. -/
def State.doBq (s : State) (c : Nat) (x y z : Fin 32) : Ret :=
  let m := s.dm c
  let e := s.dmInt c y
  let k := m.secInt z
  let u := 2147483648
  let f (n : Nat) : BitVec 64 := Config.freeWord (s.free + n)
  let out := satQ (roundFree (f 0) (k 0 * e + k 5 * u) 536870912)
  let o := out.v.toInt
  let s1 := satQ (roundFree (f 1) (k 1 * e - k 3 * o + k 6 * u) 2147483648)
  let s2 := satQ (roundFree (f 2) (k 2 * e - k 4 * o) 2147483648)
  (s.skipFree 3).sectionOut c (wordOf (.dkBq x y z)) x z out s1 s2

/-- pr: the resonant step. -/
def State.doPr (s : State) (c : Nat) (x y z : Fin 32) : Ret :=
  let m := s.dm c
  let e := s.dmInt c y
  let k := m.secInt z
  let f (n : Nat) : BitVec 64 := Config.freeWord (s.free + n)
  let r := satQ (roundFree (f 0) (4 * (k 2 * k 5) - k 6 * 2147483648 + k 1 * e) 2147483648)
  let out := satQ (roundFree (f 1) (k 0 * e + r.v.toInt * 2147483648) 536870912)
  (s.skipFree 2).sectionOut c (wordOf (.dkPr x y z)) x z out r ⟨m.sec z 5, 0⟩

def State.doDsecr (s : State) (c : Nat) (x y z : Fin 32) : Ret :=
  .done (s.setDm c ((s.dm c).setReg x ((s.dm c).sec z y))) (s.core c).next
def State.doDsecw (s : State) (c : Nat) (x y z : Fin 32) : Ret :=
  .done (s.setDm c ((s.dm c).setSec z y ((s.dm c).reg x))) (s.core c).next

/-! ### FIR -/

def State.doFir (s : State) (c : Nat) (x y : Fin 32) : Ret := s.long c 0x44 x y 0

/-- fir: the history moves on by d[B], the newest at word 64; the products round half up (R377) before the sum saturates. -/
def State.endFir (s : State) (c : Nat) (x y : Fin 32) : Ret :=
  let m := s.dm c
  let m' := ((List.range 63).reverse).foldl (fun (n : Damask) k => n.setFir (65 + k) (m.firWord (64 + k))) m
  let m' := m'.setFir 64 (m.reg y)
  let sum := (List.range 64).foldl (fun (z : Int) k => z + qprod (m'.firWord k) (m'.firWord (64 + k))) 0
  let r := satQ sum
  s.flagged c (wordOf (.dkFir x y)) r.flags (fun s =>
    .done (s.setDm c (({ m' with status := (s.dm c).status }).setReg x r.v)) (s.core c).next)

def State.doFirw (s : State) (c : Nat) (x y : Fin 32) : Ret :=
  let k := ((s.core c).reg y).toNat % 128
  .done (s.setDm c ((s.dm c).setFir k ((s.dm c).reg x))) (s.core c).next

/-! ### Outside the Damask (R395) -/

def State.dmAddr (s : State) (c : Nat) (y z : Fin 32) : Nat := ((s.core c).reg y + BitVec.ofNat 32 (4 * z.val)).toNat

def State.doDld (s : State) (c : Nat) (x y z : Fin 32) : Ret :=
  s.coreRead c (s.dmAddr c y z) .word (fun s v => .done (s.setDm c ((s.dm c).setReg x v)) (s.core c).next)

def State.doDst (s : State) (c : Nat) (x y z : Fin 32) : Ret :=
  s.coreWrite c (s.dmAddr c y z) .word ((s.dm c).reg x).toNat (fun s => .done s (s.core c).next)

/-- dtrk: the fraction and ANG_FREQ of a tracker's latest update; NEW clears, and STALE sets where it was clear. -/
def State.doDtrk (s : State) (c : Nat) (x y : Fin 32) : Ret :=
  let n := ((s.core c).reg y).toNat % 64
  let isNew := (s.dm c).newBits.testBit n
  let a := BitVec.ofNat 32 (s.get Fld.ANG_ANGLE_LO_ANGLE n)
  let f := BitVec.ofNat 32 (s.get Fld.ANG_FREQ_FREQ n)
  s.flagged c (wordOf (.dkDtrk x y)) (if isNew then 0 else fgStale) (fun s =>
    let m := s.dm c
    .done (s.setDm c ((({ m with newBits := clrBit m.newBits n }).setReg x a).setReg (x + 1) f)) (s.core c).next)

/-- dedg: ON and OFF of a leg from the duty d[A], by the owning core (R131). -/
def State.doDedg (s : State) (c : Nat) (x y : Fin 32) : Ret :=
  let n := ((s.core c).reg y).toNat % 256
  let w := wordOf (.dkDedg x y)
  match s.legConv n with
  | none => .exc s 9 6 w
  | some v =>
    let d := s.dmInt c x
    let duty := if d < 0 then 0 else d.toNat
    if !s.legWriter (s.coreAcc c) n then .exc s 5 1 (BitVec.ofNat 32 (0x40054000 + 16 * n))
    else s.flagged c w (if d < 0 then fgSat else 0) (fun s =>
      let p := s.get Fld.EDG_CNV_PERIOD_SH_PERIOD v
      let on := (2 * (p * (2147483648 - duty)) + 4294967296) / 8589934592
      .done ((s.set Fld.EDG_LEG_ON_SH_OFFSET n on).set Fld.EDG_LEG_OFF_SH_OFFSET n (p - on)) (s.core c).next)

/-! ### Completion and abort (R390, R397) -/

/-- A long operation completes: it commits now. -/
def State.longDone (s : State) (c : Nat) : State :=
  match (s.core c).busy with
  | .damask fn x y z =>
    let s := s.setCore c { s.core c with busy := .idle }
    let x := Fin.ofNat 32 x
    let y := Fin.ofNat 32 y
    let z := Fin.ofNat 32 z
    match fn with
    | 0x14 => s.commit c (s.endDqdiv c x y z)
    | 0x24 => s.commit c (s.endFdiv c x y z)
    | 0x25 => s.commit c (s.endFsqrt c x y)
    | _ => s.commit c (s.endFir c x y)
  | _ => s

/-- A long operation in progress is aborted with nothing changed (R397). -/
def State.squash (s : State) (c : Nat) : State :=
  match (s.core c).busy with
  | .damask _ _ _ _ => s.setCore c { s.core c with busy := .idle }
  | _ => s

end Sys2Proof.Machine
end

