-- ==== Sys2Proof/Machine/NaveRun.lean ====
section
/-!
DEFINITION. Sys2Proof/Machine/NaveRun.lean: an instruction as a command of the block: what its word does (chapters 21, 22),
ILLEGAL for a word with a reserved value (R375), IFETCH, the completion of long operations, interrupt entry and release.
-/

namespace Sys2Proof.Machine

/-- What a well-formed instruction does. -/
def State.effect (s : State) (c : Nat) : NaveInstr → Ret
  | .nvAdd rd rs1 rs2 => s.doAdd c rd rs1 rs2
  | .nvSub rd rs1 rs2 => s.doSub c rd rs1 rs2
  | .nvAnd rd rs1 rs2 => s.doAnd c rd rs1 rs2
  | .nvOr rd rs1 rs2 => s.doOr c rd rs1 rs2
  | .nvXor rd rs1 rs2 => s.doXor c rd rs1 rs2
  | .nvSlt rd rs1 rs2 => s.doSlt c rd rs1 rs2
  | .nvSltu rd rs1 rs2 => s.doSltu c rd rs1 rs2
  | .nvSll rd rs1 rs2 => s.doSll c rd rs1 rs2
  | .nvSrl rd rs1 rs2 => s.doSrl c rd rs1 rs2
  | .nvSra rd rs1 rs2 => s.doSra c rd rs1 rs2
  | .nvSlli rd rs1 sh => s.doSlli c rd rs1 sh
  | .nvSrli rd rs1 sh => s.doSrli c rd rs1 sh
  | .nvSrai rd rs1 sh => s.doSrai c rd rs1 sh
  | .nvMin rd rs1 rs2 => s.doMin c rd rs1 rs2
  | .nvMax rd rs1 rs2 => s.doMax c rd rs1 rs2
  | .nvClz rd rs1 => s.doClz c rd rs1
  | .nvPopc rd rs1 => s.doPopc c rd rs1
  | .nvRevb rd rs1 => s.doRevb c rd rs1
  | .nvAddi rd rs1 imm => s.doAddi c rd rs1 imm
  | .nvAndi rd rs1 imm => s.doAndi c rd rs1 imm
  | .nvOri rd rs1 imm => s.doOri c rd rs1 imm
  | .nvXori rd rs1 imm => s.doXori c rd rs1 imm
  | .nvSlti rd rs1 imm => s.doSlti c rd rs1 imm
  | .nvSltiu rd rs1 imm => s.doSltiu c rd rs1 imm
  | .nvLui rd imm => s.doLui c rd imm
  | .nvMul rd rs1 rs2 => s.doMul c rd rs1 rs2
  | .nvMulh rd rs1 rs2 => s.doMulh c rd rs1 rs2
  | .nvMulhu rd rs1 rs2 => s.doMulhu c rd rs1 rs2
  | .nvDiv rd rs1 rs2 => s.doDiv c rd rs1 rs2
  | .nvDivu rd rs1 rs2 => s.doDivu c rd rs1 rs2
  | .nvRem rd rs1 rs2 => s.doRem c rd rs1 rs2
  | .nvRemu rd rs1 rs2 => s.doRemu c rd rs1 rs2
  | .nvQadd rd rs1 rs2 => s.doQadd c rd rs1 rs2
  | .nvQsub rd rs1 rs2 => s.doQsub c rd rs1 rs2
  | .nvQmul rd rs1 rs2 => s.doQmul c rd rs1 rs2
  | .nvQmac rd rs1 rs2 => s.doQmac c rd rs1 rs2
  | .nvQneg rd rs1 => s.doQneg c rd rs1
  | .nvQabs rd rs1 => s.doQabs c rd rs1
  | .nvSats rd rs1 sh => s.doSats c rd rs1 sh
  | .nvExtu rd rs1 pos w1 => s.doExtu c rd rs1 pos w1
  | .nvExts rd rs1 pos w1 => s.doExts c rd rs1 pos w1
  | .nvIns rd rs1 pos w1 => s.doIns c rd rs1 pos w1
  | .nvLb rd rs1 imm => s.doLb c rd rs1 imm
  | .nvLbu rd rs1 imm => s.doLbu c rd rs1 imm
  | .nvLh rd rs1 imm => s.doLh c rd rs1 imm
  | .nvLhu rd rs1 imm => s.doLhu c rd rs1 imm
  | .nvLw rd rs1 imm => s.doLw c rd rs1 imm
  | .nvSb rs2 rs1 imm => s.doSb c rs2 rs1 imm
  | .nvSh rs2 rs1 imm => s.doSh c rs2 rs1 imm
  | .nvSw rs2 rs1 imm => s.doSw c rs2 rs1 imm
  | .nvBeq rs1 rs2 off => s.doBeq c rs1 rs2 off
  | .nvBne rs1 rs2 off => s.doBne c rs1 rs2 off
  | .nvBlt rs1 rs2 off => s.doBlt c rs1 rs2 off
  | .nvBge rs1 rs2 off => s.doBge c rs1 rs2 off
  | .nvBltu rs1 rs2 off => s.doBltu c rs1 rs2 off
  | .nvBgeu rs1 rs2 off => s.doBgeu c rs1 rs2 off
  | .nvJ off => s.doJ c off
  | .nvJal off => s.doJal c off
  | .nvJalr rd rs1 imm => s.doJalr c rd rs1 imm
  | .nvSyscall arg => s.doSyscall c arg
  | .nvBreak => s.doBreak c
  | .nvEret => s.doEret c
  | .nvMfcr rd n => s.doMfcr c rd n
  | .nvMtcr rs1 n => s.doMtcr c rs1 n
  | .nvWfi => s.doWfi c
  | .dkDmtd x y => s.doDmtd c x y
  | .dkDmfd x y => s.doDmfd c x y
  | .dkDmfs x => s.doDmfs c x
  | .dkDmts y => s.doDmts c y
  | .dkDqadd x y z => s.doDqadd c x y z
  | .dkDqsub x y z => s.doDqsub c x y z
  | .dkDqmul x y z => s.doDqmul c x y z
  | .dkDqmac x y z => s.doDqmac c x y z
  | .dkDqdiv x y z => s.doDqdiv c x y z
  | .dkFadd x y z => s.doFadd c x y z
  | .dkFsub x y z => s.doFsub c x y z
  | .dkFmul x y z => s.doFmul c x y z
  | .dkFmac x y z => s.doFmac c x y z
  | .dkFdiv x y z => s.doFdiv c x y z
  | .dkFsqrt x y => s.doFsqrt c x y
  | .dkFtoq x y => s.doFtoq c x y
  | .dkQtof x y => s.doQtof c x y
  | .dkCmul x y z => s.doCmul c x y z
  | .dkClarke x y => s.doClarke c x y
  | .dkPark x y z => s.doPark c x y z
  | .dkIpark x y z => s.doIpark c x y z
  | .dkSincos x y => s.doSincos c x y
  | .dkBq x y z => s.doBq c x y z
  | .dkPr x y z => s.doPr c x y z
  | .dkDsecr x y z => s.doDsecr c x y z
  | .dkDsecw x y z => s.doDsecw c x y z
  | .dkFir x y => s.doFir c x y
  | .dkFirw x y => s.doFirw c x y
  | .dkDld x y z => s.doDld c x y z
  | .dkDst x y z => s.doDst c x y z
  | .dkDtrk x y => s.doDtrk c x y
  | .dkDedg x y => s.doDedg c x y

/-- An instruction, or ILLEGAL with its word where its fields hold a reserved value (R375). -/
def State.decoded (s : State) (c : Nat) (n : NaveInstr) : Ret := if n.wf then s.effect c n else .exc s 2 0 (wordOf n)

/-- Core c commits an instruction at a time. -/
def State.runInstr (s : State) (t c : Nat) (n : NaveInstr) : State := s.runNave t c (fun s => s.decoded c n)

/-- What the word w does (R375). -/
def State.runWord (s : State) (c : Nat) (w : Word) : Ret :=
  match decodeNave w.toNat with
  | some n => s.effect c n
  | none => .exc s 2 0 w

/-! ### Interrupts (R364, R365, R403) -/

/-- A target takes an interrupt: a core pushes a frame; Chancel keeps none. -/
def State.irqEntry (s : State) (t : Nat) : State :=
  match s.nextSource t with
  | none => s
  | some src =>
    if t = 2 then (if s.powered && !s.pow.inReset then s.takeSource 2 src else s)
    else
      let n := s.core t
      if !n.running || !n.ie || s.halted t || s.lockedOut t || !s.powered || s.pow.inReset then s
      else
        let s := s.takeSource t src
        s.enterExc t 10 0 src (BitVec.ofNat 32 src) n.pc

/-! ### Release from LOCKOUT (R371) -/

/-- The bytes of a range leave memory: they read 0. -/
def State.clearRange (s : State) (lo len : Nat) : State :=
  { s with mem := s.mem.filter (fun e => decide (e.1 < lo) || decide (lo + len ≤ e.1)) }

/-- A release ends: with the recorded hash the data TCM is cleared and the core is reset; else it stays in LOCKOUT. -/
def State.releaseDone (s : State) (c : Nat) : State :=
  if !s.chn.release.testBit c then s
  else
    let s := { s with chn := { s.chn with release := clrBit s.chn.release c } }
    if Config.sha256 (s.bytes 0x40000 (itcmBase c)) ≠ Table.get 0 s.chn.itcmHash c then
      s.set Fld.SYS_NV_STATE_RELREF c 1
    else
      let s := (s.clearRange (dtcmBase c) 0x40000).setCore c { Nave.init c with running := true, since := s.tb }
      let s := (s.set Fld.SYS_NV_STATE_LOCKOUT c 0).set Fld.SYS_NV_STATE_RELREF c 0
      let s := s.setBitOf Fld.FLT_DEV_F3CORE 0 c false
      let cs := s.allConvs.filter (fun v => s.cnvOwner v == c)
      let s := cs.foldl (fun s v => (s.set Fld.FLT_CNV_F3 v 0).convReleased v) s
      ((s.allLocs.filter (fun k => s.locOwner k == c)).foldl (fun s k => s.locReleased k) s).lpJudgeAll

/-! ### Meanings beside the instructions -/

/-- DIVIDE_COMPLETE (R386). -/
def execDivideComplete (t : Nat) (c : Fin 2) (s : State) : Out := .next ((s.touch t).divideDone c)

/-- DAMASK_LONG_COMPLETE (R390). -/
def execDamaskLongComplete (t : Nat) (c : Fin 2) (s : State) : Out := .next ((s.touch t).longDone c)

/-- SQUASH (R397). -/
def execSquash (t : Nat) (c : Fin 2) (s : State) : Out := .next ((s.touch t).squash c)

/-- ILLEGAL_INSTRUCTION (R375): a word that holds an instruction is no such word. -/
def execIllegalInstruction (t : Nat) (c : Fin 2) (w : Word) (s : State) : Out :=
  .next (if (decodeNave w.toNat).isSome then s.touch t else s.runNave t c (fun s => .exc s 2 0 w))

/-- IFETCH_FAULT (R364): nothing where the pc has its right. -/
def execIfetchFault (t : Nat) (c : Fin 2) (s : State) : Out :=
  .next (if s.fetchOk c then s.touch t else s.runNave t c (fun s => .exc s 1 0 (s.core c).pc))

/-- IRQ_ENTRY (R365, R403). -/
def execIrqEntry (t : Nat) (target : Fin 3) (s : State) : Out := .next ((s.touch t).irqEntry target)

/-- NAVE_RELEASE_DONE (R371). -/
def execNaveReleaseDone (t : Nat) (c : Fin 2) (s : State) : Out := .next ((s.touch t).releaseDone c)

/-! ### Meanings of the instructions -/

/-- ADD (R376). -/
def execNvAdd (t : Nat) (c : Fin 2) (rd : Fin 32) (rs1 : Fin 32) (rs2 : Fin 32) (s : State) : Out :=
  .next (s.runInstr t c (.nvAdd rd rs1 rs2))

/-- SUB (R376). -/
def execNvSub (t : Nat) (c : Fin 2) (rd : Fin 32) (rs1 : Fin 32) (rs2 : Fin 32) (s : State) : Out :=
  .next (s.runInstr t c (.nvSub rd rs1 rs2))

/-- AND (R376). -/
def execNvAnd (t : Nat) (c : Fin 2) (rd : Fin 32) (rs1 : Fin 32) (rs2 : Fin 32) (s : State) : Out :=
  .next (s.runInstr t c (.nvAnd rd rs1 rs2))

/-- OR (R376). -/
def execNvOr (t : Nat) (c : Fin 2) (rd : Fin 32) (rs1 : Fin 32) (rs2 : Fin 32) (s : State) : Out :=
  .next (s.runInstr t c (.nvOr rd rs1 rs2))

/-- XOR (R376). -/
def execNvXor (t : Nat) (c : Fin 2) (rd : Fin 32) (rs1 : Fin 32) (rs2 : Fin 32) (s : State) : Out :=
  .next (s.runInstr t c (.nvXor rd rs1 rs2))

/-- SLT (R376). -/
def execNvSlt (t : Nat) (c : Fin 2) (rd : Fin 32) (rs1 : Fin 32) (rs2 : Fin 32) (s : State) : Out :=
  .next (s.runInstr t c (.nvSlt rd rs1 rs2))

/-- SLTU (R376). -/
def execNvSltu (t : Nat) (c : Fin 2) (rd : Fin 32) (rs1 : Fin 32) (rs2 : Fin 32) (s : State) : Out :=
  .next (s.runInstr t c (.nvSltu rd rs1 rs2))

/-- SLL (R376). -/
def execNvSll (t : Nat) (c : Fin 2) (rd : Fin 32) (rs1 : Fin 32) (rs2 : Fin 32) (s : State) : Out :=
  .next (s.runInstr t c (.nvSll rd rs1 rs2))

/-- SRL (R376). -/
def execNvSrl (t : Nat) (c : Fin 2) (rd : Fin 32) (rs1 : Fin 32) (rs2 : Fin 32) (s : State) : Out :=
  .next (s.runInstr t c (.nvSrl rd rs1 rs2))

/-- SRA (R376). -/
def execNvSra (t : Nat) (c : Fin 2) (rd : Fin 32) (rs1 : Fin 32) (rs2 : Fin 32) (s : State) : Out :=
  .next (s.runInstr t c (.nvSra rd rs1 rs2))

/-- SLLI (R376). -/
def execNvSlli (t : Nat) (c : Fin 2) (rd : Fin 32) (rs1 : Fin 32) (sh : Fin 32) (s : State) : Out :=
  .next (s.runInstr t c (.nvSlli rd rs1 sh))

/-- SRLI (R376). -/
def execNvSrli (t : Nat) (c : Fin 2) (rd : Fin 32) (rs1 : Fin 32) (sh : Fin 32) (s : State) : Out :=
  .next (s.runInstr t c (.nvSrli rd rs1 sh))

/-- SRAI (R376). -/
def execNvSrai (t : Nat) (c : Fin 2) (rd : Fin 32) (rs1 : Fin 32) (sh : Fin 32) (s : State) : Out :=
  .next (s.runInstr t c (.nvSrai rd rs1 sh))

/-- MIN (R376). -/
def execNvMin (t : Nat) (c : Fin 2) (rd : Fin 32) (rs1 : Fin 32) (rs2 : Fin 32) (s : State) : Out :=
  .next (s.runInstr t c (.nvMin rd rs1 rs2))

/-- MAX (R376). -/
def execNvMax (t : Nat) (c : Fin 2) (rd : Fin 32) (rs1 : Fin 32) (rs2 : Fin 32) (s : State) : Out :=
  .next (s.runInstr t c (.nvMax rd rs1 rs2))

/-- CLZ (R376). -/
def execNvClz (t : Nat) (c : Fin 2) (rd : Fin 32) (rs1 : Fin 32) (s : State) : Out :=
  .next (s.runInstr t c (.nvClz rd rs1))

/-- POPC (R376). -/
def execNvPopc (t : Nat) (c : Fin 2) (rd : Fin 32) (rs1 : Fin 32) (s : State) : Out :=
  .next (s.runInstr t c (.nvPopc rd rs1))

/-- REVB (R376). -/
def execNvRevb (t : Nat) (c : Fin 2) (rd : Fin 32) (rs1 : Fin 32) (s : State) : Out :=
  .next (s.runInstr t c (.nvRevb rd rs1))

/-- ADDI (R376). -/
def execNvAddi (t : Nat) (c : Fin 2) (rd : Fin 32) (rs1 : Fin 32) (imm : BitVec 16) (s : State) : Out :=
  .next (s.runInstr t c (.nvAddi rd rs1 imm))

/-- ANDI (R376). -/
def execNvAndi (t : Nat) (c : Fin 2) (rd : Fin 32) (rs1 : Fin 32) (imm : BitVec 16) (s : State) : Out :=
  .next (s.runInstr t c (.nvAndi rd rs1 imm))

/-- ORI (R376). -/
def execNvOri (t : Nat) (c : Fin 2) (rd : Fin 32) (rs1 : Fin 32) (imm : BitVec 16) (s : State) : Out :=
  .next (s.runInstr t c (.nvOri rd rs1 imm))

/-- XORI (R376). -/
def execNvXori (t : Nat) (c : Fin 2) (rd : Fin 32) (rs1 : Fin 32) (imm : BitVec 16) (s : State) : Out :=
  .next (s.runInstr t c (.nvXori rd rs1 imm))

/-- SLTI (R376). -/
def execNvSlti (t : Nat) (c : Fin 2) (rd : Fin 32) (rs1 : Fin 32) (imm : BitVec 16) (s : State) : Out :=
  .next (s.runInstr t c (.nvSlti rd rs1 imm))

/-- SLTIU (R376). -/
def execNvSltiu (t : Nat) (c : Fin 2) (rd : Fin 32) (rs1 : Fin 32) (imm : BitVec 16) (s : State) : Out :=
  .next (s.runInstr t c (.nvSltiu rd rs1 imm))

/-- LUI (R376). -/
def execNvLui (t : Nat) (c : Fin 2) (rd : Fin 32) (imm : BitVec 16) (s : State) : Out :=
  .next (s.runInstr t c (.nvLui rd imm))

/-- MUL (R377). -/
def execNvMul (t : Nat) (c : Fin 2) (rd : Fin 32) (rs1 : Fin 32) (rs2 : Fin 32) (s : State) : Out :=
  .next (s.runInstr t c (.nvMul rd rs1 rs2))

/-- MULH (R377). -/
def execNvMulh (t : Nat) (c : Fin 2) (rd : Fin 32) (rs1 : Fin 32) (rs2 : Fin 32) (s : State) : Out :=
  .next (s.runInstr t c (.nvMulh rd rs1 rs2))

/-- MULHU (R377). -/
def execNvMulhu (t : Nat) (c : Fin 2) (rd : Fin 32) (rs1 : Fin 32) (rs2 : Fin 32) (s : State) : Out :=
  .next (s.runInstr t c (.nvMulhu rd rs1 rs2))

/-- DIV (R378). -/
def execNvDiv (t : Nat) (c : Fin 2) (rd : Fin 32) (rs1 : Fin 32) (rs2 : Fin 32) (s : State) : Out :=
  .next (s.runInstr t c (.nvDiv rd rs1 rs2))

/-- DIVU (R378). -/
def execNvDivu (t : Nat) (c : Fin 2) (rd : Fin 32) (rs1 : Fin 32) (rs2 : Fin 32) (s : State) : Out :=
  .next (s.runInstr t c (.nvDivu rd rs1 rs2))

/-- REM (R378). -/
def execNvRem (t : Nat) (c : Fin 2) (rd : Fin 32) (rs1 : Fin 32) (rs2 : Fin 32) (s : State) : Out :=
  .next (s.runInstr t c (.nvRem rd rs1 rs2))

/-- REMU (R378). -/
def execNvRemu (t : Nat) (c : Fin 2) (rd : Fin 32) (rs1 : Fin 32) (rs2 : Fin 32) (s : State) : Out :=
  .next (s.runInstr t c (.nvRemu rd rs1 rs2))

/-- QADD (R377). -/
def execNvQadd (t : Nat) (c : Fin 2) (rd : Fin 32) (rs1 : Fin 32) (rs2 : Fin 32) (s : State) : Out :=
  .next (s.runInstr t c (.nvQadd rd rs1 rs2))

/-- QSUB (R377). -/
def execNvQsub (t : Nat) (c : Fin 2) (rd : Fin 32) (rs1 : Fin 32) (rs2 : Fin 32) (s : State) : Out :=
  .next (s.runInstr t c (.nvQsub rd rs1 rs2))

/-- QMUL (R377). -/
def execNvQmul (t : Nat) (c : Fin 2) (rd : Fin 32) (rs1 : Fin 32) (rs2 : Fin 32) (s : State) : Out :=
  .next (s.runInstr t c (.nvQmul rd rs1 rs2))

/-- QMAC (R377). -/
def execNvQmac (t : Nat) (c : Fin 2) (rd : Fin 32) (rs1 : Fin 32) (rs2 : Fin 32) (s : State) : Out :=
  .next (s.runInstr t c (.nvQmac rd rs1 rs2))

/-- QNEG (R377). -/
def execNvQneg (t : Nat) (c : Fin 2) (rd : Fin 32) (rs1 : Fin 32) (s : State) : Out :=
  .next (s.runInstr t c (.nvQneg rd rs1))

/-- QABS (R377). -/
def execNvQabs (t : Nat) (c : Fin 2) (rd : Fin 32) (rs1 : Fin 32) (s : State) : Out :=
  .next (s.runInstr t c (.nvQabs rd rs1))

/-- SATS (R377). -/
def execNvSats (t : Nat) (c : Fin 2) (rd : Fin 32) (rs1 : Fin 32) (sh : Fin 32) (s : State) : Out :=
  .next (s.runInstr t c (.nvSats rd rs1 sh))

/-- EXTU (R379). -/
def execNvExtu (t : Nat) (c : Fin 2) (rd : Fin 32) (rs1 : Fin 32) (pos : Fin 32) (w1 : Fin 32) (s : State) : Out :=
  .next (s.runInstr t c (.nvExtu rd rs1 pos w1))

/-- EXTS (R379). -/
def execNvExts (t : Nat) (c : Fin 2) (rd : Fin 32) (rs1 : Fin 32) (pos : Fin 32) (w1 : Fin 32) (s : State) : Out :=
  .next (s.runInstr t c (.nvExts rd rs1 pos w1))

/-- INS (R379). -/
def execNvIns (t : Nat) (c : Fin 2) (rd : Fin 32) (rs1 : Fin 32) (pos : Fin 32) (w1 : Fin 32) (s : State) : Out :=
  .next (s.runInstr t c (.nvIns rd rs1 pos w1))

/-- LB (R380). -/
def execNvLb (t : Nat) (c : Fin 2) (rd : Fin 32) (rs1 : Fin 32) (imm : BitVec 16) (s : State) : Out :=
  .next (s.runInstr t c (.nvLb rd rs1 imm))

/-- LBU (R380). -/
def execNvLbu (t : Nat) (c : Fin 2) (rd : Fin 32) (rs1 : Fin 32) (imm : BitVec 16) (s : State) : Out :=
  .next (s.runInstr t c (.nvLbu rd rs1 imm))

/-- LH (R380). -/
def execNvLh (t : Nat) (c : Fin 2) (rd : Fin 32) (rs1 : Fin 32) (imm : BitVec 16) (s : State) : Out :=
  .next (s.runInstr t c (.nvLh rd rs1 imm))

/-- LHU (R380). -/
def execNvLhu (t : Nat) (c : Fin 2) (rd : Fin 32) (rs1 : Fin 32) (imm : BitVec 16) (s : State) : Out :=
  .next (s.runInstr t c (.nvLhu rd rs1 imm))

/-- LW (R380). -/
def execNvLw (t : Nat) (c : Fin 2) (rd : Fin 32) (rs1 : Fin 32) (imm : BitVec 16) (s : State) : Out :=
  .next (s.runInstr t c (.nvLw rd rs1 imm))

/-- SB (R380). -/
def execNvSb (t : Nat) (c : Fin 2) (rs2 : Fin 32) (rs1 : Fin 32) (imm : BitVec 16) (s : State) : Out :=
  .next (s.runInstr t c (.nvSb rs2 rs1 imm))

/-- SH (R380). -/
def execNvSh (t : Nat) (c : Fin 2) (rs2 : Fin 32) (rs1 : Fin 32) (imm : BitVec 16) (s : State) : Out :=
  .next (s.runInstr t c (.nvSh rs2 rs1 imm))

/-- SW (R380). -/
def execNvSw (t : Nat) (c : Fin 2) (rs2 : Fin 32) (rs1 : Fin 32) (imm : BitVec 16) (s : State) : Out :=
  .next (s.runInstr t c (.nvSw rs2 rs1 imm))

/-- BEQ (R381). -/
def execNvBeq (t : Nat) (c : Fin 2) (rs1 : Fin 32) (rs2 : Fin 32) (off : BitVec 16) (s : State) : Out :=
  .next (s.runInstr t c (.nvBeq rs1 rs2 off))

/-- BNE (R381). -/
def execNvBne (t : Nat) (c : Fin 2) (rs1 : Fin 32) (rs2 : Fin 32) (off : BitVec 16) (s : State) : Out :=
  .next (s.runInstr t c (.nvBne rs1 rs2 off))

/-- BLT (R381). -/
def execNvBlt (t : Nat) (c : Fin 2) (rs1 : Fin 32) (rs2 : Fin 32) (off : BitVec 16) (s : State) : Out :=
  .next (s.runInstr t c (.nvBlt rs1 rs2 off))

/-- BGE (R381). -/
def execNvBge (t : Nat) (c : Fin 2) (rs1 : Fin 32) (rs2 : Fin 32) (off : BitVec 16) (s : State) : Out :=
  .next (s.runInstr t c (.nvBge rs1 rs2 off))

/-- BLTU (R381). -/
def execNvBltu (t : Nat) (c : Fin 2) (rs1 : Fin 32) (rs2 : Fin 32) (off : BitVec 16) (s : State) : Out :=
  .next (s.runInstr t c (.nvBltu rs1 rs2 off))

/-- BGEU (R381). -/
def execNvBgeu (t : Nat) (c : Fin 2) (rs1 : Fin 32) (rs2 : Fin 32) (off : BitVec 16) (s : State) : Out :=
  .next (s.runInstr t c (.nvBgeu rs1 rs2 off))

/-- J (R381). -/
def execNvJ (t : Nat) (c : Fin 2) (off : BitVec 26) (s : State) : Out :=
  .next (s.runInstr t c (.nvJ off))

/-- JAL (R381). -/
def execNvJal (t : Nat) (c : Fin 2) (off : BitVec 26) (s : State) : Out :=
  .next (s.runInstr t c (.nvJal off))

/-- JALR (R381). -/
def execNvJalr (t : Nat) (c : Fin 2) (rd : Fin 32) (rs1 : Fin 32) (imm : BitVec 16) (s : State) : Out :=
  .next (s.runInstr t c (.nvJalr rd rs1 imm))

/-- SYSCALL (R382). -/
def execNvSyscall (t : Nat) (c : Fin 2) (arg : BitVec 12) (s : State) : Out :=
  .next (s.runInstr t c (.nvSyscall arg))

/-- BREAK (R382). -/
def execNvBreak (t : Nat) (c : Fin 2) (s : State) : Out :=
  .next (s.runInstr t c .nvBreak)

/-- ERET (R366). -/
def execNvEret (t : Nat) (c : Fin 2) (s : State) : Out :=
  .next (s.runInstr t c .nvEret)

/-- MFCR (R383). -/
def execNvMfcr (t : Nat) (c : Fin 2) (rd : Fin 32) (n : BitVec 8) (s : State) : Out :=
  .next (s.runInstr t c (.nvMfcr rd n))

/-- MTCR (R383). -/
def execNvMtcr (t : Nat) (c : Fin 2) (rs1 : Fin 32) (n : BitVec 8) (s : State) : Out :=
  .next (s.runInstr t c (.nvMtcr rs1 n))

/-- WFI (R384). -/
def execNvWfi (t : Nat) (c : Fin 2) (s : State) : Out :=
  .next (s.runInstr t c .nvWfi)

/-- DMTD (R390). -/
def execDkDmtd (t : Nat) (c : Fin 2) (x : Fin 32) (y : Fin 32) (s : State) : Out :=
  .next (s.runInstr t c (.dkDmtd x y))

/-- DMFD (R390). -/
def execDkDmfd (t : Nat) (c : Fin 2) (x : Fin 32) (y : Fin 32) (s : State) : Out :=
  .next (s.runInstr t c (.dkDmfd x y))

/-- DMFS (R390). -/
def execDkDmfs (t : Nat) (c : Fin 2) (x : Fin 32) (s : State) : Out :=
  .next (s.runInstr t c (.dkDmfs x))

/-- DMTS (R390). -/
def execDkDmts (t : Nat) (c : Fin 2) (y : Fin 32) (s : State) : Out :=
  .next (s.runInstr t c (.dkDmts y))

/-- DQADD (R391). -/
def execDkDqadd (t : Nat) (c : Fin 2) (x : Fin 32) (y : Fin 32) (z : Fin 32) (s : State) : Out :=
  .next (s.runInstr t c (.dkDqadd x y z))

/-- DQSUB (R391). -/
def execDkDqsub (t : Nat) (c : Fin 2) (x : Fin 32) (y : Fin 32) (z : Fin 32) (s : State) : Out :=
  .next (s.runInstr t c (.dkDqsub x y z))

/-- DQMUL (R391). -/
def execDkDqmul (t : Nat) (c : Fin 2) (x : Fin 32) (y : Fin 32) (z : Fin 32) (s : State) : Out :=
  .next (s.runInstr t c (.dkDqmul x y z))

/-- DQMAC (R391). -/
def execDkDqmac (t : Nat) (c : Fin 2) (x : Fin 32) (y : Fin 32) (z : Fin 32) (s : State) : Out :=
  .next (s.runInstr t c (.dkDqmac x y z))

/-- DQDIV (R391). -/
def execDkDqdiv (t : Nat) (c : Fin 2) (x : Fin 32) (y : Fin 32) (z : Fin 32) (s : State) : Out :=
  .next (s.runInstr t c (.dkDqdiv x y z))

/-- FADD (R391). -/
def execDkFadd (t : Nat) (c : Fin 2) (x : Fin 32) (y : Fin 32) (z : Fin 32) (s : State) : Out :=
  .next (s.runInstr t c (.dkFadd x y z))

/-- FSUB (R391). -/
def execDkFsub (t : Nat) (c : Fin 2) (x : Fin 32) (y : Fin 32) (z : Fin 32) (s : State) : Out :=
  .next (s.runInstr t c (.dkFsub x y z))

/-- FMUL (R391). -/
def execDkFmul (t : Nat) (c : Fin 2) (x : Fin 32) (y : Fin 32) (z : Fin 32) (s : State) : Out :=
  .next (s.runInstr t c (.dkFmul x y z))

/-- FMAC (R391). -/
def execDkFmac (t : Nat) (c : Fin 2) (x : Fin 32) (y : Fin 32) (z : Fin 32) (s : State) : Out :=
  .next (s.runInstr t c (.dkFmac x y z))

/-- FDIV (R391). -/
def execDkFdiv (t : Nat) (c : Fin 2) (x : Fin 32) (y : Fin 32) (z : Fin 32) (s : State) : Out :=
  .next (s.runInstr t c (.dkFdiv x y z))

/-- FSQRT (R391). -/
def execDkFsqrt (t : Nat) (c : Fin 2) (x : Fin 32) (y : Fin 32) (s : State) : Out :=
  .next (s.runInstr t c (.dkFsqrt x y))

/-- FTOQ (R391). -/
def execDkFtoq (t : Nat) (c : Fin 2) (x : Fin 32) (y : Fin 32) (s : State) : Out :=
  .next (s.runInstr t c (.dkFtoq x y))

/-- QTOF (R391). -/
def execDkQtof (t : Nat) (c : Fin 2) (x : Fin 32) (y : Fin 32) (s : State) : Out :=
  .next (s.runInstr t c (.dkQtof x y))

/-- CMUL (R393). -/
def execDkCmul (t : Nat) (c : Fin 2) (x : Fin 32) (y : Fin 32) (z : Fin 32) (s : State) : Out :=
  .next (s.runInstr t c (.dkCmul x y z))

/-- CLARKE (R393). -/
def execDkClarke (t : Nat) (c : Fin 2) (x : Fin 32) (y : Fin 32) (s : State) : Out :=
  .next (s.runInstr t c (.dkClarke x y))

/-- PARK (R393). -/
def execDkPark (t : Nat) (c : Fin 2) (x : Fin 32) (y : Fin 32) (z : Fin 32) (s : State) : Out :=
  .next (s.runInstr t c (.dkPark x y z))

/-- IPARK (R393). -/
def execDkIpark (t : Nat) (c : Fin 2) (x : Fin 32) (y : Fin 32) (z : Fin 32) (s : State) : Out :=
  .next (s.runInstr t c (.dkIpark x y z))

/-- SINCOS (R393). -/
def execDkSincos (t : Nat) (c : Fin 2) (x : Fin 32) (y : Fin 32) (s : State) : Out :=
  .next (s.runInstr t c (.dkSincos x y))

/-- BQ (R394). -/
def execDkBq (t : Nat) (c : Fin 2) (x : Fin 32) (y : Fin 32) (z : Fin 32) (s : State) : Out :=
  .next (s.runInstr t c (.dkBq x y z))

/-- PR (R394). -/
def execDkPr (t : Nat) (c : Fin 2) (x : Fin 32) (y : Fin 32) (z : Fin 32) (s : State) : Out :=
  .next (s.runInstr t c (.dkPr x y z))

/-- DSECR (R390). -/
def execDkDsecr (t : Nat) (c : Fin 2) (x : Fin 32) (y : Fin 32) (z : Fin 32) (s : State) : Out :=
  .next (s.runInstr t c (.dkDsecr x y z))

/-- DSECW (R396). -/
def execDkDsecw (t : Nat) (c : Fin 2) (x : Fin 32) (y : Fin 32) (z : Fin 32) (s : State) : Out :=
  .next (s.runInstr t c (.dkDsecw x y z))

/-- FIR (R390). -/
def execDkFir (t : Nat) (c : Fin 2) (x : Fin 32) (y : Fin 32) (s : State) : Out :=
  .next (s.runInstr t c (.dkFir x y))

/-- FIRW (R396). -/
def execDkFirw (t : Nat) (c : Fin 2) (x : Fin 32) (y : Fin 32) (s : State) : Out :=
  .next (s.runInstr t c (.dkFirw x y))

/-- DLD (R395). -/
def execDkDld (t : Nat) (c : Fin 2) (x : Fin 32) (y : Fin 32) (z : Fin 32) (s : State) : Out :=
  .next (s.runInstr t c (.dkDld x y z))

/-- DST (R395). -/
def execDkDst (t : Nat) (c : Fin 2) (x : Fin 32) (y : Fin 32) (z : Fin 32) (s : State) : Out :=
  .next (s.runInstr t c (.dkDst x y z))

/-- DTRK (R395). -/
def execDkDtrk (t : Nat) (c : Fin 2) (x : Fin 32) (y : Fin 32) (s : State) : Out :=
  .next (s.runInstr t c (.dkDtrk x y))

/-- DEDG (R395). -/
def execDkDedg (t : Nat) (c : Fin 2) (x : Fin 32) (y : Fin 32) (s : State) : Out :=
  .next (s.runInstr t c (.dkDedg x y))

end Sys2Proof.Machine
end

