-- ==== Sys2Proof/Machine/Debug.lean ====
section
/-!
DEFINITION. Sys2Proof/Machine/Debug.lean: the test access port (R488 to R491), halt, resume and step (R492), the writes and
reads of the bus that have no row of their own (R2 to R7), and the SPI host port (R516, R517).
-/

namespace Sys2Proof.Machine

/-! ### The test access port (Table 30.1) -/

/-- RSTN holds the device in reset (R490). -/
def State.heldByPin (s : State) : Bool := s.pow.inReset && !s.pow.rstn

/-- The test access port has power. -/
def State.tapOn (s : State) : Bool := s.pow.st != .off && s.pow.st != .vigil

def State.setIr (s : State) (ir : JtagIr) : State := { s with dbg := { s.dbg with ir := ir } }

/-- An instruction that takes effect only in reset: else BYPASS and SCANREF (R490). -/
def State.scanIr (s : State) (ir : JtagIr) : State :=
  if s.heldByPin then s.setIr ir else (s.setIr .bypass).set Fld.DBG_STATUS_SCANREF 0 1

/-- A code is updated into the instruction register. -/
def State.jtagCode (s : State) (code : Nat) : State :=
  if !s.tapOn then s
  else match code with
    | 0x00 => s.scanIr .extest
    | 0x02 => s.setIr .sample
    | 0x04 => s.scanIr .clamp
    | 0x05 => s.scanIr .highz
    | 0x10 => s.setIr .debug
    | _ => s.setIr .bypass

/-! ### Halt, resume and step (R492) -/

/-- HALT; a core still in reset runs nothing to stop. -/
def State.debugHalt (s : State) (c : Nat) : State :=
  if !(s.core c).running || s.halted c then s else s.haltCore c 1

/-- RESUME: the demand of rank 1 ends, and each converter waits for ENABLE. -/
def State.debugResume (s : State) (c : Nat) : State :=
  if !s.halted c then s
  else
    let s := (s.set Fld.DBG_CORE_STATUS_HALTED c 0).set Fld.DBG_CORE_STATUS_CAUSE c 0
    let s := s.set Fld.SYS_NV_STATE_HALT c 0
    let s := (s.allConvs.filter (fun v => s.cnvOwner v == c)).foldl (fun s v => s.convReleased v) s
    ((s.allLocs.filter (fun k => s.locOwner k == c)).foldl (fun s k => s.locReleased k) s).lpJudgeAll

/-- The word at the core's pc. -/
def State.fetchWord (s : State) (c : Nat) : Word := BitVec.ofNat 32 (s.memRead 4 (s.core c).pc.toNat)

/-- STEP: one instruction runs, a long one to its end, and the core halts again with CAUSE 4. -/
def State.debugStep (s : State) (c : Nat) : State :=
  if !s.halted c || s.lockedOut c then s
  else
    let s := s.setCore c { s.core c with stepping := true }
    let s := s.retire c (fun s => s.runWord c (s.fetchWord c))
    let s := (s.divideDone c).longDone c
    let s := s.setCore c { s.core c with stepping := false, wfi := false, busy := .idle }
    s.set Fld.DBG_CORE_STATUS_CAUSE c 4

/-- A write of DBG_CORE_CTRL by the debug port; HALT wins. -/
def State.coreCtrl (s : State) (c v : Nat) : State :=
  if v.testBit 0 then s.debugHalt c
  else
    let s := if v.testBit 1 then s.debugResume c else s
    if v.testBit 2 then s.debugStep c else s

def State.writeCoreCtrl (s : State) (a : Acc) (c v : Nat) : State :=
  if a.m != .debug || decide (8 ≤ v) || !s.powered || s.pow.inReset then s.busErr else (s.coreCtrl c v).ok

/-! ### Accesses -/

/-- A write at an address, DBG_CORE_CTRL included. -/
def State.anyWrite (s : State) (a : Acc) (addr : Nat) (sz : AccSize) (v : Nat) : State :=
  if addr = 0x40170000 ∧ sz = .word then s.writeCoreCtrl a 0 v
  else if addr = 0x40170200 ∧ sz = .word then s.writeCoreCtrl a 1 v
  else s.busWrite a addr sz v

def debugAcc (t : Nat) : Acc := { m := .debug, kernel := false, t := t }
def hostAcc (t : Nat) : Acc := { m := .host, kernel := false, t := t }

/-- An access through DBGACC: with DEBUG selected, and none before it PENDING (R491). -/
def State.dbgAcc (s : State) (acc : State → State) : State :=
  if !s.tapOn || s.dbg.ir != .debug || s.dbg.resp.status == .stall then s
  else
    let s' := acc s
    { s' with resp := s.resp, dbg := { s'.dbg with resp := s'.resp } }

/-- A host transaction's access; one under way or ignored takes none (R516, R517). -/
def State.hostAccess (s : State) (acc : State → State) : State :=
  if s.dbg.spiIgnore || s.dbg.hostWait then s
  else
    let s := acc s
    { s with dbg := { s.dbg with hostWait := s.resp.status == .stall } }

/-- HS_CSN rises before the transaction completes: only a write with all its data bits is made (R517). -/
def State.hostRise (s : State) (t : Nat) (write : Bool) (addr v : Word) (dataBits : Nat) : State :=
  let s := if !s.dbg.spiIgnore && !s.dbg.hostWait && write && decide (32 ≤ dataBits)
    then s.anyWrite (hostAcc t) addr.toNat .word v.toNat else s
  { s with dbg := { s.dbg with spiIgnore := false, hostWait := false } }

/-! ### Meanings -/

/-- REGISTER_WRITE (R5). -/
def execRegisterWrite (a : Acc) (addr : Word) (sz : AccSize) (v : Word) (s : State) : Out :=
  .next ((s.touch a.t).anyWrite a addr.toNat sz v.toNat)

/-- LOW_WORD_READ (R7). -/
def execLowWordRead (a : Acc) (addr : Word) (sz : AccSize) (s : State) : Out :=
  .next ((s.touch a.t).busRead a addr.toNat sz)

/-- JTAG_EXTEST (R490). -/
def execJtagExtest (s : State) : Out := .next (s.jtagCode 0x00)

/-- JTAG_SAMPLE_PRELOAD (R488). -/
def execJtagSamplePreload (s : State) : Out := .next (s.jtagCode 0x02)

/-- JTAG_CLAMP (R490). -/
def execJtagClamp (s : State) : Out := .next (s.jtagCode 0x04)

/-- JTAG_HIGHZ (R490). -/
def execJtagHighz (s : State) : Out := .next (s.jtagCode 0x05)

/-- JTAG_BYPASS (R488): 0xFF, or a code that Table 30.1 does not list. -/
def execJtagBypass (code : Fin 256) (s : State) : Out := .next (s.jtagCode code)

/-- JTAG_DEBUG (R488). -/
def execJtagDebug (s : State) : Out := .next (s.jtagCode 0x10)

/-- TEST_LOGIC_RESET (R488). -/
def execTestLogicReset (s : State) : Out := .next (s.setIr .bypass)

/-- DBGACC_READ (R491). -/
def execDbgaccRead (t : Nat) (addr : Word) (s : State) : Out :=
  .next ((s.touch t).dbgAcc (fun s => s.busRead (debugAcc t) addr.toNat .word))

/-- DBGACC_WRITE (R491). -/
def execDbgaccWrite (t : Nat) (addr : Word) (v : Word) (s : State) : Out :=
  .next ((s.touch t).dbgAcc (fun s => s.anyWrite (debugAcc t) addr.toNat .word v.toNat))

/-- DEBUG_HALT (R492). -/
def execDebugHalt (a : Acc) (c : Fin 2) (s : State) : Out := .next ((s.touch a.t).writeCoreCtrl a c 1)

/-- DEBUG_RESUME (R492). -/
def execDebugResume (a : Acc) (c : Fin 2) (s : State) : Out := .next ((s.touch a.t).writeCoreCtrl a c 2)

/-- DEBUG_STEP (R492). -/
def execDebugStep (a : Acc) (c : Fin 2) (s : State) : Out := .next ((s.touch a.t).writeCoreCtrl a c 4)

/-- DBG_PC_WRITE (R496). -/
def execDbgPcWrite (a : Acc) (c : Fin 2) (v : Word) (s : State) : Out := .next ((s.touch a.t).writeDbgPc a c v.toNat)

/-- DBG_GREG_WRITE (R496). -/
def execDbgGregWrite (a : Acc) (c : Fin 2) (r : Fin 32) (v : Word) (s : State) : Out :=
  .next ((s.touch a.t).writeDbgReg a c r v.toNat)

/-- SPI_HOST_READ (R516). -/
def execSpiHostRead (t : Nat) (addr : Word) (s : State) : Out :=
  .next ((s.touch t).hostAccess (fun s => s.busRead (hostAcc t) addr.toNat .word))

/-- SPI_HOST_WRITE (R516). -/
def execSpiHostWrite (t : Nat) (addr : Word) (v : Word) (s : State) : Out :=
  .next ((s.touch t).hostAccess (fun s => s.anyWrite (hostAcc t) addr.toNat .word v.toNat))

/-- SPI_HOST_CS_RISE (R517). -/
def execSpiHostCsRise (t : Nat) (write : Bool) (addr : Word) (v : Word) (dataBits : Nat) (s : State) : Out :=
  .next ((s.touch t).hostRise t write addr v dataBits)

/-- SPI_HOST_OTHER_COMMAND (R517): 0x0B and 0x02 are no such command. -/
def execSpiHostOtherCommand (cmd : Byte) (s : State) : Out :=
  .next (if cmd = 0x0B ∨ cmd = 0x02 then s else { s with dbg := { s.dbg with spiIgnore := true } })

end Sys2Proof.Machine
end

