-- ==== Sys2Proof/Machine/Dispatch.lean ====
section
/-!
DEFINITION. Sys2Proof/Machine/Dispatch.lean: one arm per command, each a direct call of its meaning.
-/

namespace Sys2Proof.Machine

def exec (i : Instr) (s : State) : Host.Outcome State Fault Refusal :=
  match i with
  | .registerWrite a addr sz v => Sys2Proof.Machine.execRegisterWrite a addr sz v s
  | .lowWordRead a addr sz => Sys2Proof.Machine.execLowWordRead a addr sz s
  | .adcFifoDataRead a k => Sys2Proof.Machine.execAdcFifoDataRead a k s
  | .angQryOutRead a w => Sys2Proof.Machine.execAngQryOutRead a w s
  | .undercroftStart => Sys2Proof.Machine.execUndercroftStart s
  | .undercroftDeath => Sys2Proof.Machine.execUndercroftDeath s
  | .harvesterModeChange mv t => Sys2Proof.Machine.execHarvesterModeChange mv t s
  | .deviceResetRelease => Sys2Proof.Machine.execDeviceResetRelease s
  | .deviceReset => Sys2Proof.Machine.execDeviceReset s
  | .mainSupplyOutOfRange t torn => Sys2Proof.Machine.execMainSupplyOutOfRange t torn s
  | .vldLow t => Sys2Proof.Machine.execVldLow t s
  | .pfailnAssert t => Sys2Proof.Machine.execPfailnAssert t s
  | .pfailnRelease t => Sys2Proof.Machine.execPfailnRelease t s
  | .pllsLock => Sys2Proof.Machine.execPllsLock s
  | .slotHeadersRead nor aesOk shaOk trngOk => Sys2Proof.Machine.execSlotHeadersRead nor aesOk shaOk trngOk s
  | .imageFetched => Sys2Proof.Machine.execImageFetched s
  | .signatureVerified => Sys2Proof.Machine.execSignatureVerified s
  | .katEcdsaDone ok => Sys2Proof.Machine.execKatEcdsaDone ok s
  | .recordValuesCommitted => Sys2Proof.Machine.execRecordValuesCommitted s
  | .journalWorkDone => Sys2Proof.Machine.execJournalWorkDone s
  | .gateSuppliesUp t => Sys2Proof.Machine.execGateSuppliesUp t s
  | .admissionWaitEnd t => Sys2Proof.Machine.execAdmissionWaitEnd t s
  | .sysCoreArm a v => Sys2Proof.Machine.execSysCoreArm a v s
  | .sysModeReq a mode => Sys2Proof.Machine.execSysModeReq a mode s
  | .sysModeCancel a => Sys2Proof.Machine.execSysModeCancel a s
  | .modeApply t => Sys2Proof.Machine.execModeApply t s
  | .plltLockDeclared t errs => Sys2Proof.Machine.execPlltLockDeclared t errs s
  | .plltUnlock t errs => Sys2Proof.Machine.execPlltUnlock t errs s
  | .pllsFreqFault run => Sys2Proof.Machine.execPllsFreqFault run s
  | .referencePresent t r => Sys2Proof.Machine.execReferencePresent t r s
  | .referenceLost t r => Sys2Proof.Machine.execReferenceLost t r s
  | .qualifyPass t phase freq => Sys2Proof.Machine.execQualifyPass t phase freq s
  | .qualifyFail t => Sys2Proof.Machine.execQualifyFail t s
  | .referenceBarExpire t r => Sys2Proof.Machine.execReferenceBarExpire t r s
  | .slewComplete t freq => Sys2Proof.Machine.execSlewComplete t freq s
  | .ucrTimeTick t => Sys2Proof.Machine.execUcrTimeTick t s
  | .trackerUpdate t n smp => Sys2Proof.Machine.execTrackerUpdate t n smp s
  | .encoderEdge t port e => Sys2Proof.Machine.execEncoderEdge t port e s
  | .angSlStampHiWrite a n v => Sys2Proof.Machine.execAngSlStampHiWrite a n v s
  | .angleAtTimeQuery a w n => Sys2Proof.Machine.execAngleAtTimeQuery a w n s
  | .timeAtAngleQuery a w n => Sys2Proof.Machine.execTimeAtAngleQuery a w n s
  | .queryResultReady w => Sys2Proof.Machine.execQueryResultReady w s
  | .trackerSourceLoss t n => Sys2Proof.Machine.execTrackerSourceLoss t n s
  | .trackerCoastExpire t n => Sys2Proof.Machine.execTrackerCoastExpire t n s
  | .trackerAcquired t n => Sys2Proof.Machine.execTrackerAcquired t n s
  | .twillPass t => Sys2Proof.Machine.execTwillPass t s
  | .twillFire t slot => Sys2Proof.Machine.execTwillFire t slot s
  | .twillSlotArm a slot => Sys2Proof.Machine.execTwillSlotArm a slot s
  | .twillSlotDisarm a slot => Sys2Proof.Machine.execTwillSlotDisarm a slot s
  | .twillTargetCommit a slot v => Sys2Proof.Machine.execTwillTargetCommit a slot v s
  | .twillStepCommit a slot v => Sys2Proof.Machine.execTwillStepCommit a slot v s
  | .edgCnvCommit a c => Sys2Proof.Machine.execEdgCnvCommit a c s
  | .converterCutoff t c => Sys2Proof.Machine.execConverterCutoff t c s
  | .converterBoundary t c => Sys2Proof.Machine.execConverterBoundary t c s
  | .cnvEnable a c => Sys2Proof.Machine.execCnvEnable a c s
  | .cnvDisable a c => Sys2Proof.Machine.execCnvDisable a c s
  | .cnvDisableImmediate a c => Sys2Proof.Machine.execCnvDisableImmediate a c s
  | .cnvClrtrip a c => Sys2Proof.Machine.execCnvClrtrip a c s
  | .cnvForceWrite a c v => Sys2Proof.Machine.execCnvForceWrite a c v s
  | .locCommit a k => Sys2Proof.Machine.execLocCommit a k s
  | .localOutputBoundary t k => Sys2Proof.Machine.execLocalOutputBoundary t k s
  | .locEnable a k => Sys2Proof.Machine.execLocEnable a k s
  | .locDisable a k => Sys2Proof.Machine.execLocDisable a k s
  | .locDisableImmediate a k => Sys2Proof.Machine.execLocDisableImmediate a k s
  | .locClrtrip a k => Sys2Proof.Machine.execLocClrtrip a k s
  | .locForceWrite a k v => Sys2Proof.Machine.execLocForceWrite a k v s
  | .tripInputChange t n level => Sys2Proof.Machine.execTripInputChange t n level s
  | .tripAsserted t n => Sys2Proof.Machine.execTripAsserted t n s
  | .selvedgeCycleStart t b => Sys2Proof.Machine.execSelvedgeCycleStart t b s
  | .frameBSend t b => Sys2Proof.Machine.execFrameBSend t b s
  | .downstreamFrameRx t n frame => Sys2Proof.Machine.execDownstreamFrameRx t n frame s
  | .safeBlock t n code => Sys2Proof.Machine.execSafeBlock t n code s
  | .patternBlock t n bound period mode on off => Sys2Proof.Machine.execPatternBlock t n bound period mode on off s
  | .mgmtRead t n tag addr => Sys2Proof.Machine.execMgmtRead t n tag addr s
  | .mgmtWrite t n tag dst data => Sys2Proof.Machine.execMgmtWrite t n tag dst data s
  | .mgmtRetry t n tag => Sys2Proof.Machine.execMgmtRetry t n tag s
  | .companionFrameALoss t n => Sys2Proof.Machine.execCompanionFrameALoss t n s
  | .companionDataTx t n cur dc ntc => Sys2Proof.Machine.execCompanionDataTx t n cur dc ntc s
  | .upstreamDataFrame t n frame err => Sys2Proof.Machine.execUpstreamDataFrame t n frame err s
  | .dataFrameMissing t n badCrc => Sys2Proof.Machine.execDataFrameMissing t n badCrc s
  | .enumAnswer t n answer => Sys2Proof.Machine.execEnumAnswer t n answer s
  | .calEcho t n echo => Sys2Proof.Machine.execCalEcho t n echo s
  | .delayDriftCorrect t n => Sys2Proof.Machine.execDelayDriftCorrect t n s
  | .companionBoundary t n => Sys2Proof.Machine.execCompanionBoundary t n s
  | .companionGateEdge t n side => Sys2Proof.Machine.execCompanionGateEdge t n side s
  | .gateSenseLow t n side => Sys2Proof.Machine.execGateSenseLow t n side s
  | .deadTimeEnd t n => Sys2Proof.Machine.execDeadTimeEnd t n s
  | .gatestuck t n => Sys2Proof.Machine.execGatestuck t n s
  | .switchTransition t n rising t10 t90 cur => Sys2Proof.Machine.execSwitchTransition t n rising t10 t90 cur s
  | .companionVddpUp n strap => Sys2Proof.Machine.execCompanionVddpUp n strap s
  | .companionUvlo t n sup => Sys2Proof.Machine.execCompanionUvlo t n sup s
  | .supok10Set t n => Sys2Proof.Machine.execSupok10Set t n s
  | .heartbeatLoss t n => Sys2Proof.Machine.execHeartbeatLoss t n s
  | .btrCtrlWrite a n v => Sys2Proof.Machine.execBtrCtrlWrite a n v s
  | .overCurrentTrip t n => Sys2Proof.Machine.execOverCurrentTrip t n s
  | .desatTrip t n side => Sys2Proof.Machine.execDesatTrip t n side s
  | .ovDcTrip t n vdc => Sys2Proof.Machine.execOvDcTrip t n vdc s
  | .overTemperatureTrip t n code => Sys2Proof.Machine.execOverTemperatureTrip t n code s
  | .softTurnoffEnd t n side => Sys2Proof.Machine.execSoftTurnoffEnd t n side s
  | .brakeChopperOn t n vdc => Sys2Proof.Machine.execBrakeChopperOn t n vdc s
  | .brakeChopperOff t n vdc => Sys2Proof.Machine.execBrakeChopperOff t n vdc s
  | .brakeMinIntervalEnd t who vdc => Sys2Proof.Machine.execBrakeMinIntervalEnd t who vdc s
  | .brkPinChange t k above => Sys2Proof.Machine.execBrkPinChange t k above s
  | .brakeSaturation t who => Sys2Proof.Machine.execBrakeSaturation t who s
  | .adcSoftwareStart a k => Sys2Proof.Machine.execAdcSoftwareStart a k s
  | .adctrgEdge t pin rising => Sys2Proof.Machine.execAdctrgEdge t pin rising s
  | .adcConversionDone t k raw skew gain pair => Sys2Proof.Machine.execAdcConversionDone t k raw skew gain pair s
  | .adcCoreEnable a k => Sys2Proof.Machine.execAdcCoreEnable a k s
  | .adcCoreDisable a k => Sys2Proof.Machine.execAdcCoreDisable a k s
  | .adcDmaRdWrite a k v => Sys2Proof.Machine.execAdcDmaRdWrite a k v s
  | .lsnEnable a g n => Sys2Proof.Machine.execLsnEnable a g n s
  | .lsnDisable a g n => Sys2Proof.Machine.execLsnDisable a g n s
  | .comparatorRawEdge t k v => Sys2Proof.Machine.execComparatorRawEdge t k v s
  | .comparatorEdgeAccepted t k => Sys2Proof.Machine.execComparatorEdgeAccepted t k s
  | .slopeRampStart t k => Sys2Proof.Machine.execSlopeRampStart t k s
  | .slopeRampEnd t k => Sys2Proof.Machine.execSlopeRampEnd t k s
  | .cmpDacWrite a k v => Sys2Proof.Machine.execCmpDacWrite a k v s
  | .cmpTestWrite a k v => Sys2Proof.Machine.execCmpTestWrite a k v s
  | .cmpTestRoutesResume t k => Sys2Proof.Machine.execCmpTestRoutesResume t k s
  | .cmpModeHoldEnd t k => Sys2Proof.Machine.execCmpModeHoldEnd t k s
  | .cmpEnable a k => Sys2Proof.Machine.execCmpEnable a k s
  | .cmpDisable a k => Sys2Proof.Machine.execCmpDisable a k s
  | .grdEnable a n => Sys2Proof.Machine.execGrdEnable a n s
  | .grdDisable a n => Sys2Proof.Machine.execGrdDisable a n s
  | .grdDisableImmediate a n => Sys2Proof.Machine.execGrdDisableImmediate a n s
  | .grdReconnect a n => Sys2Proof.Machine.execGrdReconnect a n s
  | .grdClrtrip a n => Sys2Proof.Machine.execGrdClrtrip a n s
  | .gridReconElapsed t n => Sys2Proof.Machine.execGridReconElapsed t n s
  | .gridCloseDone t n => Sys2Proof.Machine.execGridCloseDone t n s
  | .gridRideTrip t n v f => Sys2Proof.Machine.execGridRideTrip t n v f s
  | .gridExcursionEnd t n => Sys2Proof.Machine.execGridExcursionEnd t n s
  | .nudgeStart t n => Sys2Proof.Machine.execNudgeStart t n s
  | .tokenAgeExpire t n => Sys2Proof.Machine.execTokenAgeExpire t n s
  | .gridDrainDone t n => Sys2Proof.Machine.execGridDrainDone t n s
  | .mpptStep t m t0 samples => Sys2Proof.Machine.execMpptStep t m t0 samples s
  | .mpptScanDwellEnd t m samples => Sys2Proof.Machine.execMpptScanDwellEnd t m samples s
  | .mpptScheduledScan t m => Sys2Proof.Machine.execMpptScheduledScan t m s
  | .mpptScanCmd a m => Sys2Proof.Machine.execMpptScanCmd a m s
  | .mpptEnable a m => Sys2Proof.Machine.execMpptEnable a m s
  | .mpptDisable a m => Sys2Proof.Machine.execMpptDisable a m s
  | .mpptDisableImmediate a m => Sys2Proof.Machine.execMpptDisableImmediate a m s
  | .axisUpdate t => Sys2Proof.Machine.execAxisUpdate t s
  | .axsEnable a x => Sys2Proof.Machine.execAxsEnable a x s
  | .axsDisable a x => Sys2Proof.Machine.execAxsDisable a x s
  | .axsDisableImmediate a x => Sys2Proof.Machine.execAxsDisableImmediate a x s
  | .axsClrflt a x => Sys2Proof.Machine.execAxsClrflt a x s
  | .auxPeriodStart t k fb => Sys2Proof.Machine.execAuxPeriodStart t k fb s
  | .auxOntimeEnd t k => Sys2Proof.Machine.execAuxOntimeEnd t k s
  | .auxShortCheck t k => Sys2Proof.Machine.execAuxShortCheck t k s
  | .auxRunShort t k => Sys2Proof.Machine.execAuxRunShort t k s
  | .auxHiccupEnd t k => Sys2Proof.Machine.execAuxHiccupEnd t k s
  | .auxEnable a k => Sys2Proof.Machine.execAuxEnable a k s
  | .auxDisable a k => Sys2Proof.Machine.execAuxDisable a k s
  | .auxDisableImmediate a k => Sys2Proof.Machine.execAuxDisableImmediate a k s
  | .auxClrshort a k => Sys2Proof.Machine.execAuxClrshort a k s
  | .fanPeriodStart t k cur => Sys2Proof.Machine.execFanPeriodStart t k cur s
  | .fantachEdge t k => Sys2Proof.Machine.execFantachEdge t k s
  | .fanKickEnd t k => Sys2Proof.Machine.execFanKickEnd t k s
  | .fanStartCheck t k => Sys2Proof.Machine.execFanStartCheck t k s
  | .fanRetryEnd t k => Sys2Proof.Machine.execFanRetryEnd t k s
  | .fanTachMissing t k cur => Sys2Proof.Machine.execFanTachMissing t k cur s
  | .fanTachRegained t k => Sys2Proof.Machine.execFanTachRegained t k s
  | .fanEnable a k => Sys2Proof.Machine.execFanEnable a k s
  | .fanDisable a k => Sys2Proof.Machine.execFanDisable a k s
  | .fanDisableImmediate a k => Sys2Proof.Machine.execFanDisableImmediate a k s
  | .fanClrfault a k => Sys2Proof.Machine.execFanClrfault a k s
  | .loopSample t j sns vc => Sys2Proof.Machine.execLoopSample t j sns vc s
  | .loopEnable a j => Sys2Proof.Machine.execLoopEnable a j s
  | .loopDisable a j => Sys2Proof.Machine.execLoopDisable a j s
  | .loopDisableImmediate a j => Sys2Proof.Machine.execLoopDisableImmediate a j s
  | .loopFault a j => Sys2Proof.Machine.execLoopFault a j s
  | .meterSample t p smp => Sys2Proof.Machine.execMeterSample t p smp s
  | .meterIntervalEnd t p => Sys2Proof.Machine.execMeterIntervalEnd t p s
  | .pulseStart t k => Sys2Proof.Machine.execPulseStart t k s
  | .pulseEnd t k => Sys2Proof.Machine.execPulseEnd t k s
  | .meterSnapshot t p => Sys2Proof.Machine.execMeterSnapshot t p s
  | .meterCheckpoint t => Sys2Proof.Machine.execMeterCheckpoint t s
  | .mtrPortDisable a p => Sys2Proof.Machine.execMtrPortDisable a p s
  | .mtrPortEnable a p => Sys2Proof.Machine.execMtrPortEnable a p s
  | .jalamPreambleDetect t snr agc => Sys2Proof.Machine.execJalamPreambleDetect t snr agc s
  | .jalamHeaderDecoded t hdr stamp => Sys2Proof.Machine.execJalamHeaderDecoded t hdr stamp s
  | .jalamFrameReceived t bits => Sys2Proof.Machine.execJalamFrameReceived t bits s
  | .jalamTxStart t => Sys2Proof.Machine.execJalamTxStart t s
  | .jalamTxDone t => Sys2Proof.Machine.execJalamTxDone t s
  | .cfpEnd t => Sys2Proof.Machine.execCfpEnd t s
  | .backoffSlot t => Sys2Proof.Machine.execBackoffSlot t s
  | .ackTimeout t => Sys2Proof.Machine.execAckTimeout t s
  | .pollNoresp t => Sys2Proof.Machine.execPollNoresp t s
  | .rxData t => Sys2Proof.Machine.execRxData t s
  | .rxAck t => Sys2Proof.Machine.execRxAck t s
  | .rxPoll t => Sys2Proof.Machine.execRxPoll t s
  | .rxNull t => Sys2Proof.Machine.execRxNull t s
  | .rxBeacon t => Sys2Proof.Machine.execRxBeacon t s
  | .rxAssocReq t => Sys2Proof.Machine.execRxAssocReq t s
  | .rxAssocResp t => Sys2Proof.Machine.execRxAssocResp t s
  | .rxAssocConf t => Sys2Proof.Machine.execRxAssocConf t s
  | .rxDisassoc t => Sys2Proof.Machine.execRxDisassoc t s
  | .readMeter t => Sys2Proof.Machine.execReadMeter t s
  | .revoke t => Sys2Proof.Machine.execRevoke t s
  | .listenTimeout t => Sys2Proof.Machine.execListenTimeout t s
  | .beaconLoss t => Sys2Proof.Machine.execBeaconLoss t s
  | .assocTimeout t => Sys2Proof.Machine.execAssocTimeout t s
  | .assocConfTimeout t => Sys2Proof.Machine.execAssocConfTimeout t s
  | .jlnTxGo a b => Sys2Proof.Machine.execJlnTxGo a b s
  | .jlnTxCancel a b => Sys2Proof.Machine.execJlnTxCancel a b s
  | .jlnRxRelease a r => Sys2Proof.Machine.execJlnRxRelease a r s
  | .jlnEnable a => Sys2Proof.Machine.execJlnEnable a s
  | .jlnDisable a imm => Sys2Proof.Machine.execJlnDisable a imm s
  | .irqEntry t target => Sys2Proof.Machine.execIrqEntry t target s
  | .irqHoldoffEnd t g target => Sys2Proof.Machine.execIrqHoldoffEnd t g target s
  | .irqPendSet a g v => Sys2Proof.Machine.execIrqPendSet a g v s
  | .irqPendClr a g v => Sys2Proof.Machine.execIrqPendClr a g v s
  | .irqEnSet a g v => Sys2Proof.Machine.execIrqEnSet a g v s
  | .irqEnClr a g v => Sys2Proof.Machine.execIrqEnClr a g v s
  | .irqDoorbell a v => Sys2Proof.Machine.execIrqDoorbell a v s
  | .gpioInputSample t p level => Sys2Proof.Machine.execGpioInputSample t p level s
  | .mbxHdrCommit a m v => Sys2Proof.Machine.execMbxHdrCommit a m v s
  | .mbxTake a m => Sys2Proof.Machine.execMbxTake a m s
  | .mbxWithdraw a m => Sys2Proof.Machine.execMbxWithdraw a m s
  | .mbxTimeout t m => Sys2Proof.Machine.execMbxTimeout t m s
  | .provLatch a slot use => Sys2Proof.Machine.execProvLatch a slot use s
  | .provGo a => Sys2Proof.Machine.execProvGo a s
  | .provLock a ok => Sys2Proof.Machine.execProvLock a ok s
  | .provProgramDone ok => Sys2Proof.Machine.execProvProgramDone ok s
  | .floor t m => Sys2Proof.Machine.execFloor t m s
  | .restart t m => Sys2Proof.Machine.execRestart t m s
  | .restartReset t => Sys2Proof.Machine.execRestartReset t s
  | .portReq t p => Sys2Proof.Machine.execPortReq t p s
  | .trngHealthFail t => Sys2Proof.Machine.execTrngHealthFail t s
  | .tamperProbe t k levels => Sys2Proof.Machine.execTamperProbe t k levels s
  | .sysNvRelease a v => Sys2Proof.Machine.execSysNvRelease a v s
  | .naveReleaseDone t c => Sys2Proof.Machine.execNaveReleaseDone t c s
  | .jnlPinAck a v => Sys2Proof.Machine.execJnlPinAck a v s
  | .mirrorRecordCopy t ok => Sys2Proof.Machine.execMirrorRecordCopy t ok s
  | .pinnedAreaFull t => Sys2Proof.Machine.execPinnedAreaFull t s
  | .safeHoldAutoRelease t => Sys2Proof.Machine.execSafeHoldAutoRelease t s
  | .fltCnvClr a c => Sys2Proof.Machine.execFltCnvClr a c s
  | .legOut a n => Sys2Proof.Machine.execLegOut a n s
  | .legIn a n => Sys2Proof.Machine.execLegIn a n s
  | .staleReread t n => Sys2Proof.Machine.execStaleReread t n s
  | .vigilWakeEvent cause => Sys2Proof.Machine.execVigilWakeEvent cause s
  | .pwrlowEnd => Sys2Proof.Machine.execPwrlowEnd s
  | .wakeTimeout => Sys2Proof.Machine.execWakeTimeout s
  | .jtagExtest => Sys2Proof.Machine.execJtagExtest s
  | .jtagSamplePreload => Sys2Proof.Machine.execJtagSamplePreload s
  | .jtagClamp => Sys2Proof.Machine.execJtagClamp s
  | .jtagHighz => Sys2Proof.Machine.execJtagHighz s
  | .jtagBypass code => Sys2Proof.Machine.execJtagBypass code s
  | .jtagDebug => Sys2Proof.Machine.execJtagDebug s
  | .dbgaccRead t addr => Sys2Proof.Machine.execDbgaccRead t addr s
  | .dbgaccWrite t addr v => Sys2Proof.Machine.execDbgaccWrite t addr v s
  | .debugHalt a c => Sys2Proof.Machine.execDebugHalt a c s
  | .debugResume a c => Sys2Proof.Machine.execDebugResume a c s
  | .debugStep a c => Sys2Proof.Machine.execDebugStep a c s
  | .dbgPcWrite a c v => Sys2Proof.Machine.execDbgPcWrite a c v s
  | .dbgGregWrite a c r v => Sys2Proof.Machine.execDbgGregWrite a c r v s
  | .testenAssert t => Sys2Proof.Machine.execTestenAssert t s
  | .spiHostRead t addr => Sys2Proof.Machine.execSpiHostRead t addr s
  | .spiHostWrite t addr v => Sys2Proof.Machine.execSpiHostWrite t addr v s
  | .spiHostCsRise t write addr v dataBits => Sys2Proof.Machine.execSpiHostCsRise t write addr v dataBits s
  | .divideComplete t c => Sys2Proof.Machine.execDivideComplete t c s
  | .damaskLongComplete t c => Sys2Proof.Machine.execDamaskLongComplete t c s
  | .squash t c => Sys2Proof.Machine.execSquash t c s
  | .nvAdd t c rd rs1 rs2 => Sys2Proof.Machine.execNvAdd t c rd rs1 rs2 s
  | .nvSub t c rd rs1 rs2 => Sys2Proof.Machine.execNvSub t c rd rs1 rs2 s
  | .nvAnd t c rd rs1 rs2 => Sys2Proof.Machine.execNvAnd t c rd rs1 rs2 s
  | .nvOr t c rd rs1 rs2 => Sys2Proof.Machine.execNvOr t c rd rs1 rs2 s
  | .nvXor t c rd rs1 rs2 => Sys2Proof.Machine.execNvXor t c rd rs1 rs2 s
  | .nvSlt t c rd rs1 rs2 => Sys2Proof.Machine.execNvSlt t c rd rs1 rs2 s
  | .nvSltu t c rd rs1 rs2 => Sys2Proof.Machine.execNvSltu t c rd rs1 rs2 s
  | .nvSll t c rd rs1 rs2 => Sys2Proof.Machine.execNvSll t c rd rs1 rs2 s
  | .nvSrl t c rd rs1 rs2 => Sys2Proof.Machine.execNvSrl t c rd rs1 rs2 s
  | .nvSra t c rd rs1 rs2 => Sys2Proof.Machine.execNvSra t c rd rs1 rs2 s
  | .nvSlli t c rd rs1 sh => Sys2Proof.Machine.execNvSlli t c rd rs1 sh s
  | .nvSrli t c rd rs1 sh => Sys2Proof.Machine.execNvSrli t c rd rs1 sh s
  | .nvSrai t c rd rs1 sh => Sys2Proof.Machine.execNvSrai t c rd rs1 sh s
  | .nvMin t c rd rs1 rs2 => Sys2Proof.Machine.execNvMin t c rd rs1 rs2 s
  | .nvMax t c rd rs1 rs2 => Sys2Proof.Machine.execNvMax t c rd rs1 rs2 s
  | .nvClz t c rd rs1 => Sys2Proof.Machine.execNvClz t c rd rs1 s
  | .nvPopc t c rd rs1 => Sys2Proof.Machine.execNvPopc t c rd rs1 s
  | .nvRevb t c rd rs1 => Sys2Proof.Machine.execNvRevb t c rd rs1 s
  | .nvAddi t c rd rs1 imm => Sys2Proof.Machine.execNvAddi t c rd rs1 imm s
  | .nvAndi t c rd rs1 imm => Sys2Proof.Machine.execNvAndi t c rd rs1 imm s
  | .nvOri t c rd rs1 imm => Sys2Proof.Machine.execNvOri t c rd rs1 imm s
  | .nvXori t c rd rs1 imm => Sys2Proof.Machine.execNvXori t c rd rs1 imm s
  | .nvSlti t c rd rs1 imm => Sys2Proof.Machine.execNvSlti t c rd rs1 imm s
  | .nvSltiu t c rd rs1 imm => Sys2Proof.Machine.execNvSltiu t c rd rs1 imm s
  | .nvLui t c rd imm => Sys2Proof.Machine.execNvLui t c rd imm s
  | .nvMul t c rd rs1 rs2 => Sys2Proof.Machine.execNvMul t c rd rs1 rs2 s
  | .nvMulh t c rd rs1 rs2 => Sys2Proof.Machine.execNvMulh t c rd rs1 rs2 s
  | .nvMulhu t c rd rs1 rs2 => Sys2Proof.Machine.execNvMulhu t c rd rs1 rs2 s
  | .nvDiv t c rd rs1 rs2 => Sys2Proof.Machine.execNvDiv t c rd rs1 rs2 s
  | .nvDivu t c rd rs1 rs2 => Sys2Proof.Machine.execNvDivu t c rd rs1 rs2 s
  | .nvRem t c rd rs1 rs2 => Sys2Proof.Machine.execNvRem t c rd rs1 rs2 s
  | .nvRemu t c rd rs1 rs2 => Sys2Proof.Machine.execNvRemu t c rd rs1 rs2 s
  | .nvQadd t c rd rs1 rs2 => Sys2Proof.Machine.execNvQadd t c rd rs1 rs2 s
  | .nvQsub t c rd rs1 rs2 => Sys2Proof.Machine.execNvQsub t c rd rs1 rs2 s
  | .nvQmul t c rd rs1 rs2 => Sys2Proof.Machine.execNvQmul t c rd rs1 rs2 s
  | .nvQmac t c rd rs1 rs2 => Sys2Proof.Machine.execNvQmac t c rd rs1 rs2 s
  | .nvQneg t c rd rs1 => Sys2Proof.Machine.execNvQneg t c rd rs1 s
  | .nvQabs t c rd rs1 => Sys2Proof.Machine.execNvQabs t c rd rs1 s
  | .nvSats t c rd rs1 sh => Sys2Proof.Machine.execNvSats t c rd rs1 sh s
  | .nvExtu t c rd rs1 pos w1 => Sys2Proof.Machine.execNvExtu t c rd rs1 pos w1 s
  | .nvExts t c rd rs1 pos w1 => Sys2Proof.Machine.execNvExts t c rd rs1 pos w1 s
  | .nvIns t c rd rs1 pos w1 => Sys2Proof.Machine.execNvIns t c rd rs1 pos w1 s
  | .nvLb t c rd rs1 imm => Sys2Proof.Machine.execNvLb t c rd rs1 imm s
  | .nvLbu t c rd rs1 imm => Sys2Proof.Machine.execNvLbu t c rd rs1 imm s
  | .nvLh t c rd rs1 imm => Sys2Proof.Machine.execNvLh t c rd rs1 imm s
  | .nvLhu t c rd rs1 imm => Sys2Proof.Machine.execNvLhu t c rd rs1 imm s
  | .nvLw t c rd rs1 imm => Sys2Proof.Machine.execNvLw t c rd rs1 imm s
  | .nvSb t c rs2 rs1 imm => Sys2Proof.Machine.execNvSb t c rs2 rs1 imm s
  | .nvSh t c rs2 rs1 imm => Sys2Proof.Machine.execNvSh t c rs2 rs1 imm s
  | .nvSw t c rs2 rs1 imm => Sys2Proof.Machine.execNvSw t c rs2 rs1 imm s
  | .nvBeq t c rs1 rs2 off => Sys2Proof.Machine.execNvBeq t c rs1 rs2 off s
  | .nvBne t c rs1 rs2 off => Sys2Proof.Machine.execNvBne t c rs1 rs2 off s
  | .nvBlt t c rs1 rs2 off => Sys2Proof.Machine.execNvBlt t c rs1 rs2 off s
  | .nvBge t c rs1 rs2 off => Sys2Proof.Machine.execNvBge t c rs1 rs2 off s
  | .nvBltu t c rs1 rs2 off => Sys2Proof.Machine.execNvBltu t c rs1 rs2 off s
  | .nvBgeu t c rs1 rs2 off => Sys2Proof.Machine.execNvBgeu t c rs1 rs2 off s
  | .nvJ t c off => Sys2Proof.Machine.execNvJ t c off s
  | .nvJal t c off => Sys2Proof.Machine.execNvJal t c off s
  | .nvJalr t c rd rs1 imm => Sys2Proof.Machine.execNvJalr t c rd rs1 imm s
  | .nvSyscall t c arg => Sys2Proof.Machine.execNvSyscall t c arg s
  | .nvBreak t c => Sys2Proof.Machine.execNvBreak t c s
  | .nvEret t c => Sys2Proof.Machine.execNvEret t c s
  | .nvMfcr t c rd n => Sys2Proof.Machine.execNvMfcr t c rd n s
  | .nvMtcr t c rs1 n => Sys2Proof.Machine.execNvMtcr t c rs1 n s
  | .nvWfi t c => Sys2Proof.Machine.execNvWfi t c s
  | .dkDmtd t c x y => Sys2Proof.Machine.execDkDmtd t c x y s
  | .dkDmfd t c x y => Sys2Proof.Machine.execDkDmfd t c x y s
  | .dkDmfs t c x => Sys2Proof.Machine.execDkDmfs t c x s
  | .dkDmts t c y => Sys2Proof.Machine.execDkDmts t c y s
  | .dkDqadd t c x y z => Sys2Proof.Machine.execDkDqadd t c x y z s
  | .dkDqsub t c x y z => Sys2Proof.Machine.execDkDqsub t c x y z s
  | .dkDqmul t c x y z => Sys2Proof.Machine.execDkDqmul t c x y z s
  | .dkDqmac t c x y z => Sys2Proof.Machine.execDkDqmac t c x y z s
  | .dkDqdiv t c x y z => Sys2Proof.Machine.execDkDqdiv t c x y z s
  | .dkFadd t c x y z => Sys2Proof.Machine.execDkFadd t c x y z s
  | .dkFsub t c x y z => Sys2Proof.Machine.execDkFsub t c x y z s
  | .dkFmul t c x y z => Sys2Proof.Machine.execDkFmul t c x y z s
  | .dkFmac t c x y z => Sys2Proof.Machine.execDkFmac t c x y z s
  | .dkFdiv t c x y z => Sys2Proof.Machine.execDkFdiv t c x y z s
  | .dkFsqrt t c x y => Sys2Proof.Machine.execDkFsqrt t c x y s
  | .dkFtoq t c x y => Sys2Proof.Machine.execDkFtoq t c x y s
  | .dkQtof t c x y => Sys2Proof.Machine.execDkQtof t c x y s
  | .dkCmul t c x y z => Sys2Proof.Machine.execDkCmul t c x y z s
  | .dkClarke t c x y => Sys2Proof.Machine.execDkClarke t c x y s
  | .dkPark t c x y z => Sys2Proof.Machine.execDkPark t c x y z s
  | .dkIpark t c x y z => Sys2Proof.Machine.execDkIpark t c x y z s
  | .dkSincos t c x y => Sys2Proof.Machine.execDkSincos t c x y s
  | .dkBq t c x y z => Sys2Proof.Machine.execDkBq t c x y z s
  | .dkPr t c x y z => Sys2Proof.Machine.execDkPr t c x y z s
  | .dkDsecr t c x y z => Sys2Proof.Machine.execDkDsecr t c x y z s
  | .dkDsecw t c x y z => Sys2Proof.Machine.execDkDsecw t c x y z s
  | .dkFir t c x y => Sys2Proof.Machine.execDkFir t c x y s
  | .dkFirw t c x y => Sys2Proof.Machine.execDkFirw t c x y s
  | .dkDld t c x y z => Sys2Proof.Machine.execDkDld t c x y z s
  | .dkDst t c x y z => Sys2Proof.Machine.execDkDst t c x y z s
  | .dkDtrk t c x y => Sys2Proof.Machine.execDkDtrk t c x y s
  | .dkDedg t c x y => Sys2Proof.Machine.execDkDedg t c x y s
  | .vldInRange t => Sys2Proof.Machine.execVldInRange t s
  | .vbaklow t vbak => Sys2Proof.Machine.execVbaklow t vbak s
  | .companionUvloRecovery t n sup => Sys2Proof.Machine.execCompanionUvloRecovery t n sup s
  | .abortSymbolsDetected t => Sys2Proof.Machine.execAbortSymbolsDetected t s
  | .illegalInstruction t c w => Sys2Proof.Machine.execIllegalInstruction t c w s
  | .ifetchFault t c => Sys2Proof.Machine.execIfetchFault t c s
  | .noTransitionWindow t n edge => Sys2Proof.Machine.execNoTransitionWindow t n edge s
  | .testLogicReset => Sys2Proof.Machine.execTestLogicReset s
  | .spiHostOtherCommand cmd => Sys2Proof.Machine.execSpiHostOtherCommand cmd s

end Sys2Proof.Machine
end

