-- ==== Sys2Proof/Safety.lean ====
section
/-!
DEFINITION. Sys2Proof/Safety.lean: the words that claims use: what holds of a state at all times, that a command leaves the
queue alone, and when a Nave core runs an instruction to its end.
-/

set_option Elab.async false

namespace Sys2Proof.Machine

/-- A field of the register map (Table 33.1): one that its register lists. -/
abbrev Fld.Listed (f : Fld) : Prop := f ∈ f.reg.fields

/-- Every field of every register holds a value of its width, so that reserved bits read as 0 (R5). -/
def State.fieldsFit (s : State) : Prop := ∀ (f : Fld) (i : Nat), f.Listed → s.get f i < 2 ^ f.width

/-- What every step keeps: the memory is in its canonical form and every register field fits its width. -/
def State.Inv (s : State) : Prop := s.memWf ∧ s.fieldsFit

/-- The block a field belongs to, by its 64-KB window (Table 33.1): 0 SYS, 1 CLK, 2 TB, 3 ANG, 4 TWL, 5 EDG, 6 SEL, 8 BTR,
9 ADC, 10 LSN, 11 CMP, 12 GRD and MPPT, 13 AXS, 14 AUX, 15 FAN and LOOP, 16 MTR, 17 JLN, 18 IRQ, 19 MBX, 20 JNL, 21 UCR,
22 FLT, 23 DBG, 24 VST. -/
def Fld.block (f : Fld) : Nat := f.reg.info.base / 65536 % 64

/-- What a block holds beside its registers is the same in two states. -/
def State.sameHidden (s0 s : State) : Nat → Prop
  | 0 => s.chn = s0.chn ∧ s.mode = s0.mode
  | 2 => s.tbs = s0.tbs
  | 3 => s.trk = s0.trk ∧ s.qry = s0.qry
  | 4 => s.slot = s0.slot ∧ s.twl = s0.twl
  | 5 => s.conv = s0.conv ∧ s.loc = s0.loc ∧ s.trip = s0.trip ∧ s.brk = s0.brk
  | 6 => s.bus = s0.bus ∧ s.drop = s0.drop
  | 9 => s.adc = s0.adc
  | 10 => s.lsn = s0.lsn ∧ s.lsnGrp = s0.lsnGrp
  | 11 => s.cmp = s0.cmp
  | 12 => s.grd = s0.grd ∧ s.mppt = s0.mppt
  | 13 => s.axs = s0.axs
  | 14 => s.aux = s0.aux
  | 15 => s.fan = s0.fan ∧ s.lp = s0.lp
  | 16 => s.mtr = s0.mtr ∧ s.pls = s0.pls ∧ s.tailing = s0.tailing
  | 17 => s.jln = s0.jln
  | 18 => s.irq = s0.irq
  | 19 => s.mbx = s0.mbx
  | 20 => s.jnl = s0.jnl
  | 21 => s.pow = s0.pow
  | 23 => s.dbg = s0.dbg
  | 24 => s.img = s0.img
  | _ => True

/-- A block is the same in two states: its registers and what it holds beside them. -/
def State.sameBlock (s0 s : State) (b : Nat) : Prop :=
  (∀ (f : Fld) (i : Nat), f.Listed → f.block = b → s.get f i = s0.get f i) ∧ State.sameHidden s0 s b

/-- From s to t no register field changes but the listed ones, each a field and its instance. -/
def State.onlyRegs (s t : State) (l : List (Fld × Nat)) : Prop :=
  ∀ (f : Fld) (i : Nat), f.Listed → (f, i) ∉ l → t.get f i = s.get f i

/-- The two sides of a leg stand apart (R169, R170): they are not on together, and neither waits to turn on beside the other. -/
def Comp.sidesApart (c : Comp) : Prop :=
  (c.hi = true → c.lo = false ∧ c.want ≠ some .low) ∧ (c.lo = true → c.want ≠ some .high)

/-- The state before an instruction of core c acts, at a time: TB_NOW there, and no wait for an interrupt left. -/
def State.issued (s : State) (t c : Nat) : State :=
  (s.touch t).setCore c { s.core c with wfi := false, irqDue := false }

/-- Core c runs an instruction at a time to its own end: it can issue, no breakpoint matches the pc, and the pc may be
fetched (R361, R371, R384, R386, R388, R493). -/
def State.runs (s : State) (t c : Nat) : Bool :=
  (s.touch t).issues c && ((s.core c).stepping || (s.breakHit c).isNone) && s.fetchOk c

/-- Core c committed an instruction at a time: register rd takes v and the pc is as given; nothing else changed. -/
def State.wrote (s : State) (t c : Nat) (rd : Fin 32) (v pc : Word) : State :=
  (s.issued t c).setCore c { ((s.issued t c).core c).setReg rd v with pc := pc }

/-- Core c committed an instruction at a time that only moves the pc. -/
def State.jumped (s : State) (t c : Nat) (pc : Word) : State :=
  (s.issued t c).setCore c { (s.issued t c).core c with pc := pc }

/-- Core c took an exception on an instruction at a time; the saved pc is as given (R365, R370). -/
def State.excepted (s : State) (t c vec detail : Nat) (tval epc : Word) : State :=
  (s.issued t c).enterExc c vec detail 0 tval epc

/-- Command i of core c writes v to register rd and goes on at pc; where R368 refuses v in g31 it raises STACK (R376). -/
def State.delivers (s : State) (t c : Nat) (i : Instr) (rd : Fin 32) (v pc : Word) : Prop :=
  ((s.core c).regOk rd v = true → exec i s = .next (s.wrote t c rd v pc)) ∧
  ((s.core c).regOk rd v = false → exec i s = .next (s.excepted t c 6 0 v (s.core c).pc))

/-- Command i of core c, whose word is w, sets Damask flags and takes some free values; without a trap for one of the flags
it changes the Damask by f and goes on, and with one it changes only the flags and raises DAMASK (R391, R399). -/
def State.damask (s : State) (t c : Nat) (i : Instr) (w : Word) (taken flags : Nat) (f : Damask → Damask) : Prop :=
  let z : State := { s.issued t c with free := s.free + taken }
  let m : Damask := { (s.core c).dm with status := Nat.lor (s.core c).dm.status flags }
  let trap := Nat.land flags (bits (s.core c).dm.status 8 6)
  (trap = 0 → exec i s = .next (z.setCore c { z.core c with dm := f m, pc := (s.core c).pc + 4 })) ∧
  (trap ≠ 0 → exec i s =
    .next ((z.setCore c { z.core c with dm := m }).enterExc c 9 (lowFlag trap) 0 w (s.core c).pc))

/-- The address of a load or store (R380). -/
def State.effAddr (s : State) (c : Nat) (rs1 : Fin 32) (imm : BitVec 16) : Nat :=
  ((s.core c).reg rs1 + imm.signExtend 32).toNat

/-- Core c may make an access: aligned (R380), with the right of its level (R361, R363), no watchpoint on it (R493). -/
def State.accesses (s : State) (c a : Nat) (sz : AccSize) (write : Bool) : Bool :=
  decide (a % sizeBytes sz = 0) && (s.core c).right c (s.core c).kernel (if write then .write else .read) a
    && ((s.core c).stepping || (s.watchHit c a write).isNone)

/-- Core c committed an instruction at a time that stores bytes at an address. -/
def State.stored (s : State) (t c a : Nat) (l : List Byte) : State :=
  ((s.issued t c).setBytes a l).setCore c { (s.issued t c).core c with pc := (s.core c).pc + 4 }

end Sys2Proof.Machine

namespace Sys2Proof

/-- What a command may change at all: the memories, the Nave cores, the companions, the words latched for a 64-bit read, the
answer of the last access, TB_NOW otherwise than forward, and the blocks of the register map (every block, where `all`). -/
structure Reach where
  mem : Bool := false
  cores : Bool := false
  comp : Bool := false
  latch : Bool := false
  resp : Bool := false
  time : Bool := false
  all : Bool := false
  blocks : List Nat := []
  deriving DecidableEq, Repr

/-- The reach of each command, grouped by equal reach. -/
def Instr.reach : Instr → Reach
  | .registerWrite .. | .dbgaccWrite .. | .debugHalt .. | .debugResume .. | .debugStep .. | .spiHostWrite ..
  | .spiHostCsRise .. | .nvAdd .. | .nvSub .. | .nvAnd .. | .nvOr .. | .nvXor .. | .nvSlt .. | .nvSltu ..
  | .nvSll .. | .nvSrl .. | .nvSra .. | .nvSlli .. | .nvSrli .. | .nvSrai .. | .nvMin .. | .nvMax ..
  | .nvClz .. | .nvPopc .. | .nvRevb .. | .nvAddi .. | .nvAndi .. | .nvOri .. | .nvXori .. | .nvSlti ..
  | .nvSltiu .. | .nvLui .. | .nvMul .. | .nvMulh .. | .nvMulhu .. | .nvDiv .. | .nvDivu .. | .nvRem ..
  | .nvRemu .. | .nvQadd .. | .nvQsub .. | .nvQmul .. | .nvQmac .. | .nvQneg .. | .nvQabs .. | .nvSats ..
  | .nvExtu .. | .nvExts .. | .nvIns .. | .nvLb .. | .nvLbu .. | .nvLh .. | .nvLhu .. | .nvLw .. | .nvSb ..
  | .nvSh .. | .nvSw .. | .nvBeq .. | .nvBne .. | .nvBlt .. | .nvBge .. | .nvBltu .. | .nvBgeu .. | .nvJ ..
  | .nvJal .. | .nvJalr .. | .nvSyscall .. | .nvBreak .. | .nvEret .. | .nvMfcr .. | .nvMtcr .. | .nvWfi ..
  | .dkDmtd .. | .dkDmfd .. | .dkDmfs .. | .dkDmts .. | .dkDqadd .. | .dkDqsub .. | .dkDqmul .. | .dkDqmac ..
  | .dkDqdiv .. | .dkFadd .. | .dkFsub .. | .dkFmul .. | .dkFmac .. | .dkFdiv .. | .dkFsqrt .. | .dkFtoq ..
  | .dkQtof .. | .dkCmul .. | .dkClarke .. | .dkPark .. | .dkIpark .. | .dkSincos .. | .dkBq .. | .dkPr ..
  | .dkDsecr .. | .dkDsecw .. | .dkFir .. | .dkFirw .. | .dkDld .. | .dkDst .. | .dkDtrk .. | .dkDedg ..
    => { mem := true, cores := true, latch := true, resp := true, all := true }
  | .lowWordRead .. | .dbgaccRead .. | .spiHostRead .. => { latch := true, resp := true, all := true }
  | .adcFifoDataRead .. => { latch := true, resp := true, blocks := [9] }
  | .angQryOutRead .. => { latch := true, resp := true }
  | .undercroftStart .. | .undercroftDeath .. | .deviceResetRelease .. | .pllsLock .. => { blocks := [0, 21] }
  | .harvesterModeChange .. | .wakeTimeout .. | .vbaklow .. => { blocks := [18, 21] }
  | .deviceReset .. | .mainSupplyOutOfRange .. | .restartReset ..
    => { mem := true, cores := true, comp := true, latch := true, resp := true, time := true, all := true }
  | .vldLow .. => { blocks := [17, 18, 21] }
  | .pfailnAssert .. => { blocks := [5, 6, 11, 12, 13, 16, 18, 20, 21, 22] }
  | .pfailnRelease .. | .safeHoldAutoRelease .. => { blocks := [5, 21, 22] }
  | .slotHeadersRead .. | .katEcdsaDone .. => { blocks := [0, 5, 6, 11, 12, 13, 18, 20, 21, 22, 24] }
  | .imageFetched .. => { mem := true, blocks := [0, 21, 24] }
  | .signatureVerified .. => { blocks := [0, 21, 24] }
  | .recordValuesCommitted .. | .modeApply .. => { all := true }
  | .journalWorkDone .. | .plltLockDeclared ..
    => { time := true, blocks := [0, 1, 2, 3, 4, 5, 9, 11, 14, 15, 16, 17, 18, 20, 21] }
  | .gateSuppliesUp .. => { blocks := [0, 6] }
  | .admissionWaitEnd .. => { cores := true, blocks := [0, 4, 5, 6, 11, 12, 13, 16, 18, 20, 21, 22] }
  | .sysCoreArm .. => { resp := true, blocks := [0, 12, 13, 15, 18] }
  | .sysModeReq .. | .sysModeCancel .. => { resp := true, blocks := [0, 18, 20] }
  | .plltUnlock .. => { blocks := [1, 2, 5, 6, 11, 12, 13, 18, 20, 21, 22] }
  | .pllsFreqFault .. => { blocks := [1, 5, 6, 11, 12, 13, 18, 20, 21, 22] }
  | .referencePresent .. | .referenceLost .. | .qualifyPass .. | .qualifyFail .. | .referenceBarExpire ..
  | .slewComplete .. => { blocks := [2, 18] }
  | .ucrTimeTick .. | .vigilWakeEvent .. | .pwrlowEnd .. => { blocks := [21] }
  | .trackerUpdate .. => { cores := true, blocks := [3, 4, 5, 6, 12, 18, 20, 22] }
  | .encoderEdge .. => { blocks := [3] }
  | .angSlStampHiWrite .. => { cores := true, resp := true, blocks := [3, 4, 18] }
  | .angleAtTimeQuery .. | .timeAtAngleQuery .. => { resp := true, blocks := [3] }
  | .queryResultReady .. => { latch := true, resp := true, blocks := [3, 23] }
  | .trackerSourceLoss .. | .trackerAcquired .. => { blocks := [3, 4, 18] }
  | .trackerCoastExpire .. => { blocks := [3, 5, 6, 12, 18, 20, 22] }
  | .twillPass .. => { blocks := [0, 3, 4, 5, 6, 9, 10, 11, 16, 17, 18, 20] }
  | .twillFire .. => { blocks := [0, 4, 5, 6, 9, 10, 11, 16, 17, 18, 20] }
  | .twillSlotArm .. | .twillSlotDisarm .. | .twillTargetCommit .. | .twillStepCommit ..
    => { resp := true, blocks := [4] }
  | .edgCnvCommit .. | .locForceWrite .. => { resp := true, blocks := [5] }
  | .converterCutoff .. => { blocks := [5, 6] }
  | .converterBoundary .. | .gridCloseDone .. => { blocks := [5, 6, 12, 18, 20] }
  | .cnvEnable .. | .cnvDisable .. | .cnvDisableImmediate .. | .cnvClrtrip .. | .cnvForceWrite ..
    => { resp := true, blocks := [5, 6] }
  | .locCommit .. | .locEnable .. | .locDisable .. | .locDisableImmediate .. | .locClrtrip ..
    => { resp := true, blocks := [5, 11] }
  | .localOutputBoundary .. | .brkPinChange .. => { blocks := [5, 11] }
  | .tripInputChange .. => { blocks := [5] }
  | .tripAsserted .. => { blocks := [5, 6, 11, 18, 20, 22] }
  | .selvedgeCycleStart .. | .enumAnswer .. => { blocks := [6, 8, 18] }
  | .frameBSend .. | .delayDriftCorrect .. => { blocks := [6, 18] }
  | .downstreamFrameRx .. | .safeBlock .. | .patternBlock .. | .mgmtRead .. | .mgmtWrite ..
  | .companionFrameALoss .. | .companionDataTx .. | .companionBoundary .. | .companionGateEdge ..
  | .gateSenseLow .. | .deadTimeEnd .. | .gatestuck .. | .switchTransition .. | .companionVddpUp ..
  | .companionUvlo .. | .supok10Set .. | .heartbeatLoss .. | .overCurrentTrip .. | .desatTrip .. | .ovDcTrip ..
  | .overTemperatureTrip .. | .softTurnoffEnd .. | .brakeChopperOn .. | .brakeChopperOff ..
  | .companionUvloRecovery .. | .noTransitionWindow .. => { comp := true }
  | .mgmtRetry .. | .calEcho .. | .staleReread .. => { blocks := [6] }
  | .upstreamDataFrame .. => { blocks := [5, 6, 8, 10, 12, 13, 18, 20, 22] }
  | .dataFrameMissing .. => { blocks := [5, 6, 10, 12, 13, 18, 20, 22] }
  | .btrCtrlWrite .. => { resp := true, blocks := [6] }
  | .brakeMinIntervalEnd .. => { comp := true, blocks := [5, 11] }
  | .brakeSaturation .. => { blocks := [5, 6, 8, 18, 20, 22] }
  | .adcSoftwareStart .. | .adcCoreEnable .. | .adcCoreDisable .. => { resp := true, blocks := [9, 18] }
  | .adctrgEdge .. => { blocks := [9, 18] }
  | .adcConversionDone .. => { mem := true, blocks := [9, 12, 18] }
  | .adcDmaRdWrite .. => { mem := true, resp := true, blocks := [9, 18] }
  | .lsnEnable .. | .lsnDisable .. => { resp := true, blocks := [10, 18] }
  | .comparatorRawEdge .. | .cmpModeHoldEnd .. => { blocks := [5, 11, 14] }
  | .comparatorEdgeAccepted .. => { blocks := [11, 18] }
  | .slopeRampStart .. | .slopeRampEnd .. | .cmpTestRoutesResume .. => { blocks := [11] }
  | .cmpDacWrite .. | .cmpTestWrite .. | .cmpEnable .. | .cmpDisable .. => { resp := true, blocks := [11] }
  | .grdEnable .. | .grdDisable .. | .grdDisableImmediate .. | .grdReconnect .. | .grdClrtrip ..
    => { resp := true, blocks := [5, 6, 12, 18, 20, 22] }
  | .gridReconElapsed .. | .gridRideTrip .. => { blocks := [5, 6, 12, 18, 20, 22] }
  | .gridExcursionEnd .. | .mpptStep .. | .mpptScanDwellEnd .. => { blocks := [12, 18] }
  | .nudgeStart .. | .tokenAgeExpire .. | .mpptScheduledScan .. => { blocks := [12] }
  | .gridDrainDone .. => { blocks := [5, 6, 12, 18] }
  | .mpptScanCmd .. | .mpptEnable .. | .mpptDisable .. | .mpptDisableImmediate .. => { resp := true, blocks := [12] }
  | .axisUpdate .. => { blocks := [5, 6, 13, 18, 20, 22] }
  | .axsEnable .. | .axsDisable .. | .axsDisableImmediate .. | .axsClrflt ..
    => { resp := true, blocks := [5, 6, 13, 18, 20] }
  | .auxPeriodStart .. => { blocks := [0, 11, 14, 18, 20] }
  | .auxOntimeEnd .. => { blocks := [11, 14] }
  | .auxShortCheck .. | .auxRunShort .. => { blocks := [0, 5, 6, 11, 14, 18, 20, 21, 22] }
  | .auxHiccupEnd .. => { blocks := [0, 14, 18, 20] }
  | .auxEnable .. | .auxDisable .. | .auxDisableImmediate .. | .auxClrshort ..
    => { resp := true, blocks := [0, 11, 14, 18, 20] }
  | .fanPeriodStart .. | .fanStartCheck .. | .loopSample .. => { blocks := [15, 18] }
  | .fantachEdge .. | .fanKickEnd .. | .fanRetryEnd .. | .fanTachRegained .. => { blocks := [15] }
  | .fanTachMissing .. => { blocks := [5, 6, 15, 18, 20, 22] }
  | .fanEnable .. | .fanDisable .. | .fanDisableImmediate .. | .fanClrfault .. => { resp := true, blocks := [15] }
  | .loopEnable .. | .loopDisable .. | .loopDisableImmediate .. | .loopFault ..
    => { resp := true, blocks := [15, 18] }
  | .meterSample .. | .pulseStart .. | .pulseEnd .. | .meterSnapshot .. => { blocks := [16, 18] }
  | .meterIntervalEnd .. | .meterCheckpoint .. | .portReq .. => { blocks := [16, 18, 20] }
  | .mtrPortDisable .. | .mtrPortEnable .. => { resp := true, blocks := [16] }
  | .jalamPreambleDetect .. | .jalamHeaderDecoded .. | .jalamFrameReceived .. | .pollNoresp .. | .rxData ..
  | .rxAssocReq .. | .rxAssocResp .. | .rxAssocConf .. | .rxDisassoc .. | .listenTimeout .. | .beaconLoss ..
  | .assocTimeout .. | .abortSymbolsDetected .. => { blocks := [17, 18] }
  | .jalamTxStart .. | .jalamTxDone .. | .ackTimeout .. | .rxAck .. => { blocks := [17, 18, 20] }
  | .cfpEnd .. | .backoffSlot .. | .rxPoll .. | .rxNull .. | .assocConfTimeout .. => { blocks := [17] }
  | .rxBeacon .. => { blocks := [2, 5, 6, 12, 17, 18, 20, 22] }
  | .readMeter .. => { blocks := [0, 17, 18] }
  | .revoke .. => { blocks := [0, 17, 18, 20] }
  | .jlnTxGo .. | .jlnTxCancel .. | .jlnEnable .. | .jlnDisable .. => { resp := true, blocks := [17, 18, 20] }
  | .jlnRxRelease .. => { resp := true, blocks := [17] }
  | .irqEntry .. => { mem := true, cores := true, blocks := [0, 5, 6, 11, 12, 13, 14, 15, 18, 20, 22] }
  | .irqHoldoffEnd .. | .gpioInputSample .. => { blocks := [18] }
  | .irqPendSet .. | .irqPendClr .. | .irqEnSet .. | .irqEnClr .. | .irqDoorbell ..
    => { resp := true, blocks := [18] }
  | .mbxHdrCommit .. | .mbxTake .. | .mbxWithdraw .. => { resp := true, blocks := [18, 19, 20] }
  | .mbxTimeout .. => { blocks := [18, 19] }
  | .provLatch .. | .provGo .. | .provLock .. | .jnlPinAck .. => { resp := true, blocks := [0, 16, 18, 20] }
  | .provProgramDone .. => { blocks := [0] }
  | .floor .. => { blocks := [0, 18, 19, 20] }
  | .restart .. => { blocks := [0, 5, 6, 11, 12, 13, 18, 19, 20, 21, 22] }
  | .trngHealthFail .. => { blocks := [0, 5, 6, 18, 20, 22] }
  | .tamperProbe .. | .mirrorRecordCopy .. => { blocks := [0, 16, 18, 20] }
  | .sysNvRelease .. => { resp := true, blocks := [0] }
  | .naveReleaseDone .. => { mem := true, cores := true, blocks := [0, 5, 15, 18, 22] }
  | .pinnedAreaFull .. => { blocks := [18, 20] }
  | .fltCnvClr .. => { resp := true, blocks := [5, 18, 22] }
  | .legOut .. | .legIn .. => { resp := true, blocks := [6, 22] }
  | .jtagExtest .. | .jtagSamplePreload .. | .jtagClamp .. | .jtagHighz .. | .jtagBypass .. | .jtagDebug ..
  | .testLogicReset .. | .spiHostOtherCommand .. => { blocks := [23] }
  | .dbgPcWrite .. | .dbgGregWrite .. => { cores := true, resp := true }
  | .testenAssert .. => { blocks := [0, 18, 20, 23] }
  | .divideComplete .. | .damaskLongComplete .. | .illegalInstruction .. | .ifetchFault ..
    => { mem := true, cores := true, blocks := [0, 5, 6, 11, 12, 13, 14, 15, 18, 20, 22, 23] }
  | .squash .. => { cores := true }
  | .vldInRange .. => { blocks := [17, 21] }

/-- The companion that a command of the companions alone is for. -/
def Instr.companion? : Instr → Option (Fin 256)
  | .safeBlock _ n _ => some n
  | .patternBlock _ n _ _ _ _ _ => some n
  | .mgmtRead _ n _ _ => some n
  | .mgmtWrite _ n _ _ _ => some n
  | .downstreamFrameRx _ n _ => some n
  | .companionFrameALoss _ n => some n
  | .companionDataTx _ n _ _ _ => some n
  | .companionBoundary _ n => some n
  | .companionGateEdge _ n _ => some n
  | .gateSenseLow _ n _ => some n
  | .deadTimeEnd _ n => some n
  | .gatestuck _ n => some n
  | .switchTransition _ n _ _ _ _ => some n
  | .noTransitionWindow _ n _ => some n
  | .companionVddpUp n _ => some n
  | .companionUvlo _ n _ => some n
  | .companionUvloRecovery _ n _ => some n
  | .supok10Set _ n => some n
  | .heartbeatLoss _ n => some n
  | .overCurrentTrip _ n => some n
  | .desatTrip _ n _ => some n
  | .ovDcTrip _ n _ => some n
  | .overTemperatureTrip _ n _ => some n
  | .softTurnoffEnd _ n _ => some n
  | .brakeChopperOn _ n _ => some n
  | .brakeChopperOff _ n _ => some n
  | .brakeMinIntervalEnd _ (.leg n) _ => some n
  | _ => none

end Sys2Proof
end

