-- ==== Sys2Proof/Certificates/Slice0/Obligations.lean ====
section
/-!
DEFINITION. Sys2Proof/Certificates/Slice0/Obligations.lean: the statements for the provers. Where a clause says that a command that
meets a unit in a state it does not fit changes nothing but TB_NOW, that is the model's choice (log entry 7). Free values
enter a clause only through `State.freeWord` and the like, which nothing constrains (log entry 4).
-/

set_option Elab.async false

open Sys2Proof Sys2Proof.Machine

/-- A step runs the command at the front of the queue on the state with the queue's rest; with none waiting the block idles (log entry
1: the queue and its idling are the model's choice). -/
def Obligations.StepRunsFront : Prop :=
  (∀ (s : State) (c : Instr) (rest : List Instr), s.pending = c :: rest → step s = exec c { s with pending := rest }) ∧
  (∀ s : State, s.pending = [] → step s = .next s)

/-- Every step keeps the invariant: the memory's canonical form, and every register field within its width, so that reserved bits read 0
(R5). -/
def Obligations.InvariantKept : Prop :=
  ∀ s t : State, s.Inv → step s = .next t → t.Inv

/-- After reset the invariant holds, every register field is at its reset value, the queue is empty, TB_NOW stands, both cores are at
core reset (Table 20.6), and no companion's leg has two sides on (the hidden parts' values are the model's, log entries 1 and 2). -/
def Obligations.ResetState : Prop :=
  State.reset.Inv ∧ (∀ (f : Fld) (i : Nat), State.reset.get f i = f.reset) ∧ State.reset.pending = [] ∧
  State.reset.tbRun = false ∧ (∀ c : Fin 2, State.reset.core c = Nave.init c) ∧ ∀ n, (State.reset.compOf n).sidesApart

/-- A command changes no part of the machine outside its reach (`Instr.reach`): the queue never; and, where the reach leaves them out,
the memories, the cores, the companions, the latches of 64-bit reads, the answer of the last access, and every block's registers and
hidden parts. TB_NOW never steps back (R74): no command lowers it, but a reset or the start of a new RUN. -/
def Obligations.CommandsKeepTheRest : Prop :=
  (∀ (i : Instr) (s u : State), exec i s = .next u →
     u.pending = s.pending ∧
     (i.reach.mem = false → u.mem = s.mem) ∧
     (i.reach.cores = false → u.nave0 = s.nave0 ∧ u.nave1 = s.nave1) ∧
     (i.reach.comp = false → u.comp = s.comp) ∧
     (i.reach.latch = false → u.latch = s.latch) ∧
     (i.reach.resp = false → u.resp = s.resp) ∧
     (i.reach.time = false → u.tbRun = s.tbRun) ∧
     (i.reach.all = false → ∀ b, b ∉ i.reach.blocks → State.sameBlock s u b)) ∧
  (∀ (i : Instr) (s u : State), i.reach.time = false → exec i s = .next u → s.tb ≤ u.tb)

/-- A command for one companion leaves every other companion as it was (R166: each answers its own blocks alone). -/
def Obligations.OtherCompanionsUntouched : Prop :=
  ∀ (i : Instr) (s u : State) (n : Fin 256) (m : Nat), i.companion? = some n → m ≠ n.val → exec i s = .next u →
    u.compOf m = s.compOf m

/-- The words of Tables 21.1 to 21.8 and 22.1: each well-formed instruction's word decodes to it, with every operand at every value, and
a word that decodes is the word of the instruction it decodes to, which is well formed (R374, R375, R379, R392). -/
def Obligations.NaveWordsAreUnambiguous : Prop :=
  (∀ i : NaveInstr, i.wf = true → encodeNave i < 4294967296 ∧ decodeNave (encodeNave i) = some i) ∧
  (∀ (w : Nat) (i : NaveInstr), w < 4294967296 → decodeNave w = some i → i.wf = true ∧ encodeNave i = w)

/-- Words written out from the encoding tables decode to their instructions, and erased flash and a zero word are ILLEGAL (R375). -/
def Obligations.NaveWordsFromTheTables : Prop :=
  decodeNave 0b000000_00011_00001_00010_00000_000001 = some (.nvAdd 3 1 2) ∧
  decodeNave 0b000001_00100_00101_00000_01000_001110 = some (.nvSats 4 5 8) ∧
  decodeNave 0b000010_00100_00101_00011_00111_000011 = some (.nvIns 4 5 3 7) ∧
  decodeNave 0b000100_00001_00010_1111111111111111 = some (.nvAddi 1 2 0xFFFF) ∧
  decodeNave 0b011010_00001_00010_0000000000001000 = some (.nvSw 1 2 8) ∧
  decodeNave 0b100000_00001_00010_1111111111111110 = some (.nvBeq 1 2 0xFFFE) ∧
  decodeNave 0b101000_00000000000000000000000100 = some (.nvJ 4) ∧
  decodeNave 0b111111_00111_00000_0011_0000_00000010 = some (.nvMfcr 7 2) ∧
  decodeNave 0b111100_00010_00100_00110_00000110000 = some (.dkCmul 2 4 6) ∧
  decodeNave 0 = none ∧ decodeNave 0xFFFFFFFF = none

/-- An access to the peripheral range that is not an aligned 32-bit one receives a bus error, and a write made with it is discarded
(R4). -/
def Obligations.PeripheralsTakeAlignedWords : Prop :=
  ∀ (s : State) (a : Acc) (addr : Word) (sz : AccSize) (v : Word), regionOf addr.toNat = .periph →
    sz ≠ .word ∨ addr.toNat % 4 ≠ 0 →
    exec (.registerWrite a addr sz v) s = .next (s.touch a.t).busErr ∧
    exec (.lowWordRead a addr sz) s = .next (s.touch a.t).busErr

/-- EXTEST, CLAMP and HIGHZ take effect only while RSTN holds the device in reset; updated at any other time, BYPASS is selected in
their place and SCANREF sets (R490). -/
def Obligations.ScanInstructionsOnlyInReset : Prop :=
  ∀ s : State, s.pow.st ≠ .off → s.pow.st ≠ .vigil →
    (s.pow.inReset = true ∧ s.pow.rstn = false → exec .jtagExtest s = .next (s.setIr .extest) ∧
      exec .jtagClamp s = .next (s.setIr .clamp) ∧ exec .jtagHighz s = .next (s.setIr .highz)) ∧
    (¬(s.pow.inReset = true ∧ s.pow.rstn = false) → ∀ i ∈ [Instr.jtagExtest, .jtagClamp, .jtagHighz],
      ∃ u, exec i s = .next u ∧ u.dbg = { s.dbg with ir := .bypass } ∧ u.get Fld.DBG_STATUS_SCANREF 0 = 1 ∧
        s.onlyRegs u [(Fld.DBG_STATUS_SCANREF, 0)])

/-- When TMO passes with the message still FULL, the mailbox sets TIMEOUT and raises NOTIFY; the message stays, its receiver may still
take it, and the timeout does not restart (R418). -/
def Obligations.MailboxTimeoutKeepsTheMessage : Prop :=
  ∀ (s : State) (t x : Nat) (m : Fin 64) (n : Nat), (s.mbxOf m).till = some x → x ≤ t → s.mbxFull m = true →
    n = s.get Fld.MBX_CFG_NOTIFY m → ∃ u, exec (.mbxTimeout t m) s = .next u ∧ u.get Fld.MBX_STATUS_TIMEOUT m = 1 ∧
      (s.flag Fld.MBX_CFG_NOTEN m = true → u.isPend n = true) ∧ u.mbxFull m = true ∧ (u.mbxOf m).till = none ∧
      (u.mbxOf m).ticket = (s.mbxOf m).ticket ∧
      s.onlyRegs u [(Fld.MBX_STATUS_TIMEOUT, m.val), (Fld.MBX_CNT_TIMEOUTS, m.val), (Fld.IRQ_PEND_PEND, n / 32),
        (Fld.IRQ_GRP_STATUS_COALESCED, n / 32)] ∧
      ∀ a : Acc, s.mbxReceiver a m = true → ∃ w, exec (.mbxTake a m) u = .next w ∧ w.resp.status = .ok ∧ w.mbxFull m = false

/-- A commit whose COUNT is 0 or above 16 is refused whole: nothing in the mailbox changes, the write is discarded with a bus error, and
BADCOUNT sets in the sender's MBX_STAGE_STATUS (R421). -/
def Obligations.BadCountRefusesTheCommit : Prop :=
  ∀ (s : State) (a : Acc) (m : Fin 64) (v : Word) (k : Nat), stageOf a = some k → s.hasMbx m = true →
    bits v.toNat 5 3 = 0 → bits v.toNat 20 12 = 0 → bits v.toNat 16 4 ≤ 6 ∨ bits v.toNat 16 4 = 15 →
    v.toNat % 32 = 0 ∨ 16 < v.toNat % 32 →
    ∃ u, exec (.mbxHdrCommit a m v) s = .next u ∧ u.resp.status = .busErr ∧ u.get Fld.MBX_STAGE_STATUS_BADCOUNT k = 1 ∧
      u.mbx = s.mbx ∧ s.onlyRegs u [(Fld.MBX_STAGE_STATUS_BADCOUNT, k)]

/-- A write on the bus (R2, R4, R5): one of the wrong size, misaligned, without its right or at no register is a bus error; a register
of read-only fields ignores it, but for those whose chapter names a bus error (the companion mirror, another master's query window,
a core's debug status); a reserved encoding discards it whole; a shadow register takes it from its owner alone; memory takes
its bytes; the debug port's CTRL acts as HALT, RESUME and STEP. The two CTRL words of the debug block are the rows DEBUG_HALT,
DEBUG_RESUME and DEBUG_STEP (R492). -/
def Obligations.RegisterWrites : Prop :=
  (∀ (s : State) (a : Acc) (addr : Word) (sz : AccSize) (v : Word) (x : Nat), x = addr.toNat → x ≠ 0x40170000 → x ≠ 0x40170200 →
     (s.accessBad a true x sz = true → exec (.registerWrite a addr sz v) s = .next (s.touch a.t).busErr) ∧
     (x % sizeBytes sz ≠ 0 ∨ (regionOf x = .periph ∧ sz ≠ .word) → s.accessBad a true x sz = true) ∧
     (s.accessBad a true x sz = false → regionOf x ≠ .periph → ∃ u, exec (.registerWrite a addr sz v) s = .next u ∧
       u.resp.status = .ok ∧ (∀ k, k < sizeBytes sz → u.byte (x + k) = BitVec.ofNat 8 (v.toNat / 256 ^ k)) ∧
       (∀ y, y < x ∨ x + sizeBytes sz ≤ y → u.byte y = s.byte y) ∧ s.onlyRegs u []) ∧
     (s.accessBad a true x sz = false → regionOf x = .periph → regAt x = none →
       exec (.registerWrite a addr sz v) s = .next (s.touch a.t).busErr) ∧
     (∀ (r : Reg) (i : Nat), s.accessBad a true x sz = false → regionOf x = .periph → regAt x = some (r, i) →
       (r.writable = false → roRejects a r i = false → exec (.registerWrite a addr sz v) s = .next (s.touch a.t).ok) ∧
       (r.writable = false → roRejects a r i = true → exec (.registerWrite a addr sz v) s = .next (s.touch a.t).busErr) ∧
       (r.writable = true → r ≠ .MBX_HDR → r.legal v.toNat = false →
         exec (.registerWrite a addr sz v) s = .next (s.touch a.t).busErr) ∧
       (r = .EDG_CNV_PERIOD_SH → r.legal v.toNat = true →
         (s.cnvWriter a i = false → exec (.registerWrite a addr sz v) s = .next (s.touch a.t).busErr) ∧
         (s.cnvWriter a i = true → ∃ u, exec (.registerWrite a addr sz v) s = .next u ∧ u.resp.status = .ok ∧
           (∀ f ∈ r.fields, f.acc = .RW → u.get f i = bits v.toNat f.lo f.width) ∧
           s.onlyRegs u (r.fields.map (fun f => (f, i))))) ∧
       (r = .IRQ_DOORBELL → r.legal v.toNat = true → exec (.registerWrite a addr sz v) s = exec (.irqDoorbell a v) s))) ∧
  (∀ (s : State) (a : Acc) (c : Fin 2) (addr : Word), addr = BitVec.ofNat 32 (0x40170000 + 512 * c.val) →
     exec (.registerWrite a addr .word 1) s = exec (.debugHalt a c) s ∧
     exec (.registerWrite a addr .word 2) s = exec (.debugResume a c) s ∧
     exec (.registerWrite a addr .word 4) s = exec (.debugStep a c) s)

/-- A read on the bus (R2, R4, R7): a read of the low word copies the high word into the master's own latch for that register, a read of
the high word returns it, and no other latch and no register changes; memory answers its bytes. -/
def Obligations.RegisterReads : Prop :=
  ∀ (s : State) (a : Acc) (addr : Word) (sz : AccSize) (x : Nat), x = addr.toNat →
    (s.accessBad a false x sz = true → exec (.lowWordRead a addr sz) s = .next (s.touch a.t).busErr) ∧
    (x % sizeBytes sz ≠ 0 ∨ (regionOf x = .periph ∧ sz ≠ .word) → s.accessBad a false x sz = true) ∧
    (s.accessBad a false x sz = false → regionOf x ≠ .periph →
      exec (.lowWordRead a addr sz) s = .next ((s.touch a.t).answer (s.memRead (sizeBytes sz) x))) ∧
    (s.accessBad a false x sz = false → regionOf x = .periph → regAt x = none →
      exec (.lowWordRead a addr sz) s = .next (s.touch a.t).busErr) ∧
    (∀ (r : Reg) (i : Nat), s.accessBad a false x sz = false → regionOf x = .periph → regAt x = some (r, i) →
      r ∉ [Reg.ADC_FIFO_DATA, .ANG_QRY_CTRL, .ANG_QRY_IN_LO, .ANG_QRY_IN_HI, .ANG_QRY_OUT_LO, .ANG_QRY_OUT_HI, .ANG_QRY_STATUS] →
      (r ∈ latchedRegs → exec (.lowWordRead a addr sz) s = .next ((s.touch a.t).answer (s.latched a.m r i))) ∧
      (r ∉ latchedRegs → ∃ u, exec (.lowWordRead a addr sz) s = .next u ∧ u.resp.status = .ok ∧
        u.resp.data = BitVec.ofNat 32 ((s.touch a.t).regLive a r i) ∧
        (∀ h ∈ r.latches, u.latched a.m h i = (s.touch a.t).regLive a h i) ∧
        (∀ (m : Master) (h : Reg) (j : Nat), m ≠ a.m ∨ h ∉ r.latches ∨ j ≠ i → u.latched m h j = s.latched m h j) ∧
        s.onlyRegs u [] ∧ u.mem = s.mem))

/-- The Undercroft starts from dead with time count 0 and UVALID 0 and takes OFF to VIGIL, dies to OFF with its tamper latches (R467);
its time count rises by one modulo 2^48 (R469); the harvester changes mode at the thresholds of R468 and a change sets HARVCHG.
START begins when device reset is released, and leaves RESET without another chance (R20, R47, R471); a device reset returns to
START held in reset and keeps the Undercroft, the retention SRAM, the FRAM and the companions (R504); a main supply out of range
sets the time count under R75, drives PWREN low and places the device in VIGIL (R466). In VIGIL a wake cause that is enabled sets
its WAKESRC bit and drives PWREN high, or waits for the end of the PWRLOW time; supplies that do not come leave PWREN low and are
counted (R471). VBAK below VBAKWARN sets VBAKLOW in RUN (R473). -/
def Obligations.UndercroftAndSupplies : Prop :=
  ((∀ s : State, s.pow.st = .off → s.pow.under = false →
     ∃ u, exec .undercroftStart s = .next u ∧ u.pow.st = .vigil ∧ u.pow.under = true ∧
       u.get Fld.UCR_TIME_LO_COUNT 0 = 0 ∧ u.get Fld.UCR_TIME_HI_COUNT 0 = 0 ∧ u.get Fld.UCR_STATUS_UVALID 0 = 0 ∧
       u.chn.tamper = []) ∧
   (∀ s : State, s.pow.st = .vigil →
     ∃ u, exec .undercroftDeath s = .next u ∧ u.pow.st = .off ∧ u.pow.under = false ∧ u.pow.pwren = .z ∧
       u.pow.retained = false ∧ u.chn.tamper = [] ∧ u.get Fld.SYS_TAMPER_COUNT 0 = 0 ∧ u.get Fld.SYS_TAMPER_COUNT 1 = 0) ∧
   (∀ (s : State) (t : Nat), s.pow.under = true → s.tbRun = true → t % 625000 ≠ 0 →
     exec (.ucrTimeTick t) s = .next (s.touch t)) ∧
   (∀ (s : State) (t : Nat), s.pow.under = true → s.tbRun = false ∨ t % 625000 = 0 →
     ∃ u, exec (.ucrTimeTick t) s = .next u ∧
       u.get64 Fld.UCR_TIME_LO_COUNT Fld.UCR_TIME_HI_COUNT 0
         = (s.get64 Fld.UCR_TIME_LO_COUNT Fld.UCR_TIME_HI_COUNT 0 + 1) % 2 ^ 48 ∧
       s.onlyRegs u [(Fld.UCR_TIME_LO_COUNT, 0), (Fld.UCR_TIME_HI_COUNT, 0)]) ∧
   (∀ (s : State) (mv t : Nat), ∃ u, exec (.harvesterModeChange mv t) s = .next u ∧
     (mv < 280 → u.get Fld.UCR_STATUS_HARV 0 = 0) ∧
     (500 < mv → u.get Fld.UCR_STATUS_HARV 0 = 2) ∧
     (280 ≤ mv ∧ mv < 450 → s.get Fld.UCR_STATUS_HARV 0 = 2 → u.get Fld.UCR_STATUS_HARV 0 = 1) ∧
     (450 ≤ mv ∧ mv ≤ 500 → s.get Fld.UCR_STATUS_HARV 0 = 2 → u.get Fld.UCR_STATUS_HARV 0 = 2) ∧
     (300 ≤ mv ∧ mv ≤ 500 → s.get Fld.UCR_STATUS_HARV 0 ≠ 2 → u.get Fld.UCR_STATUS_HARV 0 = 1) ∧
     (280 ≤ mv ∧ mv < 300 → s.get Fld.UCR_STATUS_HARV 0 < 2 →
       u.get Fld.UCR_STATUS_HARV 0 = s.get Fld.UCR_STATUS_HARV 0) ∧
     (s.pow.st = .run → u.get Fld.UCR_MEAS_VHARV 0 = Nat.min 1023 (mv / 10)) ∧
     (u.get Fld.UCR_STATUS_HARV 0 ≠ s.get Fld.UCR_STATUS_HARV 0 → u.get Fld.UCR_EVT_HARVCHG 0 = 1))) ∧
  ((∀ s : State, s.pow.inReset = true → s.pow.under = true →
     ∃ u, exec .deviceResetRelease s = .next u ∧ u.pow.st = .start ∧ u.pow.inReset = false ∧ u.pow.held = false ∧
       u.pow.pwren = .high ∧ (u.get Fld.UCR_STATUS_WAKESRC 0).testBit 3 =
         ((s.get Fld.UCR_STATUS_WAKESRC 0).testBit 3 || (s.pow.st == .vigil && s.pow.pwren != .high)) ∧
       s.onlyRegs u [(Fld.UCR_STATUS_WAKESRC, 0), (Fld.UCR_STATUS_PREPDONE, 0)] ∧ u.mem = s.mem ∧ u.comp = s.comp) ∧
   (∀ s : State, s.pow.st = .start ∨ s.pow.st = .run ∨ s.pow.st = .safeHold → s.pow.inReset = false →
     ∃ u, exec .deviceReset s = .next u ∧ u.pow.st = .start ∧ u.pow.inReset = true ∧ u.pow.rstn = false ∧ u.tbRun = false ∧
       u.jnl.slots = s.jnl.slots ∧ u.jnl.fram = s.jnl.fram ∧ u.comp = s.comp ∧ u.nave0 = Nave.init 0 ∧ u.nave1 = Nave.init 1 ∧
       u.chn.tamper = s.tamperKept.chn.tamper ∧ (s.jnl.queue = [] → u.chn.tamper = s.chn.tamper) ∧
       u.get Fld.UCR_TIME_LO_COUNT 0 = s.get Fld.UCR_TIME_LO_COUNT 0 % 2 ^ 32 ∧
       u.get Fld.UCR_STATUS_UVALID 0 = s.get Fld.UCR_STATUS_UVALID 0 % 2) ∧
   (∀ (s : State) (t : Nat) (torn : Bool), s.pow.st = .start ∨ s.pow.st = .run ∨ s.pow.st = .safeHold →
     ∃ u, exec (.mainSupplyOutOfRange t torn) s = .next u ∧ u.pow.st = .vigil ∧ u.pow.pwren = .low ∧ u.pow.pwrlow = true ∧
       u.pow.supplies = false ∧ u.tbRun = false ∧ u.comp = s.comp ∧
       (s.tbRun = true → s.pow.under = true → u.get64 Fld.UCR_TIME_LO_COUNT Fld.UCR_TIME_HI_COUNT 0
         = Nat.max (s.get64 Fld.UCR_TIME_LO_COUNT Fld.UCR_TIME_HI_COUNT 0) ((Nat.max s.tb t + 624999) / 625000) % 2 ^ 48))) ∧
  ((∀ (s : State) (w : WakeCause), s.pow.st = .vigil → s.wakeOn w = true →
     ∃ u, exec (.vigilWakeEvent w) s = .next u ∧ u.bitOf Fld.UCR_STATUS_WAKESRC 0 (wakeBit w) = true ∧
       (s.pow.pwrlow = false → u.pow.pwren = .high) ∧
       (s.pow.pwrlow = true → u.pow.pwren = s.pow.pwren ∧ u.pow.wakeLatch.testBit (wakeBit w) = true) ∧
       s.onlyRegs u [(Fld.UCR_STATUS_WAKESRC, 0), (Fld.UCR_STATUS_UWAKEN, 0)]) ∧
   (∀ s : State, s.pow.st = .vigil → s.pow.pwrlow = true → s.pwrlowOver = false → exec .pwrlowEnd s = .next s) ∧
   (∀ s : State, s.pow.st = .vigil → s.pow.pwrlow = true → s.pwrlowOver = true →
     ∃ u, exec .pwrlowEnd s = .next u ∧ u.pow.pwrlow = false ∧
       u.pow.pwren = (if s.pow.wakeLatch = 0 then s.pow.pwren else .high) ∧ s.onlyRegs u []) ∧
   (∀ s : State, s.pow.st = .vigil → s.pow.pwren = .high → s.waketmoOver = false → exec .wakeTimeout s = .next s) ∧
   (∀ s : State, s.pow.st = .vigil → s.pow.pwren = .high → s.waketmoOver = true →
     ∃ u, exec .wakeTimeout s = .next u ∧ u.pow.pwren = .low ∧ u.get Fld.UCR_EVT_WAKEFAIL 0 = 1 ∧
       u.get Fld.UCR_CNT_WAKEFAIL 0 = satSucc 16 (s.get Fld.UCR_CNT_WAKEFAIL 0) ∧
       s.onlyRegs u [(Fld.UCR_CNT_WAKEFAIL, 0), (Fld.UCR_EVT_WAKEFAIL, 0)]) ∧
   (∀ (s : State) (t : Nat) (v : Fin 1024), s.pow.st = .run →
     ∃ u, exec (.vbaklow t v) s = .next u ∧ u.get Fld.UCR_MEAS_VBAK 0 = v.val ∧
       u.get Fld.UCR_STATUS_VBAKLOW 0 = (if v.val < 10 * s.get Fld.UCR_CFG_VBAKWARN 0 then 1 else 0) ∧
       (v.val < 10 * s.get Fld.UCR_CFG_VBAKWARN 0 → u.get Fld.UCR_EVT_VBAKLOW 0 = 1 ∧
         u.bitOf Fld.IRQ_PEND_PEND 26 23 = true)) ∧
   (∀ (s : State) (t : Nat) (v : Fin 1024), s.pow.st ≠ .run → exec (.vbaklow t v) s = .next (s.touch t)))

/-- PFAILN in RUN brings SAFE-HOLD with PREPDONE at 1, and its release ends a SAFE-HOLD that nothing else keeps (R465); VLDLOW follows
VLD and a low VLD leaves nothing on the Jalam line (R464); a RESTART that has brought SAFE-HOLD ends in a device reset and a new
START (R435). -/
def Obligations.WarningsAndRestart : Prop :=
  (∀ (s : State) (t : Nat), s.pow.st = .run → s.pow.pfailHold = false →
    ∃ u, exec (.pfailnAssert t) s = .next u ∧ u.pow.st = .safeHold ∧ u.pow.pfailHold = true ∧
      u.get Fld.UCR_STATUS_PFAIL 0 = 1 ∧ u.get Fld.UCR_STATUS_PREPDONE 0 = 1 ∧ u.get Fld.UCR_EVT_PFAIL 0 = 1 ∧
      u.get Fld.FLT_DEV_SAFEHOLD 0 = 1) ∧
  (∀ (s : State) (t : Nat), s.pow.st = .safeHold → s.pow.pfailHold = true → s.flag Fld.FLT_DEV_F4 0 = false →
    s.pow.restartHold = false →
    ∃ u, exec (.pfailnRelease t) s = .next u ∧ u.pow.st = .run ∧ u.pow.pfailHold = false ∧
      u.get Fld.UCR_STATUS_PFAIL 0 = 0 ∧ u.get Fld.UCR_STATUS_PREPDONE 0 = 0 ∧ u.get Fld.FLT_DEV_SAFEHOLD 0 = 0) ∧
  (∀ (s : State) (t : Nat),
    ∃ u, exec (.vldLow t) s = .next u ∧ u.get Fld.UCR_STATUS_VLDLOW 0 = 1 ∧ u.get Fld.UCR_EVT_VLDLOW 0 = 1 ∧
      u.jln.line = none ∧ u.pow = s.pow) ∧
  (∀ (s : State) (t : Nat),
    ∃ u, exec (.vldInRange t) s = .next u ∧ u.get Fld.UCR_STATUS_VLDLOW 0 = 0 ∧ u.pow = s.pow) ∧
  (∀ (s : State) (t tk : Nat), s.pow.restartTicket = some tk → s.pow.restartHold = true → s.pow.st = .safeHold →
    s.pow.inReset = false → s.allSafe = true ∨ s.pow.restartAt + 10 * ftuMs ≤ t →
    ∃ u, exec (.restartReset t) s = .next u ∧ u.pow.st = .start ∧ u.pow.inReset = false ∧ u.pow.restartTicket = none ∧
      u.tbRun = false ∧ u.nave0 = Nave.init 0 ∧ u.nave1 = Nave.init 1)

/-- Steps t1 to t4 of START: PLL-S locks and the OTP reaches its registers; the slots are ordered at t2, or a failed known-answer test
or an unreadable NOR holds START (R25, R27, R427); a slot whose header and records pass is staged at t3 and one whose header fails
gives way to the next; a slot that passes every remaining check is LOADED at t4, and one that fails any gives way to the next or
holds START (R44, R48). Steps t5 to t10 of START: record values under the mode of R53, TB_NOW from its starting value at t6 (R49,
R74), buses at t8 (R50), and RUN with both cores out of reset at t10 (R47, R50); a core arms itself (R52). -/
def Obligations.StartStepByStep : Prop :=
  ((∀ s : State, s.inStart 0 = true →
     ∃ u, exec .pllsLock s = .next u ∧ u.get Fld.SYS_START_STEP 0 = 1 ∧
       u.flag Fld.SYS_CHN_STATUS_LOCK 0 = s.chn.lock ∧ u.get Fld.SYS_CHN_FLOOR_FLOOR 0 = s.chn.floors.headD 0 % 2 ^ 32) ∧
   (∀ (s : State) (nor : NorView) (x y z : Bool), s.inStart 1 = true →
     ∃ u, exec (.slotHeadersRead nor x y z) s = .next u ∧
       (x = true ∧ y = true ∧ z = true → nor.sfdp = true → u.get Fld.SYS_START_STEP 0 = 2 ∧ u.chn.katPending = true ∧
         u.img.nor = nor ∧ u.img.todo = (if nor.big then [slotFirst nor, !slotFirst nor] else [false]) ∧
         u.pow = s.pow) ∧
       (x = true ∧ y = true ∧ z = true → nor.sfdp = false → u.pow.held = true ∧ u.get Fld.VST_STATUS_STATE 0 = 2 ∧
         u.get Fld.VST_REJ_REASON 0 = rejReadError) ∧
       ((x && y && z) = false → u.pow.held = true ∧ u.get Fld.SYS_CHN_STATUS_KATFAIL 0 = 1 ∧ u.get Fld.FLT_DEV_F4 0 = 1)) ∧
   (∀ (s : State) (ok : Bool), s.chn.katPending = true →
     ∃ u, exec (.katEcdsaDone ok) s = .next u ∧ u.chn.katPending = false ∧
       (ok = true → u.chn.katFail = s.chn.katFail ∧ s.onlyRegs u []) ∧
       (ok = false → u.pow.held = true ∧ u.get Fld.SYS_CHN_STATUS_KATFAIL 0 = 1 ∧ u.get Fld.FLT_DEV_F4 0 = 1)) ∧
   (∀ (s : State) (b : Bool) (rest : List Bool), s.inStart 2 = true ∨ s.inStart 3 = true → s.img.fetched = false →
     s.img.todo = b :: rest →
     ∃ u, exec .imageFetched s = .next u ∧
       (∀ p, (norSlot s.img.nor b).hdrCheck (slotSize s.img.nor) = none → checkRecs (norSlot s.img.nor b) s.keyUse = .ok p →
         u.get Fld.SYS_START_STEP 0 = 3 ∧ u.img.fetched = true ∧ u.img.base = p.known ∧ u.img.early = none) ∧
       (∀ r, (norSlot s.img.nor b).hdrCheck (slotSize s.img.nor) = some r →
         u.img.todo = rest ∧ u.get Fld.VST_REJ_REASON (if b then 1 else 0) = r.code % 256 ∧
           u.pow.held = (s.pow.held || rest.isEmpty))) ∧
   (∀ (s : State) (b : Bool) (rest : List Bool), s.inStart 3 = true → s.img.fetched = true → s.chn.katPending = false →
     s.img.todo = b :: rest →
     ∃ u, exec .signatureVerified s = .next u ∧
       (∀ o, s.sigRej (norSlot s.img.nor b) = none → s.img.early = none →
         checkOvls (norSlot s.img.nor b) s.keyUse s.img.base (norSlot s.img.nor b).overlays [] = .ok o →
         u.get Fld.SYS_START_STEP 0 = 4 ∧ u.get Fld.VST_STATUS_STATE 0 = 1 ∧ u.flag Fld.VST_STATUS_SLOT 0 = b ∧
           u.img.base = s.img.base ∧ u.pow = s.pow) ∧
       (∀ r, s.sigRej (norSlot s.img.nor b) = some r → u.img.todo = rest ∧
         u.get Fld.VST_REJ_REASON (if b then 1 else 0) = r.code % 256 ∧ u.pow.held = (s.pow.held || rest.isEmpty) ∧
         (rest = [] → u.get Fld.VST_STATUS_STATE 0 = 2)))) ∧
  ((∀ s : State, s.inStart 4 = true →
     ∃ u, exec .recordValuesCommitted s = .next u ∧ u.get Fld.SYS_START_STEP 0 = 5 ∧ u.jnl.ready = true ∧
       u.pow.plltReady = false ∧ u.pow.jnlReady = false ∧ u.tbRun = s.tbRun ∧
       (u.flag Fld.SYS_START_RESUMED 0 = false →
         u.get Fld.SYS_MODE_CURRENT 0 = s.get Fld.VST_IMG_INFO_STARTMODE 0 % 4)) ∧
   (∀ s : State, s.inStart 5 = true →
     ∃ u, exec .journalWorkDone s = .next u ∧ u.pow.jnlReady = true ∧
       (s.pow.plltReady = true → u.tbRun = true ∧ u.tb = s.pow.tbStart ∧
         (u.get Fld.SYS_START_STEP 0 = 6 ∨ u.get Fld.SYS_START_STEP 0 = 7) ∧
         ((∀ k, k < 8 → s.flag Fld.AUX_CFG_EN k = false) → u.get Fld.SYS_START_STEP 0 = 7) ∧
         u.get Fld.UCR_STATUS_UVALID 0 = 1 ∧ u.get Fld.CLK_STATUS_PLLS_OK 0 = 1) ∧
       (s.pow.plltReady = false → s.onlyRegs u [])) ∧
   (∀ (s : State) (t : Nat) (errs : List Int), s.powered = true → s.pow.inReset = false → 5 ≤ s.get Fld.SYS_START_STEP 0 →
     (s.plltWithin errs = true → ∃ u, exec (.plltLockDeclared t errs) s = .next u ∧ u.get Fld.CLK_STATUS_PLLT_LOCK 0 = 1 ∧
       u.bitOf Fld.IRQ_PEND_PEND 1 0 = true ∧
       (s.inStart 5 = true → s.pow.jnlReady = true → u.tbRun = true ∧
         (u.get Fld.SYS_START_STEP 0 = 6 ∨ u.get Fld.SYS_START_STEP 0 = 7))) ∧
     (s.plltWithin errs = false → ∃ u, exec (.plltLockDeclared t errs) s = .next u ∧ u.pow = s.pow ∧
       s.onlyRegs u [(Fld.CLK_STATUS_PLLT_ERR, 0)])) ∧
   (∀ (s : State) (t : Nat), s.inStart 7 = true →
     (∀ k, k < 8 → s.flag Fld.AUX_CFG_EN k = true → s.auxSt k = auRun) →
     ∃ u, exec (.gateSuppliesUp t) s = .next u ∧ u.get Fld.SYS_START_STEP 0 = 8 ∧
       (∀ b, b < 16 → s.flag Fld.SEL_BUS_CFG_EN b = true → u.get Fld.SEL_BUS_STATUS_STATE b = 1)) ∧
   (∀ (s : State) (t : Nat), s.inStart 8 = true → s.flag Fld.FLT_DEV_F4 0 = false → s.flag Fld.UCR_STATUS_PFAIL 0 = false →
     ∃ u, exec (.admissionWaitEnd t) s = .next u ∧ u.pow.st = .run ∧ u.get Fld.SYS_START_STEP 0 = 10 ∧
       u.get Fld.SYS_START_MISSING 0 = Nat.min 255 s.missing ∧ u.nave0.running = true ∧ u.nave1.running = true ∧
       u.nave0.pc = 0x10000000#32 ∧ u.nave1.pc = 0x11000000#32) ∧
   (∀ (s : State) (a : Acc) (v : Word) (c : Nat), accCore a = some c → v.toNat < 4 → v.toNat.testBit c = true →
     s.armed c = false →
     ∃ u, exec (.sysCoreArm a v) s = .next u ∧ u.armed c = true ∧ u.resp.status = .ok ∧
       u.armed (1 - c) = s.armed (1 - c)))

/-- A mode request by a core at kernel level or Chancel takes a ticket and waits for its quiet point (R54, R55); a request of the mode
in force completes as NOOP (R62), and one without a ticket is refused and leaves what is pending (R65); a withdrawal ends the
pending request (R63); any other master's write is a bus error (R54). At its quiet point, and not before it, the pending mode comes
into force: the configuration is the base with that mode's overlay alone (R16, R39), source 255 is raised, SYS_MODE and
SYS_MODE_TIME name the application, and the requester's result reads APPLIED (R55, R57). -/
def Obligations.ModeChanges : Prop :=
  ((∀ (s : State) (a : Acc) (m : Fin 4), (s.pow.st = .run ∨ s.pow.st = .safeHold) →
     ∀ src, modeSrc a = some src →
     ∃ u, exec (.sysModeReq a m) s = .next u ∧ u.resp.status = .ok ∧
       (∀ i, s.freeIndex = some i → m.val ≠ s.modeNow →
         u.get Fld.SYS_MODE_PEND 0 = 1 ∧ u.get Fld.SYS_MODE_PENDING 0 = m.val ∧
         u.mode.pend = some { src := src, mode := m, ticket := Table.get 0 s.jnl.gen i * 256 + i, time := a.t } ∧
         Table.get 0 u.mode.res src = 65536 * (Table.get 0 s.jnl.gen i * 256 + i) + mrPending) ∧
       (∀ i, s.freeIndex = some i → m.val = s.modeNow → s.mode.pend = none →
         u.mode.pend = none ∧ Table.get 0 u.mode.res src = 65536 * (Table.get 0 s.jnl.gen i * 256 + i) + mrNoop) ∧
       (s.freeIndex = none → u.mode.pend = s.mode.pend ∧ Table.get 0 u.mode.res src = mrNoTicket)) ∧
   (∀ (s : State) (a : Acc) (src : Nat) (p : ModePend), (s.pow.st = .run ∨ s.pow.st = .safeHold) → modeSrc a = some src →
     s.mode.pend = some p →
     ∃ u, exec (.sysModeCancel a) s = .next u ∧ u.resp.status = .ok ∧ u.mode.pend = none ∧ u.get Fld.SYS_MODE_PEND 0 = 0 ∧
       Table.get 0 u.mode.res src = 65536 * p.ticket + mrWithdrawn ∧
       Table.get 0 u.mode.res p.src = 65536 * p.ticket + mrWithdrawn) ∧
   (∀ (s : State) (a : Acc) (m : Fin 4), modeSrc a = none →
     exec (.sysModeReq a m) s = .next (s.touch a.t).busErr ∧ exec (.sysModeCancel a) s = .next (s.touch a.t).busErr)) ∧
  (∀ (s : State) (t q : Nat) (p : ModePend), s.mode.pend = some p → s.mode.qp = some q →
     (t < q → exec (.modeApply t) s = .next (s.touch t)) ∧
     (q ≤ t → ∃ u, exec (.modeApply t) s = .next u ∧ u.get Fld.SYS_MODE_CURRENT 0 = p.mode % 4 ∧
       u.img.live = s.cfgOf p.mode ∧ u.mode.pend = none ∧ u.get Fld.SYS_MODE_PEND 0 = 0 ∧
       u.get Fld.SYS_MODE_PENDING 0 = 0 ∧
       u.get Fld.SYS_MODE_SRC 0 = p.src % 4 ∧ u.flag Fld.SYS_MODE_QP_FORCED 0 = s.mode.forced ∧
       u.get64 Fld.SYS_MODE_TIME_LO_TIME Fld.SYS_MODE_TIME_HI_TIME 0 = q % 2 ^ 64 ∧
       u.bitOf Fld.IRQ_PEND_PEND 7 31 = true ∧ Table.get 0 u.mode.res p.src = 65536 * p.ticket + mrApplied))

/-- PLL-T unlock and PLLS_FREQ are each an F4 fault, with sources 33 and 34 (R73, R81); an unlock takes the discipline to HOLDOVER
(R69). The discipline changes state as Table 4.4 lays down (R76 to R78, R80): a reference that appears in HOLDOVER is qualified; the
first other than XTAL to pass sets TB_ORIGIN and is LOCKED with no debt, any other is slewed to and LOCKED at the end of the slew; a
reference that fails is barred and counted; the loss of the one followed brings HOLDOVER, or QUALIFY of another. A slew moves the
frequency by no more than 0.1 ppm/s and removes phase debt at no more than 10 ns/s, but for the rounding to their units of 1 ppb and
1 FTU, and never moves the debt past zero (R79). -/
def Obligations.ClockFaultsAndDiscipline : Prop :=
  (∀ (s : State) (t : Nat), s.powered = true → s.pow.inReset = false →
     (∀ (l : List Int) (a b c d : Int), s.flag Fld.CLK_STATUS_PLLT_LOCK 0 = true →
       (∀ e ∈ [a, b, c, d], 2 * s.get Fld.CLK_LOCK_CFG_W 0 < e.natAbs) →
       ∃ u, exec (.plltUnlock t (l ++ [a, b, c, d])) s = .next u ∧ u.get Fld.CLK_STATUS_PLLT_LOCK 0 = 0 ∧
       u.get Fld.CLK_EVENTS_PLLT_UNLOCK 0 = 1 ∧ u.bitOf Fld.IRQ_PEND_PEND 1 1 = true ∧ u.get Fld.FLT_DEV_F4 0 = 1 ∧
       u.tbState = tbHoldover ∧ u.get Fld.TB_STATE_QBUSY 0 = 0 ∧ (s.pow.st = .run → u.pow.st = .safeHold)) ∧
     (∀ errs : List Int, s.plltOut errs = false → ∃ u, exec (.plltUnlock t errs) s = .next u ∧ u.pow = s.pow ∧
       s.onlyRegs u [(Fld.CLK_STATUS_PLLT_ERR, 0)])) ∧
  (∀ (s : State) (t : Nat), s.tbRun = true →
     (∀ (l : List Nat) (a b c d : Nat), (∀ x ∈ [a, b, c, d], s.pllsGood x = false) →
       ∃ u, exec (.pllsFreqFault ⟨t, l ++ [a, b, c, d]⟩) s = .next u ∧ u.get Fld.CLK_STATUS_PLLS_OK 0 = 0 ∧
       u.get Fld.CLK_EVENTS_PLLS_FREQ 0 = 1 ∧ u.bitOf Fld.IRQ_PEND_PEND 1 2 = true ∧ u.get Fld.FLT_DEV_F4 0 = 1 ∧
       (s.pow.st = .run → u.pow.st = .safeHold) ∧ u.tbState = s.tbState) ∧
     (∀ (l : List Nat) (x : Nat), s.pllsGood x = true → ∃ u, exec (.pllsFreqFault ⟨t, l ++ [x]⟩) s = .next u ∧
       u.get Fld.CLK_STATUS_PLLS_OK 0 = 1 ∧ u.pow = s.pow ∧ s.onlyRegs u [(Fld.CLK_STATUS_PLLS_OK, 0)])) ∧
  ((∀ (s : State) (t : Nat) (r : RefId),
     ∃ u, exec (.referencePresent t r) s = .next u ∧ u.bitOf Fld.TB_STATE_PRESENT 0 r = true ∧
       (∀ q, s.tbRun = true → s.tbState = tbHoldover → (s.setBitOf Fld.TB_STATE_PRESENT 0 r true).target = some q →
         u.tbState = tbQualify ∧ u.get Fld.TB_STATE_CAND 0 = q % 8 ∧ u.get Fld.TB_STATE_QBUSY 0 = 1 ∧
         u.bitOf Fld.IRQ_PEND_PEND 1 3 = true)) ∧
   (∀ (s : State) (t : Nat) (r : RefId), r ≠ 0 →
     ∃ u, exec (.referenceLost t r) s = .next u ∧ u.bitOf Fld.TB_STATE_PRESENT 0 r = false ∧
       u.bitOf Fld.IRQ_PEND_PEND 1 4 = true ∧
       (s.tbState = tbSlew ∨ s.tbState = tbLocked → s.get Fld.TB_STATE_FOLLOW 0 = r.val →
         u.tbState = tbHoldover ∨ u.tbState = tbQualify)) ∧
   (∀ (s : State) (t : Nat), exec (.referenceLost t 0) s = .next (s.touch t)) ∧
   (∀ (s : State) (t : Nat) (phase freq : Int), 50000 < freq.natAbs →
     exec (.qualifyPass t phase freq) s = exec (.qualifyFail t) s) ∧
   (∀ (s : State) (t : Nat) (phase freq : Int) (r : RefId), freq.natAbs ≤ 50000 →
     s.get Fld.TB_STATE_QBUSY 0 = 1 → s.get Fld.TB_STATE_CAND 0 = r.val →
     ∃ u, exec (.qualifyPass t phase freq) s = .next u ∧ u.get Fld.TB_STATE_FOLLOW 0 = r.val ∧ u.get Fld.TB_STATE_QBUSY 0 = 0 ∧
       u.get Fld.TB_SWITCHES_COUNT 0 = (if s.get Fld.TB_STATE_FOLLOW 0 = r.val then s.get Fld.TB_SWITCHES_COUNT 0
         else satSucc 16 (s.get Fld.TB_SWITCHES_COUNT 0)) ∧
       (r ≠ 0 → s.tbs.originSet = false → u.tbState = tbLocked ∧ u.tbs.originSet = true ∧ u.debtAt t = 0 ∧
         (r = 3 → u.get64 Fld.TB_ORIGIN_LO_ORIGIN Fld.TB_ORIGIN_HI_ORIGIN 0 = enc 64 s.tbs.beacon)) ∧
       (r = 0 ∨ s.tbs.originSet = true → u.tbState = tbSlew ∧ (r = 0 → u.debtAt t = 0))) ∧
   (∀ (s : State) (t : Nat) (r : RefId), s.get Fld.TB_STATE_QBUSY 0 = 1 → s.get Fld.TB_STATE_CAND 0 = r.val →
     ∃ u, exec (.qualifyFail t) s = .next u ∧ u.bitOf Fld.TB_STATE_BARRED 0 r = true ∧ u.bitOf Fld.IRQ_PEND_PEND 1 5 = true ∧
       u.get Fld.TB_SWITCHES_QFAIL 0 = satSucc 16 (s.get Fld.TB_SWITCHES_QFAIL 0) ∧
       (∀ q, s.tbState = tbQualify → (s.setBitOf Fld.TB_STATE_BARRED 0 r true).target = some q →
         u.tbState = tbQualify ∧ u.get Fld.TB_STATE_CAND 0 = q % 8 ∧ u.get Fld.TB_STATE_QBUSY 0 = 1)) ∧
   (∀ (s : State) (t : Nat) (r : RefId), ∃ u, exec (.referenceBarExpire t r) s = .next u ∧ u.bitOf Fld.TB_STATE_BARRED 0 r = false) ∧
   (∀ (s : State) (t : Nat) (freq : Int), s.tbState = tbSlew → (s.debtAt t).natAbs ≤ 20 → (s.freqAt t - freq).natAbs ≤ 1 →
     ∃ u, exec (.slewComplete t freq) s = .next u ∧ u.tbState = tbLocked ∧ u.bitOf Fld.IRQ_PEND_PEND 1 3 = true ∧
       u.get Fld.TB_FREQ_OFFSET 0 = enc 32 (s.freqAt t)) ∧
   (∀ (s : State) (t : Nat) (freq : Int),
     s.tbState ≠ tbSlew ∨ 20 < (s.debtAt t).natAbs ∨ 1 < (s.freqAt t - freq).natAbs → exec (.slewComplete t freq) s = .next (s.touch t))) ∧
  (∀ (s : State) (t1 t2 : Nat), t1 ≤ t2 →
     (s.freqAt t2 - s.freqAt t1).natAbs * ftuSec ≤ 100 * (t2 - t1) + ftuSec ∧
     (s.debtAt t2 - s.debtAt t1).natAbs * (5 * ftuSec) ≤ 1024 * (t2 - t1) + 5 * ftuSec ∧
     (s.debtAt t2).natAbs ≤ (s.debtAt t1).natAbs ∧ 0 ≤ s.debtAt t2 * s.debtAt t1)

/-- One update writes the stamp with the angle (R85); a tracker in COAST keeps its rate, one in HELD its angle, and each returns to
ACQUIRE with REGAIN when its source is back (R94, R95); without a sample ACQUIRE predicts nothing (Table 5.3); a measured GRID angle has the fraction measured; DIR changes only past
REV_HYST, with REV, and not in COAST or HELD (R93, R96); OFF does nothing and DRAINING ends in OFF (R99). A quadrature edge counts
up or down, by INVERT; an illegal one is counted in ILLEGAL; an index edge sets the fraction to the offset, leaves the turn count
and clears UNREF (R86). The states of Table 5.3: the loss of the source, by the condition of Table 5.2, brings COAST, LOST and source 64 + n, COAST_MAX brings HELD
with rate 0, and four loop time constants in ACQUIRE bring TRACK (R94); each leaves the other states alone (R94). -/
def Obligations.Trackers : Prop :=
  (∀ (s : State) (t : Nat) (n : Fin 64) (smp : TrkSample), ∃ u, exec (.trackerUpdate t n smp) s = .next u ∧
     ((s.trkSmp n t smp).present = true ↔ smp.present = true ∧ s.sarFresh n t = true ∧ s.portOff n = false) ∧
     (s.trkState n = tkOff → s.onlyRegs u []) ∧
     (s.trkState n = tkDrain → u.trkState n = tkOff ∧ s.onlyRegs u [(Fld.ANG_STATE_STATE, n.val)]) ∧
     (s.trkKind n ≠ 4 → s.trkState n = tkTrack ∨ (s.trkState n = tkAcquire ∧ (s.trkSmp n t smp).present = true) →
       u.trkStamp n = t % 2 ^ 64 ∧ u.trkState n = s.trkState n) ∧
     (s.trkState n = tkAcquire ∧ (s.trkSmp n t smp).present = false → u.trkState n = tkAcquire ∧
       u.trkAngle n = s.trkAngle n ∧ u.trkStamp n = s.trkStamp n) ∧
     ((s.trkState n = tkAcquire ∨ s.trkState n = tkTrack) ∧ s.trkKind n = 1 ∧ (s.trkSmp n t smp).present = true ∧
       s.flag Fld.ANG_CFG_INVERT n = false → u.get Fld.ANG_ANGLE_LO_ANGLE n = smp.frac.toNat) ∧
     (s.trkState n = tkCoast ∧ (s.trkSmp n t smp).present = false → u.trkState n = tkCoast ∧ u.trkRate n = s.trkRate n ∧
       u.trkStamp n = t % 2 ^ 64) ∧
     (s.trkState n = tkHeld ∧ (s.trkSmp n t smp).present = false → u.trkState n = tkHeld ∧ u.trkAngle n = s.trkAngle n ∧
       u.trkStamp n = s.trkStamp n) ∧
     ((s.trkState n = tkCoast ∨ s.trkState n = tkHeld) ∧ (s.trkSmp n t smp).present = true ∧ s.trkKind n ≠ 4 →
       u.trkState n = tkAcquire ∧
       u.get Fld.ANG_EVT_REGAIN n = 1 ∧ u.trkStamp n = t % 2 ^ 64 ∧
       (s.counts n = true → u.get Fld.ANG_STATE_UNREF n = 1)) ∧
     (u.get Fld.ANG_STATE_DIR n ≠ s.get Fld.ANG_STATE_DIR n → u.get Fld.ANG_EVT_REV n = 1 ∧
       s.trkState n ≠ tkCoast ∧ s.trkState n ≠ tkHeld ∧
       ((s.trkOf n).revDue = true ∨ s.trkFld n 0x18 4 < (wrap64 (u.trkAngle n - (s.trkOf n).extreme)).natAbs))) ∧
  (∀ (s : State) (t : Nat) (port : Fin 16) (n : Fin 64), s.counts n = true → s.get Fld.ANG_CFG_SRC n = port.val →
     (s.trkState n = tkAcquire ∨ s.trkState n = tkTrack) →
     (∀ e, ∃ u, exec (.encoderEdge t port e) s = .next u ∧ (u.trkOf n).edgeAt = t ∧ u.trkState n = s.trkState n) ∧
     (∃ u, exec (.encoderEdge t port .up) s = .next u ∧
       (u.trkOf n).count = (s.trkOf n).count + (if s.flag Fld.ANG_CFG_INVERT n then -1 else 1) ∧ s.onlyRegs u []) ∧
     (∃ u, exec (.encoderEdge t port .down) s = .next u ∧
       (u.trkOf n).count = (s.trkOf n).count - (if s.flag Fld.ANG_CFG_INVERT n then -1 else 1) ∧ s.onlyRegs u []) ∧
     (∃ u, exec (.encoderEdge t port .illegal) s = .next u ∧
       u.get Fld.ANG_CNT_ILLEGAL n = satSucc 16 (s.get Fld.ANG_CNT_ILLEGAL n) ∧ (u.trkOf n).count = (s.trkOf n).count) ∧
     (∃ u, exec (.encoderEdge t port .index) s = .next u ∧ u.encAngle n % 4294967296 = s.trkFld n 8 4 ∧
       u.encAngle n / 4294967296 = s.encAngle n / 4294967296 ∧ u.get Fld.ANG_STATE_UNREF n = 0)) ∧
  (∀ (s : State) (t : Nat) (n : Fin 64),
     (s.trkState n = tkAcquire ∨ s.trkState n = tkTrack → s.lossDue n t = true →
       ∃ u, exec (.trackerSourceLoss t n) s = .next u ∧ u.trkState n = tkCoast ∧ u.get Fld.ANG_EVT_LOST n = 1 ∧
         u.bitOf Fld.IRQ_PEND_PEND ((64 + n.val) / 32) ((64 + n.val) % 32) = true ∧ u.trkAngle n = s.trkAngle n ∧
         (s.counts n = true → u.get Fld.ANG_STATE_UNREF n = 1)) ∧
     ((s.trkState n ≠ tkAcquire ∧ s.trkState n ≠ tkTrack) ∨ s.lossDue n t = false →
       exec (.trackerSourceLoss t n) s = .next (s.touch t)) ∧
     (s.trkKind n = 4 → (s.lossDue n t = true ↔ (s.trkOf n).slAt + s.trkFld n 0x12 2 * ftuUs ≤ t)) ∧
     (s.trkKind n = 3 → (s.lossDue n t = true ↔ ∃ x, (s.trkOf n).lowSince = some x ∧ x + ftuMs ≤ t)) ∧
     (s.trkState n = tkCoast → (s.trkOf n).coastAt + s.trkFld n 0x14 2 * ftuMs ≤ t →
       ∃ u, exec (.trackerCoastExpire t n) s = .next u ∧ u.trkState n = tkHeld ∧ u.trkRate n = 0 ∧
       u.get Fld.ANG_FREQ_FREQ n = 0 ∧ u.trkAngle n = s.trkAngle n) ∧
     (s.trkState n ≠ tkCoast ∨ t < (s.trkOf n).coastAt + s.trkFld n 0x14 2 * ftuMs → exec (.trackerCoastExpire t n) s = .next (s.touch t)) ∧
     (s.trkState n = tkAcquire → ∃ u, exec (.trackerAcquired t n) s = .next u ∧ u.trkState n = tkTrack ∧
       u.trkAngle n = s.trkAngle n ∧ u.get Fld.ANG_STATE_DIR n = s.get Fld.ANG_STATE_DIR n) ∧
     (s.trkState n ≠ tkAcquire → exec (.trackerAcquired t n) s = .next (s.touch t)))

/-- Only the owning core of a SENSORLESS tracker commits an update by ANG_SL_STAMP_HI; it takes the angle and time of the ANG_SL
registers (R88). A query is taken in its master's own window and answered from the latest update: angle-at-time by the rate,
time-at-angle as NEVER with all ones where the angle lies behind, NEVER with LOST for a tracker that is off; a read stalls until the
result is ready (R92, R99). -/
def Obligations.AngleQueries : Prop :=
  (∀ (s : State) (a : Acc) (n : Fin 64) (v : Word),
     (s.slOwner a n = false → exec (.angSlStampHiWrite a n v) s = .next (s.touch a.t).busErr) ∧
     (s.slOwner a n = true → ∃ u, exec (.angSlStampHiWrite a n v) s = .next u ∧ u.resp.status = .ok ∧
       u.get Fld.ANG_SL_STAMP_HI_STAMP n = v.toNat ∧
       (s.trkState n ≠ tkOff → s.trkState n ≠ tkDrain →
         u.trkStamp n = (s.get Fld.ANG_SL_STAMP_LO_STAMP n + 4294967296 * v.toNat) % 2 ^ 64 ∧
         (s.flag Fld.ANG_CFG_INVERT n = false →
           (s.trkState n ≠ tkCoast → s.trkState n ≠ tkHeld →
             u.trkAngle n = sgn 64 (s.get64 Fld.ANG_SL_ANGLE_LO_ANGLE Fld.ANG_SL_ANGLE_HI_ANGLE n)) ∧
           u.trkAngle n % 2 ^ 32 = s.get Fld.ANG_SL_ANGLE_LO_ANGLE n % 2 ^ 32) ∧
         (s.trkState n = tkCoast ∨ s.trkState n = tkHeld → u.trkState n = tkAcquire ∧ u.get Fld.ANG_EVT_REGAIN n = 1)))) ∧
  ((∀ (s : State) (a : Acc) (w : Fin 5) (n : Fin 64), masterNum a.m ≠ w.val →
     exec (.angleAtTimeQuery a w n) s = .next (s.touch a.t).busErr ∧
     exec (.timeAtAngleQuery a w n) s = .next (s.touch a.t).busErr ∧
     exec (.angQryOutRead a w) s = .next (s.touch a.t).busErr) ∧
   (∀ (s : State) (a : Acc) (w : Fin 5) (n : Fin 64), masterNum a.m = w.val →
     let i := s.get64 Fld.ANG_QRY_IN_LO_IN Fld.ANG_QRY_IN_HI_IN w
     let q : Qry := ⟨true, n.val, false, i, s.trkAngle n, s.trkRate n, s.trkStamp n, s.trkState n⟩
     (∃ u, exec (.angleAtTimeQuery a w n) s = .next u ∧ u.resp.status = .ok ∧ u.qryOf w = q ∧
       u.get Fld.ANG_QRY_STATUS_READY w = 0 ∧ s.onlyRegs u [(Fld.ANG_QRY_STATUS_READY, w.val)]) ∧
     (∃ u, exec (.timeAtAngleQuery a w n) s = .next u ∧ u.resp.status = .ok ∧ u.qryOf w = { q with kind := true } ∧
       u.get Fld.ANG_QRY_STATUS_READY w = 0 ∧ s.onlyRegs u [(Fld.ANG_QRY_STATUS_READY, w.val)])) ∧
   (∀ (s : State) (w : Fin 5) (q : Qry), s.qryOf w = q → q.busy = true →
     ∃ u, exec (.queryResultReady w) s = .next u ∧ (u.qryOf w).busy = false ∧ u.get Fld.ANG_QRY_STATUS_READY w = 1 ∧
       (q.state = tkOff ∨ q.state = tkDrain → u.get Fld.ANG_QRY_STATUS_NEVER w = 1 ∧ u.get Fld.ANG_QRY_STATUS_LOST w = 1 ∧
         u.get64 Fld.ANG_QRY_OUT_LO_OUT Fld.ANG_QRY_OUT_HI_OUT w = 2 ^ 64 - 1) ∧
       (q.state ≠ tkOff → q.state ≠ tkDrain →
         (u.get Fld.ANG_QRY_STATUS_LOST w = 1 ↔ q.state = tkCoast ∨ q.state = tkHeld) ∧
         (q.kind = false → u.get Fld.ANG_QRY_STATUS_NEVER w = 0 ∧
           (u.get Fld.ANG_QRY_STATUS_FAR w = 1 ↔ ftuSec < ((q.input : Int) - q.stamp).natAbs) ∧
           ∀ k : Int, q.rate * (q.input - q.stamp) = k * 2 ^ 48 →
             u.get64 Fld.ANG_QRY_OUT_LO_OUT Fld.ANG_QRY_OUT_HI_OUT w = enc 64 (q.angle + k)) ∧
         (q.kind = true → 0 < q.rate → wrap64 (sgn 64 q.input - q.angle) < 0 → u.get Fld.ANG_QRY_STATUS_NEVER w = 1 ∧
           u.get64 Fld.ANG_QRY_OUT_LO_OUT Fld.ANG_QRY_OUT_HI_OUT w = 2 ^ 64 - 1) ∧
         (q.kind = true → q.rate.natAbs * 204800000000000 < s.trkFld q.trk 0x20 4 * 2 ^ 80 →
           u.get Fld.ANG_QRY_STATUS_NEVER w = 1))) ∧
   (∀ (s : State) (w : Fin 5), (s.qryOf w).busy = false → exec (.queryResultReady w) s = .next s) ∧
   (∀ (s : State) (a : Acc) (w : Fin 5), masterNum a.m = w.val →
     ((s.qryOf w).busy = true → exec (.angQryOutRead a w) s = .next (s.touch a.t).stall) ∧
     ((s.qryOf w).busy = false → ∃ u, exec (.angQryOutRead a w) s = .next u ∧
       u.resp = ⟨.ok, BitVec.ofNat 32 (s.get Fld.ANG_QRY_OUT_LO_OUT w)⟩ ∧
       u.latched a.m .ANG_QRY_OUT_HI w = s.get Fld.ANG_QRY_OUT_HI_OUT w ∧ s.onlyRegs u [])))

/-- A time-at-angle answer is the first time after the stamp at which the angle, moving at the rate, has reached the one asked for: it
has at the answer and has not before it (R92). -/
def Obligations.TimeAtAngleIsFirst : Prop :=
  ∀ (qmin : Nat) (angle rate : Int) (stamp t : Nat) (a : Int), timeAt qmin angle rate stamp a = some t →
    stamp ≤ t ∧ (wrap64 (a - angle)).natAbs * 2 ^ 48 ≤ rate.natAbs * (t - stamp) ∧
    (∀ t', stamp ≤ t' → t' < t → rate.natAbs * (t' - stamp) < (wrap64 (a - angle)).natAbs * 2 ^ 48)

/-- A slot's owner arms it, disarms it and commits its target and step; any other master's write is a bus error (R105, R110, R111,
R118): a slot armed is STALLED or predicts afresh, but for a committed firing, which stands; a disarmed one is IDLE unless a committed firing still has to happen, and a
committed value waits for the next pass. FRAC puts the target at the first occurrence of its fraction strictly ahead of the angle in
the slot's direction (R105). -/
def Obligations.TwillSlots : Prop :=
  (∀ (s : State) (a : Acc) (n : Fin 1024) (v : Word),
     (s.slotOwner a n = false →
       exec (.twillSlotArm a n) s = .next (s.touch a.t).busErr ∧ exec (.twillSlotDisarm a n) s = .next (s.touch a.t).busErr ∧
       exec (.twillTargetCommit a n v) s = .next (s.touch a.t).busErr ∧
       exec (.twillStepCommit a n v) s = .next (s.touch a.t).busErr) ∧
     (s.slotOwner a n = true → s.tbRun = true → s.get Fld.TWL_SLOT_ACT_KIND n ≠ 4 ∨ s.pow.st ≠ .start →
       ∃ u, exec (.twillSlotArm a n) s = .next u ∧ u.resp.status = .ok ∧ (u.slotOf n).disarm = false ∧
         (s.slotSt n = twCommit → u.slotSt n = twCommit ∧ s.onlyRegs u []) ∧
         (s.slotSt n ≠ twCommit → u.predTime n = 2 ^ 64 - 1 ∧
           u.slotSt n = (if s.slotPure n || s.trkState (s.slotTrk n) == tkTrack then twPredict else twStalled))) ∧
     (s.slotOwner a n = true → ∃ u, exec (.twillSlotDisarm a n) s = .next u ∧ u.resp.status = .ok ∧
       (s.slotSt n = twCommit → u.slotSt n = twCommit ∧ (u.slotOf n).disarm = true ∧ s.onlyRegs u []) ∧
       (s.slotSt n ≠ twCommit → u.slotSt n = twIdle)) ∧
     (s.slotOwner a n = true → ∃ u, exec (.twillTargetCommit a n v) s = .next u ∧ u.resp.status = .ok ∧
       (u.slotOf n).newTgt = some (s.get Fld.TWL_SLOT_TGT_LO_TARGET n + 4294967296 * v.toNat) ∧
       (u.slotOf n).tgt = (s.slotOf n).tgt ∧ u.slotSt n = s.slotSt n) ∧
     (s.slotOwner a n = true → ∃ u, exec (.twillStepCommit a n v) s = .next u ∧ u.resp.status = .ok ∧
       (u.slotOf n).newStep = some (s.get Fld.TWL_SLOT_STEP_LO_STEP n + 4294967296 * v.toNat) ∧
       (u.slotOf n).step = (s.slotOf n).step ∧ u.slotSt n = s.slotSt n)) ∧
  (∀ (angle dir : Int) (frac : Nat), frac < 2 ^ 32 →
     fracTarget angle frac dir % 4294967296 = frac ∧
     (0 < dir → angle < fracTarget angle frac dir ∧ fracTarget angle frac dir ≤ angle + 4294967296) ∧
     (dir ≤ 0 → fracTarget angle frac dir < angle ∧ angle - 4294967296 ≤ fracTarget angle frac dir))

/-- A pass leaves IDLE, committed and stalled slots in their state; one that was not crossed is committed when its time lies within
204,800 FTU, predicts on when it lies later and waits where there is none (R106, R114); one that was crossed fires late, once, and
moves past every target it has passed (R107, R112, R113). Before t6 there is no pass (R70). A committed slot fires when its time has
come and not before (R106); the firing takes its action (Table 6.1); then a STEP of 0 disarms it, a new target is used as written
and any other STEP moves the target in the slot's direction (R107, R111, R118). No more than 8 actions take effect in one system
cycle, none before the cycle of its fire time, and none in a cycle before that of an earlier action (R116). -/
def Obligations.TwillPassesAndFirings : Prop :=
  ((∀ (s : State) (t : Nat), s.tbRun = false → exec (.twillPass t) s = .next s) ∧
   (∀ (s : State) (t : Nat), s.tbRun = true → ∃ u, exec (.twillPass t) s = .next u ∧ ∀ n : Fin 1024,
     (s.slotSt n = twIdle → u.slotSt n = twIdle) ∧
     (s.slotSt n = twCommit → u.slotSt n = twCommit ∧ u.predTime n = s.predTime n) ∧
     (s.slotSt n = twStalled → u.slotSt n = twStalled) ∧
     (s.slotSt n = twPredict ∨ s.slotSt n = twWait → (s.slotOf n).newTgt = none → (s.slotOf n).newStep = none →
       (s.crossed n t = false → s.slotTime n = none → u.slotSt n = twWait) ∧
       (∀ T, s.crossed n t = false → s.slotTime n = some T → T ≤ t + 204800 →
         u.slotSt n = twCommit ∧ u.predTime n = T % 2 ^ 64) ∧
       (∀ T, s.crossed n t = false → s.slotTime n = some T → t + 204800 < T → u.slotSt n = twPredict) ∧
       (s.crossed n t = true → u.get Fld.TWL_SLOT_STATUS_LATE n = 1 ∧
         ((s.slotOf n).disarm = true ∨ (s.slotOf n).step = 0 → u.slotSt n = twIdle) ∧
         ((s.slotOf n).disarm = false → 0 < (s.slotOf n).step → u.slotSt n = twPredict ∧
           (s.slotPure n = true → (u.slotOf n).tgt = ((s.slotOf n).tgt +
             ((t - (s.slotOf n).tgt) / (s.slotOf n).step + 1) * (s.slotOf n).step) % 2 ^ 64)))))) ∧
  (∀ (s : State) (t : Nat) (n : Fin 1024),
     (s.slotSt n ≠ twCommit ∨ t < s.predTime n → exec (.twillFire t n) s = .next (s.touch t)) ∧
     (s.slotSt n = twCommit → s.predTime n ≤ t → ∃ u, exec (.twillFire t n) s = .next u ∧
       (s.get Fld.TWL_SLOT_ACT_KIND n = 3 → u.bitOf Fld.IRQ_PEND_PEND ((128 + bits (s.get Fld.TWL_SLOT_ACT_ARG n) 0 7) / 32)
         ((128 + bits (s.get Fld.TWL_SLOT_ACT_ARG n) 0 7) % 32) = true) ∧
       (s.get Fld.TWL_SLOT_ACT_KIND n = 7 → (u.pinOf (bits (s.get Fld.TWL_SLOT_ACT_ARG n) 0 5)).out = true ∧
         ((∀ m ∈ s.firingWith n, n.val < m → s.get Fld.TWL_SLOT_ACT_KIND m ≠ 7) →
         (bits (s.get Fld.TWL_SLOT_ACT_ARG n) 8 2 = 1 → (u.pinOf (bits (s.get Fld.TWL_SLOT_ACT_ARG n) 0 5)).level = true) ∧
         (bits (s.get Fld.TWL_SLOT_ACT_ARG n) 8 2 = 0 → (u.pinOf (bits (s.get Fld.TWL_SLOT_ACT_ARG n) 0 5)).level = false))) ∧
       ((s.slotOf n).disarm = true → u.slotSt n = twIdle) ∧
       (∀ x, (s.slotOf n).disarm = false → (s.slotOf n).newTgt = some x → u.slotSt n = twPredict ∧
         (u.slotOf n).newTgt = some x ∧ (u.slotOf n).tgt = (s.slotOf n).tgt) ∧
       ((s.slotOf n).disarm = false → (s.slotOf n).newTgt = none → (s.slotOf n).step = 0 →
         u.slotSt n = twIdle) ∧
       ((s.slotOf n).newTgt = none → 0 < (s.slotOf n).step →
         (u.slotOf n).tgt = enc 64 ((s.slotOf n).tgt + s.slotDir n * (s.slotOf n).step) ∧
         ((s.slotOf n).disarm = false → u.slotSt n = twPredict)) ∧
       (∀ m ∈ s.firingWith n, u.slotSt m ≠ twCommit))) ∧
  (∀ (s : State) (t : Nat), s.twl.count ≤ 8 →
     (s.actionCycle t).2.twl.count ≤ 8 ∧ (s.actionCycle t).1 = (s.actionCycle t).2.twl.cycle ∧
     cycleStart t ≤ (s.actionCycle t).1 ∧ s.twl.cycle ≤ (s.actionCycle t).1 ∧
     (s.twl.cycle = (s.actionCycle t).1 → s.twl.count < (s.actionCycle t).2.twl.count))

/-- The owning core's commit copies every shadow of the converter into its committed set, and one that comes before a cut-off has taken
the last is counted in SUPERSEDED (R123, R131); a force acts from the first boundary at least 133,120 FTU later, and periods
already built from there are shaped by it (R132); any other writer gets a bus error (R131).
ENABLE, DISABLE, IMMEDIATE and CLRTRIP by the owner at kernel level (R59, R131, R134, R136, R139): ENABLE waits in WAIT where no
higher rank holds the converter, its core has armed and the mode in force switches it on; DISABLE drains a running converter, or
waits where a force governs it, IMMEDIATE brings its safe state; CLRTRIP leaves the trips whose inputs are still active; any other writer gets a bus error. -/
def Obligations.ConverterControl : Prop :=
  (∀ (s : State) (a : Acc) (c : Fin 256),
     (s.hasRec 0x0011 c = true → isCore a (s.cnvOwner c) = true → ∃ u, exec (.edgCnvCommit a c) s = .next u ∧
       u.resp.status = .ok ∧ (u.convOf c).com = some (s.shadowSet c) ∧ (u.convOf c).fresh = true ∧
       (u.convOf c).good = (s.convOf c).good ∧
       ((s.convOf c).fresh = true →
         (∀ b, (s.convOf c).nextB = some b → beforeCycle a.t (b - s.get Fld.EDG_CNV_LEAD_LEAD c) = true) →
         u.get Fld.EDG_CNV_CNT_SUPERSEDED c = satSucc Fld.EDG_CNV_CNT_SUPERSEDED.width (s.get Fld.EDG_CNV_CNT_SUPERSEDED c)) ∧
       ((s.convOf c).fresh = false ∨
         (∃ b, (s.convOf c).nextB = some b ∧ beforeCycle a.t (b - s.get Fld.EDG_CNV_LEAD_LEAD c) = false) →
         u.get Fld.EDG_CNV_CNT_SUPERSEDED c = s.get Fld.EDG_CNV_CNT_SUPERSEDED c)) ∧
     (s.hasRec 0x0011 c = false ∨ isCore a (s.cnvOwner c) = false →
       exec (.edgCnvCommit a c) s = .next (s.touch a.t).busErr) ∧
     (∀ v : Word, s.hasRec 0x0011 c = true → isKernel a (s.cnvOwner c) = true → v.toNat < 3 →
       ∃ u, exec (.cnvForceWrite a c v) s = .next u ∧ u.resp.status = .ok ∧ u.get Fld.EDG_CNV_FORCE_FORCE c = v.toNat ∧
         (u.convOf c).forceQ = (s.convOf c).forceQ ++ [(a.t + 133120, v.toNat)] ∧ (u.convOf c).force = (s.convOf c).force ∧
         (∀ p ∈ (u.convOf c).built, a.t + 133120 ≤ p.bound → p.pat.legs = p.raw.map (forceLeg v.toNat)) ∧
         s.onlyRegs u [(Fld.EDG_CNV_FORCE_FORCE, c.val)]) ∧
     (∀ v : Word, s.hasRec 0x0011 c = false ∨ isKernel a (s.cnvOwner c) = false ∨ 3 ≤ v.toNat →
       exec (.cnvForceWrite a c v) s = .next (s.touch a.t).busErr)) ∧
  (∀ (s : State) (a : Acc) (c : Fin 256),
     (s.hasRec 0x0011 c = false ∨ isKernel a (s.cnvOwner c) = false →
       exec (.cnvEnable a c) s = .next (s.touch a.t).busErr ∧ exec (.cnvDisable a c) s = .next (s.touch a.t).busErr ∧
       exec (.cnvDisableImmediate a c) s = .next (s.touch a.t).busErr ∧
       exec (.cnvClrtrip a c) s = .next (s.touch a.t).busErr) ∧
     (s.cnvOn c = false → exec (.cnvEnable a c) s = .next (s.touch a.t).busErr) ∧
     (s.hasRec 0x0011 c = true → isKernel a (s.cnvOwner c) = true →
       (s.cnvOn c = true → s.armed (s.cnvOwner c) = false → exec (.cnvEnable a c) s = .next (s.touch a.t).ok) ∧
       (s.cnvOn c = true → s.rank1 c = true ∨ s.rank2 c = true → s.cnvState c ≠ cvDraining →
         exec (.cnvEnable a c) s = .next (s.touch a.t).ok) ∧
       (s.cnvOn c = true → s.armed (s.cnvOwner c) = true → s.rank1 c = false → s.rank2 c = false →
         (s.cnvState c = cvOff ∨ s.cnvState c = cvSafe ∨ s.cnvState c = cvTripped) →
         ∃ u, exec (.cnvEnable a c) s = .next u ∧ u.resp.status = .ok ∧ u.cnvState c = cvWait ∧
           (u.convOf c).firstAt = none ∧ s.onlyRegs u [(Fld.EDG_CNV_STATUS_STATE, c.val)]) ∧
       (∃ u, exec (.cnvDisable a c) s = .next u ∧ u.resp.status = .ok ∧
         (s.cnvState c = cvRun → (s.convOf c).force = 0 → u.cnvState c = cvDraining) ∧
         (s.cnvState c = cvRun → (s.convOf c).force ≠ 0 → u.cnvState c = cvRun ∧ (u.convOf c).drain = true) ∧
         (s.cnvState c = cvWait → u.cnvState c = cvOff ∧ (u.convOf c).built = []) ∧
         (s.cnvState c ≠ cvRun → s.cnvState c ≠ cvWait → s.cnvState c ≤ cvTripped → u.cnvState c = s.cnvState c)) ∧
       (∃ u, exec (.cnvDisableImmediate a c) s = .next u ∧ u.resp.status = .ok ∧
         (s.cnvState c = cvRun ∨ s.cnvState c = cvWait → u.cnvState c = cvSafe ∧ (u.convOf c).built = [] ∧
           (u.convOf c).imm = true) ∧
         (s.cnvState c = cvDraining ∨ s.cnvState c = cvOff → u.cnvState c = cvOff)) ∧
       (∃ u, exec (.cnvClrtrip a c) s = .next u ∧ u.resp.status = .ok ∧
         (∀ n : Fin 16, u.bitOf Fld.EDG_CNV_TRIPSRC_TRIPS c n =
           (s.bitOf Fld.EDG_CNV_TRIPSRC_TRIPS c n && s.tripActive n)) ∧
         (s.cnvState c = cvTripped → (∀ n : Fin 16, s.tripActive n = false) → s.rank1 c = false →
           u.cnvState c = (if (s.convOf c).offAfter then cvOff else cvSafe)))))

/-- At the cut-off the committed set goes into the period that begins at the next boundary where it is good, the one before it where
the commit came in the cut-off's own system cycle; a bad one is refused and counted at every cut-off, and the last good set is used
(R122 to R124); at its boundary that period begins, BOUND names it
and PERIODS counts it (R121); a draining converter is OFF there (R139). After MINPULSE a PWM leg has no on interval and no off
interval in the period shorter than MINPULSE (R126). -/
def Obligations.ConverterPeriods : Prop :=
  ((∀ (s : State) (t b : Nat) (c : Fin 256), s.get Fld.EDG_CNV_CFG_SYNC c = 0 → s.cnvState c = cvRun →
     (s.convOf c).nextB = some b → s.pendingMode b = none → ∃ u, exec (.converterCutoff t c) s = .next u ∧
       (∀ p, (s.convOf c).fresh = false ∨ beforeCycle (s.convOf c).comAt t = true → (s.convOf c).com = some p →
         p.bad p.period = false →
         (u.convOf c).good = some p ∧ (u.convOf c).fresh = false ∧ (u.convOf c).nextB = some (b + p.period) ∧
         ∃ q : Period, q.bound = b ∧ q.pat.period = p.period ∧ (u.convOf c).built = (s.convOf c).built ++ [q]) ∧
       (∀ p, (s.convOf c).fresh = true → beforeCycle (s.convOf c).comAt t = false → (s.convOf c).prev = some p →
         p.bad p.period = false →
         (u.convOf c).good = some p ∧ (u.convOf c).fresh = true ∧ (u.convOf c).nextB = some (b + p.period) ∧
         ∃ q : Period, q.bound = b ∧ q.pat.period = p.period ∧ (u.convOf c).built = (s.convOf c).built ++ [q]) ∧
       (∀ p, (s.convOf c).fresh = false ∨ beforeCycle (s.convOf c).comAt t = true → (s.convOf c).com = some p →
         p.bad p.period = true →
         u.get Fld.EDG_CNV_STATUS_REFUSED c = 1 ∧ (u.convOf c).good = (s.convOf c).good ∧ (u.convOf c).fresh = false ∧
         u.get Fld.EDG_CNV_CNT_REFUSED c = satSucc Fld.EDG_CNV_CNT_REFUSED.width (s.get Fld.EDG_CNV_CNT_REFUSED c) ∧
         ∀ g, (s.convOf c).good = some g → (u.convOf c).nextB = some (b + g.period) ∧
           ∃ q : Period, q.bound = b ∧ q.pat.period = g.period ∧ (u.convOf c).built = (s.convOf c).built ++ [q])) ∧
   (∀ (s : State) (t : Nat) (c : Fin 256), s.cnvState c ≠ cvWait → s.cnvState c ≠ cvRun →
     ∃ u, exec (.converterCutoff t c) s = .next u ∧ (u.convOf c).built = (s.convOf c).built ∧ u.cnvState c = s.cnvState c) ∧
   (∀ (s : State) (t : Nat) (c : Fin 256) (p : Period) (rest : List Period), s.cnvState c ≠ cvDraining →
     (s.convOf c).built = p :: rest → (s.convOf c).drain = false → p.bound ≤ t →
     ∃ u, exec (.converterBoundary t c) s = .next u ∧ u.cnvState c = cvRun ∧ (u.convOf c).cur = some p ∧
       (u.convOf c).built = rest ∧ u.get64 Fld.EDG_CNV_BOUND_LO_BOUND Fld.EDG_CNV_BOUND_HI_BOUND c = p.bound % 2 ^ 64 ∧
       u.get Fld.EDG_CNV_PERIODS_COUNT c = (s.get Fld.EDG_CNV_PERIODS_COUNT c + 1) % 2 ^ Fld.EDG_CNV_PERIODS_COUNT.width ∧
       (u.convOf c).force = forceFor (s.convOf c).forceQ (s.convOf c).force p.bound ∧
       u.flag Fld.EDG_CNV_STATUS_FORCED c = ((u.convOf c).force != 0) ∧
       (u.convOf c).forceQ = (s.convOf c).forceQ.filter (fun x => decide (p.bound < x.1))) ∧
   (∀ (q : List (Nat × Nat)) (force at_ v bound : Nat), at_ ≤ bound → forceFor (q ++ [(at_, v)]) force bound = v) ∧
   (∀ (s : State) (t : Nat) (c : Fin 256) (p : Period) (rest : List Period), (s.convOf c).built = p :: rest → t < p.bound →
     exec (.converterBoundary t c) s = .next (s.touch t)) ∧
   (∀ (s : State) (t : Nat) (c : Fin 256), s.cnvState c = cvDraining → (s.convOf c).enHeld = false → s.boundDue c t = true →
     ∃ u, exec (.converterBoundary t c) s = .next u ∧ u.cnvState c = cvOff ∧ (u.convOf c).cur = none ∧
       (u.convOf c).drain = false)) ∧
  (∀ (period mp : Nat) (l : LegPat), l.mode = 0 → l.on ≤ period → l.off ≤ period → mp ≤ period →
     let r := (minPulse period mp l).1
     (onTime period r.on r.off = 0 ∨ mp ≤ onTime period r.on r.off) ∧
     (onTime period r.on r.off = period ∨ mp ≤ period - onTime period r.on r.off) ∧
     ((minPulse period mp l).2 = false → r = l))

/-- Local outputs (R130, R131, R133, R134, R139): COMMIT by the owning core at either level; ENABLE, DISABLE, IMMEDIATE, CLRTRIP and a
force by it at kernel level; FORCE_LOCK makes a force write have no effect and raise no error; a draining output is OFF and inactive
at its boundary. A trip input restarts its count at each change of level; once it has been active for its count, and outside
its window, it counts as asserted, and every converter and local
output whose TRIPMASK has its bit is TRIPPED with the trip latched, HIT sets, COUNT counts and an F1 is raised (R134, R137). -/
def Obligations.LocalOutputsAndTrips : Prop :=
  (∀ (s : State) (a : Acc) (k : Fin 32),
     (s.hasRec 0x0040 k = false ∨ isCore a (s.locOwner k) = false →
       exec (.locCommit a k) s = .next (s.touch a.t).busErr ∧ exec (.locEnable a k) s = .next (s.touch a.t).busErr) ∧
     (s.hasRec 0x0040 k = false ∨ isKernel a (s.locOwner k) = false →
       exec (.locEnable a k) s = .next (s.touch a.t).busErr ∧ exec (.locDisable a k) s = .next (s.touch a.t).busErr ∧
       exec (.locDisableImmediate a k) s = .next (s.touch a.t).busErr ∧ exec (.locClrtrip a k) s = .next (s.touch a.t).busErr ∧
       ∀ v : Word, exec (.locForceWrite a k v) s = .next (s.touch a.t).busErr) ∧
     (s.hasRec 0x0040 k = true → isCore a (s.locOwner k) = true → ∃ u, exec (.locCommit a k) s = .next u ∧
       u.resp.status = .ok ∧ (u.locOf k).com = some (s.locShadow k) ∧ (u.locOf k).fresh = true ∧
       (u.locOf k).state = (s.locOf k).state ∧ s.onlyRegs u []) ∧
     (s.hasRec 0x0040 k = true → isKernel a (s.locOwner k) = true →
       (s.locOn k = true → s.armed (s.locOwner k) = true → s.locRank1 k = false → (s.locOf k).trips = 0 →
         ((s.locOf k).state = cvOff ∨ (s.locOf k).state = cvSafe) → ∃ u, exec (.locEnable a k) s = .next u ∧
           u.resp.status = .ok ∧ (u.locOf k).state = cvWait ∧ s.onlyRegs u []) ∧
       (∃ u, exec (.locDisable a k) s = .next u ∧ u.resp.status = .ok ∧ s.onlyRegs u [] ∧
         ((s.locOf k).state = cvRun → (s.locOf k).force = 0 → (u.locOf k).state = cvDraining) ∧
         ((s.locOf k).state = cvRun → (s.locOf k).force ≠ 0 → (u.locOf k).state = cvRun ∧ (u.locOf k).drain = true) ∧
         ((s.locOf k).state = cvWait → (u.locOf k).state = cvOff)) ∧
       (∃ u, exec (.locDisableImmediate a k) s = .next u ∧ u.resp.status = .ok ∧
         s.onlyRegs u ((List.range 32).map (fun j => (Fld.CMP_STATUS_RAMPING, j))) ∧
         ((s.locOf k).state = cvRun ∨ (s.locOf k).state = cvWait → (u.locOf k).state = cvSafe ∧ (u.locOf k).imm = true ∧
           (s.get Fld.EDG_LOC_CFG_SAFE k ≠ 2 → (u.locOf k).active = false)) ∧
         ((s.locOf k).state = cvDraining → (u.locOf k).state = cvOff)) ∧
       (∃ u, exec (.locClrtrip a k) s = .next u ∧ u.resp.status = .ok ∧ s.onlyRegs u [] ∧
         (∀ n : Fin 16, (u.locOf k).trips.testBit n = ((s.locOf k).trips.testBit n && s.tripActive n))) ∧
       (∀ v : Word, v.toNat < 3 → s.flag Fld.EDG_LOC_CFG_FORCE_LOCK k = false →
         ∃ u, exec (.locForceWrite a k v) s = .next u ∧ u.resp.status = .ok ∧ u.get Fld.EDG_LOC_FORCE_FORCE k = v.toNat ∧
           (u.locOf k).forceQ = (s.locOf k).forceQ ++ [(a.t + 133120, v.toNat)] ∧ s.onlyRegs u [(Fld.EDG_LOC_FORCE_FORCE, k.val)]) ∧
       (∀ v : Word, v.toNat < 3 → s.flag Fld.EDG_LOC_CFG_FORCE_LOCK k = true →
         exec (.locForceWrite a k v) s = .next (s.touch a.t).ok)) ∧
     (∀ t, (s.locOf k).state = cvDraining → (s.locOf k).enHeld = false →
       ∃ u, exec (.localOutputBoundary t k) s = .next u ∧ (u.locOf k).state = cvOff ∧ (u.locOf k).active = false ∧
         s.onlyRegs u ((List.range 32).map (fun j => (Fld.CMP_STATUS_RAMPING, j))))) ∧
  (∀ (s : State) (t : Nat) (n : Fin 16),
     (∀ level, ∃ u, exec (.tripInputChange t n level) s = .next u ∧ u.flag Fld.EDG_TRIP_STATUS_LEVEL n = level ∧
       (s.flag Fld.EDG_TRIP_STATUS_LEVEL n ≠ level → (u.tripOf n).asserted = false ∧ (u.tripOf n).since = t) ∧
       (s.flag Fld.EDG_TRIP_STATUS_LEVEL n = level → u.tripOf n = s.tripOf n) ∧
       s.onlyRegs u [(Fld.EDG_TRIP_STATUS_LEVEL, n.val)]) ∧
     (s.flag Fld.EDG_TRIP_CFG_MODE n = false → (s.tripDue n t = true ↔
       s.flag Fld.EDG_TRIP_STATUS_LEVEL n = s.flag Fld.EDG_TRIP_CFG_POL n ∧
       (s.tripOf n).since + 63 * (s.get Fld.EDG_TRIP_CFG_FILT n - 1) ≤ t)) ∧
     (s.tripDue n t = false ∨ ((s.tripOf n).asserted = true ∧ s.tripAgain n = false) ∨
       (s.flag Fld.EDG_TRIP_CFG_MODE n = true ∧ s.inWindow n t = true) →
       exec (.tripAsserted t n) s = .next (s.touch t)) ∧
     (s.tripDue n t = true → (s.tripOf n).asserted = false ∨ s.tripAgain n = true →
       ∃ u, exec (.tripAsserted t n) s = .next u ∧ (u.tripOf n).asserted = true ∧ u.get Fld.EDG_TRIP_STATUS_HIT n = 1 ∧
         u.get Fld.EDG_TRIP_STATUS_COUNT n = satSucc Fld.EDG_TRIP_STATUS_COUNT.width (s.get Fld.EDG_TRIP_STATUS_COUNT n) ∧
         u.get Fld.FLT_EVT_F1 0 = 1 ∧
         (∀ c : Fin 256, s.hasRec 0x0011 c = true → (s.get Fld.EDG_CNV_PROT_TRIPMASK c).testBit n = true →
           u.cnvState c = cvTripped ∧ u.bitOf Fld.EDG_CNV_TRIPSRC_TRIPS c n = true ∧ (u.convOf c).built = []) ∧
         (∀ k : Fin 32, s.hasRec 0x0040 k = true → (s.get Fld.EDG_LOC_PROT_TRIPMASK k).testBit n = true →
           (u.locOf k).state = cvTripped ∧ (u.locOf k).trips.testBit n = true)))

/-- A bus cycle starts with frame A, whose first block is CYCLE with the cycle number and the use of slot 15, and frame B follows
without one (R143, R145, R146); slot 15 polls listed drops only (R154); the mirror of a leg once admitted ages by a cycle (Table 9.5). A
bus that does not run sends nothing (R162). The bits on the line are a frame that a companion takes apart into its blocks (R145). The blocks of every frame fit its 576-bit body (R145 to R147), and a PATTERN goes only
into a frame that ends at least 30,720 FTU before its boundary, and no more than 1 ms ahead of it (R148). -/
def Obligations.SelvedgeFrames : Prop :=
  (∀ (s : State) (t : Nat) (b : Fin 16),
     (s.busRuns b = false → exec (.selvedgeCycleStart t b) s = .next (s.touch t) ∧
       exec (.frameBSend t b) s = .next (s.touch t)) ∧
     (s.busRuns b = true → ∃ u, exec (.selvedgeCycleStart t b) s = .next u ∧ (u.busOf b).frameB = false ∧
       (u.busOf b).cyc = t / busCycle ∧ (u.busOf b).frame.head? =
         some (.cycle (t / busCycle) (u.get Fld.SEL_BUS_STATUS_S15OP b) (u.get Fld.SEL_BUS_STATUS_S15DROP b)) ∧
       (u.get Fld.SEL_BUS_STATUS_S15OP b = 1 →
         s.flag Fld.SEL_DROP_STATE_LISTED (16 * b.val + u.get Fld.SEL_BUS_STATUS_S15DROP b) = true ∧
         u.dropState (16 * b.val + u.get Fld.SEL_BUS_STATUS_S15DROP b) = dpEnum) ∧
       (∃ body, downFrame? (u.busOf b).line = some (false, body) ∧ (u.busOf b).frame.flatMap Block.bits <+: body) ∧
       (∀ d : Fin 16, s.admitted (16 * b.val + d.val) = true → u.admitted (16 * b.val + d.val) = true) ∧
       (∀ d : Fin 16, u.get Fld.BTR_AGE_AGE (16 * b.val + d.val) =
         (if (s.dropOf (16 * b.val + d.val)).admittedOnce then satSucc 16 (s.get Fld.BTR_AGE_AGE (16 * b.val + d.val))
          else s.get Fld.BTR_AGE_AGE (16 * b.val + d.val)))) ∧
     (s.busRuns b = true → ∃ u, exec (.frameBSend t b) s = .next u ∧ (u.busOf b).frameB = true ∧
       (u.busOf b).cyc = t / busCycle ∧ (∀ n op dp, .cycle n op dp ∉ (u.busOf b).frame) ∧
       ∃ body, downFrame? (u.busOf b).line = some (true, body) ∧ (u.busOf b).frame.flatMap Block.bits <+: body)) ∧
  (let size : Block → Nat
     | .cycle .. => 64
     | .safe .. => 24
     | .pattern _ _ _ legs => 70 + 52 * legs.length
     | .mgmt .. => 36
   ∀ (s : State) (t : Nat) (b : Fin 16), s.busRuns b = true →
     (∃ u, exec (.selvedgeCycleStart t b) s = .next u ∧ ((u.busOf b).frame.map size).sum ≤ 576 ∧
       ∀ m bd p l, .pattern m bd p l ∈ (u.busOf b).frame → 51200 + 30720 ≤ bd ∧ bd ≤ 20480000) ∧
     (∃ u, exec (.frameBSend t b) s = .next u ∧ ((u.busOf b).frame.map size).sum ≤ 576 ∧
       ∀ m bd p l, .pattern m bd p l ∈ (u.busOf b).frame → 102400 + 30720 ≤ bd ∧ bd ≤ 51200 + 20480000))

/-- Data frames (R152, R157, R158, R160, R162, R180, R194): a frame with a bad SYNC or CRC counts as missing; a good one, from ALIGN on,
ends a row of missing ones, gives the leg its STATE, adds its arrival error and, with FAULT, STARVED, SAFE or LATCHED newly reported,
raises source 256 + n, with FAULT or STARVED also an F1 on its converter; a missing one of an admitted drop is counted in MISS or
UPCRC, and the third in a row loses the drop with DROPLOST and an F1, or starts an admission again in CONFIG and CONFIRM. The two paths of a leg's
state (R482, R483): a response whose rank differs from the data frame's is a discrepancy, counted and raised; once the next three data
frames are in, one of them that still disagrees has marked the leg STALE; the third that agrees after a response that agreed clears STALE. -/
def Obligations.DataFramesAndDiscrepancies : Prop :=
  ((∀ (s : State) (t : Nat) (n : Fin 256) (frame : BitVec 64) (err : Int), dataFrame? frame = none →
     exec (.upstreamDataFrame t n frame err) s = exec (.dataFrameMissing t n true) s) ∧
   (∀ (s : State) (t : Nat) (n : Fin 256) (frame : BitVec 64) (err : Int) (f : DataFrame), dataFrame? frame = some f →
     s.busRuns (n.val / 16) = true → dpAlign ≤ s.dropState n → s.dropState n ≤ dpAdmitted →
     ∃ u, exec (.upstreamDataFrame t n frame err) s = .next u ∧
       (s.admitted n = true → u.admitted n = true) ∧ (u.dropOf n).miss = 0 ∧ (u.dropOf n).state = f.status % 8 ∧
       (u.dropOf n).errSum = (if 256 ≤ (s.dropOf n).errN then 0 else (s.dropOf n).errSum) + err ∧
       ((f.status.testBit 9 = true ∧ (s.dropOf n).fault = false) ∨ (f.status.testBit 5 = true ∧ (s.dropOf n).starved = false) ∨
           (f.status % 8 ≠ (s.dropOf n).state ∧ (f.status % 8 = 3 ∨ f.status % 8 = 4)) →
         u.bitOf Fld.IRQ_PEND_PEND ((256 + n.val) / 32) ((256 + n.val) % 32) = true) ∧
       ((f.status.testBit 9 = true ∧ (s.dropOf n).fault = false) ∨ (f.status.testBit 5 = true ∧ (s.dropOf n).starved = false) →
         ∀ c, s.legConv n = some c → s.legOut n = false → s.flag Fld.BTR_DRIVE_CFG_BRAKE n = false →
           u.get Fld.FLT_CNV_F1 c = 1)) ∧
   (∀ (s : State) (t : Nat) (n : Fin 256) (bad : Bool), s.busRuns (n.val / 16) = true →
     s.dropState n = dpConfig ∨ s.dropState n = dpConfirm →
     ∃ u, exec (.dataFrameMissing t n bad) s = .next u ∧
       ((s.dropOf n).miss < 2 → u.dropState n = s.dropState n ∧ (u.dropOf n).miss = (s.dropOf n).miss + 1 ∧
         (u.dropOf n).confirm = 0) ∧
       (2 ≤ (s.dropOf n).miss → u.dropState n = dpEnum)) ∧
   (∀ (s : State) (t : Nat) (n : Fin 256) (bad : Bool), s.busRuns (n.val / 16) = true → s.admitted n = true →
     ∃ u, exec (.dataFrameMissing t n bad) s = .next u ∧
       (bad = true → u.get Fld.SEL_DROP_CNT_UPCRC n = satSucc 16 (s.get Fld.SEL_DROP_CNT_UPCRC n)) ∧
       (bad = false → u.get Fld.SEL_DROP_CNT_MISS n = satSucc 16 (s.get Fld.SEL_DROP_CNT_MISS n)) ∧
       ((s.dropOf n).miss < 2 → u.admitted n = true ∧ (u.dropOf n).miss = (s.dropOf n).miss + 1) ∧
       (2 ≤ (s.dropOf n).miss → u.dropState n = dpLost ∧ u.bitOf Fld.SEL_BUS_STATUS_ADMITTED (n.val / 16) (n.val % 16) = false ∧
         u.get Fld.SEL_BUS_EVT_DROPLOST (n.val / 16) = 1 ∧
         ∀ c, s.legConv n = some c → s.legOut n = false → u.get Fld.FLT_CNV_F1 c = 1))) ∧
  (∀ (s : State) (n : Fin 256) (data v : Nat),
     (s.legStale n = false → agrees (v % 8) data = false → ((s.stateResponse n data v).dropOf n).disc = 3 ∧
       (s.stateResponse n data v).get Fld.FLT_EVT_DISCREPANCY 0 = 1 ∧ (s.stateResponse n data v).get Fld.FLT_CNT2_DISCREP 0 =
         satSucc Fld.FLT_CNT2_DISCREP.width (s.get Fld.FLT_CNT2_DISCREP 0)) ∧
     ((s.dropOf n).disc = 1 → (s.dropOf n).discBad = true ∨ agrees data (s.get Fld.BTR_STATE_STATE n) = false →
       (s.judgeDisc n data).legStale n = true ∧
       (s.judgeDisc n data).get Fld.FLT_EVT_STALE 0 = 1 ∧ ((s.judgeDisc n data).dropOf n).disc = 0) ∧
     (1 < (s.dropOf n).disc → (s.judgeDisc n data).legStale n = s.legStale n ∧
       ((s.judgeDisc n data).dropOf n).disc = (s.dropOf n).disc - 1 ∧ ((s.judgeDisc n data).dropOf n).discBad =
         ((s.dropOf n).discBad || !agrees data (s.get Fld.BTR_STATE_STATE n))) ∧
     ((s.dropOf n).disc = 1 → (s.dropOf n).discBad = false → agrees data (s.get Fld.BTR_STATE_STATE n) = true →
       (s.judgeDisc n data).legStale n = s.legStale n ∧ ((s.judgeDisc n data).dropOf n).disc = 0) ∧
     (s.legStale n = true → (s.dropOf n).agree = some 2 → agrees data (s.get Fld.BTR_STATE_STATE n) = true →
       (s.judgeStale n data).legStale n = false) ∧
     (s.legStale n = true → agrees data (s.get Fld.BTR_STATE_STATE n) = false → (s.dropOf n).agree ≠ none →
       (s.judgeStale n data).legStale n = true ∧ ((s.judgeStale n data).dropOf n).agree = none))

/-- Admission (R155, R157, R161, Table 8.4): a good ENUM answer brings CAL, the third poll in a row that meets energy without a good CRC
raises CLASH and rests the drop; an echo is taken for the drop's own only with its bits, and the sixteenth gives D as half their mean and brings ALIGN; afterwards the mean arrival error
over 256 frames corrects D, with DRIFT above 40 FTU. MGMT operations: one left unanswered for 4 answering cycles goes again with the
same TAG and no other does (R153); CLEAR by the leg's owner at kernel level is sent on to a drop whose delay is known, and any other
write of BTR_CTRL is a bus error (R182); a STALE leg's BTR_STATE is read again (R483). -/
def Obligations.DropsAndManagement : Prop :=
  ((∀ (s : State) (t : Nat) (n : Fin 256) (ans : BitVec 56), s.busRuns (n.val / 16) = true →
     s.get Fld.SEL_BUS_STATUS_S15OP (n.val / 16) = 1 → s.get Fld.SEL_BUS_STATUS_S15DROP (n.val / 16) = n.val % 16 → s.dropState n = dpEnum →
     ∃ u, exec (.enumAnswer t n ans) s = .next u ∧
       (bits ans.toNat 48 8 = 0xB4 → crc8 40 (bits ans.toNat 8 40) = bits ans.toNat 0 8 → bits ans.toNat 32 16 = 0xB001 →
         u.dropState n = dpCal ∧ u.get Fld.BTR_SERIAL_SERIAL n = bits ans.toNat 8 24 ∧ (u.dropOf n).echoes = 0 ∧
         ((s.dropOf n).admittedOnce = true → s.get Fld.SEL_DROP_SERIAL_SERIAL n ≠ bits ans.toNat 8 24 →
           u.get Fld.SEL_BUS_EVT_NEWID (n.val / 16) = 1)) ∧
       (crc8 40 (bits ans.toNat 8 40) ≠ bits ans.toNat 0 8 → u.dropState n = dpEnum ∧
         ((s.dropOf n).clash < 2 → (u.dropOf n).clash = (s.dropOf n).clash + 1) ∧
         (2 ≤ (s.dropOf n).clash → (u.dropOf n).rest = 16 ∧ u.get Fld.SEL_BUS_EVT_CLASH (n.val / 16) = 1 ∧
           u.get Fld.SEL_BUS_CNT_CLASH (n.val / 16) = satSucc 16 (s.get Fld.SEL_BUS_CNT_CLASH (n.val / 16))))) ∧
   (∀ (s : State) (t : Nat) (n : Fin 256) (echo : EchoRx), echo.bits.toNat ≠ 0xB400 + 16 * (n.val % 16) →
     exec (.calEcho t n echo) s = .next (s.touch t)) ∧
   (∀ (s : State) (t : Nat) (n : Fin 256) (echo : EchoRx), echo.bits.toNat = 0xB400 + 16 * (n.val % 16) → s.busRuns (n.val / 16) = true → s.get Fld.SEL_BUS_STATUS_S15OP (n.val / 16) = 2 →
     s.get Fld.SEL_BUS_STATUS_S15DROP (n.val / 16) = n.val % 16 → s.dropState n = dpCal → (s.dropOf n).answered = false →
     ∃ u, exec (.calEcho t n echo) s = .next u ∧
       ((s.dropOf n).echoes < 15 → u.dropState n = dpCal ∧ (u.dropOf n).echoes = (s.dropOf n).echoes + 1 ∧
         (u.dropOf n).echoSum = (s.dropOf n).echoSum + echo.delay) ∧
       (15 ≤ (s.dropOf n).echoes → u.dropState n = dpAlign ∧
         u.get Fld.SEL_DROP_DELAY_D n = ((s.dropOf n).echoSum + echo.delay + 16) / 32 % 65536)) ∧
   (∀ (s : State) (t : Nat) (n : Fin 256), (s.dropOf n).errN < 256 → exec (.delayDriftCorrect t n) s = .next (s.touch t)) ∧
   (∀ (s : State) (t : Nat) (n : Fin 256), 256 ≤ (s.dropOf n).errN →
     ∃ u, exec (.delayDriftCorrect t n) s = .next u ∧ (u.dropOf n).errN = 0 ∧
       ((s.dropOf n).errSum.natAbs < (s.dropOf n).errN → s.onlyRegs u []) ∧
       ((s.dropOf n).errN ≤ (s.dropOf n).errSum.natAbs → u.get Fld.SEL_DROP_DELAY_D n =
         ((s.get Fld.SEL_DROP_DELAY_D n : Int) + roundDiv (s.dropOf n).errSum (s.dropOf n).errN).toNat % 65536) ∧
       (40 * (s.dropOf n).errN < (s.dropOf n).errSum.natAbs → u.get Fld.SEL_BUS_EVT_DRIFT (n.val / 16) = 1))) ∧
  ((∀ (s : State) (t : Nat) (n : Fin 256) (tag : Fin 4), ∃ u, exec (.mgmtRetry t n tag) s = .next u ∧ s.onlyRegs u [] ∧
     (u.busOf (n.val / 16)).ops.length = (s.busOf (n.val / 16)).ops.length ∧
     ∀ (i : Nat) (o : MgmtOp), (s.busOf (n.val / 16)).ops[i]? = some o → (u.busOf (n.val / 16)).ops[i]? =
       some (if o.drop = n.val % 16 ∧ o.sent = true ∧ o.tag = some tag.val ∧ 4 ≤ o.missed then { o with sent := false, missed := 0 }
         else o)) ∧
   (∀ (s : State) (a : Acc) (n : Fin 256) (v : Word),
     (s.legOwner a n = false ∨ a.kernel = false ∨ 2 ≤ v.toNat → exec (.btrCtrlWrite a n v) s = .next (s.touch a.t).busErr) ∧
     (s.legOwner a n = true → a.kernel = true → v = 1#32 → dpAlign ≤ s.dropState n → s.dropState n ≤ dpAdmitted →
       ∃ u, exec (.btrCtrlWrite a n v) s = .next u ∧ u.resp.status = .ok ∧ s.onlyRegs u [] ∧
         (u.busOf (n.val / 16)).ops = (s.busOf (n.val / 16)).ops ++ [{ drop := n.val % 16, write := true, dst := .half 0x40, data := 1 }]) ∧
     (s.legOwner a n = true → a.kernel = true → v = 0#32 → exec (.btrCtrlWrite a n v) s = .next (s.touch a.t).ok)) ∧
   (∀ (s : State) (t : Nat) (n : Fin 256),
     (s.legStale n = true → s.admitted n = true → s.rereadDue n t = true →
       ∃ u, exec (.staleReread t n) s = .next u ∧ s.onlyRegs u [] ∧ (u.dropOf n).staleAt = t ∧
       (u.busOf (n.val / 16)).ops = (s.busOf (n.val / 16)).ops ++ [{ drop := n.val % 16, write := false, dst := .half 32, data := 0 }]) ∧
     (s.legStale n = false ∨ s.admitted n = false ∨ s.rereadDue n t = false → exec (.staleReread t n) s = .next (s.touch t))))

/-- The two sides of a companion's leg are never on together, and a side that waits for its dead time is not on beside the other: every
step keeps this of every companion (R169, R170). -/
def Obligations.NoShootThrough : Prop :=
  ∀ s t : State, (∀ n, (s.compOf n).sidesApart) → step s = .next t → ∀ n, (t.compOf n).sidesApart

/-- Frames received (R145, R146, R149, R151, R159): a frame with a bad CRC is counted, sets DNERR and does nothing else, and a body that
begins with a reserved BTYPE sets PATERR alone; a SAFE block brings the safe state; a PATTERN replaces the one of its boundary, sets
PATERR before the end of the last held period, QFULL with 7 queued, and is queued otherwise; the fifth frame A lost or failed leaves the
companion UNADMITTED in its safe state, which completes a held period. MGMT (R153, R179, R182, R196): a powered companion answers each operation under its TAG with
the halfword after it; a write of a configuration halfword reaches staging, APPLY copies it at once or, in RUN, at the next
boundary; CLEAR ends SAFE or LATCHED where the conditions of R196 hold, and sets CLRREJ where they do not. The data frame an aligned
companion sends decodes to its current sample, its STATUS and the quantity of that cycle, and reports its flags once; one that is
not aligned sends none (R152, R173, Table 8.3). -/
def Obligations.CompanionFrames : Prop :=
  (∀ (s : State) (t : Nat) (n : Fin 256) (c : Comp), s.compOf n = c → c.vddp = true →
     (∀ frame, ∃ u, exec (.downstreamFrameRx t n frame) s = .next u ∧
       (downFrame? frame = none → c.aligned = false ∨ 51200 ≤ c.now t % busCycle ∨ c.now t / busCycle < c.cyc + 5 →
         u.compOf n = { c with dnerr := true, crcCnt := c.crcCnt + 1 }) ∧
       (downFrame? frame = none → c.aligned = true → c.now t % busCycle < 51200 → c.cyc + 5 ≤ c.now t / busCycle →
         c.st ≠ .latched → (u.compOf n).st = .unadmitted ∧ (u.compOf n).aligned = false ∧ (u.compOf n).dnerr = true) ∧
       (∀ b body, downFrame? frame = some (b, body) → bitsNat (body.take 4) = 0 → u.compOf n = c) ∧
       (∀ b body, downFrame? frame = some (b, body) → 5 ≤ bitsNat (body.take 4) → u.compOf n = { c with paterr := true })) ∧
     (∀ code, ∃ u, exec (.safeBlock t n code) s = .next u ∧
       (c.st = .run ∨ c.st = .gatedOff → (u.compOf n).st = .safe ∧ (u.compOf n).queue = [] ∧
         (code = 0 → c.act.brake ≠ 1 → (u.compOf n).hi = false ∧ (u.compOf n).lo = false) ∧
         (code = 1 → c.act.brake ≠ 1 → (u.compOf n).hi = false) ∧
         (code = 2 → c.cur.isSome = true → (u.compOf n).holdOne = true ∧ (u.compOf n).cur = c.cur ∧
           (u.compOf n).hi = c.hi ∧ (u.compOf n).lo = c.lo))) ∧
     (∀ (bd p on off : Nat) (m : Fin 4), c.act.brake ≠ 1 → c.st = .run ∨ c.st = .gatedOff →
       ∃ u, exec (.patternBlock t n bd p m on off) s = .next u ∧
         ((∃ q ∈ c.queue, q.bound = bd) → (u.compOf n).queue = c.queue.map (fun q => if q.bound = bd then ⟨bd, p, m, on, off⟩ else q)) ∧
         ((∀ q ∈ c.queue, q.bound ≠ bd) → bd < c.lastEnd.getD (c.now t) → u.compOf n = { c with paterr := true }) ∧
         ((∀ q ∈ c.queue, q.bound ≠ bd) → c.lastEnd.getD (c.now t) ≤ bd → c.queue.length = 7 → u.compOf n = { c with qfull := true }) ∧
         ((∀ q ∈ c.queue, q.bound ≠ bd) → c.lastEnd.getD (c.now t) ≤ bd → c.queue.length < 7 →
           u.compOf n = { c with queue := c.queue ++ [⟨bd, p, m, on, off⟩] })) ∧
     (∃ u, exec (.companionFrameALoss t n) s = .next u ∧ (u.compOf n).aligned = false ∧ (u.compOf n).delay = none ∧
       (c.st ≠ .latched → (u.compOf n).st = .unadmitted) ∧ (c.st = .latched → (u.compOf n).st = .latched) ∧
       (u.compOf n).queue = [] ∧ (c.act.safe ≠ 2 → (u.compOf n).cur = none) ∧
       (c.act.safe = 2 → c.cur.isSome = true → (u.compOf n).holdOne = true ∧ (u.compOf n).cur = c.cur ∧
         (u.compOf n).hi = c.hi ∧ (u.compOf n).lo = c.lo))) ∧
  (∀ (s : State) (t : Nat) (n : Fin 256) (tag : Fin 4) (c : Comp), s.compOf n = c →
     (c.vddp = false → (∀ a, exec (.mgmtRead t n tag a) s = .next (s.touch t)) ∧
       (∀ d v, exec (.mgmtWrite t n tag d v) s = .next (s.touch t))) ∧
     (c.vddp = true →
       (∀ a : Fin 128, ∃ u, exec (.mgmtRead t n tag a) s = .next u ∧ (u.compOf n).answers.length = c.answers.length + 1 ∧
         (4 ≤ a.val → a.val < 24 → u.compOf n = { c with answers := c.answers ++ [⟨tag, a, c.stag.half a, c.now t / busCycle⟩] }) ∧
         (a = 0 → u.compOf n = { c with answers := c.answers ++ [⟨tag, 0, 0xB001, c.now t / busCycle⟩] })) ∧
       (∀ v : BitVec 16, ∃ u, exec (.mgmtWrite t n tag .delay v) s = .next u ∧ (u.compOf n).delay = some v.toNat ∧
         (u.compOf n).answers.length = c.answers.length + 1) ∧
       (∀ v : BitVec 16, ∃ u, exec (.mgmtWrite t n tag .starveHold v) s = .next u ∧
         (u.compOf n).starveHold = v.getLsbD 0) ∧
       (∀ v : BitVec 16, v.getLsbD 0 = true → ∃ u, exec (.mgmtWrite t n tag .apply v) s = .next u ∧
         (c.st = .run → (u.compOf n).applyPend = true ∧ (u.compOf n).act = c.act) ∧
         (c.st ≠ .run → (u.compOf n).act = c.stag ∧ (u.compOf n).configured = true)) ∧
       (∀ (a : Fin 128) (v : BitVec 16), a ≠ 64 → ∃ u, exec (.mgmtWrite t n tag (.half a) v) s = .next u ∧
         (u.compOf n).stag = c.stag.setHalf a v.toNat ∧ (u.compOf n).act = c.act ∧ (u.compOf n).st = c.st) ∧
       (∃ u, exec (.mgmtWrite t n tag (.half 64) 1#16) s = .next u ∧
         ((c.st = .safe ∨ c.st = .latched) → c.mayClear = true → (u.compOf n).st = .gatedOff ∧ (u.compOf n).cause = 0 ∧
           (u.compOf n).fault = false ∧ (u.compOf n).hon = c.act.sinit) ∧
         ((c.st ≠ .safe ∧ c.st ≠ .latched) ∨ c.mayClear = false → (u.compOf n).evt = setBit c.evt 6 ∧ (u.compOf n).st = c.st)))) ∧
  (∀ (s : State) (t : Nat) (n : Fin 256) (c : Comp) (cur dc : BitVec 18) (ntc : BitVec 12), s.compOf n = c →
     (c.vddp = false ∨ c.aligned = false → exec (.companionDataTx t n cur dc ntc) s = .next (s.touch t)) ∧
     (c.vddp = true → c.aligned = true → ∃ u f d, exec (.companionDataTx t n cur dc ntc) s = .next u ∧
       (u.compOf n).frame = some f ∧ dataFrame? f = some d ∧ d.cur = cur.toInt ∧ d.status = c.status ∧
       (c.now t / busCycle % 4 = 1 → d.aux = ntc.toNat ∧ (u.compOf n).ntc = ntc.toNat) ∧
       (c.now t / busCycle % 2 = 0 → d.aux = dc.toNat) ∧
       (u.compOf n).dnerr = false ∧ (u.compOf n).paterr = false ∧ (u.compOf n).qfull = false ∧ (u.compOf n).st = c.st))

/-- At the end of its period a companion goes on with the pattern of that boundary; without one it repeats the last once under
STARVE_HOLD, and otherwise applies its safe state with STARVED (R158), but the leg of a TWILL converter is ALL_OFF (log entry 36); a configuration that waits for the boundary becomes active
there (R179). Edges and dead time (R125, R150, R169, R170, R177, R178): at an edge that the pattern in force places, the side that is on turns off
and the other waits, and an edge of the side that waits cancels the wait; in HANDSHAKE mode it turns on once DT has passed since the
opposite gate was sensed low, in FIXED mode since the edge; a gate that stays high for 2 µs latches the companion with both sides
off. Gate strength (R172): a transition counts for the latest gate edge within 1 µs before its 10 % crossing; one slower than TARGET + TOL raises the strength of
its edge by one up to SMAX, one faster than TARGET − TOL lowers it down to SMIN, and at its end ADAPTLIM counts; below IMIN, without
ADAPT, or where 1 µs brings no transition, NOMEAS counts. -/
def Obligations.CompanionDrive : Prop :=
  (∀ (s : State) (t : Nat) (n : Fin 256) (c : Comp) (q : CPat), s.compOf n = c → c.vddp = true → c.st = .run → c.holdOne = false →
     c.cur = some q → (c.now t < q.bound + q.period → ∃ u, exec (.companionBoundary t n) s = .next u ∧ u.compOf n = c) ∧
     (q.bound + q.period ≤ c.now t → ∃ u, exec (.companionBoundary t n) s = .next u ∧
       (c.applyPend = true → (u.compOf n).act = c.stag ∧ (u.compOf n).applyPend = false) ∧
       (∀ p rest, c.queue = p :: rest → p.bound = q.bound + q.period → (u.compOf n).st = .run ∧ (u.compOf n).cur = some p ∧
         (u.compOf n).queue = rest) ∧
       (c.queue = [] → s.twillLeg n = true → (u.compOf n).st = .run ∧ (u.compOf n).cur = none ∧ (u.compOf n).hi = false ∧
         (u.compOf n).lo = false ∧ (u.compOf n).starved = c.starved) ∧
       (c.queue = [] → s.twillLeg n = false → c.starveHold = true → c.repeated = false → (u.compOf n).st = .run ∧ (u.compOf n).repeated = true ∧
         (u.compOf n).cur = some { q with bound := q.bound + q.period }) ∧
       (c.queue = [] → s.twillLeg n = false → c.starveHold = false ∨ c.repeated = true → (u.compOf n).st = .safe ∧
         (u.compOf n).starved = true ∧ (u.compOf n).cur = none))) ∧
  (∀ (s : State) (t : Nat) (n : Fin 256) (c : Comp), s.compOf n = c →
     (c.vddp = true →
       (∀ side : Side, c.edgeDue t side = false → ∃ u, exec (.companionGateEdge t n side) s = .next u ∧ u.compOf n = c) ∧
       (∀ side : Side, c.edgeDue t side = true → c.want = some side → ∃ u, exec (.companionGateEdge t n side) s = .next u ∧
         u.compOf n = { c with want := none }) ∧
       (c.edgeDue t .low = true → c.want = none → c.lo = true → c.hi = false → c.can .high = true →
         ∃ u, exec (.companionGateEdge t n .low) s = .next u ∧
           u.compOf n = { c with lo := false, want := some .high, dead := some .low, sensed := false, deadAt := t,
                                 edges := (.loff, t) :: c.edges }) ∧
       (c.edgeDue t .high = true → c.want = none → c.hi = true → c.lo = false → c.can .low = true →
         ∃ u, exec (.companionGateEdge t n .high) s = .next u ∧
           u.compOf n = { c with hi := false, want := some .low, dead := some .high, sensed := false, deadAt := t,
                                 edges := (.hoff, t) :: c.edges })) ∧
     (∀ side : Side, ∃ u, exec (.gateSenseLow t n side) s = .next u ∧
       u.compOf n = (if c.dead = some side ∧ c.sensed = false
         then { c with sensed := true, deadAt := if c.act.mode = 0 then t else c.deadAt } else c)) ∧
     (∃ u, exec (.deadTimeEnd t n) s = .next u ∧
       (c.dead = none ∨ (c.act.mode = 0 ∧ c.sensed = false) ∨ t < c.deadAt + 16 * c.act.dt → u.compOf n = c) ∧
       (c.dead ≠ none → c.act.mode ≠ 0 ∨ c.sensed = true → c.deadAt + 16 * c.act.dt ≤ t → (u.compOf n).dead = none ∧
         (u.compOf n).want = none ∧
         (c.want = some .high → c.can .high = true → (u.compOf n).hi = true ∧ (u.compOf n).lo = c.lo ∧ (u.compOf n).onHi = t) ∧
         (c.want = some .low → c.can .low = true → (u.compOf n).lo = true ∧ (u.compOf n).hi = c.hi ∧ (u.compOf n).onLo = t) ∧
         (c.want = none → (u.compOf n).hi = c.hi ∧ (u.compOf n).lo = c.lo))) ∧
     (∃ u, exec (.gatestuck t n) s = .next u ∧
       (c.act.mode = 0 → c.want ≠ none → c.sensed = false → c.deadAt + 40960 ≤ t →
         (u.compOf n).st = .latched ∧ (u.compOf n).hi = false ∧
         (u.compOf n).lo = false ∧ (u.compOf n).fault = true ∧ (u.compOf n).evt.testBit 5 = true) ∧
       (c.act.mode ≠ 0 ∨ c.want = none ∨ c.sensed = true ∨ t < c.deadAt + 40960 → u.compOf n = c))) ∧
  (∀ (s : State) (t : Nat) (n : Fin 256) (c : Comp) (p : CPat), s.compOf n = c → c.cur = some p → p.mode = 0 → p.on ≠ p.off →
     c.st = .run → (c.edgeDue t .low = true ↔ c.now t = p.bound + p.on) ∧ (c.edgeDue t .high = true ↔ c.now t = p.bound + p.off)) ∧
  (∀ (s : State) (t : Nat) (n : Fin 256) (c : Comp) (e : EdgeKind), s.compOf n = c → c.vddp = true →
     (∀ x, c.edges = [(e, x)] → x + 20480 ≤ t → ∃ u, exec (.noTransitionWindow t n e) s = .next u ∧
       u.compOf n = { c with edges := [], nomeas := satSucc 16 c.nomeas }) ∧
     ((∀ x ∈ c.edges, x.1 ≠ e ∨ t < x.2 + 20480) → ∃ u, exec (.noTransitionWindow t n e) s = .next u ∧ u.compOf n = c) ∧
     (∀ (t10 t90 : Nat) (cur : Int) (r : Bool), ∃ u, exec (.switchTransition t n r t10 t90 cur) s = .next u ∧
       (r = true → (u.compOf n).rise = 16 * tswUnits t10 t90 % 65536 ∧ (u.compOf n).fall = c.fall) ∧
       (r = false → (u.compOf n).fall = 16 * tswUnits t10 t90 % 65536 ∧ (u.compOf n).rise = c.rise) ∧
       ((∀ x ∈ c.edges, t10 < x.2 ∨ x.2 + 20480 < t10) → (∀ k, (u.compOf n).strength k = c.strength k) ∧
         (u.compOf n).nomeas = c.nomeas ∧ (u.compOf n).adaptlim = c.adaptlim) ∧
       (∀ (x : Nat) (rest : List (EdgeKind × Nat)) (tsw : Nat), tsw = tswUnits t10 t90 → c.edges = (e, x) :: rest → x ≤ t10 →
         t10 ≤ x + 20480 →
         (c.act.adapt = 0 ∨ cur.natAbs < c.act.imin → (u.compOf n).strength e = c.strength e ∧
           (u.compOf n).nomeas = satSucc 16 c.nomeas) ∧
         (c.act.adapt ≠ 0 → c.act.imin ≤ cur.natAbs → 32 * (c.act.target + c.act.tol) < 25 * tsw →
           (c.strength e < c.act.smax → (u.compOf n).strength e = c.strength e + 1) ∧
           (c.act.smax ≤ c.strength e → (u.compOf n).strength e = c.strength e ∧
             (u.compOf n).adaptlim = satSucc 16 c.adaptlim)) ∧
         (c.act.adapt ≠ 0 → c.act.imin ≤ cur.natAbs → 25 * tsw + 32 * c.act.tol < 32 * c.act.target →
           (c.act.smin < c.strength e → (u.compOf n).strength e = c.strength e - 1) ∧
           (c.strength e ≤ c.act.smin → (u.compOf n).strength e = c.strength e ∧
             (u.compOf n).adaptlim = satSucc 16 c.adaptlim)))))

/-- Supplies (R152, R166, R167, R174 to R176, R192, R196): VDDP latches the straps when it rises and leaves the companion UNADMITTED
when it falls; a gate supply that falls in RUN is a fault; VLS takes both gates, VHS the high side; SUPOK10 needs all three; LATCHED
outlasts a loss of the primary's supply alone. Protections (R184 to R188, R195): OC and desaturation, which senses a side from 400 ns after its
turn-on, latch the companion and turn the sides that are on softly off, OV_DC and OT bring SAFE; each is recorded, counted in TRIPS and stamps the first trip alone; a
BRAKE-role leg ignores OVTH; a soft turn-off ends with the side off. The brake chopper (R190 to R193, R200): a BRAKE-role leg, or a
BRK pin, turns on above its active on threshold and off below its off threshold, and only once its minimum interval has passed; one
that has stood for BRKMAX sets SAT and raises an F2. -/
def Obligations.CompanionProtection : Prop :=
  (∀ (s : State) (t : Nat) (n : Fin 256) (c : Comp), s.compOf n = c →
     (∀ strap : Fin 16, ∃ u, exec (.companionVddpUp n strap) s = .next u ∧
       u.compOf n = (if c.vddp then c else { c with vddp := true, strap := strap.val })) ∧
     (∃ u, exec (.companionUvlo t n .vddp) s = .next u ∧ (u.compOf n).vddp = false ∧ (u.compOf n).aligned = false ∧
       (u.compOf n).queue = [] ∧ (u.compOf n).cur = none ∧ (u.compOf n).hi = c.hi ∧ (u.compOf n).lo = c.lo ∧
       (c.st = .latched → c.vls = true → (u.compOf n).st = .latched) ∧ (c.st ≠ .latched → (u.compOf n).st = .unadmitted)) ∧
     (∃ u, exec (.companionUvlo t n .vls) s = .next u ∧ (u.compOf n).vls = false ∧ (u.compOf n).hi = false ∧
       (u.compOf n).lo = false ∧ (u.compOf n).brkWords = false ∧
       (c.st = .run → (u.compOf n).st = .safe ∧ (u.compOf n).fault = true ∧ (u.compOf n).cause = 1)) ∧
     (∃ u, exec (.companionUvlo t n .vhs) s = .next u ∧ (u.compOf n).vhs = false ∧ (u.compOf n).hi = false ∧
       (c.st = .run → (u.compOf n).st = .safe ∧ (u.compOf n).fault = true ∧ (u.compOf n).cause = 2) ∧
       (c.st = .unadmitted ∨ c.st = .gatedOff → c.act.brake ≠ 1 → (u.compOf n).lo = c.lo) ∧
       (c.act.brake = 1 → (u.compOf n).lo = false)) ∧
     (∃ u, exec (.companionUvloRecovery t n .vls) s = .next u ∧ u.compOf n = { c with vls := true }) ∧
     (∃ u, exec (.companionUvloRecovery t n .vhs) s = .next u ∧ u.compOf n = { c with vhs := true }) ∧
     (∃ u, exec (.supok10Set t n) s = .next u ∧
       u.compOf n = (if c.vddp && c.vls && c.vhs then { c with supok10 := true } else c)) ∧
     (∃ u, exec (.heartbeatLoss t n) s = .next u ∧ (u.compOf n).queue = [] ∧ (u.compOf n).cur = none ∧
       (c.softHi = true ∨ c.softLo = true → (u.compOf n).hi = c.hi ∧ (u.compOf n).lo = c.lo) ∧
       (c.softHi = false → c.softLo = false → (u.compOf n).hi = false ∧
         (c.act.brake ≠ 1 → c.act.safe ≠ 1 → (u.compOf n).lo = false)))) ∧
  (∀ (s : State) (t : Nat) (n : Fin 256) (c : Comp), s.compOf n = c →
     (∃ u, exec (.overCurrentTrip t n) s = .next u ∧ (u.compOf n).st = .latched ∧ (u.compOf n).evt.testBit 0 = true ∧
       (u.compOf n).trips = satSucc 16 c.trips ∧ (u.compOf n).fault = true ∧ (c.cause = 0 → (u.compOf n).cause = 4) ∧
       (c.hi = true → (u.compOf n).softHi = true ∧ (c.softHi = false → (u.compOf n).tripHi = true)) ∧
       (c.lo = true → (u.compOf n).softLo = true ∧ (c.softLo = false → (u.compOf n).tripLo = true)) ∧
       (∀ x, c.stamp = some x → (u.compOf n).stamp = some x) ∧
       (c.stamp = none → (u.compOf n).stamp = some (if c.aligned then t % 4294967296 else 0))) ∧
     (∃ u, exec (.desatTrip t n .high) s = .next u ∧
       (c.hi = false ∨ c.softHi = true ∨ t < c.onHi + 10240 → u.compOf n = c) ∧
       (c.hi = true → c.softHi = false → c.onHi + 10240 ≤ t → (u.compOf n).st = .latched ∧ (u.compOf n).evt.testBit 1 = true ∧ (u.compOf n).softHi = true)) ∧
     (∃ u, exec (.desatTrip t n .low) s = .next u ∧
       (c.lo = false ∨ c.softLo = true ∨ t < c.onLo + 10240 → u.compOf n = c) ∧
       (c.lo = true → c.softLo = false → c.onLo + 10240 ≤ t → (u.compOf n).st = .latched ∧ (u.compOf n).evt.testBit 2 = true ∧ (u.compOf n).softLo = true)) ∧
     (∀ v : Fin 4096, ∃ u, exec (.ovDcTrip t n v) s = .next u ∧ (c.act.brake = 1 ∨ v.val ≤ c.act.ovth → u.compOf n = c) ∧
       (c.act.brake ≠ 1 → c.act.ovth < v.val → (u.compOf n).evt.testBit 3 = true ∧ (u.compOf n).fault = true ∧
         (u.compOf n).vdc = v.val ∧ (c.st ≠ .latched → (u.compOf n).st = .safe) ∧
         (c.st = .latched → (u.compOf n).st = .latched))) ∧
     (∀ v : Fin 4096, ∃ u, exec (.overTemperatureTrip t n v) s = .next u ∧ (c.act.otth ≤ v.val → u.compOf n = c) ∧
       (v.val < c.act.otth → (u.compOf n).evt.testBit 4 = true ∧ (u.compOf n).fault = true ∧
         (c.st ≠ .latched → (u.compOf n).st = .safe) ∧ (c.st = .latched → (u.compOf n).st = .latched))) ∧
     (∃ u, exec (.softTurnoffEnd t n .high) s = .next u ∧ (c.softHi = true → (u.compOf n).softHi = false ∧
       (u.compOf n).hi = false)) ∧
     (∃ u, exec (.softTurnoffEnd t n .low) s = .next u ∧ (c.softLo = true → (u.compOf n).softLo = false ∧
       (c.softHi = true → (u.compOf n).lo = false)))) ∧
  ((∀ (s : State) (t : Nat) (n : Fin 256) (v : Fin 4096) (c : Comp), s.compOf n = c → c.chops = true →
     (c.minRun = false → c.lo = false → c.act.onTh < v.val → ∃ u, exec (.brakeChopperOn t n v) s = .next u ∧
       (u.compOf n).lo = true ∧ (u.compOf n).hi = false ∧ (u.compOf n).minRun = true ∧ (u.compOf n).brksw = satSucc 16 c.brksw) ∧
     (c.minRun = false → c.lo = true → v.val < c.act.offTh → ∃ u, exec (.brakeChopperOff t n v) s = .next u ∧
       (u.compOf n).lo = false ∧ (u.compOf n).minRun = true) ∧
     (c.minRun = true → (∃ u, exec (.brakeChopperOn t n v) s = .next u ∧ (u.compOf n).lo = c.lo) ∧
       (∃ u, exec (.brakeChopperOff t n v) s = .next u ∧ (u.compOf n).lo = c.lo)) ∧
     (∃ u, exec (.brakeMinIntervalEnd t (.leg n) v) s = .next u ∧
       (c.lo = false → v.val ≤ c.act.onTh → (u.compOf n).lo = false ∧ (u.compOf n).minRun = false) ∧
       (c.lo = true → v.val < c.act.offTh → (u.compOf n).lo = false ∧ (u.compOf n).minRun = true))) ∧
   (∀ (s : State) (t : Nat) (k : Fin 4) (x : Bool), s.tbRun = true → s.flag Fld.EDG_BRK_CFG_EN k = true →
     ∃ u, exec (.brkPinChange t k x) s = .next u ∧ (u.brkOf k).above = x ∧
       ((s.brkOf k).nextAt ≤ t → u.flag Fld.EDG_BRK_STATUS_BRAKING k = x) ∧
       (t < (s.brkOf k).nextAt → u.get Fld.EDG_BRK_STATUS_BRAKING k = s.get Fld.EDG_BRK_STATUS_BRAKING k)) ∧
   (∀ (s : State) (t : Nat) (k : Fin 4) (v : Fin 4096), s.tbRun = true → s.flag Fld.EDG_BRK_CFG_EN k = true →
     (s.brkOf k).nextAt ≤ t → ∃ u, exec (.brakeMinIntervalEnd t (.pin k) v) s = .next u ∧
       u.flag Fld.EDG_BRK_STATUS_BRAKING k = (s.brkOf k).above) ∧
   (∀ (s : State) (t x : Nat) (n : Fin 256), (s.dropOf n).brakeSince = some x →
     ∃ u, exec (.brakeSaturation t (.leg n)) s = .next u ∧ u.get Fld.BTR_BRAKE_STAT_SAT n = 1 ∧ u.get Fld.FLT_EVT_F2 0 = 1) ∧
   (∀ (s : State) (t x : Nat) (k : Fin 4), (s.brkOf k).since = some x →
     ∃ u, exec (.brakeSaturation t (.pin k)) s = .next u ∧ u.get Fld.EDG_BRK_STATUS_SAT k = 1 ∧ u.get Fld.FLT_EVT_F2 0 = 1))

/-- Starts (R203, R204, R206, R219): a start by the owner, or an edge on the pin a core names, begins its sequence; one that finds the
core busy is dropped and counted in OVERRUN; the odd core of a pair ignores it; any other master's write is a bus error. A sequence keeps the
offsets and gains that it started with (R216), and the odd core of a pair also applies its gain trim (R212). A conversion's corrected result becomes its input's latest with its stamp, and is stored in the FIFO, or discarded and counted where
that is full; the last one of a sequence sets DONE and leaves the core IDLE, and one that drains leaves it OFF, or IDLE for a held
ENABLE (R202, R205, R207, R209, R217). The owner enables and disables a core (R217, R481) and moves its ring's read index (R208); a
read of ADC_FIFO_DATA pops one result and latches its stamp, the debug port pops nothing (R207, R3); enabling and disabling a leg's
sense channels, where a disable ends their pending latches as MISS (R215, R217, R219). -/
def Obligations.Conversions : Prop :=
  ((∀ (s : State) (a : Acc) (k : Fin 16), s.adcOwns a k = false →
     exec (.adcSoftwareStart a k) s = .next (s.touch a.t).busErr ∧ exec (.adcCoreEnable a k) s = .next (s.touch a.t).busErr ∧
     exec (.adcCoreDisable a k) s = .next (s.touch a.t).busErr ∧
     ∀ v, exec (.adcDmaRdWrite a k v) s = .next (s.touch a.t).busErr) ∧
   (∀ (s : State) (a : Acc) (k : Fin 16), s.adcOwns a k = true → ∃ u, exec (.adcSoftwareStart a k) s = .next u ∧
     u.resp.status = .ok ∧
     (s.adcLead k ≠ k → u.get Fld.ADC_CORE_STATUS_IGNSTART k = 1 ∧
       u.get Fld.ADC_CORE_STATUS_STATE k = s.get Fld.ADC_CORE_STATUS_STATE k) ∧
     (s.adcLead k = k → s.get Fld.ADC_CORE_STATUS_STATE k = adBusy → u.get Fld.ADC_CORE_STATUS_OVERRUN k = 1 ∧
       u.get Fld.ADC_CNT_OVERRUN k = satSucc Fld.ADC_CNT_OVERRUN.width (s.get Fld.ADC_CNT_OVERRUN k) ∧ u.adcOf k = s.adcOf k) ∧
     (s.adcLead k = k → s.get Fld.ADC_CORE_STATUS_STATE k = adIdle → s.get Fld.ADC_SEQ_LEN_LEN k ≠ 0 →
       u.get Fld.ADC_CORE_STATUS_STATE k = adBusy ∧ (u.adcOf k).seq = s.adcShadow k ∧ (u.adcOf k).trigAt = a.t ∧
       (u.adcOf k).own = s.adcCoreCorr k ∧ (u.adcOf k).ins = (s.adcShadow k).map (fun e => s.adcInCorr e.1) ∧
       u.adcInstant k = a.t + 256)) ∧
   (∀ (s : State) (t : Nat) (pin : Fin 4) (r : Bool), ∃ u, exec (.adctrgEdge t pin r) s = .next u ∧ ∀ k : Fin 16,
     (s.get Fld.ADC_CORE_CFG_TRIG k ≠ pin.val + 1 →
       u.get Fld.ADC_CORE_STATUS_STATE k = s.get Fld.ADC_CORE_STATUS_STATE k ∧ u.adcOf k = s.adcOf k) ∧
     (s.get Fld.ADC_CORE_CFG_TRIG k = pin.val + 1 → s.get Fld.ADC_CORE_CFG_EDGE k = (if r then 0 else 1) ∨
         s.get Fld.ADC_CORE_CFG_EDGE k = 2 → s.adcLead k = k → s.get Fld.ADC_CORE_STATUS_STATE k = adIdle →
       s.get Fld.ADC_SEQ_LEN_LEN k ≠ 0 → u.get Fld.ADC_CORE_STATUS_STATE k = adBusy ∧ (u.adcOf k).trigAt = t))) ∧
  ((∀ (s : State) (t : Nat) (k : Fin 16) (raw : BitVec 16) (sk g : Trim) (m : Option Bool) (e : Nat × Nat),
     s.get Fld.ADC_CORE_STATUS_STATE k = adBusy ∨ s.get Fld.ADC_CORE_STATUS_STATE k = adDrain →
     (s.adcOf k).seq.getD (s.adcOf k).ent (0, 1) = e →
     ∃ u, exec (.adcConversionDone t k raw sk g m) s = .next u ∧
       u.get Fld.ADC_IN_LAST_RESULT e.1 = (s.adcResult k raw.toNat).1 ∧
       u.get Fld.ADC_IN_STAMP_STAMP e.1 = s.adcInstant k % 4294967296 ∧
       (s.flag Fld.ADC_CORE_CFG_DMA k = false → (s.adcOf k).fifo.length < 64 → ∃ w, (u.adcOf k).fifo =
         (s.adcOf k).fifo ++ [(w, s.adcInstant k % 4294967296)] ∧ w % 65536 = (s.adcResult k raw.toNat).1) ∧
       (64 ≤ (s.adcOf k).fifo.length → (u.adcOf k).fifo = (s.adcOf k).fifo ∧ u.get Fld.ADC_CORE_STATUS_OVF k = 1 ∧
         u.get Fld.ADC_CNT_OVF k = satSucc Fld.ADC_CNT_OVF.width (s.get Fld.ADC_CNT_OVF k)) ∧
       (s.get Fld.ADC_CORE_STATUS_STATE k = adBusy → s.flag Fld.ADC_CORE_CFG_INTLV k = false → e.2 ≤ (s.adcOf k).rep + 1 →
         (s.adcOf k).seq.length ≤ (s.adcOf k).ent + 1 →
         u.get Fld.ADC_CORE_STATUS_STATE k = adIdle ∧ u.get Fld.ADC_CORE_STATUS_DONE k = 1) ∧
       (s.get Fld.ADC_CORE_STATUS_STATE k = adDrain →
         u.get Fld.ADC_CORE_STATUS_STATE k = (if (s.adcOf k).enHeld then adIdle else adOff) ∧
         (s.flag Fld.ADC_CORE_CFG_INTLV k = true →
           u.get Fld.ADC_CORE_STATUS_STATE (k.val + 1) = (if (s.adcOf k).enHeld then adIdle else adOff)))) ∧
   (∀ (core input : Int × Nat) (trim : Int) (raw : Nat), (adcCorrect core input trim raw).1 < 65536 ∧
     (core = (0, 0x10000) → input = (0, 0x10000) → trim = 0 → raw < 65536 → adcCorrect core input trim raw = (raw, false))) ∧
   (∀ (s : State) (k raw : Nat) (i : Int × Nat), (s.adcOf k).ins.getD (s.adcOf k).ent (0, 65536) = i →
     s.adcResult k raw = (if (s.adcOf k).odd then adcCorrect (s.adcOf k).other i (sgn 16 (s.get Fld.ADC_SKEW_GTRIM k)) raw
       else adcCorrect (s.adcOf k).own i 0 raw))) ∧
  ((∀ (s : State) (a : Acc) (k : Fin 16), s.adcOwns a k = true →
     (∃ u, exec (.adcCoreEnable a k) s = .next u ∧ u.resp.status = .ok ∧
       (s.adcLead k = k → s.get Fld.ADC_CORE_STATUS_STATE k = adOff → u.get Fld.ADC_CORE_STATUS_STATE k = adIdle) ∧
       (s.adcLead k = k → s.get Fld.ADC_CORE_STATUS_STATE k = adDrain → (u.adcOf k).enHeld = true ∧ s.onlyRegs u [])) ∧
     (∃ u, exec (.adcCoreDisable a k) s = .next u ∧ u.resp.status = .ok ∧
       (s.adcLead k = k → s.get Fld.ADC_CORE_STATUS_STATE k = adBusy → u.get Fld.ADC_CORE_STATUS_STATE k = adDrain) ∧
       (s.adcLead k = k → s.get Fld.ADC_CORE_STATUS_STATE k = adIdle → u.get Fld.ADC_CORE_STATUS_STATE k = adOff) ∧
       (s.adcLead k ≠ k → s.onlyRegs u [])) ∧
     (∀ v : Word, v.toNat < 4096 → ∃ u, exec (.adcDmaRdWrite a k v) s = .next u ∧ u.resp.status = .ok ∧
       u.get Fld.ADC_DMA_RD_INDEX k = v.toNat) ∧
     (∀ v : Word, 4096 ≤ v.toNat → exec (.adcDmaRdWrite a k v) s = .next (s.touch a.t).busErr)) ∧
   (∀ (s : State) (a : Acc) (k : Fin 16),
     ((s.adcOf k).fifo = [] → exec (.adcFifoDataRead a k) s = .next ((s.touch a.t).answer 0)) ∧
     (∀ r rest, (s.adcOf k).fifo = r :: rest → ∃ u, exec (.adcFifoDataRead a k) s = .next u ∧
       u.resp = ⟨.ok, BitVec.ofNat 32 r.1⟩ ∧ u.latched a.m .ADC_FIFO_STAMP k = r.2 ∧
       (u.adcOf k).fifo = (if a.m = .debug then r :: rest else rest))) ∧
   (∀ (s : State) (a : Acc) (g : Fin 32) (n : Fin 256),
     (s.legOwner a n = false → exec (.lsnEnable a g n) s = .next (s.touch a.t).busErr ∧
       exec (.lsnDisable a g n) s = .next (s.touch a.t).busErr) ∧
     (s.legOwner a n = true →
       (∃ u, exec (.lsnEnable a g n) s = .next u ∧ u.resp.status = .ok ∧ s.onlyRegs u [] ∧
         ∀ c ∈ s.lsnOfLeg n, (u.lsnOf c).off = false ∧ (u.lsnOf c).pend = (s.lsnOf c).pend) ∧
       (∃ u, exec (.lsnDisable a g n) s = .next u ∧ u.resp.status = .ok ∧
         ∀ c ∈ s.lsnOfLeg n, (u.lsnOf c).off = true ∧ (u.lsnOf c).pend = [] ∧
           ((s.lsnOf c).pend ≠ [] → u.get Fld.LSN_LATCHED_MISS c = 1)))))

/-- Edges of a comparator (R220, R221, R224, R227, R229): the output follows the comparison of the pins, or of one with the DAC, by more
than half the hysteresis, inverted by INV, while the comparator runs and is not held; an edge held for the filter is captured with the stamp of the raw edge and raises its source, as selected; the end of a
hold brings the level that stands, and the end of a test delivers no edge of it. The DAC and its ramp (R222, R223): the ramp starts
at the code in force and falls by SLOPE / 4,096 codes each system cycle down to 0, and ends at the source's off-edge; the owner's code takes
effect at once without a ramp and at the next ramp start with one. The owner's tests, ENABLE and DISABLE (R225, R229, R230): a test
suppresses the routes; a comparator that is enabled shows the comparison without an edge, and a disabled one reads 0, DRAINING for one system cycle; any other
master's write, or one to a claimed comparator, is a bus error. -/
def Obligations.Comparators : Prop :=
  (∀ (s : State) (t : Nat) (k : Fin 32),
     (∀ (v : PinVolts) (w : Bool), w = (s.cmpAbove k t v.pos v.neg != s.flag Fld.CMP_CFG_INV k) →
       ∃ u, exec (.comparatorRawEdge t k v) s = .next u ∧ (u.cmpOf k).raw = s.cmpAbove k t v.pos v.neg ∧
       (s.cmpRuns k = false ∨ (s.cmpOf k).held = true → s.onlyRegs u []) ∧
       (s.cmpRuns k = true → (s.cmpOf k).held = false → u.flag Fld.CMP_STATUS_OUT k = w ∧
         (s.flag Fld.CMP_STATUS_OUT k = w → (u.cmpOf k).edgeAt = (s.cmpOf k).edgeAt) ∧
         (s.flag Fld.CMP_STATUS_OUT k ≠ w →
           (u.cmpOf k).edgeAt = (if (s.cmpOf k).quiet || w == (s.cmpOf k).acc then none else some t)))) ∧
     (∀ pos neg dac half, s.get Fld.CMP_CFG_NEGSEL k = 0 → s.get Fld.CMP_TEST_TIE k = 0 → s.get Fld.CMP_TEST_SWAP k = 0 →
       dac = s.cmpDacAt k t * 1800000 → half = hystHalf (s.get Fld.CMP_CFG_HYST k) * 4194304 →
       (dac + half < 4194304 * pos → s.cmpAbove k t pos neg = true) ∧ (4194304 * pos + half < dac → s.cmpAbove k t pos neg = false) ∧
       (4194304 * pos ≤ dac + half → dac ≤ 4194304 * pos + half → s.cmpAbove k t pos neg = (s.cmpOf k).raw)) ∧
     ((s.cmpOf k).edgeAt = none ∨ (s.cmpOf k).held = true ∨ (s.cmpOf k).quiet = true ∨
       (∃ t0, (s.cmpOf k).edgeAt = some t0 ∧ t < t0 + 63 * (s.get Fld.CMP_CFG_FILT k - 1)) →
       exec (.comparatorEdgeAccepted t k) s = .next (s.touch t)) ∧
     (∀ t0, (s.cmpOf k).edgeAt = some t0 → (s.cmpOf k).held = false → (s.cmpOf k).quiet = false →
       t0 + 63 * (s.get Fld.CMP_CFG_FILT k - 1) ≤ t →
       ∃ u, exec (.comparatorEdgeAccepted t k) s = .next u ∧ (u.cmpOf k).edgeAt = none ∧
         (u.cmpOf k).acc = s.flag Fld.CMP_STATUS_OUT k ∧
         (edgeSel (s.get Fld.CMP_ROUTE_CAPEDGE k) (s.flag Fld.CMP_STATUS_OUT k) = true →
           u.get64 Fld.CMP_CAP_LO_STAMP Fld.CMP_CAP_HI_STAMP k = t0 % 2 ^ 64 ∧
           u.get Fld.CMP_CNT_EDGES k = satSucc Fld.CMP_CNT_EDGES.width (s.get Fld.CMP_CNT_EDGES k)) ∧
         (edgeSel (s.get Fld.CMP_ROUTE_CAPEDGE k) (s.flag Fld.CMP_STATUS_OUT k) = false →
           u.get Fld.CMP_CAP_LO_STAMP k = s.get Fld.CMP_CAP_LO_STAMP k ∧ u.get Fld.CMP_CNT_EDGES k = s.get Fld.CMP_CNT_EDGES k) ∧
         (edgeSel (s.get Fld.CMP_ROUTE_IRQEDGE k) (s.flag Fld.CMP_STATUS_OUT k) = true →
           u.bitOf Fld.IRQ_PEND_PEND ((608 + k.val) / 32) ((608 + k.val) % 32) = true ∧
           u.get (if s.flag Fld.CMP_STATUS_OUT k then Fld.CMP_STATUS_RISE else Fld.CMP_STATUS_FALL) k = 1)) ∧
     ((s.cmpOf k).held = true → ∃ u, exec (.cmpModeHoldEnd t k) s = .next u ∧ (u.cmpOf k).held = false ∧
       u.flag Fld.CMP_STATUS_OUT k = s.cmpWants k) ∧
     ((s.cmpOf k).held = false → exec (.cmpModeHoldEnd t k) s = .next (s.touch t)) ∧
     ((s.cmpOf k).quiet = true → s.get Fld.CMP_TEST_TIE k = 0 → s.get Fld.CMP_TEST_SWAP k = 0 →
       ∃ u, exec (.cmpTestRoutesResume t k) s = .next u ∧ (u.cmpOf k).quiet = false ∧ (u.cmpOf k).edgeAt = none ∧
         (u.cmpOf k).acc = s.flag Fld.CMP_STATUS_OUT k ∧ (s.cmpState k = cpTest →
           ((s.cmpOf k).on = true → u.cmpState k = cpRun) ∧ ((s.cmpOf k).on = false → u.cmpState k = cpOff))) ∧
     ((s.cmpOf k).quiet = false ∨ s.get Fld.CMP_TEST_TIE k ≠ 0 ∨ s.get Fld.CMP_TEST_SWAP k ≠ 0 →
       exec (.cmpTestRoutesResume t k) s = .next (s.touch t))) ∧
  (∀ (s : State) (k : Fin 32),
     (∀ t, s.get Fld.CMP_RAMP_RAMPSRC k = 63 ∨ s.cmpRuns k = false ∨ s.rampSource k t = false →
       exec (.slopeRampStart t k) s = .next (s.touch t)) ∧
     (∀ t, s.get Fld.CMP_RAMP_RAMPSRC k ≠ 63 → s.cmpRuns k = true → s.rampSource k t = true →
       ∃ u, exec (.slopeRampStart t k) s = .next u ∧ u.get Fld.CMP_STATUS_RAMPING k = 1 ∧ ∀ t', u.cmpDacAt k t' =
         4096 * s.get Fld.CMP_DAC_DAC k - s.get Fld.CMP_RAMP_SLOPE k * ((t' - t) / 64)) ∧
     (∀ t, s.rampSource k t = true → exec (.slopeRampEnd t k) s = .next (s.touch t)) ∧
     (∀ t, s.rampSource k t = false → ∃ u, exec (.slopeRampEnd t k) s = .next u ∧ u.get Fld.CMP_STATUS_RAMPING k = 0 ∧
       ∀ t', u.cmpDacAt k t' = 4096 * ((s.cmpOf k).oldDac.getD (s.get Fld.CMP_DAC_DAC k))) ∧
     (∀ (a : Acc) (v : Word), s.cmpOwns a k = false ∨ 1024 ≤ v.toNat →
       exec (.cmpDacWrite a k v) s = .next (s.touch a.t).busErr) ∧
     (∀ (a : Acc) (v : Word), s.cmpOwns a k = true → v.toNat < 1024 → ∃ u, exec (.cmpDacWrite a k v) s = .next u ∧
       u.resp.status = .ok ∧ u.get Fld.CMP_DAC_DAC k = v.toNat ∧ s.onlyRegs u [(Fld.CMP_DAC_DAC, k.val)] ∧
       (s.get Fld.CMP_RAMP_RAMPSRC k ≠ 63 → ∀ t', u.cmpDacAt k t' = s.cmpDacAt k t') ∧
       (s.get Fld.CMP_RAMP_RAMPSRC k = 63 → (s.cmpOf k).rampAt = none → ∀ t', u.cmpDacAt k t' = 4096 * v.toNat))) ∧
  (∀ (s : State) (a : Acc) (k : Fin 32),
     (s.cmpOwns a k = false → exec (.cmpEnable a k) s = .next (s.touch a.t).busErr ∧
       exec (.cmpDisable a k) s = .next (s.touch a.t).busErr ∧
       ∀ v, exec (.cmpTestWrite a k v) s = .next (s.touch a.t).busErr) ∧
     (s.cmpOwns a k = true →
       ((s.cmpOf k).on = false → ∃ u, exec (.cmpEnable a k) s = .next u ∧ u.resp.status = .ok ∧ (u.cmpOf k).on = true ∧
         u.flag Fld.CMP_STATUS_OUT k = s.cmpWants k ∧ (u.cmpOf k).acc = s.cmpWants k ∧ (u.cmpOf k).edgeAt = none ∧
         (s.get Fld.CMP_TEST_TIE k = 0 → s.get Fld.CMP_TEST_SWAP k = 0 → u.cmpState k = cpRun)) ∧
       ((s.cmpOf k).on = true → exec (.cmpEnable a k) s = .next (s.touch a.t).ok) ∧
       (s.cmpRuns k = true → ∃ u, exec (.cmpDisable a k) s = .next u ∧ u.resp.status = .ok ∧ u.cmpState k = cpDrain ∧
         (∀ t', beforeCycle u.tb t' = true → ({ u with tb := t' }).cmpState k = cpOff) ∧
         u.get Fld.CMP_STATUS_OUT k = 0 ∧ u.get Fld.CMP_STATUS_RAMPING k = 0 ∧ (u.cmpOf k).rampAt = none) ∧
       (s.cmpRuns k = false → exec (.cmpDisable a k) s = .next (s.touch a.t).ok) ∧
       (∃ u, exec (.cmpTestWrite a k 0) s = .next u ∧ u.resp.status = .ok ∧ u.get Fld.CMP_TEST_TIE k = 0 ∧
         u.get Fld.CMP_TEST_SWAP k = 0 ∧ u.cmpOf k = s.cmpOf k ∧
         s.onlyRegs u [(Fld.CMP_TEST_TIE, k.val), (Fld.CMP_TEST_SWAP, k.val)]) ∧
       (∀ v : Word, v.toNat < 8 → v ≠ 0#32 → ∃ u, exec (.cmpTestWrite a k v) s = .next u ∧ u.resp.status = .ok ∧
         u.get Fld.CMP_TEST_TIE k = v.toNat % 4 ∧ u.get Fld.CMP_TEST_SWAP k = v.toNat / 4 ∧ (u.cmpOf k).quiet = true ∧
         (u.cmpOf k).edgeAt = none ∧ u.cmpState k = cpTest)))

/-- The owner's commands to a grid-tie instance at kernel level (R59, R234, R254, R481): ENABLE starts the sequence, DISABLE drains what
flows, IMMEDIATE drops the contactor at once with the converter in its safe state, CLRTRIP ends TRIPPED; any other writer gets a bus
error. The start sequence (R233, R234, R250): an instance in WAIT closes its contactor once its grid has been in band for RECON
seconds, its token is as TOKREQ asks, its tracker is in TRACK and it reconnects of itself or by RECONNECT, and not before; a
DEAD token then declares islanding at once (R243); after CLOSE_MS it is in RAMP with references of 0 and its converter enabled, or in
RIDE where an excursion began while it closed (R248). -/
def Obligations.GridStart : Prop :=
  (∀ (s : State) (a : Acc) (i : Fin 4),
     (s.hasRec 0x0070 i = false ∨ s.fnOwns a (fnGrid i) true = false →
       exec (.grdEnable a i) s = .next (s.touch a.t).busErr ∧ exec (.grdDisable a i) s = .next (s.touch a.t).busErr ∧
       exec (.grdDisableImmediate a i) s = .next (s.touch a.t).busErr ∧
       exec (.grdReconnect a i) s = .next (s.touch a.t).busErr ∧ exec (.grdClrtrip a i) s = .next (s.touch a.t).busErr) ∧
     (s.fnOn (fnGrid i) = false → exec (.grdEnable a i) s = .next (s.touch a.t).busErr) ∧
     (s.hasRec 0x0070 i = true → s.fnOwns a (fnGrid i) true = true →
       (s.fnOn (fnGrid i) = true → s.armed (s.fnOwner (fnGrid i)) = true → s.gridSt i = gdOff →
         ∃ u, exec (.grdEnable a i) s = .next u ∧ u.resp.status = .ok ∧ u.gridSt i = gdWait ∧
           u.bitOf Fld.IRQ_PEND_PEND ((640 + 4 * i.val) / 32) ((640 + 4 * i.val) % 32) = true) ∧
       (∃ u, exec (.grdDisable a i) s = .next u ∧ u.resp.status = .ok ∧ (s.gridSt i = gdWait → u.gridSt i = gdDraining) ∧
         (gdTiedState (s.gridSt i) = true → u.gridSt i = gdDraining) ∧
         (s.gridSt i = gdTripped → u.gridSt i = gdTripped ∧ (u.grdOf i).offPend = true)) ∧
       (∃ u, exec (.grdDisableImmediate a i) s = .next u ∧ u.resp.status = .ok ∧
         (gdTiedState (s.gridSt i) = true → u.gridSt i = gdOff ∧ (u.pinOf (s.get Fld.GRD_CFG_CPIN i)).level = false ∧
           (s.cnvState (s.get Fld.GRD_CFG_CONV i) = cvRun → u.cnvState (s.get Fld.GRD_CFG_CONV i) = cvSafe))) ∧
       (∃ u, exec (.grdClrtrip a i) s = .next u ∧ u.resp.status = .ok ∧ (s.gridSt i = gdTripped →
         u.get Fld.GRD_STATUS_CAUSE i = 0 ∧ u.gridSt i = (if (s.grdOf i).offPend then gdOff else gdWait)) ∧
         (s.gridSt i ≠ gdTripped → s.onlyRegs u [])) ∧
       (s.gridSt i ≠ gdWait → exec (.grdReconnect a i) s = .next (s.touch a.t).ok))) ∧
  ((∀ (s : State) (t b : Nat) (i : Fin 4), s.gridSt i = gdWait → (s.grdOf i).bandSince = some b →
     s.trkState (s.get Fld.GRD_CFG_TRACKER i) = tkTrack →
     s.flag Fld.GRD_CFG_TOKREQ i = false ∨ s.get Fld.GRD_STATUS_TOKEN i = 1 →
     (b + s.get Fld.GRD_RECON_RECON i * ftuSec ≤ t → s.flag Fld.GRD_CFG_AUTORECON i = true ∨ (s.grdOf i).reconnect = true →
       ∃ u, exec (.gridReconElapsed t i) s = .next u ∧
         (s.get Fld.GRD_STATUS_TOKEN i ≠ 2 → u.gridSt i = gdClosing ∧ (u.grdOf i).cpinSince = some t ∧
           (u.pinOf (s.get Fld.GRD_CFG_CPIN i)).level = true ∧ (u.pinOf (s.get Fld.GRD_CFG_CPIN i)).out = true) ∧
         (s.get Fld.GRD_STATUS_TOKEN i = 2 → s.flag Fld.GRD_CFG_TOKEN i = true → s.flag Fld.GRD_CFG_ISLEN i = true →
           u.gridSt i = gdTripped ∧ u.get Fld.GRD_STATUS_DECLARE i = 1 ∧ u.get Fld.GRD_ISL_RESP_EVID i = 2)) ∧
     (t < b + s.get Fld.GRD_RECON_RECON i * ftuSec → exec (.gridReconElapsed t i) s = .next (s.touch t)) ∧
     (∀ a : Acc, s.hasRec 0x0070 i = true → s.fnOwns a (fnGrid i) true = true → s.get Fld.GRD_STATUS_TOKEN i ≠ 2 →
       ∃ u, exec (.grdReconnect a i) s = .next u ∧ u.resp.status = .ok ∧ (u.grdOf i).reconnect = true ∧
         u.gridSt i = (if b + s.get Fld.GRD_RECON_RECON i * ftuSec ≤ a.t then gdClosing else gdWait))) ∧
   (∀ (s : State) (t : Nat) (i : Fin 4), s.gridSt i ≠ gdWait ∨ (s.grdOf i).bandSince = none ∨
       s.trkState (s.get Fld.GRD_CFG_TRACKER i) ≠ tkTrack ∨
       (s.flag Fld.GRD_CFG_TOKREQ i = true ∧ s.get Fld.GRD_STATUS_TOKEN i ≠ 1) ∨
       (s.flag Fld.GRD_CFG_AUTORECON i = false ∧ (s.grdOf i).reconnect = false) →
     exec (.gridReconElapsed t i) s = .next (s.touch t)) ∧
   (∀ (s : State) (t b : Nat) (i : Fin 4), s.gridSt i = gdClosing → (s.grdOf i).cpinSince = some b →
     (t < b + s.get Fld.GRD_RECON_CLOSE_MS i * ftuMs → exec (.gridCloseDone t i) s = .next (s.touch t)) ∧
     (b + s.get Fld.GRD_RECON_CLOSE_MS i * ftuMs ≤ t → ∃ u, exec (.gridCloseDone t i) s = .next u ∧
       ((s.grdOf i).vExc = none → (s.grdOf i).fExc = none → u.gridSt i = gdRamp) ∧
       ((s.grdOf i).vExc.isSome = true ∨ (s.grdOf i).fExc.isSome = true → u.gridSt i = gdRide) ∧
       (u.grdOf i).id = 0 ∧ (u.grdOf i).iq = 0 ∧
       (∀ c, s.get Fld.GRD_CFG_CONV i = c → s.cnvState c = cvOff → s.rank1 c = false → s.rank2 c = false →
         u.cnvState c = cvWait))))

/-- Excursions (R237, R239, R244): a tied instance whose voltage leaves its band rides on its curves from RAMP or TIED, trips with CAUSE
RIDE past any of them and with CAUSE WINDOW where it has none; a trip drops the contactor and latches F2 against the converter; in band for
20 ms, it returns from RIDE to RAMP. Nudges, tokens and the end of a drain (R241, R242, R254): a nudge is due only in RAMP or TIED
without an excursion; a LIVE token that has aged is none; after 3 boundaries with both references at 0, or with the converter not in
RUN, the contactor opens and the instance is OFF. -/
def Obligations.GridExcursions : Prop :=
  ((∀ (s : State) (t v : Nat) (f : Int) (i : Fin 4), s.gridSt i = gdTied → (s.grdOf i).vExc = none → (s.grdOf i).fExc = none →
     sgn 16 (s.get Fld.GRD_FBAND_FNMIN i) * 10 ≤ f → f ≤ sgn 16 (s.get Fld.GRD_FBAND_FNMAX i) * 10 →
     ∃ u, exec (.gridRideTrip t i v f) s = .next u ∧
       (s.get Fld.GRD_VBAND_VNMIN i ≤ v → v ≤ s.get Fld.GRD_VBAND_VNMAX i → u.gridSt i = gdTied ∧ s.onlyRegs u []) ∧
       (v < s.get Fld.GRD_VBAND_VNMIN i → s.rideCurves i 0 ≠ [] → (∀ pts ∈ s.rideCurves i 0, rideTrips pts 1 0 v true = false) →
         u.gridSt i = gdRide ∧ u.get Fld.GRD_STATUS_EXC i = 1 ∧ (u.grdOf i).vExc = some t ∧
         u.get Fld.GRD_RIDE_CNT_RIDES i = satSucc Fld.GRD_RIDE_CNT_RIDES.width (s.get Fld.GRD_RIDE_CNT_RIDES i)) ∧
       (v < s.get Fld.GRD_VBAND_VNMIN i → (∃ pts ∈ s.rideCurves i 0, rideTrips pts 1 0 v true = true) →
         u.gridSt i = gdTripped ∧ u.get Fld.GRD_STATUS_CAUSE i = 2 ∧ (u.pinOf (s.get Fld.GRD_CFG_CPIN i)).level = false ∧
         u.get Fld.FLT_CNV_F2 (s.get Fld.GRD_CFG_CONV i) = 1) ∧
       (v < s.get Fld.GRD_VBAND_VNMIN i → s.rideCurves i 0 = [] → s.flag Fld.GRD_CFG_ISLEN i = false →
         u.gridSt i = gdTripped ∧ u.get Fld.GRD_STATUS_CAUSE i = 4 ∧ (u.pinOf (s.get Fld.GRD_CFG_CPIN i)).level = false)) ∧
   (∀ (s : State) (t v : Nat) (f : Int) (i : Fin 4), gdTiedState (s.gridSt i) = false →
     ∃ u, exec (.gridRideTrip t i v f) s = .next u ∧ s.onlyRegs u []) ∧
   (∀ (s : State) (t x : Nat) (i : Fin 4), (s.grdOf i).vExc = some x → s.vIn i = true → s.fIn i = true →
     (t < (s.grdOf i).lastOut + 20 * ftuMs → exec (.gridExcursionEnd t i) s = .next (s.touch t)) ∧
     ((s.grdOf i).lastOut + 20 * ftuMs ≤ t → ∃ u, exec (.gridExcursionEnd t i) s = .next u ∧
       u.get Fld.GRD_STATUS_EXC i = 0 ∧ (u.grdOf i).vExc = none ∧ (u.grdOf i).fExc = none ∧
       (s.gridSt i = gdRide → u.gridSt i = gdRamp ∧ u.get Fld.GRD_STATUS_RIDEOUT i = 1)))) ∧
  (∀ (s : State) (t : Nat) (i : Fin 4),
     (s.flag Fld.GRD_CFG_ACTEN i = true → s.gridSt i = gdTied ∨ s.gridSt i = gdRamp → (s.grdOf i).vExc = none →
       (s.grdOf i).fExc = none → ∃ u, exec (.nudgeStart t i) s = .next u ∧ u.grdOf i = { s.grdOf i with due := true } ∧
         s.onlyRegs u []) ∧
     (s.flag Fld.GRD_CFG_ACTEN i = false ∨ (s.gridSt i ≠ gdTied ∧ s.gridSt i ≠ gdRamp) ∨ (s.grdOf i).vExc.isSome = true ∨
       (s.grdOf i).fExc.isSome = true → exec (.nudgeStart t i) s = .next (s.touch t)) ∧
     (s.get Fld.GRD_STATUS_TOKEN i = 1 → ∃ u, exec (.tokenAgeExpire t i) s = .next u ∧ u.get Fld.GRD_STATUS_TOKEN i = 0 ∧
       (u.grdOf i).tokAt = none) ∧
     (s.get Fld.GRD_STATUS_TOKEN i ≠ 1 → exec (.tokenAgeExpire t i) s = .next (s.touch t)) ∧
     (s.gridSt i = gdDraining → 3 ≤ (s.grdOf i).zero ∨ s.cnvState (s.get Fld.GRD_CFG_CONV i) ≠ cvRun →
       (s.grdOf i).enHeld = false → ∃ u, exec (.gridDrainDone t i) s = .next u ∧ u.gridSt i = gdOff ∧
         (u.pinOf (s.get Fld.GRD_CFG_CPIN i)).level = false ∧
         (s.cnvState (s.get Fld.GRD_CFG_CONV i) = cvRun → (s.convOf (s.get Fld.GRD_CFG_CONV i)).force = 0 →
           u.cnvState (s.get Fld.GRD_CFG_CONV i) = cvDraining)) ∧
     (s.gridSt i ≠ gdDraining ∨ ((s.grdOf i).zero < 3 ∧ s.cnvState (s.get Fld.GRD_CFG_CONV i) = cvRun) →
       exec (.gridDrainDone t i) s = .next (s.touch t)))

/-- One step of an MPPT engine with its converter in RUN (R245, R253): samples older than 1 ms bring HOLD; else p is the mean of the
products held at the step's sampling instants, which the command names (log entry 45), and STEP halves down to SMIN on a
small change of p or a fall, which also turns the direction, doubles up to SMAX after three rises, and VREF moves by it within VMIN
to VMAX. MPPT engines (R245 to R247, R254): ENABLE and SCAN by the owner, and the schedule at its times, start a scan of 64 steps from VMAX; a
dwell moves to the next step, and the last leaves TRACK at the best voltage, or DARK where the best power lies below PDEAD; DISABLE
drains and IMMEDIATE is OFF at VMAX; a request within 60 s of the last scan is dropped. -/
def Obligations.MpptEngines : Prop :=
  (∀ (s : State) (t : Nat) (m : Fin 16) (t0 : Nat) (samples : List Nat) (p : Int), p = s.mpptPower m t0 t samples →
     s.mpptRuns m = true → s.mpptSt m = mpTrack → (s.mpptOf m).again = false →
     (s.mpptStale m t = true → ∃ u, exec (.mpptStep t m t0 samples) s = .next u ∧ u.mpptSt m = mpHold ∧ u.get Fld.MPPT_STATUS_STALE m = 1 ∧
       u.get Fld.MPPT_VREF_VREF m = s.get Fld.MPPT_VREF_VREF m) ∧
     (s.mpptStale m t = false → s.get Fld.MPPT_DROP_DROP m = 0 → s.Inv → s.vMin m ≤ s.vMax m →
       ∃ u, exec (.mpptStep t m t0 samples) s = .next u ∧
       u.mpptSt m = mpTrack ∧ s.vMin m ≤ u.get Fld.MPPT_VREF_VREF m ∧ u.get Fld.MPPT_VREF_VREF m ≤ s.vMax m ∧
       (u.mpptOf m).pPrev = p ∧
       ((p - (s.mpptOf m).pPrev).natAbs < s.get Fld.MPPT_PDEAD_PDEAD m →
         u.flag Fld.MPPT_STATUS_DIR m = s.flag Fld.MPPT_STATUS_DIR m ∧
         u.get Fld.MPPT_VREF_STEP m = Nat.max (s.get Fld.MPPT_VREF_STEP m / 2) (s.get Fld.MPPT_SLIM_SMIN m)) ∧
       (s.get Fld.MPPT_PDEAD_PDEAD m ≤ (p - (s.mpptOf m).pPrev).natAbs → p < (s.mpptOf m).pPrev →
         u.flag Fld.MPPT_STATUS_DIR m = !s.flag Fld.MPPT_STATUS_DIR m ∧ (u.mpptOf m).same = 0 ∧
         u.get Fld.MPPT_VREF_STEP m = Nat.max (s.get Fld.MPPT_VREF_STEP m / 2) (s.get Fld.MPPT_SLIM_SMIN m)) ∧
       (s.get Fld.MPPT_PDEAD_PDEAD m ≤ (p - (s.mpptOf m).pPrev).natAbs → (s.mpptOf m).pPrev ≤ p → (s.mpptOf m).same = 2 →
         u.flag Fld.MPPT_STATUS_DIR m = s.flag Fld.MPPT_STATUS_DIR m ∧ (u.mpptOf m).same = 0 ∧
         u.get Fld.MPPT_VREF_STEP m = Nat.min (2 * s.get Fld.MPPT_VREF_STEP m) (s.get Fld.MPPT_SLIM_SMAX m)))) ∧
  (∀ (s : State) (m t0 t1 : Nat) (samples : List Nat) (ps : List Int) (p : Int), ps ≠ [] →
     ps = (samples.filter (fun u => decide (t0 ≤ u) && decide (u ≤ t1))).filterMap (fun u => prodAt u (s.mpptOf m).prods) →
     ps.foldl (· + ·) 0 = p * (65536 * ps.length : Nat) → s.mpptPower m t0 t1 samples = p) ∧
  (∀ (s : State) (m t : Nat), s.mpptStale m t = false ↔
     ∃ v i, (s.mpptOf m).vinAt = some v ∧ (s.mpptOf m).ichAt = some i ∧ t ≤ v + ftuMs ∧ t ≤ i + ftuMs) ∧
  ((∀ (s : State) (a : Acc) (m : Fin 16), s.hasRec 0x0072 m = false ∨ s.fnOwns a (fnMppt m) true = false →
     exec (.mpptScanCmd a m) s = .next (s.touch a.t).busErr ∧ exec (.mpptEnable a m) s = .next (s.touch a.t).busErr ∧
     exec (.mpptDisable a m) s = .next (s.touch a.t).busErr ∧
     exec (.mpptDisableImmediate a m) s = .next (s.touch a.t).busErr) ∧
   (∀ (s : State) (a : Acc) (m : Fin 16), s.hasRec 0x0072 m = true → s.fnOwns a (fnMppt m) true = true →
     (s.fnOn (fnMppt m) = true → s.armed (s.fnOwner (fnMppt m)) = true → s.mpptSt m = mpOff → s.mpptRuns m = true →
       ∃ u, exec (.mpptEnable a m) s = .next u ∧ u.resp.status = .ok ∧ u.mpptSt m = mpScan ∧ (u.mpptOf m).idx = 1 ∧
         (u.mpptOf m).lastScan = some a.t ∧ u.get Fld.MPPT_STATUS_DIR m = 1) ∧
     (s.scanSpaced m a.t = false → exec (.mpptScanCmd a m) s = .next (s.touch a.t).ok) ∧
     (s.scanSpaced m a.t = true → s.mpptSt m = mpTrack → s.mpptRuns m = true →
       ∃ u, exec (.mpptScanCmd a m) s = .next u ∧ u.resp.status = .ok ∧ u.mpptSt m = mpScan ∧ (u.mpptOf m).idx = 1) ∧
     (∃ u, exec (.mpptDisable a m) s = .next u ∧ u.resp.status = .ok ∧
       u.mpptSt m = (if s.mpptSt m = mpOff then mpOff else mpDrain)) ∧
     (s.mpptSt m ≠ mpOff → ∃ u, exec (.mpptDisableImmediate a m) s = .next u ∧ u.resp.status = .ok ∧ u.mpptSt m = mpOff ∧
       u.get Fld.MPPT_VREF_VREF m = s.vMax m % 2 ^ Fld.MPPT_VREF_VREF.width)) ∧
   (∀ (s : State) (t : Nat) (m : Fin 16), s.scanDue m t = false ∨ (s.mpptSt m ≠ mpTrack ∧ s.mpptSt m ≠ mpDark) →
     exec (.mpptScheduledScan t m) s = .next (s.touch t)) ∧
   (∀ (s : State) (t : Nat) (m : Fin 16), s.mpptSt m = mpTrack ∨ s.mpptSt m = mpDark → s.scanDue m t = true →
     s.mpptRuns m = true → ∃ u, exec (.mpptScheduledScan t m) s = .next u ∧ u.mpptSt m = mpScan ∧ (u.mpptOf m).idx = 1 ∧
       (u.mpptOf m).lastScan = some t) ∧
   (∀ (s : State) (t : Nat) (m : Fin 16) (samples : List Nat), s.mpptSt m = mpScan → s.mpptRuns m = true →
     s.mpptStale m t = true → ∃ u, exec (.mpptScanDwellEnd t m samples) s = .next u ∧ u.mpptSt m = mpHold ∧
       u.get Fld.MPPT_VREF_VREF m = s.get Fld.MPPT_VREF_VREF m) ∧
   (∀ (s : State) (t : Nat) (m : Fin 16) (samples : List Nat) (p : Int), s.mpptSt m = mpScan → s.mpptRuns m = true →
     s.mpptStale m t = false →
     p = s.mpptPower m ((s.mpptOf m).dwellAt + s.get Fld.MPPT_TIM_DWELL m * ftuMs / 2) t samples →
     ∃ u, exec (.mpptScanDwellEnd t m samples) s = .next u ∧
       ((s.mpptOf m).idx < 64 → u.mpptSt m = mpScan ∧ (u.mpptOf m).idx = (s.mpptOf m).idx + 1) ∧
       (64 ≤ (s.mpptOf m).idx → p ≤ (s.mpptOf m).best → u.get Fld.MPPT_STATUS_SCANDONE m = 1 ∧
         ((s.mpptOf m).best < s.get Fld.MPPT_PDEAD_PDEAD m → u.mpptSt m = mpDark ∧ u.get Fld.MPPT_STATUS_DARK m = 1) ∧
         (s.get Fld.MPPT_PDEAD_PDEAD m ≤ (s.mpptOf m).best → u.mpptSt m = mpTrack ∧
           u.get Fld.MPPT_VREF_VREF m = (s.mpptOf m).bestV % 2 ^ Fld.MPPT_VREF_VREF.width ∧
           u.get Fld.MPPT_STATUS_DIR m = 1)) ∧
       (64 ≤ (s.mpptOf m).idx → (s.mpptOf m).best < p →
         u.get Fld.MPPT_VMPP_VMPP m = s.get Fld.MPPT_VREF_VREF m % 2 ^ Fld.MPPT_VMPP_VMPP.width)))

/-- Every update writes each enabled axis (R258, R261, R264): one at rest or ramping takes the state that the choice of R261 gives; a
winch past its payout limits faults with r and A at 0 and an F2 that latches against its converter; an axis that drains and stands
at 0 is OFF with its set-point 0 (R266, R270); one that is OFF or in FAULT does not change. The owner's commands to an axis at
kernel level (R59, R264, R266, R270): ENABLE starts it at rest, DISABLE lets it drain, IMMEDIATE sets r and A to 0 with its
converter in its safe state, CLRFLT ends FAULT once payout is inside the limits; any other writer gets a bus error. -/
def Obligations.AxisControl : Prop :=
  (∀ (s : State) (t : Nat), ∃ u, exec (.axisUpdate t) s = .next u ∧ ∀ x : Fin 32,
     (s.hasRec 0x0073 x = false ∨ s.axsSt x = axOff ∨ s.axsSt x = axFault → u.axsSt x = s.axsSt x ∧ u.axsOf x = s.axsOf x) ∧
     (s.hasRec 0x0073 x = true → s.axsSt x ≠ axOff → s.axsSt x ≠ axFault → s.axsPast x = true →
       u.axsSt x = axFault ∧ (u.axsOf x).r = 0 ∧ (u.axsOf x).a = 0 ∧ u.get Fld.AXS_OUT_R x = 0 ∧
       u.get Fld.AXS_STATUS_OVERRUN x = 1 ∧ u.get Fld.FLT_CNV_F2 (s.get Fld.AXS_CFG_CONV x) = 1) ∧
     (s.hasRec 0x0073 x = true → s.axsPast x = false → (s.axsOf x).stopped = false →
       (s.axsSt x = axRun ∨ s.axsSt x = axReversing ∨ s.axsSt x = axDwell) →
       u.axsSt x = (axsChoose (s.axsOf x).r (s.axsTarget x).1 (s.axsOf x).dir
         (decide (t < (s.axsOf x).tZero + s.get Fld.AXS_ZDWELL_ZDWELL x * ftuMs))).2 ∧
       u.get Fld.AXS_STAMP_STAMP x = t % 2 ^ Fld.AXS_STAMP_STAMP.width) ∧
     (s.hasRec 0x0073 x = true → s.axsPast x = false → (s.axsOf x).stopped = false → s.axsSt x = axDrain →
       (s.axsOf x).r = 0 → (s.axsOf x).a = 0 → (s.axsOf x).enHeld = false → u.axsSt x = axOff ∧ u.get Fld.AXS_SP_SP x = 0)) ∧
  (∀ (s : State) (a : Acc) (x : Fin 32),
     (s.hasRec 0x0073 x = false ∨ s.fnOwns a (fnAxis x) true = false →
       exec (.axsEnable a x) s = .next (s.touch a.t).busErr ∧ exec (.axsDisable a x) s = .next (s.touch a.t).busErr ∧
       exec (.axsDisableImmediate a x) s = .next (s.touch a.t).busErr ∧
       exec (.axsClrflt a x) s = .next (s.touch a.t).busErr) ∧
     (s.fnOn (fnAxis x) = false → exec (.axsEnable a x) s = .next (s.touch a.t).busErr) ∧
     (s.hasRec 0x0073 x = true → s.fnOwns a (fnAxis x) true = true →
       (s.fnOn (fnAxis x) = true → s.armed (s.fnOwner (fnAxis x)) = true → s.axsSt x = axOff → (s.axsOf x).resume = none →
         ∃ u, exec (.axsEnable a x) s = .next u ∧ u.resp.status = .ok ∧ u.axsSt x = axRun ∧ (u.axsOf x).r = 0 ∧
           (u.axsOf x).a = 0 ∧ (u.axsOf x).dir = 0 ∧ s.onlyRegs u [(Fld.AXS_STATUS_STATE, x.val)]) ∧
       (∃ u, exec (.axsDisable a x) s = .next u ∧ u.resp.status = .ok ∧
         (s.axsSt x = axRun ∨ s.axsSt x = axReversing ∨ s.axsSt x = axDwell → u.axsSt x = axDrain ∧
           (u.axsOf x).ticket = none ∧ (u.axsOf x).r = (s.axsOf x).r)) ∧
       (∃ u, exec (.axsDisableImmediate a x) s = .next u ∧ u.resp.status = .ok ∧
         (s.axsSt x ≠ axOff → s.axsSt x ≠ axFault → u.axsSt x = axOff ∧ (u.axsOf x).r = 0 ∧ (u.axsOf x).a = 0 ∧
           u.get Fld.AXS_SP_SP x = 0 ∧ (s.cnvState (s.get Fld.AXS_CFG_CONV x) = cvRun →
             u.cnvState (s.get Fld.AXS_CFG_CONV x) = cvSafe))) ∧
       (s.axsSt x = axFault → s.limLo x * axUnit ≤ s.axsPayout x → s.axsPayout x ≤ s.limHi x * axUnit →
         ∃ u, exec (.axsClrflt a x) s = .next u ∧ u.resp.status = .ok ∧ u.axsSt x = axOff ∧ u.get Fld.AXS_SP_SP x = 0) ∧
       (s.axsSt x ≠ axFault ∨ s.axsPayout x < s.limLo x * axUnit ∨ s.limHi x * axUnit < s.axsPayout x →
         exec (.axsClrflt a x) s = .next (s.touch a.t).ok)))

/-- The law of R260: from |A| within RATE, an update leaves |A| within RATE and changes it by no more than JERK × dt, but for the
rounding to its unit, unless r lands; a landing puts r on the target; r moving toward the target does not pass it; and the target of
R261 never lies across 0 from r. -/
def Obligations.AxisLawHoldsLimits : Prop :=
  (∀ (free : BitVec 64) (rate jerk : Nat) (r a tgt : Int), a.natAbs ≤ rate * 4294967296 →
    let m := axsLaw free rate jerk r a tgt
    m.2.1.natAbs ≤ rate * 4294967296 ∧
    (m.2.2 = true → m.1 = tgt ∧ m.2.1 = 0) ∧
    (m.2.2 = false → (m.2.1 - a).natAbs * 10000 ≤ jerk * 4294967296 + 10000) ∧
    (signOf m.2.1 = signOf (tgt - r) → 0 ≤ (tgt - m.1) * (tgt - r))) ∧
  (∀ (r sp dir : Int) (dwell : Bool), r ≠ 0 → 0 ≤ (axsChoose r sp dir dwell).1 * r)

/-- Auxiliary regulators (R274 to R283, R285): a running period drives AUXDRV, holds u within the fold-back limit and gives it to the
claimed comparator; its on-time ends where that comparator's output is 1 after blanking or DMAX % of the period has passed, and not
before; a lone soft start is in RUN once TSS has passed; a failed check, or 2 ms below 30 % in RUN, enters HICCUP, and
on the eighth failed attempt SHORT with an F2; after 64 ms the next attempt starts; the owner enables, disables and clears whole
groups. -/
def Obligations.AuxRegulators : Prop :=
  (∀ (s : State) (t : Nat) (k : Fin 8) (fb : Fin 4096),
    (s.auxSt k = auOff ∨ s.auxSt k = auHiccup ∨ s.auxSt k = auShort → ∃ u, exec (.auxPeriodStart t k fb) s = .next u ∧
      u.get Fld.AUX_MEAS_FB k = fb ∧ s.onlyRegs u [(Fld.AUX_MEAS_FB, k.val)]) ∧
    (s.Inv → s.auxSt k = auSoft ∨ s.auxSt k = auRun ∨ s.auxSt k = auHold → ∃ u, exec (.auxPeriodStart t k fb) s = .next u ∧
      u.get Fld.AUX_MEAS_FB k = fb ∧ (u.auxOf k).drv = true ∧ u.get Fld.AUX_MEAS_U k ≤ u.get Fld.AUX_MEAS_ILIM k ∧
      u.get Fld.AUX_MEAS_ILIM k ≤ s.get Fld.AUX_LIM_IMAX k ∧
      u.get Fld.CMP_DAC_DAC (s.get Fld.AUX_CFG_CMP k) = u.get Fld.AUX_MEAS_U k) ∧
    (s.auxSt k = auSoft → (s.auxOf k).own = none → s.get Fld.AUX_CFG_TRACK k = 0 → s.auxGroup k = [k.val] →
      0 < s.get Fld.AUX_TGT_VTGT k → ∃ u, exec (.auxPeriodStart t k fb) s = .next u ∧ u.auxSt k =
        (if s.get Fld.AUX_SS_TSS k * 2048000 ≤ (s.auxOf k).prog + (t - (s.auxOf k).progAt) then auRun else auSoft)) ∧
    ((s.auxOf k).drv = true → ((s.flag Fld.CMP_STATUS_OUT (s.get Fld.AUX_CFG_CMP k) = true ∧ s.auxUnblanked k t = true) ∨
        s.get Fld.AUX_SS_DMAX k * s.get Fld.AUX_PERIOD_PERIOD k ≤ 100 * (t - (s.auxOf k).onAt)) →
      ∃ u, exec (.auxOntimeEnd t k) s = .next u ∧ u.auxOf k = { s.auxOf k with drv := false } ∧
        ∀ j, j < 8 → j ≠ k.val → u.auxOf j = s.auxOf j) ∧
    ((s.auxOf k).drv = false ∨ ((s.flag Fld.CMP_STATUS_OUT (s.get Fld.AUX_CFG_CMP k) = false ∨ s.auxUnblanked k t = false) ∧
        100 * (t - (s.auxOf k).onAt) < s.get Fld.AUX_SS_DMAX k * s.get Fld.AUX_PERIOD_PERIOD k) →
      exec (.auxOntimeEnd t k) s = .next (s.touch t))) ∧
  (∀ (s : State) (t : Nat) (k : Fin 8),
    ((s.auxOf k).check = true → s.auxSt k = auSoft ∨ s.auxSt k = auRun →
      (s.auxOf k).attemptAt + s.get Fld.AUX_SS_TSS (s.auxLead k) * 2048000 + 2 * ftuMs ≤ t →
      (3 * s.auxVtgt k ≤ 10 * s.get Fld.AUX_MEAS_FB k → ∃ u, exec (.auxShortCheck t k) s = .next u ∧
        u.auxOf k = { s.auxOf k with check := false } ∧ s.onlyRegs u []) ∧
      (10 * s.get Fld.AUX_MEAS_FB k < 3 * s.auxVtgt k → s.auxInnocent k = false →
        ∃ u, exec (.auxShortCheck t k) s = .next u ∧ (u.auxOf k).drv = false ∧
          (s.get Fld.AUX_STATUS_RETRY k ≠ 7 → u.auxSt k = auHiccup ∧ (u.auxOf k).hiccAt = t ∧
            u.get Fld.AUX_CNT_HICCUPS k = satSucc Fld.AUX_CNT_HICCUPS.width (s.get Fld.AUX_CNT_HICCUPS k)) ∧
          (s.get Fld.AUX_STATUS_RETRY k = 7 → u.auxSt k = auShort ∧ u.flag Fld.AUX_STATUS_REG_SHORT k = true ∧
            u.get Fld.FLT_EVT_F2 0 = 1 ∧ u.get Fld.AUX_CNT_HICCUPS k = s.get Fld.AUX_CNT_HICCUPS k ∧
            (s.pow.st = .start → u.pow.held = true)))) ∧
    ((s.auxOf k).check = false ∨ t < (s.auxOf k).attemptAt + s.get Fld.AUX_SS_TSS (s.auxLead k) * 2048000 + 2 * ftuMs →
      exec (.auxShortCheck t k) s = .next (s.touch t)) ∧
    (∀ x, (s.auxOf k).lowSince = some x → s.auxSt k = auRun → x + 2 * ftuMs ≤ t → s.get Fld.AUX_STATUS_RETRY k ≠ 7 →
      ∃ u, exec (.auxRunShort t k) s = .next u ∧ u.auxSt k = auHiccup ∧ (u.auxOf k).drv = false ∧ (u.auxOf k).hiccAt = t) ∧
    ((s.auxOf k).lowSince = none ∨ s.auxSt k ≠ auRun → exec (.auxRunShort t k) s = .next (s.touch t)) ∧
    (s.auxSt k = auHiccup → (s.auxOf k).hiccAt + 64 * ftuMs ≤ t → s.get Fld.AUX_STATUS_RETRY k < 7 →
      ∃ u, exec (.auxHiccupEnd t k) s = .next u ∧ u.auxSt k = auSoft ∧ (u.auxOf k).own = some 0 ∧
        (u.auxOf k).attemptAt = t ∧ u.get Fld.AUX_STATUS_RETRY k = s.get Fld.AUX_STATUS_RETRY k + 1) ∧
    (s.auxSt k ≠ auHiccup ∨ t < (s.auxOf k).hiccAt + 64 * ftuMs → exec (.auxHiccupEnd t k) s = .next (s.touch t))) ∧
  (∀ (s : State) (a : Acc) (k : Fin 8),
    (s.hasRec 0x0074 k = false ∨ isKernel a (s.fnOwner (fnAux k)) = false →
      exec (.auxEnable a k) s = .next (s.touch a.t).busErr ∧ exec (.auxDisable a k) s = .next (s.touch a.t).busErr ∧
      exec (.auxDisableImmediate a k) s = .next (s.touch a.t).busErr ∧
      exec (.auxClrshort a k) s = .next (s.touch a.t).busErr) ∧
    (s.fnOn (fnAux k) = false → exec (.auxEnable a k) s = .next (s.touch a.t).busErr) ∧
    (s.hasRec 0x0074 k = true → isKernel a (s.fnOwner (fnAux k)) = true →
      (s.fnOn (fnAux k) = true → s.flag Fld.AUX_CFG_EN k = true → (∀ j ∈ s.auxGroup (s.auxLead k), s.auxSt j = auOff) →
        ∃ u, exec (.auxEnable a k) s = .next u ∧ u.resp.status = .ok ∧
          ∀ j ∈ s.auxGroup (s.auxLead k), u.auxSt j = auSoft ∧ (u.auxOf j).attemptAt = a.t ∧ (u.auxOf j).own = none) ∧
      (∃ u, exec (.auxDisable a k) s = .next u ∧ u.resp.status = .ok ∧ ∀ j ∈ s.auxGroup (s.auxLead k),
        (s.auxSt j = auSoft ∨ s.auxSt j = auRun ∨ s.auxSt j = auHold → u.auxSt j = auDrain) ∧
        (s.auxSt j = auHiccup → u.auxSt j = auOff) ∧
        (s.auxSt j = auShort → u.auxSt j = auShort ∧ (u.auxOf j).offPend = true)) ∧
      (∃ u, exec (.auxDisableImmediate a k) s = .next u ∧ u.resp.status = .ok ∧ ∀ j ∈ s.auxGroup (s.auxLead k),
        (s.auxSt j ≠ auOff → (u.auxOf j).drv = false) ∧ (s.auxSt j ≠ auShort → u.auxSt j = auOff) ∧
        (s.auxSt j = auShort → u.auxSt j = auShort ∧ (u.auxOf j).offPend = true)) ∧
      (s.auxSt k = auShort → ∃ u, exec (.auxClrshort a k) s = .next u ∧ u.resp.status = .ok ∧
        u.get Fld.AUX_STATUS_RETRY k = 0 ∧ u.auxSt k = (if (s.auxOf k).offPend then auOff else auSoft)) ∧
      (s.auxSt k ≠ auShort → exec (.auxClrshort a k) s = .next (s.touch a.t).ok)))

/-- Fans (R286 to R291, R299): the duty of each state, speed from the tach's intervals, the start sequence with its four attempts, the
judgement of a missing tach by the mean current, the return from TACH_LOST, and the owner's commands. Loop outputs (R292 to R297,
R299): read-back as corrected, headroom and mismatch after their counts of samples, a start at INITCODE, a fault current in place of
the code where FAULTMODE is not 0, and the owner's disables. -/
def Obligations.FansAndLoops : Prop :=
  ((∀ (s : State) (t : Nat) (k : Fin 8) (cur : Fin 1024),
     ∃ u, exec (.fanPeriodStart t k cur) s = .next u ∧ u.get Fld.FAN_MEAS_CUR k = cur ∧
       (∀ x ∈ (u.fanOf k).curs, x = (t, cur.val) ∨ x ∈ (s.fanOf k).curs) ∧
       (s.fanSt k = fnTachLost ∨ (s.fanSt k = fnKick ∧ (s.fanOf k).kick = true) → u.get Fld.FAN_DUTY_DUTY k = 1000) ∧
       (s.fanSt k = fnOff ∨ s.fanSt k = fnRetry ∨ s.fanSt k = fnStall ∨ s.fanSt k = fnOpen → u.get Fld.FAN_DUTY_DUTY k = 0) ∧
       (s.fanSt k = fnDrain → (s.fanOf k).enHeld = false → u.get Fld.FAN_DUTY_DUTY k = 0 ∧ u.fanSt k = fnOff) ∧
       (s.fanSt k = fnRun ∨ (s.fanSt k = fnKick ∧ (s.fanOf k).kick = false) → s.get Fld.FAN_MIN_MINDUTY k < 1024 →
         (s.flag Fld.FAN_CFG_MODE k = true → s.get Fld.FAN_DUTY_SP_DUTY k < 1024 →
           u.get Fld.FAN_DUTY_DUTY k = Nat.max (s.get Fld.FAN_MIN_MINDUTY k) (s.get Fld.FAN_DUTY_SP_DUTY k)) ∧
         (s.flag Fld.FAN_CFG_MODE k = false → s.fanNtcs k t = [] →
           u.get Fld.FAN_DUTY_DUTY k = 1000 ∧ u.get Fld.FAN_STATUS_NOTEMP k ≠ 0) ∧
         (∀ x c, s.flag Fld.FAN_CFG_MODE k = false → c ∈ s.fanNtcs k t → s.get Fld.LSN_LAST_VALUE c = x →
           (∀ d ∈ s.fanNtcs k t, x ≤ s.get Fld.LSN_LAST_VALUE d) →
           (s.get Fld.FAN_PT_CODE (4 * k.val) ≤ x → s.get Fld.FAN_PT_DUTY (4 * k.val) < 1024 →
             u.get Fld.FAN_DUTY_DUTY k = Nat.max (s.get Fld.FAN_MIN_MINDUTY k) (s.get Fld.FAN_PT_DUTY (4 * k.val))) ∧
           ((∀ p, p < 4 → x < s.get Fld.FAN_PT_CODE (4 * k.val + p)) → s.get Fld.FAN_PT_DUTY (4 * k.val + 3) < 1024 →
             u.get Fld.FAN_DUTY_DUTY k = Nat.max (s.get Fld.FAN_MIN_MINDUTY k) (s.get Fld.FAN_PT_DUTY (4 * k.val + 3)))))) ∧
   (∀ (s : State) (t : Nat) (k : Fin 8),
     (∃ u, exec (.fantachEdge t k) s = .next u ∧ (u.fanOf k).lastEdge = some t ∧ s.onlyRegs u [(Fld.FAN_MEAS_RPM, k.val)] ∧
       ∀ x, (s.fanOf k).lastEdge = some x → s.get Fld.FAN_CFG_PPR k = 0 → x < t →
         u.get Fld.FAN_MEAS_RPM k = Nat.min 65535 (60 * ftuSec / (t - x)) ∨
         u.get Fld.FAN_MEAS_RPM k = Nat.min 65535 (60 * ftuSec / (t - x) + 1)) ∧
     (s.fanSt k = fnKick → (s.fanOf k).attemptAt + 2 * ftuSec ≤ t → ∃ u, exec (.fanKickEnd t k) s = .next u ∧
       (u.fanOf k).kick = false ∧ s.onlyRegs u []) ∧
     (s.fanSt k ≠ fnKick ∨ t < (s.fanOf k).attemptAt + 2 * ftuSec → exec (.fanKickEnd t k) s = .next (s.touch t)) ∧
     (s.fanSt k = fnKick → (s.fanOf k).attemptAt + 3 * ftuSec ≤ t → ∃ u, exec (.fanStartCheck t k) s = .next u ∧
       (s.fanFast k = true → u.fanSt k = fnRun) ∧
       (s.fanFast k = false → s.get Fld.FAN_STATUS_ATTEMPT k < 3 → u.fanSt k = fnRetry ∧ (u.fanOf k).retryAt = t ∧
         u.get Fld.FAN_CNT_RETRIES k = satSucc Fld.FAN_CNT_RETRIES.width (s.get Fld.FAN_CNT_RETRIES k)) ∧
       (s.fanFast k = false → s.get Fld.FAN_STATUS_ATTEMPT k = 3 → u.fanSt k = fnStall ∧ u.get Fld.FAN_STATUS_FAN_STALL k = 1)) ∧
     (s.fanSt k ≠ fnKick ∨ t < (s.fanOf k).attemptAt + 3 * ftuSec → exec (.fanStartCheck t k) s = .next (s.touch t)) ∧
     (s.fanSt k = fnRetry → (s.fanOf k).retryAt + 2 * ftuSec ≤ t → s.get Fld.FAN_STATUS_ATTEMPT k < 3 →
       ∃ u, exec (.fanRetryEnd t k) s = .next u ∧ u.fanSt k = fnKick ∧ (u.fanOf k).attemptAt = t ∧ (u.fanOf k).kick = true ∧
         u.get Fld.FAN_STATUS_ATTEMPT k = s.get Fld.FAN_STATUS_ATTEMPT k + 1) ∧
     (s.fanSt k ≠ fnRetry ∨ t < (s.fanOf k).retryAt + 2 * ftuSec → exec (.fanRetryEnd t k) s = .next (s.touch t)) ∧
     (∀ (cur : Fin 1024) sum n, s.fanJudgeDue k t = true → (s.fanSample k t cur).fanCurrent k t = (sum, n) →
       ∃ u, exec (.fanTachMissing t k cur) s = .next u ∧ (u.fanOf k).judgedAt = t ∧ u.get Fld.FAN_MEAS_CUR k = cur ∧
       (sum < n * s.get Fld.FAN_I_IOPEN k → u.fanSt k = fnOpen ∧ u.get Fld.FAN_STATUS_FAN_OPEN k = 1 ∧
         u.get Fld.FLT_EVT_F2 0 = 1) ∧
       (n * s.get Fld.FAN_I_IOPEN k ≤ sum → sum ≤ n * s.get Fld.FAN_I_IHIGH k → u.fanSt k = fnTachLost ∧
         (s.fanSt k = fnRun → u.get Fld.FAN_STATUS_TACH_LOST k = 1 ∧ u.get Fld.FAN_STATUS_DERATE k = 1)) ∧
       (n * s.get Fld.FAN_I_IOPEN k ≤ sum → n * s.get Fld.FAN_I_IHIGH k < sum → u.fanSt k = fnStall ∧
         u.get Fld.FAN_STATUS_FAN_STALL k = 1 ∧ u.get Fld.FLT_EVT_F2 0 = 1)) ∧
     ((s.fanSt k ≠ fnRun ∧ s.fanSt k ≠ fnTachLost) ∨ s.tachMissing k t = false ∨
         (s.fanSt k = fnTachLost ∧ t < (s.fanOf k).judgedAt + 100 * ftuMs) →
       ∀ cur, exec (.fanTachMissing t k cur) s = .next (s.touch t)) ∧
     (∀ x, s.fanSt k = fnTachLost → (s.fanOf k).goodSince = some x → x + ftuSec ≤ t → s.fanFresh k t = true →
       ∃ u, exec (.fanTachRegained t k) s = .next u ∧ u.fanSt k = fnRun ∧ u.get Fld.FAN_STATUS_DERATE k = 0 ∧
         s.onlyRegs u [(Fld.FAN_STATUS_STATE, k.val), (Fld.FAN_STATUS_DERATE, k.val)]) ∧
     (s.fanSt k ≠ fnTachLost ∨ (s.fanOf k).goodSince = none ∨ s.fanFresh k t = false → exec (.fanTachRegained t k) s = .next (s.touch t))) ∧
   (∀ (s : State) (a : Acc) (k : Fin 8),
     (s.hasRec 0x0075 k = false ∨ isKernel a (s.fnOwner (fnFan k)) = false →
       exec (.fanEnable a k) s = .next (s.touch a.t).busErr ∧ exec (.fanDisable a k) s = .next (s.touch a.t).busErr ∧
       exec (.fanDisableImmediate a k) s = .next (s.touch a.t).busErr ∧
       exec (.fanClrfault a k) s = .next (s.touch a.t).busErr) ∧
     (s.fnOn (fnFan k) = false → exec (.fanEnable a k) s = .next (s.touch a.t).busErr) ∧
     (s.hasRec 0x0075 k = true → isKernel a (s.fnOwner (fnFan k)) = true →
       (s.fnOn (fnFan k) = true → s.armed (s.fnOwner (fnFan k)) = true → s.flag Fld.FAN_CFG_EN k = true → s.fanSt k = fnOff →
         ∃ u, exec (.fanEnable a k) s = .next u ∧ u.resp.status = .ok ∧ u.fanSt k = fnKick ∧
           u.get Fld.FAN_STATUS_ATTEMPT k = 0 ∧ (u.fanOf k).attemptAt = a.t ∧ (u.fanOf k).kick = true) ∧
       (∃ u, exec (.fanDisable a k) s = .next u ∧ u.resp.status = .ok ∧
         u.fanSt k = (if s.fanSt k = fnOff ∨ s.fanSt k = fnStall ∨ s.fanSt k = fnOpen then s.fanSt k else fnDrain)) ∧
       (∃ u, exec (.fanDisableImmediate a k) s = .next u ∧ u.resp.status = .ok ∧
         (s.fanSt k = fnStall ∨ s.fanSt k = fnOpen → u.fanSt k = s.fanSt k ∧ (u.fanOf k).offPend = true) ∧
         (s.fanSt k ≠ fnStall → s.fanSt k ≠ fnOpen → u.fanSt k = fnOff ∧
           (s.fanSt k ≠ fnOff → u.get Fld.FAN_DUTY_DUTY k = 0))) ∧
       (s.fanSt k = fnStall ∨ s.fanSt k = fnOpen → ∃ u, exec (.fanClrfault a k) s = .next u ∧ u.resp.status = .ok ∧
         u.fanSt k = (if (s.fanOf k).offPend then fnOff else fnKick) ∧
         ((s.fanOf k).offPend = false → u.get Fld.FAN_STATUS_ATTEMPT k = 0)) ∧
       (s.fanSt k ≠ fnStall → s.fanSt k ≠ fnOpen → exec (.fanClrfault a k) s = .next (s.touch a.t).ok)))) ∧
  ((∀ (s : State) (t : Nat) (j : Fin 4) (sns : Fin 65536) (vc : Nat),
     (s.lpSt j = lpOff → exec (.loopSample t j sns vc) s = .next (s.touch t)) ∧
     (s.lpSt j ≠ lpOff → ∃ u, exec (.loopSample t j sns vc) s = .next u ∧
       u.get Fld.LOOP_MEAS_READBACK j = (clampInt 0 65535 (roundDiv (((sns.val : Int) - sgn 16 (s.get Fld.LOOP_INIT_OFS j)) *
         s.get Fld.LOOP_GAIN_GAIN j) 65536)).toNat ∧
       ((s.lpOf j).low = 4 → 20 * (vc : Int) - 25 * sns.val < 1000000 → s.get Fld.LOOP_STATUS_HEADROOM j = 0 → u.get Fld.LOOP_STATUS_HEADROOM j = 1 ∧
         u.get Fld.LOOP_STATUS_LOOP_HEADROOM j = 1 ∧
         u.get Fld.LOOP_CNT_HEADROOM j = satSucc Fld.LOOP_CNT_HEADROOM.width (s.get Fld.LOOP_CNT_HEADROOM j)) ∧
       ((s.lpOf j).low < 4 → (s.lpOf j).high < 49 → u.get Fld.LOOP_STATUS_HEADROOM j = s.get Fld.LOOP_STATUS_HEADROOM j) ∧
       ((s.lpOf j).high = 49 → 1200000 < 20 * (vc : Int) - 25 * sns.val → u.get Fld.LOOP_STATUS_HEADROOM j = 0) ∧
       ((s.lpOf j).mis = 49 → 200 < ((u.get Fld.LOOP_MEAS_READBACK j : Int) - s.lpCurrent j).natAbs →
         s.get Fld.LOOP_STATUS_MISMATCH j = 0 → u.get Fld.LOOP_STATUS_MISMATCH j = 1 ∧
         u.get Fld.LOOP_STATUS_LOOP_MISMATCH j = 1) ∧
       ((s.lpOf j).fit = 49 → ((u.get Fld.LOOP_MEAS_READBACK j : Int) - s.lpCurrent j).natAbs ≤ 200 →
         u.get Fld.LOOP_STATUS_MISMATCH j = 0) ∧
       (s.lpSt j = lpDrain → (s.lpOf j).enHeld = false → u.lpSt j = lpOff) ∧
       (s.lpSt j ≠ lpDrain → u.lpSt j = s.lpSt j ∧ u.lpCurrent j = s.lpCurrent j))) ∧
   (∀ (s : State) (a : Acc) (j : Fin 4),
     (s.hasRec 0x0076 j = false ∨ isKernel a (s.fnOwner (fnLoop j)) = false →
       exec (.loopEnable a j) s = .next (s.touch a.t).busErr ∧ exec (.loopDisable a j) s = .next (s.touch a.t).busErr ∧
       exec (.loopDisableImmediate a j) s = .next (s.touch a.t).busErr ∧ exec (.loopFault a j) s = .next (s.touch a.t).busErr) ∧
     (s.fnOn (fnLoop j) = false → exec (.loopEnable a j) s = .next (s.touch a.t).busErr) ∧
     (s.hasRec 0x0076 j = true → isKernel a (s.fnOwner (fnLoop j)) = true →
       (s.fnOn (fnLoop j) = true → s.armed (s.fnOwner (fnLoop j)) = true → s.flag Fld.LOOP_CFG_EN j = true →
         s.lpSt j = lpOff → s.lpStopped j = false → s.get Fld.LOOP_INIT_INITCODE j < 65536 →
         ∃ u, exec (.loopEnable a j) s = .next u ∧ u.resp.status = .ok ∧ u.lpSt j = lpRun ∧
           u.get Fld.LOOP_CODE_CODE j = s.get Fld.LOOP_INIT_INITCODE j) ∧
       (∃ u, exec (.loopDisable a j) s = .next u ∧ u.resp.status = .ok ∧
         u.lpSt j = (if s.lpSt j = lpOff then lpOff else lpDrain)) ∧
       (∃ u, exec (.loopDisableImmediate a j) s = .next u ∧ u.resp.status = .ok ∧ u.lpSt j = lpOff) ∧
       (∃ u, exec (.loopFault a j) s = .next u ∧ u.resp.status = .ok ∧
         (s.lpSt j = lpOff ∨ s.lpSt j = lpDrain → u.lpSt j = s.lpSt j) ∧
         (s.lpSt j ≠ lpOff → s.lpSt j ≠ lpDrain →
           (s.get Fld.LOOP_CFG_FAULTMODE j = 0 → u.lpCurrent j = s.get Fld.LOOP_CODE_CODE j) ∧
           (s.get Fld.LOOP_CFG_FAULTMODE j ≠ 0 → u.lpSt j = lpFault ∧ u.lpCurrent j =
             (if s.get Fld.LOOP_CFG_FAULTMODE j = 1 then 7200 else 42000)))))))

/-- A metering port (R302 to R306): each sample adds the products of its corrected channels to the sums of its phases, a clamped channel
sets OVLD; an interval's end restarts the sums at its time, adds nothing to the export register of a phase that imported, and an
interval below NOLOAD adds nothing to any register. Pulses, snapshots, checkpoints and requests of a port (R307, R308, R313, R317):
a waiting pulse starts once WIDTH has passed and ends after WIDTH; a snapshot copies the registers as they stood at the latest interval
end at or before its time; a checkpoint, once 60 s have passed since the last, of a sealed port is a signed group of 15
records; Chancel refuses the request of a sealed port and grants that of another. -/
def Obligations.Metering : Prop :=
  ((∀ (s : State) (t : Nat) (p : Fin 4) (x : MtrSample),
     (s.mtrSt p = mtOff → exec (.meterSample t p x) s = .next (s.touch t)) ∧
     (s.mtrSt p = mtRun → ∃ u, exec (.meterSample t p x) s = .next u ∧ (u.mtrOf p).n = (s.mtrOf p).n + 1 ∧
       (∀ j, j < 3 → ((u.mtrOf p).ph.getD j {}).p = ((s.mtrOf p).ph.getD j {}).p +
         ((s.mtrChans p x).getD j (0, false)).1 * ((s.mtrChans p x).getD (3 + j) (0, false)).1) ∧
       ((s.mtrChans p x).any Prod.snd = true → u.get Fld.MTR_PORT_STATUS_OVLD p = 1 ∧
         u.get Fld.MTR_PORT_CNT_OVLD p = satSucc Fld.MTR_PORT_CNT_OVLD.width (s.get Fld.MTR_PORT_CNT_OVLD p)) ∧
       (∀ j, u.get64 Fld.MTR_E_LO_E Fld.MTR_E_HI_E j = s.get64 Fld.MTR_E_LO_E Fld.MTR_E_HI_E j))) ∧
   (∀ (s : State) (t : Nat) (p : Fin 4),
     (s.mtrSt p = mtOff ∨ t % 204800000 ≠ 0 → exec (.meterIntervalEnd t p) s = .next (s.touch t)) ∧
     (s.mtrSt p = mtRun → t % 204800000 = 0 → ∃ u, exec (.meterIntervalEnd t p) s = .next u ∧ u.mtrSt p = mtRun ∧ (u.mtrOf p).n = 0 ∧
       (u.mtrOf p).intEnd = t ∧ (u.mtrOf p).ph = [{}, {}, {}] ∧
       (∀ x, x < 3 → 0 ≤ ((s.mtrOf p).ph.getD x {}).p → u.energy p x 1 = s.energy p x 1) ∧
       (∀ q j, q < 4 → q ≠ p.val → j < 28 → u.get64 Fld.MTR_E_LO_E Fld.MTR_E_HI_E (28 * q + j) =
         s.get64 Fld.MTR_E_LO_E Fld.MTR_E_HI_E (28 * q + j)) ∧
       ((s.mtrOf p).ph = [{}, {}, {}] → 0 < s.get Fld.MTR_THR_NOLOAD p → u.get Fld.MTR_PORT_STATUS_NOLOAD p = 1 ∧
         ∀ j, u.get64 Fld.MTR_E_LO_E Fld.MTR_E_HI_E j = s.get64 Fld.MTR_E_LO_E Fld.MTR_E_HI_E j)))) ∧
  ((∀ (s : State) (t : Nat) (k : Fin 4), (s.plsOf k).due = [] → s.get Fld.MTR_PLS_STATUS_PENDING k < 65536 →
     ((s.plsOf k).active = false → 0 < s.get Fld.MTR_PLS_STATUS_PENDING k →
       (∀ e, (s.plsOf k).lastEnd = some e → e + s.get Fld.MTR_PLS_WIDTH_WIDTH k * 204800 ≤ t) →
       ∃ u, exec (.pulseStart t k) s = .next u ∧ (u.plsOf k).active = true ∧ (u.plsOf k).startAt = t ∧
         u.get Fld.MTR_PLS_STATUS_PENDING k + 1 = s.get Fld.MTR_PLS_STATUS_PENDING k ∧
         u.get Fld.MTR_PLS_CNT_COUNT k = (s.get Fld.MTR_PLS_CNT_COUNT k + 1) % 2 ^ 32) ∧
     ((s.plsOf k).active = true ∨ (∃ e, (s.plsOf k).lastEnd = some e ∧ t < e + s.get Fld.MTR_PLS_WIDTH_WIDTH k * 204800) ∨
         s.get Fld.MTR_PLS_STATUS_PENDING k = 0 →
       ∃ u, exec (.pulseStart t k) s = .next u ∧ (u.plsOf k).active = (s.plsOf k).active ∧ s.onlyRegs u [])) ∧
   (∀ (s : State) (t : Nat) (k : Fin 4),
     ((s.plsOf k).active = true → (s.plsOf k).startAt + s.get Fld.MTR_PLS_WIDTH_WIDTH k * 204800 ≤ t →
       ∃ u, exec (.pulseEnd t k) s = .next u ∧ (u.plsOf k).active = false ∧
       (u.plsOf k).lastEnd = some ((s.plsOf k).startAt + s.get Fld.MTR_PLS_WIDTH_WIDTH k * 204800)) ∧
     ((s.plsOf k).active = false ∨ t < (s.plsOf k).startAt + s.get Fld.MTR_PLS_WIDTH_WIDTH k * 204800 → exec (.pulseEnd t k) s = .next (s.touch t))) ∧
   (∀ (s : State) (t : Nat) (p : Fin 4), ∃ u, exec (.meterSnapshot t p) s = .next u ∧
     (∀ j, j < 28 → u.get64 Fld.MTR_ES_LO_E Fld.MTR_ES_HI_E (28 * p.val + j) = (s.mtrAt p t).2.getD j 0 % 2 ^ 64) ∧
     u.get64 Fld.MTR_SNAP_TIME_LO_TIME Fld.MTR_SNAP_TIME_HI_TIME p = (s.mtrAt p t).1 % 2 ^ 64 ∧
     (∀ z rest, (s.mtrOf p).past = z :: rest → z.1 ≤ t → s.mtrAt p t = z) ∧
     ((s.mtrOf p).past = [] → (s.mtrAt p t).1 = (s.mtrOf p).intEnd ∧ ∀ j, j < 28 →
       (s.mtrAt p t).2.getD j 0 = s.get64 Fld.MTR_E_LO_E Fld.MTR_E_HI_E (28 * p.val + j)) ∧
     u.get Fld.MTR_PORT_STATUS_SNAPNEW p = 1 ∧
     (s.flag Fld.MTR_PORT_STATUS_SNAPNEW p = true → u.get Fld.MTR_PORT_STATUS_SNAPOVR p = 1)) ∧
   (∀ (s : State) (t : Nat),
     ((∀ p, p < 4 → s.flag Fld.MTR_PORT_STATUS_SEALED p = false ∨ (∃ x, (s.mtrOf p).ckptAt = some x ∧ t < x + 60 * ftuSec)) →
       exec (.meterCheckpoint t) s = .next (s.touch t)) ∧
     (∀ p : Fin 4, s.flag Fld.MTR_PORT_STATUS_SEALED p = true → (∀ q, q < 4 → q ≠ p.val →
         s.flag Fld.MTR_PORT_STATUS_SEALED q = false) → s.canSign = true → s.jnl.ready = true →
       s.flag Fld.JNL_CFG_MIRROR 0 = false → (∀ x, (s.mtrOf p).ckptAt = some x → x + 60 * ftuSec ≤ t) →
       ∃ u, exec (.meterCheckpoint t) s = .next u ∧ (u.mtrOf p).ckptAt = some t ∧
         u.get Fld.JNL_SEQ_SEQ 0 = (s.get Fld.JNL_SEQ_SEQ 0 + 15) % 2 ^ 32 ∧
         ∃ g ∈ u.jnl.grps, g.seq = s.get Fld.JNL_SEQ_SEQ 0 ∧ g.kind = 0x20 ∧ g.port = p)) ∧
   (∀ (s : State) (a : Acc) (p : Fin 4),
     (anyKernel a = false → exec (.mtrPortDisable a p) s = .next (s.touch a.t).busErr ∧
       exec (.mtrPortEnable a p) s = .next (s.touch a.t).busErr) ∧
     (anyKernel a = true →
       (∃ u, exec (.mtrPortDisable a p) s = .next u ∧ u.resp.status = .ok ∧ u.mtrOf p = { s.mtrOf p with req := some true } ∧
         u.get Fld.MTR_PORT_STATUS_REQRES p = 0 ∧ s.onlyRegs u [(Fld.MTR_PORT_STATUS_REQRES, p.val)]) ∧
       (∃ u, exec (.mtrPortEnable a p) s = .next u ∧ u.resp.status = .ok ∧ u.mtrOf p = { s.mtrOf p with req := some false } ∧
         u.get Fld.MTR_PORT_STATUS_REQRES p = 0 ∧ s.onlyRegs u [(Fld.MTR_PORT_STATUS_REQRES, p.val)]))) ∧
   (∀ (s : State) (t : Nat) (p : Fin 4),
     ((s.mtrOf p).req = none → exec (.portReq t p) s = .next (s.touch t)) ∧
     (∀ d, (s.mtrOf p).req = some d →
       (s.flag Fld.MTR_PORT_STATUS_SEALED p = true ∨ s.flag Fld.MTR_PORT_STATUS_SEALPEND p = true →
         ∃ u, exec (.portReq t p) s = .next u ∧ (u.mtrOf p).req = none ∧ u.get Fld.MTR_PORT_STATUS_REQRES p = 2 ∧
           u.mtrSt p = s.mtrSt p ∧
           u.get Fld.MTR_PORT_CNT_REFUSED p = satSucc Fld.MTR_PORT_CNT_REFUSED.width (s.get Fld.MTR_PORT_CNT_REFUSED p)) ∧
       (s.flag Fld.MTR_PORT_STATUS_SEALED p = false → s.flag Fld.MTR_PORT_STATUS_SEALPEND p = false →
         ∃ u, exec (.portReq t p) s = .next u ∧ (u.mtrOf p).req = none ∧ u.get Fld.MTR_PORT_STATUS_REQRES p = 1 ∧
           (d = true → s.mtrSt p = mtRun → (s.mtrOf p).n ≠ 0 → u.mtrSt p = mtDrain) ∧
           (d = false → s.mtrSt p = mtOff → s.flag Fld.MTR_PORT_CFG_EN p = true → u.mtrSt p = mtRun)))))

/-- The receiver (R328, R331, R333, R335, R338, R353): a preamble is taken in SEARCH, or beside a payload where it is stronger by CAPDB;
a header that checks gives LEN, MOD, BCN and BUSY_END, a bad or long one does not; a frame whose FCS checks goes to the MAC, which
keeps what is for this node; a DATA frame fills the lowest free buffer once. -/
def Obligations.JalamReceives : Prop :=
  (∀ (s : State) (t : Nat) (snr : BitVec 8) (agc : Fin 8),
    (s.phy = phSearch → ∃ u, exec (.jalamPreambleDetect t snr agc) s = .next u ∧ u.phy = phHeader ∧
      u.get Fld.JLN_RX_SNR_SNR 0 = snr.toNat ∧ u.get Fld.JLN_PHY_STATUS_AGC 0 = agc ∧ u.jln.rxSnr = snr.toInt) ∧
    (s.phy = phPayload → s.flag Fld.JLN_RX_HDR_BCN 0 = false →
      s.jln.rxSnr + 4 * (s.get Fld.JLN_PHY_CFG_CAPDB 0 : Int) ≤ snr.toInt →
      ∃ u, exec (.jalamPreambleDetect t snr agc) s = .next u ∧ u.phy = phHeader ∧ u.get Fld.JLN_PHY_STATUS_CAPTURE 0 = 1) ∧
    ((s.phy ≠ phSearch ∧ s.phy ≠ phPayload) ∨ (s.phy = phPayload ∧ (s.flag Fld.JLN_RX_HDR_BCN 0 = true ∨
        snr.toInt < s.jln.rxSnr + 4 * (s.get Fld.JLN_PHY_CFG_CAPDB 0 : Int))) →
      exec (.jalamPreambleDetect t snr agc) s = .next (s.touch t))) ∧
  (∀ (s : State) (t stamp : Nat) (h : BitVec 30),
    (s.phy ≠ phHeader → exec (.jalamHeaderDecoded t h stamp) s = .next (s.touch t)) ∧
    (s.phy = phHeader →
      (jlnCrc16 (msbBits 14 (h.toNat / 65536)) ≠ h.toNat % 65536 ∨ h.toNat / 2 ^ 19 = 0 →
        ∃ u, exec (.jalamHeaderDecoded t h stamp) s = .next u ∧ u.phy = phSearch ∧ u.get Fld.JLN_PHY_STATUS_BADHDR 0 = 1 ∧
          u.get Fld.JLN_PHY_CNT1_BADHDR 0 = satSucc Fld.JLN_PHY_CNT1_BADHDR.width (s.get Fld.JLN_PHY_CNT1_BADHDR 0) ∧
          u.busyEnd = s.busyEnd) ∧
      (jlnCrc16 (msbBits 14 (h.toNat / 65536)) = h.toNat % 65536 → 0 < h.toNat / 2 ^ 19 →
        ∃ u, exec (.jalamHeaderDecoded t h stamp) s = .next u ∧ u.get Fld.JLN_RX_HDR_LEN 0 = h.toNat / 2 ^ 19 ∧
          u.get Fld.JLN_RX_HDR_MOD 0 = bits h.toNat 17 2 ∧ u.rxStamp = stamp % 2 ^ 64 ∧
          u.busyEnd = (stamp + (2 + jlnPayload (bits h.toNat 17 2) (h.toNat / 2 ^ 19)) * 14745600) % 2 ^ 64 ∧
          (h.toNat / 2 ^ 19 ≤ 1024 → u.phy = phPayload) ∧
          (1024 < h.toNat / 2 ^ 19 → u.phy = phSearch ∧ u.get Fld.JLN_PHY_STATUS_LONG 0 = 1)))) ∧
  (∀ (s : State) (t : Nat) (bs : List Bool),
    (s.phy ≠ phPayload ∨ t < s.busyEnd → exec (.jalamFrameReceived t bs) s = .next (s.touch t)) ∧
    (∀ b, s.phy = phPayload → s.busyEnd ≤ t → b = packBytes (s.get Fld.JLN_RX_HDR_LEN 0 + 4) (jlnScramble 127 bs) →
      (leNat (b.drop (s.get Fld.JLN_RX_HDR_LEN 0)) ≠ crc32 (b.take (s.get Fld.JLN_RX_HDR_LEN 0)) →
        ∃ u, exec (.jalamFrameReceived t bs) s = .next u ∧ u.phy = phSearch ∧ u.get Fld.JLN_PHY_STATUS_FCSERR 0 = 1 ∧
          u.jln = s.jln) ∧
      (∀ f : JIn, 8 * (s.get Fld.JLN_RX_HDR_LEN 0 + 4) ≤ bs.length →
        leNat (b.drop (s.get Fld.JLN_RX_HDR_LEN 0)) = crc32 (b.take (s.get Fld.JLN_RX_HDR_LEN 0)) →
        f = ⟨b.take (s.get Fld.JLN_RX_HDR_LEN 0), s.rxStamp, s.busyEnd⟩ → 8 ≤ f.bytes.length → s.foreignBcn f = false →
        ∃ u, exec (.jalamFrameReceived t bs) s = .next u ∧ u.phy = phSearch ∧ u.get Fld.JLN_PHY_STATUS_RXDONE 0 = 1 ∧
          (s.hears f.netid = true → f.bcast = true ∨ f.dst = s.jAddr → f.wellFormed = true → u.jln.inbox = some f) ∧
          (s.hears f.netid = false ∨ (f.bcast = false ∧ f.dst ≠ s.jAddr) → u.jln.inbox = s.jln.inbox) ∧
          (s.hears f.netid = true → f.bcast = true ∨ f.dst = s.jAddr → f.wellFormed = false →
            u.jln.inbox = s.jln.inbox ∧ u.get Fld.JLN_NET_EVT_BADFRM 0 = 1)))) ∧
  (∀ (s : State) (t : Nat),
    (s.phy = phHeader ∨ s.phy = phPayload → ∃ u, exec (.abortSymbolsDetected t) s = .next u ∧ u.phy = phSearch ∧
      u.get Fld.JLN_PHY_STATUS_ABORTED 0 = 1) ∧
    (s.phy ≠ phHeader → s.phy ≠ phPayload → exec (.abortSymbolsDetected t) s = .next (s.touch t))) ∧
  (∀ (s : State) (t : Nat) (f : JIn), s.jln.inbox = some f → f.ftype = ftData → s.net = nwMember ∨ (s.net = nwCoord ∧ s.unconfirmed f.src = false) →
    ((Table.get 0 s.jln.seen f.src = 0 ∨ (Table.get 0 s.jln.seen f.src - 1) % 65536 ≠ f.seq) →
      (∀ r, s.rxBuffer = some r → ∃ u, exec (.rxData t) s = .next u ∧ u.jln.inbox = none ∧
        u.get Fld.JLN_RX_INFO_FULL r = 1 ∧ u.get Fld.JLN_RX_INFO_LEN r = f.body.length % 2048 ∧
        u.get Fld.JLN_RX_INFO_SRC r = f.src % 1024 ∧ u.get Fld.JLN_RX_SEQ_SEQ r = f.seq % 65536 ∧
        u.bitOf Fld.IRQ_PEND_PEND 23 24 = true ∧ (f.ackreq = true → f.bcast = false →
          ⟨f.endAt + jlnRifs, .ack f.src f.seq⟩ ∈ u.jln.jobs)) ∧
      (s.rxBuffer = none → ∃ u, exec (.rxData t) s = .next u ∧ u.get Fld.JLN_NET_EVT_RXOVF 0 = 1 ∧
        u.get Fld.JLN_CNT1_RXOVF 0 = satSucc Fld.JLN_CNT1_RXOVF.width (s.get Fld.JLN_CNT1_RXOVF 0))) ∧
    (0 < Table.get 0 s.jln.seen f.src → (Table.get 0 s.jln.seen f.src - 1) % 65536 = f.seq →
      t ≤ (Table.get 0 s.jln.seen f.src - 1) / 65536 + 3 * s.jln.period → ∃ u, exec (.rxData t) s = .next u ∧
        u.get Fld.JLN_CNT3_DUP 0 = satSucc Fld.JLN_CNT3_DUP.width (s.get Fld.JLN_CNT3_DUP 0) ∧
        ∀ r, u.get Fld.JLN_RX_INFO_FULL r = s.get Fld.JLN_RX_INFO_FULL r)) ∧
  (∀ (s : State) (a : Acc) (r : Fin 4),
    (s.jlnOwner a = false → exec (.jlnRxRelease a r) s = .next (s.touch a.t).busErr) ∧
    (s.jlnOwner a = true → ∃ u, exec (.jlnRxRelease a r) s = .next u ∧ u.resp.status = .ok ∧
      u.get Fld.JLN_RX_INFO_FULL r = 0 ∧ s.onlyRegs u [(Fld.JLN_RX_INFO_FULL, r.val)]))

/-- Sending (R321, R328, R341 to R343, R352): a commanded transmission begins on the sample instant and ends in TXDONE; a frame that
asks for an ACK waits for it, is sent again up to RETRY times and then FAILED; backoff counts down on an idle medium; a poll is
answered after RIFS; GO queues a frame with the next SEQ and CANCEL withdraws it. -/
def Obligations.JalamSends : Prop :=
  (∀ (s : State) (t : Nat),
    (s.jln.line ≠ none ∨ s.phy = phOff ∨ (∀ j ∈ s.jln.jobs, t < jlnSample j.start) →
      exec (.jalamTxStart t) s = .next (s.touch t)) ∧
    (∀ j rest, s.jln.line = none → s.phy ≠ phOff → s.vldLow = false → s.jln.jobs = j :: rest → jlnSample j.start ≤ t →
      ∃ u l, exec (.jalamTxStart t) s = .next u ∧ u.jln.line = some l ∧ u.phy = phTx ∧ l.start = jlnSample j.start ∧
        j ∉ u.jln.jobs ∧ (s.phy = phHeader ∨ s.phy = phPayload → u.get Fld.JLN_PHY_STATUS_RXPREEMPT 0 = 1) ∧
        (∀ d q, j.item = .ack d q → l.bytes = macHead ftAck false false (s.netId s.netIdx) d s.jAddr q ∧
          l.endAt = l.start + jlnSymbols s.jBmod 8 * 14745600 ∧ l.sig = jlnSignal s.jBmod false l.bytes))) ∧
  (∀ (s : State) (t : Nat),
    (s.jln.line = none → exec (.jalamTxDone t) s = .next (s.touch t)) ∧
    (∀ l, s.jln.line = some l → t < l.endAt → exec (.jalamTxDone t) s = .next (s.touch t)) ∧
    (∀ l, s.jln.line = some l → l.endAt ≤ t → s.phy = phAborting → s.jln.enHeld = false →
      ∃ u, exec (.jalamTxDone t) s = .next u ∧ u.jln.line = none ∧ u.net = nwOff ∧ u.phy = phOff) ∧
    (∀ l f, s.jln.line = some l → l.endAt ≤ t → s.phy ≠ phAborting → l.item = .frame f →
      ∃ u, exec (.jalamTxDone t) s = .next u ∧ u.jln.line = none ∧ u.phy = phSearch ∧ u.get Fld.JLN_PHY_STATUS_TXDONE 0 = 1 ∧
        (f.ackreq = true → u.jln.wait = some ⟨f, l.endAt + 11 * 14745600⟩) ∧
        (∀ b, f.src = .buf b → u.get Fld.JLN_TX_STATUS_STATE b = (if f.ackreq then txWaitAck else txDone)))) ∧
  (∀ (s : State) (t : Nat),
    (s.jln.wait = none ∨ s.ackHeader = true ∨ (∃ w, s.jln.wait = some w ∧ t < w.till) → exec (.ackTimeout t) s = .next (s.touch t)) ∧
    (∀ w b, s.jln.wait = some w → w.till ≤ t → s.ackHeader = false → w.f.src = .buf b → w.f.halt = false →
      ∃ u, exec (.ackTimeout t) s = .next u ∧ u.jln.wait = none ∧ u.jln.cw = Nat.min 256 (2 * s.jln.cw) ∧
        (s.jRetry ≤ w.f.tries → u.get Fld.JLN_TX_STATUS_STATE b = txFailed ∧ u.get Fld.JLN_NET_EVT_TXFAIL 0 = 1) ∧
        (w.f.tries < s.jRetry → u.get Fld.JLN_TX_STATUS_STATE b = txQueued ∧
          u.get Fld.JLN_TX_STATUS_TRIES b = (w.f.tries + 1) % 8)) ∧
    (∀ f, s.jln.inbox = some f → f.ftype ≠ ftAck → exec (.rxAck t) s = .next (s.touch t)) ∧
    (∀ f w b, s.jln.inbox = some f → f.ftype = ftAck → s.jln.wait = some w → w.f.src = .buf b →
      w.f.seq = some f.seq → w.f.dst = f.src → ∃ u, exec (.rxAck t) s = .next u ∧ u.jln.wait = none ∧ u.jln.cw = 8 ∧
        u.get Fld.JLN_TX_STATUS_STATE b = txDone ∧ u.get Fld.JLN_NET_EVT_TXACK 0 = 1)) ∧
  (∀ (s : State) (t : Nat),
    (s.jlnFree = false ∨ t < s.jln.cpFrom ∨ s.vldLow = true ∨ s.netValid s.netIdx = false → exec (.cfpEnd t) s = .next (s.touch t)) ∧
    (∀ f, s.net = nwMember → s.netValid s.netIdx = true → s.jlnFree = true → s.jln.cpFrom ≤ t → s.vldLow = false → s.cpFrame? = some f →
      s.jln.backoff = some 0 → s.jlnIdle t = true →
      jlnSample (s.spaced f t) + s.frameTime f < s.jln.nextBcn → ∃ u, exec (.cfpEnd t) s = .next u ∧
        ⟨jlnSample (s.spaced f t), .frame f⟩ ∈ u.jln.jobs ∧ u.jln.backoff = none) ∧
    (∀ k, s.jln.backoff = some (k + 2) → s.jlnIdle t = true → s.jlnFree = true → s.jln.cpFrom + jlnSym ≤ t →
      s.busyEnd + jlnSym ≤ t → s.jln.slotAt + jlnSym ≤ t →
      ∃ u, exec (.backoffSlot t) s = .next u ∧ u.jln.backoff = some (k + 1) ∧ u.jln.slotAt = t ∧ s.onlyRegs u []) ∧
    (∀ k, s.jln.backoff = some (k + 1) → t < s.jln.cpFrom + jlnSym ∨ t < s.busyEnd + jlnSym ∨ t < s.jln.slotAt + jlnSym →
      exec (.backoffSlot t) s = .next (s.touch t)) ∧
    (s.jlnIdle t = false → exec (.backoffSlot t) s = .next (s.touch t))) ∧
  (∀ (s : State) (t : Nat) (f : JIn), s.jln.inbox = some f →
    (f.ftype = ftPoll → s.net = nwMember → f.src = s.jln.coord → s.jln.queue = [] → ∃ u, exec (.rxPoll t) s = .next u ∧
      u.jln.inbox = none ∧ u.jln.jobs = s.jln.jobs ++ [⟨f.endAt + jlnRifs, .null f.src⟩]) ∧
    (f.ftype = ftPoll → s.net ≠ nwMember → ∃ u, exec (.rxPoll t) s = .next u ∧ u.jln = { s.jln with inbox := none } ∧
      s.onlyRegs u []) ∧
    (f.ftype = ftNull → ∃ u, exec (.rxNull t) s = .next u ∧ u.jln.inbox = none ∧
      ∀ d, u.jln.polled = some (f.src, d) → False)) ∧
  (∀ (s : State) (t d till : Nat), s.jln.polled = some (d, till) →
    (t < till ∨ s.phy = phHeader ∨ s.phy = phPayload → exec (.pollNoresp t) s = .next (s.touch t)) ∧
    (till ≤ t → s.phy ≠ phHeader → s.phy ≠ phPayload → ∃ u, exec (.pollNoresp t) s = .next u ∧ u.jln.polled = none ∧
      (s.jln.answering = true → u.get Fld.JLN_CNT2_NORESP 0 = s.get Fld.JLN_CNT2_NORESP 0 ∧ u.jln.members = s.jln.members) ∧
      (s.jln.answering = false → u.get Fld.JLN_CNT2_NORESP 0 = satSucc Fld.JLN_CNT2_NORESP.width (s.get Fld.JLN_CNT2_NORESP 0) ∧
      ∀ m, s.memberOf d = some m →
        (m.noresp = 7 → u.memberOf d = none ∧ u.get Fld.JLN_NET_EVT_DISASSOC 0 = 1) ∧
        (m.noresp ≠ 7 → u.memberOf d = some { m with noresp := m.noresp + 1 })))) ∧
  (∀ (s : State) (a : Acc) (b : Fin 2),
    (s.jlnOwner a = false → exec (.jlnTxGo a b) s = .next (s.touch a.t).busErr ∧
      exec (.jlnTxCancel a b) s = .next (s.touch a.t).busErr) ∧
    (s.jlnOwner a = true →
      (s.get Fld.JLN_TX_STATUS_STATE b = txQueued ∨ s.get Fld.JLN_TX_STATUS_STATE b = txSending ∨
          s.get Fld.JLN_TX_STATUS_STATE b = txWaitAck → exec (.jlnTxGo a b) s = .next (s.touch a.t).ok) ∧
      (s.get Fld.JLN_TX_STATUS_STATE b ≠ txQueued → s.get Fld.JLN_TX_STATUS_STATE b ≠ txSending →
        s.get Fld.JLN_TX_STATUS_STATE b ≠ txWaitAck →
        (s.flag Fld.JLN_TX_CFG_BCAST b = true → s.flag Fld.JLN_TX_CFG_ACKREQ b = true →
          ∃ u, exec (.jlnTxGo a b) s = .next u ∧ u.get Fld.JLN_NET_EVT_TXBADFLAG 0 = 1 ∧ u.jln = s.jln) ∧
        (s.flag Fld.JLN_TX_CFG_BCAST b = false →
          s.get Fld.JLN_TX_LEN_LEN b = 0 ∨ 1016 < s.get Fld.JLN_TX_LEN_LEN b →
          ∃ u, exec (.jlnTxGo a b) s = .next u ∧ u.get Fld.JLN_PHY_STATUS_TXBADLEN 0 = 1 ∧ u.jln = s.jln) ∧
        (s.flag Fld.JLN_TX_CFG_BCAST b = false → 0 < s.get Fld.JLN_TX_LEN_LEN b → s.get Fld.JLN_TX_LEN_LEN b ≤ 1016 →
          ∃ u f, exec (.jlnTxGo a b) s = .next u ∧ u.resp.status = .ok ∧ u.get Fld.JLN_TX_STATUS_STATE b = txQueued ∧
            u.get Fld.JLN_TX_STATUS_TRIES b = 0 ∧ u.get Fld.JLN_SEQ_SEQ 0 = (s.get Fld.JLN_SEQ_SEQ 0 + 1) % 65536 ∧
            (f ∈ u.jln.queue ∨ ∃ x ∈ u.jln.jobs, x.item = .frame f) ∧ f.src = .buf b ∧
            f.seq = some (s.get Fld.JLN_SEQ_SEQ 0) ∧ f.body = s.txBody b (s.get Fld.JLN_TX_LEN_LEN b))) ∧
      (∀ f ∈ s.jln.queue, f.src = .buf b → ∃ u, exec (.jlnTxCancel a b) s = .next u ∧ u.resp.status = .ok ∧
        u.get Fld.JLN_TX_STATUS_STATE b = txCancelled ∧ u.get Fld.JLN_NET_EVT_TXCANCEL 0 = 1 ∧
        ∀ g ∈ u.jln.queue, g.src ≠ .buf b) ∧
      (∀ w, s.jln.queue = [] → s.jln.jobs = [] → s.jln.wait = some w → w.f.src = .buf b →
        ∃ u, exec (.jlnTxCancel a b) s = .next u ∧ u.resp.status = .ok ∧
          u.jln.wait = some { w with f := { w.f with halt := true } } ∧ s.onlyRegs u [])))

/-- Networks (R346 to R350, R354, R355, R436 to R438, Table 19.4): beacons with a good TAG lead from LISTEN to association and keep a
member's time; requests, answers and confirmations make a member; losses and timeouts return to LISTEN or make a coordinator; a
frame without a good TAG counts AUTHFAIL; Chancel answers READ_METER and REVOKE; the owner enables and disables. -/
def Obligations.JalamNetworks : Prop :=
  (∀ (s : State) (t : Nat) (f : JIn), s.jln.inbox = some f → f.ftype = ftMgmt →
    (∀ e, f.mtype = 0 → s.netOf f.netid = some e → s.net = nwListen →
      (s.tagOk e f = true → ∃ u, exec (.rxBeacon t) s = .next u ∧ u.get Fld.JLN_NET_EVT_BCNRX 0 = 1 ∧
        u.jln.lastBcn = f.endAt ∧ (s.jln.heard = [] → u.net = nwListen ∧ u.jln.heard = [⟨e, f.src, 1⟩]) ∧
        (s.jln.heard = [⟨e, f.src, 1⟩] → s.flag Fld.SYS_CHN_STATUS_TRNGFAIL 0 = false → u.net = nwAssoc ∧
          u.jln.coord = f.src ∧ u.netIdx = e % 4 ∧ ∃ g, u.jln.queue = s.jln.queue ++ [g] ∧ g.src = .mgmt 1 ∧ g.dst = f.src)) ∧
      (s.tagOk e f = false → ∃ u, exec (.rxBeacon t) s = .next u ∧ u.get Fld.JLN_NET_EVT_AUTHFAIL 0 = 1 ∧
        u.jln = { s.jln with inbox := none })) ∧
    (∀ e, f.mtype = 0 → s.netOf f.netid = some e → s.net = nwMember → s.tagOk s.netIdx f = true →
      (s.verdict f = .fresh → ∃ u, exec (.rxBeacon t) s = .next u ∧ u.jln.lastBcn = f.endAt ∧
        u.get64 Fld.JLN_BCN_TIME_LO_TIME Fld.JLN_BCN_TIME_HI_TIME 0 = beaconFld f 0 8 ∧
        u.get Fld.JLN_BCN_NEXT_NEXT 0 = beaconFld f 8 4 ∧ u.jln.entry = some (f.stampPair, f.seq)) ∧
      (s.verdict f = .old → ∃ u, exec (.rxBeacon t) s = .next u ∧ u.get Fld.JLN_NET_EVT_REPLAY 0 = 1 ∧
        u.jln = { s.jln with inbox := none })) ∧
    (f.mtype = 1 → s.net = nwCoord → s.tagOk s.netIdx f = true → s.memberOf f.src = none → s.jln.members.length < 256 →
      s.flag Fld.SYS_CHN_STATUS_TRNGFAIL 0 = false → ∃ u m g, exec (.rxAssocReq t) s = .next u ∧
        u.memberOf f.src = some m ∧ m.conf = false ∧ m.entry = f.stampPair ∧ u.jln.queue = g :: s.jln.queue ∧
        g.src = .mgmt 2 ∧ g.dst = f.src) ∧
    (f.mtype = 2 → s.net = nwAssoc → s.tagOk s.netIdx f = true → f.src = s.jln.coord → s.jln.entry = none →
      f.mbody.take 8 = s.jln.nm → ∃ u, exec (.rxAssocResp t) s = .next u ∧
        (leNat ((f.mbody.drop 16).take 1) = 0 → u.net = nwMember ∧ u.get Fld.JLN_NET_EVT_ASSOC 0 = 1 ∧
          u.jln.entry = some (f.stampPair, f.seq) ∧ ∃ g, u.jln.queue = s.jln.queue ++ [g] ∧ g.src = .mgmt 3) ∧
        (leNat ((f.mbody.drop 16).take 1) ≠ 0 → u.net = nwListen)) ∧
    (∀ m, f.mtype = 3 → s.net = nwCoord → s.tagOk s.netIdx f = true → s.verdict f = .fresh → s.memberOf f.src = some m →
      m.conf = false → m.nc = f.mbody → ∃ u m', exec (.rxAssocConf t) s = .next u ∧ u.memberOf f.src = some m' ∧
        m'.conf = true ∧ u.get Fld.JLN_NET_EVT_ASSOC 0 = 1) ∧
    (f.mtype = 4 → s.tagOk s.netIdx f = true → s.verdict f = .fresh → s.unconfirmed f.src = false →
      (s.net = nwMember → ∃ u, exec (.rxDisassoc t) s = .next u ∧ u.net = nwListen ∧
        u.get Fld.JLN_NET_EVT_DISASSOC 0 = 1) ∧
      (s.net = nwCoord → ∃ u, exec (.rxDisassoc t) s = .next u ∧ u.memberOf f.src = none)) ∧
    (f.mtype = 5 → s.net = nwMember → s.tagOk s.netIdx f = true → s.verdict f = .fresh →
      (leNat (f.mbody.take 1) = 0x10 → f.mbody.length = 12 → leNat ((f.mbody.drop 1).take 1) < 4 →
        leNat ((f.mbody.drop 2).take 1) < 4 → leNat ((f.mbody.drop 3).take 1) = 0 → s.canSign = true →
        ∃ u g sig, exec (.readMeter t) s = .next u ∧ (g ∈ u.jln.queue ∨ ∃ x ∈ u.jln.jobs, x.item = .frame g) ∧
          g.src = .mgmt 5 ∧ g.dst = f.src ∧ g.body = s.meterFrame (leNat ((f.mbody.drop 1).take 1))
            (leNat ((f.mbody.drop 2).take 1)) ((f.mbody.drop 4).take 8) f.stamp ++ sig) ∧
      (leNat (f.mbody.take 1) = 0x20 → f.mbody.length = 76 → leNat ((f.mbody.drop 3).take 1) = 0 →
        ∃ u g, exec (.revoke t) s = .next u ∧ (g ∈ u.jln.queue ∨ ∃ x ∈ u.jln.jobs, x.item = .frame g) ∧ g.dst = f.src ∧
          (s.revokeOk f.mbody = false → u.chn.slots = s.chn.slots ∧
            g.body = [0x21, BitVec.ofNat 8 (leNat ((f.mbody.drop 1).take 1)), 1, 0]) ∧
          (s.revokeOk f.mbody = true → s.flag Fld.JNL_PIN_STATUS_FULL 0 = false → s.pinReady [] = true →
            (u.keySlot (leNat ((f.mbody.drop 1).take 1))).use = 0xFF ∧
            g.body = [0x21, BitVec.ofNat 8 (leNat ((f.mbody.drop 1).take 1)), 0, 0])))) ∧
  (∀ (s : State) (t : Nat),
    (s.net = nwListen → s.jRole ≠ 0 → s.netValid 0 = true → s.jln.lastBcn + (2000 + (if s.jRole = 2 then 100 * (s.jAddr % 16) else 0)) * ftuMs ≤ t →
      ∃ u, exec (.listenTimeout t) s = .next u ∧ u.net = nwCoord ∧ u.jln.members = [] ∧ u.netIdx = 0) ∧
    (s.net ≠ nwListen ∨ s.jRole = 0 ∨ s.netValid 0 = false ∨ t < s.jln.lastBcn + 2000 * ftuMs → exec (.listenTimeout t) s = .next (s.touch t)) ∧
    (s.net = nwMember → s.jln.lastBcn + 3 * s.jln.period ≤ t → ∃ u, exec (.beaconLoss t) s = .next u ∧ u.net = nwListen ∧
      u.get Fld.JLN_NET_EVT_BCNLOST 0 = 1) ∧
    (s.net ≠ nwMember ∨ t < s.jln.lastBcn + 3 * s.jln.period → exec (.beaconLoss t) s = .next (s.touch t)) ∧
    (∀ x, s.jln.assocBy = some x → s.net = nwAssoc → x ≤ t → ∃ u, exec (.assocTimeout t) s = .next u ∧ u.net = nwListen ∧
      u.jln.assocBy = none) ∧
    (s.jln.assocBy = none ∨ s.net ≠ nwAssoc → exec (.assocTimeout t) s = .next (s.touch t)) ∧
    (s.net = nwCoord → ∃ u, exec (.assocConfTimeout t) s = .next u ∧ u.net = nwCoord ∧ ∀ m, m ∈ u.jln.members ↔
      m ∈ s.jln.members ∧ (m.conf = true ∨ m.confBy = none ∨ ∃ x, m.confBy = some x ∧ t < x)) ∧
    (s.net ≠ nwCoord → exec (.assocConfTimeout t) s = .next (s.touch t))) ∧
  (∀ (s : State) (a : Acc) (imm : Bool),
    (s.jlnOwner a = false ∨ a.kernel = false → exec (.jlnEnable a) s = .next (s.touch a.t).busErr ∧
      exec (.jlnDisable a imm) s = .next (s.touch a.t).busErr) ∧
    (s.jlnOwner a = true → a.kernel = true →
      (s.net = nwOff → ∃ u, exec (.jlnEnable a) s = .next u ∧ u.resp.status = .ok ∧ u.net = nwListen ∧ u.phy = phSearch ∧
        u.jln.lastBcn = a.t) ∧
      (s.net = nwOff → exec (.jlnDisable a imm) s = .next (s.touch a.t).ok) ∧
      (s.net ≠ nwOff → s.net ≠ nwDrain → s.jln.enHeld = false → ∃ u, exec (.jlnDisable a imm) s = .next u ∧
        u.resp.status = .ok ∧ u.jln.queue = [] ∧ u.jln.jobs = [] ∧ u.jln.wait = none ∧ u.jln.members = [] ∧
        (s.jln.line = none → u.net = nwOff ∧ u.phy = phOff) ∧
        (s.jln.line ≠ none → s.phy ≠ phAborting → u.net = nwDrain ∧ u.phy = phAborting))))

/-- The register instructions (R376 to R379): each delivers the value the rule gives to rd, and a write of g31 that R368 refuses raises
STACK; a divide blocks the core and delivers when it completes. -/
def Obligations.NaveArithmetic : Prop :=
  (∀ (s : State) (t : Nat) (c : Fin 2) (rd r1 r2 : Fin 32) (a b pc : Word), s.runs t c = true → a = (s.core c).reg r1 →
    b = (s.core c).reg r2 → pc = (s.core c).pc + 4 →
    s.delivers t c (.nvAdd t c rd r1 r2) rd (a + b) pc ∧ s.delivers t c (.nvSub t c rd r1 r2) rd (a - b) pc ∧
    s.delivers t c (.nvAnd t c rd r1 r2) rd (a &&& b) pc ∧ s.delivers t c (.nvOr t c rd r1 r2) rd (a ||| b) pc ∧
    s.delivers t c (.nvXor t c rd r1 r2) rd (a ^^^ b) pc ∧
    s.delivers t c (.nvSlt t c rd r1 r2) rd (if a.toInt < b.toInt then 1 else 0) pc ∧
    s.delivers t c (.nvSltu t c rd r1 r2) rd (if a.toNat < b.toNat then 1 else 0) pc ∧
    s.delivers t c (.nvSll t c rd r1 r2) rd (a <<< (b.toNat % 32)) pc ∧
    s.delivers t c (.nvSrl t c rd r1 r2) rd (a >>> (b.toNat % 32)) pc ∧
    s.delivers t c (.nvSra t c rd r1 r2) rd (a.sshiftRight (b.toNat % 32)) pc ∧
    s.delivers t c (.nvMin t c rd r1 r2) rd (if a.toInt < b.toInt then a else b) pc ∧
    s.delivers t c (.nvMax t c rd r1 r2) rd (if a.toInt < b.toInt then b else a) pc ∧
    s.delivers t c (.nvMul t c rd r1 r2) rd (a * b) pc ∧
    s.delivers t c (.nvMulh t c rd r1 r2) rd (BitVec.ofInt 32 (a.toInt * b.toInt / 2 ^ 32)) pc ∧
    s.delivers t c (.nvMulhu t c rd r1 r2) rd (BitVec.ofNat 32 (a.toNat * b.toNat / 2 ^ 32)) pc ∧
    s.delivers t c (.nvQadd t c rd r1 r2) rd (BitVec.ofInt 32 (clampInt (-2 ^ 31) (2 ^ 31 - 1) (a.toInt + b.toInt))) pc ∧
    s.delivers t c (.nvQsub t c rd r1 r2) rd (BitVec.ofInt 32 (clampInt (-2 ^ 31) (2 ^ 31 - 1) (a.toInt - b.toInt))) pc ∧
    s.delivers t c (.nvQmul t c rd r1 r2) rd
      (BitVec.ofInt 32 (clampInt (-2 ^ 31) (2 ^ 31 - 1) ((a.toInt * b.toInt + 2 ^ 30) / 2 ^ 31))) pc ∧
    s.delivers t c (.nvQmac t c rd r1 r2) rd (BitVec.ofInt 32 (clampInt (-2 ^ 31) (2 ^ 31 - 1)
      (((s.core c).reg rd).toInt + (a.toInt * b.toInt + 2 ^ 30) / 2 ^ 31))) pc) ∧
  (∀ (s : State) (t : Nat) (c : Fin 2) (rd r1 sh : Fin 32) (imm : BitVec 16) (a pc : Word), s.runs t c = true →
    a = (s.core c).reg r1 → pc = (s.core c).pc + 4 →
    s.delivers t c (.nvSlli t c rd r1 sh) rd (a <<< sh.val) pc ∧ s.delivers t c (.nvSrli t c rd r1 sh) rd (a >>> sh.val) pc ∧
    s.delivers t c (.nvSrai t c rd r1 sh) rd (a.sshiftRight sh.val) pc ∧
    s.delivers t c (.nvClz t c rd r1) rd (BitVec.ofNat 32 (if a = 0 then 32 else 31 - Nat.log2 a.toNat)) pc ∧
    s.delivers t c (.nvPopc t c rd r1) rd (BitVec.ofNat 32 ((List.range 32).filter (fun i => a.getLsbD i)).length) pc ∧
    s.delivers t c (.nvRevb t c rd r1) rd (BitVec.ofNat 32 (a.toNat % 256 * 16777216 + a.toNat / 256 % 256 * 65536 +
      a.toNat / 65536 % 256 * 256 + a.toNat / 16777216)) pc ∧
    s.delivers t c (.nvAddi t c rd r1 imm) rd (a + imm.signExtend 32) pc ∧
    s.delivers t c (.nvAndi t c rd r1 imm) rd (a &&& imm.zeroExtend 32) pc ∧
    s.delivers t c (.nvOri t c rd r1 imm) rd (a ||| imm.zeroExtend 32) pc ∧
    s.delivers t c (.nvXori t c rd r1 imm) rd (a ^^^ imm.zeroExtend 32) pc ∧
    s.delivers t c (.nvSlti t c rd r1 imm) rd (if a.toInt < imm.toInt then 1 else 0) pc ∧
    s.delivers t c (.nvSltiu t c rd r1 imm) rd (if a.toNat < (imm.signExtend 32).toNat then 1 else 0) pc ∧
    s.delivers t c (.nvLui t c rd imm) rd (BitVec.ofNat 32 (imm.toNat * 65536)) pc ∧
    s.delivers t c (.nvQneg t c rd r1) rd (BitVec.ofInt 32 (clampInt (-2 ^ 31) (2 ^ 31 - 1) (-a.toInt))) pc ∧
    s.delivers t c (.nvQabs t c rd r1) rd (BitVec.ofInt 32 (clampInt (-2 ^ 31) (2 ^ 31 - 1) a.toInt.natAbs)) pc ∧
    (1 ≤ sh.val → sh.val ≤ 30 → s.delivers t c (.nvSats t c rd r1 sh) rd
      (BitVec.ofInt 32 (clampInt (-2 ^ sh.val) (2 ^ sh.val - 1) a.toInt)) pc)) ∧
  (∀ (s : State) (t : Nat) (c : Fin 2) (rd r1 pos w1 : Fin 32) (a o pc : Word), s.runs t c = true → pos.val + w1.val < 32 →
    a = (s.core c).reg r1 → o = (s.core c).reg rd → pc = (s.core c).pc + 4 →
    s.delivers t c (.nvExtu t c rd r1 pos w1) rd (BitVec.ofNat 32 (a.toNat / 2 ^ pos.val % 2 ^ (w1.val + 1))) pc ∧
    s.delivers t c (.nvExts t c rd r1 pos w1) rd
      (BitVec.ofInt 32 (sgn (w1.val + 1) (a.toNat / 2 ^ pos.val % 2 ^ (w1.val + 1)))) pc ∧
    s.delivers t c (.nvIns t c rd r1 pos w1) rd (BitVec.ofNat 32 (o.toNat / 2 ^ (pos.val + w1.val + 1) *
      2 ^ (pos.val + w1.val + 1) + a.toNat % 2 ^ (w1.val + 1) * 2 ^ pos.val + o.toNat % 2 ^ pos.val)) pc) ∧
  (∀ (s : State) (t : Nat) (c : Fin 2) (rd r1 r2 : Fin 32) (a b : Word) (u : Word → State), s.runs t c = true →
    a = (s.core c).reg r1 → b = (s.core c).reg r2 →
    (∀ q, u q = (s.issued t c).setCore c { (s.issued t c).core c with busy := .divide rd q }) →
    exec (.nvDiv t c rd r1 r2) s = .next (u (if b = 0 then 4294967295 else BitVec.ofInt 32 (Int.tdiv a.toInt b.toInt))) ∧
    exec (.nvDivu t c rd r1 r2) s = .next (u (if b = 0 then 4294967295 else a / b)) ∧
    exec (.nvRem t c rd r1 r2) s = .next (u (if b = 0 then a else BitVec.ofInt 32 (Int.tmod a.toInt b.toInt))) ∧
    exec (.nvRemu t c rd r1 r2) s = .next (u (if b = 0 then a else a % b))) ∧
  (∀ (s : State) (t : Nat) (c : Fin 2),
    (∀ rd v, (s.core c).busy = .divide rd v → (s.core c).regOk rd v = true → exec (.divideComplete t c) s =
      .next ((s.touch t).setCore c { (({ s.core c with busy := .idle } : Nave).setReg rd v) with pc := (s.core c).pc + 4 })) ∧
    ((s.core c).busy = .idle → exec (.divideComplete t c) s = .next (s.touch t)))

/-- Loads, stores, branches and jumps (R380, R381): an aligned access with its right outside the peripheral range moves the bytes at rs1
+ imm, a load extending them, a store writing exactly them; a misaligned address raises ALIGN and a missing right MPU; branches and
jumps go to their targets, a link taking the next pc. -/
def Obligations.NaveMemoryAndJumps : Prop :=
  (∀ (s : State) (t : Nat) (c : Fin 2) (r r1 : Fin 32) (imm : BitVec 16) (a : Nat) (v pc : Word), s.runs t c = true →
    a = s.effAddr c r1 imm → v = (s.core c).reg r → pc = (s.core c).pc + 4 → regionOf a ≠ .periph →
    (s.accesses c a .word false = true → s.delivers t c (.nvLw t c r r1 imm) r (BitVec.ofNat 32 (s.memRead 4 a)) pc) ∧
    (s.accesses c a .half false = true →
      s.delivers t c (.nvLh t c r r1 imm) r ((BitVec.ofNat 16 (s.memRead 2 a)).signExtend 32) pc ∧
      s.delivers t c (.nvLhu t c r r1 imm) r ((BitVec.ofNat 16 (s.memRead 2 a)).zeroExtend 32) pc) ∧
    (s.accesses c a .byte false = true →
      s.delivers t c (.nvLb t c r r1 imm) r ((BitVec.ofNat 8 (s.memRead 1 a)).signExtend 32) pc ∧
      s.delivers t c (.nvLbu t c r r1 imm) r ((BitVec.ofNat 8 (s.memRead 1 a)).zeroExtend 32) pc) ∧
    (s.accesses c a .word true = true → exec (.nvSw t c r r1 imm) s = .next (s.stored t c a (leBytes 4 v.toNat))) ∧
    (s.accesses c a .half true = true → exec (.nvSh t c r r1 imm) s = .next (s.stored t c a (leBytes 2 v.toNat))) ∧
    (s.accesses c a .byte true = true → exec (.nvSb t c r r1 imm) s = .next (s.stored t c a (leBytes 1 v.toNat)))) ∧
  (∀ (s : State) (t a b : Nat) (c : Nat) (l : List Byte), ¬(a ≤ b ∧ b < a + l.length) → (s.stored t c a l).byte b = s.byte b) ∧
  (∀ (s : State) (t : Nat) (c : Fin 2) (r r1 : Fin 32) (imm : BitVec 16) (a : Nat), s.runs t c = true →
    a = s.effAddr c r1 imm →
    (a % 4 ≠ 0 → exec (.nvLw t c r r1 imm) s = .next (s.excepted t c 4 0 (BitVec.ofNat 32 a) (s.core c).pc) ∧
      exec (.nvSw t c r r1 imm) s = .next (s.excepted t c 4 0 (BitVec.ofNat 32 a) (s.core c).pc)) ∧
    (a % 2 ≠ 0 → exec (.nvLh t c r r1 imm) s = .next (s.excepted t c 4 0 (BitVec.ofNat 32 a) (s.core c).pc) ∧
      exec (.nvLhu t c r r1 imm) s = .next (s.excepted t c 4 0 (BitVec.ofNat 32 a) (s.core c).pc) ∧
      exec (.nvSh t c r r1 imm) s = .next (s.excepted t c 4 0 (BitVec.ofNat 32 a) (s.core c).pc)) ∧
    (a % 4 = 0 → (s.core c).right c (s.core c).kernel .read a = false →
      exec (.nvLw t c r r1 imm) s = .next (s.excepted t c 5 0 (BitVec.ofNat 32 a) (s.core c).pc)) ∧
    (a % 4 = 0 → (s.core c).right c (s.core c).kernel .write a = false →
      exec (.nvSw t c r r1 imm) s = .next (s.excepted t c 5 0 (BitVec.ofNat 32 a) (s.core c).pc))) ∧
  (∀ (s : State) (t : Nat) (c : Fin 2) (r1 r2 : Fin 32) (off : BitVec 16) (a b pc dest : Word), s.runs t c = true →
    a = (s.core c).reg r1 → b = (s.core c).reg r2 → pc = (s.core c).pc + 4 →
    dest = (s.core c).pc + off.signExtend 32 * 4 →
    exec (.nvBeq t c r1 r2 off) s = .next (s.jumped t c (if a = b then dest else pc)) ∧
    exec (.nvBne t c r1 r2 off) s = .next (s.jumped t c (if a = b then pc else dest)) ∧
    exec (.nvBlt t c r1 r2 off) s = .next (s.jumped t c (if a.toInt < b.toInt then dest else pc)) ∧
    exec (.nvBge t c r1 r2 off) s = .next (s.jumped t c (if a.toInt < b.toInt then pc else dest)) ∧
    exec (.nvBltu t c r1 r2 off) s = .next (s.jumped t c (if a.toNat < b.toNat then dest else pc)) ∧
    exec (.nvBgeu t c r1 r2 off) s = .next (s.jumped t c (if a.toNat < b.toNat then pc else dest))) ∧
  (∀ (s : State) (t : Nat) (c : Fin 2) (rd r1 : Fin 32) (off : BitVec 26) (imm : BitVec 16), s.runs t c = true →
    exec (.nvJ t c off) s = .next (s.jumped t c ((s.core c).pc + off.signExtend 32 * 4)) ∧
    s.delivers t c (.nvJal t c off) 30 ((s.core c).pc + 4) ((s.core c).pc + off.signExtend 32 * 4) ∧
    s.delivers t c (.nvJalr t c rd r1 imm) rd ((s.core c).pc + 4)
      (((s.core c).reg r1 + imm.signExtend 32) &&& 0xFFFFFFFC))

/-- The system instructions (R359, R366, R372, R382 to R384): SYSCALL and BREAK raise their vectors; at kernel level ERET restores the
frame, MFCR and MTCR move the control registers and WFI waits; at task level a kernel-only instruction raises PRIV; a reserved
encoding, an unlisted or a read-only control register raise ILLEGAL, and a fetch without its right IFETCH. -/
def Obligations.NaveSystem : Prop :=
  (∀ (s : State) (t : Nat) (c : Fin 2), s.runs t c = true →
    (∀ arg, exec (.nvSyscall t c arg) s = .next (s.excepted t c 7 0 (arg.zeroExtend 32) ((s.core c).pc + 4))) ∧
    exec (.nvBreak t c) s = .next (s.excepted t c 8 0 0 (s.core c).pc) ∧
    ((s.core c).kernel = true → exec (.nvWfi t c) s =
      .next ((s.issued t c).setCore c { (s.issued t c).core c with wfi := true, pc := (s.core c).pc + 4 })) ∧
    ((s.core c).kernel = false →
      exec (.nvWfi t c) s = .next (s.excepted t c 3 0 (wordOf .nvWfi) (s.core c).pc) ∧
      exec (.nvEret t c) s = .next (s.excepted t c 3 0 (wordOf .nvEret) (s.core c).pc) ∧
      (∀ rd, exec (.nvMfcr t c rd 0) s = .next (s.excepted t c 3 0 (wordOf (.nvMfcr rd 0)) (s.core c).pc)) ∧
      (∀ r1, exec (.nvMtcr t c r1 0) s = .next (s.excepted t c 3 0 (wordOf (.nvMtcr r1 0)) (s.core c).pc)))) ∧
  (∀ (s : State) (t : Nat) (c : Fin 2) (sp : Nat), s.runs t c = true → (s.core c).kernel = true →
    sp = (s.core c).spK.toNat → sp % 8 = 0 → sp + 32 ≤ (s.core c).splimHi.toNat →
    (∀ k ∈ [0, 4, 16, 24, 28], (s.core c).right c true .read (sp + k) = true) →
    ∃ u, exec (.nvEret t c) s = .next u ∧ (u.core c).spK = (s.core c).spK + 32 ∧
      (u.core c).pc = BitVec.ofNat 32 (s.memRead 4 sp) &&& 0xFFFFFFFC ∧
      (u.core c).status = BitVec.ofNat 32 (s.memRead 4 (sp + 4)) &&& 0x103 ∧
      (u.core c).reg 30 = BitVec.ofNat 32 (s.memRead 4 (sp + 16)) ∧
      (u.core c).reg 1 = BitVec.ofNat 32 (s.memRead 4 (sp + 24)) ∧
      (u.core c).reg 2 = BitVec.ofNat 32 (s.memRead 4 (sp + 28)) ∧
      (∀ r : Fin 32, r ≠ 1 → r ≠ 2 → r ≠ 30 → r ≠ 31 → (u.core c).reg r = (s.core c).reg r) ∧
      u.mem = s.mem ∧ s.onlyRegs u []) ∧
  (∀ (s : State) (t : Nat) (c : Fin 2) (r : Fin 32) (n : BitVec 8) (x pc : Word), s.runs t c = true →
    (s.core c).kernel = true → x = (s.core c).reg r → pc = (s.core c).pc + 4 →
    s.delivers t c (.nvMfcr t c r 0x00) r (s.core c).status pc ∧ s.delivers t c (.nvMfcr t c r 0x01) r (s.core c).cause pc ∧
    s.delivers t c (.nvMfcr t c r 0x02) r (s.core c).tval pc ∧ s.delivers t c (.nvMfcr t c r 0x03) r (s.core c).vbase pc ∧
    s.delivers t c (.nvMfcr t c r 0x09) r (BitVec.ofNat 32 c.val) pc ∧
    (x &&& ~~~0x103 = 0 → exec (.nvMtcr t c r 0x00) s =
      .next ((s.issued t c).setCore c { (s.issued t c).core c with status := x, pc := pc })) ∧
    (x &&& ~~~0x103 ≠ 0 →
      exec (.nvMtcr t c r 0x00) s = .next (s.excepted t c 2 0 (wordOf (.nvMtcr r 0)) (s.core c).pc)) ∧
    ((s.core c).spOk false x = true → exec (.nvMtcr t c r 0x04) s =
      .next ((s.issued t c).setCore c { (s.issued t c).core c with spT := x, pc := pc })) ∧
    ((s.core c).spOk false x = false → exec (.nvMtcr t c r 0x04) s = .next (s.excepted t c 6 0 x (s.core c).pc)) ∧
    (0x30 ≤ n.toNat ∨ (0x0C ≤ n.toNat ∧ n.toNat < 0x10) →
      exec (.nvMfcr t c r n) s = .next (s.excepted t c 2 0 (wordOf (.nvMfcr r n)) (s.core c).pc) ∧
      exec (.nvMtcr t c r n) s = .next (s.excepted t c 2 0 (wordOf (.nvMtcr r n)) (s.core c).pc))) ∧
  (∀ (s : State) (t : Nat) (c : Fin 2) (w : Word),
    (s.runs t c = true → decodeNave w.toNat = none →
      exec (.illegalInstruction t c w) s = .next (s.excepted t c 2 0 w (s.core c).pc)) ∧
    ((decodeNave w.toNat).isSome = true → exec (.illegalInstruction t c w) s = .next (s.touch t)) ∧
    (s.fetchOk c = false → (s.touch t).issues c = true → s.breakHit c = none →
      exec (.ifetchFault t c) s = .next (s.excepted t c 1 0 (s.core c).pc (s.core c).pc)) ∧
    (s.fetchOk c = true → exec (.ifetchFault t c) s = .next (s.touch t)))

/-- Taking an exception or interrupt (R364, R365, R370, R403): the frame of Table 20.3 goes below SP_K, the core goes to kernel level
with IE 0, and the pc to the entry of the vector in the vector base; a frame that cannot be pushed is LOCKOUT with its F3; an
interrupt is the lowest eligible source, whose pending bit clears. -/
def Obligations.NaveTakesExceptions : Prop :=
  (∀ (s : State) (t : Nat) (c : Fin 2) (arg : BitVec 12) (sp : Nat), s.runs t c = true →
    sp = (s.core c).spK.toNat → sp % 8 = 0 → 32 ≤ sp → (s.core c).splimLo.toNat ≤ sp - 32 → sp ≤ (s.core c).splimHi.toNat →
    (∀ k ∈ [0, 4, 8, 12, 16, 20, 24, 28], (s.core c).right c true .write (sp - 32 + k) = true) →
    ∃ u, exec (.nvSyscall t c arg) s = .next u ∧ (u.core c).spK = (s.core c).spK - 32 ∧
      (u.core c).pc = (s.core c).vbase + 0x70 ∧ (u.core c).tval = arg.zeroExtend 32 ∧
      (u.core c).kernel = true ∧ (u.core c).ie = false ∧ (u.core c).mpuOn = (s.core c).mpuOn ∧
      (u.core c).cause = BitVec.ofNat 32 (7 + (if (s.core c).kernel then 0 else 2147483648)) ∧
      u.bytes 4 (sp - 32) = leBytes 4 ((s.core c).pc + 4).toNat ∧ u.bytes 4 (sp - 28) = leBytes 4 (s.core c).status.toNat ∧
      u.bytes 4 (sp - 16) = leBytes 4 ((s.core c).reg 30).toNat ∧ u.bytes 4 (sp - 8) = leBytes 4 ((s.core c).reg 1).toNat ∧
      u.bytes 4 (sp - 4) = leBytes 4 ((s.core c).reg 2).toNat ∧
      (∀ a, a < sp - 32 ∨ sp ≤ a → u.byte a = s.byte a) ∧ (u.core c).g = (s.core c).g ∧ s.onlyRegs u []) ∧
  (∀ (s : State) (t : Nat) (c : Fin 2) (arg : BitVec 12), s.runs t c = true → (s.core c).spK.toNat % 8 ≠ 0 →
    ∃ u, exec (.nvSyscall t c arg) s = .next u ∧ u.lockedOut c = true ∧ u.get Fld.SYS_NV_STATE_CHECK c = 1 ∧
      u.get Fld.SYS_NV_STATE_VECTOR c = 7 ∧ u.get Fld.SYS_NV_PC_PC c = (s.core c).pc.toNat ∧ u.armed c = false ∧
      u.bitOf Fld.FLT_DEV_F3CORE 0 c = true ∧ u.mem = s.mem) ∧
  (∀ (s : State) (t : Nat) (c : Fin 3), (s.touch t).nextSource c = none → exec (.irqEntry t c) s = .next (s.touch t)) ∧
  (∀ (s : State) (t src sp : Nat) (c : Fin 2), (s.touch t).nextSource c = some src → (s.core c).running = true →
    (s.core c).ie = true → s.halted c = false → s.lockedOut c = false → (s.touch t).powered = true → s.pow.inReset = false →
    sp = (s.core c).spK.toNat → sp % 8 = 0 → 32 ≤ sp → (s.core c).splimLo.toNat ≤ sp - 32 → sp ≤ (s.core c).splimHi.toNat →
    (∀ k ∈ [0, 4, 8, 12, 16, 20, 24, 28], (s.core c).right c true .write (sp - 32 + k) = true) →
    ∃ u, exec (.irqEntry t (Fin.ofNat 3 c.val)) s = .next u ∧ (u.core c).pc = (s.core c).vbase + 0xA0 ∧
      (u.core c).spK = (s.core c).spK - 32 ∧ (u.core c).ie = false ∧ (u.core c).kernel = true ∧
      (u.core c).tval = BitVec.ofNat 32 src ∧ u.isPend src = false ∧
      u.get Fld.IRQ_TAKEN_SRC c = src ∧ u.get Fld.IRQ_TAKEN_VALID c = 1 ∧
      u.bytes 4 (sp - 32) = leBytes 4 (s.core c).pc.toNat) ∧
  (∀ (s : State) (t src : Nat), (s.touch t).nextSource 2 = some src → (s.touch t).powered = true → s.pow.inReset = false →
    ∃ u, exec (.irqEntry t 2) s = .next u ∧ u.isPend src = false ∧ u.get Fld.IRQ_TAKEN_SRC 2 = src ∧
      u.get Fld.IRQ_TAKEN_VALID 2 = 1 ∧ u.mem = s.mem ∧ u.nave0 = s.nave0 ∧ u.nave1 = s.nave1)

/-- Moves, Q31 and binary32 (R390, R391, R397, R399): each operation writes its one result and sets its flags unless one of them traps,
which raises DAMASK and writes none; dqdiv, fdiv, fsqrt and fir block the core until they complete, and a squash aborts them. -/
def Obligations.DamaskArithmetic : Prop :=
  (∀ (s : State) (t : Nat) (c : Fin 2) (x y z : Fin 32) (a b d : Word) (m : Damask), s.runs t c = true → m = (s.core c).dm →
    a = m.reg x → b = m.reg y → d = m.reg z →
    s.delivers t c (.dkDmfd t c x y) x b ((s.core c).pc + 4) ∧
    s.delivers t c (.dkDmfs t c x) x (BitVec.ofNat 32 m.status) ((s.core c).pc + 4) ∧
    s.damask t c (.dkDmtd t c x y) 0 0 0 (fun k => k.setReg x ((s.core c).reg y)) ∧
    s.damask t c (.dkDmts t c y) 0 0 0
      (fun k => { k with status := ((s.core c).reg y).toNat % 64 + ((s.core c).reg y).toNat / 256 % 64 * 256 }) ∧
    s.damask t c (.dkDqadd t c x y z) (wordOf (.dkDqadd x y z)) 0 (satQ (b.toInt + d.toInt)).flags
      (fun k => k.setReg x (satQ (b.toInt + d.toInt)).v) ∧
    s.damask t c (.dkDqsub t c x y z) (wordOf (.dkDqsub x y z)) 0 (satQ (b.toInt - d.toInt)).flags
      (fun k => k.setReg x (satQ (b.toInt - d.toInt)).v) ∧
    s.damask t c (.dkDqmul t c x y z) (wordOf (.dkDqmul x y z)) 0 (satQ ((b.toInt * d.toInt + 2 ^ 30) / 2 ^ 31)).flags
      (fun k => k.setReg x (satQ ((b.toInt * d.toInt + 2 ^ 30) / 2 ^ 31)).v) ∧
    (∀ p q : Flagged, p = satQ ((b.toInt * d.toInt + 2 ^ 30) / 2 ^ 31) → q = satQ (a.toInt + p.v.toInt) →
      s.damask t c (.dkDqmac t c x y z) (wordOf (.dkDqmac x y z)) 0 (Nat.lor q.flags p.flags) (fun k => k.setReg x q.v)) ∧
    s.damask t c (.dkFadd t c x y z) (wordOf (.dkFadd x y z)) 1 (faddW s.freeWord b d).flags
      (fun k => k.setReg x (faddW s.freeWord b d).v) ∧
    s.damask t c (.dkFsub t c x y z) (wordOf (.dkFsub x y z)) 1 (fsubW s.freeWord b d).flags
      (fun k => k.setReg x (fsubW s.freeWord b d).v) ∧
    s.damask t c (.dkFmul t c x y z) (wordOf (.dkFmul x y z)) 1 (fmulW s.freeWord b d).flags
      (fun k => k.setReg x (fmulW s.freeWord b d).v) ∧
    s.damask t c (.dkFmac t c x y z) (wordOf (.dkFmac x y z)) 1 (fmacW s.freeWord a b d).flags
      (fun k => k.setReg x (fmacW s.freeWord a b d).v) ∧
    s.damask t c (.dkFtoq t c x y) (wordOf (.dkFtoq x y)) 1 (ftoqW s.freeWord b).flags
      (fun k => k.setReg x (ftoqW s.freeWord b).v) ∧
    s.damask t c (.dkQtof t c x y) (wordOf (.dkQtof x y)) 0 (qtofW b).flags (fun k => k.setReg x (qtofW b).v)) ∧
  (∀ (s : State) (t : Nat) (c : Fin 2) (x y z : Fin 32) (u : Nat → Nat → State), s.runs t c = true →
    (∀ fn w, u fn w = (s.issued t c).setCore c { (s.issued t c).core c with busy := .damask fn x y w }) →
    exec (.dkDqdiv t c x y z) s = .next (u 0x14 z) ∧ exec (.dkFdiv t c x y z) s = .next (u 0x24 z) ∧
    exec (.dkFsqrt t c x y) s = .next (u 0x25 0) ∧ exec (.dkFir t c x y) s = .next (u 0x44 0)) ∧
  (∀ (s : State) (t : Nat) (c : Fin 2) (x y z : Fin 32) (m : Damask) (a b : Int), m = (s.core c).dm →
    bits m.status 8 6 = 0 → a = (m.reg y).toInt → b = (m.reg z).toInt →
    ((s.core c).busy = .damask 0x14 x y z → ∃ u q, exec (.damaskLongComplete t c) s = .next u ∧ (u.core c).busy = .idle ∧
      (u.core c).pc = (s.core c).pc + 4 ∧ (u.core c).dm.reg x = q ∧
      (∀ r : Fin 32, r ≠ x → (u.core c).dm.reg r = m.reg r) ∧
      (b = 0 → 0 < a → q = 2147483647 ∧ (u.core c).dm.status.testBit 2 = true) ∧
      (b = 0 → a < 0 → q = 2147483648 ∧ (u.core c).dm.status.testBit 2 = true) ∧
      (b ≠ 0 → a.natAbs < b.natAbs → (q.toInt * b - a * 2 ^ 31).natAbs < b.natAbs ∨ q = 2147483647)) ∧
    ((s.core c).busy = .damask 0x24 x y z → ∃ u, exec (.damaskLongComplete t c) s = .next u ∧ (u.core c).busy = .idle ∧
      (u.core c).pc = (s.core c).pc + 4 ∧ (u.core c).dm.reg x = (fdivW s.freeWord (m.reg y) (m.reg z)).v ∧
      (u.core c).dm.status = Nat.lor m.status (fdivW s.freeWord (m.reg y) (m.reg z)).flags) ∧
    ((s.core c).busy = .damask 0x25 x y 0 → ∃ u, exec (.damaskLongComplete t c) s = .next u ∧ (u.core c).busy = .idle ∧
      (u.core c).pc = (s.core c).pc + 4 ∧ (u.core c).dm.reg x = (fsqrtW s.freeWord (m.reg y)).v ∧
      (u.core c).dm.status = Nat.lor m.status (fsqrtW s.freeWord (m.reg y)).flags) ∧
    ((s.core c).busy = .damask 0x44 x y 0 → ∃ u, exec (.damaskLongComplete t c) s = .next u ∧ (u.core c).busy = .idle ∧
      (u.core c).pc = (s.core c).pc + 4 ∧ (u.core c).dm.firWord 64 = m.reg y ∧
      (∀ k, k < 63 → (u.core c).dm.firWord (65 + k) = m.firWord (64 + k)) ∧
      (∀ k, k < 64 → (u.core c).dm.firWord k = m.firWord k)) ∧
    ((s.core c).busy = .damask 0x14 x y z → exec (.squash t c) s =
      .next ((s.touch t).setCore c { s.core c with busy := .idle })) ∧
    ((s.core c).busy = .idle → exec (.damaskLongComplete t c) s = .next (s.touch t) ∧
      exec (.squash t c) s = .next (s.touch t)))

/-- Transforms, controller sections and what reaches outside (R390, R393 to R396): a transform comes within 2 LSB of its ideal value, a
section step within one unit of its exact sums, with the states it leaves; loads, stores, tracker reads and duties move their words. -/
def Obligations.DamaskTransforms : Prop :=
  (∀ (s : State) (t : Nat) (c : Fin 2) (x y z : Fin 32) (i : Nat → Int), s.runs t c = true →
    (∀ k, i k = ((s.core c).dm.reg k).toInt) → evenReg x = true → evenReg y = true → evenReg z = true →
    (∃ p q : Int, (p * 2 ^ 31 - (i y * i z - i (y.val + 1) * i (z.val + 1))).natAbs ≤ 2 ^ 32 ∧
      (q * 2 ^ 31 - (i y * i (z.val + 1) + i (y.val + 1) * i z)).natAbs ≤ 2 ^ 32 ∧
      s.damask t c (.dkCmul t c x y z) (wordOf (.dkCmul x y z)) 2 (Nat.lor (satQ p).flags (satQ q).flags)
        (fun k => (k.setReg x (satQ p).v).setReg (x.val + 1) (satQ q).v)) ∧
    (∃ p q : Int, (p * 2 ^ 31 - (i y * i (z.val + 1) + i (y.val + 1) * i z)).natAbs ≤ 2 ^ 32 ∧
      (q * 2 ^ 31 - (i (y.val + 1) * i (z.val + 1) - i y * i z)).natAbs ≤ 2 ^ 32 ∧
      s.damask t c (.dkPark t c x y z) (wordOf (.dkPark x y z)) 2 (Nat.lor (satQ p).flags (satQ q).flags)
        (fun k => (k.setReg x (satQ p).v).setReg (x.val + 1) (satQ q).v)) ∧
    (∃ p q : Int, (p * 2 ^ 31 - (i y * i (z.val + 1) - i (y.val + 1) * i z)).natAbs ≤ 2 ^ 32 ∧
      (q * 2 ^ 31 - (i y * i z + i (y.val + 1) * i (z.val + 1))).natAbs ≤ 2 ^ 32 ∧
      s.damask t c (.dkIpark t c x y z) (wordOf (.dkIpark x y z)) 2 (Nat.lor (satQ p).flags (satQ q).flags)
        (fun k => (k.setReg x (satQ p).v).setReg (x.val + 1) (satQ q).v))) ∧
  (∀ (s : State) (t : Nat) (c : Fin 2) (x y : Fin 32) (i : Nat → Int), s.runs t c = true →
    (∀ k, i k = ((s.core c).dm.reg k).toInt) → evenReg x = true →
    (y.val ≤ 29 → ∃ p : Int, ∃ q : Flagged, (3 * p - (2 * i y - i (y.val + 1) - i (y.val + 2))).natAbs ≤ 6 ∧
      q = sqrt3Out (s.free + 1) (i (y.val + 1) - i (y.val + 2)) ∧
      s.damask t c (.dkClarke t c x y) (wordOf (.dkClarke x y)) 2 (Nat.lor (satQ p).flags q.flags)
        (fun k => (k.setReg x (satQ p).v).setReg (x.val + 1) q.v)) ∧
    s.damask t c (.dkSincos t c x y) (wordOf (.dkSincos x y)) 2 0
      (fun k => (k.setReg x (trigOut s.free (sinCos ((s.core c).reg y).toNat).1)).setReg (x.val + 1)
        (trigOut (s.free + 1) (sinCos ((s.core c).reg y).toNat).2)) ∧
    s.damask t c (.dkDtrk t c x y) (wordOf (.dkDtrk x y)) 0
      (if (s.core c).dm.newBits.testBit (((s.core c).reg y).toNat % 64) then 0 else 32)
      (fun k => (({ k with newBits := clrBit k.newBits (((s.core c).reg y).toNat % 64) } : Damask).setReg x
        (BitVec.ofNat 32 (s.get Fld.ANG_ANGLE_LO_ANGLE (((s.core c).reg y).toNat % 64)))).setReg (x.val + 1)
          (BitVec.ofNat 32 (s.get Fld.ANG_FREQ_FREQ (((s.core c).reg y).toNat % 64))))) ∧
  (∀ (s : State) (t : Nat) (c : Fin 2) (x y z : Fin 32) (e : Int) (k : Nat → Int), s.runs t c = true →
    e = ((s.core c).dm.reg y).toInt → (∀ n, k n = ((s.core c).dm.sec z n).toInt) →
    (∃ o a b : Int, (o * 2 ^ 29 - (k 0 * e + k 5 * 2 ^ 31)).natAbs < 2 ^ 29 ∧
      (a * 2 ^ 31 - (k 1 * e - k 3 * (satQ o).v.toInt + k 6 * 2 ^ 31)).natAbs < 2 ^ 31 ∧
      (b * 2 ^ 31 - (k 2 * e - k 4 * (satQ o).v.toInt)).natAbs < 2 ^ 31 ∧
      s.damask t c (.dkBq t c x y z) (wordOf (.dkBq x y z)) 3
        (Nat.lor (satQ o).flags (Nat.lor (satQ a).flags (satQ b).flags))
        (fun m => ((m.setReg x (satQ o).v).setSec z 5 (satQ a).v).setSec z 6 (satQ b).v)) ∧
    (∃ r o : Int, (r * 2 ^ 31 - (4 * (k 2 * k 5) - k 6 * 2 ^ 31 + k 1 * e)).natAbs < 2 ^ 31 ∧
      (o * 2 ^ 29 - (k 0 * e + (satQ r).v.toInt * 2 ^ 31)).natAbs < 2 ^ 29 ∧
      s.damask t c (.dkPr t c x y z) (wordOf (.dkPr x y z)) 2 (Nat.lor (satQ o).flags (Nat.lor (satQ r).flags 0))
        (fun m => ((m.setReg x (satQ o).v).setSec z 5 (satQ r).v).setSec z 6 ((s.core c).dm.sec z 5))) ∧
    (y.val < 8 → s.damask t c (.dkDsecr t c x y z) 0 0 0 (fun m => m.setReg x (m.sec z y)) ∧
      s.damask t c (.dkDsecw t c x y z) 0 0 0 (fun m => m.setSec z y (m.reg x))) ∧
    s.damask t c (.dkFirw t c x y) 0 0 0 (fun m => m.setFir (((s.core c).reg y).toNat % 128) (m.reg x))) ∧
  (∀ (s : State) (t : Nat) (c : Fin 2) (x y z : Fin 32) (a : Nat), s.runs t c = true →
    a = ((s.core c).reg y + BitVec.ofNat 32 (4 * z.val)).toNat → regionOf a ≠ .periph →
    (s.accesses c a .word false = true →
      s.damask t c (.dkDld t c x y z) 0 0 0 (fun m => m.setReg x (BitVec.ofNat 32 (s.memRead 4 a)))) ∧
    (s.accesses c a .word true = true → exec (.dkDst t c x y z) s =
      .next (s.stored t c a (leBytes 4 ((s.core c).dm.reg x).toNat)))) ∧
  (∀ (s : State) (t n v p : Nat) (c : Fin 2) (x y : Fin 32) (d : Int), s.runs t c = true →
    n = ((s.core c).reg y).toNat % 256 → d = ((s.core c).dm.reg x).toInt → p = s.get Fld.EDG_CNV_PERIOD_SH_PERIOD v →
    (s.legConv n = none → exec (.dkDedg t c x y) s = .next (s.excepted t c 9 6 (wordOf (.dkDedg x y)) (s.core c).pc)) ∧
    (s.legConv n = some v → s.hasRec 0x0011 v = true → s.cnvOwner v = c.val → 0 ≤ d →
      ∃ u on, exec (.dkDedg t c x y) s = .next u ∧ on = (2 * (p * (2147483648 - d.toNat)) + 4294967296) / 8589934592 ∧
        u.get Fld.EDG_LEG_ON_SH_OFFSET n = on % 2 ^ Fld.EDG_LEG_ON_SH_OFFSET.width ∧
        u.get Fld.EDG_LEG_OFF_SH_OFFSET n = (p - on) % 2 ^ Fld.EDG_LEG_OFF_SH_OFFSET.width ∧
        (u.core c).pc = (s.core c).pc + 4 ∧
        s.onlyRegs u [(Fld.EDG_LEG_ON_SH_OFFSET, n), (Fld.EDG_LEG_OFF_SH_OFFSET, n)]))

/-- The interrupt controller (R401, R404 to R408): SET and CLR act on the bits written as 1 whose sources are the writer's; a doorbell
is raised with its sender's code; a pin's filtered level follows FILT equal samples and its edges raise its source; a hold-off ends
when its time has passed. -/
def Obligations.InterruptController : Prop :=
  (∀ (s : State) (a : Acc) (g : Fin 32) (v : Word),
    (irqWriter a = none → exec (.irqPendSet a g v) s = .next (s.touch a.t).busErr ∧
      exec (.irqPendClr a g v) s = .next (s.touch a.t).busErr ∧ exec (.irqEnSet a g v) s = .next (s.touch a.t).busErr ∧
      exec (.irqEnClr a g v) s = .next (s.touch a.t).busErr) ∧
    (∀ w, irqWriter a = some w →
      (∃ u, exec (.irqPendSet a g v) s = .next u ∧ u.resp.status = .ok ∧ ∀ i, i < 32 → u.isPend (32 * g.val + i) =
        (s.isPend (32 * g.val + i) || (v.toNat.testBit i && (w == 2 || s.route (32 * g.val + i) == w)))) ∧
      (∃ u, exec (.irqPendClr a g v) s = .next u ∧ u.resp.status = .ok ∧ s.onlyRegs u [(Fld.IRQ_PEND_PEND, g.val)] ∧
        ∀ i, i < 32 → u.isPend (32 * g.val + i) = (s.isPend (32 * g.val + i) &&
          !(v.toNat.testBit i && (w == 2 || s.route (32 * g.val + i) == w)))) ∧
      (∃ u, exec (.irqEnSet a g v) s = .next u ∧ u.resp.status = .ok ∧ s.onlyRegs u [(Fld.IRQ_EN_EN, g.val)] ∧
        ∀ i, i < 32 → u.isEn (32 * g.val + i) = (s.isEn (32 * g.val + i) || (v.toNat.testBit i &&
          (w == 2 || s.route (32 * g.val + i) == w)))) ∧
      (∃ u, exec (.irqEnClr a g v) s = .next u ∧ u.resp.status = .ok ∧ s.onlyRegs u [(Fld.IRQ_EN_EN, g.val)] ∧
        ∀ i, i < 32 → u.isEn (32 * g.val + i) = (s.isEn (32 * g.val + i) && !(v.toNat.testBit i &&
          (w == 2 || s.route (32 * g.val + i) == w)))))) ∧
  (∀ (s : State) (a : Acc) (v : Word),
    (v.toNat < 896 ∨ 1024 ≤ v.toNat → exec (.irqDoorbell a v) s = .next (s.touch a.t).busErr) ∧
    (896 ≤ v.toNat → v.toNat < 1024 → s.Inv → ∃ u, exec (.irqDoorbell a v) s = .next u ∧ u.resp.status = .ok ∧
      u.isPend v.toNat = true ∧
      bits (u.get Fld.IRQ_DB_SENDER_SENDER ((v.toNat - 896) / 8)) (4 * (v.toNat % 8)) 4 = senderCode a)) ∧
  (∀ (s : State) (t : Nat) (p : Fin 32) (level x : Bool), x = s.pinLevelAt p level →
    (s.pinTick p t = false → exec (.gpioInputSample t p level) s = .next (s.touch t)) ∧
    ((s.pinOf p).out = false → x = level) ∧ ((s.pinOf p).out = true → x = (s.pinOf p).level) ∧
    (s.pinTick p t = true → ∃ u, exec (.gpioInputSample t p level) s = .next u ∧
      (x = s.flag Fld.IRQ_PIN_CFG_LEVEL p → u.flag Fld.IRQ_PIN_CFG_LEVEL p = x ∧ (u.pinOf p).count = 0) ∧
      (x ≠ s.flag Fld.IRQ_PIN_CFG_LEVEL p → (s.pinOf p).count + 1 < s.get Fld.IRQ_PIN_CFG_FILT p →
        u.flag Fld.IRQ_PIN_CFG_LEVEL p = !x ∧ (u.pinOf p).count = (s.pinOf p).count + 1) ∧
      (x ≠ s.flag Fld.IRQ_PIN_CFG_LEVEL p → s.get Fld.IRQ_PIN_CFG_FILT p ≤ (s.pinOf p).count + 1 →
        u.flag Fld.IRQ_PIN_CFG_LEVEL p = x ∧ (u.pinOf p).count = 0 ∧
        (s.get Fld.IRQ_PIN_CFG_SENSE p = 3 ∨ (s.get Fld.IRQ_PIN_CFG_SENSE p = 1 ∧ x = true) ∨
          (s.get Fld.IRQ_PIN_CFG_SENSE p = 2 ∧ x = false) → u.isPend (864 + p.val) = true) ∧
        (s.get Fld.IRQ_PIN_CFG_SENSE p = 0 → u.isPend (864 + p.val) = s.isPend (864 + p.val))))) ∧
  (∀ (s : State) (t : Nat) (g : Fin 32) (d : Fin 3),
    (Table.get 0 s.irq.hold (3 * g.val + d.val) ≤ t → ∃ u, exec (.irqHoldoffEnd t g d) s = .next u ∧
      u.bitOf Fld.IRQ_GRP_STATUS_HELD g d = false ∧ s.onlyRegs u [(Fld.IRQ_GRP_STATUS_HELD, g.val)]) ∧
    (t < Table.get 0 s.irq.hold (3 * g.val + d.val) → exec (.irqHoldoffEnd t g d) s = .next (s.touch t)))

/-- Mailboxes (R414 to R421): a commit copies COUNT words with the sender's code and is FULL under a ticket, a collision with a full one
counted; the receiver takes and only it; the sender withdraws; a message still FULL after TMO counts a timeout and stays. -/
def Obligations.Mailboxes : Prop :=
  (∀ (s : State) (a : Acc) (m : Fin 64) (v : Word) (n : Nat),
    (stageOf a = none ∨ s.hasMbx m = false ∨ bits v.toNat 5 3 ≠ 0 ∨ bits v.toNat 20 12 ≠ 0 ∨
        (6 < bits v.toNat 16 4 ∧ bits v.toNat 16 4 ≠ 15) →
      exec (.mbxHdrCommit a m v) s = .next (s.touch a.t).busErr) ∧
    (∀ k, stageOf a = some k → s.hasMbx m = true → bits v.toNat 5 3 = 0 → bits v.toNat 20 12 = 0 →
        bits v.toNat 16 4 ≤ 6 ∨ bits v.toNat 16 4 = 15 → n = v.toNat % 32 →
      (n = 0 ∨ 16 < n → ∃ u, exec (.mbxHdrCommit a m v) s = .next u ∧ u.resp.status = .busErr ∧
        u.get Fld.MBX_STAGE_STATUS_BADCOUNT k = 1 ∧ s.onlyRegs u [(Fld.MBX_STAGE_STATUS_BADCOUNT, k)]) ∧
      (0 < n → n ≤ 16 → s.Inv → ∃ u, exec (.mbxHdrCommit a m v) s = .next u ∧ u.resp.status = .ok ∧ u.mbxFull m = true ∧
        (∀ w, w < n → u.get Fld.MBX_DATA_DATA (16 * m.val + w) = s.get Fld.MBX_STAGE_DATA (16 * k + w)) ∧
        (∀ w, n ≤ w → w < 16 → u.get Fld.MBX_DATA_DATA (16 * m.val + w) = s.get Fld.MBX_DATA_DATA (16 * m.val + w)) ∧
        u.get Fld.MBX_HDR_COUNT m = n ∧ u.get Fld.MBX_HDR_KIND m = bits v.toNat 8 8 ∧
        u.get Fld.MBX_HDR_SENDER m = senderCode a ∧ u.isPend (784 + m.val) = true ∧
        (s.mbxFull m = true → u.get Fld.MBX_STATUS_COLLISION m = 1 ∧
          u.get Fld.MBX_CNT_COLLISIONS m = satSucc Fld.MBX_CNT_COLLISIONS.width (s.get Fld.MBX_CNT_COLLISIONS m)) ∧
        (s.mbxFull m = false → u.get Fld.MBX_CNT_COLLISIONS m = s.get Fld.MBX_CNT_COLLISIONS m)))) ∧
  (∀ (s : State) (a : Acc) (m : Fin 64),
    (s.mbxReceiver a m = false → exec (.mbxTake a m) s = .next (s.touch a.t).busErr) ∧
    (s.mbxReceiver a m = true → s.mbxFull m = false → exec (.mbxTake a m) s = .next (s.touch a.t).ok) ∧
    (s.mbxReceiver a m = true → s.mbxFull m = true → ∃ u, exec (.mbxTake a m) s = .next u ∧ u.resp.status = .ok ∧
      u.mbxFull m = false ∧ u.get Fld.MBX_STATUS_TAKEN m = 1 ∧ (u.mbxOf m).ticket = none ∧ (u.mbxOf m).till = none ∧
      (s.flag Fld.MBX_CFG_NOTEN m = true → u.isPend (s.get Fld.MBX_CFG_NOTIFY m) = true)) ∧
    (s.mbxSender a m = false ∨ s.mbxFull m = false → exec (.mbxWithdraw a m) s = .next (s.touch a.t).busErr) ∧
    (s.mbxSender a m = true → s.mbxFull m = true → ∃ u, exec (.mbxWithdraw a m) s = .next u ∧ u.resp.status = .ok ∧
      u.mbxFull m = false ∧ u.get Fld.MBX_STATUS_WITHDRAWN m = 1 ∧ (u.mbxOf m).ticket = none)) ∧
  (∀ (s : State) (t : Nat) (m : Fin 64),
    (∀ x, (s.mbxOf m).till = some x → x ≤ t → s.mbxFull m = true → ∃ u, exec (.mbxTimeout t m) s = .next u ∧
      u.mbxFull m = true ∧ (u.mbxOf m).till = none ∧ u.get Fld.MBX_STATUS_TIMEOUT m = 1 ∧
      u.get Fld.MBX_CNT_TIMEOUTS m = satSucc Fld.MBX_CNT_TIMEOUTS.width (s.get Fld.MBX_CNT_TIMEOUTS m)) ∧
    ((s.mbxOf m).till = none ∨ s.mbxFull m = false ∨ (∃ x, (s.mbxOf m).till = some x ∧ t < x) →
      exec (.mbxTimeout t m) s = .next (s.touch t)))

/-- Provisioning and release (R371, R373, R430): before LOCK the host alone latches a slot and a USE, programs an empty slot once all
its words are written, and locks; Chancel alone writes SYS_NV_RELEASE, and a release ends with the core reset, or refused where the
instruction TCM does not hash as recorded. -/
def Obligations.ChancelProvisions : Prop :=
  (∀ (s : State) (a : Acc) (slot : Fin 16) (use : Byte) (ok : Bool), s.provOpen a = false →
    exec (.provLatch a slot use) s = .next (s.touch a.t).busErr ∧ exec (.provGo a) s = .next (s.touch a.t).busErr ∧
    exec (.provLock a ok) s = .next (s.touch a.t).busErr) ∧
  (∀ (s : State) (a : Acc) (slot : Fin 16) (use : Byte), s.provOpen a = true →
    (∃ u, exec (.provLatch a slot use) s = .next u ∧ u.resp.status = .ok ∧ u.chn.provSlot = slot ∧
      u.chn.provUse = use.toNat ∧ u.chn.provMask = 0 ∧ u.chn.slots = s.chn.slots ∧ s.onlyRegs u []) ∧
    (s.chn.provSlot = 0 ∨ (s.keySlot s.chn.provSlot).use ≠ 0 ∨ s.chn.provMask ≠ 65535 ∨
        s.chn.provUse ∉ [0x0F, 0x33, 0x3C] →
      ∃ u, exec (.provGo a) s = .next u ∧ u.resp.status = .ok ∧ u.get Fld.SYS_CHN_PROV_RES_PRES 0 = 2 ∧
        u.chn.provBusy = false ∧ u.chn.slots = s.chn.slots) ∧
    (s.chn.provSlot ≠ 0 → (s.keySlot s.chn.provSlot).use = 0 → s.chn.provMask = 65535 →
      s.chn.provUse = 0x0F ∨ s.chn.provUse = 0x33 ∨ s.chn.provUse = 0x3C → ∃ u, exec (.provGo a) s = .next u ∧
        u.resp.status = .ok ∧ u.chn.provBusy = true ∧ u.get Fld.SYS_CHN_PROV_RES_PRES 0 = 0) ∧
    ((s.keySlot 0).use ≠ 0 ∨ s.chn.provDirty = true ∨ (∀ k, k < 16 → (s.keySlot k).use ≠ 0x0F) →
      ∀ ok, ∃ u, exec (.provLock a ok) s = .next u ∧ u.resp.status = .ok ∧ u.get Fld.SYS_CHN_PROV_RES_PRES 0 = 2 ∧
        u.chn.lock = s.chn.lock) ∧
    ((s.keySlot 0).use = 0 → s.chn.provDirty = false → (∃ k, k < 16 ∧ (s.keySlot k).use = 0x0F) → s.jnl.ready = true →
      s.jnl.queue = [] → s.get Fld.JNL_PIN_STATUS_FULL 0 = 0 → s.flag Fld.SYS_CHN_STATUS_TRNGFAIL 0 = false →
      s.pinFits 4 = true → (∀ k, k < 2 → (Table.get {} s.chn.tamper k).pend = false) →
      (∀ p, p < 4 → s.flag Fld.MTR_PORT_STATUS_SEALPEND p = false) → ∃ u, exec (.provLock a true) s = .next u ∧
        u.resp.status = .ok ∧ u.chn.lock = true ∧ u.get Fld.SYS_CHN_STATUS_LOCK 0 = 1 ∧ (u.keySlot 0).use = 0x55 ∧
        u.get Fld.SYS_CHN_PROV_RES_PRES 0 = 1)) ∧
  (∀ (s : State) (ok : Bool),
    (s.chn.provBusy = false → exec (.provProgramDone ok) s = .next s) ∧
    (s.chn.provBusy = true → ∃ u, exec (.provProgramDone true) s = .next u ∧ u.chn.provBusy = false ∧
      u.keySlot s.chn.provSlot = ⟨s.chn.provUse, s.provBits⟩ ∧ u.get Fld.SYS_CHN_PROV_RES_PRES 0 = 1) ∧
    (s.chn.provBusy = true → ∃ u, exec (.provProgramDone false) s = .next u ∧ u.chn.provBusy = false ∧
      u.get Fld.SYS_CHN_PROV_RES_PRES 0 = 3)) ∧
  (∀ (s : State) (a : Acc) (v : Word),
    (a.m ≠ .chancel ∨ 4 ≤ v.toNat → exec (.sysNvRelease a v) s = .next (s.touch a.t).busErr) ∧
    (a.m = .chancel → v.toNat < 4 → ∃ u, exec (.sysNvRelease a v) s = .next u ∧ u.resp.status = .ok ∧
      (∀ c, c < 2 → u.chn.release.testBit c =
        (s.chn.release.testBit c || (v.toNat.testBit c && s.lockedOut c))) ∧ s.onlyRegs u [])) ∧
  (∀ (s : State) (t : Nat) (c : Fin 2),
    (s.chn.release.testBit c = false → exec (.naveReleaseDone t c) s = .next (s.touch t)) ∧
    (s.chn.release.testBit c = true → Config.sha256 (s.bytes 0x40000 (itcmBase c)) = Table.get 0 s.chn.itcmHash c →
      ∃ u, exec (.naveReleaseDone t c) s = .next u ∧ u.lockedOut c = false ∧ u.chn.release.testBit c = false ∧
        u.core c = { Nave.init c with running := true, since := (s.touch t).tb } ∧
        (∀ x, dtcmBase c ≤ x → x < dtcmBase c + 0x40000 → u.byte x = 0) ∧
        (∀ x, x < dtcmBase c ∨ dtcmBase c + 0x40000 ≤ x → u.byte x = s.byte x)) ∧
    (s.chn.release.testBit c = true → Config.sha256 (s.bytes 0x40000 (itcmBase c)) ≠ Table.get 0 s.chn.itcmHash c →
      ∃ u, exec (.naveReleaseDone t c) s = .next u ∧ u.get Fld.SYS_NV_STATE_RELREF c = 1 ∧ u.lockedOut c = s.lockedOut c ∧
        u.core c = s.core c ∧ u.mem = s.mem))

/-- Services and tamper (R427, R431, R434, R435, R439, R440, R495): FLOOR rises to the image's SEQ, never falls, and is full after 64; a
RESTART message of a kernel level or the host enters SAFE-HOLD; two bad probes open a tamper event and two good ones close it; a
failed TRNG raises F2; TESTEN stays latched. -/
def Obligations.ChancelServes : Prop :=
  (∀ (s : State) (t : Nat) (m : Fin 64), s.chnMbx m = false ∨ s.get Fld.MBX_HDR_KIND m = 2 →
    exec (.floor t m) s = .next (s.touch t)) ∧
  (∀ (s : State) (t : Nat) (m : Fin 64), s.chnMbx m = true → s.Inv →
    (s.get Fld.MBX_HDR_KIND m = 1 → s.get Fld.MBX_HDR_SENDER m = 1 ∨ s.get Fld.MBX_HDR_SENDER m = 3 →
      ∃ u, exec (.floor t m) s = .next u ∧ u.mbxFull m = false ∧
        s.get Fld.SYS_CHN_FLOOR_FLOOR 0 ≤ u.get Fld.SYS_CHN_FLOOR_FLOOR 0 ∧
        (s.get Fld.SYS_CHN_FLOOR_FLOOR 0 < s.get Fld.VST_IMG_SEQ_SEQ 0 → s.chn.floors.length < 64 →
          u.get Fld.SYS_CHN_FLOOR_FLOOR 0 = s.get Fld.VST_IMG_SEQ_SEQ 0 ∧ u.get Fld.SYS_CHN_RES_RESULT 0 = 1) ∧
        (s.get Fld.SYS_CHN_FLOOR_FLOOR 0 < s.get Fld.VST_IMG_SEQ_SEQ 0 → 64 ≤ s.chn.floors.length →
          u.get Fld.SYS_CHN_FLOOR_FLOOR 0 = s.get Fld.SYS_CHN_FLOOR_FLOOR 0 ∧ u.get Fld.SYS_CHN_RES_RESULT 0 = 3)) ∧
    (s.get Fld.MBX_HDR_KIND m = 1 → s.get Fld.MBX_HDR_SENDER m ≠ 1 → s.get Fld.MBX_HDR_SENDER m ≠ 3 →
      ∃ u, exec (.floor t m) s = .next u ∧ u.mbxFull m = false ∧ u.get Fld.SYS_CHN_RES_RESULT 0 = 2 ∧
        u.get Fld.SYS_CHN_FLOOR_FLOOR 0 = s.get Fld.SYS_CHN_FLOOR_FLOOR 0) ∧
    (s.get Fld.MBX_HDR_KIND m = 2 →
      s.get Fld.MBX_HDR_SENDER m = 1 ∨ s.get Fld.MBX_HDR_SENDER m = 3 ∨ s.get Fld.MBX_HDR_SENDER m = 5 →
      ∃ u, exec (.restart t m) s = .next u ∧ u.mbxFull m = false ∧ u.pow.restartHold = true ∧ u.pow.restartAt = t ∧
        u.pow.restartTicket = some (s.get Fld.MBX_STATUS_TICKET m) ∧ (s.pow.st = .run → u.pow.st = .safeHold)) ∧
    (s.get Fld.MBX_HDR_KIND m = 2 → s.get Fld.MBX_HDR_SENDER m = 0 → ∃ u, exec (.restart t m) s = .next u ∧
      u.get Fld.SYS_CHN_RES_RESULT 0 = 2 ∧ u.pow = s.pow) ∧
    (s.get Fld.MBX_HDR_KIND m ≠ 2 → exec (.restart t m) s = .next (s.touch t))) ∧
  (∀ (s : State) (t : Nat), ∃ u, exec (.trngHealthFail t) s = .next u ∧ u.get Fld.SYS_CHN_STATUS_TRNGFAIL 0 = 1 ∧
    u.get Fld.FLT_EVT_F2 0 = 1) ∧
  (∀ (s : State) (t : Nat) (k : Fin 2) (v : Tamper), v = Table.get {} s.chn.tamper k →
    (s.pow.under = false ∨ s.tamperArmed k = false ∨ s.probeDue k = false →
      ∀ w, exec (.tamperProbe t k w) s = .next (s.touch t)) ∧
    (s.pow.under = true → s.tamperArmed k = true → s.probeDue k = true →
      (v.isOpen = false → v.bad = 0 → ∀ w : ProbeLevels, w.third = false ∨ w.after = true →
        ∃ u, exec (.tamperProbe t k w) s = .next u ∧
        Table.get {} u.chn.tamper k = { v with bad := 1, good := 0, probeAt := some s.ucrTime } ∧ s.onlyRegs u []) ∧
      (v.isOpen = false → v.bad = 1 → ∀ w : ProbeLevels, w.third = false ∨ w.after = true →
        ∃ u, exec (.tamperProbe t k w) s = .next u ∧
        (Table.get {} u.chn.tamper k).isOpen = true ∧ u.get Fld.SYS_TAMPER_OPEN k = 1 ∧
        u.get Fld.SYS_TAMPER_COUNT k = Nat.min 255 (v.count + 1) % 2 ^ Fld.SYS_TAMPER_COUNT.width ∧
        (v.pend = false → (Table.get {} u.chn.tamper k).firstOpen = s.ucrTime)) ∧
      (v.isOpen = true → v.good = 1 → ∃ u, exec (.tamperProbe t k ⟨true, false⟩) s = .next u ∧
        (Table.get {} u.chn.tamper k).isOpen = false ∧ u.get Fld.SYS_TAMPER_OPEN k = 0 ∧
        (Table.get {} u.chn.tamper k).lastClose = s.ucrTime ∧ (Table.get {} u.chn.tamper k).count = v.count))) ∧
  (∀ (s : State) (t : Nat),
    (s.dbg.testen = true → exec (.testenAssert t) s = .next (s.touch t)) ∧
    (s.dbg.testen = false → ∃ u, exec (.testenAssert t) s = .next u ∧ u.dbg.testen = true ∧
      u.get Fld.DBG_STATUS_TESTEN 0 = 1 ∧ u.get Fld.SYS_CHN_EVAL_TESTEN 0 = 1))

/-- The journal (R448, R449, R459): only the host and Chancel acknowledge, which frees the pinned groups up to a SEQ and none after it;
the mirror copies the oldest waiting record and stops after three mismatches; a queued group that does not fit is PINFULL. -/
def Obligations.JournalKeeps : Prop :=
  (∀ (s : State) (a : Acc) (v : Word),
    (a.m ≠ .host → a.m ≠ .chancel → exec (.jnlPinAck a v) s = .next (s.touch a.t).busErr) ∧
    (a.m = .host ∨ a.m = .chancel → s.jnl.queue = [] → (∀ k, k < 2 → (Table.get {} s.chn.tamper k).pend = false) →
      (∀ p, p < 4 → s.flag Fld.MTR_PORT_STATUS_SEALPEND p = false) → s.chn.lockWait = false →
      s.flag Fld.JNL_CFG_MIRROR 0 = false → ∃ u, exec (.jnlPinAck a v) s = .next u ∧ u.resp.status = .ok ∧
        (∀ g, g ∈ u.jnl.grps ↔ g ∈ s.jnl.grps ∧ ¬(g.inPinned = true ∧ seqLe g.seq v.toNat = true)) ∧
        u.get Fld.JNL_PIN_STATUS_FULL 0 = 0)) ∧
  (∀ (s : State) (t tk : Nat) (g : JGrp) (rest : List JGrp), s.jnl.pass = some tk → s.jnl.stopped = false →
    s.jnl.grps = g :: rest → s.jnl.archive = [] → g.inPinned = false → g.kind ≠ 0x28 → 0 < g.unmirrored →
    (∀ h ∈ rest, h.inPinned = false) →
    (∃ u, exec (.mirrorRecordCopy t true) s = .next u ∧ u.get Fld.JNL_MIR_SEQ_SEQ 0 = (g.seq + g.mir) % 4294967296 ∧
      Table.get [] u.jnl.fram s.jnl.mring = Table.get [] s.jnl.slots (g.slots.getD g.mir 0) ∧
      u.jnl.mring = (if s.jnl.mring + 1 < 16384 then s.jnl.mring + 1 else 4096)) ∧
    (s.jnl.retry < 2 → ∃ u, exec (.mirrorRecordCopy t false) s = .next u ∧ u.jnl = { s.jnl with retry := s.jnl.retry + 1 } ∧
      s.onlyRegs u []) ∧
    (s.jnl.retry = 2 → ∃ u, exec (.mirrorRecordCopy t false) s = .next u ∧ u.jnl.stopped = true ∧
      u.jnl.fram = s.jnl.fram ∧ u.get Fld.JNL_EVT_MIRFAIL 0 = 1)) ∧
  (∀ (s : State) (t : Nat),
    (s.jnl.queue = [] → exec (.pinnedAreaFull t) s = .next (s.touch t)) ∧
    (∀ q rest, s.jnl.queue = q :: rest → s.canSign = false ∨ s.pinFits (q.conts.length + 4) = true →
      exec (.pinnedAreaFull t) s = .next (s.touch t)) ∧
    (∀ q rest, s.jnl.queue = q :: rest → s.canSign = true → s.pinFits (q.conts.length + 4) = false →
      ∃ u, exec (.pinnedAreaFull t) s = .next u ∧ u.get Fld.JNL_PIN_STATUS_FULL 0 = 1 ∧
        u.get Fld.JNL_EVT_JNL_PINFULL 0 = 1 ∧ u.jnl = s.jnl))

/-- AUTOREL ends a SAFE-HOLD of F4 once its causes have been clear for 1 s (R478); FLT_CNV_CLR by the owner at kernel level releases F1 and F2 where
every condition of R477 holds and otherwise changes no latch and sets CLRREF; the owner takes a leg out of service and returns it
(R484). A FLT_CNV_CLR, OUT or IN of a master that is not the owner's kernel level is discarded with a bus error (R487). -/
def Obligations.FabricReleases : Prop :=
  ((∀ (s : State) (t : Nat), s.pow.st = .safeHold → s.flag Fld.FLT_DEV_AUTOREL 0 = true → s.flag Fld.FLT_DEV_F4 0 = true →
     s.flag Fld.CLK_STATUS_PLLT_LOCK 0 = true → s.flag Fld.CLK_STATUS_PLLS_OK 0 = true →
     s.flag Fld.SYS_CHN_STATUS_KATFAIL 0 = false → s.pow.f4ClearAt + ftuSec ≤ t →
     ∃ u, exec (.safeHoldAutoRelease t) s = .next u ∧ u.get Fld.FLT_DEV_F4 0 = 0 ∧
       u.pow.st = (if s.pow.pfailHold || s.pow.restartHold then .safeHold else .run)) ∧
   (∀ (s : State) (t : Nat), t < s.pow.f4ClearAt + ftuSec → exec (.safeHoldAutoRelease t) s = .next (s.touch t)) ∧
   (∀ (s : State) (a : Acc) (c : Fin 256), s.hasRec 0x0011 c = true → isKernel a (s.cnvOwner c) = true →
     ∃ u, exec (.fltCnvClr a c) s = .next u ∧ u.resp.status = .ok ∧
       (s.cnvClearable c = true → u.get Fld.FLT_CNV_F1 c = 0 ∧ u.get Fld.FLT_CNV_F2 c = 0 ∧
         s.onlyRegs u [(Fld.FLT_CNV_F1, c), (Fld.FLT_CNV_F2, c), (Fld.FLT_CNV_CAUSE, c), (Fld.EDG_CNV_STATUS_STATE, c)]) ∧
       (s.cnvClearable c = false → u.get Fld.FLT_EVT_CLRREF 0 = 1 ∧ u.bitOf Fld.IRQ_PEND_PEND 0 7 = true ∧
         s.onlyRegs u [(Fld.FLT_EVT_CLRREF, 0), (Fld.IRQ_PEND_PEND, 0), (Fld.IRQ_GRP_STATUS_COALESCED, 0)])) ∧
   (∀ (s : State) (a : Acc) (n : Fin 256) (c : Nat), s.legConv n = some c → isKernel a (s.cnvOwner c) = true →
     ∃ u, exec (.legOut a n) s = .next u ∧ u.resp.status = .ok ∧ u.legOut n = true ∧
       (∀ m, m < 256 → m ≠ n.val → u.legOut m = s.legOut m) ∧ s.onlyRegs u [(Fld.FLT_OUT_OUT, n.val / 32)]) ∧
   (∀ (s : State) (a : Acc) (n : Fin 256) (c : Nat), s.legConv n = some c → isKernel a (s.cnvOwner c) = true →
     ∃ u, exec (.legIn a n) s = .next u ∧ u.resp.status = .ok ∧ u.legOut n = false ∧ s.onlyRegs u [(Fld.FLT_OUT_OUT, n.val / 32)])) ∧
  (∀ (s : State) (a : Acc), (∀ c : Fin 256, isKernel a (s.cnvOwner c) = false →
       exec (.fltCnvClr a c) s = .next (s.touch a.t).busErr) ∧
     (∀ (n : Fin 256) (c : Nat), s.legConv n = some c → isKernel a (s.cnvOwner c) = false →
       exec (.legOut a n) s = .next (s.touch a.t).busErr ∧ exec (.legIn a n) s = .next (s.touch a.t).busErr))

/-- Halt, resume and step (R492, R496): the debug port halts a core, whose converters go to rank 1 without a fault, resumes it into
WAIT, steps it to a halt with CAUSE 4, and writes the pc and registers of a halted core; another master gets a bus error. The test
access port and the SPI host port (R488 to R491, R516, R517): a code selects its instruction, those of the pins only while RSTN
holds the reset; DBGACC and the host access the map with their own master's rights; a transaction broken off early makes only a
write that has all its bits; a command other than the two is ignored to the end of its transaction. -/
def Obligations.DebugAndHostPorts : Prop :=
  ((∀ (s : State) (a : Acc) (c : Fin 2), a.m ≠ .debug →
     exec (.debugHalt a c) s = .next (s.touch a.t).busErr ∧ exec (.debugResume a c) s = .next (s.touch a.t).busErr ∧
     exec (.debugStep a c) s = .next (s.touch a.t).busErr ∧ (∀ v, exec (.dbgPcWrite a c v) s = .next (s.touch a.t).busErr) ∧
     ∀ r v, exec (.dbgGregWrite a c r v) s = .next (s.touch a.t).busErr) ∧
   (∀ (s : State) (a : Acc) (c : Fin 2), s.powered = false ∨ s.pow.inReset = true →
     exec (.debugHalt a c) s = .next (s.touch a.t).busErr ∧ exec (.debugResume a c) s = .next (s.touch a.t).busErr ∧
     exec (.debugStep a c) s = .next (s.touch a.t).busErr) ∧
   (∀ (s : State) (a : Acc) (c : Fin 2), a.m = .debug → s.powered = true → s.pow.inReset = false →
     ((s.core c).running = true → s.halted c = false → ∃ u, exec (.debugHalt a c) s = .next u ∧ u.resp.status = .ok ∧
       u.halted c = true ∧ u.get Fld.DBG_CORE_STATUS_CAUSE c = 1 ∧ u.get Fld.SYS_NV_STATE_HALT c = 1 ∧
       (u.core c).pc = (s.core c).pc ∧ (u.core c).g = (s.core c).g ∧
       (∀ v, s.hasRec 0x0011 v = true → v < 256 → s.cnvOwner v = c.val → s.cnvState v = cvRun → s.rank2 v = false →
         u.cnvState v = cvSafe)) ∧
     ((s.core c).running = false ∨ s.halted c = true → exec (.debugHalt a c) s = .next (s.touch a.t).ok) ∧
     (s.halted c = true → ∃ u, exec (.debugResume a c) s = .next u ∧ u.resp.status = .ok ∧ u.halted c = false ∧
       u.get Fld.DBG_CORE_STATUS_CAUSE c = 0 ∧ u.get Fld.SYS_NV_STATE_HALT c = 0 ∧ u.core c = s.core c) ∧
     (s.halted c = false → exec (.debugResume a c) s = .next (s.touch a.t).ok ∧
       exec (.debugStep a c) s = .next (s.touch a.t).ok) ∧
     (s.halted c = true → s.lockedOut c = false → (s.core c).running = true → (s.core c).busy = .idle → s.fetchOk c = true →
       s.fetchWord c = wordOf (.nvAddi 1 1 1) → ∃ u, exec (.debugStep a c) s = .next u ∧ u.resp.status = .ok ∧
         u.halted c = true ∧ u.get Fld.DBG_CORE_STATUS_CAUSE c = 4 ∧ (u.core c).pc = (s.core c).pc + 4 ∧
         (u.core c).reg 1 = (s.core c).reg 1 + 1)) ∧
   (∀ (s : State) (a : Acc) (c : Fin 2) (v : Word), a.m = .debug →
     (s.halted c = false ∨ v.toNat % 4 ≠ 0 ∨ regionOf v.toNat ≠ .itcm c →
       exec (.dbgPcWrite a c v) s = .next (s.touch a.t).busErr) ∧
     (s.halted c = true → v.toNat % 4 = 0 → regionOf v.toNat = .itcm c →
       exec (.dbgPcWrite a c v) s = .next (((s.touch a.t).setCore c { s.core c with pc := v }).ok)) ∧
     (∀ r, s.halted c = false ∨ (s.core c).regOk r v = false → exec (.dbgGregWrite a c r v) s = .next (s.touch a.t).busErr) ∧
     (∀ r, s.halted c = true → (s.core c).regOk r v = true →
       exec (.dbgGregWrite a c r v) s = .next (((s.touch a.t).setCore c ((s.core c).setReg r v)).ok)))) ∧
  ((∀ s : State, s.pow.st = .off ∨ s.pow.st = .vigil →
     exec .jtagExtest s = .next s ∧ exec .jtagSamplePreload s = .next s ∧ exec .jtagClamp s = .next s ∧
     exec .jtagHighz s = .next s ∧ exec .jtagDebug s = .next s ∧ ∀ code, exec (.jtagBypass code) s = .next s) ∧
   (∀ s : State, s.pow.st ≠ .off → s.pow.st ≠ .vigil →
     (s.pow.inReset = true → s.pow.rstn = false → exec .jtagExtest s = .next (s.setIr .extest) ∧
       exec .jtagClamp s = .next (s.setIr .clamp) ∧ exec .jtagHighz s = .next (s.setIr .highz)) ∧
     (s.pow.inReset = false ∨ s.pow.rstn = true → ∀ i ∈ [Instr.jtagExtest, .jtagClamp, .jtagHighz],
       ∃ u, exec i s = .next u ∧ u.dbg.ir = .bypass ∧ u.get Fld.DBG_STATUS_SCANREF 0 = 1 ∧
         s.onlyRegs u [(Fld.DBG_STATUS_SCANREF, 0)]) ∧
     exec .jtagSamplePreload s = .next (s.setIr .sample) ∧ exec .jtagDebug s = .next (s.setIr .debug) ∧
     (∀ code : Fin 256, code.val ∉ [0x00, 0x02, 0x04, 0x05, 0x10] → exec (.jtagBypass code) s = .next (s.setIr .bypass))) ∧
   (∀ s : State, exec .testLogicReset s = .next (s.setIr .bypass)) ∧
   (∀ (s : State) (t : Nat) (addr v : Word),
     (s.dbg.ir ≠ .debug ∨ s.dbg.resp.status = .stall → exec (.dbgaccRead t addr) s = .next (s.touch t) ∧
       exec (.dbgaccWrite t addr v) s = .next (s.touch t)) ∧
     (s.pow.st = .run → s.pow.inReset = false → s.dbg.ir = .debug → s.dbg.resp.status ≠ .stall → addr.toNat % 4 = 0 →
       regionOf addr.toNat = .sram → (∃ u, exec (.dbgaccRead t addr) s = .next u ∧
         u.dbg.resp = ⟨.ok, BitVec.ofNat 32 (s.memRead 4 addr.toNat)⟩ ∧ u.resp = s.resp ∧ u.mem = s.mem) ∧
       (∃ u, exec (.dbgaccWrite t addr v) s = .next u ∧ u.dbg.resp.status = .ok ∧ u.resp = s.resp ∧
         u.bytes 4 addr.toNat = leBytes 4 v.toNat))) ∧
   (∀ (s : State) (t : Nat) (addr v : Word),
     (s.dbg.spiIgnore = true ∨ s.dbg.hostWait = true → exec (.spiHostRead t addr) s = .next (s.touch t) ∧
       exec (.spiHostWrite t addr v) s = .next (s.touch t)) ∧
     (s.pow.st = .run → s.pow.inReset = false → addr.toNat % 4 = 0 → regionOf addr.toNat = .sram →
       s.dbg.spiIgnore = false → s.dbg.hostWait = false →
       (∃ u, exec (.spiHostRead t addr) s = .next u ∧ u.resp = ⟨.ok, BitVec.ofNat 32 (s.memRead 4 addr.toNat)⟩ ∧
         u.mem = s.mem) ∧
       (∃ u, exec (.spiHostWrite t addr v) s = .next u ∧ u.resp.status = .ok ∧
         u.bytes 4 addr.toNat = leBytes 4 v.toNat ∧
         ∀ x, x < addr.toNat ∨ addr.toNat + 4 ≤ x → u.byte x = s.byte x) ∧
       (∃ u, exec (.spiHostCsRise t true addr v 32) s = .next u ∧ u.bytes 4 addr.toNat = leBytes 4 v.toNat ∧
         u.dbg.spiIgnore = false) ∧
       (∀ w n, w = false ∨ n < 32 → ∃ u, exec (.spiHostCsRise t w addr v n) s = .next u ∧ u.mem = s.mem ∧ s.onlyRegs u [] ∧
         u.dbg.spiIgnore = false ∧ u.dbg.hostWait = false))) ∧
   (∀ (s : State) (cmd : Byte), (cmd ≠ 0x0B → cmd ≠ 0x02 →
       exec (.spiHostOtherCommand cmd) s = .next { s with dbg := { s.dbg with spiIgnore := true } }) ∧
     (cmd = 0x0B ∨ cmd = 0x02 → exec (.spiHostOtherCommand cmd) s = .next s)))

/-- No command stops: each row of the table answers a next state from every state with every operand, and leaves the queue as it
is. -/
def Obligations.EveryCommandAnswers : Prop :=
  ∀ (i : Instr) (s : State), ∃ t, exec i s = .next t ∧ t.pending = s.pending
end

