-- ==== Sys2Proof/Laws/Tables.lean ====
section
/-!
SUPPORT. Sys2Proof/Laws/Tables.lean: the tables of State: reading after writing, and that every operation keeps the
canonical form.
-/

set_option Elab.async false

namespace Sys2Proof.Machine

theorem Table.get_ins_same {α : Type} (d : α) (t : Table α) (k : Nat) (v : α) :
    Table.get d (Table.ins k v t) k = v := by
  induction t with
  | nil => simp [Table.ins, Table.get]
  | cons e t ih =>
    obtain ⟨k', v'⟩ := e
    unfold Table.ins
    split
    · simp [Table.get]
    · split
      · simp [Table.get]
      · rename_i h
        simp [Table.get, h, ih]

theorem Table.get_ins_ne {α : Type} (d : α) (t : Table α) {k j : Nat} (v : α) (h : j ≠ k) :
    Table.get d (Table.ins k v t) j = Table.get d t j := by
  induction t with
  | nil => simp [Table.ins, Table.get, Ne.symm h]
  | cons e t ih =>
    obtain ⟨k', v'⟩ := e
    unfold Table.ins
    split
    · simp [Table.get, Ne.symm h]
    · split
      · rename_i hk
        simp [Table.get, hk, Ne.symm h]
      · simp [Table.get, ih]

theorem Table.get_del_same {α : Type} (d : α) (t : Table α) (k : Nat) : Table.get d (Table.del k t) k = d := by
  induction t with
  | nil => rfl
  | cons e t ih =>
    obtain ⟨k', v'⟩ := e
    unfold Table.del
    split
    · exact ih
    · rename_i h
      simp [Table.get, h, ih]

theorem Table.get_del_ne {α : Type} (d : α) (t : Table α) {k j : Nat} (h : j ≠ k) :
    Table.get d (Table.del k t) j = Table.get d t j := by
  induction t with
  | nil => rfl
  | cons e t ih =>
    obtain ⟨k', v'⟩ := e
    unfold Table.del
    split
    · rename_i hk
      simp [Table.get, hk, Ne.symm h, ih]
    · simp [Table.get, ih]

/-- A table reads at a written key what was written, whatever the default it is read with is, where that is its own. -/
@[simp] theorem Table.get_set_same {α : Type} [DecidableEq α] (d : α) (t : Table α) (k : Nat) (v : α) :
    Table.get d (Table.set d t k v) k = v := by
  unfold Table.set
  split
  · rename_i h
    rw [Table.get_del_same, h]
  · exact Table.get_ins_same d t k v

/-- A write leaves every other key alone. -/
theorem Table.get_set_ne {α : Type} [DecidableEq α] (d d' : α) (t : Table α) {k j : Nat} (v : α) (h : j ≠ k) :
    Table.get d' (Table.set d t k v) j = Table.get d' t j := by
  unfold Table.set
  split
  · exact Table.get_del_ne d' t h
  · exact Table.get_ins_ne d' t v h

/-- Reading any key after a write. -/
theorem Table.get_set {α : Type} [DecidableEq α] (d : α) (t : Table α) (k j : Nat) (v : α) :
    Table.get d (Table.set d t k v) j = if j = k then v else Table.get d t j := by
  split
  · rename_i h
    rw [h, Table.get_set_same]
  · rename_i h
    exact Table.get_set_ne d d t v h

/-! ### The canonical form -/

theorem Table.wfFrom_mono {α : Type} [DecidableEq α] (d : α) (t : Table α) {lo lo' : Nat} (h : lo' ≤ lo)
    (w : Table.wfFrom d lo t = true) : Table.wfFrom d lo' t = true := by
  cases t with
  | nil => rfl
  | cons e t =>
    obtain ⟨k, v⟩ := e
    simp only [Table.wfFrom, Bool.and_eq_true, decide_eq_true_eq] at w ⊢
    exact ⟨⟨by omega, w.1.2⟩, w.2⟩

theorem Table.wfFrom_ins {α : Type} [DecidableEq α] (d : α) (t : Table α) (k : Nat) (v : α) {lo : Nat} (hk : lo ≤ k)
    (hv : v ≠ d) (w : Table.wfFrom d lo t = true) : Table.wfFrom d lo (Table.ins k v t) = true := by
  induction t generalizing lo with
  | nil => simp [Table.ins, Table.wfFrom, hk, hv]
  | cons e t ih =>
    obtain ⟨k', v'⟩ := e
    simp only [Table.wfFrom, Bool.and_eq_true, decide_eq_true_eq] at w
    unfold Table.ins
    split
    · simp only [Table.wfFrom, Bool.and_eq_true, decide_eq_true_eq]
      exact ⟨⟨hk, hv⟩, ⟨by omega, w.1.2⟩, w.2⟩
    · split
      · rename_i h
        subst h
        simp only [Table.wfFrom, Bool.and_eq_true, decide_eq_true_eq]
        exact ⟨⟨hk, hv⟩, w.2⟩
      · simp only [Table.wfFrom, Bool.and_eq_true, decide_eq_true_eq]
        exact ⟨w.1, ih (by omega) w.2⟩

theorem Table.wfFrom_del {α : Type} [DecidableEq α] (d : α) (t : Table α) (k : Nat) {lo : Nat}
    (w : Table.wfFrom d lo t = true) : Table.wfFrom d lo (Table.del k t) = true := by
  induction t generalizing lo with
  | nil => rfl
  | cons e t ih =>
    obtain ⟨k', v'⟩ := e
    simp only [Table.wfFrom, Bool.and_eq_true, decide_eq_true_eq] at w
    unfold Table.del
    split
    · exact Table.wfFrom_mono d _ (by omega) (ih w.2)
    · simp only [Table.wfFrom, Bool.and_eq_true, decide_eq_true_eq]
      exact ⟨w.1, ih w.2⟩

/-- A write keeps the canonical form. -/
theorem Table.wf_set {α : Type} [DecidableEq α] (d : α) (t : Table α) (k : Nat) (v : α) (w : Table.wf d t = true) :
    Table.wf d (Table.set d t k v) = true := by
  unfold Table.set
  split
  · exact Table.wfFrom_del d t k w
  · rename_i h
    exact Table.wfFrom_ins d t k v (Nat.zero_le k) h w

theorem Table.wfFrom_filter {α : Type} [DecidableEq α] (d : α) (p : Nat × α → Bool) (t : Table α) {lo : Nat}
    (w : Table.wfFrom d lo t = true) : Table.wfFrom d lo (t.filter p) = true := by
  induction t generalizing lo with
  | nil => rfl
  | cons e t ih =>
    obtain ⟨k', v'⟩ := e
    simp only [Table.wfFrom, Bool.and_eq_true, decide_eq_true_eq] at w
    rw [List.filter_cons]
    split
    · simp only [Table.wfFrom, Bool.and_eq_true, decide_eq_true_eq]
      exact ⟨w.1, ih w.2⟩
    · exact Table.wfFrom_mono d _ (by omega) (ih w.2)

/-- Dropping entries keeps the canonical form. -/
theorem Table.wf_filter {α : Type} [DecidableEq α] (d : α) (p : Nat × α → Bool) (t : Table α)
    (w : Table.wf d t = true) : Table.wf d (t.filter p) = true := Table.wfFrom_filter d p t w

end Sys2Proof.Machine
end

