-- ==== Sys2Proof/Laws/Fields.lean ====
section
/-!
SUPPORT. Sys2Proof/Laws/Fields.lean: register fields: two fields of the map never share a key, so a field reads what was
written to it and a write leaves every other field alone.
-/

set_option Elab.async false

namespace Sys2Proof.Machine

theorem Reg.ctorIdx_lt (r : Reg) : r.ctorIdx < 512 := by cases r <;> decide

theorem Reg.ctorIdx_inj {r r' : Reg} (h : r.ctorIdx = r'.ctorIdx) : r = r' := by
  have key : ∀ q : Reg, Reg.ofNat q.ctorIdx = q := by intro q; cases q <;> rfl
  rw [← key r, ← key r', h]

/-- The fields of a register lie inside 32 bits, at different places, and bear its name. -/
def Reg.layoutOk (r : Reg) : Bool :=
  r.fields.all (fun f => decide (f.reg = r) && decide (f.lo < 32) && decide (f.reset < 2 ^ f.width)) &&
    decide ((r.fields.map Fld.lo).Nodup)

theorem Reg.layout (r : Reg) : r.layoutOk = true := by cases r <;> decide

theorem Reg.layout_mem {r : Reg} {f : Fld} (h : f ∈ r.fields) :
    f.reg = r ∧ f.lo < 32 ∧ f.reset < 2 ^ f.width := by
  have l := r.layout
  simp only [Reg.layoutOk, Bool.and_eq_true, List.all_eq_true, decide_eq_true_eq] at l
  have := l.1 f h
  exact ⟨this.1.1, this.1.2, this.2⟩

theorem Fld.Listed.lo_lt {f : Fld} (h : f.Listed) : f.lo < 32 := (Reg.layout_mem h).2.1
theorem Fld.Listed.reset_lt {f : Fld} (h : f.Listed) : f.reset < 2 ^ f.width := (Reg.layout_mem h).2.2

/-- A field that a register lists is listed. -/
theorem Fld.listed_of_mem {r : Reg} {f : Fld} (h : f ∈ r.fields) : f.Listed := by
  have := (Reg.layout_mem h).1
  unfold Fld.Listed
  rw [this]
  exact h

theorem Fld.eq_of_lo {l : List Fld} (nd : (l.map Fld.lo).Nodup) {f g : Fld} (hf : f ∈ l) (hg : g ∈ l)
    (h : f.lo = g.lo) : f = g := by
  induction l with
  | nil => cases hf
  | cons a l ih =>
    rw [List.map_cons, List.nodup_cons] at nd
    rcases List.mem_cons.mp hf with hf' | hf' <;> rcases List.mem_cons.mp hg with hg' | hg'
    · rw [hf', hg']
    · exact absurd (show a.lo ∈ l.map Fld.lo by rw [← hf', h]; exact List.mem_map_of_mem hg') nd.1
    · exact absurd (show a.lo ∈ l.map Fld.lo by rw [← hg', ← h]; exact List.mem_map_of_mem hf') nd.1
    · exact ih nd.2 hf' hg'

/-- No two fields of the map share a key. -/
theorem Fld.key_inj {f g : Fld} (hf : f.Listed) (hg : g.Listed) {i j : Nat} (h : f.key i = g.key j) :
    f = g ∧ i = j := by
  have h1 := hf.lo_lt
  have h2 := hg.lo_lt
  have h3 := Reg.ctorIdx_lt f.reg
  have h4 := Reg.ctorIdx_lt g.reg
  unfold Fld.key at h
  have hi : i = j := by omega
  have hr : f.reg = g.reg := Reg.ctorIdx_inj (by omega)
  have hl : f.lo = g.lo := by omega
  refine ⟨?_, hi⟩
  have l := f.reg.layout
  simp only [Reg.layoutOk, Bool.and_eq_true, decide_eq_true_eq] at l
  have hg' : g ∈ f.reg.fields := by rw [hr]; exact hg
  exact Fld.eq_of_lo l.2 hf hg' hl

/-- A field reads what was written to it, cut to its width. -/
@[simp] theorem State.get_set_same (s : State) (f : Fld) (i v : Nat) : (s.set f i v).get f i = v % 2 ^ f.width := by
  simp [State.get, State.set]

/-- A write leaves every field of another name, and the same field of another unit, alone. -/
theorem State.get_set_ne (s : State) {f g : Fld} (hf : f.Listed) (hg : g.Listed) {i j : Nat} (v : Nat)
    (h : ¬(g = f ∧ j = i)) : (s.set f i v).get g j = s.get g j := by
  unfold State.get State.set
  exact Table.get_set_ne _ _ _ _ (fun e => h (Fld.key_inj hg hf e))

/-- A write of a field keeps every field inside its width. -/
theorem State.fieldsFit_set {s : State} (w : s.fieldsFit) {f : Fld} (hf : f.Listed) (i v : Nat) :
    (s.set f i v).fieldsFit := by
  intro g j hg
  by_cases h : g = f ∧ j = i
  · rw [h.1, h.2, State.get_set_same]
    exact Nat.mod_lt _ (Nat.two_pow_pos _)
  · rw [State.get_set_ne s hf hg v h]
    exact w g j hg

/-- Where nothing is written, every field is inside its width. -/
theorem State.fieldsFit_of_nil {s : State} (h : s.bank = []) : s.fieldsFit := by
  intro f i hf
  simp only [State.get, h, Table.get]
  exact hf.reset_lt

end Sys2Proof.Machine
end

