-- ==== Sys2Proof/Laws/Keeps.lean ====
section
/-!
SUPPORT. Sys2Proof/Laws/Keeps.lean: what a change of state keeps: the queue and the invariant always, and those parts of
the state that a choice of parts names. One lemma per way of composing changes; Laws/Keeps1 and the files after it say of
each operation what it keeps.
-/

set_option Elab.async false

namespace Sys2Proof.Machine

/-- The parts of the state that a claim wants unchanged: TCMs and SRAM, the Nave cores, the companions, the read latches,
the answer of the last access, blocks of the register map; and that TB_NOW does not step back. -/
structure Kept where
  mem : Bool
  cores : Bool
  comp : Bool
  latch : Bool
  resp : Bool
  time : Bool
  blk : Nat → Bool

/-- From s0 to s the queue stays, the invariant is kept, and the chosen parts are unchanged. -/
structure State.Keeps (k : Kept) (s0 s : State) : Prop where
  queue : s.pending = s0.pending
  inv : s0.Inv → s.Inv
  mem : k.mem = true → s.mem = s0.mem
  cores : k.cores = true → s.nave0 = s0.nave0 ∧ s.nave1 = s0.nave1
  comp : k.comp = true → s.comp = s0.comp
  latch : k.latch = true → s.latch = s0.latch
  resp : k.resp = true → s.resp = s0.resp
  time : k.time = true → s.tbRun = s0.tbRun ∧ s0.tb ≤ s.tb
  blk : ∀ b, k.blk b = true → State.sameBlock s0 s b

/-- What an instruction does keeps, whichever way it ends. -/
inductive Ret.Keeps (k : Kept) (s0 : State) : Ret → Prop
  | done {s pc} (h : State.Keeps k s0 s) : Ret.Keeps k s0 (.done s pc)
  | exc {s vec detail tval} (h : State.Keeps k s0 s) : Ret.Keeps k s0 (.exc s vec detail tval)
  | wait {s} (h : State.Keeps k s0 s) : Ret.Keeps k s0 (.wait s)
  | halt {s} (h : State.Keeps k s0 s) : Ret.Keeps k s0 (.halt s)

/-- A command answers a next state, and its change keeps. -/
def OutKeeps (k : Kept) (s0 : State) (o : Out) : Prop := ∃ s, o = .next s ∧ State.Keeps k s0 s

/-- Where an operation gives a state, beside something else, its change keeps. -/
def OptKeeps {β : Type} (k : Kept) (s0 : State) (o : Option (β × State)) : Prop :=
  ∀ r, o = some r → State.Keeps k s0 r.2

/-- Where an access ends an instruction, its change keeps. -/
def OptRetKeeps (k : Kept) (s0 : State) (o : Option Ret) : Prop := ∀ r, o = some r → Ret.Keeps k s0 r

variable {k : Kept} {s0 : State}

theorem State.sameHidden_refl (s : State) (b : Nat) : State.sameHidden s s b := by
  unfold State.sameHidden
  split <;> simp

theorem State.Keeps.refl (k : Kept) (s : State) : State.Keeps k s s :=
  ⟨rfl, id, fun _ => rfl, fun _ => ⟨rfl, rfl⟩, fun _ => rfl, fun _ => rfl, fun _ => rfl,
    fun _ => ⟨rfl, Nat.le_refl _⟩, fun b _ => ⟨fun _ _ _ _ => rfl, State.sameHidden_refl s b⟩⟩

/-- A part that is not among the chosen ones may change. -/
theorem Keeps.off {P : Prop} {b : Bool} (h : b = false) (e : b = true) : P := by
  rw [h] at e
  cases e

theorem Keeps.offAll {P : Prop} {b : Nat} (h : ∀ b, k.blk b = false) (e : k.blk b = true) : P := Keeps.off (h b) e

theorem OutKeeps.next {s : State} (h : State.Keeps k s0 s) : OutKeeps k s0 (.next s) := ⟨s, rfl, h⟩

/-- A fact about an intermediate state, once. -/
theorem Keeps.cut {Q : Prop} {x : State} (h : State.Keeps k s0 x) (q : State.Keeps k s0 x → Q) : Q := q h

theorem Keeps.ite {α : Type} {P : α → Prop} {c : Prop} [Decidable c] {a b : α} (ha : P a) (hb : P b) :
    P (if c then a else b) := by
  split
  · exact ha
  · exact hb

theorem Keeps.foldl {α : Type} {f : State → α → State} (hf : ∀ x a, State.Keeps k s0 x → State.Keeps k s0 (f x a))
    {l : List α} {s : State} (h : State.Keeps k s0 s) : State.Keeps k s0 (l.foldl f s) := by
  induction l generalizing s with
  | nil => exact h
  | cons a l ih => exact ih (hf s a h)

theorem Keeps.foldl_mem {α : Type} {f : State → α → State} {l : List α}
    (hf : ∀ x a, a ∈ l → State.Keeps k s0 x → State.Keeps k s0 (f x a)) {s : State} (h : State.Keeps k s0 s) :
    State.Keeps k s0 (l.foldl f s) := by
  induction l generalizing s with
  | nil => exact h
  | cons a l ih => exact ih (fun x b hb => hf x b (List.mem_cons_of_mem a hb)) (hf s a (List.mem_cons_self ..) h)

theorem OptKeeps.none {β : Type} : OptKeeps k s0 (none : Option (β × State)) := by
  intro r h
  cases h

theorem OptKeeps.some {β : Type} {b : β} {s : State} (h : State.Keeps k s0 s) : OptKeeps k s0 (some (b, s)) := by
  intro r e
  cases e
  exact h

theorem OptRetKeeps.none : OptRetKeeps k s0 none := by
  intro r h
  cases h

theorem OptRetKeeps.some {r : Ret} (h : Ret.Keeps k s0 r) : OptRetKeeps k s0 (some r) := by
  intro r e
  cases e
  exact h

theorem OptRetKeeps.get {o : Option Ret} {r : Ret} (e : o = Option.some r) (h : OptRetKeeps k s0 o) : Ret.Keeps k s0 r :=
  h r e

theorem Keeps.some {β : Type} {o : Option (β × State)} {b : β} {s : State} (e : o = Option.some (b, s))
    (h : OptKeeps k s0 o) : State.Keeps k s0 s := h (b, s) e

theorem Keeps.fst {β : Type} {p : State × β} {b : β} {s : State} (e : p = (s, b)) (h : State.Keeps k s0 p.1) :
    State.Keeps k s0 s := by
  rw [e] at h
  exact h

theorem Keeps.ofFst {β : Type} {s : State} {b : β} (h : State.Keeps k s0 s) : State.Keeps k s0 (s, b).1 := h

theorem Keeps.ofSnd {β : Type} {s : State} {b : β} (h : State.Keeps k s0 s) : State.Keeps k s0 (b, s).2 := h

theorem Keeps.snd {β : Type} {p : β × State} {b : β} {s : State} (e : p = (b, s)) (h : State.Keeps k s0 p.2) :
    State.Keeps k s0 s := by
  rw [e] at h
  exact h

/-- A change of other parts than the memory, the registers and the queue. -/
theorem Keeps.upd {x : State}
    {bank : Table Nat} {latch : Table Nat} {resp : Resp} {tb : Nat} {tbRun : Bool} {mem : List Host.Cell} {jnl :
    Jnl} {pow : Power} {chn : Chn} {img : Img} {mode : ModeSt} {tbs : TbSt} {trk : Table Trk} {qry : Table Qry}
    {slot : Table Slot} {twl : TwlSt} {conv : Table Conv} {loc : Table Loc} {trip : Table Trip} {bus : Table Bus}
    {drop : Table Drop} {comp : Table Comp} {brk : Table Brk} {grd : Table Grd} {mppt : Table Mppt} {axs : Table
    Axs} {adc : Table Adc} {lsn : Table Lsn} {lsnGrp : Table (List Nat)} {cmp : Table Cmp} {aux : Table Aux} {fan :
    Table Fan} {lp : Table Lp} {mtr : Table Mtr} {pls : Table Pls} {tailing : Bool} {jln : Jln} {nave0 : Nave}
    {nave1 : Nave} {irq : Irq} {mbx : Table Mbx} {dbg : Dbg} {free : Nat} {pending : List Instr}
    (hq : pending = x.pending := by exact rfl) (hb : bank = x.bank := by exact rfl) (hm : mem = x.mem := by exact rfl)
    (h : State.Keeps k s0 x)
    (hc0 : k.cores = true → nave0 = x.nave0 := by first | exact fun e => Keeps.off (by assumption) e | exact fun e => Keeps.offAll (by assumption) e | exact fun _ => rfl)
    (hc1 : k.cores = true → nave1 = x.nave1 := by first | exact fun e => Keeps.off (by assumption) e | exact fun e => Keeps.offAll (by assumption) e | exact fun _ => rfl)
    (hcomp : k.comp = true → comp = x.comp := by first | exact fun e => Keeps.off (by assumption) e | exact fun e => Keeps.offAll (by assumption) e | exact fun _ => rfl)
    (hl : k.latch = true → latch = x.latch := by first | exact fun e => Keeps.off (by assumption) e | exact fun e => Keeps.offAll (by assumption) e | exact fun _ => rfl)
    (hr : k.resp = true → resp = x.resp := by first | exact fun e => Keeps.off (by assumption) e | exact fun e => Keeps.offAll (by assumption) e | exact fun _ => rfl)
    (hrun : k.time = true → tbRun = x.tbRun := by first | exact fun e => Keeps.off (by assumption) e | exact fun e => Keeps.offAll (by assumption) e | exact fun _ => rfl)
    (ht : k.time = true → x.tb ≤ tb := by first | exact fun e => Keeps.off (by assumption) e | exact fun _ => Nat.le_refl _)
    (hb0chn : k.blk 0 = true → chn = x.chn := by first | exact fun e => Keeps.off (by assumption) e | exact fun e => Keeps.offAll (by assumption) e | exact fun _ => rfl)
    (hb0mode : k.blk 0 = true → mode = x.mode := by first | exact fun e => Keeps.off (by assumption) e | exact fun e => Keeps.offAll (by assumption) e | exact fun _ => rfl)
    (hb2tbs : k.blk 2 = true → tbs = x.tbs := by first | exact fun e => Keeps.off (by assumption) e | exact fun e => Keeps.offAll (by assumption) e | exact fun _ => rfl)
    (hb3trk : k.blk 3 = true → trk = x.trk := by first | exact fun e => Keeps.off (by assumption) e | exact fun e => Keeps.offAll (by assumption) e | exact fun _ => rfl)
    (hb3qry : k.blk 3 = true → qry = x.qry := by first | exact fun e => Keeps.off (by assumption) e | exact fun e => Keeps.offAll (by assumption) e | exact fun _ => rfl)
    (hb4slot : k.blk 4 = true → slot = x.slot := by first | exact fun e => Keeps.off (by assumption) e | exact fun e => Keeps.offAll (by assumption) e | exact fun _ => rfl)
    (hb4twl : k.blk 4 = true → twl = x.twl := by first | exact fun e => Keeps.off (by assumption) e | exact fun e => Keeps.offAll (by assumption) e | exact fun _ => rfl)
    (hb5conv : k.blk 5 = true → conv = x.conv := by first | exact fun e => Keeps.off (by assumption) e | exact fun e => Keeps.offAll (by assumption) e | exact fun _ => rfl)
    (hb5loc : k.blk 5 = true → loc = x.loc := by first | exact fun e => Keeps.off (by assumption) e | exact fun e => Keeps.offAll (by assumption) e | exact fun _ => rfl)
    (hb5trip : k.blk 5 = true → trip = x.trip := by first | exact fun e => Keeps.off (by assumption) e | exact fun e => Keeps.offAll (by assumption) e | exact fun _ => rfl)
    (hb5brk : k.blk 5 = true → brk = x.brk := by first | exact fun e => Keeps.off (by assumption) e | exact fun e => Keeps.offAll (by assumption) e | exact fun _ => rfl)
    (hb6bus : k.blk 6 = true → bus = x.bus := by first | exact fun e => Keeps.off (by assumption) e | exact fun e => Keeps.offAll (by assumption) e | exact fun _ => rfl)
    (hb6drop : k.blk 6 = true → drop = x.drop := by first | exact fun e => Keeps.off (by assumption) e | exact fun e => Keeps.offAll (by assumption) e | exact fun _ => rfl)
    (hb9adc : k.blk 9 = true → adc = x.adc := by first | exact fun e => Keeps.off (by assumption) e | exact fun e => Keeps.offAll (by assumption) e | exact fun _ => rfl)
    (hb10lsn : k.blk 10 = true → lsn = x.lsn := by first | exact fun e => Keeps.off (by assumption) e | exact fun e => Keeps.offAll (by assumption) e | exact fun _ => rfl)
    (hb10lsnGrp : k.blk 10 = true → lsnGrp = x.lsnGrp := by first | exact fun e => Keeps.off (by assumption) e | exact fun e => Keeps.offAll (by assumption) e | exact fun _ => rfl)
    (hb11cmp : k.blk 11 = true → cmp = x.cmp := by first | exact fun e => Keeps.off (by assumption) e | exact fun e => Keeps.offAll (by assumption) e | exact fun _ => rfl)
    (hb12grd : k.blk 12 = true → grd = x.grd := by first | exact fun e => Keeps.off (by assumption) e | exact fun e => Keeps.offAll (by assumption) e | exact fun _ => rfl)
    (hb12mppt : k.blk 12 = true → mppt = x.mppt := by first | exact fun e => Keeps.off (by assumption) e | exact fun e => Keeps.offAll (by assumption) e | exact fun _ => rfl)
    (hb13axs : k.blk 13 = true → axs = x.axs := by first | exact fun e => Keeps.off (by assumption) e | exact fun e => Keeps.offAll (by assumption) e | exact fun _ => rfl)
    (hb14aux : k.blk 14 = true → aux = x.aux := by first | exact fun e => Keeps.off (by assumption) e | exact fun e => Keeps.offAll (by assumption) e | exact fun _ => rfl)
    (hb15fan : k.blk 15 = true → fan = x.fan := by first | exact fun e => Keeps.off (by assumption) e | exact fun e => Keeps.offAll (by assumption) e | exact fun _ => rfl)
    (hb15lp : k.blk 15 = true → lp = x.lp := by first | exact fun e => Keeps.off (by assumption) e | exact fun e => Keeps.offAll (by assumption) e | exact fun _ => rfl)
    (hb16mtr : k.blk 16 = true → mtr = x.mtr := by first | exact fun e => Keeps.off (by assumption) e | exact fun e => Keeps.offAll (by assumption) e | exact fun _ => rfl)
    (hb16pls : k.blk 16 = true → pls = x.pls := by first | exact fun e => Keeps.off (by assumption) e | exact fun e => Keeps.offAll (by assumption) e | exact fun _ => rfl)
    (hb16tailing : k.blk 16 = true → tailing = x.tailing := by first | exact fun e => Keeps.off (by assumption) e | exact fun e => Keeps.offAll (by assumption) e | exact fun _ => rfl)
    (hb17jln : k.blk 17 = true → jln = x.jln := by first | exact fun e => Keeps.off (by assumption) e | exact fun e => Keeps.offAll (by assumption) e | exact fun _ => rfl)
    (hb18irq : k.blk 18 = true → irq = x.irq := by first | exact fun e => Keeps.off (by assumption) e | exact fun e => Keeps.offAll (by assumption) e | exact fun _ => rfl)
    (hb19mbx : k.blk 19 = true → mbx = x.mbx := by first | exact fun e => Keeps.off (by assumption) e | exact fun e => Keeps.offAll (by assumption) e | exact fun _ => rfl)
    (hb20jnl : k.blk 20 = true → jnl = x.jnl := by first | exact fun e => Keeps.off (by assumption) e | exact fun e => Keeps.offAll (by assumption) e | exact fun _ => rfl)
    (hb21pow : k.blk 21 = true → pow = x.pow := by first | exact fun e => Keeps.off (by assumption) e | exact fun e => Keeps.offAll (by assumption) e | exact fun _ => rfl)
    (hb23dbg : k.blk 23 = true → dbg = x.dbg := by first | exact fun e => Keeps.off (by assumption) e | exact fun e => Keeps.offAll (by assumption) e | exact fun _ => rfl)
    (hb24img : k.blk 24 = true → img = x.img := by first | exact fun e => Keeps.off (by assumption) e | exact fun e => Keeps.offAll (by assumption) e | exact fun _ => rfl) :
    State.Keeps k s0
      ⟨bank, latch, resp, tb, tbRun, mem, jnl, pow, chn, img, mode, tbs, trk, qry, slot, twl, conv, loc, trip, bus,
      drop, comp, brk, grd, mppt, axs, adc, lsn, lsnGrp, cmp, aux, fan, lp, mtr, pls, tailing, jln, nave0, nave1, irq,
      mbx, dbg, free, pending⟩ where
  queue := hq.trans h.queue
  inv w := by
    subst hm hb
    exact h.inv w
  mem e := hm.trans (h.mem e)
  cores e := ⟨(hc0 e).trans (h.cores e).1, (hc1 e).trans (h.cores e).2⟩
  comp e := (hcomp e).trans (h.comp e)
  latch e := (hl e).trans (h.latch e)
  resp e := (hr e).trans (h.resp e)
  time e := ⟨(hrun e).trans (h.time e).1, Nat.le_trans (h.time e).2 (ht e)⟩
  blk b e := by
    subst hb
    refine ⟨(h.blk b e).1, ?_⟩
    have hh := (h.blk b e).2
    revert e hh
    unfold State.sameHidden
    split
    · exact fun e hh => ⟨(hb0chn e).trans hh.1, (hb0mode e).trans hh.2⟩
    · exact fun e hh => (hb2tbs e).trans hh
    · exact fun e hh => ⟨(hb3trk e).trans hh.1, (hb3qry e).trans hh.2⟩
    · exact fun e hh => ⟨(hb4slot e).trans hh.1, (hb4twl e).trans hh.2⟩
    · exact fun e hh => ⟨(hb5conv e).trans hh.1, (hb5loc e).trans hh.2.1, (hb5trip e).trans hh.2.2.1, (hb5brk e).trans hh.2.2.2⟩
    · exact fun e hh => ⟨(hb6bus e).trans hh.1, (hb6drop e).trans hh.2⟩
    · exact fun e hh => (hb9adc e).trans hh
    · exact fun e hh => ⟨(hb10lsn e).trans hh.1, (hb10lsnGrp e).trans hh.2⟩
    · exact fun e hh => (hb11cmp e).trans hh
    · exact fun e hh => ⟨(hb12grd e).trans hh.1, (hb12mppt e).trans hh.2⟩
    · exact fun e hh => (hb13axs e).trans hh
    · exact fun e hh => (hb14aux e).trans hh
    · exact fun e hh => ⟨(hb15fan e).trans hh.1, (hb15lp e).trans hh.2⟩
    · exact fun e hh => ⟨(hb16mtr e).trans hh.1, (hb16pls e).trans hh.2.1, (hb16tailing e).trans hh.2.2⟩
    · exact fun e hh => (hb17jln e).trans hh
    · exact fun e hh => (hb18irq e).trans hh
    · exact fun e hh => (hb19mbx e).trans hh
    · exact fun e hh => (hb20jnl e).trans hh
    · exact fun e hh => (hb21pow e).trans hh
    · exact fun e hh => (hb23dbg e).trans hh
    · exact fun e hh => (hb24img e).trans hh
    · exact fun _ _ => trivial

/-- Writing a field of the map. -/
theorem State.set_keeps {s : State} (h : State.Keeps k s0 s) (f : Fld) (i v : Nat) (hf : f.Listed)
    (hb : k.blk f.block = false) : State.Keeps k s0 (s.set f i v) where
  queue := h.queue
  inv w := ⟨(h.inv w).1, State.fieldsFit_set (h.inv w).2 hf i v⟩
  mem := h.mem
  cores := h.cores
  comp := h.comp
  latch := h.latch
  resp := h.resp
  time := h.time
  blk b e := by
    refine ⟨fun g j hg hgb => ?_, (h.blk b e).2⟩
    rw [State.get_set_ne s hf hg v]
    · exact (h.blk b e).1 g j hg hgb
    · rintro ⟨rfl, -⟩
      rw [hgb] at hb
      exact Keeps.off hb e

/-- TB_NOW moves on and never steps back. -/
theorem State.touch_keeps {s : State} (h : State.Keeps k s0 s) (t : Nat) : State.Keeps k s0 (s.touch t) := by
  unfold State.touch
  split
  · exact Keeps.upd (h := h) (ht := fun _ => Nat.le_max_left _ _)
  · exact h

/-- A field that a register lists is in the register's block. -/
theorem Fld.block_of_mem {r : Reg} {f : Fld} (h : f ∈ r.fields) : f.block = r.info.base / 65536 % 64 := by
  unfold Fld.block
  rw [(Reg.layout_mem h).1]

theorem Reg.fields_listed {l : List Reg} {f : Fld} (h : f ∈ l.flatMap Reg.fields) : f.Listed := by
  obtain ⟨r, _, hf⟩ := List.mem_flatMap.mp h
  exact Fld.listed_of_mem hf

/-- Replacing the memory by one in canonical form. -/
theorem Keeps.memory {s : State} {m : List Host.Cell} (hm : k.mem = false) (h : State.Keeps k s0 s)
    (w : Table.wf memDefault s.mem = true → Table.wf memDefault m = true) : State.Keeps k s0 { s with mem := m } where
  queue := h.queue
  inv e := ⟨w (h.inv e).1, (h.inv e).2⟩
  mem e := by simp [hm] at e
  cores := h.cores
  comp := h.comp
  latch := h.latch
  resp := h.resp
  time := h.time
  blk := h.blk

theorem State.setByte_keeps {s : State} (hm : k.mem = false) (h : State.Keeps k s0 s) (a : Nat) (v : Byte) :
    State.Keeps k s0 (s.setByte a v) :=
  Keeps.memory hm h (Table.wf_set memDefault s.mem a v)

theorem State.setBytes_keeps {s : State} (hm : k.mem = false) (h : State.Keeps k s0 s) (a : Nat) (l : List Byte) :
    State.Keeps k s0 (s.setBytes a l) := by
  induction l generalizing s a with
  | nil => exact h
  | cons b l ih => exact ih (State.setByte_keeps hm h a b) (a + 1)

end Sys2Proof.Machine
end

