-- ==== Sys2Proof/Laws/State.lean ====
section
/-!
SUPPORT. Sys2Proof/Laws/State.lean: what the updates of the state leave and set, one lemma for a field and an update: register
fields, the hidden tables of the blocks, TB_NOW, the cores and the memory.
-/

set_option Elab.async false

namespace Sys2Proof.Machine

variable (s : State)

/-! ### A field of the map is written -/

@[simp] theorem State.set_latch (f : Fld) (i v : Nat) : (s.set f i v).latch = s.latch := rfl
@[simp] theorem State.set_resp (f : Fld) (i v : Nat) : (s.set f i v).resp = s.resp := rfl
@[simp] theorem State.set_tb (f : Fld) (i v : Nat) : (s.set f i v).tb = s.tb := rfl
@[simp] theorem State.set_tbRun (f : Fld) (i v : Nat) : (s.set f i v).tbRun = s.tbRun := rfl
@[simp] theorem State.set_mem (f : Fld) (i v : Nat) : (s.set f i v).mem = s.mem := rfl
@[simp] theorem State.set_jnl (f : Fld) (i v : Nat) : (s.set f i v).jnl = s.jnl := rfl
@[simp] theorem State.set_pow (f : Fld) (i v : Nat) : (s.set f i v).pow = s.pow := rfl
@[simp] theorem State.set_chn (f : Fld) (i v : Nat) : (s.set f i v).chn = s.chn := rfl
@[simp] theorem State.set_img (f : Fld) (i v : Nat) : (s.set f i v).img = s.img := rfl
@[simp] theorem State.set_mode (f : Fld) (i v : Nat) : (s.set f i v).mode = s.mode := rfl
@[simp] theorem State.set_tbs (f : Fld) (i v : Nat) : (s.set f i v).tbs = s.tbs := rfl
@[simp] theorem State.set_trk (f : Fld) (i v : Nat) : (s.set f i v).trk = s.trk := rfl
@[simp] theorem State.set_qry (f : Fld) (i v : Nat) : (s.set f i v).qry = s.qry := rfl
@[simp] theorem State.set_slot (f : Fld) (i v : Nat) : (s.set f i v).slot = s.slot := rfl
@[simp] theorem State.set_twl (f : Fld) (i v : Nat) : (s.set f i v).twl = s.twl := rfl
@[simp] theorem State.set_conv (f : Fld) (i v : Nat) : (s.set f i v).conv = s.conv := rfl
@[simp] theorem State.set_loc (f : Fld) (i v : Nat) : (s.set f i v).loc = s.loc := rfl
@[simp] theorem State.set_trip (f : Fld) (i v : Nat) : (s.set f i v).trip = s.trip := rfl
@[simp] theorem State.set_bus (f : Fld) (i v : Nat) : (s.set f i v).bus = s.bus := rfl
@[simp] theorem State.set_drop (f : Fld) (i v : Nat) : (s.set f i v).drop = s.drop := rfl
@[simp] theorem State.set_comp (f : Fld) (i v : Nat) : (s.set f i v).comp = s.comp := rfl
@[simp] theorem State.set_brk (f : Fld) (i v : Nat) : (s.set f i v).brk = s.brk := rfl
@[simp] theorem State.set_grd (f : Fld) (i v : Nat) : (s.set f i v).grd = s.grd := rfl
@[simp] theorem State.set_mppt (f : Fld) (i v : Nat) : (s.set f i v).mppt = s.mppt := rfl
@[simp] theorem State.set_axs (f : Fld) (i v : Nat) : (s.set f i v).axs = s.axs := rfl
@[simp] theorem State.set_adc (f : Fld) (i v : Nat) : (s.set f i v).adc = s.adc := rfl
@[simp] theorem State.set_lsn (f : Fld) (i v : Nat) : (s.set f i v).lsn = s.lsn := rfl
@[simp] theorem State.set_lsnGrp (f : Fld) (i v : Nat) : (s.set f i v).lsnGrp = s.lsnGrp := rfl
@[simp] theorem State.set_cmp (f : Fld) (i v : Nat) : (s.set f i v).cmp = s.cmp := rfl
@[simp] theorem State.set_aux (f : Fld) (i v : Nat) : (s.set f i v).aux = s.aux := rfl
@[simp] theorem State.set_fan (f : Fld) (i v : Nat) : (s.set f i v).fan = s.fan := rfl
@[simp] theorem State.set_lp (f : Fld) (i v : Nat) : (s.set f i v).lp = s.lp := rfl
@[simp] theorem State.set_mtr (f : Fld) (i v : Nat) : (s.set f i v).mtr = s.mtr := rfl
@[simp] theorem State.set_pls (f : Fld) (i v : Nat) : (s.set f i v).pls = s.pls := rfl
@[simp] theorem State.set_tailing (f : Fld) (i v : Nat) : (s.set f i v).tailing = s.tailing := rfl
@[simp] theorem State.set_jln (f : Fld) (i v : Nat) : (s.set f i v).jln = s.jln := rfl
@[simp] theorem State.set_nave0 (f : Fld) (i v : Nat) : (s.set f i v).nave0 = s.nave0 := rfl
@[simp] theorem State.set_nave1 (f : Fld) (i v : Nat) : (s.set f i v).nave1 = s.nave1 := rfl
@[simp] theorem State.set_irq (f : Fld) (i v : Nat) : (s.set f i v).irq = s.irq := rfl
@[simp] theorem State.set_mbx (f : Fld) (i v : Nat) : (s.set f i v).mbx = s.mbx := rfl
@[simp] theorem State.set_dbg (f : Fld) (i v : Nat) : (s.set f i v).dbg = s.dbg := rfl
@[simp] theorem State.set_free (f : Fld) (i v : Nat) : (s.set f i v).free = s.free := rfl
@[simp] theorem State.set_pending (f : Fld) (i v : Nat) : (s.set f i v).pending = s.pending := rfl

theorem satSucc_lt (w n : Nat) : satSucc w n < 2 ^ w := by
  have := Nat.two_pow_pos w
  unfold satSucc
  split <;> omega

@[simp] theorem State.get_bump (f : Fld) (i : Nat) : (s.bump f i).get f i = satSucc f.width (s.get f i) := by
  unfold State.bump
  rw [State.get_set_same]
  exact Nat.mod_eq_of_lt (satSucc_lt _ _)

/-- A field reads what it read before a write of a field of another name. -/
theorem State.get_set_other {f g : Fld} (hf : f.Listed) (hg : g.Listed) (h : f ≠ g) (i j v : Nat) :
    (s.set f i v).get g j = s.get g j :=
  State.get_set_ne s hf hg v (fun e => h e.1.symm)

theorem State.get_bump_other {f g : Fld} (hf : f.Listed) (hg : g.Listed) (h : f ≠ g) (i j : Nat) :
    (s.bump f i).get g j = s.get g j := State.get_set_other s hf hg h i j _

/-- A flag reads what was written to it. -/
theorem State.flag_setFlag {f : Fld} (h : 0 < f.width) (i : Nat) (b : Bool) : (s.setFlag f i b).flag f i = b := by
  have : 1 < 2 ^ f.width := Nat.one_lt_two_pow (by omega)
  unfold State.flag State.setFlag
  rw [State.get_set_same]
  cases b
  · simp
  · simp [Nat.mod_eq_of_lt this]

theorem State.flag_set_one {f : Fld} (h : 0 < f.width) (i : Nat) : (s.set f i 1).flag f i = true :=
  State.flag_setFlag s h i true

theorem State.flag_set_zero {f : Fld} (i : Nat) : (s.set f i 0).flag f i = false := by
  simp [State.flag]

/-- A field that is wide enough reads the number written to it. -/
theorem State.get_set_lt {f : Fld} {v : Nat} (h : v < 2 ^ f.width) (i : Nat) : (s.set f i v).get f i = v := by
  rw [State.get_set_same, Nat.mod_eq_of_lt h]

/-! ### TB_NOW moves -/

@[simp] theorem State.touch_bank (t : Nat) : (s.touch t).bank = s.bank := by
  unfold State.touch
  split <;> rfl
@[simp] theorem State.touch_latch (t : Nat) : (s.touch t).latch = s.latch := by
  unfold State.touch
  split <;> rfl
@[simp] theorem State.touch_resp (t : Nat) : (s.touch t).resp = s.resp := by
  unfold State.touch
  split <;> rfl
@[simp] theorem State.touch_tbRun (t : Nat) : (s.touch t).tbRun = s.tbRun := by
  unfold State.touch
  split <;> rfl
@[simp] theorem State.touch_mem (t : Nat) : (s.touch t).mem = s.mem := by
  unfold State.touch
  split <;> rfl
@[simp] theorem State.touch_jnl (t : Nat) : (s.touch t).jnl = s.jnl := by
  unfold State.touch
  split <;> rfl
@[simp] theorem State.touch_pow (t : Nat) : (s.touch t).pow = s.pow := by
  unfold State.touch
  split <;> rfl
@[simp] theorem State.touch_chn (t : Nat) : (s.touch t).chn = s.chn := by
  unfold State.touch
  split <;> rfl
@[simp] theorem State.touch_img (t : Nat) : (s.touch t).img = s.img := by
  unfold State.touch
  split <;> rfl
@[simp] theorem State.touch_mode (t : Nat) : (s.touch t).mode = s.mode := by
  unfold State.touch
  split <;> rfl
@[simp] theorem State.touch_tbs (t : Nat) : (s.touch t).tbs = s.tbs := by
  unfold State.touch
  split <;> rfl
@[simp] theorem State.touch_trk (t : Nat) : (s.touch t).trk = s.trk := by
  unfold State.touch
  split <;> rfl
@[simp] theorem State.touch_qry (t : Nat) : (s.touch t).qry = s.qry := by
  unfold State.touch
  split <;> rfl
@[simp] theorem State.touch_slot (t : Nat) : (s.touch t).slot = s.slot := by
  unfold State.touch
  split <;> rfl
@[simp] theorem State.touch_twl (t : Nat) : (s.touch t).twl = s.twl := by
  unfold State.touch
  split <;> rfl
@[simp] theorem State.touch_conv (t : Nat) : (s.touch t).conv = s.conv := by
  unfold State.touch
  split <;> rfl
@[simp] theorem State.touch_loc (t : Nat) : (s.touch t).loc = s.loc := by
  unfold State.touch
  split <;> rfl
@[simp] theorem State.touch_trip (t : Nat) : (s.touch t).trip = s.trip := by
  unfold State.touch
  split <;> rfl
@[simp] theorem State.touch_bus (t : Nat) : (s.touch t).bus = s.bus := by
  unfold State.touch
  split <;> rfl
@[simp] theorem State.touch_drop (t : Nat) : (s.touch t).drop = s.drop := by
  unfold State.touch
  split <;> rfl
@[simp] theorem State.touch_comp (t : Nat) : (s.touch t).comp = s.comp := by
  unfold State.touch
  split <;> rfl
@[simp] theorem State.touch_brk (t : Nat) : (s.touch t).brk = s.brk := by
  unfold State.touch
  split <;> rfl
@[simp] theorem State.touch_grd (t : Nat) : (s.touch t).grd = s.grd := by
  unfold State.touch
  split <;> rfl
@[simp] theorem State.touch_mppt (t : Nat) : (s.touch t).mppt = s.mppt := by
  unfold State.touch
  split <;> rfl
@[simp] theorem State.touch_axs (t : Nat) : (s.touch t).axs = s.axs := by
  unfold State.touch
  split <;> rfl
@[simp] theorem State.touch_adc (t : Nat) : (s.touch t).adc = s.adc := by
  unfold State.touch
  split <;> rfl
@[simp] theorem State.touch_lsn (t : Nat) : (s.touch t).lsn = s.lsn := by
  unfold State.touch
  split <;> rfl
@[simp] theorem State.touch_lsnGrp (t : Nat) : (s.touch t).lsnGrp = s.lsnGrp := by
  unfold State.touch
  split <;> rfl
@[simp] theorem State.touch_cmp (t : Nat) : (s.touch t).cmp = s.cmp := by
  unfold State.touch
  split <;> rfl
@[simp] theorem State.touch_aux (t : Nat) : (s.touch t).aux = s.aux := by
  unfold State.touch
  split <;> rfl
@[simp] theorem State.touch_fan (t : Nat) : (s.touch t).fan = s.fan := by
  unfold State.touch
  split <;> rfl
@[simp] theorem State.touch_lp (t : Nat) : (s.touch t).lp = s.lp := by
  unfold State.touch
  split <;> rfl
@[simp] theorem State.touch_mtr (t : Nat) : (s.touch t).mtr = s.mtr := by
  unfold State.touch
  split <;> rfl
@[simp] theorem State.touch_pls (t : Nat) : (s.touch t).pls = s.pls := by
  unfold State.touch
  split <;> rfl
@[simp] theorem State.touch_tailing (t : Nat) : (s.touch t).tailing = s.tailing := by
  unfold State.touch
  split <;> rfl
@[simp] theorem State.touch_jln (t : Nat) : (s.touch t).jln = s.jln := by
  unfold State.touch
  split <;> rfl
@[simp] theorem State.touch_nave0 (t : Nat) : (s.touch t).nave0 = s.nave0 := by
  unfold State.touch
  split <;> rfl
@[simp] theorem State.touch_nave1 (t : Nat) : (s.touch t).nave1 = s.nave1 := by
  unfold State.touch
  split <;> rfl
@[simp] theorem State.touch_irq (t : Nat) : (s.touch t).irq = s.irq := by
  unfold State.touch
  split <;> rfl
@[simp] theorem State.touch_mbx (t : Nat) : (s.touch t).mbx = s.mbx := by
  unfold State.touch
  split <;> rfl
@[simp] theorem State.touch_dbg (t : Nat) : (s.touch t).dbg = s.dbg := by
  unfold State.touch
  split <;> rfl
@[simp] theorem State.touch_free (t : Nat) : (s.touch t).free = s.free := by
  unfold State.touch
  split <;> rfl
@[simp] theorem State.touch_pending (t : Nat) : (s.touch t).pending = s.pending := by
  unfold State.touch
  split <;> rfl
/-- Only TB_NOW moves. -/
theorem State.touch_eq (t : Nat) : s.touch t = { s with tb := (s.touch t).tb } := by
  unfold State.touch
  split <;> rfl

@[simp] theorem State.touch_get (t : Nat) (f : Fld) (i : Nat) : (s.touch t).get f i = s.get f i := by
  unfold State.get
  rw [State.touch_bank]

/-- While TB_NOW counts it is the later of itself and the event's time. -/
theorem State.touch_tb (h : s.tbRun = true) (t : Nat) : (s.touch t).tb = Nat.max s.tb t := by
  simp [State.touch, h]

/-! ### What the configuration, the mode and the cores say, whatever TB_NOW -/

@[simp] theorem State.hasRec_touch (t typ inst : Nat) : (s.touch t).hasRec typ inst = s.hasRec typ inst := by
  rw [State.touch_eq]
  rfl
@[simp] theorem State.rec_touch (t typ inst : Nat) : (s.touch t).rec? typ inst = s.rec? typ inst := by
  rw [State.touch_eq]
  rfl
@[simp] theorem State.recFld_touch (t typ inst off k : Nat) : (s.touch t).recFld typ inst off k = s.recFld typ inst off k := by
  rw [State.touch_eq]
  rfl
@[simp] theorem State.fnOwner_touch (t f : Nat) : (s.touch t).fnOwner f = s.fnOwner f := by
  rw [State.touch_eq]
  rfl
@[simp] theorem State.fnOn_touch (t f : Nat) : (s.touch t).fnOn f = s.fnOn f := by
  rw [State.touch_eq]
  rfl
@[simp] theorem State.cnvOn_touch (t c : Nat) : (s.touch t).cnvOn c = s.cnvOn c := by
  rw [State.touch_eq]
  rfl
@[simp] theorem State.locOn_touch (t k : Nat) : (s.touch t).locOn k = s.locOn k := by
  rw [State.touch_eq]
  rfl
@[simp] theorem State.armed_touch (t c : Nat) : (s.touch t).armed c = s.armed c := by
  rw [State.touch_eq]
  rfl
@[simp] theorem State.cnvOwner_touch (t c : Nat) : (s.touch t).cnvOwner c = s.cnvOwner c := by
  rw [State.touch_eq]
  rfl
@[simp] theorem State.locOwner_touch (t k : Nat) : (s.touch t).locOwner k = s.locOwner k := by
  rw [State.touch_eq]
  rfl
@[simp] theorem State.lockedOut_touch (t c : Nat) : (s.touch t).lockedOut c = s.lockedOut c := by
  rw [State.touch_eq]
  rfl
@[simp] theorem State.halted_touch (t c : Nat) : (s.touch t).halted c = s.halted c := by
  rw [State.touch_eq]
  rfl
@[simp] theorem State.modeNow_touch (t : Nat) : (s.touch t).modeNow = s.modeNow := by
  rw [State.touch_eq]
  rfl

/-! ### The hidden tables of the blocks -/

@[simp] theorem State.setConv_get (n : Nat) (v : Conv) (f : Fld) (i : Nat) : (s.setConv n v).get f i = s.get f i := rfl
@[simp] theorem State.convOf_setConv (n : Nat) (v : Conv) : (s.setConv n v).convOf n = v := by
  simp [State.convOf, State.setConv]
theorem State.convOf_setConv_ne {n m : Nat} (v : Conv) (h : m ≠ n) : (s.setConv n v).convOf m = s.convOf m :=
  Table.get_set_ne _ _ _ _ h
@[simp] theorem State.convOf_set (m : Nat) (f : Fld) (i v : Nat) : (s.set f i v).convOf m = s.convOf m := rfl
@[simp] theorem State.convOf_touch (m t : Nat) : (s.touch t).convOf m = s.convOf m := by
  unfold State.convOf
  rw [State.touch_conv]
@[simp] theorem State.setConv_resp (n : Nat) (v : Conv) : (s.setConv n v).resp = s.resp := rfl
@[simp] theorem State.setConv_tb (n : Nat) (v : Conv) : (s.setConv n v).tb = s.tb := rfl
@[simp] theorem State.setConv_tbRun (n : Nat) (v : Conv) : (s.setConv n v).tbRun = s.tbRun := rfl
@[simp] theorem State.setConv_mem (n : Nat) (v : Conv) : (s.setConv n v).mem = s.mem := rfl
@[simp] theorem State.setConv_jnl (n : Nat) (v : Conv) : (s.setConv n v).jnl = s.jnl := rfl
@[simp] theorem State.setConv_pow (n : Nat) (v : Conv) : (s.setConv n v).pow = s.pow := rfl
@[simp] theorem State.setConv_chn (n : Nat) (v : Conv) : (s.setConv n v).chn = s.chn := rfl
@[simp] theorem State.setConv_img (n : Nat) (v : Conv) : (s.setConv n v).img = s.img := rfl
@[simp] theorem State.setConv_mode (n : Nat) (v : Conv) : (s.setConv n v).mode = s.mode := rfl
@[simp] theorem State.setConv_tbs (n : Nat) (v : Conv) : (s.setConv n v).tbs = s.tbs := rfl
@[simp] theorem State.setConv_twl (n : Nat) (v : Conv) : (s.setConv n v).twl = s.twl := rfl
@[simp] theorem State.setConv_lsnGrp (n : Nat) (v : Conv) : (s.setConv n v).lsnGrp = s.lsnGrp := rfl
@[simp] theorem State.setConv_tailing (n : Nat) (v : Conv) : (s.setConv n v).tailing = s.tailing := rfl
@[simp] theorem State.setConv_jln (n : Nat) (v : Conv) : (s.setConv n v).jln = s.jln := rfl
@[simp] theorem State.setConv_nave0 (n : Nat) (v : Conv) : (s.setConv n v).nave0 = s.nave0 := rfl
@[simp] theorem State.setConv_nave1 (n : Nat) (v : Conv) : (s.setConv n v).nave1 = s.nave1 := rfl
@[simp] theorem State.setConv_irq (n : Nat) (v : Conv) : (s.setConv n v).irq = s.irq := rfl
@[simp] theorem State.setConv_dbg (n : Nat) (v : Conv) : (s.setConv n v).dbg = s.dbg := rfl
@[simp] theorem State.setConv_free (n : Nat) (v : Conv) : (s.setConv n v).free = s.free := rfl
@[simp] theorem State.setConv_pending (n : Nat) (v : Conv) : (s.setConv n v).pending = s.pending := rfl
@[simp] theorem State.locOf_setConv (m n : Nat) (v : Conv) : (s.setConv n v).locOf m = s.locOf m := rfl
@[simp] theorem State.tripOf_setConv (m n : Nat) (v : Conv) : (s.setConv n v).tripOf m = s.tripOf m := rfl
@[simp] theorem State.trkOf_setConv (m n : Nat) (v : Conv) : (s.setConv n v).trkOf m = s.trkOf m := rfl
@[simp] theorem State.qryOf_setConv (m n : Nat) (v : Conv) : (s.setConv n v).qryOf m = s.qryOf m := rfl
@[simp] theorem State.slotOf_setConv (m n : Nat) (v : Conv) : (s.setConv n v).slotOf m = s.slotOf m := rfl
@[simp] theorem State.busOf_setConv (m n : Nat) (v : Conv) : (s.setConv n v).busOf m = s.busOf m := rfl
@[simp] theorem State.dropOf_setConv (m n : Nat) (v : Conv) : (s.setConv n v).dropOf m = s.dropOf m := rfl
@[simp] theorem State.compOf_setConv (m n : Nat) (v : Conv) : (s.setConv n v).compOf m = s.compOf m := rfl
@[simp] theorem State.brkOf_setConv (m n : Nat) (v : Conv) : (s.setConv n v).brkOf m = s.brkOf m := rfl
@[simp] theorem State.grdOf_setConv (m n : Nat) (v : Conv) : (s.setConv n v).grdOf m = s.grdOf m := rfl
@[simp] theorem State.mpptOf_setConv (m n : Nat) (v : Conv) : (s.setConv n v).mpptOf m = s.mpptOf m := rfl
@[simp] theorem State.axsOf_setConv (m n : Nat) (v : Conv) : (s.setConv n v).axsOf m = s.axsOf m := rfl
@[simp] theorem State.adcOf_setConv (m n : Nat) (v : Conv) : (s.setConv n v).adcOf m = s.adcOf m := rfl
@[simp] theorem State.lsnOf_setConv (m n : Nat) (v : Conv) : (s.setConv n v).lsnOf m = s.lsnOf m := rfl
@[simp] theorem State.cmpOf_setConv (m n : Nat) (v : Conv) : (s.setConv n v).cmpOf m = s.cmpOf m := rfl
@[simp] theorem State.auxOf_setConv (m n : Nat) (v : Conv) : (s.setConv n v).auxOf m = s.auxOf m := rfl
@[simp] theorem State.fanOf_setConv (m n : Nat) (v : Conv) : (s.setConv n v).fanOf m = s.fanOf m := rfl
@[simp] theorem State.lpOf_setConv (m n : Nat) (v : Conv) : (s.setConv n v).lpOf m = s.lpOf m := rfl
@[simp] theorem State.mtrOf_setConv (m n : Nat) (v : Conv) : (s.setConv n v).mtrOf m = s.mtrOf m := rfl
@[simp] theorem State.plsOf_setConv (m n : Nat) (v : Conv) : (s.setConv n v).plsOf m = s.plsOf m := rfl
@[simp] theorem State.mbxOf_setConv (m n : Nat) (v : Conv) : (s.setConv n v).mbxOf m = s.mbxOf m := rfl
@[simp] theorem State.setLoc_get (n : Nat) (v : Loc) (f : Fld) (i : Nat) : (s.setLoc n v).get f i = s.get f i := rfl
@[simp] theorem State.locOf_setLoc (n : Nat) (v : Loc) : (s.setLoc n v).locOf n = v := by
  simp [State.locOf, State.setLoc]
theorem State.locOf_setLoc_ne {n m : Nat} (v : Loc) (h : m ≠ n) : (s.setLoc n v).locOf m = s.locOf m :=
  Table.get_set_ne _ _ _ _ h
@[simp] theorem State.locOf_set (m : Nat) (f : Fld) (i v : Nat) : (s.set f i v).locOf m = s.locOf m := rfl
@[simp] theorem State.locOf_touch (m t : Nat) : (s.touch t).locOf m = s.locOf m := by
  unfold State.locOf
  rw [State.touch_loc]
@[simp] theorem State.setLoc_resp (n : Nat) (v : Loc) : (s.setLoc n v).resp = s.resp := rfl
@[simp] theorem State.setLoc_tb (n : Nat) (v : Loc) : (s.setLoc n v).tb = s.tb := rfl
@[simp] theorem State.setLoc_tbRun (n : Nat) (v : Loc) : (s.setLoc n v).tbRun = s.tbRun := rfl
@[simp] theorem State.setLoc_mem (n : Nat) (v : Loc) : (s.setLoc n v).mem = s.mem := rfl
@[simp] theorem State.setLoc_jnl (n : Nat) (v : Loc) : (s.setLoc n v).jnl = s.jnl := rfl
@[simp] theorem State.setLoc_pow (n : Nat) (v : Loc) : (s.setLoc n v).pow = s.pow := rfl
@[simp] theorem State.setLoc_chn (n : Nat) (v : Loc) : (s.setLoc n v).chn = s.chn := rfl
@[simp] theorem State.setLoc_img (n : Nat) (v : Loc) : (s.setLoc n v).img = s.img := rfl
@[simp] theorem State.setLoc_mode (n : Nat) (v : Loc) : (s.setLoc n v).mode = s.mode := rfl
@[simp] theorem State.setLoc_tbs (n : Nat) (v : Loc) : (s.setLoc n v).tbs = s.tbs := rfl
@[simp] theorem State.setLoc_twl (n : Nat) (v : Loc) : (s.setLoc n v).twl = s.twl := rfl
@[simp] theorem State.setLoc_lsnGrp (n : Nat) (v : Loc) : (s.setLoc n v).lsnGrp = s.lsnGrp := rfl
@[simp] theorem State.setLoc_tailing (n : Nat) (v : Loc) : (s.setLoc n v).tailing = s.tailing := rfl
@[simp] theorem State.setLoc_jln (n : Nat) (v : Loc) : (s.setLoc n v).jln = s.jln := rfl
@[simp] theorem State.setLoc_nave0 (n : Nat) (v : Loc) : (s.setLoc n v).nave0 = s.nave0 := rfl
@[simp] theorem State.setLoc_nave1 (n : Nat) (v : Loc) : (s.setLoc n v).nave1 = s.nave1 := rfl
@[simp] theorem State.setLoc_irq (n : Nat) (v : Loc) : (s.setLoc n v).irq = s.irq := rfl
@[simp] theorem State.setLoc_dbg (n : Nat) (v : Loc) : (s.setLoc n v).dbg = s.dbg := rfl
@[simp] theorem State.setLoc_free (n : Nat) (v : Loc) : (s.setLoc n v).free = s.free := rfl
@[simp] theorem State.setLoc_pending (n : Nat) (v : Loc) : (s.setLoc n v).pending = s.pending := rfl
@[simp] theorem State.convOf_setLoc (m n : Nat) (v : Loc) : (s.setLoc n v).convOf m = s.convOf m := rfl
@[simp] theorem State.tripOf_setLoc (m n : Nat) (v : Loc) : (s.setLoc n v).tripOf m = s.tripOf m := rfl
@[simp] theorem State.trkOf_setLoc (m n : Nat) (v : Loc) : (s.setLoc n v).trkOf m = s.trkOf m := rfl
@[simp] theorem State.qryOf_setLoc (m n : Nat) (v : Loc) : (s.setLoc n v).qryOf m = s.qryOf m := rfl
@[simp] theorem State.slotOf_setLoc (m n : Nat) (v : Loc) : (s.setLoc n v).slotOf m = s.slotOf m := rfl
@[simp] theorem State.busOf_setLoc (m n : Nat) (v : Loc) : (s.setLoc n v).busOf m = s.busOf m := rfl
@[simp] theorem State.dropOf_setLoc (m n : Nat) (v : Loc) : (s.setLoc n v).dropOf m = s.dropOf m := rfl
@[simp] theorem State.compOf_setLoc (m n : Nat) (v : Loc) : (s.setLoc n v).compOf m = s.compOf m := rfl
@[simp] theorem State.brkOf_setLoc (m n : Nat) (v : Loc) : (s.setLoc n v).brkOf m = s.brkOf m := rfl
@[simp] theorem State.grdOf_setLoc (m n : Nat) (v : Loc) : (s.setLoc n v).grdOf m = s.grdOf m := rfl
@[simp] theorem State.mpptOf_setLoc (m n : Nat) (v : Loc) : (s.setLoc n v).mpptOf m = s.mpptOf m := rfl
@[simp] theorem State.axsOf_setLoc (m n : Nat) (v : Loc) : (s.setLoc n v).axsOf m = s.axsOf m := rfl
@[simp] theorem State.adcOf_setLoc (m n : Nat) (v : Loc) : (s.setLoc n v).adcOf m = s.adcOf m := rfl
@[simp] theorem State.lsnOf_setLoc (m n : Nat) (v : Loc) : (s.setLoc n v).lsnOf m = s.lsnOf m := rfl
@[simp] theorem State.cmpOf_setLoc (m n : Nat) (v : Loc) : (s.setLoc n v).cmpOf m = s.cmpOf m := rfl
@[simp] theorem State.auxOf_setLoc (m n : Nat) (v : Loc) : (s.setLoc n v).auxOf m = s.auxOf m := rfl
@[simp] theorem State.fanOf_setLoc (m n : Nat) (v : Loc) : (s.setLoc n v).fanOf m = s.fanOf m := rfl
@[simp] theorem State.lpOf_setLoc (m n : Nat) (v : Loc) : (s.setLoc n v).lpOf m = s.lpOf m := rfl
@[simp] theorem State.mtrOf_setLoc (m n : Nat) (v : Loc) : (s.setLoc n v).mtrOf m = s.mtrOf m := rfl
@[simp] theorem State.plsOf_setLoc (m n : Nat) (v : Loc) : (s.setLoc n v).plsOf m = s.plsOf m := rfl
@[simp] theorem State.mbxOf_setLoc (m n : Nat) (v : Loc) : (s.setLoc n v).mbxOf m = s.mbxOf m := rfl
@[simp] theorem State.setTrip_get (n : Nat) (v : Trip) (f : Fld) (i : Nat) : (s.setTrip n v).get f i = s.get f i := rfl
@[simp] theorem State.tripOf_setTrip (n : Nat) (v : Trip) : (s.setTrip n v).tripOf n = v := by
  simp [State.tripOf, State.setTrip]
theorem State.tripOf_setTrip_ne {n m : Nat} (v : Trip) (h : m ≠ n) : (s.setTrip n v).tripOf m = s.tripOf m :=
  Table.get_set_ne _ _ _ _ h
@[simp] theorem State.tripOf_set (m : Nat) (f : Fld) (i v : Nat) : (s.set f i v).tripOf m = s.tripOf m := rfl
@[simp] theorem State.tripOf_touch (m t : Nat) : (s.touch t).tripOf m = s.tripOf m := by
  unfold State.tripOf
  rw [State.touch_trip]
@[simp] theorem State.setTrip_resp (n : Nat) (v : Trip) : (s.setTrip n v).resp = s.resp := rfl
@[simp] theorem State.setTrip_tb (n : Nat) (v : Trip) : (s.setTrip n v).tb = s.tb := rfl
@[simp] theorem State.setTrip_tbRun (n : Nat) (v : Trip) : (s.setTrip n v).tbRun = s.tbRun := rfl
@[simp] theorem State.setTrip_mem (n : Nat) (v : Trip) : (s.setTrip n v).mem = s.mem := rfl
@[simp] theorem State.setTrip_jnl (n : Nat) (v : Trip) : (s.setTrip n v).jnl = s.jnl := rfl
@[simp] theorem State.setTrip_pow (n : Nat) (v : Trip) : (s.setTrip n v).pow = s.pow := rfl
@[simp] theorem State.setTrip_chn (n : Nat) (v : Trip) : (s.setTrip n v).chn = s.chn := rfl
@[simp] theorem State.setTrip_img (n : Nat) (v : Trip) : (s.setTrip n v).img = s.img := rfl
@[simp] theorem State.setTrip_mode (n : Nat) (v : Trip) : (s.setTrip n v).mode = s.mode := rfl
@[simp] theorem State.setTrip_tbs (n : Nat) (v : Trip) : (s.setTrip n v).tbs = s.tbs := rfl
@[simp] theorem State.setTrip_twl (n : Nat) (v : Trip) : (s.setTrip n v).twl = s.twl := rfl
@[simp] theorem State.setTrip_lsnGrp (n : Nat) (v : Trip) : (s.setTrip n v).lsnGrp = s.lsnGrp := rfl
@[simp] theorem State.setTrip_tailing (n : Nat) (v : Trip) : (s.setTrip n v).tailing = s.tailing := rfl
@[simp] theorem State.setTrip_jln (n : Nat) (v : Trip) : (s.setTrip n v).jln = s.jln := rfl
@[simp] theorem State.setTrip_nave0 (n : Nat) (v : Trip) : (s.setTrip n v).nave0 = s.nave0 := rfl
@[simp] theorem State.setTrip_nave1 (n : Nat) (v : Trip) : (s.setTrip n v).nave1 = s.nave1 := rfl
@[simp] theorem State.setTrip_irq (n : Nat) (v : Trip) : (s.setTrip n v).irq = s.irq := rfl
@[simp] theorem State.setTrip_dbg (n : Nat) (v : Trip) : (s.setTrip n v).dbg = s.dbg := rfl
@[simp] theorem State.setTrip_free (n : Nat) (v : Trip) : (s.setTrip n v).free = s.free := rfl
@[simp] theorem State.setTrip_pending (n : Nat) (v : Trip) : (s.setTrip n v).pending = s.pending := rfl
@[simp] theorem State.convOf_setTrip (m n : Nat) (v : Trip) : (s.setTrip n v).convOf m = s.convOf m := rfl
@[simp] theorem State.locOf_setTrip (m n : Nat) (v : Trip) : (s.setTrip n v).locOf m = s.locOf m := rfl
@[simp] theorem State.trkOf_setTrip (m n : Nat) (v : Trip) : (s.setTrip n v).trkOf m = s.trkOf m := rfl
@[simp] theorem State.qryOf_setTrip (m n : Nat) (v : Trip) : (s.setTrip n v).qryOf m = s.qryOf m := rfl
@[simp] theorem State.slotOf_setTrip (m n : Nat) (v : Trip) : (s.setTrip n v).slotOf m = s.slotOf m := rfl
@[simp] theorem State.busOf_setTrip (m n : Nat) (v : Trip) : (s.setTrip n v).busOf m = s.busOf m := rfl
@[simp] theorem State.dropOf_setTrip (m n : Nat) (v : Trip) : (s.setTrip n v).dropOf m = s.dropOf m := rfl
@[simp] theorem State.compOf_setTrip (m n : Nat) (v : Trip) : (s.setTrip n v).compOf m = s.compOf m := rfl
@[simp] theorem State.brkOf_setTrip (m n : Nat) (v : Trip) : (s.setTrip n v).brkOf m = s.brkOf m := rfl
@[simp] theorem State.grdOf_setTrip (m n : Nat) (v : Trip) : (s.setTrip n v).grdOf m = s.grdOf m := rfl
@[simp] theorem State.mpptOf_setTrip (m n : Nat) (v : Trip) : (s.setTrip n v).mpptOf m = s.mpptOf m := rfl
@[simp] theorem State.axsOf_setTrip (m n : Nat) (v : Trip) : (s.setTrip n v).axsOf m = s.axsOf m := rfl
@[simp] theorem State.adcOf_setTrip (m n : Nat) (v : Trip) : (s.setTrip n v).adcOf m = s.adcOf m := rfl
@[simp] theorem State.lsnOf_setTrip (m n : Nat) (v : Trip) : (s.setTrip n v).lsnOf m = s.lsnOf m := rfl
@[simp] theorem State.cmpOf_setTrip (m n : Nat) (v : Trip) : (s.setTrip n v).cmpOf m = s.cmpOf m := rfl
@[simp] theorem State.auxOf_setTrip (m n : Nat) (v : Trip) : (s.setTrip n v).auxOf m = s.auxOf m := rfl
@[simp] theorem State.fanOf_setTrip (m n : Nat) (v : Trip) : (s.setTrip n v).fanOf m = s.fanOf m := rfl
@[simp] theorem State.lpOf_setTrip (m n : Nat) (v : Trip) : (s.setTrip n v).lpOf m = s.lpOf m := rfl
@[simp] theorem State.mtrOf_setTrip (m n : Nat) (v : Trip) : (s.setTrip n v).mtrOf m = s.mtrOf m := rfl
@[simp] theorem State.plsOf_setTrip (m n : Nat) (v : Trip) : (s.setTrip n v).plsOf m = s.plsOf m := rfl
@[simp] theorem State.mbxOf_setTrip (m n : Nat) (v : Trip) : (s.setTrip n v).mbxOf m = s.mbxOf m := rfl
@[simp] theorem State.setTrk_get (n : Nat) (v : Trk) (f : Fld) (i : Nat) : (s.setTrk n v).get f i = s.get f i := rfl
@[simp] theorem State.trkOf_setTrk (n : Nat) (v : Trk) : (s.setTrk n v).trkOf n = v := by
  simp [State.trkOf, State.setTrk]
theorem State.trkOf_setTrk_ne {n m : Nat} (v : Trk) (h : m ≠ n) : (s.setTrk n v).trkOf m = s.trkOf m :=
  Table.get_set_ne _ _ _ _ h
@[simp] theorem State.trkOf_set (m : Nat) (f : Fld) (i v : Nat) : (s.set f i v).trkOf m = s.trkOf m := rfl
@[simp] theorem State.trkOf_touch (m t : Nat) : (s.touch t).trkOf m = s.trkOf m := by
  unfold State.trkOf
  rw [State.touch_trk]
@[simp] theorem State.setTrk_resp (n : Nat) (v : Trk) : (s.setTrk n v).resp = s.resp := rfl
@[simp] theorem State.setTrk_tb (n : Nat) (v : Trk) : (s.setTrk n v).tb = s.tb := rfl
@[simp] theorem State.setTrk_tbRun (n : Nat) (v : Trk) : (s.setTrk n v).tbRun = s.tbRun := rfl
@[simp] theorem State.setTrk_mem (n : Nat) (v : Trk) : (s.setTrk n v).mem = s.mem := rfl
@[simp] theorem State.setTrk_jnl (n : Nat) (v : Trk) : (s.setTrk n v).jnl = s.jnl := rfl
@[simp] theorem State.setTrk_pow (n : Nat) (v : Trk) : (s.setTrk n v).pow = s.pow := rfl
@[simp] theorem State.setTrk_chn (n : Nat) (v : Trk) : (s.setTrk n v).chn = s.chn := rfl
@[simp] theorem State.setTrk_img (n : Nat) (v : Trk) : (s.setTrk n v).img = s.img := rfl
@[simp] theorem State.setTrk_mode (n : Nat) (v : Trk) : (s.setTrk n v).mode = s.mode := rfl
@[simp] theorem State.setTrk_tbs (n : Nat) (v : Trk) : (s.setTrk n v).tbs = s.tbs := rfl
@[simp] theorem State.setTrk_twl (n : Nat) (v : Trk) : (s.setTrk n v).twl = s.twl := rfl
@[simp] theorem State.setTrk_lsnGrp (n : Nat) (v : Trk) : (s.setTrk n v).lsnGrp = s.lsnGrp := rfl
@[simp] theorem State.setTrk_tailing (n : Nat) (v : Trk) : (s.setTrk n v).tailing = s.tailing := rfl
@[simp] theorem State.setTrk_jln (n : Nat) (v : Trk) : (s.setTrk n v).jln = s.jln := rfl
@[simp] theorem State.setTrk_nave0 (n : Nat) (v : Trk) : (s.setTrk n v).nave0 = s.nave0 := rfl
@[simp] theorem State.setTrk_nave1 (n : Nat) (v : Trk) : (s.setTrk n v).nave1 = s.nave1 := rfl
@[simp] theorem State.setTrk_irq (n : Nat) (v : Trk) : (s.setTrk n v).irq = s.irq := rfl
@[simp] theorem State.setTrk_dbg (n : Nat) (v : Trk) : (s.setTrk n v).dbg = s.dbg := rfl
@[simp] theorem State.setTrk_free (n : Nat) (v : Trk) : (s.setTrk n v).free = s.free := rfl
@[simp] theorem State.setTrk_pending (n : Nat) (v : Trk) : (s.setTrk n v).pending = s.pending := rfl
@[simp] theorem State.convOf_setTrk (m n : Nat) (v : Trk) : (s.setTrk n v).convOf m = s.convOf m := rfl
@[simp] theorem State.locOf_setTrk (m n : Nat) (v : Trk) : (s.setTrk n v).locOf m = s.locOf m := rfl
@[simp] theorem State.tripOf_setTrk (m n : Nat) (v : Trk) : (s.setTrk n v).tripOf m = s.tripOf m := rfl
@[simp] theorem State.qryOf_setTrk (m n : Nat) (v : Trk) : (s.setTrk n v).qryOf m = s.qryOf m := rfl
@[simp] theorem State.slotOf_setTrk (m n : Nat) (v : Trk) : (s.setTrk n v).slotOf m = s.slotOf m := rfl
@[simp] theorem State.busOf_setTrk (m n : Nat) (v : Trk) : (s.setTrk n v).busOf m = s.busOf m := rfl
@[simp] theorem State.dropOf_setTrk (m n : Nat) (v : Trk) : (s.setTrk n v).dropOf m = s.dropOf m := rfl
@[simp] theorem State.compOf_setTrk (m n : Nat) (v : Trk) : (s.setTrk n v).compOf m = s.compOf m := rfl
@[simp] theorem State.brkOf_setTrk (m n : Nat) (v : Trk) : (s.setTrk n v).brkOf m = s.brkOf m := rfl
@[simp] theorem State.grdOf_setTrk (m n : Nat) (v : Trk) : (s.setTrk n v).grdOf m = s.grdOf m := rfl
@[simp] theorem State.mpptOf_setTrk (m n : Nat) (v : Trk) : (s.setTrk n v).mpptOf m = s.mpptOf m := rfl
@[simp] theorem State.axsOf_setTrk (m n : Nat) (v : Trk) : (s.setTrk n v).axsOf m = s.axsOf m := rfl
@[simp] theorem State.adcOf_setTrk (m n : Nat) (v : Trk) : (s.setTrk n v).adcOf m = s.adcOf m := rfl
@[simp] theorem State.lsnOf_setTrk (m n : Nat) (v : Trk) : (s.setTrk n v).lsnOf m = s.lsnOf m := rfl
@[simp] theorem State.cmpOf_setTrk (m n : Nat) (v : Trk) : (s.setTrk n v).cmpOf m = s.cmpOf m := rfl
@[simp] theorem State.auxOf_setTrk (m n : Nat) (v : Trk) : (s.setTrk n v).auxOf m = s.auxOf m := rfl
@[simp] theorem State.fanOf_setTrk (m n : Nat) (v : Trk) : (s.setTrk n v).fanOf m = s.fanOf m := rfl
@[simp] theorem State.lpOf_setTrk (m n : Nat) (v : Trk) : (s.setTrk n v).lpOf m = s.lpOf m := rfl
@[simp] theorem State.mtrOf_setTrk (m n : Nat) (v : Trk) : (s.setTrk n v).mtrOf m = s.mtrOf m := rfl
@[simp] theorem State.plsOf_setTrk (m n : Nat) (v : Trk) : (s.setTrk n v).plsOf m = s.plsOf m := rfl
@[simp] theorem State.mbxOf_setTrk (m n : Nat) (v : Trk) : (s.setTrk n v).mbxOf m = s.mbxOf m := rfl
@[simp] theorem State.setQry_get (n : Nat) (v : Qry) (f : Fld) (i : Nat) : (s.setQry n v).get f i = s.get f i := rfl
@[simp] theorem State.qryOf_setQry (n : Nat) (v : Qry) : (s.setQry n v).qryOf n = v := by
  simp [State.qryOf, State.setQry]
theorem State.qryOf_setQry_ne {n m : Nat} (v : Qry) (h : m ≠ n) : (s.setQry n v).qryOf m = s.qryOf m :=
  Table.get_set_ne _ _ _ _ h
@[simp] theorem State.qryOf_set (m : Nat) (f : Fld) (i v : Nat) : (s.set f i v).qryOf m = s.qryOf m := rfl
@[simp] theorem State.qryOf_touch (m t : Nat) : (s.touch t).qryOf m = s.qryOf m := by
  unfold State.qryOf
  rw [State.touch_qry]
@[simp] theorem State.setQry_resp (n : Nat) (v : Qry) : (s.setQry n v).resp = s.resp := rfl
@[simp] theorem State.setQry_tb (n : Nat) (v : Qry) : (s.setQry n v).tb = s.tb := rfl
@[simp] theorem State.setQry_tbRun (n : Nat) (v : Qry) : (s.setQry n v).tbRun = s.tbRun := rfl
@[simp] theorem State.setQry_mem (n : Nat) (v : Qry) : (s.setQry n v).mem = s.mem := rfl
@[simp] theorem State.setQry_jnl (n : Nat) (v : Qry) : (s.setQry n v).jnl = s.jnl := rfl
@[simp] theorem State.setQry_pow (n : Nat) (v : Qry) : (s.setQry n v).pow = s.pow := rfl
@[simp] theorem State.setQry_chn (n : Nat) (v : Qry) : (s.setQry n v).chn = s.chn := rfl
@[simp] theorem State.setQry_img (n : Nat) (v : Qry) : (s.setQry n v).img = s.img := rfl
@[simp] theorem State.setQry_mode (n : Nat) (v : Qry) : (s.setQry n v).mode = s.mode := rfl
@[simp] theorem State.setQry_tbs (n : Nat) (v : Qry) : (s.setQry n v).tbs = s.tbs := rfl
@[simp] theorem State.setQry_twl (n : Nat) (v : Qry) : (s.setQry n v).twl = s.twl := rfl
@[simp] theorem State.setQry_lsnGrp (n : Nat) (v : Qry) : (s.setQry n v).lsnGrp = s.lsnGrp := rfl
@[simp] theorem State.setQry_tailing (n : Nat) (v : Qry) : (s.setQry n v).tailing = s.tailing := rfl
@[simp] theorem State.setQry_jln (n : Nat) (v : Qry) : (s.setQry n v).jln = s.jln := rfl
@[simp] theorem State.setQry_nave0 (n : Nat) (v : Qry) : (s.setQry n v).nave0 = s.nave0 := rfl
@[simp] theorem State.setQry_nave1 (n : Nat) (v : Qry) : (s.setQry n v).nave1 = s.nave1 := rfl
@[simp] theorem State.setQry_irq (n : Nat) (v : Qry) : (s.setQry n v).irq = s.irq := rfl
@[simp] theorem State.setQry_dbg (n : Nat) (v : Qry) : (s.setQry n v).dbg = s.dbg := rfl
@[simp] theorem State.setQry_free (n : Nat) (v : Qry) : (s.setQry n v).free = s.free := rfl
@[simp] theorem State.setQry_pending (n : Nat) (v : Qry) : (s.setQry n v).pending = s.pending := rfl
@[simp] theorem State.convOf_setQry (m n : Nat) (v : Qry) : (s.setQry n v).convOf m = s.convOf m := rfl
@[simp] theorem State.locOf_setQry (m n : Nat) (v : Qry) : (s.setQry n v).locOf m = s.locOf m := rfl
@[simp] theorem State.tripOf_setQry (m n : Nat) (v : Qry) : (s.setQry n v).tripOf m = s.tripOf m := rfl
@[simp] theorem State.trkOf_setQry (m n : Nat) (v : Qry) : (s.setQry n v).trkOf m = s.trkOf m := rfl
@[simp] theorem State.slotOf_setQry (m n : Nat) (v : Qry) : (s.setQry n v).slotOf m = s.slotOf m := rfl
@[simp] theorem State.busOf_setQry (m n : Nat) (v : Qry) : (s.setQry n v).busOf m = s.busOf m := rfl
@[simp] theorem State.dropOf_setQry (m n : Nat) (v : Qry) : (s.setQry n v).dropOf m = s.dropOf m := rfl
@[simp] theorem State.compOf_setQry (m n : Nat) (v : Qry) : (s.setQry n v).compOf m = s.compOf m := rfl
@[simp] theorem State.brkOf_setQry (m n : Nat) (v : Qry) : (s.setQry n v).brkOf m = s.brkOf m := rfl
@[simp] theorem State.grdOf_setQry (m n : Nat) (v : Qry) : (s.setQry n v).grdOf m = s.grdOf m := rfl
@[simp] theorem State.mpptOf_setQry (m n : Nat) (v : Qry) : (s.setQry n v).mpptOf m = s.mpptOf m := rfl
@[simp] theorem State.axsOf_setQry (m n : Nat) (v : Qry) : (s.setQry n v).axsOf m = s.axsOf m := rfl
@[simp] theorem State.adcOf_setQry (m n : Nat) (v : Qry) : (s.setQry n v).adcOf m = s.adcOf m := rfl
@[simp] theorem State.lsnOf_setQry (m n : Nat) (v : Qry) : (s.setQry n v).lsnOf m = s.lsnOf m := rfl
@[simp] theorem State.cmpOf_setQry (m n : Nat) (v : Qry) : (s.setQry n v).cmpOf m = s.cmpOf m := rfl
@[simp] theorem State.auxOf_setQry (m n : Nat) (v : Qry) : (s.setQry n v).auxOf m = s.auxOf m := rfl
@[simp] theorem State.fanOf_setQry (m n : Nat) (v : Qry) : (s.setQry n v).fanOf m = s.fanOf m := rfl
@[simp] theorem State.lpOf_setQry (m n : Nat) (v : Qry) : (s.setQry n v).lpOf m = s.lpOf m := rfl
@[simp] theorem State.mtrOf_setQry (m n : Nat) (v : Qry) : (s.setQry n v).mtrOf m = s.mtrOf m := rfl
@[simp] theorem State.plsOf_setQry (m n : Nat) (v : Qry) : (s.setQry n v).plsOf m = s.plsOf m := rfl
@[simp] theorem State.mbxOf_setQry (m n : Nat) (v : Qry) : (s.setQry n v).mbxOf m = s.mbxOf m := rfl
@[simp] theorem State.setSlot_get (n : Nat) (v : Slot) (f : Fld) (i : Nat) : (s.setSlot n v).get f i = s.get f i := rfl
@[simp] theorem State.slotOf_setSlot (n : Nat) (v : Slot) : (s.setSlot n v).slotOf n = v := by
  simp [State.slotOf, State.setSlot]
theorem State.slotOf_setSlot_ne {n m : Nat} (v : Slot) (h : m ≠ n) : (s.setSlot n v).slotOf m = s.slotOf m :=
  Table.get_set_ne _ _ _ _ h
@[simp] theorem State.slotOf_set (m : Nat) (f : Fld) (i v : Nat) : (s.set f i v).slotOf m = s.slotOf m := rfl
@[simp] theorem State.slotOf_touch (m t : Nat) : (s.touch t).slotOf m = s.slotOf m := by
  unfold State.slotOf
  rw [State.touch_slot]
@[simp] theorem State.setSlot_resp (n : Nat) (v : Slot) : (s.setSlot n v).resp = s.resp := rfl
@[simp] theorem State.setSlot_tb (n : Nat) (v : Slot) : (s.setSlot n v).tb = s.tb := rfl
@[simp] theorem State.setSlot_tbRun (n : Nat) (v : Slot) : (s.setSlot n v).tbRun = s.tbRun := rfl
@[simp] theorem State.setSlot_mem (n : Nat) (v : Slot) : (s.setSlot n v).mem = s.mem := rfl
@[simp] theorem State.setSlot_jnl (n : Nat) (v : Slot) : (s.setSlot n v).jnl = s.jnl := rfl
@[simp] theorem State.setSlot_pow (n : Nat) (v : Slot) : (s.setSlot n v).pow = s.pow := rfl
@[simp] theorem State.setSlot_chn (n : Nat) (v : Slot) : (s.setSlot n v).chn = s.chn := rfl
@[simp] theorem State.setSlot_img (n : Nat) (v : Slot) : (s.setSlot n v).img = s.img := rfl
@[simp] theorem State.setSlot_mode (n : Nat) (v : Slot) : (s.setSlot n v).mode = s.mode := rfl
@[simp] theorem State.setSlot_tbs (n : Nat) (v : Slot) : (s.setSlot n v).tbs = s.tbs := rfl
@[simp] theorem State.setSlot_twl (n : Nat) (v : Slot) : (s.setSlot n v).twl = s.twl := rfl
@[simp] theorem State.setSlot_lsnGrp (n : Nat) (v : Slot) : (s.setSlot n v).lsnGrp = s.lsnGrp := rfl
@[simp] theorem State.setSlot_tailing (n : Nat) (v : Slot) : (s.setSlot n v).tailing = s.tailing := rfl
@[simp] theorem State.setSlot_jln (n : Nat) (v : Slot) : (s.setSlot n v).jln = s.jln := rfl
@[simp] theorem State.setSlot_nave0 (n : Nat) (v : Slot) : (s.setSlot n v).nave0 = s.nave0 := rfl
@[simp] theorem State.setSlot_nave1 (n : Nat) (v : Slot) : (s.setSlot n v).nave1 = s.nave1 := rfl
@[simp] theorem State.setSlot_irq (n : Nat) (v : Slot) : (s.setSlot n v).irq = s.irq := rfl
@[simp] theorem State.setSlot_dbg (n : Nat) (v : Slot) : (s.setSlot n v).dbg = s.dbg := rfl
@[simp] theorem State.setSlot_free (n : Nat) (v : Slot) : (s.setSlot n v).free = s.free := rfl
@[simp] theorem State.setSlot_pending (n : Nat) (v : Slot) : (s.setSlot n v).pending = s.pending := rfl
@[simp] theorem State.convOf_setSlot (m n : Nat) (v : Slot) : (s.setSlot n v).convOf m = s.convOf m := rfl
@[simp] theorem State.locOf_setSlot (m n : Nat) (v : Slot) : (s.setSlot n v).locOf m = s.locOf m := rfl
@[simp] theorem State.tripOf_setSlot (m n : Nat) (v : Slot) : (s.setSlot n v).tripOf m = s.tripOf m := rfl
@[simp] theorem State.trkOf_setSlot (m n : Nat) (v : Slot) : (s.setSlot n v).trkOf m = s.trkOf m := rfl
@[simp] theorem State.qryOf_setSlot (m n : Nat) (v : Slot) : (s.setSlot n v).qryOf m = s.qryOf m := rfl
@[simp] theorem State.busOf_setSlot (m n : Nat) (v : Slot) : (s.setSlot n v).busOf m = s.busOf m := rfl
@[simp] theorem State.dropOf_setSlot (m n : Nat) (v : Slot) : (s.setSlot n v).dropOf m = s.dropOf m := rfl
@[simp] theorem State.compOf_setSlot (m n : Nat) (v : Slot) : (s.setSlot n v).compOf m = s.compOf m := rfl
@[simp] theorem State.brkOf_setSlot (m n : Nat) (v : Slot) : (s.setSlot n v).brkOf m = s.brkOf m := rfl
@[simp] theorem State.grdOf_setSlot (m n : Nat) (v : Slot) : (s.setSlot n v).grdOf m = s.grdOf m := rfl
@[simp] theorem State.mpptOf_setSlot (m n : Nat) (v : Slot) : (s.setSlot n v).mpptOf m = s.mpptOf m := rfl
@[simp] theorem State.axsOf_setSlot (m n : Nat) (v : Slot) : (s.setSlot n v).axsOf m = s.axsOf m := rfl
@[simp] theorem State.adcOf_setSlot (m n : Nat) (v : Slot) : (s.setSlot n v).adcOf m = s.adcOf m := rfl
@[simp] theorem State.lsnOf_setSlot (m n : Nat) (v : Slot) : (s.setSlot n v).lsnOf m = s.lsnOf m := rfl
@[simp] theorem State.cmpOf_setSlot (m n : Nat) (v : Slot) : (s.setSlot n v).cmpOf m = s.cmpOf m := rfl
@[simp] theorem State.auxOf_setSlot (m n : Nat) (v : Slot) : (s.setSlot n v).auxOf m = s.auxOf m := rfl
@[simp] theorem State.fanOf_setSlot (m n : Nat) (v : Slot) : (s.setSlot n v).fanOf m = s.fanOf m := rfl
@[simp] theorem State.lpOf_setSlot (m n : Nat) (v : Slot) : (s.setSlot n v).lpOf m = s.lpOf m := rfl
@[simp] theorem State.mtrOf_setSlot (m n : Nat) (v : Slot) : (s.setSlot n v).mtrOf m = s.mtrOf m := rfl
@[simp] theorem State.plsOf_setSlot (m n : Nat) (v : Slot) : (s.setSlot n v).plsOf m = s.plsOf m := rfl
@[simp] theorem State.mbxOf_setSlot (m n : Nat) (v : Slot) : (s.setSlot n v).mbxOf m = s.mbxOf m := rfl
@[simp] theorem State.setBus_get (n : Nat) (v : Bus) (f : Fld) (i : Nat) : (s.setBus n v).get f i = s.get f i := rfl
@[simp] theorem State.busOf_setBus (n : Nat) (v : Bus) : (s.setBus n v).busOf n = v := by
  simp [State.busOf, State.setBus]
theorem State.busOf_setBus_ne {n m : Nat} (v : Bus) (h : m ≠ n) : (s.setBus n v).busOf m = s.busOf m :=
  Table.get_set_ne _ _ _ _ h
@[simp] theorem State.busOf_set (m : Nat) (f : Fld) (i v : Nat) : (s.set f i v).busOf m = s.busOf m := rfl
@[simp] theorem State.busOf_touch (m t : Nat) : (s.touch t).busOf m = s.busOf m := by
  unfold State.busOf
  rw [State.touch_bus]
@[simp] theorem State.setBus_resp (n : Nat) (v : Bus) : (s.setBus n v).resp = s.resp := rfl
@[simp] theorem State.setBus_tb (n : Nat) (v : Bus) : (s.setBus n v).tb = s.tb := rfl
@[simp] theorem State.setBus_tbRun (n : Nat) (v : Bus) : (s.setBus n v).tbRun = s.tbRun := rfl
@[simp] theorem State.setBus_mem (n : Nat) (v : Bus) : (s.setBus n v).mem = s.mem := rfl
@[simp] theorem State.setBus_jnl (n : Nat) (v : Bus) : (s.setBus n v).jnl = s.jnl := rfl
@[simp] theorem State.setBus_pow (n : Nat) (v : Bus) : (s.setBus n v).pow = s.pow := rfl
@[simp] theorem State.setBus_chn (n : Nat) (v : Bus) : (s.setBus n v).chn = s.chn := rfl
@[simp] theorem State.setBus_img (n : Nat) (v : Bus) : (s.setBus n v).img = s.img := rfl
@[simp] theorem State.setBus_mode (n : Nat) (v : Bus) : (s.setBus n v).mode = s.mode := rfl
@[simp] theorem State.setBus_tbs (n : Nat) (v : Bus) : (s.setBus n v).tbs = s.tbs := rfl
@[simp] theorem State.setBus_twl (n : Nat) (v : Bus) : (s.setBus n v).twl = s.twl := rfl
@[simp] theorem State.setBus_lsnGrp (n : Nat) (v : Bus) : (s.setBus n v).lsnGrp = s.lsnGrp := rfl
@[simp] theorem State.setBus_tailing (n : Nat) (v : Bus) : (s.setBus n v).tailing = s.tailing := rfl
@[simp] theorem State.setBus_jln (n : Nat) (v : Bus) : (s.setBus n v).jln = s.jln := rfl
@[simp] theorem State.setBus_nave0 (n : Nat) (v : Bus) : (s.setBus n v).nave0 = s.nave0 := rfl
@[simp] theorem State.setBus_nave1 (n : Nat) (v : Bus) : (s.setBus n v).nave1 = s.nave1 := rfl
@[simp] theorem State.setBus_irq (n : Nat) (v : Bus) : (s.setBus n v).irq = s.irq := rfl
@[simp] theorem State.setBus_dbg (n : Nat) (v : Bus) : (s.setBus n v).dbg = s.dbg := rfl
@[simp] theorem State.setBus_free (n : Nat) (v : Bus) : (s.setBus n v).free = s.free := rfl
@[simp] theorem State.setBus_pending (n : Nat) (v : Bus) : (s.setBus n v).pending = s.pending := rfl
@[simp] theorem State.convOf_setBus (m n : Nat) (v : Bus) : (s.setBus n v).convOf m = s.convOf m := rfl
@[simp] theorem State.locOf_setBus (m n : Nat) (v : Bus) : (s.setBus n v).locOf m = s.locOf m := rfl
@[simp] theorem State.tripOf_setBus (m n : Nat) (v : Bus) : (s.setBus n v).tripOf m = s.tripOf m := rfl
@[simp] theorem State.trkOf_setBus (m n : Nat) (v : Bus) : (s.setBus n v).trkOf m = s.trkOf m := rfl
@[simp] theorem State.qryOf_setBus (m n : Nat) (v : Bus) : (s.setBus n v).qryOf m = s.qryOf m := rfl
@[simp] theorem State.slotOf_setBus (m n : Nat) (v : Bus) : (s.setBus n v).slotOf m = s.slotOf m := rfl
@[simp] theorem State.dropOf_setBus (m n : Nat) (v : Bus) : (s.setBus n v).dropOf m = s.dropOf m := rfl
@[simp] theorem State.compOf_setBus (m n : Nat) (v : Bus) : (s.setBus n v).compOf m = s.compOf m := rfl
@[simp] theorem State.brkOf_setBus (m n : Nat) (v : Bus) : (s.setBus n v).brkOf m = s.brkOf m := rfl
@[simp] theorem State.grdOf_setBus (m n : Nat) (v : Bus) : (s.setBus n v).grdOf m = s.grdOf m := rfl
@[simp] theorem State.mpptOf_setBus (m n : Nat) (v : Bus) : (s.setBus n v).mpptOf m = s.mpptOf m := rfl
@[simp] theorem State.axsOf_setBus (m n : Nat) (v : Bus) : (s.setBus n v).axsOf m = s.axsOf m := rfl
@[simp] theorem State.adcOf_setBus (m n : Nat) (v : Bus) : (s.setBus n v).adcOf m = s.adcOf m := rfl
@[simp] theorem State.lsnOf_setBus (m n : Nat) (v : Bus) : (s.setBus n v).lsnOf m = s.lsnOf m := rfl
@[simp] theorem State.cmpOf_setBus (m n : Nat) (v : Bus) : (s.setBus n v).cmpOf m = s.cmpOf m := rfl
@[simp] theorem State.auxOf_setBus (m n : Nat) (v : Bus) : (s.setBus n v).auxOf m = s.auxOf m := rfl
@[simp] theorem State.fanOf_setBus (m n : Nat) (v : Bus) : (s.setBus n v).fanOf m = s.fanOf m := rfl
@[simp] theorem State.lpOf_setBus (m n : Nat) (v : Bus) : (s.setBus n v).lpOf m = s.lpOf m := rfl
@[simp] theorem State.mtrOf_setBus (m n : Nat) (v : Bus) : (s.setBus n v).mtrOf m = s.mtrOf m := rfl
@[simp] theorem State.plsOf_setBus (m n : Nat) (v : Bus) : (s.setBus n v).plsOf m = s.plsOf m := rfl
@[simp] theorem State.mbxOf_setBus (m n : Nat) (v : Bus) : (s.setBus n v).mbxOf m = s.mbxOf m := rfl
@[simp] theorem State.setDrop_get (n : Nat) (v : Drop) (f : Fld) (i : Nat) : (s.setDrop n v).get f i = s.get f i := rfl
@[simp] theorem State.dropOf_setDrop (n : Nat) (v : Drop) : (s.setDrop n v).dropOf n = v := by
  simp [State.dropOf, State.setDrop]
theorem State.dropOf_setDrop_ne {n m : Nat} (v : Drop) (h : m ≠ n) : (s.setDrop n v).dropOf m = s.dropOf m :=
  Table.get_set_ne _ _ _ _ h
@[simp] theorem State.dropOf_set (m : Nat) (f : Fld) (i v : Nat) : (s.set f i v).dropOf m = s.dropOf m := rfl
@[simp] theorem State.dropOf_touch (m t : Nat) : (s.touch t).dropOf m = s.dropOf m := by
  unfold State.dropOf
  rw [State.touch_drop]
@[simp] theorem State.setDrop_resp (n : Nat) (v : Drop) : (s.setDrop n v).resp = s.resp := rfl
@[simp] theorem State.setDrop_tb (n : Nat) (v : Drop) : (s.setDrop n v).tb = s.tb := rfl
@[simp] theorem State.setDrop_tbRun (n : Nat) (v : Drop) : (s.setDrop n v).tbRun = s.tbRun := rfl
@[simp] theorem State.setDrop_mem (n : Nat) (v : Drop) : (s.setDrop n v).mem = s.mem := rfl
@[simp] theorem State.setDrop_jnl (n : Nat) (v : Drop) : (s.setDrop n v).jnl = s.jnl := rfl
@[simp] theorem State.setDrop_pow (n : Nat) (v : Drop) : (s.setDrop n v).pow = s.pow := rfl
@[simp] theorem State.setDrop_chn (n : Nat) (v : Drop) : (s.setDrop n v).chn = s.chn := rfl
@[simp] theorem State.setDrop_img (n : Nat) (v : Drop) : (s.setDrop n v).img = s.img := rfl
@[simp] theorem State.setDrop_mode (n : Nat) (v : Drop) : (s.setDrop n v).mode = s.mode := rfl
@[simp] theorem State.setDrop_tbs (n : Nat) (v : Drop) : (s.setDrop n v).tbs = s.tbs := rfl
@[simp] theorem State.setDrop_twl (n : Nat) (v : Drop) : (s.setDrop n v).twl = s.twl := rfl
@[simp] theorem State.setDrop_lsnGrp (n : Nat) (v : Drop) : (s.setDrop n v).lsnGrp = s.lsnGrp := rfl
@[simp] theorem State.setDrop_tailing (n : Nat) (v : Drop) : (s.setDrop n v).tailing = s.tailing := rfl
@[simp] theorem State.setDrop_jln (n : Nat) (v : Drop) : (s.setDrop n v).jln = s.jln := rfl
@[simp] theorem State.setDrop_nave0 (n : Nat) (v : Drop) : (s.setDrop n v).nave0 = s.nave0 := rfl
@[simp] theorem State.setDrop_nave1 (n : Nat) (v : Drop) : (s.setDrop n v).nave1 = s.nave1 := rfl
@[simp] theorem State.setDrop_irq (n : Nat) (v : Drop) : (s.setDrop n v).irq = s.irq := rfl
@[simp] theorem State.setDrop_dbg (n : Nat) (v : Drop) : (s.setDrop n v).dbg = s.dbg := rfl
@[simp] theorem State.setDrop_free (n : Nat) (v : Drop) : (s.setDrop n v).free = s.free := rfl
@[simp] theorem State.setDrop_pending (n : Nat) (v : Drop) : (s.setDrop n v).pending = s.pending := rfl
@[simp] theorem State.convOf_setDrop (m n : Nat) (v : Drop) : (s.setDrop n v).convOf m = s.convOf m := rfl
@[simp] theorem State.locOf_setDrop (m n : Nat) (v : Drop) : (s.setDrop n v).locOf m = s.locOf m := rfl
@[simp] theorem State.tripOf_setDrop (m n : Nat) (v : Drop) : (s.setDrop n v).tripOf m = s.tripOf m := rfl
@[simp] theorem State.trkOf_setDrop (m n : Nat) (v : Drop) : (s.setDrop n v).trkOf m = s.trkOf m := rfl
@[simp] theorem State.qryOf_setDrop (m n : Nat) (v : Drop) : (s.setDrop n v).qryOf m = s.qryOf m := rfl
@[simp] theorem State.slotOf_setDrop (m n : Nat) (v : Drop) : (s.setDrop n v).slotOf m = s.slotOf m := rfl
@[simp] theorem State.busOf_setDrop (m n : Nat) (v : Drop) : (s.setDrop n v).busOf m = s.busOf m := rfl
@[simp] theorem State.compOf_setDrop (m n : Nat) (v : Drop) : (s.setDrop n v).compOf m = s.compOf m := rfl
@[simp] theorem State.brkOf_setDrop (m n : Nat) (v : Drop) : (s.setDrop n v).brkOf m = s.brkOf m := rfl
@[simp] theorem State.grdOf_setDrop (m n : Nat) (v : Drop) : (s.setDrop n v).grdOf m = s.grdOf m := rfl
@[simp] theorem State.mpptOf_setDrop (m n : Nat) (v : Drop) : (s.setDrop n v).mpptOf m = s.mpptOf m := rfl
@[simp] theorem State.axsOf_setDrop (m n : Nat) (v : Drop) : (s.setDrop n v).axsOf m = s.axsOf m := rfl
@[simp] theorem State.adcOf_setDrop (m n : Nat) (v : Drop) : (s.setDrop n v).adcOf m = s.adcOf m := rfl
@[simp] theorem State.lsnOf_setDrop (m n : Nat) (v : Drop) : (s.setDrop n v).lsnOf m = s.lsnOf m := rfl
@[simp] theorem State.cmpOf_setDrop (m n : Nat) (v : Drop) : (s.setDrop n v).cmpOf m = s.cmpOf m := rfl
@[simp] theorem State.auxOf_setDrop (m n : Nat) (v : Drop) : (s.setDrop n v).auxOf m = s.auxOf m := rfl
@[simp] theorem State.fanOf_setDrop (m n : Nat) (v : Drop) : (s.setDrop n v).fanOf m = s.fanOf m := rfl
@[simp] theorem State.lpOf_setDrop (m n : Nat) (v : Drop) : (s.setDrop n v).lpOf m = s.lpOf m := rfl
@[simp] theorem State.mtrOf_setDrop (m n : Nat) (v : Drop) : (s.setDrop n v).mtrOf m = s.mtrOf m := rfl
@[simp] theorem State.plsOf_setDrop (m n : Nat) (v : Drop) : (s.setDrop n v).plsOf m = s.plsOf m := rfl
@[simp] theorem State.mbxOf_setDrop (m n : Nat) (v : Drop) : (s.setDrop n v).mbxOf m = s.mbxOf m := rfl
@[simp] theorem State.setComp_get (n : Nat) (v : Comp) (f : Fld) (i : Nat) : (s.setComp n v).get f i = s.get f i := rfl
@[simp] theorem State.compOf_setComp (n : Nat) (v : Comp) : (s.setComp n v).compOf n = v := by
  simp [State.compOf, State.setComp]
theorem State.compOf_setComp_ne {n m : Nat} (v : Comp) (h : m ≠ n) : (s.setComp n v).compOf m = s.compOf m :=
  Table.get_set_ne _ _ _ _ h
@[simp] theorem State.compOf_set (m : Nat) (f : Fld) (i v : Nat) : (s.set f i v).compOf m = s.compOf m := rfl
@[simp] theorem State.compOf_touch (m t : Nat) : (s.touch t).compOf m = s.compOf m := by
  unfold State.compOf
  rw [State.touch_comp]
@[simp] theorem State.setComp_resp (n : Nat) (v : Comp) : (s.setComp n v).resp = s.resp := rfl
@[simp] theorem State.setComp_tb (n : Nat) (v : Comp) : (s.setComp n v).tb = s.tb := rfl
@[simp] theorem State.setComp_tbRun (n : Nat) (v : Comp) : (s.setComp n v).tbRun = s.tbRun := rfl
@[simp] theorem State.setComp_mem (n : Nat) (v : Comp) : (s.setComp n v).mem = s.mem := rfl
@[simp] theorem State.setComp_jnl (n : Nat) (v : Comp) : (s.setComp n v).jnl = s.jnl := rfl
@[simp] theorem State.setComp_pow (n : Nat) (v : Comp) : (s.setComp n v).pow = s.pow := rfl
@[simp] theorem State.setComp_chn (n : Nat) (v : Comp) : (s.setComp n v).chn = s.chn := rfl
@[simp] theorem State.setComp_img (n : Nat) (v : Comp) : (s.setComp n v).img = s.img := rfl
@[simp] theorem State.setComp_mode (n : Nat) (v : Comp) : (s.setComp n v).mode = s.mode := rfl
@[simp] theorem State.setComp_tbs (n : Nat) (v : Comp) : (s.setComp n v).tbs = s.tbs := rfl
@[simp] theorem State.setComp_twl (n : Nat) (v : Comp) : (s.setComp n v).twl = s.twl := rfl
@[simp] theorem State.setComp_lsnGrp (n : Nat) (v : Comp) : (s.setComp n v).lsnGrp = s.lsnGrp := rfl
@[simp] theorem State.setComp_tailing (n : Nat) (v : Comp) : (s.setComp n v).tailing = s.tailing := rfl
@[simp] theorem State.setComp_jln (n : Nat) (v : Comp) : (s.setComp n v).jln = s.jln := rfl
@[simp] theorem State.setComp_nave0 (n : Nat) (v : Comp) : (s.setComp n v).nave0 = s.nave0 := rfl
@[simp] theorem State.setComp_nave1 (n : Nat) (v : Comp) : (s.setComp n v).nave1 = s.nave1 := rfl
@[simp] theorem State.setComp_irq (n : Nat) (v : Comp) : (s.setComp n v).irq = s.irq := rfl
@[simp] theorem State.setComp_dbg (n : Nat) (v : Comp) : (s.setComp n v).dbg = s.dbg := rfl
@[simp] theorem State.setComp_free (n : Nat) (v : Comp) : (s.setComp n v).free = s.free := rfl
@[simp] theorem State.setComp_pending (n : Nat) (v : Comp) : (s.setComp n v).pending = s.pending := rfl
@[simp] theorem State.convOf_setComp (m n : Nat) (v : Comp) : (s.setComp n v).convOf m = s.convOf m := rfl
@[simp] theorem State.locOf_setComp (m n : Nat) (v : Comp) : (s.setComp n v).locOf m = s.locOf m := rfl
@[simp] theorem State.tripOf_setComp (m n : Nat) (v : Comp) : (s.setComp n v).tripOf m = s.tripOf m := rfl
@[simp] theorem State.trkOf_setComp (m n : Nat) (v : Comp) : (s.setComp n v).trkOf m = s.trkOf m := rfl
@[simp] theorem State.qryOf_setComp (m n : Nat) (v : Comp) : (s.setComp n v).qryOf m = s.qryOf m := rfl
@[simp] theorem State.slotOf_setComp (m n : Nat) (v : Comp) : (s.setComp n v).slotOf m = s.slotOf m := rfl
@[simp] theorem State.busOf_setComp (m n : Nat) (v : Comp) : (s.setComp n v).busOf m = s.busOf m := rfl
@[simp] theorem State.dropOf_setComp (m n : Nat) (v : Comp) : (s.setComp n v).dropOf m = s.dropOf m := rfl
@[simp] theorem State.brkOf_setComp (m n : Nat) (v : Comp) : (s.setComp n v).brkOf m = s.brkOf m := rfl
@[simp] theorem State.grdOf_setComp (m n : Nat) (v : Comp) : (s.setComp n v).grdOf m = s.grdOf m := rfl
@[simp] theorem State.mpptOf_setComp (m n : Nat) (v : Comp) : (s.setComp n v).mpptOf m = s.mpptOf m := rfl
@[simp] theorem State.axsOf_setComp (m n : Nat) (v : Comp) : (s.setComp n v).axsOf m = s.axsOf m := rfl
@[simp] theorem State.adcOf_setComp (m n : Nat) (v : Comp) : (s.setComp n v).adcOf m = s.adcOf m := rfl
@[simp] theorem State.lsnOf_setComp (m n : Nat) (v : Comp) : (s.setComp n v).lsnOf m = s.lsnOf m := rfl
@[simp] theorem State.cmpOf_setComp (m n : Nat) (v : Comp) : (s.setComp n v).cmpOf m = s.cmpOf m := rfl
@[simp] theorem State.auxOf_setComp (m n : Nat) (v : Comp) : (s.setComp n v).auxOf m = s.auxOf m := rfl
@[simp] theorem State.fanOf_setComp (m n : Nat) (v : Comp) : (s.setComp n v).fanOf m = s.fanOf m := rfl
@[simp] theorem State.lpOf_setComp (m n : Nat) (v : Comp) : (s.setComp n v).lpOf m = s.lpOf m := rfl
@[simp] theorem State.mtrOf_setComp (m n : Nat) (v : Comp) : (s.setComp n v).mtrOf m = s.mtrOf m := rfl
@[simp] theorem State.plsOf_setComp (m n : Nat) (v : Comp) : (s.setComp n v).plsOf m = s.plsOf m := rfl
@[simp] theorem State.mbxOf_setComp (m n : Nat) (v : Comp) : (s.setComp n v).mbxOf m = s.mbxOf m := rfl
@[simp] theorem State.setBrk_get (n : Nat) (v : Brk) (f : Fld) (i : Nat) : (s.setBrk n v).get f i = s.get f i := rfl
@[simp] theorem State.brkOf_setBrk (n : Nat) (v : Brk) : (s.setBrk n v).brkOf n = v := by
  simp [State.brkOf, State.setBrk]
theorem State.brkOf_setBrk_ne {n m : Nat} (v : Brk) (h : m ≠ n) : (s.setBrk n v).brkOf m = s.brkOf m :=
  Table.get_set_ne _ _ _ _ h
@[simp] theorem State.brkOf_set (m : Nat) (f : Fld) (i v : Nat) : (s.set f i v).brkOf m = s.brkOf m := rfl
@[simp] theorem State.brkOf_touch (m t : Nat) : (s.touch t).brkOf m = s.brkOf m := by
  unfold State.brkOf
  rw [State.touch_brk]
@[simp] theorem State.setBrk_resp (n : Nat) (v : Brk) : (s.setBrk n v).resp = s.resp := rfl
@[simp] theorem State.setBrk_tb (n : Nat) (v : Brk) : (s.setBrk n v).tb = s.tb := rfl
@[simp] theorem State.setBrk_tbRun (n : Nat) (v : Brk) : (s.setBrk n v).tbRun = s.tbRun := rfl
@[simp] theorem State.setBrk_mem (n : Nat) (v : Brk) : (s.setBrk n v).mem = s.mem := rfl
@[simp] theorem State.setBrk_jnl (n : Nat) (v : Brk) : (s.setBrk n v).jnl = s.jnl := rfl
@[simp] theorem State.setBrk_pow (n : Nat) (v : Brk) : (s.setBrk n v).pow = s.pow := rfl
@[simp] theorem State.setBrk_chn (n : Nat) (v : Brk) : (s.setBrk n v).chn = s.chn := rfl
@[simp] theorem State.setBrk_img (n : Nat) (v : Brk) : (s.setBrk n v).img = s.img := rfl
@[simp] theorem State.setBrk_mode (n : Nat) (v : Brk) : (s.setBrk n v).mode = s.mode := rfl
@[simp] theorem State.setBrk_tbs (n : Nat) (v : Brk) : (s.setBrk n v).tbs = s.tbs := rfl
@[simp] theorem State.setBrk_twl (n : Nat) (v : Brk) : (s.setBrk n v).twl = s.twl := rfl
@[simp] theorem State.setBrk_lsnGrp (n : Nat) (v : Brk) : (s.setBrk n v).lsnGrp = s.lsnGrp := rfl
@[simp] theorem State.setBrk_tailing (n : Nat) (v : Brk) : (s.setBrk n v).tailing = s.tailing := rfl
@[simp] theorem State.setBrk_jln (n : Nat) (v : Brk) : (s.setBrk n v).jln = s.jln := rfl
@[simp] theorem State.setBrk_nave0 (n : Nat) (v : Brk) : (s.setBrk n v).nave0 = s.nave0 := rfl
@[simp] theorem State.setBrk_nave1 (n : Nat) (v : Brk) : (s.setBrk n v).nave1 = s.nave1 := rfl
@[simp] theorem State.setBrk_irq (n : Nat) (v : Brk) : (s.setBrk n v).irq = s.irq := rfl
@[simp] theorem State.setBrk_dbg (n : Nat) (v : Brk) : (s.setBrk n v).dbg = s.dbg := rfl
@[simp] theorem State.setBrk_free (n : Nat) (v : Brk) : (s.setBrk n v).free = s.free := rfl
@[simp] theorem State.setBrk_pending (n : Nat) (v : Brk) : (s.setBrk n v).pending = s.pending := rfl
@[simp] theorem State.convOf_setBrk (m n : Nat) (v : Brk) : (s.setBrk n v).convOf m = s.convOf m := rfl
@[simp] theorem State.locOf_setBrk (m n : Nat) (v : Brk) : (s.setBrk n v).locOf m = s.locOf m := rfl
@[simp] theorem State.tripOf_setBrk (m n : Nat) (v : Brk) : (s.setBrk n v).tripOf m = s.tripOf m := rfl
@[simp] theorem State.trkOf_setBrk (m n : Nat) (v : Brk) : (s.setBrk n v).trkOf m = s.trkOf m := rfl
@[simp] theorem State.qryOf_setBrk (m n : Nat) (v : Brk) : (s.setBrk n v).qryOf m = s.qryOf m := rfl
@[simp] theorem State.slotOf_setBrk (m n : Nat) (v : Brk) : (s.setBrk n v).slotOf m = s.slotOf m := rfl
@[simp] theorem State.busOf_setBrk (m n : Nat) (v : Brk) : (s.setBrk n v).busOf m = s.busOf m := rfl
@[simp] theorem State.dropOf_setBrk (m n : Nat) (v : Brk) : (s.setBrk n v).dropOf m = s.dropOf m := rfl
@[simp] theorem State.compOf_setBrk (m n : Nat) (v : Brk) : (s.setBrk n v).compOf m = s.compOf m := rfl
@[simp] theorem State.grdOf_setBrk (m n : Nat) (v : Brk) : (s.setBrk n v).grdOf m = s.grdOf m := rfl
@[simp] theorem State.mpptOf_setBrk (m n : Nat) (v : Brk) : (s.setBrk n v).mpptOf m = s.mpptOf m := rfl
@[simp] theorem State.axsOf_setBrk (m n : Nat) (v : Brk) : (s.setBrk n v).axsOf m = s.axsOf m := rfl
@[simp] theorem State.adcOf_setBrk (m n : Nat) (v : Brk) : (s.setBrk n v).adcOf m = s.adcOf m := rfl
@[simp] theorem State.lsnOf_setBrk (m n : Nat) (v : Brk) : (s.setBrk n v).lsnOf m = s.lsnOf m := rfl
@[simp] theorem State.cmpOf_setBrk (m n : Nat) (v : Brk) : (s.setBrk n v).cmpOf m = s.cmpOf m := rfl
@[simp] theorem State.auxOf_setBrk (m n : Nat) (v : Brk) : (s.setBrk n v).auxOf m = s.auxOf m := rfl
@[simp] theorem State.fanOf_setBrk (m n : Nat) (v : Brk) : (s.setBrk n v).fanOf m = s.fanOf m := rfl
@[simp] theorem State.lpOf_setBrk (m n : Nat) (v : Brk) : (s.setBrk n v).lpOf m = s.lpOf m := rfl
@[simp] theorem State.mtrOf_setBrk (m n : Nat) (v : Brk) : (s.setBrk n v).mtrOf m = s.mtrOf m := rfl
@[simp] theorem State.plsOf_setBrk (m n : Nat) (v : Brk) : (s.setBrk n v).plsOf m = s.plsOf m := rfl
@[simp] theorem State.mbxOf_setBrk (m n : Nat) (v : Brk) : (s.setBrk n v).mbxOf m = s.mbxOf m := rfl
@[simp] theorem State.setGrd_get (n : Nat) (v : Grd) (f : Fld) (i : Nat) : (s.setGrd n v).get f i = s.get f i := rfl
@[simp] theorem State.grdOf_setGrd (n : Nat) (v : Grd) : (s.setGrd n v).grdOf n = v := by
  simp [State.grdOf, State.setGrd]
theorem State.grdOf_setGrd_ne {n m : Nat} (v : Grd) (h : m ≠ n) : (s.setGrd n v).grdOf m = s.grdOf m :=
  Table.get_set_ne _ _ _ _ h
@[simp] theorem State.grdOf_set (m : Nat) (f : Fld) (i v : Nat) : (s.set f i v).grdOf m = s.grdOf m := rfl
@[simp] theorem State.grdOf_touch (m t : Nat) : (s.touch t).grdOf m = s.grdOf m := by
  unfold State.grdOf
  rw [State.touch_grd]
@[simp] theorem State.setGrd_resp (n : Nat) (v : Grd) : (s.setGrd n v).resp = s.resp := rfl
@[simp] theorem State.setGrd_tb (n : Nat) (v : Grd) : (s.setGrd n v).tb = s.tb := rfl
@[simp] theorem State.setGrd_tbRun (n : Nat) (v : Grd) : (s.setGrd n v).tbRun = s.tbRun := rfl
@[simp] theorem State.setGrd_mem (n : Nat) (v : Grd) : (s.setGrd n v).mem = s.mem := rfl
@[simp] theorem State.setGrd_jnl (n : Nat) (v : Grd) : (s.setGrd n v).jnl = s.jnl := rfl
@[simp] theorem State.setGrd_pow (n : Nat) (v : Grd) : (s.setGrd n v).pow = s.pow := rfl
@[simp] theorem State.setGrd_chn (n : Nat) (v : Grd) : (s.setGrd n v).chn = s.chn := rfl
@[simp] theorem State.setGrd_img (n : Nat) (v : Grd) : (s.setGrd n v).img = s.img := rfl
@[simp] theorem State.setGrd_mode (n : Nat) (v : Grd) : (s.setGrd n v).mode = s.mode := rfl
@[simp] theorem State.setGrd_tbs (n : Nat) (v : Grd) : (s.setGrd n v).tbs = s.tbs := rfl
@[simp] theorem State.setGrd_twl (n : Nat) (v : Grd) : (s.setGrd n v).twl = s.twl := rfl
@[simp] theorem State.setGrd_lsnGrp (n : Nat) (v : Grd) : (s.setGrd n v).lsnGrp = s.lsnGrp := rfl
@[simp] theorem State.setGrd_tailing (n : Nat) (v : Grd) : (s.setGrd n v).tailing = s.tailing := rfl
@[simp] theorem State.setGrd_jln (n : Nat) (v : Grd) : (s.setGrd n v).jln = s.jln := rfl
@[simp] theorem State.setGrd_nave0 (n : Nat) (v : Grd) : (s.setGrd n v).nave0 = s.nave0 := rfl
@[simp] theorem State.setGrd_nave1 (n : Nat) (v : Grd) : (s.setGrd n v).nave1 = s.nave1 := rfl
@[simp] theorem State.setGrd_irq (n : Nat) (v : Grd) : (s.setGrd n v).irq = s.irq := rfl
@[simp] theorem State.setGrd_dbg (n : Nat) (v : Grd) : (s.setGrd n v).dbg = s.dbg := rfl
@[simp] theorem State.setGrd_free (n : Nat) (v : Grd) : (s.setGrd n v).free = s.free := rfl
@[simp] theorem State.setGrd_pending (n : Nat) (v : Grd) : (s.setGrd n v).pending = s.pending := rfl
@[simp] theorem State.convOf_setGrd (m n : Nat) (v : Grd) : (s.setGrd n v).convOf m = s.convOf m := rfl
@[simp] theorem State.locOf_setGrd (m n : Nat) (v : Grd) : (s.setGrd n v).locOf m = s.locOf m := rfl
@[simp] theorem State.tripOf_setGrd (m n : Nat) (v : Grd) : (s.setGrd n v).tripOf m = s.tripOf m := rfl
@[simp] theorem State.trkOf_setGrd (m n : Nat) (v : Grd) : (s.setGrd n v).trkOf m = s.trkOf m := rfl
@[simp] theorem State.qryOf_setGrd (m n : Nat) (v : Grd) : (s.setGrd n v).qryOf m = s.qryOf m := rfl
@[simp] theorem State.slotOf_setGrd (m n : Nat) (v : Grd) : (s.setGrd n v).slotOf m = s.slotOf m := rfl
@[simp] theorem State.busOf_setGrd (m n : Nat) (v : Grd) : (s.setGrd n v).busOf m = s.busOf m := rfl
@[simp] theorem State.dropOf_setGrd (m n : Nat) (v : Grd) : (s.setGrd n v).dropOf m = s.dropOf m := rfl
@[simp] theorem State.compOf_setGrd (m n : Nat) (v : Grd) : (s.setGrd n v).compOf m = s.compOf m := rfl
@[simp] theorem State.brkOf_setGrd (m n : Nat) (v : Grd) : (s.setGrd n v).brkOf m = s.brkOf m := rfl
@[simp] theorem State.mpptOf_setGrd (m n : Nat) (v : Grd) : (s.setGrd n v).mpptOf m = s.mpptOf m := rfl
@[simp] theorem State.axsOf_setGrd (m n : Nat) (v : Grd) : (s.setGrd n v).axsOf m = s.axsOf m := rfl
@[simp] theorem State.adcOf_setGrd (m n : Nat) (v : Grd) : (s.setGrd n v).adcOf m = s.adcOf m := rfl
@[simp] theorem State.lsnOf_setGrd (m n : Nat) (v : Grd) : (s.setGrd n v).lsnOf m = s.lsnOf m := rfl
@[simp] theorem State.cmpOf_setGrd (m n : Nat) (v : Grd) : (s.setGrd n v).cmpOf m = s.cmpOf m := rfl
@[simp] theorem State.auxOf_setGrd (m n : Nat) (v : Grd) : (s.setGrd n v).auxOf m = s.auxOf m := rfl
@[simp] theorem State.fanOf_setGrd (m n : Nat) (v : Grd) : (s.setGrd n v).fanOf m = s.fanOf m := rfl
@[simp] theorem State.lpOf_setGrd (m n : Nat) (v : Grd) : (s.setGrd n v).lpOf m = s.lpOf m := rfl
@[simp] theorem State.mtrOf_setGrd (m n : Nat) (v : Grd) : (s.setGrd n v).mtrOf m = s.mtrOf m := rfl
@[simp] theorem State.plsOf_setGrd (m n : Nat) (v : Grd) : (s.setGrd n v).plsOf m = s.plsOf m := rfl
@[simp] theorem State.mbxOf_setGrd (m n : Nat) (v : Grd) : (s.setGrd n v).mbxOf m = s.mbxOf m := rfl
@[simp] theorem State.setMppt_get (n : Nat) (v : Mppt) (f : Fld) (i : Nat) : (s.setMppt n v).get f i = s.get f i := rfl
@[simp] theorem State.mpptOf_setMppt (n : Nat) (v : Mppt) : (s.setMppt n v).mpptOf n = v := by
  simp [State.mpptOf, State.setMppt]
theorem State.mpptOf_setMppt_ne {n m : Nat} (v : Mppt) (h : m ≠ n) : (s.setMppt n v).mpptOf m = s.mpptOf m :=
  Table.get_set_ne _ _ _ _ h
@[simp] theorem State.mpptOf_set (m : Nat) (f : Fld) (i v : Nat) : (s.set f i v).mpptOf m = s.mpptOf m := rfl
@[simp] theorem State.mpptOf_touch (m t : Nat) : (s.touch t).mpptOf m = s.mpptOf m := by
  unfold State.mpptOf
  rw [State.touch_mppt]
@[simp] theorem State.setMppt_resp (n : Nat) (v : Mppt) : (s.setMppt n v).resp = s.resp := rfl
@[simp] theorem State.setMppt_tb (n : Nat) (v : Mppt) : (s.setMppt n v).tb = s.tb := rfl
@[simp] theorem State.setMppt_tbRun (n : Nat) (v : Mppt) : (s.setMppt n v).tbRun = s.tbRun := rfl
@[simp] theorem State.setMppt_mem (n : Nat) (v : Mppt) : (s.setMppt n v).mem = s.mem := rfl
@[simp] theorem State.setMppt_jnl (n : Nat) (v : Mppt) : (s.setMppt n v).jnl = s.jnl := rfl
@[simp] theorem State.setMppt_pow (n : Nat) (v : Mppt) : (s.setMppt n v).pow = s.pow := rfl
@[simp] theorem State.setMppt_chn (n : Nat) (v : Mppt) : (s.setMppt n v).chn = s.chn := rfl
@[simp] theorem State.setMppt_img (n : Nat) (v : Mppt) : (s.setMppt n v).img = s.img := rfl
@[simp] theorem State.setMppt_mode (n : Nat) (v : Mppt) : (s.setMppt n v).mode = s.mode := rfl
@[simp] theorem State.setMppt_tbs (n : Nat) (v : Mppt) : (s.setMppt n v).tbs = s.tbs := rfl
@[simp] theorem State.setMppt_twl (n : Nat) (v : Mppt) : (s.setMppt n v).twl = s.twl := rfl
@[simp] theorem State.setMppt_lsnGrp (n : Nat) (v : Mppt) : (s.setMppt n v).lsnGrp = s.lsnGrp := rfl
@[simp] theorem State.setMppt_tailing (n : Nat) (v : Mppt) : (s.setMppt n v).tailing = s.tailing := rfl
@[simp] theorem State.setMppt_jln (n : Nat) (v : Mppt) : (s.setMppt n v).jln = s.jln := rfl
@[simp] theorem State.setMppt_nave0 (n : Nat) (v : Mppt) : (s.setMppt n v).nave0 = s.nave0 := rfl
@[simp] theorem State.setMppt_nave1 (n : Nat) (v : Mppt) : (s.setMppt n v).nave1 = s.nave1 := rfl
@[simp] theorem State.setMppt_irq (n : Nat) (v : Mppt) : (s.setMppt n v).irq = s.irq := rfl
@[simp] theorem State.setMppt_dbg (n : Nat) (v : Mppt) : (s.setMppt n v).dbg = s.dbg := rfl
@[simp] theorem State.setMppt_free (n : Nat) (v : Mppt) : (s.setMppt n v).free = s.free := rfl
@[simp] theorem State.setMppt_pending (n : Nat) (v : Mppt) : (s.setMppt n v).pending = s.pending := rfl
@[simp] theorem State.convOf_setMppt (m n : Nat) (v : Mppt) : (s.setMppt n v).convOf m = s.convOf m := rfl
@[simp] theorem State.locOf_setMppt (m n : Nat) (v : Mppt) : (s.setMppt n v).locOf m = s.locOf m := rfl
@[simp] theorem State.tripOf_setMppt (m n : Nat) (v : Mppt) : (s.setMppt n v).tripOf m = s.tripOf m := rfl
@[simp] theorem State.trkOf_setMppt (m n : Nat) (v : Mppt) : (s.setMppt n v).trkOf m = s.trkOf m := rfl
@[simp] theorem State.qryOf_setMppt (m n : Nat) (v : Mppt) : (s.setMppt n v).qryOf m = s.qryOf m := rfl
@[simp] theorem State.slotOf_setMppt (m n : Nat) (v : Mppt) : (s.setMppt n v).slotOf m = s.slotOf m := rfl
@[simp] theorem State.busOf_setMppt (m n : Nat) (v : Mppt) : (s.setMppt n v).busOf m = s.busOf m := rfl
@[simp] theorem State.dropOf_setMppt (m n : Nat) (v : Mppt) : (s.setMppt n v).dropOf m = s.dropOf m := rfl
@[simp] theorem State.compOf_setMppt (m n : Nat) (v : Mppt) : (s.setMppt n v).compOf m = s.compOf m := rfl
@[simp] theorem State.brkOf_setMppt (m n : Nat) (v : Mppt) : (s.setMppt n v).brkOf m = s.brkOf m := rfl
@[simp] theorem State.grdOf_setMppt (m n : Nat) (v : Mppt) : (s.setMppt n v).grdOf m = s.grdOf m := rfl
@[simp] theorem State.axsOf_setMppt (m n : Nat) (v : Mppt) : (s.setMppt n v).axsOf m = s.axsOf m := rfl
@[simp] theorem State.adcOf_setMppt (m n : Nat) (v : Mppt) : (s.setMppt n v).adcOf m = s.adcOf m := rfl
@[simp] theorem State.lsnOf_setMppt (m n : Nat) (v : Mppt) : (s.setMppt n v).lsnOf m = s.lsnOf m := rfl
@[simp] theorem State.cmpOf_setMppt (m n : Nat) (v : Mppt) : (s.setMppt n v).cmpOf m = s.cmpOf m := rfl
@[simp] theorem State.auxOf_setMppt (m n : Nat) (v : Mppt) : (s.setMppt n v).auxOf m = s.auxOf m := rfl
@[simp] theorem State.fanOf_setMppt (m n : Nat) (v : Mppt) : (s.setMppt n v).fanOf m = s.fanOf m := rfl
@[simp] theorem State.lpOf_setMppt (m n : Nat) (v : Mppt) : (s.setMppt n v).lpOf m = s.lpOf m := rfl
@[simp] theorem State.mtrOf_setMppt (m n : Nat) (v : Mppt) : (s.setMppt n v).mtrOf m = s.mtrOf m := rfl
@[simp] theorem State.plsOf_setMppt (m n : Nat) (v : Mppt) : (s.setMppt n v).plsOf m = s.plsOf m := rfl
@[simp] theorem State.mbxOf_setMppt (m n : Nat) (v : Mppt) : (s.setMppt n v).mbxOf m = s.mbxOf m := rfl
@[simp] theorem State.setAxs_get (n : Nat) (v : Axs) (f : Fld) (i : Nat) : (s.setAxs n v).get f i = s.get f i := rfl
@[simp] theorem State.axsOf_setAxs (n : Nat) (v : Axs) : (s.setAxs n v).axsOf n = v := by
  simp [State.axsOf, State.setAxs]
theorem State.axsOf_setAxs_ne {n m : Nat} (v : Axs) (h : m ≠ n) : (s.setAxs n v).axsOf m = s.axsOf m :=
  Table.get_set_ne _ _ _ _ h
@[simp] theorem State.axsOf_set (m : Nat) (f : Fld) (i v : Nat) : (s.set f i v).axsOf m = s.axsOf m := rfl
@[simp] theorem State.axsOf_touch (m t : Nat) : (s.touch t).axsOf m = s.axsOf m := by
  unfold State.axsOf
  rw [State.touch_axs]
@[simp] theorem State.setAxs_resp (n : Nat) (v : Axs) : (s.setAxs n v).resp = s.resp := rfl
@[simp] theorem State.setAxs_tb (n : Nat) (v : Axs) : (s.setAxs n v).tb = s.tb := rfl
@[simp] theorem State.setAxs_tbRun (n : Nat) (v : Axs) : (s.setAxs n v).tbRun = s.tbRun := rfl
@[simp] theorem State.setAxs_mem (n : Nat) (v : Axs) : (s.setAxs n v).mem = s.mem := rfl
@[simp] theorem State.setAxs_jnl (n : Nat) (v : Axs) : (s.setAxs n v).jnl = s.jnl := rfl
@[simp] theorem State.setAxs_pow (n : Nat) (v : Axs) : (s.setAxs n v).pow = s.pow := rfl
@[simp] theorem State.setAxs_chn (n : Nat) (v : Axs) : (s.setAxs n v).chn = s.chn := rfl
@[simp] theorem State.setAxs_img (n : Nat) (v : Axs) : (s.setAxs n v).img = s.img := rfl
@[simp] theorem State.setAxs_mode (n : Nat) (v : Axs) : (s.setAxs n v).mode = s.mode := rfl
@[simp] theorem State.setAxs_tbs (n : Nat) (v : Axs) : (s.setAxs n v).tbs = s.tbs := rfl
@[simp] theorem State.setAxs_twl (n : Nat) (v : Axs) : (s.setAxs n v).twl = s.twl := rfl
@[simp] theorem State.setAxs_lsnGrp (n : Nat) (v : Axs) : (s.setAxs n v).lsnGrp = s.lsnGrp := rfl
@[simp] theorem State.setAxs_tailing (n : Nat) (v : Axs) : (s.setAxs n v).tailing = s.tailing := rfl
@[simp] theorem State.setAxs_jln (n : Nat) (v : Axs) : (s.setAxs n v).jln = s.jln := rfl
@[simp] theorem State.setAxs_nave0 (n : Nat) (v : Axs) : (s.setAxs n v).nave0 = s.nave0 := rfl
@[simp] theorem State.setAxs_nave1 (n : Nat) (v : Axs) : (s.setAxs n v).nave1 = s.nave1 := rfl
@[simp] theorem State.setAxs_irq (n : Nat) (v : Axs) : (s.setAxs n v).irq = s.irq := rfl
@[simp] theorem State.setAxs_dbg (n : Nat) (v : Axs) : (s.setAxs n v).dbg = s.dbg := rfl
@[simp] theorem State.setAxs_free (n : Nat) (v : Axs) : (s.setAxs n v).free = s.free := rfl
@[simp] theorem State.setAxs_pending (n : Nat) (v : Axs) : (s.setAxs n v).pending = s.pending := rfl
@[simp] theorem State.convOf_setAxs (m n : Nat) (v : Axs) : (s.setAxs n v).convOf m = s.convOf m := rfl
@[simp] theorem State.locOf_setAxs (m n : Nat) (v : Axs) : (s.setAxs n v).locOf m = s.locOf m := rfl
@[simp] theorem State.tripOf_setAxs (m n : Nat) (v : Axs) : (s.setAxs n v).tripOf m = s.tripOf m := rfl
@[simp] theorem State.trkOf_setAxs (m n : Nat) (v : Axs) : (s.setAxs n v).trkOf m = s.trkOf m := rfl
@[simp] theorem State.qryOf_setAxs (m n : Nat) (v : Axs) : (s.setAxs n v).qryOf m = s.qryOf m := rfl
@[simp] theorem State.slotOf_setAxs (m n : Nat) (v : Axs) : (s.setAxs n v).slotOf m = s.slotOf m := rfl
@[simp] theorem State.busOf_setAxs (m n : Nat) (v : Axs) : (s.setAxs n v).busOf m = s.busOf m := rfl
@[simp] theorem State.dropOf_setAxs (m n : Nat) (v : Axs) : (s.setAxs n v).dropOf m = s.dropOf m := rfl
@[simp] theorem State.compOf_setAxs (m n : Nat) (v : Axs) : (s.setAxs n v).compOf m = s.compOf m := rfl
@[simp] theorem State.brkOf_setAxs (m n : Nat) (v : Axs) : (s.setAxs n v).brkOf m = s.brkOf m := rfl
@[simp] theorem State.grdOf_setAxs (m n : Nat) (v : Axs) : (s.setAxs n v).grdOf m = s.grdOf m := rfl
@[simp] theorem State.mpptOf_setAxs (m n : Nat) (v : Axs) : (s.setAxs n v).mpptOf m = s.mpptOf m := rfl
@[simp] theorem State.adcOf_setAxs (m n : Nat) (v : Axs) : (s.setAxs n v).adcOf m = s.adcOf m := rfl
@[simp] theorem State.lsnOf_setAxs (m n : Nat) (v : Axs) : (s.setAxs n v).lsnOf m = s.lsnOf m := rfl
@[simp] theorem State.cmpOf_setAxs (m n : Nat) (v : Axs) : (s.setAxs n v).cmpOf m = s.cmpOf m := rfl
@[simp] theorem State.auxOf_setAxs (m n : Nat) (v : Axs) : (s.setAxs n v).auxOf m = s.auxOf m := rfl
@[simp] theorem State.fanOf_setAxs (m n : Nat) (v : Axs) : (s.setAxs n v).fanOf m = s.fanOf m := rfl
@[simp] theorem State.lpOf_setAxs (m n : Nat) (v : Axs) : (s.setAxs n v).lpOf m = s.lpOf m := rfl
@[simp] theorem State.mtrOf_setAxs (m n : Nat) (v : Axs) : (s.setAxs n v).mtrOf m = s.mtrOf m := rfl
@[simp] theorem State.plsOf_setAxs (m n : Nat) (v : Axs) : (s.setAxs n v).plsOf m = s.plsOf m := rfl
@[simp] theorem State.mbxOf_setAxs (m n : Nat) (v : Axs) : (s.setAxs n v).mbxOf m = s.mbxOf m := rfl
@[simp] theorem State.setAdc_get (n : Nat) (v : Adc) (f : Fld) (i : Nat) : (s.setAdc n v).get f i = s.get f i := rfl
@[simp] theorem State.adcOf_setAdc (n : Nat) (v : Adc) : (s.setAdc n v).adcOf n = v := by
  simp [State.adcOf, State.setAdc]
theorem State.adcOf_setAdc_ne {n m : Nat} (v : Adc) (h : m ≠ n) : (s.setAdc n v).adcOf m = s.adcOf m :=
  Table.get_set_ne _ _ _ _ h
@[simp] theorem State.adcOf_set (m : Nat) (f : Fld) (i v : Nat) : (s.set f i v).adcOf m = s.adcOf m := rfl
@[simp] theorem State.adcOf_touch (m t : Nat) : (s.touch t).adcOf m = s.adcOf m := by
  unfold State.adcOf
  rw [State.touch_adc]
@[simp] theorem State.setAdc_resp (n : Nat) (v : Adc) : (s.setAdc n v).resp = s.resp := rfl
@[simp] theorem State.setAdc_tb (n : Nat) (v : Adc) : (s.setAdc n v).tb = s.tb := rfl
@[simp] theorem State.setAdc_tbRun (n : Nat) (v : Adc) : (s.setAdc n v).tbRun = s.tbRun := rfl
@[simp] theorem State.setAdc_mem (n : Nat) (v : Adc) : (s.setAdc n v).mem = s.mem := rfl
@[simp] theorem State.setAdc_jnl (n : Nat) (v : Adc) : (s.setAdc n v).jnl = s.jnl := rfl
@[simp] theorem State.setAdc_pow (n : Nat) (v : Adc) : (s.setAdc n v).pow = s.pow := rfl
@[simp] theorem State.setAdc_chn (n : Nat) (v : Adc) : (s.setAdc n v).chn = s.chn := rfl
@[simp] theorem State.setAdc_img (n : Nat) (v : Adc) : (s.setAdc n v).img = s.img := rfl
@[simp] theorem State.setAdc_mode (n : Nat) (v : Adc) : (s.setAdc n v).mode = s.mode := rfl
@[simp] theorem State.setAdc_tbs (n : Nat) (v : Adc) : (s.setAdc n v).tbs = s.tbs := rfl
@[simp] theorem State.setAdc_twl (n : Nat) (v : Adc) : (s.setAdc n v).twl = s.twl := rfl
@[simp] theorem State.setAdc_lsnGrp (n : Nat) (v : Adc) : (s.setAdc n v).lsnGrp = s.lsnGrp := rfl
@[simp] theorem State.setAdc_tailing (n : Nat) (v : Adc) : (s.setAdc n v).tailing = s.tailing := rfl
@[simp] theorem State.setAdc_jln (n : Nat) (v : Adc) : (s.setAdc n v).jln = s.jln := rfl
@[simp] theorem State.setAdc_nave0 (n : Nat) (v : Adc) : (s.setAdc n v).nave0 = s.nave0 := rfl
@[simp] theorem State.setAdc_nave1 (n : Nat) (v : Adc) : (s.setAdc n v).nave1 = s.nave1 := rfl
@[simp] theorem State.setAdc_irq (n : Nat) (v : Adc) : (s.setAdc n v).irq = s.irq := rfl
@[simp] theorem State.setAdc_dbg (n : Nat) (v : Adc) : (s.setAdc n v).dbg = s.dbg := rfl
@[simp] theorem State.setAdc_free (n : Nat) (v : Adc) : (s.setAdc n v).free = s.free := rfl
@[simp] theorem State.setAdc_pending (n : Nat) (v : Adc) : (s.setAdc n v).pending = s.pending := rfl
@[simp] theorem State.convOf_setAdc (m n : Nat) (v : Adc) : (s.setAdc n v).convOf m = s.convOf m := rfl
@[simp] theorem State.locOf_setAdc (m n : Nat) (v : Adc) : (s.setAdc n v).locOf m = s.locOf m := rfl
@[simp] theorem State.tripOf_setAdc (m n : Nat) (v : Adc) : (s.setAdc n v).tripOf m = s.tripOf m := rfl
@[simp] theorem State.trkOf_setAdc (m n : Nat) (v : Adc) : (s.setAdc n v).trkOf m = s.trkOf m := rfl
@[simp] theorem State.qryOf_setAdc (m n : Nat) (v : Adc) : (s.setAdc n v).qryOf m = s.qryOf m := rfl
@[simp] theorem State.slotOf_setAdc (m n : Nat) (v : Adc) : (s.setAdc n v).slotOf m = s.slotOf m := rfl
@[simp] theorem State.busOf_setAdc (m n : Nat) (v : Adc) : (s.setAdc n v).busOf m = s.busOf m := rfl
@[simp] theorem State.dropOf_setAdc (m n : Nat) (v : Adc) : (s.setAdc n v).dropOf m = s.dropOf m := rfl
@[simp] theorem State.compOf_setAdc (m n : Nat) (v : Adc) : (s.setAdc n v).compOf m = s.compOf m := rfl
@[simp] theorem State.brkOf_setAdc (m n : Nat) (v : Adc) : (s.setAdc n v).brkOf m = s.brkOf m := rfl
@[simp] theorem State.grdOf_setAdc (m n : Nat) (v : Adc) : (s.setAdc n v).grdOf m = s.grdOf m := rfl
@[simp] theorem State.mpptOf_setAdc (m n : Nat) (v : Adc) : (s.setAdc n v).mpptOf m = s.mpptOf m := rfl
@[simp] theorem State.axsOf_setAdc (m n : Nat) (v : Adc) : (s.setAdc n v).axsOf m = s.axsOf m := rfl
@[simp] theorem State.lsnOf_setAdc (m n : Nat) (v : Adc) : (s.setAdc n v).lsnOf m = s.lsnOf m := rfl
@[simp] theorem State.cmpOf_setAdc (m n : Nat) (v : Adc) : (s.setAdc n v).cmpOf m = s.cmpOf m := rfl
@[simp] theorem State.auxOf_setAdc (m n : Nat) (v : Adc) : (s.setAdc n v).auxOf m = s.auxOf m := rfl
@[simp] theorem State.fanOf_setAdc (m n : Nat) (v : Adc) : (s.setAdc n v).fanOf m = s.fanOf m := rfl
@[simp] theorem State.lpOf_setAdc (m n : Nat) (v : Adc) : (s.setAdc n v).lpOf m = s.lpOf m := rfl
@[simp] theorem State.mtrOf_setAdc (m n : Nat) (v : Adc) : (s.setAdc n v).mtrOf m = s.mtrOf m := rfl
@[simp] theorem State.plsOf_setAdc (m n : Nat) (v : Adc) : (s.setAdc n v).plsOf m = s.plsOf m := rfl
@[simp] theorem State.mbxOf_setAdc (m n : Nat) (v : Adc) : (s.setAdc n v).mbxOf m = s.mbxOf m := rfl
@[simp] theorem State.setLsn_get (n : Nat) (v : Lsn) (f : Fld) (i : Nat) : (s.setLsn n v).get f i = s.get f i := rfl
@[simp] theorem State.lsnOf_setLsn (n : Nat) (v : Lsn) : (s.setLsn n v).lsnOf n = v := by
  simp [State.lsnOf, State.setLsn]
theorem State.lsnOf_setLsn_ne {n m : Nat} (v : Lsn) (h : m ≠ n) : (s.setLsn n v).lsnOf m = s.lsnOf m :=
  Table.get_set_ne _ _ _ _ h
@[simp] theorem State.lsnOf_set (m : Nat) (f : Fld) (i v : Nat) : (s.set f i v).lsnOf m = s.lsnOf m := rfl
@[simp] theorem State.lsnOf_touch (m t : Nat) : (s.touch t).lsnOf m = s.lsnOf m := by
  unfold State.lsnOf
  rw [State.touch_lsn]
@[simp] theorem State.setLsn_resp (n : Nat) (v : Lsn) : (s.setLsn n v).resp = s.resp := rfl
@[simp] theorem State.setLsn_tb (n : Nat) (v : Lsn) : (s.setLsn n v).tb = s.tb := rfl
@[simp] theorem State.setLsn_tbRun (n : Nat) (v : Lsn) : (s.setLsn n v).tbRun = s.tbRun := rfl
@[simp] theorem State.setLsn_mem (n : Nat) (v : Lsn) : (s.setLsn n v).mem = s.mem := rfl
@[simp] theorem State.setLsn_jnl (n : Nat) (v : Lsn) : (s.setLsn n v).jnl = s.jnl := rfl
@[simp] theorem State.setLsn_pow (n : Nat) (v : Lsn) : (s.setLsn n v).pow = s.pow := rfl
@[simp] theorem State.setLsn_chn (n : Nat) (v : Lsn) : (s.setLsn n v).chn = s.chn := rfl
@[simp] theorem State.setLsn_img (n : Nat) (v : Lsn) : (s.setLsn n v).img = s.img := rfl
@[simp] theorem State.setLsn_mode (n : Nat) (v : Lsn) : (s.setLsn n v).mode = s.mode := rfl
@[simp] theorem State.setLsn_tbs (n : Nat) (v : Lsn) : (s.setLsn n v).tbs = s.tbs := rfl
@[simp] theorem State.setLsn_twl (n : Nat) (v : Lsn) : (s.setLsn n v).twl = s.twl := rfl
@[simp] theorem State.setLsn_lsnGrp (n : Nat) (v : Lsn) : (s.setLsn n v).lsnGrp = s.lsnGrp := rfl
@[simp] theorem State.setLsn_tailing (n : Nat) (v : Lsn) : (s.setLsn n v).tailing = s.tailing := rfl
@[simp] theorem State.setLsn_jln (n : Nat) (v : Lsn) : (s.setLsn n v).jln = s.jln := rfl
@[simp] theorem State.setLsn_nave0 (n : Nat) (v : Lsn) : (s.setLsn n v).nave0 = s.nave0 := rfl
@[simp] theorem State.setLsn_nave1 (n : Nat) (v : Lsn) : (s.setLsn n v).nave1 = s.nave1 := rfl
@[simp] theorem State.setLsn_irq (n : Nat) (v : Lsn) : (s.setLsn n v).irq = s.irq := rfl
@[simp] theorem State.setLsn_dbg (n : Nat) (v : Lsn) : (s.setLsn n v).dbg = s.dbg := rfl
@[simp] theorem State.setLsn_free (n : Nat) (v : Lsn) : (s.setLsn n v).free = s.free := rfl
@[simp] theorem State.setLsn_pending (n : Nat) (v : Lsn) : (s.setLsn n v).pending = s.pending := rfl
@[simp] theorem State.convOf_setLsn (m n : Nat) (v : Lsn) : (s.setLsn n v).convOf m = s.convOf m := rfl
@[simp] theorem State.locOf_setLsn (m n : Nat) (v : Lsn) : (s.setLsn n v).locOf m = s.locOf m := rfl
@[simp] theorem State.tripOf_setLsn (m n : Nat) (v : Lsn) : (s.setLsn n v).tripOf m = s.tripOf m := rfl
@[simp] theorem State.trkOf_setLsn (m n : Nat) (v : Lsn) : (s.setLsn n v).trkOf m = s.trkOf m := rfl
@[simp] theorem State.qryOf_setLsn (m n : Nat) (v : Lsn) : (s.setLsn n v).qryOf m = s.qryOf m := rfl
@[simp] theorem State.slotOf_setLsn (m n : Nat) (v : Lsn) : (s.setLsn n v).slotOf m = s.slotOf m := rfl
@[simp] theorem State.busOf_setLsn (m n : Nat) (v : Lsn) : (s.setLsn n v).busOf m = s.busOf m := rfl
@[simp] theorem State.dropOf_setLsn (m n : Nat) (v : Lsn) : (s.setLsn n v).dropOf m = s.dropOf m := rfl
@[simp] theorem State.compOf_setLsn (m n : Nat) (v : Lsn) : (s.setLsn n v).compOf m = s.compOf m := rfl
@[simp] theorem State.brkOf_setLsn (m n : Nat) (v : Lsn) : (s.setLsn n v).brkOf m = s.brkOf m := rfl
@[simp] theorem State.grdOf_setLsn (m n : Nat) (v : Lsn) : (s.setLsn n v).grdOf m = s.grdOf m := rfl
@[simp] theorem State.mpptOf_setLsn (m n : Nat) (v : Lsn) : (s.setLsn n v).mpptOf m = s.mpptOf m := rfl
@[simp] theorem State.axsOf_setLsn (m n : Nat) (v : Lsn) : (s.setLsn n v).axsOf m = s.axsOf m := rfl
@[simp] theorem State.adcOf_setLsn (m n : Nat) (v : Lsn) : (s.setLsn n v).adcOf m = s.adcOf m := rfl
@[simp] theorem State.cmpOf_setLsn (m n : Nat) (v : Lsn) : (s.setLsn n v).cmpOf m = s.cmpOf m := rfl
@[simp] theorem State.auxOf_setLsn (m n : Nat) (v : Lsn) : (s.setLsn n v).auxOf m = s.auxOf m := rfl
@[simp] theorem State.fanOf_setLsn (m n : Nat) (v : Lsn) : (s.setLsn n v).fanOf m = s.fanOf m := rfl
@[simp] theorem State.lpOf_setLsn (m n : Nat) (v : Lsn) : (s.setLsn n v).lpOf m = s.lpOf m := rfl
@[simp] theorem State.mtrOf_setLsn (m n : Nat) (v : Lsn) : (s.setLsn n v).mtrOf m = s.mtrOf m := rfl
@[simp] theorem State.plsOf_setLsn (m n : Nat) (v : Lsn) : (s.setLsn n v).plsOf m = s.plsOf m := rfl
@[simp] theorem State.mbxOf_setLsn (m n : Nat) (v : Lsn) : (s.setLsn n v).mbxOf m = s.mbxOf m := rfl
@[simp] theorem State.setCmp_get (n : Nat) (v : Cmp) (f : Fld) (i : Nat) : (s.setCmp n v).get f i = s.get f i := rfl
@[simp] theorem State.cmpOf_setCmp (n : Nat) (v : Cmp) : (s.setCmp n v).cmpOf n = v := by
  simp [State.cmpOf, State.setCmp]
theorem State.cmpOf_setCmp_ne {n m : Nat} (v : Cmp) (h : m ≠ n) : (s.setCmp n v).cmpOf m = s.cmpOf m :=
  Table.get_set_ne _ _ _ _ h
@[simp] theorem State.cmpOf_set (m : Nat) (f : Fld) (i v : Nat) : (s.set f i v).cmpOf m = s.cmpOf m := rfl
@[simp] theorem State.cmpOf_touch (m t : Nat) : (s.touch t).cmpOf m = s.cmpOf m := by
  unfold State.cmpOf
  rw [State.touch_cmp]
@[simp] theorem State.setCmp_resp (n : Nat) (v : Cmp) : (s.setCmp n v).resp = s.resp := rfl
@[simp] theorem State.setCmp_tb (n : Nat) (v : Cmp) : (s.setCmp n v).tb = s.tb := rfl
@[simp] theorem State.setCmp_tbRun (n : Nat) (v : Cmp) : (s.setCmp n v).tbRun = s.tbRun := rfl
@[simp] theorem State.setCmp_mem (n : Nat) (v : Cmp) : (s.setCmp n v).mem = s.mem := rfl
@[simp] theorem State.setCmp_jnl (n : Nat) (v : Cmp) : (s.setCmp n v).jnl = s.jnl := rfl
@[simp] theorem State.setCmp_pow (n : Nat) (v : Cmp) : (s.setCmp n v).pow = s.pow := rfl
@[simp] theorem State.setCmp_chn (n : Nat) (v : Cmp) : (s.setCmp n v).chn = s.chn := rfl
@[simp] theorem State.setCmp_img (n : Nat) (v : Cmp) : (s.setCmp n v).img = s.img := rfl
@[simp] theorem State.setCmp_mode (n : Nat) (v : Cmp) : (s.setCmp n v).mode = s.mode := rfl
@[simp] theorem State.setCmp_tbs (n : Nat) (v : Cmp) : (s.setCmp n v).tbs = s.tbs := rfl
@[simp] theorem State.setCmp_twl (n : Nat) (v : Cmp) : (s.setCmp n v).twl = s.twl := rfl
@[simp] theorem State.setCmp_lsnGrp (n : Nat) (v : Cmp) : (s.setCmp n v).lsnGrp = s.lsnGrp := rfl
@[simp] theorem State.setCmp_tailing (n : Nat) (v : Cmp) : (s.setCmp n v).tailing = s.tailing := rfl
@[simp] theorem State.setCmp_jln (n : Nat) (v : Cmp) : (s.setCmp n v).jln = s.jln := rfl
@[simp] theorem State.setCmp_nave0 (n : Nat) (v : Cmp) : (s.setCmp n v).nave0 = s.nave0 := rfl
@[simp] theorem State.setCmp_nave1 (n : Nat) (v : Cmp) : (s.setCmp n v).nave1 = s.nave1 := rfl
@[simp] theorem State.setCmp_irq (n : Nat) (v : Cmp) : (s.setCmp n v).irq = s.irq := rfl
@[simp] theorem State.setCmp_dbg (n : Nat) (v : Cmp) : (s.setCmp n v).dbg = s.dbg := rfl
@[simp] theorem State.setCmp_free (n : Nat) (v : Cmp) : (s.setCmp n v).free = s.free := rfl
@[simp] theorem State.setCmp_pending (n : Nat) (v : Cmp) : (s.setCmp n v).pending = s.pending := rfl
@[simp] theorem State.convOf_setCmp (m n : Nat) (v : Cmp) : (s.setCmp n v).convOf m = s.convOf m := rfl
@[simp] theorem State.locOf_setCmp (m n : Nat) (v : Cmp) : (s.setCmp n v).locOf m = s.locOf m := rfl
@[simp] theorem State.tripOf_setCmp (m n : Nat) (v : Cmp) : (s.setCmp n v).tripOf m = s.tripOf m := rfl
@[simp] theorem State.trkOf_setCmp (m n : Nat) (v : Cmp) : (s.setCmp n v).trkOf m = s.trkOf m := rfl
@[simp] theorem State.qryOf_setCmp (m n : Nat) (v : Cmp) : (s.setCmp n v).qryOf m = s.qryOf m := rfl
@[simp] theorem State.slotOf_setCmp (m n : Nat) (v : Cmp) : (s.setCmp n v).slotOf m = s.slotOf m := rfl
@[simp] theorem State.busOf_setCmp (m n : Nat) (v : Cmp) : (s.setCmp n v).busOf m = s.busOf m := rfl
@[simp] theorem State.dropOf_setCmp (m n : Nat) (v : Cmp) : (s.setCmp n v).dropOf m = s.dropOf m := rfl
@[simp] theorem State.compOf_setCmp (m n : Nat) (v : Cmp) : (s.setCmp n v).compOf m = s.compOf m := rfl
@[simp] theorem State.brkOf_setCmp (m n : Nat) (v : Cmp) : (s.setCmp n v).brkOf m = s.brkOf m := rfl
@[simp] theorem State.grdOf_setCmp (m n : Nat) (v : Cmp) : (s.setCmp n v).grdOf m = s.grdOf m := rfl
@[simp] theorem State.mpptOf_setCmp (m n : Nat) (v : Cmp) : (s.setCmp n v).mpptOf m = s.mpptOf m := rfl
@[simp] theorem State.axsOf_setCmp (m n : Nat) (v : Cmp) : (s.setCmp n v).axsOf m = s.axsOf m := rfl
@[simp] theorem State.adcOf_setCmp (m n : Nat) (v : Cmp) : (s.setCmp n v).adcOf m = s.adcOf m := rfl
@[simp] theorem State.lsnOf_setCmp (m n : Nat) (v : Cmp) : (s.setCmp n v).lsnOf m = s.lsnOf m := rfl
@[simp] theorem State.auxOf_setCmp (m n : Nat) (v : Cmp) : (s.setCmp n v).auxOf m = s.auxOf m := rfl
@[simp] theorem State.fanOf_setCmp (m n : Nat) (v : Cmp) : (s.setCmp n v).fanOf m = s.fanOf m := rfl
@[simp] theorem State.lpOf_setCmp (m n : Nat) (v : Cmp) : (s.setCmp n v).lpOf m = s.lpOf m := rfl
@[simp] theorem State.mtrOf_setCmp (m n : Nat) (v : Cmp) : (s.setCmp n v).mtrOf m = s.mtrOf m := rfl
@[simp] theorem State.plsOf_setCmp (m n : Nat) (v : Cmp) : (s.setCmp n v).plsOf m = s.plsOf m := rfl
@[simp] theorem State.mbxOf_setCmp (m n : Nat) (v : Cmp) : (s.setCmp n v).mbxOf m = s.mbxOf m := rfl
@[simp] theorem State.setAux_get (n : Nat) (v : Aux) (f : Fld) (i : Nat) : (s.setAux n v).get f i = s.get f i := rfl
@[simp] theorem State.auxOf_setAux (n : Nat) (v : Aux) : (s.setAux n v).auxOf n = v := by
  simp [State.auxOf, State.setAux]
theorem State.auxOf_setAux_ne {n m : Nat} (v : Aux) (h : m ≠ n) : (s.setAux n v).auxOf m = s.auxOf m :=
  Table.get_set_ne _ _ _ _ h
@[simp] theorem State.auxOf_set (m : Nat) (f : Fld) (i v : Nat) : (s.set f i v).auxOf m = s.auxOf m := rfl
@[simp] theorem State.auxOf_touch (m t : Nat) : (s.touch t).auxOf m = s.auxOf m := by
  unfold State.auxOf
  rw [State.touch_aux]
@[simp] theorem State.setAux_resp (n : Nat) (v : Aux) : (s.setAux n v).resp = s.resp := rfl
@[simp] theorem State.setAux_tb (n : Nat) (v : Aux) : (s.setAux n v).tb = s.tb := rfl
@[simp] theorem State.setAux_tbRun (n : Nat) (v : Aux) : (s.setAux n v).tbRun = s.tbRun := rfl
@[simp] theorem State.setAux_mem (n : Nat) (v : Aux) : (s.setAux n v).mem = s.mem := rfl
@[simp] theorem State.setAux_jnl (n : Nat) (v : Aux) : (s.setAux n v).jnl = s.jnl := rfl
@[simp] theorem State.setAux_pow (n : Nat) (v : Aux) : (s.setAux n v).pow = s.pow := rfl
@[simp] theorem State.setAux_chn (n : Nat) (v : Aux) : (s.setAux n v).chn = s.chn := rfl
@[simp] theorem State.setAux_img (n : Nat) (v : Aux) : (s.setAux n v).img = s.img := rfl
@[simp] theorem State.setAux_mode (n : Nat) (v : Aux) : (s.setAux n v).mode = s.mode := rfl
@[simp] theorem State.setAux_tbs (n : Nat) (v : Aux) : (s.setAux n v).tbs = s.tbs := rfl
@[simp] theorem State.setAux_twl (n : Nat) (v : Aux) : (s.setAux n v).twl = s.twl := rfl
@[simp] theorem State.setAux_lsnGrp (n : Nat) (v : Aux) : (s.setAux n v).lsnGrp = s.lsnGrp := rfl
@[simp] theorem State.setAux_tailing (n : Nat) (v : Aux) : (s.setAux n v).tailing = s.tailing := rfl
@[simp] theorem State.setAux_jln (n : Nat) (v : Aux) : (s.setAux n v).jln = s.jln := rfl
@[simp] theorem State.setAux_nave0 (n : Nat) (v : Aux) : (s.setAux n v).nave0 = s.nave0 := rfl
@[simp] theorem State.setAux_nave1 (n : Nat) (v : Aux) : (s.setAux n v).nave1 = s.nave1 := rfl
@[simp] theorem State.setAux_irq (n : Nat) (v : Aux) : (s.setAux n v).irq = s.irq := rfl
@[simp] theorem State.setAux_dbg (n : Nat) (v : Aux) : (s.setAux n v).dbg = s.dbg := rfl
@[simp] theorem State.setAux_free (n : Nat) (v : Aux) : (s.setAux n v).free = s.free := rfl
@[simp] theorem State.setAux_pending (n : Nat) (v : Aux) : (s.setAux n v).pending = s.pending := rfl
@[simp] theorem State.convOf_setAux (m n : Nat) (v : Aux) : (s.setAux n v).convOf m = s.convOf m := rfl
@[simp] theorem State.locOf_setAux (m n : Nat) (v : Aux) : (s.setAux n v).locOf m = s.locOf m := rfl
@[simp] theorem State.tripOf_setAux (m n : Nat) (v : Aux) : (s.setAux n v).tripOf m = s.tripOf m := rfl
@[simp] theorem State.trkOf_setAux (m n : Nat) (v : Aux) : (s.setAux n v).trkOf m = s.trkOf m := rfl
@[simp] theorem State.qryOf_setAux (m n : Nat) (v : Aux) : (s.setAux n v).qryOf m = s.qryOf m := rfl
@[simp] theorem State.slotOf_setAux (m n : Nat) (v : Aux) : (s.setAux n v).slotOf m = s.slotOf m := rfl
@[simp] theorem State.busOf_setAux (m n : Nat) (v : Aux) : (s.setAux n v).busOf m = s.busOf m := rfl
@[simp] theorem State.dropOf_setAux (m n : Nat) (v : Aux) : (s.setAux n v).dropOf m = s.dropOf m := rfl
@[simp] theorem State.compOf_setAux (m n : Nat) (v : Aux) : (s.setAux n v).compOf m = s.compOf m := rfl
@[simp] theorem State.brkOf_setAux (m n : Nat) (v : Aux) : (s.setAux n v).brkOf m = s.brkOf m := rfl
@[simp] theorem State.grdOf_setAux (m n : Nat) (v : Aux) : (s.setAux n v).grdOf m = s.grdOf m := rfl
@[simp] theorem State.mpptOf_setAux (m n : Nat) (v : Aux) : (s.setAux n v).mpptOf m = s.mpptOf m := rfl
@[simp] theorem State.axsOf_setAux (m n : Nat) (v : Aux) : (s.setAux n v).axsOf m = s.axsOf m := rfl
@[simp] theorem State.adcOf_setAux (m n : Nat) (v : Aux) : (s.setAux n v).adcOf m = s.adcOf m := rfl
@[simp] theorem State.lsnOf_setAux (m n : Nat) (v : Aux) : (s.setAux n v).lsnOf m = s.lsnOf m := rfl
@[simp] theorem State.cmpOf_setAux (m n : Nat) (v : Aux) : (s.setAux n v).cmpOf m = s.cmpOf m := rfl
@[simp] theorem State.fanOf_setAux (m n : Nat) (v : Aux) : (s.setAux n v).fanOf m = s.fanOf m := rfl
@[simp] theorem State.lpOf_setAux (m n : Nat) (v : Aux) : (s.setAux n v).lpOf m = s.lpOf m := rfl
@[simp] theorem State.mtrOf_setAux (m n : Nat) (v : Aux) : (s.setAux n v).mtrOf m = s.mtrOf m := rfl
@[simp] theorem State.plsOf_setAux (m n : Nat) (v : Aux) : (s.setAux n v).plsOf m = s.plsOf m := rfl
@[simp] theorem State.mbxOf_setAux (m n : Nat) (v : Aux) : (s.setAux n v).mbxOf m = s.mbxOf m := rfl
@[simp] theorem State.setFan_get (n : Nat) (v : Fan) (f : Fld) (i : Nat) : (s.setFan n v).get f i = s.get f i := rfl
@[simp] theorem State.fanOf_setFan (n : Nat) (v : Fan) : (s.setFan n v).fanOf n = v := by
  simp [State.fanOf, State.setFan]
theorem State.fanOf_setFan_ne {n m : Nat} (v : Fan) (h : m ≠ n) : (s.setFan n v).fanOf m = s.fanOf m :=
  Table.get_set_ne _ _ _ _ h
@[simp] theorem State.fanOf_set (m : Nat) (f : Fld) (i v : Nat) : (s.set f i v).fanOf m = s.fanOf m := rfl
@[simp] theorem State.fanOf_touch (m t : Nat) : (s.touch t).fanOf m = s.fanOf m := by
  unfold State.fanOf
  rw [State.touch_fan]
@[simp] theorem State.setFan_resp (n : Nat) (v : Fan) : (s.setFan n v).resp = s.resp := rfl
@[simp] theorem State.setFan_tb (n : Nat) (v : Fan) : (s.setFan n v).tb = s.tb := rfl
@[simp] theorem State.setFan_tbRun (n : Nat) (v : Fan) : (s.setFan n v).tbRun = s.tbRun := rfl
@[simp] theorem State.setFan_mem (n : Nat) (v : Fan) : (s.setFan n v).mem = s.mem := rfl
@[simp] theorem State.setFan_jnl (n : Nat) (v : Fan) : (s.setFan n v).jnl = s.jnl := rfl
@[simp] theorem State.setFan_pow (n : Nat) (v : Fan) : (s.setFan n v).pow = s.pow := rfl
@[simp] theorem State.setFan_chn (n : Nat) (v : Fan) : (s.setFan n v).chn = s.chn := rfl
@[simp] theorem State.setFan_img (n : Nat) (v : Fan) : (s.setFan n v).img = s.img := rfl
@[simp] theorem State.setFan_mode (n : Nat) (v : Fan) : (s.setFan n v).mode = s.mode := rfl
@[simp] theorem State.setFan_tbs (n : Nat) (v : Fan) : (s.setFan n v).tbs = s.tbs := rfl
@[simp] theorem State.setFan_twl (n : Nat) (v : Fan) : (s.setFan n v).twl = s.twl := rfl
@[simp] theorem State.setFan_lsnGrp (n : Nat) (v : Fan) : (s.setFan n v).lsnGrp = s.lsnGrp := rfl
@[simp] theorem State.setFan_tailing (n : Nat) (v : Fan) : (s.setFan n v).tailing = s.tailing := rfl
@[simp] theorem State.setFan_jln (n : Nat) (v : Fan) : (s.setFan n v).jln = s.jln := rfl
@[simp] theorem State.setFan_nave0 (n : Nat) (v : Fan) : (s.setFan n v).nave0 = s.nave0 := rfl
@[simp] theorem State.setFan_nave1 (n : Nat) (v : Fan) : (s.setFan n v).nave1 = s.nave1 := rfl
@[simp] theorem State.setFan_irq (n : Nat) (v : Fan) : (s.setFan n v).irq = s.irq := rfl
@[simp] theorem State.setFan_dbg (n : Nat) (v : Fan) : (s.setFan n v).dbg = s.dbg := rfl
@[simp] theorem State.setFan_free (n : Nat) (v : Fan) : (s.setFan n v).free = s.free := rfl
@[simp] theorem State.setFan_pending (n : Nat) (v : Fan) : (s.setFan n v).pending = s.pending := rfl
@[simp] theorem State.convOf_setFan (m n : Nat) (v : Fan) : (s.setFan n v).convOf m = s.convOf m := rfl
@[simp] theorem State.locOf_setFan (m n : Nat) (v : Fan) : (s.setFan n v).locOf m = s.locOf m := rfl
@[simp] theorem State.tripOf_setFan (m n : Nat) (v : Fan) : (s.setFan n v).tripOf m = s.tripOf m := rfl
@[simp] theorem State.trkOf_setFan (m n : Nat) (v : Fan) : (s.setFan n v).trkOf m = s.trkOf m := rfl
@[simp] theorem State.qryOf_setFan (m n : Nat) (v : Fan) : (s.setFan n v).qryOf m = s.qryOf m := rfl
@[simp] theorem State.slotOf_setFan (m n : Nat) (v : Fan) : (s.setFan n v).slotOf m = s.slotOf m := rfl
@[simp] theorem State.busOf_setFan (m n : Nat) (v : Fan) : (s.setFan n v).busOf m = s.busOf m := rfl
@[simp] theorem State.dropOf_setFan (m n : Nat) (v : Fan) : (s.setFan n v).dropOf m = s.dropOf m := rfl
@[simp] theorem State.compOf_setFan (m n : Nat) (v : Fan) : (s.setFan n v).compOf m = s.compOf m := rfl
@[simp] theorem State.brkOf_setFan (m n : Nat) (v : Fan) : (s.setFan n v).brkOf m = s.brkOf m := rfl
@[simp] theorem State.grdOf_setFan (m n : Nat) (v : Fan) : (s.setFan n v).grdOf m = s.grdOf m := rfl
@[simp] theorem State.mpptOf_setFan (m n : Nat) (v : Fan) : (s.setFan n v).mpptOf m = s.mpptOf m := rfl
@[simp] theorem State.axsOf_setFan (m n : Nat) (v : Fan) : (s.setFan n v).axsOf m = s.axsOf m := rfl
@[simp] theorem State.adcOf_setFan (m n : Nat) (v : Fan) : (s.setFan n v).adcOf m = s.adcOf m := rfl
@[simp] theorem State.lsnOf_setFan (m n : Nat) (v : Fan) : (s.setFan n v).lsnOf m = s.lsnOf m := rfl
@[simp] theorem State.cmpOf_setFan (m n : Nat) (v : Fan) : (s.setFan n v).cmpOf m = s.cmpOf m := rfl
@[simp] theorem State.auxOf_setFan (m n : Nat) (v : Fan) : (s.setFan n v).auxOf m = s.auxOf m := rfl
@[simp] theorem State.lpOf_setFan (m n : Nat) (v : Fan) : (s.setFan n v).lpOf m = s.lpOf m := rfl
@[simp] theorem State.mtrOf_setFan (m n : Nat) (v : Fan) : (s.setFan n v).mtrOf m = s.mtrOf m := rfl
@[simp] theorem State.plsOf_setFan (m n : Nat) (v : Fan) : (s.setFan n v).plsOf m = s.plsOf m := rfl
@[simp] theorem State.mbxOf_setFan (m n : Nat) (v : Fan) : (s.setFan n v).mbxOf m = s.mbxOf m := rfl
@[simp] theorem State.setLp_get (n : Nat) (v : Lp) (f : Fld) (i : Nat) : (s.setLp n v).get f i = s.get f i := rfl
@[simp] theorem State.lpOf_setLp (n : Nat) (v : Lp) : (s.setLp n v).lpOf n = v := by
  simp [State.lpOf, State.setLp]
theorem State.lpOf_setLp_ne {n m : Nat} (v : Lp) (h : m ≠ n) : (s.setLp n v).lpOf m = s.lpOf m :=
  Table.get_set_ne _ _ _ _ h
@[simp] theorem State.lpOf_set (m : Nat) (f : Fld) (i v : Nat) : (s.set f i v).lpOf m = s.lpOf m := rfl
@[simp] theorem State.lpOf_touch (m t : Nat) : (s.touch t).lpOf m = s.lpOf m := by
  unfold State.lpOf
  rw [State.touch_lp]
@[simp] theorem State.setLp_resp (n : Nat) (v : Lp) : (s.setLp n v).resp = s.resp := rfl
@[simp] theorem State.setLp_tb (n : Nat) (v : Lp) : (s.setLp n v).tb = s.tb := rfl
@[simp] theorem State.setLp_tbRun (n : Nat) (v : Lp) : (s.setLp n v).tbRun = s.tbRun := rfl
@[simp] theorem State.setLp_mem (n : Nat) (v : Lp) : (s.setLp n v).mem = s.mem := rfl
@[simp] theorem State.setLp_jnl (n : Nat) (v : Lp) : (s.setLp n v).jnl = s.jnl := rfl
@[simp] theorem State.setLp_pow (n : Nat) (v : Lp) : (s.setLp n v).pow = s.pow := rfl
@[simp] theorem State.setLp_chn (n : Nat) (v : Lp) : (s.setLp n v).chn = s.chn := rfl
@[simp] theorem State.setLp_img (n : Nat) (v : Lp) : (s.setLp n v).img = s.img := rfl
@[simp] theorem State.setLp_mode (n : Nat) (v : Lp) : (s.setLp n v).mode = s.mode := rfl
@[simp] theorem State.setLp_tbs (n : Nat) (v : Lp) : (s.setLp n v).tbs = s.tbs := rfl
@[simp] theorem State.setLp_twl (n : Nat) (v : Lp) : (s.setLp n v).twl = s.twl := rfl
@[simp] theorem State.setLp_lsnGrp (n : Nat) (v : Lp) : (s.setLp n v).lsnGrp = s.lsnGrp := rfl
@[simp] theorem State.setLp_tailing (n : Nat) (v : Lp) : (s.setLp n v).tailing = s.tailing := rfl
@[simp] theorem State.setLp_jln (n : Nat) (v : Lp) : (s.setLp n v).jln = s.jln := rfl
@[simp] theorem State.setLp_nave0 (n : Nat) (v : Lp) : (s.setLp n v).nave0 = s.nave0 := rfl
@[simp] theorem State.setLp_nave1 (n : Nat) (v : Lp) : (s.setLp n v).nave1 = s.nave1 := rfl
@[simp] theorem State.setLp_irq (n : Nat) (v : Lp) : (s.setLp n v).irq = s.irq := rfl
@[simp] theorem State.setLp_dbg (n : Nat) (v : Lp) : (s.setLp n v).dbg = s.dbg := rfl
@[simp] theorem State.setLp_free (n : Nat) (v : Lp) : (s.setLp n v).free = s.free := rfl
@[simp] theorem State.setLp_pending (n : Nat) (v : Lp) : (s.setLp n v).pending = s.pending := rfl
@[simp] theorem State.convOf_setLp (m n : Nat) (v : Lp) : (s.setLp n v).convOf m = s.convOf m := rfl
@[simp] theorem State.locOf_setLp (m n : Nat) (v : Lp) : (s.setLp n v).locOf m = s.locOf m := rfl
@[simp] theorem State.tripOf_setLp (m n : Nat) (v : Lp) : (s.setLp n v).tripOf m = s.tripOf m := rfl
@[simp] theorem State.trkOf_setLp (m n : Nat) (v : Lp) : (s.setLp n v).trkOf m = s.trkOf m := rfl
@[simp] theorem State.qryOf_setLp (m n : Nat) (v : Lp) : (s.setLp n v).qryOf m = s.qryOf m := rfl
@[simp] theorem State.slotOf_setLp (m n : Nat) (v : Lp) : (s.setLp n v).slotOf m = s.slotOf m := rfl
@[simp] theorem State.busOf_setLp (m n : Nat) (v : Lp) : (s.setLp n v).busOf m = s.busOf m := rfl
@[simp] theorem State.dropOf_setLp (m n : Nat) (v : Lp) : (s.setLp n v).dropOf m = s.dropOf m := rfl
@[simp] theorem State.compOf_setLp (m n : Nat) (v : Lp) : (s.setLp n v).compOf m = s.compOf m := rfl
@[simp] theorem State.brkOf_setLp (m n : Nat) (v : Lp) : (s.setLp n v).brkOf m = s.brkOf m := rfl
@[simp] theorem State.grdOf_setLp (m n : Nat) (v : Lp) : (s.setLp n v).grdOf m = s.grdOf m := rfl
@[simp] theorem State.mpptOf_setLp (m n : Nat) (v : Lp) : (s.setLp n v).mpptOf m = s.mpptOf m := rfl
@[simp] theorem State.axsOf_setLp (m n : Nat) (v : Lp) : (s.setLp n v).axsOf m = s.axsOf m := rfl
@[simp] theorem State.adcOf_setLp (m n : Nat) (v : Lp) : (s.setLp n v).adcOf m = s.adcOf m := rfl
@[simp] theorem State.lsnOf_setLp (m n : Nat) (v : Lp) : (s.setLp n v).lsnOf m = s.lsnOf m := rfl
@[simp] theorem State.cmpOf_setLp (m n : Nat) (v : Lp) : (s.setLp n v).cmpOf m = s.cmpOf m := rfl
@[simp] theorem State.auxOf_setLp (m n : Nat) (v : Lp) : (s.setLp n v).auxOf m = s.auxOf m := rfl
@[simp] theorem State.fanOf_setLp (m n : Nat) (v : Lp) : (s.setLp n v).fanOf m = s.fanOf m := rfl
@[simp] theorem State.mtrOf_setLp (m n : Nat) (v : Lp) : (s.setLp n v).mtrOf m = s.mtrOf m := rfl
@[simp] theorem State.plsOf_setLp (m n : Nat) (v : Lp) : (s.setLp n v).plsOf m = s.plsOf m := rfl
@[simp] theorem State.mbxOf_setLp (m n : Nat) (v : Lp) : (s.setLp n v).mbxOf m = s.mbxOf m := rfl
@[simp] theorem State.setMtr_get (n : Nat) (v : Mtr) (f : Fld) (i : Nat) : (s.setMtr n v).get f i = s.get f i := rfl
@[simp] theorem State.mtrOf_setMtr (n : Nat) (v : Mtr) : (s.setMtr n v).mtrOf n = v := by
  simp [State.mtrOf, State.setMtr]
theorem State.mtrOf_setMtr_ne {n m : Nat} (v : Mtr) (h : m ≠ n) : (s.setMtr n v).mtrOf m = s.mtrOf m :=
  Table.get_set_ne _ _ _ _ h
@[simp] theorem State.mtrOf_set (m : Nat) (f : Fld) (i v : Nat) : (s.set f i v).mtrOf m = s.mtrOf m := rfl
@[simp] theorem State.mtrOf_touch (m t : Nat) : (s.touch t).mtrOf m = s.mtrOf m := by
  unfold State.mtrOf
  rw [State.touch_mtr]
@[simp] theorem State.setMtr_resp (n : Nat) (v : Mtr) : (s.setMtr n v).resp = s.resp := rfl
@[simp] theorem State.setMtr_tb (n : Nat) (v : Mtr) : (s.setMtr n v).tb = s.tb := rfl
@[simp] theorem State.setMtr_tbRun (n : Nat) (v : Mtr) : (s.setMtr n v).tbRun = s.tbRun := rfl
@[simp] theorem State.setMtr_mem (n : Nat) (v : Mtr) : (s.setMtr n v).mem = s.mem := rfl
@[simp] theorem State.setMtr_jnl (n : Nat) (v : Mtr) : (s.setMtr n v).jnl = s.jnl := rfl
@[simp] theorem State.setMtr_pow (n : Nat) (v : Mtr) : (s.setMtr n v).pow = s.pow := rfl
@[simp] theorem State.setMtr_chn (n : Nat) (v : Mtr) : (s.setMtr n v).chn = s.chn := rfl
@[simp] theorem State.setMtr_img (n : Nat) (v : Mtr) : (s.setMtr n v).img = s.img := rfl
@[simp] theorem State.setMtr_mode (n : Nat) (v : Mtr) : (s.setMtr n v).mode = s.mode := rfl
@[simp] theorem State.setMtr_tbs (n : Nat) (v : Mtr) : (s.setMtr n v).tbs = s.tbs := rfl
@[simp] theorem State.setMtr_twl (n : Nat) (v : Mtr) : (s.setMtr n v).twl = s.twl := rfl
@[simp] theorem State.setMtr_lsnGrp (n : Nat) (v : Mtr) : (s.setMtr n v).lsnGrp = s.lsnGrp := rfl
@[simp] theorem State.setMtr_tailing (n : Nat) (v : Mtr) : (s.setMtr n v).tailing = s.tailing := rfl
@[simp] theorem State.setMtr_jln (n : Nat) (v : Mtr) : (s.setMtr n v).jln = s.jln := rfl
@[simp] theorem State.setMtr_nave0 (n : Nat) (v : Mtr) : (s.setMtr n v).nave0 = s.nave0 := rfl
@[simp] theorem State.setMtr_nave1 (n : Nat) (v : Mtr) : (s.setMtr n v).nave1 = s.nave1 := rfl
@[simp] theorem State.setMtr_irq (n : Nat) (v : Mtr) : (s.setMtr n v).irq = s.irq := rfl
@[simp] theorem State.setMtr_dbg (n : Nat) (v : Mtr) : (s.setMtr n v).dbg = s.dbg := rfl
@[simp] theorem State.setMtr_free (n : Nat) (v : Mtr) : (s.setMtr n v).free = s.free := rfl
@[simp] theorem State.setMtr_pending (n : Nat) (v : Mtr) : (s.setMtr n v).pending = s.pending := rfl
@[simp] theorem State.convOf_setMtr (m n : Nat) (v : Mtr) : (s.setMtr n v).convOf m = s.convOf m := rfl
@[simp] theorem State.locOf_setMtr (m n : Nat) (v : Mtr) : (s.setMtr n v).locOf m = s.locOf m := rfl
@[simp] theorem State.tripOf_setMtr (m n : Nat) (v : Mtr) : (s.setMtr n v).tripOf m = s.tripOf m := rfl
@[simp] theorem State.trkOf_setMtr (m n : Nat) (v : Mtr) : (s.setMtr n v).trkOf m = s.trkOf m := rfl
@[simp] theorem State.qryOf_setMtr (m n : Nat) (v : Mtr) : (s.setMtr n v).qryOf m = s.qryOf m := rfl
@[simp] theorem State.slotOf_setMtr (m n : Nat) (v : Mtr) : (s.setMtr n v).slotOf m = s.slotOf m := rfl
@[simp] theorem State.busOf_setMtr (m n : Nat) (v : Mtr) : (s.setMtr n v).busOf m = s.busOf m := rfl
@[simp] theorem State.dropOf_setMtr (m n : Nat) (v : Mtr) : (s.setMtr n v).dropOf m = s.dropOf m := rfl
@[simp] theorem State.compOf_setMtr (m n : Nat) (v : Mtr) : (s.setMtr n v).compOf m = s.compOf m := rfl
@[simp] theorem State.brkOf_setMtr (m n : Nat) (v : Mtr) : (s.setMtr n v).brkOf m = s.brkOf m := rfl
@[simp] theorem State.grdOf_setMtr (m n : Nat) (v : Mtr) : (s.setMtr n v).grdOf m = s.grdOf m := rfl
@[simp] theorem State.mpptOf_setMtr (m n : Nat) (v : Mtr) : (s.setMtr n v).mpptOf m = s.mpptOf m := rfl
@[simp] theorem State.axsOf_setMtr (m n : Nat) (v : Mtr) : (s.setMtr n v).axsOf m = s.axsOf m := rfl
@[simp] theorem State.adcOf_setMtr (m n : Nat) (v : Mtr) : (s.setMtr n v).adcOf m = s.adcOf m := rfl
@[simp] theorem State.lsnOf_setMtr (m n : Nat) (v : Mtr) : (s.setMtr n v).lsnOf m = s.lsnOf m := rfl
@[simp] theorem State.cmpOf_setMtr (m n : Nat) (v : Mtr) : (s.setMtr n v).cmpOf m = s.cmpOf m := rfl
@[simp] theorem State.auxOf_setMtr (m n : Nat) (v : Mtr) : (s.setMtr n v).auxOf m = s.auxOf m := rfl
@[simp] theorem State.fanOf_setMtr (m n : Nat) (v : Mtr) : (s.setMtr n v).fanOf m = s.fanOf m := rfl
@[simp] theorem State.lpOf_setMtr (m n : Nat) (v : Mtr) : (s.setMtr n v).lpOf m = s.lpOf m := rfl
@[simp] theorem State.plsOf_setMtr (m n : Nat) (v : Mtr) : (s.setMtr n v).plsOf m = s.plsOf m := rfl
@[simp] theorem State.mbxOf_setMtr (m n : Nat) (v : Mtr) : (s.setMtr n v).mbxOf m = s.mbxOf m := rfl
@[simp] theorem State.setPls_get (n : Nat) (v : Pls) (f : Fld) (i : Nat) : (s.setPls n v).get f i = s.get f i := rfl
@[simp] theorem State.plsOf_setPls (n : Nat) (v : Pls) : (s.setPls n v).plsOf n = v := by
  simp [State.plsOf, State.setPls]
theorem State.plsOf_setPls_ne {n m : Nat} (v : Pls) (h : m ≠ n) : (s.setPls n v).plsOf m = s.plsOf m :=
  Table.get_set_ne _ _ _ _ h
@[simp] theorem State.plsOf_set (m : Nat) (f : Fld) (i v : Nat) : (s.set f i v).plsOf m = s.plsOf m := rfl
@[simp] theorem State.plsOf_touch (m t : Nat) : (s.touch t).plsOf m = s.plsOf m := by
  unfold State.plsOf
  rw [State.touch_pls]
@[simp] theorem State.setPls_resp (n : Nat) (v : Pls) : (s.setPls n v).resp = s.resp := rfl
@[simp] theorem State.setPls_tb (n : Nat) (v : Pls) : (s.setPls n v).tb = s.tb := rfl
@[simp] theorem State.setPls_tbRun (n : Nat) (v : Pls) : (s.setPls n v).tbRun = s.tbRun := rfl
@[simp] theorem State.setPls_mem (n : Nat) (v : Pls) : (s.setPls n v).mem = s.mem := rfl
@[simp] theorem State.setPls_jnl (n : Nat) (v : Pls) : (s.setPls n v).jnl = s.jnl := rfl
@[simp] theorem State.setPls_pow (n : Nat) (v : Pls) : (s.setPls n v).pow = s.pow := rfl
@[simp] theorem State.setPls_chn (n : Nat) (v : Pls) : (s.setPls n v).chn = s.chn := rfl
@[simp] theorem State.setPls_img (n : Nat) (v : Pls) : (s.setPls n v).img = s.img := rfl
@[simp] theorem State.setPls_mode (n : Nat) (v : Pls) : (s.setPls n v).mode = s.mode := rfl
@[simp] theorem State.setPls_tbs (n : Nat) (v : Pls) : (s.setPls n v).tbs = s.tbs := rfl
@[simp] theorem State.setPls_twl (n : Nat) (v : Pls) : (s.setPls n v).twl = s.twl := rfl
@[simp] theorem State.setPls_lsnGrp (n : Nat) (v : Pls) : (s.setPls n v).lsnGrp = s.lsnGrp := rfl
@[simp] theorem State.setPls_tailing (n : Nat) (v : Pls) : (s.setPls n v).tailing = s.tailing := rfl
@[simp] theorem State.setPls_jln (n : Nat) (v : Pls) : (s.setPls n v).jln = s.jln := rfl
@[simp] theorem State.setPls_nave0 (n : Nat) (v : Pls) : (s.setPls n v).nave0 = s.nave0 := rfl
@[simp] theorem State.setPls_nave1 (n : Nat) (v : Pls) : (s.setPls n v).nave1 = s.nave1 := rfl
@[simp] theorem State.setPls_irq (n : Nat) (v : Pls) : (s.setPls n v).irq = s.irq := rfl
@[simp] theorem State.setPls_dbg (n : Nat) (v : Pls) : (s.setPls n v).dbg = s.dbg := rfl
@[simp] theorem State.setPls_free (n : Nat) (v : Pls) : (s.setPls n v).free = s.free := rfl
@[simp] theorem State.setPls_pending (n : Nat) (v : Pls) : (s.setPls n v).pending = s.pending := rfl
@[simp] theorem State.convOf_setPls (m n : Nat) (v : Pls) : (s.setPls n v).convOf m = s.convOf m := rfl
@[simp] theorem State.locOf_setPls (m n : Nat) (v : Pls) : (s.setPls n v).locOf m = s.locOf m := rfl
@[simp] theorem State.tripOf_setPls (m n : Nat) (v : Pls) : (s.setPls n v).tripOf m = s.tripOf m := rfl
@[simp] theorem State.trkOf_setPls (m n : Nat) (v : Pls) : (s.setPls n v).trkOf m = s.trkOf m := rfl
@[simp] theorem State.qryOf_setPls (m n : Nat) (v : Pls) : (s.setPls n v).qryOf m = s.qryOf m := rfl
@[simp] theorem State.slotOf_setPls (m n : Nat) (v : Pls) : (s.setPls n v).slotOf m = s.slotOf m := rfl
@[simp] theorem State.busOf_setPls (m n : Nat) (v : Pls) : (s.setPls n v).busOf m = s.busOf m := rfl
@[simp] theorem State.dropOf_setPls (m n : Nat) (v : Pls) : (s.setPls n v).dropOf m = s.dropOf m := rfl
@[simp] theorem State.compOf_setPls (m n : Nat) (v : Pls) : (s.setPls n v).compOf m = s.compOf m := rfl
@[simp] theorem State.brkOf_setPls (m n : Nat) (v : Pls) : (s.setPls n v).brkOf m = s.brkOf m := rfl
@[simp] theorem State.grdOf_setPls (m n : Nat) (v : Pls) : (s.setPls n v).grdOf m = s.grdOf m := rfl
@[simp] theorem State.mpptOf_setPls (m n : Nat) (v : Pls) : (s.setPls n v).mpptOf m = s.mpptOf m := rfl
@[simp] theorem State.axsOf_setPls (m n : Nat) (v : Pls) : (s.setPls n v).axsOf m = s.axsOf m := rfl
@[simp] theorem State.adcOf_setPls (m n : Nat) (v : Pls) : (s.setPls n v).adcOf m = s.adcOf m := rfl
@[simp] theorem State.lsnOf_setPls (m n : Nat) (v : Pls) : (s.setPls n v).lsnOf m = s.lsnOf m := rfl
@[simp] theorem State.cmpOf_setPls (m n : Nat) (v : Pls) : (s.setPls n v).cmpOf m = s.cmpOf m := rfl
@[simp] theorem State.auxOf_setPls (m n : Nat) (v : Pls) : (s.setPls n v).auxOf m = s.auxOf m := rfl
@[simp] theorem State.fanOf_setPls (m n : Nat) (v : Pls) : (s.setPls n v).fanOf m = s.fanOf m := rfl
@[simp] theorem State.lpOf_setPls (m n : Nat) (v : Pls) : (s.setPls n v).lpOf m = s.lpOf m := rfl
@[simp] theorem State.mtrOf_setPls (m n : Nat) (v : Pls) : (s.setPls n v).mtrOf m = s.mtrOf m := rfl
@[simp] theorem State.mbxOf_setPls (m n : Nat) (v : Pls) : (s.setPls n v).mbxOf m = s.mbxOf m := rfl
@[simp] theorem State.setMbx_get (n : Nat) (v : Mbx) (f : Fld) (i : Nat) : (s.setMbx n v).get f i = s.get f i := rfl
@[simp] theorem State.mbxOf_setMbx (n : Nat) (v : Mbx) : (s.setMbx n v).mbxOf n = v := by
  simp [State.mbxOf, State.setMbx]
theorem State.mbxOf_setMbx_ne {n m : Nat} (v : Mbx) (h : m ≠ n) : (s.setMbx n v).mbxOf m = s.mbxOf m :=
  Table.get_set_ne _ _ _ _ h
@[simp] theorem State.mbxOf_set (m : Nat) (f : Fld) (i v : Nat) : (s.set f i v).mbxOf m = s.mbxOf m := rfl
@[simp] theorem State.mbxOf_touch (m t : Nat) : (s.touch t).mbxOf m = s.mbxOf m := by
  unfold State.mbxOf
  rw [State.touch_mbx]
@[simp] theorem State.setMbx_resp (n : Nat) (v : Mbx) : (s.setMbx n v).resp = s.resp := rfl
@[simp] theorem State.setMbx_tb (n : Nat) (v : Mbx) : (s.setMbx n v).tb = s.tb := rfl
@[simp] theorem State.setMbx_tbRun (n : Nat) (v : Mbx) : (s.setMbx n v).tbRun = s.tbRun := rfl
@[simp] theorem State.setMbx_mem (n : Nat) (v : Mbx) : (s.setMbx n v).mem = s.mem := rfl
@[simp] theorem State.setMbx_jnl (n : Nat) (v : Mbx) : (s.setMbx n v).jnl = s.jnl := rfl
@[simp] theorem State.setMbx_pow (n : Nat) (v : Mbx) : (s.setMbx n v).pow = s.pow := rfl
@[simp] theorem State.setMbx_chn (n : Nat) (v : Mbx) : (s.setMbx n v).chn = s.chn := rfl
@[simp] theorem State.setMbx_img (n : Nat) (v : Mbx) : (s.setMbx n v).img = s.img := rfl
@[simp] theorem State.setMbx_mode (n : Nat) (v : Mbx) : (s.setMbx n v).mode = s.mode := rfl
@[simp] theorem State.setMbx_tbs (n : Nat) (v : Mbx) : (s.setMbx n v).tbs = s.tbs := rfl
@[simp] theorem State.setMbx_twl (n : Nat) (v : Mbx) : (s.setMbx n v).twl = s.twl := rfl
@[simp] theorem State.setMbx_lsnGrp (n : Nat) (v : Mbx) : (s.setMbx n v).lsnGrp = s.lsnGrp := rfl
@[simp] theorem State.setMbx_tailing (n : Nat) (v : Mbx) : (s.setMbx n v).tailing = s.tailing := rfl
@[simp] theorem State.setMbx_jln (n : Nat) (v : Mbx) : (s.setMbx n v).jln = s.jln := rfl
@[simp] theorem State.setMbx_nave0 (n : Nat) (v : Mbx) : (s.setMbx n v).nave0 = s.nave0 := rfl
@[simp] theorem State.setMbx_nave1 (n : Nat) (v : Mbx) : (s.setMbx n v).nave1 = s.nave1 := rfl
@[simp] theorem State.setMbx_irq (n : Nat) (v : Mbx) : (s.setMbx n v).irq = s.irq := rfl
@[simp] theorem State.setMbx_dbg (n : Nat) (v : Mbx) : (s.setMbx n v).dbg = s.dbg := rfl
@[simp] theorem State.setMbx_free (n : Nat) (v : Mbx) : (s.setMbx n v).free = s.free := rfl
@[simp] theorem State.setMbx_pending (n : Nat) (v : Mbx) : (s.setMbx n v).pending = s.pending := rfl
@[simp] theorem State.convOf_setMbx (m n : Nat) (v : Mbx) : (s.setMbx n v).convOf m = s.convOf m := rfl
@[simp] theorem State.locOf_setMbx (m n : Nat) (v : Mbx) : (s.setMbx n v).locOf m = s.locOf m := rfl
@[simp] theorem State.tripOf_setMbx (m n : Nat) (v : Mbx) : (s.setMbx n v).tripOf m = s.tripOf m := rfl
@[simp] theorem State.trkOf_setMbx (m n : Nat) (v : Mbx) : (s.setMbx n v).trkOf m = s.trkOf m := rfl
@[simp] theorem State.qryOf_setMbx (m n : Nat) (v : Mbx) : (s.setMbx n v).qryOf m = s.qryOf m := rfl
@[simp] theorem State.slotOf_setMbx (m n : Nat) (v : Mbx) : (s.setMbx n v).slotOf m = s.slotOf m := rfl
@[simp] theorem State.busOf_setMbx (m n : Nat) (v : Mbx) : (s.setMbx n v).busOf m = s.busOf m := rfl
@[simp] theorem State.dropOf_setMbx (m n : Nat) (v : Mbx) : (s.setMbx n v).dropOf m = s.dropOf m := rfl
@[simp] theorem State.compOf_setMbx (m n : Nat) (v : Mbx) : (s.setMbx n v).compOf m = s.compOf m := rfl
@[simp] theorem State.brkOf_setMbx (m n : Nat) (v : Mbx) : (s.setMbx n v).brkOf m = s.brkOf m := rfl
@[simp] theorem State.grdOf_setMbx (m n : Nat) (v : Mbx) : (s.setMbx n v).grdOf m = s.grdOf m := rfl
@[simp] theorem State.mpptOf_setMbx (m n : Nat) (v : Mbx) : (s.setMbx n v).mpptOf m = s.mpptOf m := rfl
@[simp] theorem State.axsOf_setMbx (m n : Nat) (v : Mbx) : (s.setMbx n v).axsOf m = s.axsOf m := rfl
@[simp] theorem State.adcOf_setMbx (m n : Nat) (v : Mbx) : (s.setMbx n v).adcOf m = s.adcOf m := rfl
@[simp] theorem State.lsnOf_setMbx (m n : Nat) (v : Mbx) : (s.setMbx n v).lsnOf m = s.lsnOf m := rfl
@[simp] theorem State.cmpOf_setMbx (m n : Nat) (v : Mbx) : (s.setMbx n v).cmpOf m = s.cmpOf m := rfl
@[simp] theorem State.auxOf_setMbx (m n : Nat) (v : Mbx) : (s.setMbx n v).auxOf m = s.auxOf m := rfl
@[simp] theorem State.fanOf_setMbx (m n : Nat) (v : Mbx) : (s.setMbx n v).fanOf m = s.fanOf m := rfl
@[simp] theorem State.lpOf_setMbx (m n : Nat) (v : Mbx) : (s.setMbx n v).lpOf m = s.lpOf m := rfl
@[simp] theorem State.mtrOf_setMbx (m n : Nat) (v : Mbx) : (s.setMbx n v).mtrOf m = s.mtrOf m := rfl
@[simp] theorem State.plsOf_setMbx (m n : Nat) (v : Mbx) : (s.setMbx n v).plsOf m = s.plsOf m := rfl
@[simp] theorem State.convOf_bump (m : Nat) (f : Fld) (i : Nat) : (s.bump f i).convOf m = s.convOf m := rfl
@[simp] theorem State.locOf_bump (m : Nat) (f : Fld) (i : Nat) : (s.bump f i).locOf m = s.locOf m := rfl
@[simp] theorem State.tripOf_bump (m : Nat) (f : Fld) (i : Nat) : (s.bump f i).tripOf m = s.tripOf m := rfl
@[simp] theorem State.trkOf_bump (m : Nat) (f : Fld) (i : Nat) : (s.bump f i).trkOf m = s.trkOf m := rfl
@[simp] theorem State.qryOf_bump (m : Nat) (f : Fld) (i : Nat) : (s.bump f i).qryOf m = s.qryOf m := rfl
@[simp] theorem State.slotOf_bump (m : Nat) (f : Fld) (i : Nat) : (s.bump f i).slotOf m = s.slotOf m := rfl
@[simp] theorem State.busOf_bump (m : Nat) (f : Fld) (i : Nat) : (s.bump f i).busOf m = s.busOf m := rfl
@[simp] theorem State.dropOf_bump (m : Nat) (f : Fld) (i : Nat) : (s.bump f i).dropOf m = s.dropOf m := rfl
@[simp] theorem State.compOf_bump (m : Nat) (f : Fld) (i : Nat) : (s.bump f i).compOf m = s.compOf m := rfl
@[simp] theorem State.brkOf_bump (m : Nat) (f : Fld) (i : Nat) : (s.bump f i).brkOf m = s.brkOf m := rfl
@[simp] theorem State.grdOf_bump (m : Nat) (f : Fld) (i : Nat) : (s.bump f i).grdOf m = s.grdOf m := rfl
@[simp] theorem State.mpptOf_bump (m : Nat) (f : Fld) (i : Nat) : (s.bump f i).mpptOf m = s.mpptOf m := rfl
@[simp] theorem State.axsOf_bump (m : Nat) (f : Fld) (i : Nat) : (s.bump f i).axsOf m = s.axsOf m := rfl
@[simp] theorem State.adcOf_bump (m : Nat) (f : Fld) (i : Nat) : (s.bump f i).adcOf m = s.adcOf m := rfl
@[simp] theorem State.lsnOf_bump (m : Nat) (f : Fld) (i : Nat) : (s.bump f i).lsnOf m = s.lsnOf m := rfl
@[simp] theorem State.cmpOf_bump (m : Nat) (f : Fld) (i : Nat) : (s.bump f i).cmpOf m = s.cmpOf m := rfl
@[simp] theorem State.auxOf_bump (m : Nat) (f : Fld) (i : Nat) : (s.bump f i).auxOf m = s.auxOf m := rfl
@[simp] theorem State.fanOf_bump (m : Nat) (f : Fld) (i : Nat) : (s.bump f i).fanOf m = s.fanOf m := rfl
@[simp] theorem State.lpOf_bump (m : Nat) (f : Fld) (i : Nat) : (s.bump f i).lpOf m = s.lpOf m := rfl
@[simp] theorem State.mtrOf_bump (m : Nat) (f : Fld) (i : Nat) : (s.bump f i).mtrOf m = s.mtrOf m := rfl
@[simp] theorem State.plsOf_bump (m : Nat) (f : Fld) (i : Nat) : (s.bump f i).plsOf m = s.plsOf m := rfl
@[simp] theorem State.mbxOf_bump (m : Nat) (f : Fld) (i : Nat) : (s.bump f i).mbxOf m = s.mbxOf m := rfl
@[simp] theorem State.bump_resp (f : Fld) (i : Nat) : (s.bump f i).resp = s.resp := rfl
@[simp] theorem State.bump_tb (f : Fld) (i : Nat) : (s.bump f i).tb = s.tb := rfl
@[simp] theorem State.bump_tbRun (f : Fld) (i : Nat) : (s.bump f i).tbRun = s.tbRun := rfl
@[simp] theorem State.bump_mem (f : Fld) (i : Nat) : (s.bump f i).mem = s.mem := rfl
@[simp] theorem State.bump_jnl (f : Fld) (i : Nat) : (s.bump f i).jnl = s.jnl := rfl
@[simp] theorem State.bump_pow (f : Fld) (i : Nat) : (s.bump f i).pow = s.pow := rfl
@[simp] theorem State.bump_chn (f : Fld) (i : Nat) : (s.bump f i).chn = s.chn := rfl
@[simp] theorem State.bump_img (f : Fld) (i : Nat) : (s.bump f i).img = s.img := rfl
@[simp] theorem State.bump_mode (f : Fld) (i : Nat) : (s.bump f i).mode = s.mode := rfl
@[simp] theorem State.bump_tbs (f : Fld) (i : Nat) : (s.bump f i).tbs = s.tbs := rfl
@[simp] theorem State.bump_twl (f : Fld) (i : Nat) : (s.bump f i).twl = s.twl := rfl
@[simp] theorem State.bump_lsnGrp (f : Fld) (i : Nat) : (s.bump f i).lsnGrp = s.lsnGrp := rfl
@[simp] theorem State.bump_tailing (f : Fld) (i : Nat) : (s.bump f i).tailing = s.tailing := rfl
@[simp] theorem State.bump_jln (f : Fld) (i : Nat) : (s.bump f i).jln = s.jln := rfl
@[simp] theorem State.bump_nave0 (f : Fld) (i : Nat) : (s.bump f i).nave0 = s.nave0 := rfl
@[simp] theorem State.bump_nave1 (f : Fld) (i : Nat) : (s.bump f i).nave1 = s.nave1 := rfl
@[simp] theorem State.bump_irq (f : Fld) (i : Nat) : (s.bump f i).irq = s.irq := rfl
@[simp] theorem State.bump_dbg (f : Fld) (i : Nat) : (s.bump f i).dbg = s.dbg := rfl
@[simp] theorem State.bump_free (f : Fld) (i : Nat) : (s.bump f i).free = s.free := rfl
@[simp] theorem State.bump_pending (f : Fld) (i : Nat) : (s.bump f i).pending = s.pending := rfl

/-! ### Answers of accesses -/

@[simp] theorem State.ok_tb : (s.ok).tb = s.tb := rfl
@[simp] theorem State.ok_tbRun : (s.ok).tbRun = s.tbRun := rfl
@[simp] theorem State.ok_mem : (s.ok).mem = s.mem := rfl
@[simp] theorem State.ok_jnl : (s.ok).jnl = s.jnl := rfl
@[simp] theorem State.ok_pow : (s.ok).pow = s.pow := rfl
@[simp] theorem State.ok_chn : (s.ok).chn = s.chn := rfl
@[simp] theorem State.ok_img : (s.ok).img = s.img := rfl
@[simp] theorem State.ok_mode : (s.ok).mode = s.mode := rfl
@[simp] theorem State.ok_tbs : (s.ok).tbs = s.tbs := rfl
@[simp] theorem State.ok_twl : (s.ok).twl = s.twl := rfl
@[simp] theorem State.ok_lsnGrp : (s.ok).lsnGrp = s.lsnGrp := rfl
@[simp] theorem State.ok_tailing : (s.ok).tailing = s.tailing := rfl
@[simp] theorem State.ok_jln : (s.ok).jln = s.jln := rfl
@[simp] theorem State.ok_nave0 : (s.ok).nave0 = s.nave0 := rfl
@[simp] theorem State.ok_nave1 : (s.ok).nave1 = s.nave1 := rfl
@[simp] theorem State.ok_irq : (s.ok).irq = s.irq := rfl
@[simp] theorem State.ok_dbg : (s.ok).dbg = s.dbg := rfl
@[simp] theorem State.ok_free : (s.ok).free = s.free := rfl
@[simp] theorem State.ok_pending : (s.ok).pending = s.pending := rfl
@[simp] theorem State.get_ok (f : Fld) (i : Nat) : (s.ok).get f i = s.get f i := rfl
@[simp] theorem State.convOf_ok (m : Nat) : (s.ok).convOf m = s.convOf m := rfl
@[simp] theorem State.locOf_ok (m : Nat) : (s.ok).locOf m = s.locOf m := rfl
@[simp] theorem State.tripOf_ok (m : Nat) : (s.ok).tripOf m = s.tripOf m := rfl
@[simp] theorem State.trkOf_ok (m : Nat) : (s.ok).trkOf m = s.trkOf m := rfl
@[simp] theorem State.qryOf_ok (m : Nat) : (s.ok).qryOf m = s.qryOf m := rfl
@[simp] theorem State.slotOf_ok (m : Nat) : (s.ok).slotOf m = s.slotOf m := rfl
@[simp] theorem State.busOf_ok (m : Nat) : (s.ok).busOf m = s.busOf m := rfl
@[simp] theorem State.dropOf_ok (m : Nat) : (s.ok).dropOf m = s.dropOf m := rfl
@[simp] theorem State.compOf_ok (m : Nat) : (s.ok).compOf m = s.compOf m := rfl
@[simp] theorem State.brkOf_ok (m : Nat) : (s.ok).brkOf m = s.brkOf m := rfl
@[simp] theorem State.grdOf_ok (m : Nat) : (s.ok).grdOf m = s.grdOf m := rfl
@[simp] theorem State.mpptOf_ok (m : Nat) : (s.ok).mpptOf m = s.mpptOf m := rfl
@[simp] theorem State.axsOf_ok (m : Nat) : (s.ok).axsOf m = s.axsOf m := rfl
@[simp] theorem State.adcOf_ok (m : Nat) : (s.ok).adcOf m = s.adcOf m := rfl
@[simp] theorem State.lsnOf_ok (m : Nat) : (s.ok).lsnOf m = s.lsnOf m := rfl
@[simp] theorem State.cmpOf_ok (m : Nat) : (s.ok).cmpOf m = s.cmpOf m := rfl
@[simp] theorem State.auxOf_ok (m : Nat) : (s.ok).auxOf m = s.auxOf m := rfl
@[simp] theorem State.fanOf_ok (m : Nat) : (s.ok).fanOf m = s.fanOf m := rfl
@[simp] theorem State.lpOf_ok (m : Nat) : (s.ok).lpOf m = s.lpOf m := rfl
@[simp] theorem State.mtrOf_ok (m : Nat) : (s.ok).mtrOf m = s.mtrOf m := rfl
@[simp] theorem State.plsOf_ok (m : Nat) : (s.ok).plsOf m = s.plsOf m := rfl
@[simp] theorem State.mbxOf_ok (m : Nat) : (s.ok).mbxOf m = s.mbxOf m := rfl
@[simp] theorem State.busErr_tb : (s.busErr).tb = s.tb := rfl
@[simp] theorem State.busErr_tbRun : (s.busErr).tbRun = s.tbRun := rfl
@[simp] theorem State.busErr_mem : (s.busErr).mem = s.mem := rfl
@[simp] theorem State.busErr_jnl : (s.busErr).jnl = s.jnl := rfl
@[simp] theorem State.busErr_pow : (s.busErr).pow = s.pow := rfl
@[simp] theorem State.busErr_chn : (s.busErr).chn = s.chn := rfl
@[simp] theorem State.busErr_img : (s.busErr).img = s.img := rfl
@[simp] theorem State.busErr_mode : (s.busErr).mode = s.mode := rfl
@[simp] theorem State.busErr_tbs : (s.busErr).tbs = s.tbs := rfl
@[simp] theorem State.busErr_twl : (s.busErr).twl = s.twl := rfl
@[simp] theorem State.busErr_lsnGrp : (s.busErr).lsnGrp = s.lsnGrp := rfl
@[simp] theorem State.busErr_tailing : (s.busErr).tailing = s.tailing := rfl
@[simp] theorem State.busErr_jln : (s.busErr).jln = s.jln := rfl
@[simp] theorem State.busErr_nave0 : (s.busErr).nave0 = s.nave0 := rfl
@[simp] theorem State.busErr_nave1 : (s.busErr).nave1 = s.nave1 := rfl
@[simp] theorem State.busErr_irq : (s.busErr).irq = s.irq := rfl
@[simp] theorem State.busErr_dbg : (s.busErr).dbg = s.dbg := rfl
@[simp] theorem State.busErr_free : (s.busErr).free = s.free := rfl
@[simp] theorem State.busErr_pending : (s.busErr).pending = s.pending := rfl
@[simp] theorem State.get_busErr (f : Fld) (i : Nat) : (s.busErr).get f i = s.get f i := rfl
@[simp] theorem State.convOf_busErr (m : Nat) : (s.busErr).convOf m = s.convOf m := rfl
@[simp] theorem State.locOf_busErr (m : Nat) : (s.busErr).locOf m = s.locOf m := rfl
@[simp] theorem State.tripOf_busErr (m : Nat) : (s.busErr).tripOf m = s.tripOf m := rfl
@[simp] theorem State.trkOf_busErr (m : Nat) : (s.busErr).trkOf m = s.trkOf m := rfl
@[simp] theorem State.qryOf_busErr (m : Nat) : (s.busErr).qryOf m = s.qryOf m := rfl
@[simp] theorem State.slotOf_busErr (m : Nat) : (s.busErr).slotOf m = s.slotOf m := rfl
@[simp] theorem State.busOf_busErr (m : Nat) : (s.busErr).busOf m = s.busOf m := rfl
@[simp] theorem State.dropOf_busErr (m : Nat) : (s.busErr).dropOf m = s.dropOf m := rfl
@[simp] theorem State.compOf_busErr (m : Nat) : (s.busErr).compOf m = s.compOf m := rfl
@[simp] theorem State.brkOf_busErr (m : Nat) : (s.busErr).brkOf m = s.brkOf m := rfl
@[simp] theorem State.grdOf_busErr (m : Nat) : (s.busErr).grdOf m = s.grdOf m := rfl
@[simp] theorem State.mpptOf_busErr (m : Nat) : (s.busErr).mpptOf m = s.mpptOf m := rfl
@[simp] theorem State.axsOf_busErr (m : Nat) : (s.busErr).axsOf m = s.axsOf m := rfl
@[simp] theorem State.adcOf_busErr (m : Nat) : (s.busErr).adcOf m = s.adcOf m := rfl
@[simp] theorem State.lsnOf_busErr (m : Nat) : (s.busErr).lsnOf m = s.lsnOf m := rfl
@[simp] theorem State.cmpOf_busErr (m : Nat) : (s.busErr).cmpOf m = s.cmpOf m := rfl
@[simp] theorem State.auxOf_busErr (m : Nat) : (s.busErr).auxOf m = s.auxOf m := rfl
@[simp] theorem State.fanOf_busErr (m : Nat) : (s.busErr).fanOf m = s.fanOf m := rfl
@[simp] theorem State.lpOf_busErr (m : Nat) : (s.busErr).lpOf m = s.lpOf m := rfl
@[simp] theorem State.mtrOf_busErr (m : Nat) : (s.busErr).mtrOf m = s.mtrOf m := rfl
@[simp] theorem State.plsOf_busErr (m : Nat) : (s.busErr).plsOf m = s.plsOf m := rfl
@[simp] theorem State.mbxOf_busErr (m : Nat) : (s.busErr).mbxOf m = s.mbxOf m := rfl
@[simp] theorem State.answer_tb (v : Nat) : (s.answer v).tb = s.tb := rfl
@[simp] theorem State.answer_tbRun (v : Nat) : (s.answer v).tbRun = s.tbRun := rfl
@[simp] theorem State.answer_mem (v : Nat) : (s.answer v).mem = s.mem := rfl
@[simp] theorem State.answer_jnl (v : Nat) : (s.answer v).jnl = s.jnl := rfl
@[simp] theorem State.answer_pow (v : Nat) : (s.answer v).pow = s.pow := rfl
@[simp] theorem State.answer_chn (v : Nat) : (s.answer v).chn = s.chn := rfl
@[simp] theorem State.answer_img (v : Nat) : (s.answer v).img = s.img := rfl
@[simp] theorem State.answer_mode (v : Nat) : (s.answer v).mode = s.mode := rfl
@[simp] theorem State.answer_tbs (v : Nat) : (s.answer v).tbs = s.tbs := rfl
@[simp] theorem State.answer_twl (v : Nat) : (s.answer v).twl = s.twl := rfl
@[simp] theorem State.answer_lsnGrp (v : Nat) : (s.answer v).lsnGrp = s.lsnGrp := rfl
@[simp] theorem State.answer_tailing (v : Nat) : (s.answer v).tailing = s.tailing := rfl
@[simp] theorem State.answer_jln (v : Nat) : (s.answer v).jln = s.jln := rfl
@[simp] theorem State.answer_nave0 (v : Nat) : (s.answer v).nave0 = s.nave0 := rfl
@[simp] theorem State.answer_nave1 (v : Nat) : (s.answer v).nave1 = s.nave1 := rfl
@[simp] theorem State.answer_irq (v : Nat) : (s.answer v).irq = s.irq := rfl
@[simp] theorem State.answer_dbg (v : Nat) : (s.answer v).dbg = s.dbg := rfl
@[simp] theorem State.answer_free (v : Nat) : (s.answer v).free = s.free := rfl
@[simp] theorem State.answer_pending (v : Nat) : (s.answer v).pending = s.pending := rfl
@[simp] theorem State.get_answer (v : Nat) (f : Fld) (i : Nat) : (s.answer v).get f i = s.get f i := rfl
@[simp] theorem State.convOf_answer (v : Nat) (m : Nat) : (s.answer v).convOf m = s.convOf m := rfl
@[simp] theorem State.locOf_answer (v : Nat) (m : Nat) : (s.answer v).locOf m = s.locOf m := rfl
@[simp] theorem State.tripOf_answer (v : Nat) (m : Nat) : (s.answer v).tripOf m = s.tripOf m := rfl
@[simp] theorem State.trkOf_answer (v : Nat) (m : Nat) : (s.answer v).trkOf m = s.trkOf m := rfl
@[simp] theorem State.qryOf_answer (v : Nat) (m : Nat) : (s.answer v).qryOf m = s.qryOf m := rfl
@[simp] theorem State.slotOf_answer (v : Nat) (m : Nat) : (s.answer v).slotOf m = s.slotOf m := rfl
@[simp] theorem State.busOf_answer (v : Nat) (m : Nat) : (s.answer v).busOf m = s.busOf m := rfl
@[simp] theorem State.dropOf_answer (v : Nat) (m : Nat) : (s.answer v).dropOf m = s.dropOf m := rfl
@[simp] theorem State.compOf_answer (v : Nat) (m : Nat) : (s.answer v).compOf m = s.compOf m := rfl
@[simp] theorem State.brkOf_answer (v : Nat) (m : Nat) : (s.answer v).brkOf m = s.brkOf m := rfl
@[simp] theorem State.grdOf_answer (v : Nat) (m : Nat) : (s.answer v).grdOf m = s.grdOf m := rfl
@[simp] theorem State.mpptOf_answer (v : Nat) (m : Nat) : (s.answer v).mpptOf m = s.mpptOf m := rfl
@[simp] theorem State.axsOf_answer (v : Nat) (m : Nat) : (s.answer v).axsOf m = s.axsOf m := rfl
@[simp] theorem State.adcOf_answer (v : Nat) (m : Nat) : (s.answer v).adcOf m = s.adcOf m := rfl
@[simp] theorem State.lsnOf_answer (v : Nat) (m : Nat) : (s.answer v).lsnOf m = s.lsnOf m := rfl
@[simp] theorem State.cmpOf_answer (v : Nat) (m : Nat) : (s.answer v).cmpOf m = s.cmpOf m := rfl
@[simp] theorem State.auxOf_answer (v : Nat) (m : Nat) : (s.answer v).auxOf m = s.auxOf m := rfl
@[simp] theorem State.fanOf_answer (v : Nat) (m : Nat) : (s.answer v).fanOf m = s.fanOf m := rfl
@[simp] theorem State.lpOf_answer (v : Nat) (m : Nat) : (s.answer v).lpOf m = s.lpOf m := rfl
@[simp] theorem State.mtrOf_answer (v : Nat) (m : Nat) : (s.answer v).mtrOf m = s.mtrOf m := rfl
@[simp] theorem State.plsOf_answer (v : Nat) (m : Nat) : (s.answer v).plsOf m = s.plsOf m := rfl
@[simp] theorem State.mbxOf_answer (v : Nat) (m : Nat) : (s.answer v).mbxOf m = s.mbxOf m := rfl
@[simp] theorem State.nextFree_resp : (s.nextFree).resp = s.resp := rfl
@[simp] theorem State.nextFree_tb : (s.nextFree).tb = s.tb := rfl
@[simp] theorem State.nextFree_tbRun : (s.nextFree).tbRun = s.tbRun := rfl
@[simp] theorem State.nextFree_mem : (s.nextFree).mem = s.mem := rfl
@[simp] theorem State.nextFree_jnl : (s.nextFree).jnl = s.jnl := rfl
@[simp] theorem State.nextFree_pow : (s.nextFree).pow = s.pow := rfl
@[simp] theorem State.nextFree_chn : (s.nextFree).chn = s.chn := rfl
@[simp] theorem State.nextFree_img : (s.nextFree).img = s.img := rfl
@[simp] theorem State.nextFree_mode : (s.nextFree).mode = s.mode := rfl
@[simp] theorem State.nextFree_tbs : (s.nextFree).tbs = s.tbs := rfl
@[simp] theorem State.nextFree_twl : (s.nextFree).twl = s.twl := rfl
@[simp] theorem State.nextFree_lsnGrp : (s.nextFree).lsnGrp = s.lsnGrp := rfl
@[simp] theorem State.nextFree_tailing : (s.nextFree).tailing = s.tailing := rfl
@[simp] theorem State.nextFree_jln : (s.nextFree).jln = s.jln := rfl
@[simp] theorem State.nextFree_nave0 : (s.nextFree).nave0 = s.nave0 := rfl
@[simp] theorem State.nextFree_nave1 : (s.nextFree).nave1 = s.nave1 := rfl
@[simp] theorem State.nextFree_irq : (s.nextFree).irq = s.irq := rfl
@[simp] theorem State.nextFree_dbg : (s.nextFree).dbg = s.dbg := rfl
@[simp] theorem State.nextFree_pending : (s.nextFree).pending = s.pending := rfl
@[simp] theorem State.get_nextFree (f : Fld) (i : Nat) : (s.nextFree).get f i = s.get f i := rfl
@[simp] theorem State.convOf_nextFree (m : Nat) : (s.nextFree).convOf m = s.convOf m := rfl
@[simp] theorem State.locOf_nextFree (m : Nat) : (s.nextFree).locOf m = s.locOf m := rfl
@[simp] theorem State.tripOf_nextFree (m : Nat) : (s.nextFree).tripOf m = s.tripOf m := rfl
@[simp] theorem State.trkOf_nextFree (m : Nat) : (s.nextFree).trkOf m = s.trkOf m := rfl
@[simp] theorem State.qryOf_nextFree (m : Nat) : (s.nextFree).qryOf m = s.qryOf m := rfl
@[simp] theorem State.slotOf_nextFree (m : Nat) : (s.nextFree).slotOf m = s.slotOf m := rfl
@[simp] theorem State.busOf_nextFree (m : Nat) : (s.nextFree).busOf m = s.busOf m := rfl
@[simp] theorem State.dropOf_nextFree (m : Nat) : (s.nextFree).dropOf m = s.dropOf m := rfl
@[simp] theorem State.compOf_nextFree (m : Nat) : (s.nextFree).compOf m = s.compOf m := rfl
@[simp] theorem State.brkOf_nextFree (m : Nat) : (s.nextFree).brkOf m = s.brkOf m := rfl
@[simp] theorem State.grdOf_nextFree (m : Nat) : (s.nextFree).grdOf m = s.grdOf m := rfl
@[simp] theorem State.mpptOf_nextFree (m : Nat) : (s.nextFree).mpptOf m = s.mpptOf m := rfl
@[simp] theorem State.axsOf_nextFree (m : Nat) : (s.nextFree).axsOf m = s.axsOf m := rfl
@[simp] theorem State.adcOf_nextFree (m : Nat) : (s.nextFree).adcOf m = s.adcOf m := rfl
@[simp] theorem State.lsnOf_nextFree (m : Nat) : (s.nextFree).lsnOf m = s.lsnOf m := rfl
@[simp] theorem State.cmpOf_nextFree (m : Nat) : (s.nextFree).cmpOf m = s.cmpOf m := rfl
@[simp] theorem State.auxOf_nextFree (m : Nat) : (s.nextFree).auxOf m = s.auxOf m := rfl
@[simp] theorem State.fanOf_nextFree (m : Nat) : (s.nextFree).fanOf m = s.fanOf m := rfl
@[simp] theorem State.lpOf_nextFree (m : Nat) : (s.nextFree).lpOf m = s.lpOf m := rfl
@[simp] theorem State.mtrOf_nextFree (m : Nat) : (s.nextFree).mtrOf m = s.mtrOf m := rfl
@[simp] theorem State.plsOf_nextFree (m : Nat) : (s.nextFree).plsOf m = s.plsOf m := rfl
@[simp] theorem State.mbxOf_nextFree (m : Nat) : (s.nextFree).mbxOf m = s.mbxOf m := rfl
@[simp] theorem State.convOf_raise (src m : Nat) : (s.raise src).convOf m = s.convOf m := by
  unfold State.raise State.setBitOf
  split <;> rfl
@[simp] theorem State.locOf_raise (src m : Nat) : (s.raise src).locOf m = s.locOf m := by
  unfold State.raise State.setBitOf
  split <;> rfl
@[simp] theorem State.tripOf_raise (src m : Nat) : (s.raise src).tripOf m = s.tripOf m := by
  unfold State.raise State.setBitOf
  split <;> rfl
@[simp] theorem State.trkOf_raise (src m : Nat) : (s.raise src).trkOf m = s.trkOf m := by
  unfold State.raise State.setBitOf
  split <;> rfl
@[simp] theorem State.qryOf_raise (src m : Nat) : (s.raise src).qryOf m = s.qryOf m := by
  unfold State.raise State.setBitOf
  split <;> rfl
@[simp] theorem State.slotOf_raise (src m : Nat) : (s.raise src).slotOf m = s.slotOf m := by
  unfold State.raise State.setBitOf
  split <;> rfl
@[simp] theorem State.busOf_raise (src m : Nat) : (s.raise src).busOf m = s.busOf m := by
  unfold State.raise State.setBitOf
  split <;> rfl
@[simp] theorem State.dropOf_raise (src m : Nat) : (s.raise src).dropOf m = s.dropOf m := by
  unfold State.raise State.setBitOf
  split <;> rfl
@[simp] theorem State.compOf_raise (src m : Nat) : (s.raise src).compOf m = s.compOf m := by
  unfold State.raise State.setBitOf
  split <;> rfl
@[simp] theorem State.brkOf_raise (src m : Nat) : (s.raise src).brkOf m = s.brkOf m := by
  unfold State.raise State.setBitOf
  split <;> rfl
@[simp] theorem State.grdOf_raise (src m : Nat) : (s.raise src).grdOf m = s.grdOf m := by
  unfold State.raise State.setBitOf
  split <;> rfl
@[simp] theorem State.mpptOf_raise (src m : Nat) : (s.raise src).mpptOf m = s.mpptOf m := by
  unfold State.raise State.setBitOf
  split <;> rfl
@[simp] theorem State.axsOf_raise (src m : Nat) : (s.raise src).axsOf m = s.axsOf m := by
  unfold State.raise State.setBitOf
  split <;> rfl
@[simp] theorem State.adcOf_raise (src m : Nat) : (s.raise src).adcOf m = s.adcOf m := by
  unfold State.raise State.setBitOf
  split <;> rfl
@[simp] theorem State.lsnOf_raise (src m : Nat) : (s.raise src).lsnOf m = s.lsnOf m := by
  unfold State.raise State.setBitOf
  split <;> rfl
@[simp] theorem State.cmpOf_raise (src m : Nat) : (s.raise src).cmpOf m = s.cmpOf m := by
  unfold State.raise State.setBitOf
  split <;> rfl
@[simp] theorem State.auxOf_raise (src m : Nat) : (s.raise src).auxOf m = s.auxOf m := by
  unfold State.raise State.setBitOf
  split <;> rfl
@[simp] theorem State.fanOf_raise (src m : Nat) : (s.raise src).fanOf m = s.fanOf m := by
  unfold State.raise State.setBitOf
  split <;> rfl
@[simp] theorem State.lpOf_raise (src m : Nat) : (s.raise src).lpOf m = s.lpOf m := by
  unfold State.raise State.setBitOf
  split <;> rfl
@[simp] theorem State.mtrOf_raise (src m : Nat) : (s.raise src).mtrOf m = s.mtrOf m := by
  unfold State.raise State.setBitOf
  split <;> rfl
@[simp] theorem State.plsOf_raise (src m : Nat) : (s.raise src).plsOf m = s.plsOf m := by
  unfold State.raise State.setBitOf
  split <;> rfl
@[simp] theorem State.mbxOf_raise (src m : Nat) : (s.raise src).mbxOf m = s.mbxOf m := by
  unfold State.raise State.setBitOf
  split <;> rfl
@[simp] theorem State.raise_resp (src : Nat) : (s.raise src).resp = s.resp := by
  unfold State.raise State.setBitOf
  split <;> rfl
@[simp] theorem State.raise_tb (src : Nat) : (s.raise src).tb = s.tb := by
  unfold State.raise State.setBitOf
  split <;> rfl
@[simp] theorem State.raise_tbRun (src : Nat) : (s.raise src).tbRun = s.tbRun := by
  unfold State.raise State.setBitOf
  split <;> rfl
@[simp] theorem State.raise_mem (src : Nat) : (s.raise src).mem = s.mem := by
  unfold State.raise State.setBitOf
  split <;> rfl
@[simp] theorem State.raise_jnl (src : Nat) : (s.raise src).jnl = s.jnl := by
  unfold State.raise State.setBitOf
  split <;> rfl
@[simp] theorem State.raise_pow (src : Nat) : (s.raise src).pow = s.pow := by
  unfold State.raise State.setBitOf
  split <;> rfl
@[simp] theorem State.raise_chn (src : Nat) : (s.raise src).chn = s.chn := by
  unfold State.raise State.setBitOf
  split <;> rfl
@[simp] theorem State.raise_img (src : Nat) : (s.raise src).img = s.img := by
  unfold State.raise State.setBitOf
  split <;> rfl
@[simp] theorem State.raise_mode (src : Nat) : (s.raise src).mode = s.mode := by
  unfold State.raise State.setBitOf
  split <;> rfl
@[simp] theorem State.raise_tbs (src : Nat) : (s.raise src).tbs = s.tbs := by
  unfold State.raise State.setBitOf
  split <;> rfl
@[simp] theorem State.raise_twl (src : Nat) : (s.raise src).twl = s.twl := by
  unfold State.raise State.setBitOf
  split <;> rfl
@[simp] theorem State.raise_lsnGrp (src : Nat) : (s.raise src).lsnGrp = s.lsnGrp := by
  unfold State.raise State.setBitOf
  split <;> rfl
@[simp] theorem State.raise_tailing (src : Nat) : (s.raise src).tailing = s.tailing := by
  unfold State.raise State.setBitOf
  split <;> rfl
@[simp] theorem State.raise_jln (src : Nat) : (s.raise src).jln = s.jln := by
  unfold State.raise State.setBitOf
  split <;> rfl
@[simp] theorem State.raise_nave0 (src : Nat) : (s.raise src).nave0 = s.nave0 := by
  unfold State.raise State.setBitOf
  split <;> rfl
@[simp] theorem State.raise_nave1 (src : Nat) : (s.raise src).nave1 = s.nave1 := by
  unfold State.raise State.setBitOf
  split <;> rfl
@[simp] theorem State.raise_irq (src : Nat) : (s.raise src).irq = s.irq := by
  unfold State.raise State.setBitOf
  split <;> rfl
@[simp] theorem State.raise_dbg (src : Nat) : (s.raise src).dbg = s.dbg := by
  unfold State.raise State.setBitOf
  split <;> rfl
@[simp] theorem State.raise_free (src : Nat) : (s.raise src).free = s.free := by
  unfold State.raise State.setBitOf
  split <;> rfl
@[simp] theorem State.raise_pending (src : Nat) : (s.raise src).pending = s.pending := by
  unfold State.raise State.setBitOf
  split <;> rfl

/-! ### Nave cores and memory -/

@[simp] theorem State.core_setCore (c : Nat) (v : Nave) : (s.setCore c v).core c = v := by
  unfold State.core State.setCore
  split <;> simp_all

@[simp] theorem State.core_touch (c t : Nat) : (s.touch t).core c = s.core c := by
  simp [State.core]

@[simp] theorem State.core_set (c : Nat) (f : Fld) (i v : Nat) : (s.set f i v).core c = s.core c := rfl

@[simp] theorem State.setCore_get (c : Nat) (v : Nave) (f : Fld) (i : Nat) : (s.setCore c v).get f i = s.get f i := by
  unfold State.setCore
  split <;> rfl

@[simp] theorem State.byte_touch (t a : Nat) : (s.touch t).byte a = s.byte a := by
  unfold State.byte
  rw [State.touch_mem]

@[simp] theorem State.byte_setByte (a : Nat) (v : Byte) : (s.setByte a v).byte a = v := by
  simp [State.byte, State.setByte]

theorem State.byte_setByte_ne {a b : Nat} (v : Byte) (h : b ≠ a) : (s.setByte a v).byte b = s.byte b :=
  Table.get_set_ne _ _ _ _ h

/-! ### What a kept part gives -/

/-- Everything but some blocks of the register map and the answer of the last access. -/
def Kept.but (l : List Nat) : Kept :=
  { mem := true, cores := true, comp := true, latch := true, resp := false, time := true, blk := fun b => !l.contains b }

theorem State.Keeps.get {k : Kept} {s0 s : State} (h : State.Keeps k s0 s) {f : Fld} (hf : f.Listed)
    (hb : k.blk f.block = true) (i : Nat) : s.get f i = s0.get f i := (h.blk _ hb).1 f i hf rfl

/-- A raised source writes no register outside the interrupt block. -/
theorem State.raise_get (src : Nat) {f : Fld} (hf : f.Listed) (hb : f.block ≠ 18) (i : Nat) :
    (s.raise src).get f i = s.get f i := by
  unfold State.raise State.bump State.setBitOf
  split <;> exact State.get_set_ne _ (by decide) hf _ (fun e => hb (by rw [e.1]; rfl))

end Sys2Proof.Machine
end

