-- ==== Sys2Proof/Laws/Bits.lean ====
section
/-!
SUPPORT. Sys2Proof/Laws/Bits.lean: the bits of a number with one bit set or clear, and the bits of a bit-per-unit field.
-/

set_option Elab.async false

namespace Sys2Proof

theorem add_two_pow_div {n b i : Nat} (h : n.testBit b = false) (hi : b < i) : (n + 2 ^ b) / 2 ^ i = n / 2 ^ i := by
  have e : 2 ^ i = 2 ^ (b + 1) * 2 ^ (i - (b + 1)) := by
    rw [← Nat.pow_add]
    congr 1
    omega
  rw [e, ← Nat.div_div_eq_div_mul, ← Nat.div_div_eq_div_mul]
  congr 1
  have hb : n / 2 ^ b % 2 = 0 := by
    rw [Nat.testBit_eq_decide_div_mod_eq] at h
    have := of_decide_eq_false h
    omega
  rw [Nat.pow_succ, ← Nat.div_div_eq_div_mul, ← Nat.div_div_eq_div_mul, Nat.add_div_right _ (Nat.two_pow_pos b)]
  omega

theorem testBit_add_two_pow {n b : Nat} (h : n.testBit b = false) (i : Nat) :
    (n + 2 ^ b).testBit i = (n.testBit i || decide (i = b)) := by
  rcases Nat.lt_trichotomy i b with hi | rfl | hi
  · rw [Nat.add_comm, Nat.testBit_two_pow_add_gt hi]
    simp [Nat.ne_of_lt hi]
  · rw [Nat.add_comm, Nat.testBit_two_pow_add_eq, h]
    simp
  · rw [Nat.testBit_eq_decide_div_mod_eq, Nat.testBit_eq_decide_div_mod_eq, add_two_pow_div h hi]
    simp [Nat.ne_of_gt hi]

theorem testBit_setBit (n b i : Nat) : (setBit n b).testBit i = (n.testBit i || decide (i = b)) := by
  unfold setBit
  split
  · rename_i h
    by_cases e : i = b
    · rw [e, h]; rfl
    · simp [e]
  · rename_i h
    exact testBit_add_two_pow (by simpa using h) i

theorem testBit_clrBit (n b i : Nat) : (clrBit n b).testBit i = (n.testBit i && !decide (i = b)) := by
  unfold clrBit
  split
  · rename_i h
    have hle : 2 ^ b ≤ n := Nat.ge_two_pow_of_testBit h
    have hn : (n - 2 ^ b).testBit b = false := by
      have := Nat.testBit_two_pow_add_eq (n - 2 ^ b) b
      rw [show 2 ^ b + (n - 2 ^ b) = n by omega, h] at this
      simpa using this.symm
    have := testBit_add_two_pow hn i
    rw [show n - 2 ^ b + 2 ^ b = n by omega] at this
    rw [this]
    by_cases e : i = b
    · subst e; simp [hn]
    · simp [e]
  · rename_i h
    by_cases e : i = b
    · subst e; simp_all
    · simp [e]

theorem setBit_lt {n b w : Nat} (h : n < 2 ^ w) (hb : b < w) : setBit n b < 2 ^ w := by
  apply Nat.lt_pow_two_of_testBit
  intro i hi
  rw [testBit_setBit, Nat.testBit_lt_two_pow (Nat.lt_of_lt_of_le h (Nat.pow_le_pow_right (by omega) hi))]
  simp
  omega

theorem clrBit_lt {n w : Nat} (b : Nat) (h : n < 2 ^ w) : clrBit n b < 2 ^ w := by
  unfold clrBit
  split
  · exact Nat.lt_of_le_of_lt (Nat.sub_le _ _) h
  · exact h

end Sys2Proof

namespace Sys2Proof.Machine

variable (s : State)

/-- A bit of a bit-per-unit field after a bit of it is set or cleared. -/
theorem State.bitOf_setBitOf {f : Fld} (w : s.get f i < 2 ^ f.width) {b : Nat} (hb : b < f.width) (on : Bool) (c : Nat) :
    (s.setBitOf f i b on).bitOf f i c = if c = b then on else s.bitOf f i c := by
  unfold State.bitOf State.setBitOf
  cases on
  · rw [if_neg (by simp), State.get_set_lt s (clrBit_lt b w), testBit_clrBit]
    by_cases e : c = b <;> simp [e]
  · rw [if_pos rfl, State.get_set_lt s (setBit_lt w hb), testBit_setBit]
    by_cases e : c = b <;> simp [e]

theorem State.bitOf_setBitOf_ne {f g : Fld} (hf : f.Listed) (hg : g.Listed) {i j : Nat} (h : ¬(g = f ∧ j = i))
    (b : Nat) (on : Bool) (c : Nat) : (s.setBitOf f i b on).bitOf g j c = s.bitOf g j c := by
  unfold State.bitOf State.setBitOf
  rw [State.get_set_ne s hf hg _ h]

end Sys2Proof.Machine
end

