-- ==== Sys2Proof/Laws/Keeps/Ops.lean ====
section
/-!
SUPPORT. Sys2Proof/Laws/Keeps/Ops.lean: what each operation of Machine/Ops.lean keeps.
-/

set_option Elab.async false

namespace Sys2Proof.Machine

set_option linter.tactic.unusedName false

variable {k : Kept} {s0 : State}

theorem State.setFlag_keeps {s : State} (h : State.Keeps k s0 s) (a1 : Fld) (a2 : Nat) (a3 : Bool) (l1 : a1.Listed) (m1 : k.blk a1.block = false) :
    State.Keeps k s0 (State.setFlag s a1 a2 a3) := by
  unfold State.setFlag
  repeat' first
    | with_reducible assumption
    | with_reducible apply State.set_keeps

theorem State.bump_keeps {s : State} (h : State.Keeps k s0 s) (a1 : Fld) (a2 : Nat) (l1 : a1.Listed) (m1 : k.blk a1.block = false) :
    State.Keeps k s0 (State.bump s a1 a2) := by
  unfold State.bump
  repeat' first
    | with_reducible assumption
    | with_reducible apply State.set_keeps

theorem State.inc_keeps {s : State} (h : State.Keeps k s0 s) (a1 : Fld) (a2 : Nat) (l1 : a1.Listed) (m1 : k.blk a1.block = false) :
    State.Keeps k s0 (State.inc s a1 a2) := by
  unfold State.inc
  repeat' first
    | with_reducible assumption
    | with_reducible apply State.set_keeps

theorem State.set64_keeps {s : State} (h : State.Keeps k s0 s) (a1 : Fld) (a2 : Fld) (a3 : Nat) (a4 : Nat) (l1 : a1.Listed) (m1 : k.blk a1.block = false) (l2 : a2.Listed) (m2 : k.blk a2.block = false) :
    State.Keeps k s0 (State.set64 s a1 a2 a3 a4) := by
  unfold State.set64
  repeat' first
    | with_reducible assumption
    | with_reducible apply State.set_keeps

theorem State.setBitOf_keeps {s : State} (h : State.Keeps k s0 s) (a1 : Fld) (a2 : Nat) (a3 : Nat) (a4 : Bool) (l1 : a1.Listed) (m1 : k.blk a1.block = false) :
    State.Keeps k s0 (State.setBitOf s a1 a2 a3 a4) := by
  unfold State.setBitOf
  repeat' first
    | with_reducible assumption
    | with_reducible apply State.set_keeps

theorem State.setReg_keeps {s : State} (h : State.Keeps k s0 s) (a1 : Reg) (a2 a3 : Nat)
    (m1 : k.blk (a1.info.base / 65536 % 64) = false) :
    State.Keeps k s0 (State.setReg s a1 a2 a3) := by
  unfold State.setReg
  exact Keeps.foldl_mem (fun x f hf hx => State.set_keeps hx f a2 _ (Fld.listed_of_mem hf) (by rw [Fld.block_of_mem hf]; exact m1)) h

theorem State.setConv_keeps {s : State} (b5 : k.blk 5 = false) (h : State.Keeps k s0 s) (a1 : Nat) (a2 : Conv) :
    State.Keeps k s0 (State.setConv s a1 a2) := by
  unfold State.setConv
  repeat' first
    | (with_reducible refine Keeps.upd (h := ?_); first | with_reducible assumption | with_reducible refine Keeps.ite (P := State.Keeps _ _) ?_ ?_ | with_reducible refine Keeps.foldl (fun _ _ _ => ?_) ?_)

theorem State.setLoc_keeps {s : State} (b5 : k.blk 5 = false) (h : State.Keeps k s0 s) (a1 : Nat) (a2 : Loc) :
    State.Keeps k s0 (State.setLoc s a1 a2) := by
  unfold State.setLoc
  repeat' first
    | (with_reducible refine Keeps.upd (h := ?_); first | with_reducible assumption | with_reducible refine Keeps.ite (P := State.Keeps _ _) ?_ ?_ | with_reducible refine Keeps.foldl (fun _ _ _ => ?_) ?_)

theorem State.setTrip_keeps {s : State} (b5 : k.blk 5 = false) (h : State.Keeps k s0 s) (a1 : Nat) (a2 : Trip) :
    State.Keeps k s0 (State.setTrip s a1 a2) := by
  unfold State.setTrip
  repeat' first
    | (with_reducible refine Keeps.upd (h := ?_); first | with_reducible assumption | with_reducible refine Keeps.ite (P := State.Keeps _ _) ?_ ?_ | with_reducible refine Keeps.foldl (fun _ _ _ => ?_) ?_)

theorem State.setTrk_keeps {s : State} (b3 : k.blk 3 = false) (h : State.Keeps k s0 s) (a1 : Nat) (a2 : Trk) :
    State.Keeps k s0 (State.setTrk s a1 a2) := by
  unfold State.setTrk
  repeat' first
    | (with_reducible refine Keeps.upd (h := ?_); first | with_reducible assumption | with_reducible refine Keeps.ite (P := State.Keeps _ _) ?_ ?_ | with_reducible refine Keeps.foldl (fun _ _ _ => ?_) ?_)

theorem State.setQry_keeps {s : State} (b3 : k.blk 3 = false) (h : State.Keeps k s0 s) (a1 : Nat) (a2 : Qry) :
    State.Keeps k s0 (State.setQry s a1 a2) := by
  unfold State.setQry
  repeat' first
    | (with_reducible refine Keeps.upd (h := ?_); first | with_reducible assumption | with_reducible refine Keeps.ite (P := State.Keeps _ _) ?_ ?_ | with_reducible refine Keeps.foldl (fun _ _ _ => ?_) ?_)

theorem State.setSlot_keeps {s : State} (b4 : k.blk 4 = false) (h : State.Keeps k s0 s) (a1 : Nat) (a2 : Slot) :
    State.Keeps k s0 (State.setSlot s a1 a2) := by
  unfold State.setSlot
  repeat' first
    | (with_reducible refine Keeps.upd (h := ?_); first | with_reducible assumption | with_reducible refine Keeps.ite (P := State.Keeps _ _) ?_ ?_ | with_reducible refine Keeps.foldl (fun _ _ _ => ?_) ?_)

theorem State.setBus_keeps {s : State} (b6 : k.blk 6 = false) (h : State.Keeps k s0 s) (a1 : Nat) (a2 : Bus) :
    State.Keeps k s0 (State.setBus s a1 a2) := by
  unfold State.setBus
  repeat' first
    | (with_reducible refine Keeps.upd (h := ?_); first | with_reducible assumption | with_reducible refine Keeps.ite (P := State.Keeps _ _) ?_ ?_ | with_reducible refine Keeps.foldl (fun _ _ _ => ?_) ?_)

theorem State.setDrop_keeps {s : State} (b6 : k.blk 6 = false) (h : State.Keeps k s0 s) (a1 : Nat) (a2 : Drop) :
    State.Keeps k s0 (State.setDrop s a1 a2) := by
  unfold State.setDrop
  repeat' first
    | (with_reducible refine Keeps.upd (h := ?_); first | with_reducible assumption | with_reducible refine Keeps.ite (P := State.Keeps _ _) ?_ ?_ | with_reducible refine Keeps.foldl (fun _ _ _ => ?_) ?_)

theorem State.setComp_keeps {s : State} (hcomp : k.comp = false) (h : State.Keeps k s0 s) (a1 : Nat) (a2 : Comp) :
    State.Keeps k s0 (State.setComp s a1 a2) := by
  unfold State.setComp
  repeat' first
    | (with_reducible refine Keeps.upd (h := ?_); first | with_reducible assumption | with_reducible refine Keeps.ite (P := State.Keeps _ _) ?_ ?_ | with_reducible refine Keeps.foldl (fun _ _ _ => ?_) ?_)

theorem State.setBrk_keeps {s : State} (b5 : k.blk 5 = false) (h : State.Keeps k s0 s) (a1 : Nat) (a2 : Brk) :
    State.Keeps k s0 (State.setBrk s a1 a2) := by
  unfold State.setBrk
  repeat' first
    | (with_reducible refine Keeps.upd (h := ?_); first | with_reducible assumption | with_reducible refine Keeps.ite (P := State.Keeps _ _) ?_ ?_ | with_reducible refine Keeps.foldl (fun _ _ _ => ?_) ?_)

theorem State.setGrd_keeps {s : State} (b12 : k.blk 12 = false) (h : State.Keeps k s0 s) (a1 : Nat) (a2 : Grd) :
    State.Keeps k s0 (State.setGrd s a1 a2) := by
  unfold State.setGrd
  repeat' first
    | (with_reducible refine Keeps.upd (h := ?_); first | with_reducible assumption | with_reducible refine Keeps.ite (P := State.Keeps _ _) ?_ ?_ | with_reducible refine Keeps.foldl (fun _ _ _ => ?_) ?_)

theorem State.setMppt_keeps {s : State} (b12 : k.blk 12 = false) (h : State.Keeps k s0 s) (a1 : Nat) (a2 : Mppt) :
    State.Keeps k s0 (State.setMppt s a1 a2) := by
  unfold State.setMppt
  repeat' first
    | (with_reducible refine Keeps.upd (h := ?_); first | with_reducible assumption | with_reducible refine Keeps.ite (P := State.Keeps _ _) ?_ ?_ | with_reducible refine Keeps.foldl (fun _ _ _ => ?_) ?_)

theorem State.setAxs_keeps {s : State} (b13 : k.blk 13 = false) (h : State.Keeps k s0 s) (a1 : Nat) (a2 : Axs) :
    State.Keeps k s0 (State.setAxs s a1 a2) := by
  unfold State.setAxs
  repeat' first
    | (with_reducible refine Keeps.upd (h := ?_); first | with_reducible assumption | with_reducible refine Keeps.ite (P := State.Keeps _ _) ?_ ?_ | with_reducible refine Keeps.foldl (fun _ _ _ => ?_) ?_)

theorem State.setAdc_keeps {s : State} (b9 : k.blk 9 = false) (h : State.Keeps k s0 s) (a1 : Nat) (a2 : Adc) :
    State.Keeps k s0 (State.setAdc s a1 a2) := by
  unfold State.setAdc
  repeat' first
    | (with_reducible refine Keeps.upd (h := ?_); first | with_reducible assumption | with_reducible refine Keeps.ite (P := State.Keeps _ _) ?_ ?_ | with_reducible refine Keeps.foldl (fun _ _ _ => ?_) ?_)

theorem State.setLsn_keeps {s : State} (b10 : k.blk 10 = false) (h : State.Keeps k s0 s) (a1 : Nat) (a2 : Lsn) :
    State.Keeps k s0 (State.setLsn s a1 a2) := by
  unfold State.setLsn
  repeat' first
    | (with_reducible refine Keeps.upd (h := ?_); first | with_reducible assumption | with_reducible refine Keeps.ite (P := State.Keeps _ _) ?_ ?_ | with_reducible refine Keeps.foldl (fun _ _ _ => ?_) ?_)

theorem State.setCmp_keeps {s : State} (b11 : k.blk 11 = false) (h : State.Keeps k s0 s) (a1 : Nat) (a2 : Cmp) :
    State.Keeps k s0 (State.setCmp s a1 a2) := by
  unfold State.setCmp
  repeat' first
    | (with_reducible refine Keeps.upd (h := ?_); first | with_reducible assumption | with_reducible refine Keeps.ite (P := State.Keeps _ _) ?_ ?_ | with_reducible refine Keeps.foldl (fun _ _ _ => ?_) ?_)

theorem State.setAux_keeps {s : State} (b14 : k.blk 14 = false) (h : State.Keeps k s0 s) (a1 : Nat) (a2 : Aux) :
    State.Keeps k s0 (State.setAux s a1 a2) := by
  unfold State.setAux
  repeat' first
    | (with_reducible refine Keeps.upd (h := ?_); first | with_reducible assumption | with_reducible refine Keeps.ite (P := State.Keeps _ _) ?_ ?_ | with_reducible refine Keeps.foldl (fun _ _ _ => ?_) ?_)

theorem State.setFan_keeps {s : State} (b15 : k.blk 15 = false) (h : State.Keeps k s0 s) (a1 : Nat) (a2 : Fan) :
    State.Keeps k s0 (State.setFan s a1 a2) := by
  unfold State.setFan
  repeat' first
    | (with_reducible refine Keeps.upd (h := ?_); first | with_reducible assumption | with_reducible refine Keeps.ite (P := State.Keeps _ _) ?_ ?_ | with_reducible refine Keeps.foldl (fun _ _ _ => ?_) ?_)

theorem State.setLp_keeps {s : State} (b15 : k.blk 15 = false) (h : State.Keeps k s0 s) (a1 : Nat) (a2 : Lp) :
    State.Keeps k s0 (State.setLp s a1 a2) := by
  unfold State.setLp
  repeat' first
    | (with_reducible refine Keeps.upd (h := ?_); first | with_reducible assumption | with_reducible refine Keeps.ite (P := State.Keeps _ _) ?_ ?_ | with_reducible refine Keeps.foldl (fun _ _ _ => ?_) ?_)

theorem State.setMtr_keeps {s : State} (b16 : k.blk 16 = false) (h : State.Keeps k s0 s) (a1 : Nat) (a2 : Mtr) :
    State.Keeps k s0 (State.setMtr s a1 a2) := by
  unfold State.setMtr
  repeat' first
    | (with_reducible refine Keeps.upd (h := ?_); first | with_reducible assumption | with_reducible refine Keeps.ite (P := State.Keeps _ _) ?_ ?_ | with_reducible refine Keeps.foldl (fun _ _ _ => ?_) ?_)

theorem State.setPls_keeps {s : State} (b16 : k.blk 16 = false) (h : State.Keeps k s0 s) (a1 : Nat) (a2 : Pls) :
    State.Keeps k s0 (State.setPls s a1 a2) := by
  unfold State.setPls
  repeat' first
    | (with_reducible refine Keeps.upd (h := ?_); first | with_reducible assumption | with_reducible refine Keeps.ite (P := State.Keeps _ _) ?_ ?_ | with_reducible refine Keeps.foldl (fun _ _ _ => ?_) ?_)

theorem State.setMbx_keeps {s : State} (b19 : k.blk 19 = false) (h : State.Keeps k s0 s) (a1 : Nat) (a2 : Mbx) :
    State.Keeps k s0 (State.setMbx s a1 a2) := by
  unfold State.setMbx
  repeat' first
    | (with_reducible refine Keeps.upd (h := ?_); first | with_reducible assumption | with_reducible refine Keeps.ite (P := State.Keeps _ _) ?_ ?_ | with_reducible refine Keeps.foldl (fun _ _ _ => ?_) ?_)

theorem State.setCore_keeps {s : State} (hcores : k.cores = false) (h : State.Keeps k s0 s) (a1 : Nat) (a2 : Nave) :
    State.Keeps k s0 (State.setCore s a1 a2) := by
  unfold State.setCore
  repeat' first
    | with_reducible refine Keeps.ite (P := State.Keeps _ _) ?_ ?_
    | (with_reducible refine Keeps.upd (h := ?_); first | with_reducible assumption | with_reducible refine Keeps.ite (P := State.Keeps _ _) ?_ ?_ | with_reducible refine Keeps.foldl (fun _ _ _ => ?_) ?_)

theorem State.nextFree_keeps {s : State} (h : State.Keeps k s0 s) :
    State.Keeps k s0 (State.nextFree s) := by
  unfold State.nextFree
  repeat' first
    | (with_reducible refine Keeps.upd (h := ?_); first | with_reducible assumption | with_reducible refine Keeps.ite (P := State.Keeps _ _) ?_ ?_ | with_reducible refine Keeps.foldl (fun _ _ _ => ?_) ?_)

theorem State.raise_keeps {s : State} (b18 : k.blk 18 = false) (h : State.Keeps k s0 s) (a1 : Nat) :
    State.Keeps k s0 (State.raise s a1) := by
  unfold State.raise
  repeat' first
    | with_reducible assumption
    | (with_reducible show Fld.Listed _; decide)
    | (show Kept.blk _ _ = false; first | exact b18)
    | with_reducible refine Keeps.ite (P := State.Keeps _ _) ?_ ?_
    | with_reducible apply State.bump_keeps
    | with_reducible apply State.setBitOf_keeps

theorem State.event_keeps {s : State} (b18 : k.blk 18 = false) (h : State.Keeps k s0 s) (a1 : Fld) (a2 : Nat) (a3 : Nat) (l1 : a1.Listed) (m1 : k.blk a1.block = false) :
    State.Keeps k s0 (State.event s a1 a2 a3) := by
  unfold State.event
  repeat' first
    | with_reducible assumption
    | with_reducible apply State.set_keeps
    | with_reducible apply State.raise_keeps

theorem State.ok_keeps {s : State} (hresp : k.resp = false) (h : State.Keeps k s0 s) :
    State.Keeps k s0 (State.ok s) := by
  unfold State.ok
  repeat' first
    | (with_reducible refine Keeps.upd (h := ?_); first | with_reducible assumption | with_reducible refine Keeps.ite (P := State.Keeps _ _) ?_ ?_ | with_reducible refine Keeps.foldl (fun _ _ _ => ?_) ?_)

theorem State.answer_keeps {s : State} (hresp : k.resp = false) (h : State.Keeps k s0 s) (a1 : Nat) :
    State.Keeps k s0 (State.answer s a1) := by
  unfold State.answer
  repeat' first
    | (with_reducible refine Keeps.upd (h := ?_); first | with_reducible assumption | with_reducible refine Keeps.ite (P := State.Keeps _ _) ?_ ?_ | with_reducible refine Keeps.foldl (fun _ _ _ => ?_) ?_)

theorem State.busErr_keeps {s : State} (hresp : k.resp = false) (h : State.Keeps k s0 s) :
    State.Keeps k s0 (State.busErr s) := by
  unfold State.busErr
  repeat' first
    | (with_reducible refine Keeps.upd (h := ?_); first | with_reducible assumption | with_reducible refine Keeps.ite (P := State.Keeps _ _) ?_ ?_ | with_reducible refine Keeps.foldl (fun _ _ _ => ?_) ?_)

theorem State.stall_keeps {s : State} (hresp : k.resp = false) (h : State.Keeps k s0 s) :
    State.Keeps k s0 (State.stall s) := by
  unfold State.stall
  repeat' first
    | (with_reducible refine Keeps.upd (h := ?_); first | with_reducible assumption | with_reducible refine Keeps.ite (P := State.Keeps _ _) ?_ ?_ | with_reducible refine Keeps.foldl (fun _ _ _ => ?_) ?_)

theorem State.setLatch_keeps {s : State} (hlatch : k.latch = false) (h : State.Keeps k s0 s) (a1 : Master) (a2 : Reg) (a3 : Nat) (a4 : Nat) :
    State.Keeps k s0 (State.setLatch s a1 a2 a3 a4) := by
  unfold State.setLatch
  repeat' first
    | (with_reducible refine Keeps.upd (h := ?_); first | with_reducible assumption | with_reducible refine Keeps.ite (P := State.Keeps _ _) ?_ ?_ | with_reducible refine Keeps.foldl (fun _ _ _ => ?_) ?_)

theorem State.startStep_keeps {s : State} (b0 : k.blk 0 = false) (h : State.Keeps k s0 s) (a1 : Nat) :
    State.Keeps k s0 (State.startStep s a1) := by
  unfold State.startStep
  repeat' first
    | with_reducible assumption
    | (with_reducible show Fld.Listed _; decide)
    | (show Kept.blk _ _ = false; first | exact b0)
    | with_reducible apply State.set_keeps

end Sys2Proof.Machine
end

