-- ==== Sys2Proof/Laws/Keeps/EdgeBase.lean ====
section
/-!
SUPPORT. Sys2Proof/Laws/Keeps/EdgeBase.lean: what each operation of Machine/EdgeBase.lean keeps.
-/

set_option Elab.async false

namespace Sys2Proof.Machine

set_option linter.tactic.unusedName false

variable {k : Kept} {s0 : State}

theorem State.drivePin_keeps {s : State} (b18 : k.blk 18 = false) (h : State.Keeps k s0 s) (a1 : Nat) (a2 : Bool) :
    State.Keeps k s0 (State.drivePin s a1 a2) := by
  unfold State.drivePin
  repeat' first
    | (extract_lets -underBinder +onlyGivenNames x; unfold x; clear x)
    | (with_reducible refine Keeps.upd (h := ?_); first | with_reducible assumption | with_reducible refine Keeps.ite (P := State.Keeps _ _) ?_ ?_ | with_reducible refine Keeps.foldl (fun _ _ _ => ?_) ?_)

theorem State.sendSafe_keeps {s : State} (b6 : k.blk 6 = false) (h : State.Keeps k s0 s) (a1 : List Nat) (a2 : Nat) :
    State.Keeps k s0 (State.sendSafe s a1 a2) := by
  unfold State.sendSafe
  repeat' first
    | with_reducible assumption
    | with_reducible refine Keeps.ite (P := State.Keeps _ _) ?_ ?_
    | with_reducible refine Keeps.foldl (fun _ _ _ => ?_) ?_
    | with_reducible apply State.setBus_keeps

theorem State.mgmt_keeps {s : State} (b6 : k.blk 6 = false) (h : State.Keeps k s0 s) (a1 : Nat) (a2 : Bool) (a3 : MgmtTarget) (a4 : Nat) :
    State.Keeps k s0 (State.mgmt s a1 a2 a3 a4) := by
  unfold State.mgmt
  repeat' first
    | with_reducible assumption
    | (extract_lets -underBinder +onlyGivenNames x; unfold x; clear x)
    | with_reducible apply State.setBus_keeps

theorem State.sendClear_keeps {s : State} (b6 : k.blk 6 = false) (h : State.Keeps k s0 s) (a1 : Nat) :
    State.Keeps k s0 (State.sendClear s a1) := by
  unfold State.sendClear
  repeat' first
    | with_reducible assumption
    | with_reducible apply State.mgmt_keeps

theorem State.clearLegs_keeps {s : State} (b6 : k.blk 6 = false) (h : State.Keeps k s0 s) (a1 : Nat) :
    State.Keeps k s0 (State.clearLegs s a1) := by
  unfold State.clearLegs
  repeat' first
    | with_reducible assumption
    | with_reducible refine Keeps.foldl (fun _ _ _ => ?_) ?_
    | with_reducible apply State.sendClear_keeps

theorem State.noteOrphan_keeps {s : State} (b5 : k.blk 5 = false) (h : State.Keeps k s0 s) (a1 : Nat) :
    State.Keeps k s0 (State.noteOrphan s a1) := by
  unfold State.noteOrphan
  repeat' first
    | with_reducible assumption
    | (with_reducible show Fld.Listed _; decide)
    | (show Kept.blk _ _ = false; first | exact b5)
    | with_reducible refine Keeps.ite (P := State.Keeps _ _) ?_ ?_
    | with_reducible apply State.setFlag_keeps

theorem State.cnvGo_keeps {s : State} (b5 : k.blk 5 = false) (h : State.Keeps k s0 s) (a1 : Nat) (a2 : Nat) :
    State.Keeps k s0 (State.cnvGo s a1 a2) := by
  unfold State.cnvGo
  repeat' first
    | with_reducible assumption
    | (with_reducible show Fld.Listed _; decide)
    | (show Kept.blk _ _ = false; first | exact b5)
    | with_reducible refine Keeps.ite (P := State.Keeps _ _) ?_ ?_
    | (extract_lets -underBinder +onlyGivenNames x; refine Keeps.cut (k := k) (s0 := s0) (x := x) ?_ ?_ <;> first | (intro _; revert x; intro _ _) | (unfold x; clear x))
    | (extract_lets -underBinder +onlyGivenNames x; unfold x; clear x)
    | with_reducible refine Keeps.foldl (fun _ _ _ => ?_) ?_
    | with_reducible apply State.set_keeps
    | with_reducible apply State.noteOrphan_keeps

theorem State.convSafe_keeps {s : State} (b5 : k.blk 5 = false) (b6 : k.blk 6 = false) (h : State.Keeps k s0 s) (a1 : Nat) (a2 : Nat) :
    State.Keeps k s0 (State.convSafe s a1 a2) := by
  unfold State.convSafe
  repeat' first
    | with_reducible assumption
    | (with_reducible show Fld.Listed _; decide)
    | (show Kept.blk _ _ = false; first | exact b5 | exact b6)
    | (extract_lets -underBinder +onlyGivenNames x; refine Keeps.cut (k := k) (s0 := s0) (x := x) ?_ ?_ <;> first | (intro _; revert x; intro _ _) | (unfold x; clear x))
    | (extract_lets -underBinder +onlyGivenNames x; unfold x; clear x)
    | with_reducible apply State.sendSafe_keeps
    | with_reducible apply State.setConv_keeps
    | with_reducible apply State.cnvGo_keeps
    | with_reducible apply State.set_keeps

theorem State.convHold_keeps {s : State} (b5 : k.blk 5 = false) (b6 : k.blk 6 = false) (h : State.Keeps k s0 s) (a1 : Nat) :
    State.Keeps k s0 (State.convHold s a1) := by
  unfold State.convHold
  repeat' first
    | with_reducible assumption
    | with_reducible apply State.convSafe_keeps

theorem State.rampStart_keeps {s : State} (b11 : k.blk 11 = false) (h : State.Keeps k s0 s) (a1 : Nat) (a2 : Nat) :
    State.Keeps k s0 (State.rampStart s a1 a2) := by
  unfold State.rampStart
  repeat' first
    | with_reducible assumption
    | (with_reducible show Fld.Listed _; decide)
    | (show Kept.blk _ _ = false; first | exact b11)
    | with_reducible refine Keeps.ite (P := State.Keeps _ _) ?_ ?_
    | (extract_lets -underBinder +onlyGivenNames x; unfold x; clear x)
    | with_reducible apply State.set_keeps
    | with_reducible apply State.setCmp_keeps

theorem State.rampEnd_keeps {s : State} (b11 : k.blk 11 = false) (h : State.Keeps k s0 s) (a1 : Nat) :
    State.Keeps k s0 (State.rampEnd s a1) := by
  unfold State.rampEnd
  repeat' first
    | with_reducible assumption
    | (with_reducible show Fld.Listed _; decide)
    | (show Kept.blk _ _ = false; first | exact b11)
    | (extract_lets -underBinder +onlyGivenNames x; unfold x; clear x)
    | with_reducible apply State.set_keeps
    | with_reducible apply State.setCmp_keeps

theorem State.rampsStart_keeps {s : State} (b11 : k.blk 11 = false) (h : State.Keeps k s0 s) (a1 : Nat) (a2 : Nat) :
    State.Keeps k s0 (State.rampsStart s a1 a2) := by
  unfold State.rampsStart
  repeat' first
    | with_reducible assumption
    | (show Kept.blk _ _ = false; first | exact b11)
    | with_reducible refine Keeps.foldl (fun _ _ _ => ?_) ?_
    | with_reducible apply State.rampStart_keeps

theorem State.rampsEnd_keeps {s : State} (b11 : k.blk 11 = false) (h : State.Keeps k s0 s) (a1 : Nat) :
    State.Keeps k s0 (State.rampsEnd s a1) := by
  unfold State.rampsEnd
  repeat' first
    | with_reducible assumption
    | (show Kept.blk _ _ = false; first | exact b11)
    | with_reducible refine Keeps.foldl (fun _ _ _ => ?_) ?_
    | with_reducible apply State.rampEnd_keeps

theorem State.locSafe_keeps {s : State} (b5 : k.blk 5 = false) (b11 : k.blk 11 = false) (h : State.Keeps k s0 s) (a1 : Nat) (a2 : Nat) :
    State.Keeps k s0 (State.locSafe s a1 a2) := by
  unfold State.locSafe
  repeat' first
    | with_reducible assumption
    | (show Kept.blk _ _ = false; first | exact b5 | exact b11)
    | with_reducible refine Keeps.ite (P := State.Keeps _ _) ?_ ?_
    | (extract_lets -underBinder +onlyGivenNames x; refine Keeps.cut (k := k) (s0 := s0) (x := x) ?_ ?_ <;> first | (intro _; revert x; intro _ _) | (unfold x; clear x))
    | (extract_lets -underBinder +onlyGivenNames x; unfold x; clear x)
    | with_reducible apply State.rampsEnd_keeps
    | with_reducible apply State.setLoc_keeps

theorem State.holdAll_keeps {s : State} (b5 : k.blk 5 = false) (b6 : k.blk 6 = false) (b11 : k.blk 11 = false) (h : State.Keeps k s0 s) (a1 : Nat → Bool) (a2 : Nat → Bool) :
    State.Keeps k s0 (State.holdAll s a1 a2) := by
  unfold State.holdAll
  repeat' first
    | with_reducible assumption
    | (extract_lets -underBinder +onlyGivenNames x; refine Keeps.cut (k := k) (s0 := s0) (x := x) ?_ ?_ <;> first | (intro _; revert x; intro _ _) | (unfold x; clear x))
    | with_reducible refine Keeps.foldl (fun _ _ _ => ?_) ?_
    | with_reducible apply State.convHold_keeps
    | with_reducible apply State.locSafe_keeps

theorem State.convDisable_keeps {s : State} (b5 : k.blk 5 = false) (b6 : k.blk 6 = false) (h : State.Keeps k s0 s) (a1 : Nat) :
    State.Keeps k s0 (State.convDisable s a1) := by
  unfold State.convDisable
  repeat' first
    | with_reducible assumption
    | (show Kept.blk _ _ = false; first | exact b5 | exact b6)
    | with_reducible refine Keeps.ite (P := State.Keeps _ _) ?_ ?_
    | (extract_lets -underBinder +onlyGivenNames x; refine Keeps.cut (k := k) (s0 := s0) (x := x) ?_ ?_ <;> first | (intro _; revert x; intro _ _) | (unfold x; clear x))
    | (extract_lets -underBinder +onlyGivenNames x; unfold x; clear x)
    | with_reducible apply State.setConv_keeps
    | with_reducible apply State.sendSafe_keeps
    | with_reducible apply State.cnvGo_keeps

theorem State.convDisableNow_keeps {s : State} (b5 : k.blk 5 = false) (b6 : k.blk 6 = false) (h : State.Keeps k s0 s) (a1 : Nat) :
    State.Keeps k s0 (State.convDisableNow s a1) := by
  unfold State.convDisableNow
  repeat' first
    | with_reducible assumption
    | with_reducible refine Keeps.ite (P := State.Keeps _ _) ?_ ?_
    | (extract_lets -underBinder +onlyGivenNames x; refine Keeps.cut (k := k) (s0 := s0) (x := x) ?_ ?_ <;> first | (intro _; revert x; intro _ _) | (unfold x; clear x))
    | (extract_lets -underBinder +onlyGivenNames x; unfold x; clear x)
    | with_reducible apply State.setConv_keeps
    | with_reducible apply State.convSafe_keeps

theorem State.convEnable_keeps {s : State} (b5 : k.blk 5 = false) (b6 : k.blk 6 = false) (h : State.Keeps k s0 s) (a1 : Nat) :
    State.Keeps k s0 (State.convEnable s a1) := by
  unfold State.convEnable
  repeat' first
    | with_reducible assumption
    | (show Kept.blk _ _ = false; first | exact b5 | exact b6)
    | with_reducible refine Keeps.ite (P := State.Keeps _ _) ?_ ?_
    | (extract_lets -underBinder +onlyGivenNames x; unfold x; clear x)
    | with_reducible apply State.setConv_keeps
    | with_reducible apply State.clearLegs_keeps
    | with_reducible apply State.cnvGo_keeps

theorem State.convReleased_keeps {s : State} (b5 : k.blk 5 = false) (h : State.Keeps k s0 s) (a1 : Nat) :
    State.Keeps k s0 (State.convReleased s a1) := by
  unfold State.convReleased
  repeat' first
    | with_reducible assumption
    | (show Kept.blk _ _ = false; first | exact b5)
    | with_reducible refine Keeps.ite (P := State.Keeps _ _) ?_ ?_
    | with_reducible apply State.cnvGo_keeps

theorem State.locDisable_keeps {s : State} (b5 : k.blk 5 = false) (h : State.Keeps k s0 s) (a1 : Nat) :
    State.Keeps k s0 (State.locDisable s a1) := by
  unfold State.locDisable
  repeat' first
    | with_reducible assumption
    | (show Kept.blk _ _ = false; first | exact b5)
    | with_reducible refine Keeps.ite (P := State.Keeps _ _) ?_ ?_
    | (extract_lets -underBinder +onlyGivenNames x; unfold x; clear x)
    | with_reducible apply State.setLoc_keeps

theorem State.locDisableNow_keeps {s : State} (b5 : k.blk 5 = false) (b11 : k.blk 11 = false) (h : State.Keeps k s0 s) (a1 : Nat) :
    State.Keeps k s0 (State.locDisableNow s a1) := by
  unfold State.locDisableNow
  repeat' first
    | with_reducible assumption
    | with_reducible refine Keeps.ite (P := State.Keeps _ _) ?_ ?_
    | (extract_lets -underBinder +onlyGivenNames x; refine Keeps.cut (k := k) (s0 := s0) (x := x) ?_ ?_ <;> first | (intro _; revert x; intro _ _) | (unfold x; clear x))
    | (extract_lets -underBinder +onlyGivenNames x; unfold x; clear x)
    | with_reducible apply State.setLoc_keeps
    | with_reducible apply State.locSafe_keeps

theorem State.locEnable_keeps {s : State} (b5 : k.blk 5 = false) (h : State.Keeps k s0 s) (a1 : Nat) :
    State.Keeps k s0 (State.locEnable s a1) := by
  unfold State.locEnable
  repeat' first
    | with_reducible assumption
    | (show Kept.blk _ _ = false; first | exact b5)
    | with_reducible refine Keeps.ite (P := State.Keeps _ _) ?_ ?_
    | (extract_lets -underBinder +onlyGivenNames x; unfold x; clear x)
    | with_reducible apply State.setLoc_keeps

theorem State.locReleased_keeps {s : State} (b5 : k.blk 5 = false) (h : State.Keeps k s0 s) (a1 : Nat) :
    State.Keeps k s0 (State.locReleased s a1) := by
  unfold State.locReleased
  repeat' first
    | with_reducible assumption
    | with_reducible refine Keeps.ite (P := State.Keeps _ _) ?_ ?_
    | with_reducible apply State.setLoc_keeps

end Sys2Proof.Machine
end

