-- ==== Sys2Proof/Laws/Keeps/Companion.lean ====
section
/-!
SUPPORT. Sys2Proof/Laws/Keeps/Companion.lean: what each operation of Machine/Companion.lean keeps.
-/

set_option Elab.async false

namespace Sys2Proof.Machine

set_option linter.tactic.unusedName false

variable {k : Kept} {s0 : State}

theorem State.compMgmt_keeps {s : State} (hcomp : k.comp = false) (h : State.Keeps k s0 s) (a1 : Nat) (a2 : Nat) (a3 : Nat) (a4 : Bool) (a5 : MgmtTarget) (a6 : Nat) :
    State.Keeps k s0 (State.compMgmt s a1 a2 a3 a4 a5 a6) := by
  unfold State.compMgmt
  repeat' first
    | with_reducible assumption
    | with_reducible refine Keeps.ite (P := State.Keeps _ _) ?_ ?_
    | (extract_lets -underBinder +onlyGivenNames x; unfold x; clear x)
    | with_reducible apply State.setComp_keeps
    | split

theorem State.blocks_keeps {s : State} (hcomp : k.comp = false) (h : State.Keeps k s0 s) (a0 a1 a2 : Nat)
    (a3 : List Bool) : State.Keeps k s0 (State.blocks a0 a1 a2 a3 s) := by
  induction a2 generalizing s a3 with
  | zero => exact h
  | succ n ih =>
    unfold State.blocks
    simp only
    split
    · exact h
    · exact ih (State.setComp_keeps hcomp h _ _) _
    · exact ih (Keeps.ite (P := State.Keeps _ _) (State.setComp_keeps hcomp h _ _) h) _
    · refine ih ?_ _
      split
      · exact h
      · exact State.setComp_keeps hcomp h _ _
    · exact ih (Keeps.ite (P := State.Keeps _ _) (State.compMgmt_keeps hcomp h _ _ _ _ _ _) h) _
    · exact State.setComp_keeps hcomp h _ _

theorem State.downRx_keeps {s : State} (hcomp : k.comp = false) (h : State.Keeps k s0 s) (a1 : Nat) (a2 : Nat) (a3 : List Bool) :
    State.Keeps k s0 (State.downRx s a1 a2 a3) := by
  unfold State.downRx
  repeat' first
    | with_reducible assumption
    | with_reducible refine Keeps.ite (P := State.Keeps _ _) ?_ ?_
    | with_reducible apply State.setComp_keeps
    | with_reducible apply State.blocks_keeps
    | split

theorem State.dataTx_keeps {s : State} (hcomp : k.comp = false) (h : State.Keeps k s0 s) (a1 : Nat) (a2 : Nat) (a3 : BitVec 18) (a4 : BitVec 18) (a5 : Nat) :
    State.Keeps k s0 (State.dataTx s a1 a2 a3 a4 a5) := by
  unfold State.dataTx
  repeat' first
    | with_reducible assumption
    | with_reducible refine Keeps.ite (P := State.Keeps _ _) ?_ ?_
    | (extract_lets -underBinder +onlyGivenNames x; unfold x; clear x)
    | with_reducible apply State.nextFree_keeps
    | with_reducible apply State.setComp_keeps

theorem State.mapComp_keeps {s : State} (hcomp : k.comp = false) (h : State.Keeps k s0 s) (a1 : Nat) (a2 : Comp → Comp) :
    State.Keeps k s0 (State.mapComp s a1 a2) := by
  unfold State.mapComp
  repeat' first
    | with_reducible assumption
    | with_reducible apply State.setComp_keeps

theorem State.mapPrimary_keeps {s : State} (hcomp : k.comp = false) (h : State.Keeps k s0 s) (a1 : Nat) (a2 : Comp → Comp) :
    State.Keeps k s0 (State.mapPrimary s a1 a2) := by
  unfold State.mapPrimary
  repeat' first
    | with_reducible assumption
    | with_reducible refine Keeps.ite (P := State.Keeps _ _) ?_ ?_
    | with_reducible apply State.mapComp_keeps

theorem execDownstreamFrameRx_keeps {s : State} (hcomp : k.comp = false) (h : State.Keeps k s0 s) (a0 : Nat) (a1 : Fin 256) (a2 : List Bool) :
    OutKeeps k s0 (execDownstreamFrameRx a0 a1 a2 s) := by
  unfold execDownstreamFrameRx
  repeat' first
    | with_reducible assumption
    | refine OutKeeps.next ?_
    | with_reducible apply State.touch_keeps
    | with_reducible apply State.downRx_keeps

theorem execSafeBlock_keeps {s : State} (hcomp : k.comp = false) (h : State.Keeps k s0 s) (a0 : Nat) (a1 : Fin 256) (a2 : Fin 3) :
    OutKeeps k s0 (execSafeBlock a0 a1 a2 s) := by
  unfold execSafeBlock
  repeat' first
    | with_reducible assumption
    | refine OutKeeps.next ?_
    | with_reducible apply State.touch_keeps
    | with_reducible apply State.mapPrimary_keeps

theorem execPatternBlock_keeps {s : State} (hcomp : k.comp = false) (h : State.Keeps k s0 s) (a0 : Nat) (a1 : Fin 256) (a2 : Nat) (a3 : Nat) (a4 : Fin 4) (a5 : Nat) (a6 : Nat) :
    OutKeeps k s0 (execPatternBlock a0 a1 a2 a3 a4 a5 a6 s) := by
  unfold execPatternBlock
  repeat' first
    | with_reducible assumption
    | refine OutKeeps.next ?_
    | with_reducible apply State.touch_keeps
    | with_reducible apply State.mapPrimary_keeps

theorem execMgmtRead_keeps {s : State} (hcomp : k.comp = false) (h : State.Keeps k s0 s) (a0 : Nat) (a1 : Fin 256) (a2 : Fin 4) (a3 : Fin 128) :
    OutKeeps k s0 (execMgmtRead a0 a1 a2 a3 s) := by
  unfold execMgmtRead
  repeat' first
    | with_reducible assumption
    | refine OutKeeps.next ?_
    | with_reducible apply State.touch_keeps
    | with_reducible apply State.compMgmt_keeps

theorem execMgmtWrite_keeps {s : State} (hcomp : k.comp = false) (h : State.Keeps k s0 s) (a0 : Nat) (a1 : Fin 256) (a2 : Fin 4) (a3 : MgmtTarget) (a4 : BitVec 16) :
    OutKeeps k s0 (execMgmtWrite a0 a1 a2 a3 a4 s) := by
  unfold execMgmtWrite
  repeat' first
    | with_reducible assumption
    | refine OutKeeps.next ?_
    | with_reducible apply State.touch_keeps
    | with_reducible apply State.compMgmt_keeps

theorem execCompanionFrameALoss_keeps {s : State} (hcomp : k.comp = false) (h : State.Keeps k s0 s) (a0 : Nat) (a1 : Fin 256) :
    OutKeeps k s0 (execCompanionFrameALoss a0 a1 s) := by
  unfold execCompanionFrameALoss
  repeat' first
    | with_reducible assumption
    | refine OutKeeps.next ?_
    | with_reducible apply State.touch_keeps
    | with_reducible apply State.mapPrimary_keeps

theorem execCompanionDataTx_keeps {s : State} (hcomp : k.comp = false) (h : State.Keeps k s0 s) (a0 : Nat) (a1 : Fin 256) (a2 : BitVec 18) (a3 : BitVec 18) (a4 : BitVec 12) :
    OutKeeps k s0 (execCompanionDataTx a0 a1 a2 a3 a4 s) := by
  unfold execCompanionDataTx
  repeat' first
    | with_reducible assumption
    | refine OutKeeps.next ?_
    | with_reducible apply State.touch_keeps
    | with_reducible apply State.dataTx_keeps

theorem execCompanionBoundary_keeps {s : State} (hcomp : k.comp = false) (h : State.Keeps k s0 s) (a0 : Nat) (a1 : Fin 256) :
    OutKeeps k s0 (execCompanionBoundary a0 a1 s) := by
  unfold execCompanionBoundary
  repeat' first
    | with_reducible assumption
    | refine OutKeeps.next ?_
    | with_reducible apply State.touch_keeps
    | with_reducible apply State.mapPrimary_keeps

theorem execCompanionGateEdge_keeps {s : State} (hcomp : k.comp = false) (h : State.Keeps k s0 s) (a0 : Nat) (a1 : Fin 256) (a2 : Side) :
    OutKeeps k s0 (execCompanionGateEdge a0 a1 a2 s) := by
  unfold execCompanionGateEdge
  repeat' first
    | with_reducible assumption
    | refine OutKeeps.next ?_
    | with_reducible apply State.touch_keeps
    | with_reducible apply State.mapPrimary_keeps

theorem execGateSenseLow_keeps {s : State} (hcomp : k.comp = false) (h : State.Keeps k s0 s) (a0 : Nat) (a1 : Fin 256) (a2 : Side) :
    OutKeeps k s0 (execGateSenseLow a0 a1 a2 s) := by
  unfold execGateSenseLow
  repeat' first
    | with_reducible assumption
    | refine OutKeeps.next ?_
    | with_reducible apply State.touch_keeps
    | with_reducible apply State.mapComp_keeps

theorem execDeadTimeEnd_keeps {s : State} (hcomp : k.comp = false) (h : State.Keeps k s0 s) (a0 : Nat) (a1 : Fin 256) :
    OutKeeps k s0 (execDeadTimeEnd a0 a1 s) := by
  unfold execDeadTimeEnd
  repeat' first
    | with_reducible assumption
    | refine OutKeeps.next ?_
    | with_reducible apply State.touch_keeps
    | with_reducible apply State.mapComp_keeps

theorem execSwitchTransition_keeps {s : State} (hcomp : k.comp = false) (h : State.Keeps k s0 s) (a0 : Nat) (a1 : Fin 256) (a2 : Bool) (a3 : Nat) (a4 : Nat) (a5 : Int) :
    OutKeeps k s0 (execSwitchTransition a0 a1 a2 a3 a4 a5 s) := by
  unfold execSwitchTransition
  repeat' first
    | with_reducible assumption
    | refine OutKeeps.next ?_
    | with_reducible apply State.mapPrimary_keeps
    | with_reducible apply State.touch_keeps

theorem execNoTransitionWindow_keeps {s : State} (hcomp : k.comp = false) (h : State.Keeps k s0 s) (a0 : Nat) (a1 : Fin 256) (a2 : EdgeKind) :
    OutKeeps k s0 (execNoTransitionWindow a0 a1 a2 s) := by
  unfold execNoTransitionWindow
  repeat' first
    | with_reducible assumption
    | refine OutKeeps.next ?_
    | with_reducible apply State.touch_keeps
    | with_reducible apply State.mapPrimary_keeps

theorem execCompanionVddpUp_keeps {s : State} (hcomp : k.comp = false) (h : State.Keeps k s0 s) (a0 : Fin 256) (a1 : Fin 16) :
    OutKeeps k s0 (execCompanionVddpUp a0 a1 s) := by
  unfold execCompanionVddpUp
  repeat' first
    | with_reducible assumption
    | refine OutKeeps.next ?_
    | with_reducible apply State.mapComp_keeps

theorem execCompanionUvlo_keeps {s : State} (hcomp : k.comp = false) (h : State.Keeps k s0 s) (a0 : Nat) (a1 : Fin 256) (a2 : CompSupply) :
    OutKeeps k s0 (execCompanionUvlo a0 a1 a2 s) := by
  unfold execCompanionUvlo
  repeat' first
    | with_reducible assumption
    | refine OutKeeps.next ?_
    | with_reducible apply State.touch_keeps
    | with_reducible apply State.mapComp_keeps

theorem execCompanionUvloRecovery_keeps {s : State} (hcomp : k.comp = false) (h : State.Keeps k s0 s) (a0 : Nat) (a1 : Fin 256) (a2 : GateSupply) :
    OutKeeps k s0 (execCompanionUvloRecovery a0 a1 a2 s) := by
  unfold execCompanionUvloRecovery
  repeat' first
    | with_reducible assumption
    | refine OutKeeps.next ?_
    | with_reducible apply State.touch_keeps
    | with_reducible apply State.mapComp_keeps

theorem execSupok10Set_keeps {s : State} (hcomp : k.comp = false) (h : State.Keeps k s0 s) (a0 : Nat) (a1 : Fin 256) :
    OutKeeps k s0 (execSupok10Set a0 a1 s) := by
  unfold execSupok10Set
  repeat' first
    | with_reducible assumption
    | refine OutKeeps.next ?_
    | with_reducible apply State.touch_keeps
    | with_reducible apply State.mapComp_keeps

theorem execHeartbeatLoss_keeps {s : State} (hcomp : k.comp = false) (h : State.Keeps k s0 s) (a0 : Nat) (a1 : Fin 256) :
    OutKeeps k s0 (execHeartbeatLoss a0 a1 s) := by
  unfold execHeartbeatLoss
  repeat' first
    | with_reducible assumption
    | refine OutKeeps.next ?_
    | with_reducible apply State.touch_keeps
    | with_reducible apply State.mapComp_keeps

end Sys2Proof.Machine
end

