-- ==== Sys2Proof/Laws/Keeps/Journal.lean ====
section
/-!
SUPPORT. Sys2Proof/Laws/Keeps/Journal.lean: what each operation of Machine/Journal.lean keeps.
-/

set_option Elab.async false

namespace Sys2Proof.Machine

set_option linter.tactic.unusedName false

variable {k : Kept} {s0 : State}

theorem State.bumpBy_keeps {s : State} (h : State.Keeps k s0 s) (a1 : Fld) (a2 : Nat) (a3 : Nat) (l1 : a1.Listed) (m1 : k.blk a1.block = false) :
    State.Keeps k s0 (State.bumpBy s a1 a2 a3) := by
  unfold State.bumpBy
  repeat' first
    | with_reducible assumption
    | with_reducible apply State.set_keeps

theorem State.mirLag_keeps {s : State} (b18 : k.blk 18 = false) (b20 : k.blk 20 = false) (h : State.Keeps k s0 s) (a1 : Nat) :
    State.Keeps k s0 (State.mirLag s a1) := by
  unfold State.mirLag
  repeat' first
    | with_reducible assumption
    | (with_reducible show Fld.Listed _; decide)
    | (show Kept.blk _ _ = false; first | exact b18 | exact b20)
    | with_reducible refine Keeps.ite (P := State.Keeps _ _) ?_ ?_
    | with_reducible apply State.event_keeps
    | with_reducible apply State.bumpBy_keeps

theorem State.ringPut_keeps {s : State} (b18 : k.blk 18 = false) (b20 : k.blk 20 = false) (h : State.Keeps k s0 s) (a1 : Nat) (a2 : Nat) (a3 : Option Nat) (a4 : Nat) (a5 : Nat) (a6 : Bool) (a7 : List Byte) (a8 : List (List Byte)) :
    State.Keeps k s0 (State.ringPut s a1 a2 a3 a4 a5 a6 a7 a8) := by
  unfold State.ringPut
  repeat' first
    | with_reducible assumption
    | (with_reducible show Fld.Listed _; decide)
    | (show Kept.blk _ _ = false; first | exact b18 | exact b20)
    | with_reducible refine Keeps.ite (P := State.Keeps _ _) ?_ ?_
    | (extract_lets -underBinder +onlyGivenNames x; refine Keeps.cut (k := k) (s0 := s0) (x := x) ?_ ?_ <;> first | (intro _; revert x; intro _ _) | (unfold x; clear x))
    | (extract_lets -underBinder +onlyGivenNames x; unfold x; clear x)
    | with_reducible apply State.set_keeps
    | with_reducible apply State.mirLag_keeps
    | (with_reducible refine Keeps.upd (h := ?_); first | with_reducible assumption | with_reducible apply State.mirLag_keeps | with_reducible apply State.set_keeps | with_reducible refine Keeps.ite (P := State.Keeps _ _) ?_ ?_ | with_reducible refine Keeps.foldl (fun _ _ _ => ?_) ?_)

theorem State.noteOpen_keeps {s : State} (b20 : k.blk 20 = false) (h : State.Keeps k s0 s) :
    State.Keeps k s0 (State.noteOpen s) := by
  unfold State.noteOpen
  repeat' first
    | with_reducible assumption
    | (with_reducible show Fld.Listed _; decide)
    | (show Kept.blk _ _ = false; first | exact b20)
    | with_reducible apply State.set_keeps

theorem State.takeTicket_keeps {s : State} (b20 : k.blk 20 = false) (h : State.Keeps k s0 s) (a1 : Nat) (a2 : Nat) :
    OptKeeps k s0 (State.takeTicket s a1 a2) := by
  unfold State.takeTicket
  repeat' first
    | with_reducible assumption
    | (with_reducible show Fld.Listed _; decide)
    | (show Kept.blk _ _ = false; first | exact b20)
    | with_reducible exact OptKeeps.none
    | with_reducible refine OptKeeps.some ?_
    | (extract_lets -underBinder +onlyGivenNames x; unfold x; clear x)
    | with_reducible apply State.set_keeps
    | with_reducible apply State.noteOpen_keeps
    | (with_reducible refine Keeps.upd (h := ?_); first | with_reducible assumption | with_reducible apply State.noteOpen_keeps | with_reducible apply State.set_keeps | with_reducible refine Keeps.ite (P := State.Keeps _ _) ?_ ?_ | with_reducible refine Keeps.foldl (fun _ _ _ => ?_) ?_)
    | split

theorem State.opRecord_keeps {s : State} (b18 : k.blk 18 = false) (b20 : k.blk 20 = false) (h : State.Keeps k s0 s) (a1 : Nat) (a2 : Nat) (a3 : Nat) (a4 : Nat) (a5 : List Byte) (a6 : Bool) (a7 : List (List Byte)) :
    State.Keeps k s0 (State.opRecord s a1 a2 a3 a4 a5 a6 a7) := by
  unfold State.opRecord
  repeat' first
    | with_reducible assumption
    | with_reducible apply State.ringPut_keeps

theorem State.openPass_keeps {s : State} (b18 : k.blk 18 = false) (b20 : k.blk 20 = false) (h : State.Keeps k s0 s) : State.Keeps k s0 (State.openPass s) := by
  unfold State.openPass
  split
  · exact h
  · split
    · exact h
    · split
      · exact Keeps.upd (h := h)
      · rename_i e
        exact State.opRecord_keeps b18 b20 (Keeps.upd (h := Keeps.some e (State.takeTicket_keeps b20 h _ _))) _ _ _ _ _ _ _

theorem State.jnlWrite_keeps {s : State} (b18 : k.blk 18 = false) (b20 : k.blk 20 = false) (h : State.Keeps k s0 s) (a1 : Nat) (a2 : Nat) (a3 : Option Nat) (a4 : Nat) (a5 : Nat) (a6 : List Byte) (a7 : List (List Byte)) :
    State.Keeps k s0 (State.jnlWrite s a1 a2 a3 a4 a5 a6 a7) := by
  unfold State.jnlWrite
  repeat' first
    | with_reducible assumption
    | with_reducible apply State.openPass_keeps
    | with_reducible apply State.ringPut_keeps

theorem State.openOp_keeps {s : State} (b18 : k.blk 18 = false) (b20 : k.blk 20 = false) (h : State.Keeps k s0 s) (a1 : Nat) (a2 : Nat) (a3 : List Byte) (a4 : List (List Byte)) :
    OptKeeps k s0 (State.openOp s a1 a2 a3 a4) := by
  unfold State.openOp
  repeat' first
    | with_reducible assumption
    | with_reducible exact OptKeeps.none
    | with_reducible refine OptKeeps.some ?_
    | with_reducible apply State.takeTicket_keeps
    | with_reducible apply State.openPass_keeps
    | with_reducible apply State.opRecord_keeps
    | split
    | with_reducible refine Keeps.some (by assumption) ?_

theorem State.reopenOp_keeps {s : State} (b18 : k.blk 18 = false) (b20 : k.blk 20 = false) (h : State.Keeps k s0 s) (a1 : Nat) (a2 : Nat) (a3 : Nat) (a4 : List Byte) :
    OptKeeps k s0 (State.reopenOp s a1 a2 a3 a4) := by
  unfold State.reopenOp
  repeat' first
    | with_reducible assumption
    | (with_reducible show Fld.Listed _; decide)
    | (show Kept.blk _ _ = false; first | exact b18 | exact b20)
    | with_reducible refine OptKeeps.some ?_
    | with_reducible refine Keeps.ite (P := OptKeeps _ _) ?_ ?_
    | (extract_lets -underBinder +onlyGivenNames x; unfold x; clear x)
    | with_reducible apply State.set_keeps
    | with_reducible apply State.openOp_keeps
    | with_reducible apply State.noteOpen_keeps
    | with_reducible apply State.openPass_keeps
    | with_reducible apply State.opRecord_keeps
    | (with_reducible refine Keeps.upd (h := ?_); first | with_reducible assumption | with_reducible apply State.noteOpen_keeps | with_reducible apply State.openPass_keeps | with_reducible apply State.opRecord_keeps | with_reducible apply State.set_keeps | with_reducible refine Keeps.ite (P := State.Keeps _ _) ?_ ?_ | with_reducible refine Keeps.foldl (fun _ _ _ => ?_) ?_)

theorem State.progOp_keeps {s : State} (b18 : k.blk 18 = false) (b20 : k.blk 20 = false) (h : State.Keeps k s0 s) (a1 : Nat) (a2 : Nat) :
    State.Keeps k s0 (State.progOp s a1 a2) := by
  unfold State.progOp
  repeat' first
    | with_reducible assumption
    | (with_reducible show Fld.Listed _; decide)
    | (show Kept.blk _ _ = false; first | exact b18 | exact b20)
    | with_reducible refine Keeps.ite (P := State.Keeps _ _) ?_ ?_
    | (extract_lets -underBinder +onlyGivenNames x; refine Keeps.cut (k := k) (s0 := s0) (x := x) ?_ ?_ <;> first | (intro _; revert x; intro _ _) | (unfold x; clear x))
    | (extract_lets -underBinder +onlyGivenNames x; unfold x; clear x)
    | with_reducible apply State.set_keeps
    | with_reducible apply State.openPass_keeps
    | with_reducible apply State.opRecord_keeps

theorem State.closeOpWith_keeps {s : State} (b18 : k.blk 18 = false) (b20 : k.blk 20 = false) (h : State.Keeps k s0 s) (a1 : Nat) (a2 : Nat) (a3 : List Byte) :
    State.Keeps k s0 (State.closeOpWith s a1 a2 a3) := by
  unfold State.closeOpWith
  repeat' first
    | with_reducible assumption
    | (with_reducible show Fld.Listed _; decide)
    | (show Kept.blk _ _ = false; first | exact b18 | exact b20)
    | with_reducible refine Keeps.ite (P := State.Keeps _ _) ?_ ?_
    | (extract_lets -underBinder +onlyGivenNames x; refine Keeps.cut (k := k) (s0 := s0) (x := x) ?_ ?_ <;> first | (intro _; revert x; intro _ _) | (unfold x; clear x))
    | (extract_lets -underBinder +onlyGivenNames x; unfold x; clear x)
    | with_reducible apply State.set_keeps
    | with_reducible apply State.opRecord_keeps
    | with_reducible apply State.openPass_keeps
    | with_reducible apply State.noteOpen_keeps
    | (with_reducible refine Keeps.upd (h := ?_); first | with_reducible assumption | with_reducible apply State.opRecord_keeps | with_reducible apply State.openPass_keeps | with_reducible apply State.noteOpen_keeps | with_reducible apply State.set_keeps | with_reducible refine Keeps.ite (P := State.Keeps _ _) ?_ ?_ | with_reducible refine Keeps.foldl (fun _ _ _ => ?_) ?_)

theorem State.closeOp_keeps {s : State} (b18 : k.blk 18 = false) (b20 : k.blk 20 = false) (h : State.Keeps k s0 s) (a1 : Nat) (a2 : Nat) :
    State.Keeps k s0 (State.closeOp s a1 a2) := by
  unfold State.closeOp
  repeat' first
    | with_reducible assumption
    | with_reducible apply State.closeOpWith_keeps

theorem State.notePins_keeps {s : State} (b20 : k.blk 20 = false) (h : State.Keeps k s0 s) :
    State.Keeps k s0 (State.notePins s) := by
  unfold State.notePins
  repeat' first
    | with_reducible assumption
    | (with_reducible show Fld.Listed _; decide)
    | (show Kept.blk _ _ = false; first | exact b20)
    | with_reducible apply State.set_keeps

theorem State.pinFull_keeps {s : State} (b18 : k.blk 18 = false) (b20 : k.blk 20 = false) (h : State.Keeps k s0 s) :
    State.Keeps k s0 (State.pinFull s) := by
  unfold State.pinFull
  repeat' first
    | with_reducible assumption
    | (with_reducible show Fld.Listed _; decide)
    | (show Kept.blk _ _ = false; first | exact b18 | exact b20)
    | with_reducible apply State.set_keeps
    | with_reducible apply State.event_keeps

theorem State.pinPut_keeps {s : State} (b18 : k.blk 18 = false) (b20 : k.blk 20 = false) (h : State.Keeps k s0 s) (a1 : Nat) (a2 : Nat) (a3 : List Byte) (a4 : List (List Byte)) :
    State.Keeps k s0 (State.pinPut s a1 a2 a3 a4) := by
  unfold State.pinPut
  repeat' first
    | with_reducible assumption
    | (with_reducible show Fld.Listed _; decide)
    | (show Kept.blk _ _ = false; first | exact b18 | exact b20)
    | with_reducible refine Keeps.ite (P := State.Keeps _ _) ?_ ?_
    | (extract_lets -underBinder +onlyGivenNames x; refine Keeps.cut (k := k) (s0 := s0) (x := x) ?_ ?_ <;> first | (intro _; revert x; intro _ _) | (unfold x; clear x))
    | (extract_lets -underBinder +onlyGivenNames x; unfold x; clear x)
    | with_reducible apply State.set_keeps
    | with_reducible apply State.openPass_keeps
    | with_reducible apply State.notePins_keeps
    | (with_reducible refine Keeps.upd (h := ?_); first | with_reducible assumption | with_reducible apply State.openPass_keeps | with_reducible apply State.notePins_keeps | with_reducible apply State.set_keeps | with_reducible refine Keeps.ite (P := State.Keeps _ _) ?_ ?_ | with_reducible refine Keeps.foldl (fun _ _ _ => ?_) ?_)

theorem State.noteQueue_keeps {s : State} (b20 : k.blk 20 = false) (h : State.Keeps k s0 s) :
    State.Keeps k s0 (State.noteQueue s) := by
  unfold State.noteQueue
  repeat' first
    | with_reducible assumption
    | (with_reducible show Fld.Listed _; decide)
    | (show Kept.blk _ _ = false; first | exact b20)
    | with_reducible apply State.set_keeps

theorem State.pinQueue_keeps {s : State} (b20 : k.blk 20 = false) (h : State.Keeps k s0 s) (a1 : QGrp) :
    State.Keeps k s0 (State.pinQueue s a1) := by
  unfold State.pinQueue
  repeat' first
    | with_reducible assumption
    | (with_reducible show Fld.Listed _; decide)
    | (show Kept.blk _ _ = false; first | exact b20)
    | with_reducible refine Keeps.ite (P := State.Keeps _ _) ?_ ?_
    | (extract_lets -underBinder +onlyGivenNames x; unfold x; clear x)
    | with_reducible apply State.noteQueue_keeps
    | with_reducible apply State.bump_keeps
    | (with_reducible refine Keeps.upd (h := ?_); first | with_reducible assumption | with_reducible apply State.noteQueue_keeps | with_reducible apply State.bump_keeps | with_reducible refine Keeps.ite (P := State.Keeps _ _) ?_ ?_ | with_reducible refine Keeps.foldl (fun _ _ _ => ?_) ?_)

theorem State.pinEvent_keeps {s : State} (b18 : k.blk 18 = false) (b20 : k.blk 20 = false) (h : State.Keeps k s0 s) (a1 : Nat) (a2 : List Byte) (a3 : List (List Byte)) :
    State.Keeps k s0 (State.pinEvent s a1 a2 a3) := by
  unfold State.pinEvent
  repeat' first
    | with_reducible assumption
    | with_reducible refine Keeps.ite (P := State.Keeps _ _) ?_ ?_
    | (extract_lets -underBinder +onlyGivenNames x; refine Keeps.cut (k := k) (s0 := s0) (x := x) ?_ ?_ <;> first | (intro _; revert x; intro _ _) | (unfold x; clear x))
    | with_reducible apply State.pinPut_keeps
    | with_reducible apply State.pinFull_keeps
    | with_reducible apply State.pinQueue_keeps

theorem State.drainQueue_keeps {s : State} (b18 : k.blk 18 = false) (b20 : k.blk 20 = false) (h : State.Keeps k s0 s) (a0 : Nat) :
    State.Keeps k s0 (State.drainQueue a0 s) := by
  induction a0 generalizing s with
  | zero => exact h
  | succ n ih =>
    unfold State.drainQueue
    split
    · exact h
    · split
      · exact ih (State.noteQueue_keeps b20 (Keeps.upd (h := State.pinPut_keeps b18 b20 h _ _ _ _)))
      · exact h

theorem State.pinAckOf_keeps {s : State} (b20 : k.blk 20 = false) (h : State.Keeps k s0 s) (a1 : JGrp → Bool) :
    State.Keeps k s0 (State.pinAckOf s a1) := by
  unfold State.pinAckOf
  repeat' first
    | with_reducible assumption
    | (extract_lets -underBinder +onlyGivenNames x; unfold x; clear x)
    | with_reducible apply State.notePins_keeps
    | (with_reducible refine Keeps.upd (h := ?_); first | with_reducible assumption | with_reducible apply State.notePins_keeps | with_reducible refine Keeps.ite (P := State.Keeps _ _) ?_ ?_ | with_reducible refine Keeps.foldl (fun _ _ _ => ?_) ?_)

end Sys2Proof.Machine
end

