-- ==== Sys2Proof/Laws/Keeps/Fabric.lean ====
section
/-!
SUPPORT. Sys2Proof/Laws/Keeps/Fabric.lean: what each operation of Machine/Fabric.lean keeps.
-/

set_option Elab.async false

namespace Sys2Proof.Machine

set_option linter.tactic.unusedName false

variable {k : Kept} {s0 : State}

theorem fltField_listed (cls : Nat) : (fltField cls).Listed := by
  unfold fltField
  split
  · decide
  · split
    · decide
    · split <;> decide

theorem fltField_block (cls : Nat) : (fltField cls).block = 22 := by
  unfold fltField
  split
  · rfl
  · split
    · rfl
    · split <;> rfl

theorem State.fltEvent_keeps {s : State} (b18 : k.blk 18 = false) (b22 : k.blk 22 = false) (h : State.Keeps k s0 s) (a1 : Nat) (a2 : Nat) :
    State.Keeps k s0 (State.fltEvent s a1 a2) := by
  unfold State.fltEvent
  repeat' first
    | with_reducible assumption
    | (with_reducible show Fld.Listed _; decide)
    | (show Kept.blk _ _ = false; first | exact b18 | exact b22)
    | with_reducible apply State.event_keeps
    | with_reducible apply State.bump_keeps
    | split

theorem State.fault_keeps {s : State} (b18 : k.blk 18 = false) (b20 : k.blk 20 = false) (b22 : k.blk 22 = false) (h : State.Keeps k s0 s) (a1 : Nat) (a2 : Nat) (a3 : Nat) (a4 : Nat) :
    State.Keeps k s0 (State.fault s a1 a2 a3 a4) := by
  unfold State.fault
  repeat' first
    | with_reducible assumption
    | (with_reducible show Fld.Listed _; decide)
    | (show Kept.blk _ _ = false; first | exact b18 | exact b20 | exact b22)
    | (extract_lets -underBinder +onlyGivenNames x; refine Keeps.cut (k := k) (s0 := s0) (x := x) ?_ ?_ <;> first | (intro _; revert x; intro _ _) | (unfold x; clear x))
    | (extract_lets -underBinder +onlyGivenNames x; unfold x; clear x)
    | with_reducible apply State.set_keeps
    | with_reducible apply State.fltEvent_keeps
    | with_reducible apply State.nextFree_keeps
    | with_reducible apply State.jnlWrite_keeps

theorem State.latchFlt_keeps {s : State} (b22 : k.blk 22 = false) (h : State.Keeps k s0 s) (a1 a2 a3 : Nat) :
    State.Keeps k s0 (State.latchFlt s a1 a2 a3) := by
  unfold State.latchFlt
  have hs := State.set_keeps h (fltField a2) a1 1 (fltField_listed a2) (by rw [fltField_block]; exact b22)
  exact Keeps.ite (P := State.Keeps _ _) (State.set_keeps hs _ _ _ (by decide) (by first | exact b22)) hs

theorem State.faultF2_keeps {s : State} (b5 : k.blk 5 = false) (b6 : k.blk 6 = false) (b18 : k.blk 18 = false) (b20 : k.blk 20 = false) (b22 : k.blk 22 = false) (h : State.Keeps k s0 s) (a1 : Nat) (a2 : Nat) (a3 : Nat) (a4 : List Nat) :
    State.Keeps k s0 (State.faultF2 s a1 a2 a3 a4) := by
  unfold State.faultF2
  repeat' first
    | with_reducible assumption
    | with_reducible refine Keeps.foldl (fun _ _ _ => ?_) ?_
    | with_reducible apply State.convHold_keeps
    | with_reducible apply State.latchFlt_keeps
    | with_reducible apply State.fault_keeps

theorem State.gridGo_keeps {s : State} (b12 : k.blk 12 = false) (b18 : k.blk 18 = false) (h : State.Keeps k s0 s) (a1 : Nat) (a2 : Nat) :
    State.Keeps k s0 (State.gridGo s a1 a2) := by
  unfold State.gridGo
  repeat' first
    | with_reducible assumption
    | (with_reducible show Fld.Listed _; decide)
    | (show Kept.blk _ _ = false; first | exact b12 | exact b18)
    | with_reducible refine Keeps.ite (P := State.Keeps _ _) ?_ ?_
    | with_reducible apply State.set_keeps
    | with_reducible apply State.raise_keeps

theorem State.gridClose_keeps {s : State} (b12 : k.blk 12 = false) (b18 : k.blk 18 = false) (b20 : k.blk 20 = false) (h : State.Keeps k s0 s) (a1 : Nat) (a2 : Nat) :
    State.Keeps k s0 (State.gridClose s a1 a2) := by
  unfold State.gridClose
  repeat' first
    | with_reducible assumption
    | (extract_lets -underBinder +onlyGivenNames x; unfold x; clear x)
    | with_reducible apply State.setGrd_keeps
    | with_reducible apply State.closeOp_keeps
    | split

theorem State.gridTrip_keeps {s : State} (b5 : k.blk 5 = false) (b6 : k.blk 6 = false) (b12 : k.blk 12 = false) (b18 : k.blk 18 = false) (b20 : k.blk 20 = false) (b22 : k.blk 22 = false) (h : State.Keeps k s0 s) (a1 : Nat) (a2 : Nat) :
    State.Keeps k s0 (State.gridTrip s a1 a2) := by
  unfold State.gridTrip
  repeat' first
    | with_reducible assumption
    | (with_reducible show Fld.Listed _; decide)
    | (show Kept.blk _ _ = false; first | exact b5 | exact b6 | exact b12 | exact b18 | exact b20 | exact b22)
    | (extract_lets -underBinder +onlyGivenNames x; refine Keeps.cut (k := k) (s0 := s0) (x := x) ?_ ?_ <;> first | (intro _; revert x; intro _ _) | (unfold x; clear x))
    | (extract_lets -underBinder +onlyGivenNames x; unfold x; clear x)
    | with_reducible apply State.set_keeps
    | with_reducible apply State.gridClose_keeps
    | with_reducible apply State.drivePin_keeps
    | with_reducible apply State.setGrd_keeps
    | with_reducible apply State.faultF2_keeps
    | with_reducible apply State.raise_keeps
    | with_reducible apply State.gridGo_keeps
    | with_reducible apply State.bump_keeps

theorem State.axisZero_keeps {s : State} (b13 : k.blk 13 = false) (h : State.Keeps k s0 s) (a1 : Nat) :
    State.Keeps k s0 (State.axisZero s a1) := by
  unfold State.axisZero
  repeat' first
    | with_reducible assumption
    | (with_reducible show Fld.Listed _; decide)
    | (show Kept.blk _ _ = false; first | exact b13)
    | (extract_lets -underBinder +onlyGivenNames x; refine Keeps.cut (k := k) (s0 := s0) (x := x) ?_ ?_ <;> first | (intro _; revert x; intro _ _) | (unfold x; clear x))
    | (extract_lets -underBinder +onlyGivenNames x; unfold x; clear x)
    | with_reducible apply State.set_keeps
    | with_reducible apply State.setAxs_keeps

theorem State.mpptAbort_keeps {s : State} (b12 : k.blk 12 = false) (b18 : k.blk 18 = false) (h : State.Keeps k s0 s) (a1 : Nat) :
    State.Keeps k s0 (State.mpptAbort s a1) := by
  unfold State.mpptAbort
  repeat' first
    | with_reducible assumption
    | (with_reducible show Fld.Listed _; decide)
    | (show Kept.blk _ _ = false; first | exact b12 | exact b18)
    | with_reducible refine Keeps.ite (P := State.Keeps _ _) ?_ ?_
    | (extract_lets -underBinder +onlyGivenNames x; unfold x; clear x)
    | with_reducible apply State.setMppt_keeps
    | with_reducible apply State.event_keeps
    | with_reducible apply State.bump_keeps

theorem State.gridHeld_keeps {s : State} (b5 : k.blk 5 = false) (b6 : k.blk 6 = false) (b12 : k.blk 12 = false) (b18 : k.blk 18 = false) (b20 : k.blk 20 = false) (b22 : k.blk 22 = false) (h : State.Keeps k s0 s) (a1 : Nat) :
    State.Keeps k s0 (State.gridHeld s a1) := by
  unfold State.gridHeld
  repeat' first
    | with_reducible assumption
    | (show Kept.blk _ _ = false; first | exact b5 | exact b6 | exact b12 | exact b18 | exact b20 | exact b22)
    | with_reducible refine Keeps.ite (P := State.Keeps _ _) ?_ ?_
    | with_reducible apply State.gridTrip_keeps

theorem State.axisHeld_keeps {s : State} (b13 : k.blk 13 = false) (h : State.Keeps k s0 s) (a1 : Nat) :
    State.Keeps k s0 (State.axisHeld s a1) := by
  unfold State.axisHeld
  repeat' first
    | with_reducible assumption
    | (show Kept.blk _ _ = false; first | exact b13)
    | (extract_lets -underBinder +onlyGivenNames x; unfold x; clear x)
    | with_reducible apply State.setAxs_keeps
    | with_reducible apply State.axisZero_keeps

theorem State.funcsHeld_keeps {s : State} (b5 : k.blk 5 = false) (b6 : k.blk 6 = false) (b12 : k.blk 12 = false) (b13 : k.blk 13 = false) (b18 : k.blk 18 = false) (b20 : k.blk 20 = false) (b22 : k.blk 22 = false) (h : State.Keeps k s0 s) (a1 : Nat) :
    State.Keeps k s0 (State.funcsHeld s a1) := by
  unfold State.funcsHeld
  repeat' first
    | with_reducible assumption
    | (show Kept.blk _ _ = false; first | exact b5 | exact b6 | exact b12 | exact b13 | exact b18 | exact b20 | exact b22)
    | (extract_lets -underBinder +onlyGivenNames x; refine Keeps.cut (k := k) (s0 := s0) (x := x) ?_ ?_ <;> first | (intro _; revert x; intro _ _) | (unfold x; clear x))
    | (extract_lets -underBinder +onlyGivenNames x; unfold x; clear x)
    | with_reducible refine Keeps.foldl (fun _ _ _ => ?_) ?_
    | with_reducible apply State.gridHeld_keeps
    | with_reducible apply State.axisHeld_keeps
    | with_reducible apply State.mpptAbort_keeps

theorem State.holdWithFuncs_keeps {s : State} (b5 : k.blk 5 = false) (b6 : k.blk 6 = false) (b12 : k.blk 12 = false) (b13 : k.blk 13 = false) (b18 : k.blk 18 = false) (b20 : k.blk 20 = false) (b22 : k.blk 22 = false) (h : State.Keeps k s0 s) (a1 : Nat) :
    State.Keeps k s0 (State.holdWithFuncs s a1) := by
  unfold State.holdWithFuncs
  repeat' first
    | with_reducible assumption
    | with_reducible apply State.funcsHeld_keeps
    | with_reducible apply State.convHold_keeps

theorem State.faultF1_keeps {s : State} (b5 : k.blk 5 = false) (b6 : k.blk 6 = false) (b12 : k.blk 12 = false) (b13 : k.blk 13 = false) (b18 : k.blk 18 = false) (b20 : k.blk 20 = false) (b22 : k.blk 22 = false) (h : State.Keeps k s0 s) (a1 : Nat) (a2 : Nat) (a3 : Nat) :
    State.Keeps k s0 (State.faultF1 s a1 a2 a3) := by
  unfold State.faultF1
  repeat' first
    | with_reducible assumption
    | with_reducible apply State.holdWithFuncs_keeps
    | with_reducible apply State.latchFlt_keeps
    | with_reducible apply State.fault_keeps

theorem State.legF1_keeps {s : State} (b5 : k.blk 5 = false) (b6 : k.blk 6 = false) (b12 : k.blk 12 = false) (b13 : k.blk 13 = false) (b18 : k.blk 18 = false) (b20 : k.blk 20 = false) (b22 : k.blk 22 = false) (h : State.Keeps k s0 s) (a1 : Nat) (a2 : Nat) (a3 : Nat) :
    State.Keeps k s0 (State.legF1 s a1 a2 a3) := by
  unfold State.legF1
  repeat' first
    | with_reducible assumption
    | with_reducible refine Keeps.ite (P := State.Keeps _ _) ?_ ?_
    | with_reducible apply State.faultF1_keeps
    | split

theorem State.faultF3_keeps {s : State} (b5 : k.blk 5 = false) (b6 : k.blk 6 = false) (b11 : k.blk 11 = false) (b12 : k.blk 12 = false) (b13 : k.blk 13 = false) (b18 : k.blk 18 = false) (b20 : k.blk 20 = false) (b22 : k.blk 22 = false) (h : State.Keeps k s0 s) (a1 : Nat) :
    State.Keeps k s0 (State.faultF3 s a1) := by
  unfold State.faultF3
  repeat' first
    | with_reducible assumption
    | (with_reducible show Fld.Listed _; decide)
    | (show Kept.blk _ _ = false; first | exact b5 | exact b6 | exact b11 | exact b12 | exact b13 | exact b18 | exact b20 | exact b22)
    | (extract_lets -underBinder +onlyGivenNames x; refine Keeps.cut (k := k) (s0 := s0) (x := x) ?_ ?_ <;> first | (intro _; revert x; intro _ _) | (unfold x; clear x))
    | (extract_lets -underBinder +onlyGivenNames x; unfold x; clear x)
    | with_reducible refine Keeps.foldl (fun _ _ _ => ?_) ?_
    | with_reducible apply State.fault_keeps
    | with_reducible apply State.setBitOf_keeps
    | with_reducible apply State.holdWithFuncs_keeps
    | with_reducible apply State.latchFlt_keeps
    | with_reducible apply State.gridHeld_keeps
    | with_reducible apply State.axisHeld_keeps
    | with_reducible apply State.mpptAbort_keeps
    | with_reducible apply State.locSafe_keeps

theorem State.enterSafeHold_keeps {s : State} (b5 : k.blk 5 = false) (b6 : k.blk 6 = false) (b11 : k.blk 11 = false) (b12 : k.blk 12 = false) (b13 : k.blk 13 = false) (b18 : k.blk 18 = false) (b20 : k.blk 20 = false) (b21 : k.blk 21 = false) (b22 : k.blk 22 = false) (h : State.Keeps k s0 s) :
    State.Keeps k s0 (State.enterSafeHold s) := by
  unfold State.enterSafeHold
  repeat' first
    | with_reducible assumption
    | (with_reducible show Fld.Listed _; decide)
    | (show Kept.blk _ _ = false; first | exact b5 | exact b6 | exact b11 | exact b12 | exact b13 | exact b18 | exact b20 | exact b21 | exact b22)
    | with_reducible refine Keeps.ite (P := State.Keeps _ _) ?_ ?_
    | (extract_lets -underBinder +onlyGivenNames x; refine Keeps.cut (k := k) (s0 := s0) (x := x) ?_ ?_ <;> first | (intro _; revert x; intro _ _) | (unfold x; clear x))
    | (extract_lets -underBinder +onlyGivenNames x; unfold x; clear x)
    | with_reducible refine Keeps.foldl (fun _ _ _ => ?_) ?_
    | with_reducible apply State.set_keeps
    | with_reducible apply State.holdWithFuncs_keeps
    | with_reducible apply State.locSafe_keeps
    | (with_reducible refine Keeps.upd (h := ?_); first | with_reducible assumption | with_reducible apply State.holdWithFuncs_keeps | with_reducible apply State.locSafe_keeps | with_reducible apply State.set_keeps | with_reducible refine Keeps.ite (P := State.Keeps _ _) ?_ ?_ | with_reducible refine Keeps.foldl (fun _ _ _ => ?_) ?_)

theorem State.faultF4_keeps {s : State} (b5 : k.blk 5 = false) (b6 : k.blk 6 = false) (b11 : k.blk 11 = false) (b12 : k.blk 12 = false) (b13 : k.blk 13 = false) (b18 : k.blk 18 = false) (b20 : k.blk 20 = false) (b21 : k.blk 21 = false) (b22 : k.blk 22 = false) (h : State.Keeps k s0 s) (a1 : Nat) (a2 : Nat) :
    State.Keeps k s0 (State.faultF4 s a1 a2) := by
  unfold State.faultF4
  repeat' first
    | with_reducible assumption
    | (with_reducible show Fld.Listed _; decide)
    | (show Kept.blk _ _ = false; first | exact b5 | exact b6 | exact b11 | exact b12 | exact b13 | exact b18 | exact b20 | exact b21 | exact b22)
    | (extract_lets -underBinder +onlyGivenNames x; refine Keeps.cut (k := k) (s0 := s0) (x := x) ?_ ?_ <;> first | (intro _; revert x; intro _ _) | (unfold x; clear x))
    | with_reducible refine Keeps.foldl (fun _ _ _ => ?_) ?_
    | with_reducible apply State.set_keeps
    | with_reducible apply State.fault_keeps
    | with_reducible apply State.latchFlt_keeps
    | with_reducible apply State.enterSafeHold_keeps

theorem State.leaveSafeHold_keeps {s : State} (b5 : k.blk 5 = false) (b21 : k.blk 21 = false) (b22 : k.blk 22 = false) (h : State.Keeps k s0 s) :
    State.Keeps k s0 (State.leaveSafeHold s) := by
  unfold State.leaveSafeHold
  repeat' first
    | with_reducible assumption
    | (with_reducible show Fld.Listed _; decide)
    | (show Kept.blk _ _ = false; first | exact b5 | exact b21 | exact b22)
    | with_reducible refine Keeps.ite (P := State.Keeps _ _) ?_ ?_
    | (extract_lets -underBinder +onlyGivenNames x; refine Keeps.cut (k := k) (s0 := s0) (x := x) ?_ ?_ <;> first | (intro _; revert x; intro _ _) | (unfold x; clear x))
    | (extract_lets -underBinder +onlyGivenNames x; unfold x; clear x)
    | with_reducible refine Keeps.foldl (fun _ _ _ => ?_) ?_
    | with_reducible apply State.set_keeps
    | with_reducible apply State.convReleased_keeps
    | with_reducible apply State.locReleased_keeps
    | (with_reducible refine Keeps.upd (h := ?_); first | with_reducible assumption | with_reducible apply State.convReleased_keeps | with_reducible apply State.locReleased_keeps | with_reducible apply State.set_keeps | with_reducible refine Keeps.ite (P := State.Keeps _ _) ?_ ?_ | with_reducible refine Keeps.foldl (fun _ _ _ => ?_) ?_)

end Sys2Proof.Machine
end

