-- ==== Sys2Proof/Laws/Keeps/Protect.lean ====
section
/-!
SUPPORT. Sys2Proof/Laws/Keeps/Protect.lean: what each operation of Machine/Protect.lean keeps.
-/

set_option Elab.async false

namespace Sys2Proof.Machine

set_option linter.tactic.unusedName false

variable {k : Kept} {s0 : State}

theorem State.brkDac_keeps {s : State} (b5 : k.blk 5 = false) (b11 : k.blk 11 = false) (h : State.Keeps k s0 s) (a1 : Nat) :
    State.Keeps k s0 (State.brkDac s a1) := by
  unfold State.brkDac
  repeat' first
    | with_reducible assumption
    | (with_reducible show Fld.Listed _; decide)
    | (show Kept.blk _ _ = false; first | exact b5 | exact b11)
    | (extract_lets -underBinder +onlyGivenNames x; refine Keeps.cut (k := k) (s0 := s0) (x := x) ?_ ?_ <;> first | (intro _; revert x; intro _ _) | (unfold x; clear x))
    | (extract_lets -underBinder +onlyGivenNames x; unfold x; clear x)
    | with_reducible apply State.set_keeps

theorem State.brkFollow_keeps {s : State} (b5 : k.blk 5 = false) (b11 : k.blk 11 = false) (h : State.Keeps k s0 s) (a1 : Nat) (a2 : Nat) :
    State.Keeps k s0 (State.brkFollow s a1 a2) := by
  unfold State.brkFollow
  repeat' first
    | with_reducible assumption
    | (with_reducible show Fld.Listed _; decide)
    | (show Kept.blk _ _ = false; first | exact b5 | exact b11)
    | with_reducible refine Keeps.ite (P := State.Keeps _ _) ?_ ?_
    | (extract_lets -underBinder +onlyGivenNames x; refine Keeps.cut (k := k) (s0 := s0) (x := x) ?_ ?_ <;> first | (intro _; revert x; intro _ _) | (unfold x; clear x))
    | with_reducible apply State.setBrk_keeps
    | with_reducible apply State.setFlag_keeps
    | with_reducible apply State.brkDac_keeps
    | with_reducible apply State.bump_keeps

theorem State.brkChange_keeps {s : State} (b5 : k.blk 5 = false) (b11 : k.blk 11 = false) (h : State.Keeps k s0 s) (a1 : Nat) (a2 : Nat) (a3 : Bool) :
    State.Keeps k s0 (State.brkChange s a1 a2 a3) := by
  unfold State.brkChange
  repeat' first
    | with_reducible assumption
    | (extract_lets -underBinder +onlyGivenNames x; unfold x; clear x)
    | with_reducible apply State.brkFollow_keeps
    | with_reducible apply State.setBrk_keeps

theorem State.brakeSat_keeps {s : State} (b5 : k.blk 5 = false) (b6 : k.blk 6 = false) (b8 : k.blk 8 = false) (b18 : k.blk 18 = false) (b20 : k.blk 20 = false) (b22 : k.blk 22 = false) (h : State.Keeps k s0 s) (a1 : BrakeUnit) :
    State.Keeps k s0 (State.brakeSat s a1) := by
  unfold State.brakeSat
  repeat' first
    | with_reducible assumption
    | (with_reducible show Fld.Listed _; decide)
    | (show Kept.blk _ _ = false; first | exact b5 | exact b6 | exact b8 | exact b18 | exact b20 | exact b22)
    | with_reducible refine Keeps.ite (P := State.Keeps _ _) ?_ ?_
    | with_reducible apply State.set_keeps
    | with_reducible apply State.faultF2_keeps
    | split

theorem execGatestuck_keeps {s : State} (hcomp : k.comp = false) (h : State.Keeps k s0 s) (a0 : Nat) (a1 : Fin 256) :
    OutKeeps k s0 (execGatestuck a0 a1 s) := by
  unfold execGatestuck
  repeat' first
    | with_reducible assumption
    | refine OutKeeps.next ?_
    | with_reducible apply State.touch_keeps
    | with_reducible apply State.mapComp_keeps

theorem execOverCurrentTrip_keeps {s : State} (hcomp : k.comp = false) (h : State.Keeps k s0 s) (a0 : Nat) (a1 : Fin 256) :
    OutKeeps k s0 (execOverCurrentTrip a0 a1 s) := by
  unfold execOverCurrentTrip
  repeat' first
    | with_reducible assumption
    | refine OutKeeps.next ?_
    | with_reducible apply State.touch_keeps
    | with_reducible apply State.mapComp_keeps

theorem execDesatTrip_keeps {s : State} (hcomp : k.comp = false) (h : State.Keeps k s0 s) (a0 : Nat) (a1 : Fin 256) (a2 : Side) :
    OutKeeps k s0 (execDesatTrip a0 a1 a2 s) := by
  unfold execDesatTrip
  repeat' first
    | with_reducible assumption
    | refine OutKeeps.next ?_
    | with_reducible apply State.touch_keeps
    | with_reducible apply State.mapComp_keeps

theorem execOvDcTrip_keeps {s : State} (hcomp : k.comp = false) (h : State.Keeps k s0 s) (a0 : Nat) (a1 : Fin 256) (a2 : Fin 4096) :
    OutKeeps k s0 (execOvDcTrip a0 a1 a2 s) := by
  unfold execOvDcTrip
  repeat' first
    | with_reducible assumption
    | refine OutKeeps.next ?_
    | with_reducible apply State.touch_keeps
    | with_reducible apply State.mapComp_keeps

theorem execOverTemperatureTrip_keeps {s : State} (hcomp : k.comp = false) (h : State.Keeps k s0 s) (a0 : Nat) (a1 : Fin 256) (a2 : Fin 4096) :
    OutKeeps k s0 (execOverTemperatureTrip a0 a1 a2 s) := by
  unfold execOverTemperatureTrip
  repeat' first
    | with_reducible assumption
    | refine OutKeeps.next ?_
    | with_reducible apply State.touch_keeps
    | with_reducible apply State.mapComp_keeps

theorem execSoftTurnoffEnd_keeps {s : State} (hcomp : k.comp = false) (h : State.Keeps k s0 s) (a0 : Nat) (a1 : Fin 256) (a2 : Side) :
    OutKeeps k s0 (execSoftTurnoffEnd a0 a1 a2 s) := by
  unfold execSoftTurnoffEnd
  repeat' first
    | with_reducible assumption
    | refine OutKeeps.next ?_
    | with_reducible apply State.touch_keeps
    | with_reducible apply State.mapComp_keeps

theorem execBrakeChopperOn_keeps {s : State} (hcomp : k.comp = false) (h : State.Keeps k s0 s) (a0 : Nat) (a1 : Fin 256) (a2 : Fin 4096) :
    OutKeeps k s0 (execBrakeChopperOn a0 a1 a2 s) := by
  unfold execBrakeChopperOn
  repeat' first
    | with_reducible assumption
    | refine OutKeeps.next ?_
    | with_reducible apply State.touch_keeps
    | with_reducible apply State.mapComp_keeps

theorem execBrakeChopperOff_keeps {s : State} (hcomp : k.comp = false) (h : State.Keeps k s0 s) (a0 : Nat) (a1 : Fin 256) (a2 : Fin 4096) :
    OutKeeps k s0 (execBrakeChopperOff a0 a1 a2 s) := by
  unfold execBrakeChopperOff
  repeat' first
    | with_reducible assumption
    | refine OutKeeps.next ?_
    | with_reducible apply State.touch_keeps
    | with_reducible apply State.mapComp_keeps

theorem execBrakeMinIntervalEnd_keeps {s : State} (hcomp : k.comp = false) (b5 : k.blk 5 = false) (b11 : k.blk 11 = false) (h : State.Keeps k s0 s) (a0 : Nat) (a1 : BrakeUnit) (a2 : Fin 4096) :
    OutKeeps k s0 (execBrakeMinIntervalEnd a0 a1 a2 s) := by
  unfold execBrakeMinIntervalEnd
  repeat' first
    | with_reducible assumption
    | refine OutKeeps.next ?_
    | with_reducible apply State.touch_keeps
    | with_reducible apply State.mapComp_keeps
    | with_reducible apply State.brkFollow_keeps
    | split

theorem execBrkPinChange_keeps {s : State} (b5 : k.blk 5 = false) (b11 : k.blk 11 = false) (h : State.Keeps k s0 s) (a0 : Nat) (a1 : Fin 4) (a2 : Bool) :
    OutKeeps k s0 (execBrkPinChange a0 a1 a2 s) := by
  unfold execBrkPinChange
  repeat' first
    | with_reducible assumption
    | refine OutKeeps.next ?_
    | with_reducible apply State.touch_keeps
    | with_reducible apply State.brkChange_keeps

theorem execBrakeSaturation_keeps {s : State} (b5 : k.blk 5 = false) (b6 : k.blk 6 = false) (b8 : k.blk 8 = false) (b18 : k.blk 18 = false) (b20 : k.blk 20 = false) (b22 : k.blk 22 = false) (h : State.Keeps k s0 s) (a0 : Nat) (a1 : BrakeUnit) :
    OutKeeps k s0 (execBrakeSaturation a0 a1 s) := by
  unfold execBrakeSaturation
  repeat' first
    | with_reducible assumption
    | refine OutKeeps.next ?_
    | with_reducible apply State.touch_keeps
    | with_reducible apply State.brakeSat_keeps

end Sys2Proof.Machine
end

