-- ==== Sys2Proof/Laws/Keeps/Comparator.lean ====
section
/-!
SUPPORT. Sys2Proof/Laws/Keeps/Comparator.lean: what each operation of Machine/Comparator.lean keeps.
-/

set_option Elab.async false

namespace Sys2Proof.Machine

set_option linter.tactic.unusedName false

variable {k : Kept} {s0 : State}

theorem State.auxOffEdge_keeps {s : State} (b11 : k.blk 11 = false) (b14 : k.blk 14 = false) (h : State.Keeps k s0 s) (a1 : Nat) :
    State.Keeps k s0 (State.auxOffEdge s a1) := by
  unfold State.auxOffEdge
  repeat' first
    | with_reducible assumption
    | (show Kept.blk _ _ = false; first | exact b11 | exact b14)
    | (extract_lets -underBinder +onlyGivenNames x; unfold x; clear x)
    | with_reducible apply State.rampsEnd_keeps
    | with_reducible apply State.setAux_keeps

theorem State.auxSense_keeps {s : State} (b11 : k.blk 11 = false) (b14 : k.blk 14 = false) (h : State.Keeps k s0 s) (a1 : Nat) (a2 : Nat) :
    State.Keeps k s0 (State.auxSense s a1 a2) := by
  unfold State.auxSense
  repeat' first
    | with_reducible assumption
    | (show Kept.blk _ _ = false; first | exact b11 | exact b14)
    | with_reducible refine Keeps.ite (P := State.Keeps _ _) ?_ ?_
    | with_reducible apply State.auxOffEdge_keeps
    | split

theorem State.cmpLevel_keeps {s : State} (b5 : k.blk 5 = false) (b11 : k.blk 11 = false) (b14 : k.blk 14 = false) (h : State.Keeps k s0 s) (a1 : Nat) (a2 : Nat) (a3 : Bool) :
    State.Keeps k s0 (State.cmpLevel s a1 a2 a3) := by
  unfold State.cmpLevel
  repeat' first
    | with_reducible assumption
    | (with_reducible show Fld.Listed _; decide)
    | (show Kept.blk _ _ = false; first | exact b5 | exact b11 | exact b14)
    | with_reducible refine Keeps.ite (P := State.Keeps _ _) ?_ ?_
    | (extract_lets -underBinder +onlyGivenNames x; refine Keeps.cut (k := k) (s0 := s0) (x := x) ?_ ?_ <;> first | (intro _; revert x; intro _ _) | (unfold x; clear x))
    | (extract_lets -underBinder +onlyGivenNames x; unfold x; clear x)
    | with_reducible apply State.setFlag_keeps
    | with_reducible apply State.setCmp_keeps
    | with_reducible apply State.brkChange_keeps
    | with_reducible apply State.auxSense_keeps
    | split

theorem State.cmpRaw_keeps {s : State} (b5 : k.blk 5 = false) (b11 : k.blk 11 = false) (b14 : k.blk 14 = false) (h : State.Keeps k s0 s) (a1 : Nat) (a2 : Nat) (a3 : PinVolts) :
    State.Keeps k s0 (State.cmpRaw s a1 a2 a3) := by
  unfold State.cmpRaw
  repeat' first
    | with_reducible assumption
    | (show Kept.blk _ _ = false; first | exact b5 | exact b11 | exact b14)
    | with_reducible refine Keeps.ite (P := State.Keeps _ _) ?_ ?_
    | (extract_lets -underBinder +onlyGivenNames x; refine Keeps.cut (k := k) (s0 := s0) (x := x) ?_ ?_ <;> first | (intro _; revert x; intro _ _) | (unfold x; clear x))
    | (extract_lets -underBinder +onlyGivenNames x; unfold x; clear x)
    | with_reducible apply State.setCmp_keeps
    | with_reducible apply State.cmpLevel_keeps

theorem State.cmpAccept_keeps {s : State} (b11 : k.blk 11 = false) (b18 : k.blk 18 = false) (h : State.Keeps k s0 s) (a1 : Nat) (a2 : Nat) :
    State.Keeps k s0 (State.cmpAccept s a1 a2) := by
  unfold State.cmpAccept
  repeat' first
    | with_reducible assumption
    | (with_reducible show Fld.Listed _; decide)
    | (show Kept.blk _ _ = false; first | exact b11 | exact b18)
    | with_reducible refine Keeps.ite (P := State.Keeps _ _) ?_ ?_
    | (extract_lets -underBinder +onlyGivenNames x; refine Keeps.cut (k := k) (s0 := s0) (x := x) ?_ ?_ <;> first | (intro _; revert x; intro _ _) | (unfold x; clear x))
    | (extract_lets -underBinder +onlyGivenNames x; unfold x; clear x)
    | with_reducible apply State.setCmp_keeps
    | with_reducible apply State.bump_keeps
    | with_reducible apply State.set64_keeps
    | with_reducible apply State.event_keeps
    | split

theorem State.writeCmpDac_keeps {s : State} (hresp : k.resp = false) (b11 : k.blk 11 = false) (h : State.Keeps k s0 s) (a1 : Acc) (a2 : Nat) (a3 : Nat) :
    State.Keeps k s0 (State.writeCmpDac s a1 a2 a3) := by
  unfold State.writeCmpDac
  repeat' first
    | with_reducible assumption
    | (with_reducible show Fld.Listed _; decide)
    | (show Kept.blk _ _ = false; first | exact b11)
    | with_reducible refine Keeps.ite (P := State.Keeps _ _) ?_ ?_
    | (extract_lets -underBinder +onlyGivenNames x; refine Keeps.cut (k := k) (s0 := s0) (x := x) ?_ ?_ <;> first | (intro _; revert x; intro _ _) | (unfold x; clear x))
    | (extract_lets -underBinder +onlyGivenNames x; unfold x; clear x)
    | with_reducible apply State.busErr_keeps
    | with_reducible apply State.setCmp_keeps
    | with_reducible apply State.ok_keeps
    | with_reducible apply State.set_keeps

theorem State.writeCmpTest_keeps {s : State} (hresp : k.resp = false) (b11 : k.blk 11 = false) (h : State.Keeps k s0 s) (a1 : Acc) (a2 : Nat) (a3 : Nat) :
    State.Keeps k s0 (State.writeCmpTest s a1 a2 a3) := by
  unfold State.writeCmpTest
  repeat' first
    | with_reducible assumption
    | (with_reducible show Fld.Listed _; decide)
    | (show Kept.blk _ _ = false; first | exact b11)
    | with_reducible refine Keeps.ite (P := State.Keeps _ _) ?_ ?_
    | (extract_lets -underBinder +onlyGivenNames x; refine Keeps.cut (k := k) (s0 := s0) (x := x) ?_ ?_ <;> first | (intro _; revert x; intro _ _) | (unfold x; clear x))
    | (extract_lets -underBinder +onlyGivenNames x; unfold x; clear x)
    | with_reducible apply State.busErr_keeps
    | with_reducible apply State.set_keeps
    | with_reducible apply State.ok_keeps
    | with_reducible apply State.setCmp_keeps

theorem State.cmpResume_keeps {s : State} (b11 : k.blk 11 = false) (h : State.Keeps k s0 s) (a1 : Nat) :
    State.Keeps k s0 (State.cmpResume s a1) := by
  unfold State.cmpResume
  repeat' first
    | with_reducible assumption
    | (with_reducible show Fld.Listed _; decide)
    | (show Kept.blk _ _ = false; first | exact b11)
    | with_reducible refine Keeps.ite (P := State.Keeps _ _) ?_ ?_
    | (extract_lets -underBinder +onlyGivenNames x; refine Keeps.cut (k := k) (s0 := s0) (x := x) ?_ ?_ <;> first | (intro _; revert x; intro _ _) | (unfold x; clear x))
    | (extract_lets -underBinder +onlyGivenNames x; unfold x; clear x)
    | with_reducible apply State.setCmp_keeps
    | with_reducible apply State.set_keeps
    | with_reducible apply State.setFlag_keeps

theorem State.cmpModeHold_keeps {s : State} (b11 : k.blk 11 = false) (h : State.Keeps k s0 s) (a1 : Nat) :
    State.Keeps k s0 (State.cmpModeHold s a1) := by
  unfold State.cmpModeHold
  repeat' first
    | with_reducible assumption
    | (with_reducible show Fld.Listed _; decide)
    | (show Kept.blk _ _ = false; first | exact b11)
    | with_reducible refine Keeps.ite (P := State.Keeps _ _) ?_ ?_
    | (extract_lets -underBinder +onlyGivenNames x; refine Keeps.cut (k := k) (s0 := s0) (x := x) ?_ ?_ <;> first | (intro _; revert x; intro _ _) | (unfold x; clear x))
    | (extract_lets -underBinder +onlyGivenNames x; unfold x; clear x)
    | with_reducible apply State.set_keeps
    | with_reducible apply State.setCmp_keeps

theorem State.cmpHoldEnd_keeps {s : State} (b5 : k.blk 5 = false) (b11 : k.blk 11 = false) (b14 : k.blk 14 = false) (h : State.Keeps k s0 s) (a1 : Nat) (a2 : Nat) :
    State.Keeps k s0 (State.cmpHoldEnd s a1 a2) := by
  unfold State.cmpHoldEnd
  repeat' first
    | with_reducible assumption
    | (show Kept.blk _ _ = false; first | exact b5 | exact b11 | exact b14)
    | with_reducible refine Keeps.ite (P := State.Keeps _ _) ?_ ?_
    | (extract_lets -underBinder +onlyGivenNames x; refine Keeps.cut (k := k) (s0 := s0) (x := x) ?_ ?_ <;> first | (intro _; revert x; intro _ _) | (unfold x; clear x))
    | (extract_lets -underBinder +onlyGivenNames x; unfold x; clear x)
    | with_reducible apply State.setCmp_keeps
    | with_reducible apply State.cmpLevel_keeps

theorem State.cmpEnable_keeps {s : State} (b11 : k.blk 11 = false) (h : State.Keeps k s0 s) (a1 : Nat) :
    State.Keeps k s0 (State.cmpEnable s a1) := by
  unfold State.cmpEnable
  repeat' first
    | with_reducible assumption
    | (with_reducible show Fld.Listed _; decide)
    | (show Kept.blk _ _ = false; first | exact b11)
    | with_reducible refine Keeps.ite (P := State.Keeps _ _) ?_ ?_
    | (extract_lets -underBinder +onlyGivenNames x; refine Keeps.cut (k := k) (s0 := s0) (x := x) ?_ ?_ <;> first | (intro _; revert x; intro _ _) | (unfold x; clear x))
    | (extract_lets -underBinder +onlyGivenNames x; unfold x; clear x)
    | with_reducible apply State.setCmp_keeps
    | with_reducible apply State.set_keeps
    | with_reducible apply State.setFlag_keeps

theorem State.cmpDisable_keeps {s : State} (b11 : k.blk 11 = false) (h : State.Keeps k s0 s) (a1 : Nat) :
    State.Keeps k s0 (State.cmpDisable s a1) := by
  unfold State.cmpDisable
  repeat' first
    | with_reducible assumption
    | (with_reducible show Fld.Listed _; decide)
    | (show Kept.blk _ _ = false; first | exact b11)
    | with_reducible refine Keeps.ite (P := State.Keeps _ _) ?_ ?_
    | (extract_lets -underBinder +onlyGivenNames x; refine Keeps.cut (k := k) (s0 := s0) (x := x) ?_ ?_ <;> first | (intro _; revert x; intro _ _) | (unfold x; clear x))
    | (extract_lets -underBinder +onlyGivenNames x; unfold x; clear x)
    | with_reducible apply State.set_keeps
    | with_reducible apply State.setCmp_keeps
    | with_reducible apply State.rampEnd_keeps
    | with_reducible apply State.setFlag_keeps

theorem State.writeCmpCtrl_keeps {s : State} (hresp : k.resp = false) (b11 : k.blk 11 = false) (h : State.Keeps k s0 s) (a1 : Acc) (a2 : Nat) (a3 : Nat) :
    State.Keeps k s0 (State.writeCmpCtrl s a1 a2 a3) := by
  unfold State.writeCmpCtrl
  repeat' first
    | with_reducible assumption
    | with_reducible refine Keeps.ite (P := State.Keeps _ _) ?_ ?_
    | with_reducible apply State.busErr_keeps
    | with_reducible apply State.ok_keeps
    | with_reducible apply State.cmpDisable_keeps
    | with_reducible apply State.cmpEnable_keeps

theorem execComparatorRawEdge_keeps {s : State} (b5 : k.blk 5 = false) (b11 : k.blk 11 = false) (b14 : k.blk 14 = false) (h : State.Keeps k s0 s) (a0 : Nat) (a1 : Fin 32) (a2 : PinVolts) :
    OutKeeps k s0 (execComparatorRawEdge a0 a1 a2 s) := by
  unfold execComparatorRawEdge
  repeat' first
    | with_reducible assumption
    | (show Kept.blk _ _ = false; first | exact b5 | exact b11 | exact b14)
    | refine OutKeeps.next ?_
    | with_reducible apply State.cmpRaw_keeps
    | with_reducible apply State.touch_keeps

theorem execComparatorEdgeAccepted_keeps {s : State} (b11 : k.blk 11 = false) (b18 : k.blk 18 = false) (h : State.Keeps k s0 s) (a0 : Nat) (a1 : Fin 32) :
    OutKeeps k s0 (execComparatorEdgeAccepted a0 a1 s) := by
  unfold execComparatorEdgeAccepted
  repeat' first
    | with_reducible assumption
    | refine OutKeeps.next ?_
    | with_reducible apply State.touch_keeps
    | with_reducible apply State.cmpAccept_keeps

theorem execSlopeRampStart_keeps {s : State} (b11 : k.blk 11 = false) (h : State.Keeps k s0 s) (a0 : Nat) (a1 : Fin 32) :
    OutKeeps k s0 (execSlopeRampStart a0 a1 s) := by
  unfold execSlopeRampStart
  repeat' first
    | with_reducible assumption
    | (show Kept.blk _ _ = false; first | exact b11)
    | refine OutKeeps.next ?_
    | with_reducible refine Keeps.ite (P := State.Keeps _ _) ?_ ?_
    | (extract_lets -underBinder +onlyGivenNames x; refine Keeps.cut (k := k) (s0 := s0) (x := x) ?_ ?_ <;> first | (intro _; revert x; intro _ _) | (unfold x; clear x))
    | (extract_lets -underBinder +onlyGivenNames x; unfold x; clear x)
    | with_reducible apply State.touch_keeps
    | with_reducible apply State.rampStart_keeps
    | split

theorem execSlopeRampEnd_keeps {s : State} (b11 : k.blk 11 = false) (h : State.Keeps k s0 s) (a0 : Nat) (a1 : Fin 32) :
    OutKeeps k s0 (execSlopeRampEnd a0 a1 s) := by
  unfold execSlopeRampEnd
  repeat' first
    | with_reducible assumption
    | (show Kept.blk _ _ = false; first | exact b11)
    | refine OutKeeps.next ?_
    | with_reducible refine Keeps.ite (P := State.Keeps _ _) ?_ ?_
    | (extract_lets -underBinder +onlyGivenNames x; refine Keeps.cut (k := k) (s0 := s0) (x := x) ?_ ?_ <;> first | (intro _; revert x; intro _ _) | (unfold x; clear x))
    | (extract_lets -underBinder +onlyGivenNames x; unfold x; clear x)
    | with_reducible apply State.touch_keeps
    | with_reducible apply State.rampEnd_keeps
    | split

theorem execCmpDacWrite_keeps {s : State} (hresp : k.resp = false) (b11 : k.blk 11 = false) (h : State.Keeps k s0 s) (a0 : Acc) (a1 : Fin 32) (a2 : Word) :
    OutKeeps k s0 (execCmpDacWrite a0 a1 a2 s) := by
  unfold execCmpDacWrite
  repeat' first
    | with_reducible assumption
    | refine OutKeeps.next ?_
    | with_reducible apply State.touch_keeps
    | with_reducible apply State.writeCmpDac_keeps

theorem execCmpTestWrite_keeps {s : State} (hresp : k.resp = false) (b11 : k.blk 11 = false) (h : State.Keeps k s0 s) (a0 : Acc) (a1 : Fin 32) (a2 : Word) :
    OutKeeps k s0 (execCmpTestWrite a0 a1 a2 s) := by
  unfold execCmpTestWrite
  repeat' first
    | with_reducible assumption
    | refine OutKeeps.next ?_
    | with_reducible apply State.touch_keeps
    | with_reducible apply State.writeCmpTest_keeps

theorem execCmpTestRoutesResume_keeps {s : State} (b11 : k.blk 11 = false) (h : State.Keeps k s0 s) (a0 : Nat) (a1 : Fin 32) :
    OutKeeps k s0 (execCmpTestRoutesResume a0 a1 s) := by
  unfold execCmpTestRoutesResume
  repeat' first
    | with_reducible assumption
    | refine OutKeeps.next ?_
    | with_reducible apply State.touch_keeps
    | with_reducible apply State.cmpResume_keeps

theorem execCmpModeHoldEnd_keeps {s : State} (b5 : k.blk 5 = false) (b11 : k.blk 11 = false) (b14 : k.blk 14 = false) (h : State.Keeps k s0 s) (a0 : Nat) (a1 : Fin 32) :
    OutKeeps k s0 (execCmpModeHoldEnd a0 a1 s) := by
  unfold execCmpModeHoldEnd
  repeat' first
    | with_reducible assumption
    | refine OutKeeps.next ?_
    | with_reducible apply State.touch_keeps
    | with_reducible apply State.cmpHoldEnd_keeps

theorem execCmpEnable_keeps {s : State} (hresp : k.resp = false) (b11 : k.blk 11 = false) (h : State.Keeps k s0 s) (a0 : Acc) (a1 : Fin 32) :
    OutKeeps k s0 (execCmpEnable a0 a1 s) := by
  unfold execCmpEnable
  repeat' first
    | with_reducible assumption
    | refine OutKeeps.next ?_
    | with_reducible apply State.touch_keeps
    | with_reducible apply State.writeCmpCtrl_keeps

theorem execCmpDisable_keeps {s : State} (hresp : k.resp = false) (b11 : k.blk 11 = false) (h : State.Keeps k s0 s) (a0 : Acc) (a1 : Fin 32) :
    OutKeeps k s0 (execCmpDisable a0 a1 s) := by
  unfold execCmpDisable
  repeat' first
    | with_reducible assumption
    | refine OutKeeps.next ?_
    | with_reducible apply State.touch_keeps
    | with_reducible apply State.writeCmpCtrl_keeps

end Sys2Proof.Machine
end

