-- ==== Sys2Proof/Laws/Keeps/AuxReg.lean ====
section
/-!
SUPPORT. Sys2Proof/Laws/Keeps/AuxReg.lean: what each operation of Machine/AuxReg.lean keeps.
-/

set_option Elab.async false

namespace Sys2Proof.Machine

set_option linter.tactic.unusedName false

variable {k : Kept} {s0 : State}

theorem State.tryT7_keeps {s : State} (b0 : k.blk 0 = false) (h : State.Keeps k s0 s) :
    State.Keeps k s0 (State.tryT7 s) := by
  unfold State.tryT7
  repeat' first
    | with_reducible assumption
    | (show Kept.blk _ _ = false; first | exact b0)
    | with_reducible refine Keeps.ite (P := State.Keeps _ _) ?_ ?_
    | with_reducible apply State.startStep_keeps

theorem State.auxGo_keeps {s : State} (b0 : k.blk 0 = false) (b14 : k.blk 14 = false) (b18 : k.blk 18 = false) (h : State.Keeps k s0 s) (a1 : Nat) (a2 : Nat) :
    State.Keeps k s0 (State.auxGo s a1 a2) := by
  unfold State.auxGo
  repeat' first
    | with_reducible assumption
    | (with_reducible show Fld.Listed _; decide)
    | (show Kept.blk _ _ = false; first | exact b0 | exact b14 | exact b18)
    | with_reducible refine Keeps.ite (P := State.Keeps _ _) ?_ ?_
    | with_reducible apply State.tryT7_keeps
    | with_reducible apply State.raise_keeps
    | with_reducible apply State.set_keeps

theorem State.auxEvent_keeps {s : State} (b18 : k.blk 18 = false) (h : State.Keeps k s0 s) (a1 : Fld) (a2 : Nat) (l1 : a1.Listed) (m1 : k.blk a1.block = false) :
    State.Keeps k s0 (State.auxEvent s a1 a2) := by
  unfold State.auxEvent
  repeat' first
    | with_reducible assumption
    | with_reducible refine Keeps.ite (P := State.Keeps _ _) ?_ ?_
    | with_reducible apply State.event_keeps

theorem State.auxAdvance_keeps {s : State} (b14 : k.blk 14 = false) (h : State.Keeps k s0 s) (a1 : Nat) (a2 : Nat) :
    State.Keeps k s0 (State.auxAdvance s a1 a2) := by
  unfold State.auxAdvance
  repeat' first
    | with_reducible assumption
    | (with_reducible show Fld.Listed _; decide)
    | (show Kept.blk _ _ = false; first | exact b14)
    | (extract_lets -underBinder +onlyGivenNames x; refine Keeps.cut (k := k) (s0 := s0) (x := x) ?_ ?_ <;> first | (intro _; revert x; intro _ _) | (unfold x; clear x))
    | (extract_lets -underBinder +onlyGivenNames x; unfold x; clear x)
    | with_reducible refine Keeps.foldl (fun _ _ _ => ?_) ?_
    | with_reducible apply State.setFlag_keeps
    | with_reducible apply State.setAux_keeps

theorem State.auxOpen_keeps {s : State} (b14 : k.blk 14 = false) (b18 : k.blk 18 = false) (b20 : k.blk 20 = false) (h : State.Keeps k s0 s) (a1 : Nat) (a2 : Nat) :
    State.Keeps k s0 (State.auxOpen s a1 a2) := by
  unfold State.auxOpen
  repeat' first
    | with_reducible assumption
    | (with_reducible show Fld.Listed _; decide)
    | (show Kept.blk _ _ = false; first | exact b14 | exact b18 | exact b20)
    | (extract_lets -underBinder +onlyGivenNames x; unfold x; clear x)
    | with_reducible apply State.openOp_keeps
    | with_reducible apply State.auxEvent_keeps
    | with_reducible apply State.setAux_keeps
    | split
    | with_reducible refine Keeps.some (by assumption) ?_

theorem State.auxClose_keeps {s : State} (b14 : k.blk 14 = false) (b18 : k.blk 18 = false) (b20 : k.blk 20 = false) (h : State.Keeps k s0 s) (a1 : Nat) (a2 : Nat) :
    State.Keeps k s0 (State.auxClose s a1 a2) := by
  unfold State.auxClose
  repeat' first
    | with_reducible assumption
    | (extract_lets -underBinder +onlyGivenNames x; unfold x; clear x)
    | with_reducible apply State.setAux_keeps
    | with_reducible apply State.closeOp_keeps
    | split

theorem State.auxBegin_keeps {s : State} (b0 : k.blk 0 = false) (b14 : k.blk 14 = false) (b18 : k.blk 18 = false) (h : State.Keeps k s0 s) (a1 : Nat) (a2 : Nat) (a3 : Bool) :
    State.Keeps k s0 (State.auxBegin s a1 a2 a3) := by
  unfold State.auxBegin
  repeat' first
    | with_reducible assumption
    | (extract_lets -underBinder +onlyGivenNames x; refine Keeps.cut (k := k) (s0 := s0) (x := x) ?_ ?_ <;> first | (intro _; revert x; intro _ _) | (unfold x; clear x))
    | (extract_lets -underBinder +onlyGivenNames x; unfold x; clear x)
    | with_reducible apply State.setAux_keeps
    | with_reducible apply State.auxGo_keeps

theorem State.auxStart_keeps {s : State} (b0 : k.blk 0 = false) (b14 : k.blk 14 = false) (b18 : k.blk 18 = false) (b20 : k.blk 20 = false) (h : State.Keeps k s0 s) (a1 : Nat) (a2 : Nat) :
    State.Keeps k s0 (State.auxStart s a1 a2) := by
  unfold State.auxStart
  repeat' first
    | with_reducible assumption
    | (with_reducible show Fld.Listed _; decide)
    | (show Kept.blk _ _ = false; first | exact b0 | exact b14 | exact b18 | exact b20)
    | with_reducible refine Keeps.ite (P := State.Keeps _ _) ?_ ?_
    | (extract_lets -underBinder +onlyGivenNames x; refine Keeps.cut (k := k) (s0 := s0) (x := x) ?_ ?_ <;> first | (intro _; revert x; intro _ _) | (unfold x; clear x))
    | (extract_lets -underBinder +onlyGivenNames x; unfold x; clear x)
    | with_reducible refine Keeps.foldl (fun _ _ _ => ?_) ?_
    | with_reducible apply State.set_keeps
    | with_reducible apply State.setAux_keeps
    | with_reducible apply State.auxBegin_keeps
    | with_reducible apply State.progOp_keeps
    | with_reducible apply State.auxOpen_keeps
    | split

theorem State.auxFail_keeps {s : State} (b0 : k.blk 0 = false) (b5 : k.blk 5 = false) (b6 : k.blk 6 = false) (b11 : k.blk 11 = false) (b14 : k.blk 14 = false) (b18 : k.blk 18 = false) (b20 : k.blk 20 = false) (b21 : k.blk 21 = false) (b22 : k.blk 22 = false) (h : State.Keeps k s0 s) (a1 : Nat) (a2 : Nat) :
    State.Keeps k s0 (State.auxFail s a1 a2) := by
  unfold State.auxFail
  repeat' first
    | with_reducible assumption
    | (with_reducible show Fld.Listed _; decide)
    | (show Kept.blk _ _ = false; first | exact b0 | exact b5 | exact b6 | exact b11 | exact b14 | exact b18 | exact b20 | exact b21 | exact b22)
    | with_reducible refine Keeps.ite (P := State.Keeps _ _) ?_ ?_
    | (extract_lets -underBinder +onlyGivenNames x; refine Keeps.cut (k := k) (s0 := s0) (x := x) ?_ ?_ <;> first | (intro _; revert x; intro _ _) | (unfold x; clear x))
    | (extract_lets -underBinder +onlyGivenNames x; unfold x; clear x)
    | with_reducible refine Keeps.foldl (fun _ _ _ => ?_) ?_
    | with_reducible apply State.auxOffEdge_keeps
    | with_reducible apply State.setAux_keeps
    | with_reducible apply State.auxGo_keeps
    | with_reducible apply State.auxClose_keeps
    | with_reducible apply State.auxEvent_keeps
    | with_reducible apply State.faultF2_keeps
    | with_reducible apply State.bump_keeps
    | (with_reducible refine Keeps.upd (h := ?_); first | with_reducible assumption | with_reducible apply State.auxOffEdge_keeps | with_reducible apply State.setAux_keeps | with_reducible apply State.auxGo_keeps | with_reducible apply State.auxClose_keeps | with_reducible apply State.auxEvent_keeps | with_reducible apply State.faultF2_keeps | with_reducible apply State.bump_keeps | with_reducible refine Keeps.ite (P := State.Keeps _ _) ?_ ?_ | with_reducible refine Keeps.foldl (fun _ _ _ => ?_) ?_)

theorem State.auxCheck_keeps {s : State} (b0 : k.blk 0 = false) (b5 : k.blk 5 = false) (b6 : k.blk 6 = false) (b11 : k.blk 11 = false) (b14 : k.blk 14 = false) (b18 : k.blk 18 = false) (b20 : k.blk 20 = false) (b21 : k.blk 21 = false) (b22 : k.blk 22 = false) (h : State.Keeps k s0 s) (a1 : Nat) (a2 : Nat) :
    State.Keeps k s0 (State.auxCheck s a1 a2) := by
  unfold State.auxCheck
  repeat' first
    | with_reducible assumption
    | with_reducible refine Keeps.ite (P := State.Keeps _ _) ?_ ?_
    | with_reducible apply State.setAux_keeps
    | with_reducible apply State.auxFail_keeps

theorem State.auxRunShort_keeps {s : State} (b0 : k.blk 0 = false) (b5 : k.blk 5 = false) (b6 : k.blk 6 = false) (b11 : k.blk 11 = false) (b14 : k.blk 14 = false) (b18 : k.blk 18 = false) (b20 : k.blk 20 = false) (b21 : k.blk 21 = false) (b22 : k.blk 22 = false) (h : State.Keeps k s0 s) (a1 : Nat) (a2 : Nat) :
    State.Keeps k s0 (State.auxRunShort s a1 a2) := by
  unfold State.auxRunShort
  repeat' first
    | with_reducible assumption
    | with_reducible refine Keeps.ite (P := State.Keeps _ _) ?_ ?_
    | with_reducible apply State.auxFail_keeps
    | split

theorem State.auxRetry_keeps {s : State} (b0 : k.blk 0 = false) (b14 : k.blk 14 = false) (b18 : k.blk 18 = false) (b20 : k.blk 20 = false) (h : State.Keeps k s0 s) (a1 : Nat) (a2 : Nat) :
    State.Keeps k s0 (State.auxRetry s a1 a2) := by
  unfold State.auxRetry
  repeat' first
    | with_reducible assumption
    | (with_reducible show Fld.Listed _; decide)
    | (show Kept.blk _ _ = false; first | exact b0 | exact b14 | exact b18 | exact b20)
    | with_reducible refine Keeps.ite (P := State.Keeps _ _) ?_ ?_
    | (extract_lets -underBinder +onlyGivenNames x; unfold x; clear x)
    | with_reducible apply State.set_keeps
    | with_reducible apply State.auxBegin_keeps
    | with_reducible apply State.auxOpen_keeps
    | with_reducible apply State.setAux_keeps
    | with_reducible apply State.progOp_keeps
    | split

theorem State.auxClrShort_keeps {s : State} (b0 : k.blk 0 = false) (b14 : k.blk 14 = false) (b18 : k.blk 18 = false) (b20 : k.blk 20 = false) (h : State.Keeps k s0 s) (a1 : Nat) (a2 : Nat) :
    State.Keeps k s0 (State.auxClrShort s a1 a2) := by
  unfold State.auxClrShort
  repeat' first
    | with_reducible assumption
    | (with_reducible show Fld.Listed _; decide)
    | (show Kept.blk _ _ = false; first | exact b0 | exact b14 | exact b18 | exact b20)
    | with_reducible refine Keeps.ite (P := State.Keeps _ _) ?_ ?_
    | (extract_lets -underBinder +onlyGivenNames x; refine Keeps.cut (k := k) (s0 := s0) (x := x) ?_ ?_ <;> first | (intro _; revert x; intro _ _) | (unfold x; clear x))
    | (extract_lets -underBinder +onlyGivenNames x; unfold x; clear x)
    | with_reducible apply State.set_keeps
    | with_reducible apply State.auxGo_keeps
    | with_reducible apply State.setAux_keeps
    | with_reducible apply State.auxBegin_keeps
    | with_reducible apply State.auxOpen_keeps
    | with_reducible apply State.reopenOp_keeps
    | with_reducible apply State.auxEvent_keeps
    | split
    | with_reducible refine Keeps.some (by assumption) ?_

theorem State.auxOwn_keeps {s : State} (b0 : k.blk 0 = false) (b14 : k.blk 14 = false) (b18 : k.blk 18 = false) (h : State.Keeps k s0 s) (a1 : Nat) (a2 : Nat) :
    State.Keeps k s0 (State.auxOwn s a1 a2) := by
  unfold State.auxOwn
  repeat' first
    | with_reducible assumption
    | (show Kept.blk _ _ = false; first | exact b0 | exact b14 | exact b18)
    | with_reducible refine Keeps.ite (P := State.Keeps _ _) ?_ ?_
    | (extract_lets -underBinder +onlyGivenNames x; refine Keeps.cut (k := k) (s0 := s0) (x := x) ?_ ?_ <;> first | (intro _; revert x; intro _ _) | (unfold x; clear x))
    | (extract_lets -underBinder +onlyGivenNames x; unfold x; clear x)
    | with_reducible refine Keeps.foldl (fun _ _ _ => ?_) ?_
    | with_reducible apply State.setAux_keeps
    | with_reducible apply State.auxGo_keeps
    | split

theorem State.auxArrive_keeps {s : State} (b0 : k.blk 0 = false) (b14 : k.blk 14 = false) (b18 : k.blk 18 = false) (b20 : k.blk 20 = false) (h : State.Keeps k s0 s) (a1 : Nat) (a2 : Nat) :
    State.Keeps k s0 (State.auxArrive s a1 a2) := by
  unfold State.auxArrive
  repeat' first
    | with_reducible assumption
    | with_reducible refine Keeps.ite (P := State.Keeps _ _) ?_ ?_
    | (extract_lets -underBinder +onlyGivenNames x; unfold x; clear x)
    | with_reducible apply State.auxGo_keeps
    | with_reducible apply State.setAux_keeps
    | with_reducible apply State.auxClose_keeps

theorem State.auxComp_keeps {s : State} (b11 : k.blk 11 = false) (b14 : k.blk 14 = false) (b18 : k.blk 18 = false) (h : State.Keeps k s0 s) (a1 : Nat) :
    State.Keeps k s0 (State.auxComp s a1) := by
  unfold State.auxComp
  repeat' first
    | with_reducible assumption
    | (with_reducible show Fld.Listed _; decide)
    | (show Kept.blk _ _ = false; first | exact b11 | exact b14 | exact b18)
    | with_reducible refine Keeps.ite (P := State.Keeps _ _) ?_ ?_
    | (extract_lets -underBinder +onlyGivenNames x; refine Keeps.cut (k := k) (s0 := s0) (x := x) ?_ ?_ <;> first | (intro _; revert x; intro _ _) | (unfold x; clear x))
    | (extract_lets -underBinder +onlyGivenNames x; unfold x; clear x)
    | with_reducible apply State.set_keeps
    | with_reducible apply State.nextFree_keeps
    | with_reducible apply State.setAux_keeps
    | with_reducible apply State.auxEvent_keeps

theorem State.auxDrainStep_keeps {s : State} (b0 : k.blk 0 = false) (b11 : k.blk 11 = false) (b14 : k.blk 14 = false) (b18 : k.blk 18 = false) (b20 : k.blk 20 = false) (h : State.Keeps k s0 s) (a1 : Nat) (a2 : Nat) :
    State.Keeps k s0 (State.auxDrainStep s a1 a2) := by
  unfold State.auxDrainStep
  repeat' first
    | with_reducible assumption
    | (show Kept.blk _ _ = false; first | exact b0 | exact b11 | exact b14 | exact b18 | exact b20)
    | with_reducible refine Keeps.ite (P := State.Keeps _ _) ?_ ?_
    | (extract_lets -underBinder +onlyGivenNames x; refine Keeps.cut (k := k) (s0 := s0) (x := x) ?_ ?_ <;> first | (intro _; revert x; intro _ _) | (unfold x; clear x))
    | (extract_lets -underBinder +onlyGivenNames x; unfold x; clear x)
    | with_reducible apply State.auxComp_keeps
    | with_reducible apply State.setAux_keeps
    | with_reducible apply State.auxGo_keeps
    | with_reducible apply State.auxOffEdge_keeps
    | with_reducible apply State.auxStart_keeps

theorem State.auxPeriod_keeps {s : State} (b0 : k.blk 0 = false) (b11 : k.blk 11 = false) (b14 : k.blk 14 = false) (b18 : k.blk 18 = false) (b20 : k.blk 20 = false) (h : State.Keeps k s0 s) (a1 : Nat) (a2 : Nat) (a3 : Nat) :
    State.Keeps k s0 (State.auxPeriod s a1 a2 a3) := by
  unfold State.auxPeriod
  repeat' first
    | with_reducible assumption
    | (with_reducible show Fld.Listed _; decide)
    | (show Kept.blk _ _ = false; first | exact b0 | exact b11 | exact b14 | exact b18 | exact b20)
    | with_reducible refine Keeps.ite (P := State.Keeps _ _) ?_ ?_
    | (extract_lets -underBinder +onlyGivenNames x; refine Keeps.cut (k := k) (s0 := s0) (x := x) ?_ ?_ <;> first | (intro _; revert x; intro _ _) | (unfold x; clear x))
    | (extract_lets -underBinder +onlyGivenNames x; unfold x; clear x)
    | with_reducible apply State.set_keeps
    | with_reducible apply State.rampsStart_keeps
    | with_reducible apply State.setAux_keeps
    | with_reducible apply State.auxDrainStep_keeps
    | with_reducible apply State.auxArrive_keeps
    | with_reducible apply State.auxOwn_keeps
    | with_reducible apply State.auxAdvance_keeps
    | with_reducible apply State.auxComp_keeps

theorem State.auxOntimeEnd_keeps {s : State} (b11 : k.blk 11 = false) (b14 : k.blk 14 = false) (h : State.Keeps k s0 s) (a1 : Nat) (a2 : Nat) :
    State.Keeps k s0 (State.auxOntimeEnd s a1 a2) := by
  unfold State.auxOntimeEnd
  repeat' first
    | with_reducible assumption
    | (show Kept.blk _ _ = false; first | exact b11 | exact b14)
    | with_reducible refine Keeps.ite (P := State.Keeps _ _) ?_ ?_
    | (extract_lets -underBinder +onlyGivenNames x; unfold x; clear x)
    | with_reducible apply State.auxOffEdge_keeps

theorem State.auxDisable_keeps {s : State} (b0 : k.blk 0 = false) (b11 : k.blk 11 = false) (b14 : k.blk 14 = false) (b18 : k.blk 18 = false) (b20 : k.blk 20 = false) (h : State.Keeps k s0 s) (a1 : Nat) (a2 : Nat) :
    State.Keeps k s0 (State.auxDisable s a1 a2) := by
  unfold State.auxDisable
  repeat' first
    | with_reducible assumption
    | (show Kept.blk _ _ = false; first | exact b0 | exact b11 | exact b14 | exact b18 | exact b20)
    | with_reducible refine Keeps.ite (P := State.Keeps _ _) ?_ ?_
    | (extract_lets -underBinder +onlyGivenNames x; refine Keeps.cut (k := k) (s0 := s0) (x := x) ?_ ?_ <;> first | (intro _; revert x; intro _ _) | (unfold x; clear x))
    | (extract_lets -underBinder +onlyGivenNames x; unfold x; clear x)
    | with_reducible refine Keeps.foldl (fun _ _ _ => ?_) ?_
    | with_reducible apply State.auxClose_keeps
    | with_reducible apply State.setAux_keeps
    | with_reducible apply State.auxGo_keeps
    | with_reducible apply State.auxOffEdge_keeps

theorem State.auxDisableNow_keeps {s : State} (b0 : k.blk 0 = false) (b11 : k.blk 11 = false) (b14 : k.blk 14 = false) (b18 : k.blk 18 = false) (b20 : k.blk 20 = false) (h : State.Keeps k s0 s) (a1 : Nat) :
    State.Keeps k s0 (State.auxDisableNow s a1) := by
  unfold State.auxDisableNow
  repeat' first
    | with_reducible assumption
    | (show Kept.blk _ _ = false; first | exact b0 | exact b11 | exact b14 | exact b18 | exact b20)
    | with_reducible refine Keeps.ite (P := State.Keeps _ _) ?_ ?_
    | (extract_lets -underBinder +onlyGivenNames x; refine Keeps.cut (k := k) (s0 := s0) (x := x) ?_ ?_ <;> first | (intro _; revert x; intro _ _) | (unfold x; clear x))
    | (extract_lets -underBinder +onlyGivenNames x; unfold x; clear x)
    | with_reducible refine Keeps.foldl (fun _ _ _ => ?_) ?_
    | with_reducible apply State.setAux_keeps
    | with_reducible apply State.auxClose_keeps
    | with_reducible apply State.auxOffEdge_keeps
    | with_reducible apply State.auxGo_keeps

theorem State.auxEnable_keeps {s : State} (b0 : k.blk 0 = false) (b14 : k.blk 14 = false) (b18 : k.blk 18 = false) (b20 : k.blk 20 = false) (h : State.Keeps k s0 s) (a1 : Nat) (a2 : Nat) :
    State.Keeps k s0 (State.auxEnable s a1 a2) := by
  unfold State.auxEnable
  repeat' first
    | with_reducible assumption
    | with_reducible refine Keeps.ite (P := State.Keeps _ _) ?_ ?_
    | (extract_lets -underBinder +onlyGivenNames x; unfold x; clear x)
    | with_reducible apply State.setAux_keeps
    | with_reducible apply State.auxStart_keeps

theorem State.writeAuxCtrl_keeps {s : State} (hresp : k.resp = false) (b0 : k.blk 0 = false) (b11 : k.blk 11 = false) (b14 : k.blk 14 = false) (b18 : k.blk 18 = false) (b20 : k.blk 20 = false) (h : State.Keeps k s0 s) (a1 : Acc) (a2 : Nat) (a3 : Nat) :
    State.Keeps k s0 (State.writeAuxCtrl s a1 a2 a3) := by
  unfold State.writeAuxCtrl
  repeat' first
    | with_reducible assumption
    | with_reducible refine Keeps.ite (P := State.Keeps _ _) ?_ ?_
    | (extract_lets -underBinder +onlyGivenNames x; refine Keeps.cut (k := k) (s0 := s0) (x := x) ?_ ?_ <;> first | (intro _; revert x; intro _ _) | (unfold x; clear x))
    | with_reducible apply State.busErr_keeps
    | with_reducible apply State.auxClrShort_keeps
    | with_reducible apply State.auxDisableNow_keeps
    | with_reducible apply State.auxDisable_keeps
    | with_reducible apply State.auxEnable_keeps
    | with_reducible apply State.ok_keeps

theorem State.auxT6_keeps {s : State} (b0 : k.blk 0 = false) (b11 : k.blk 11 = false) (b14 : k.blk 14 = false) (b18 : k.blk 18 = false) (b20 : k.blk 20 = false) (h : State.Keeps k s0 s) (a1 : Nat) :
    State.Keeps k s0 (State.auxT6 s a1) := by
  unfold State.auxT6
  repeat' first
    | with_reducible assumption
    | (with_reducible show Fld.Listed _; decide)
    | (show Kept.blk _ _ = false; first | exact b0 | exact b11 | exact b14 | exact b18 | exact b20)
    | (extract_lets -underBinder +onlyGivenNames x; refine Keeps.cut (k := k) (s0 := s0) (x := x) ?_ ?_ <;> first | (intro _; revert x; intro _ _) | (unfold x; clear x))
    | (extract_lets -underBinder +onlyGivenNames x; unfold x; clear x)
    | with_reducible refine Keeps.foldl (fun _ _ _ => ?_) ?_
    | with_reducible apply State.set_keeps
    | with_reducible apply State.cmpEnable_keeps
    | with_reducible apply State.auxStart_keeps

theorem execAuxPeriodStart_keeps {s : State} (b0 : k.blk 0 = false) (b11 : k.blk 11 = false) (b14 : k.blk 14 = false) (b18 : k.blk 18 = false) (b20 : k.blk 20 = false) (h : State.Keeps k s0 s) (a0 : Nat) (a1 : Fin 8) (a2 : Fin 4096) :
    OutKeeps k s0 (execAuxPeriodStart a0 a1 a2 s) := by
  unfold execAuxPeriodStart
  repeat' first
    | with_reducible assumption
    | refine OutKeeps.next ?_
    | with_reducible apply State.touch_keeps
    | with_reducible apply State.auxPeriod_keeps

theorem execAuxOntimeEnd_keeps {s : State} (b11 : k.blk 11 = false) (b14 : k.blk 14 = false) (h : State.Keeps k s0 s) (a0 : Nat) (a1 : Fin 8) :
    OutKeeps k s0 (execAuxOntimeEnd a0 a1 s) := by
  unfold execAuxOntimeEnd
  repeat' first
    | with_reducible assumption
    | (show Kept.blk _ _ = false; first | exact b11 | exact b14)
    | refine OutKeeps.next ?_
    | with_reducible apply State.auxOntimeEnd_keeps
    | with_reducible apply State.touch_keeps

theorem execAuxShortCheck_keeps {s : State} (b0 : k.blk 0 = false) (b5 : k.blk 5 = false) (b6 : k.blk 6 = false) (b11 : k.blk 11 = false) (b14 : k.blk 14 = false) (b18 : k.blk 18 = false) (b20 : k.blk 20 = false) (b21 : k.blk 21 = false) (b22 : k.blk 22 = false) (h : State.Keeps k s0 s) (a0 : Nat) (a1 : Fin 8) :
    OutKeeps k s0 (execAuxShortCheck a0 a1 s) := by
  unfold execAuxShortCheck
  repeat' first
    | with_reducible assumption
    | refine OutKeeps.next ?_
    | with_reducible apply State.touch_keeps
    | with_reducible apply State.auxCheck_keeps

theorem execAuxRunShort_keeps {s : State} (b0 : k.blk 0 = false) (b5 : k.blk 5 = false) (b6 : k.blk 6 = false) (b11 : k.blk 11 = false) (b14 : k.blk 14 = false) (b18 : k.blk 18 = false) (b20 : k.blk 20 = false) (b21 : k.blk 21 = false) (b22 : k.blk 22 = false) (h : State.Keeps k s0 s) (a0 : Nat) (a1 : Fin 8) :
    OutKeeps k s0 (execAuxRunShort a0 a1 s) := by
  unfold execAuxRunShort
  repeat' first
    | with_reducible assumption
    | refine OutKeeps.next ?_
    | with_reducible apply State.touch_keeps
    | with_reducible apply State.auxRunShort_keeps

theorem execAuxHiccupEnd_keeps {s : State} (b0 : k.blk 0 = false) (b14 : k.blk 14 = false) (b18 : k.blk 18 = false) (b20 : k.blk 20 = false) (h : State.Keeps k s0 s) (a0 : Nat) (a1 : Fin 8) :
    OutKeeps k s0 (execAuxHiccupEnd a0 a1 s) := by
  unfold execAuxHiccupEnd
  repeat' first
    | with_reducible assumption
    | refine OutKeeps.next ?_
    | with_reducible apply State.touch_keeps
    | with_reducible apply State.auxRetry_keeps

theorem execAuxEnable_keeps {s : State} (hresp : k.resp = false) (b0 : k.blk 0 = false) (b11 : k.blk 11 = false) (b14 : k.blk 14 = false) (b18 : k.blk 18 = false) (b20 : k.blk 20 = false) (h : State.Keeps k s0 s) (a0 : Acc) (a1 : Fin 8) :
    OutKeeps k s0 (execAuxEnable a0 a1 s) := by
  unfold execAuxEnable
  repeat' first
    | with_reducible assumption
    | refine OutKeeps.next ?_
    | with_reducible apply State.touch_keeps
    | with_reducible apply State.writeAuxCtrl_keeps

theorem execAuxDisable_keeps {s : State} (hresp : k.resp = false) (b0 : k.blk 0 = false) (b11 : k.blk 11 = false) (b14 : k.blk 14 = false) (b18 : k.blk 18 = false) (b20 : k.blk 20 = false) (h : State.Keeps k s0 s) (a0 : Acc) (a1 : Fin 8) :
    OutKeeps k s0 (execAuxDisable a0 a1 s) := by
  unfold execAuxDisable
  repeat' first
    | with_reducible assumption
    | refine OutKeeps.next ?_
    | with_reducible apply State.touch_keeps
    | with_reducible apply State.writeAuxCtrl_keeps

theorem execAuxDisableImmediate_keeps {s : State} (hresp : k.resp = false) (b0 : k.blk 0 = false) (b11 : k.blk 11 = false) (b14 : k.blk 14 = false) (b18 : k.blk 18 = false) (b20 : k.blk 20 = false) (h : State.Keeps k s0 s) (a0 : Acc) (a1 : Fin 8) :
    OutKeeps k s0 (execAuxDisableImmediate a0 a1 s) := by
  unfold execAuxDisableImmediate
  repeat' first
    | with_reducible assumption
    | refine OutKeeps.next ?_
    | with_reducible apply State.touch_keeps
    | with_reducible apply State.writeAuxCtrl_keeps

theorem execAuxClrshort_keeps {s : State} (hresp : k.resp = false) (b0 : k.blk 0 = false) (b11 : k.blk 11 = false) (b14 : k.blk 14 = false) (b18 : k.blk 18 = false) (b20 : k.blk 20 = false) (h : State.Keeps k s0 s) (a0 : Acc) (a1 : Fin 8) :
    OutKeeps k s0 (execAuxClrshort a0 a1 s) := by
  unfold execAuxClrshort
  repeat' first
    | with_reducible assumption
    | refine OutKeeps.next ?_
    | with_reducible apply State.touch_keeps
    | with_reducible apply State.writeAuxCtrl_keeps

end Sys2Proof.Machine
end

