-- ==== Sys2Proof/Laws/Keeps/Axis.lean ====
section
/-!
SUPPORT. Sys2Proof/Laws/Keeps/Axis.lean: what each operation of Machine/Axis.lean keeps.
-/

set_option Elab.async false

namespace Sys2Proof.Machine

set_option linter.tactic.unusedName false

variable {k : Kept} {s0 : State}

theorem State.axsGo_keeps {s : State} (b13 : k.blk 13 = false) (h : State.Keeps k s0 s) (a1 : Nat) (a2 : Nat) :
    State.Keeps k s0 (State.axsGo s a1 a2) := by
  unfold State.axsGo
  repeat' first
    | with_reducible assumption
    | (with_reducible show Fld.Listed _; decide)
    | (show Kept.blk _ _ = false; first | exact b13)
    | with_reducible apply State.set_keeps

theorem State.axsEvent_keeps {s : State} (b18 : k.blk 18 = false) (h : State.Keeps k s0 s) (a1 : Fld) (a2 : Nat) (l1 : a1.Listed) (m1 : k.blk a1.block = false) :
    State.Keeps k s0 (State.axsEvent s a1 a2) := by
  unfold State.axsEvent
  repeat' first
    | with_reducible assumption
    | with_reducible refine Keeps.ite (P := State.Keeps _ _) ?_ ?_
    | with_reducible apply State.event_keeps

theorem State.axsOff_keeps {s : State} (b13 : k.blk 13 = false) (h : State.Keeps k s0 s) (a1 : Nat) :
    State.Keeps k s0 (State.axsOff s a1) := by
  unfold State.axsOff
  repeat' first
    | with_reducible assumption
    | (with_reducible show Fld.Listed _; decide)
    | (show Kept.blk _ _ = false; first | exact b13)
    | (extract_lets -underBinder +onlyGivenNames x; refine Keeps.cut (k := k) (s0 := s0) (x := x) ?_ ?_ <;> first | (intro _; revert x; intro _ _) | (unfold x; clear x))
    | (extract_lets -underBinder +onlyGivenNames x; unfold x; clear x)
    | with_reducible apply State.set_keeps
    | with_reducible apply State.setAxs_keeps
    | with_reducible apply State.axsGo_keeps

theorem State.axsClose_keeps {s : State} (b13 : k.blk 13 = false) (b18 : k.blk 18 = false) (b20 : k.blk 20 = false) (h : State.Keeps k s0 s) (a1 : Nat) (a2 : Nat) :
    State.Keeps k s0 (State.axsClose s a1 a2) := by
  unfold State.axsClose
  repeat' first
    | with_reducible assumption
    | (extract_lets -underBinder +onlyGivenNames x; unfold x; clear x)
    | with_reducible apply State.setAxs_keeps
    | with_reducible apply State.closeOp_keeps
    | split

theorem State.axsStart_keeps {s : State} (b13 : k.blk 13 = false) (h : State.Keeps k s0 s) (a1 : Nat) :
    State.Keeps k s0 (State.axsStart s a1) := by
  unfold State.axsStart
  repeat' first
    | with_reducible assumption
    | (with_reducible show Fld.Listed _; decide)
    | (show Kept.blk _ _ = false; first | exact b13)
    | with_reducible refine Keeps.ite (P := State.Keeps _ _) ?_ ?_
    | (extract_lets -underBinder +onlyGivenNames x; refine Keeps.cut (k := k) (s0 := s0) (x := x) ?_ ?_ <;> first | (intro _; revert x; intro _ _) | (unfold x; clear x))
    | (extract_lets -underBinder +onlyGivenNames x; unfold x; clear x)
    | with_reducible apply State.set_keeps
    | with_reducible apply State.setAxs_keeps
    | with_reducible apply State.axsGo_keeps
    | split

theorem State.axsDisable_keeps {s : State} (b13 : k.blk 13 = false) (b18 : k.blk 18 = false) (b20 : k.blk 20 = false) (h : State.Keeps k s0 s) (a1 : Nat) :
    State.Keeps k s0 (State.axsDisable s a1) := by
  unfold State.axsDisable
  repeat' first
    | with_reducible assumption
    | with_reducible refine Keeps.ite (P := State.Keeps _ _) ?_ ?_
    | with_reducible apply State.axsGo_keeps
    | with_reducible apply State.axsClose_keeps

theorem State.axsDisableNow_keeps {s : State} (b5 : k.blk 5 = false) (b6 : k.blk 6 = false) (b13 : k.blk 13 = false) (b18 : k.blk 18 = false) (b20 : k.blk 20 = false) (h : State.Keeps k s0 s) (a1 : Nat) :
    State.Keeps k s0 (State.axsDisableNow s a1) := by
  unfold State.axsDisableNow
  repeat' first
    | with_reducible assumption
    | with_reducible refine Keeps.ite (P := State.Keeps _ _) ?_ ?_
    | (extract_lets -underBinder +onlyGivenNames x; refine Keeps.cut (k := k) (s0 := s0) (x := x) ?_ ?_ <;> first | (intro _; revert x; intro _ _) | (unfold x; clear x))
    | (extract_lets -underBinder +onlyGivenNames x; unfold x; clear x)
    | with_reducible apply State.setAxs_keeps
    | with_reducible apply State.axsClose_keeps
    | with_reducible apply State.axsOff_keeps
    | with_reducible apply State.convDisableNow_keeps

theorem State.axsDrainEnd_keeps {s : State} (b5 : k.blk 5 = false) (b6 : k.blk 6 = false) (b13 : k.blk 13 = false) (h : State.Keeps k s0 s) (a1 : Nat) :
    State.Keeps k s0 (State.axsDrainEnd s a1) := by
  unfold State.axsDrainEnd
  repeat' first
    | with_reducible assumption
    | with_reducible refine Keeps.ite (P := State.Keeps _ _) ?_ ?_
    | (extract_lets -underBinder +onlyGivenNames x; unfold x; clear x)
    | with_reducible apply State.axsOff_keeps
    | with_reducible apply State.convDisable_keeps
    | with_reducible apply State.setAxs_keeps
    | with_reducible apply State.axsStart_keeps

theorem State.axsOverrun_keeps {s : State} (b5 : k.blk 5 = false) (b6 : k.blk 6 = false) (b13 : k.blk 13 = false) (b18 : k.blk 18 = false) (b20 : k.blk 20 = false) (b22 : k.blk 22 = false) (h : State.Keeps k s0 s) (a1 : Nat) :
    State.Keeps k s0 (State.axsOverrun s a1) := by
  unfold State.axsOverrun
  repeat' first
    | with_reducible assumption
    | (with_reducible show Fld.Listed _; decide)
    | (show Kept.blk _ _ = false; first | exact b5 | exact b6 | exact b13 | exact b18 | exact b20 | exact b22)
    | (extract_lets -underBinder +onlyGivenNames x; refine Keeps.cut (k := k) (s0 := s0) (x := x) ?_ ?_ <;> first | (intro _; revert x; intro _ _) | (unfold x; clear x))
    | with_reducible apply State.set_keeps
    | with_reducible apply State.axisZero_keeps
    | with_reducible apply State.axsClose_keeps
    | with_reducible apply State.axsEvent_keeps
    | with_reducible apply State.axsGo_keeps
    | with_reducible apply State.faultF2_keeps

theorem State.axsClamps_keeps {s : State} (b13 : k.blk 13 = false) (b18 : k.blk 18 = false) (h : State.Keeps k s0 s) (a1 : Nat) (a2 : Bool) (a3 : Bool) (a4 : Bool) :
    State.Keeps k s0 (State.axsClamps s a1 a2 a3 a4) := by
  unfold State.axsClamps
  repeat' first
    | with_reducible assumption
    | (with_reducible show Fld.Listed _; decide)
    | (show Kept.blk _ _ = false; first | exact b13 | exact b18)
    | with_reducible refine Keeps.ite (P := State.Keeps _ _) ?_ ?_
    | (extract_lets -underBinder +onlyGivenNames x; unfold x; clear x)
    | with_reducible apply State.bump_keeps
    | with_reducible apply State.setAxs_keeps
    | with_reducible apply State.axsEvent_keeps

theorem State.axsTicket_keeps {s : State} (b13 : k.blk 13 = false) (b18 : k.blk 18 = false) (b20 : k.blk 20 = false) (h : State.Keeps k s0 s) (a1 : Nat) (a2 : Nat) (a3 : Bool) :
    State.Keeps k s0 (State.axsTicket s a1 a2 a3) := by
  unfold State.axsTicket
  repeat' first
    | with_reducible assumption
    | (with_reducible show Fld.Listed _; decide)
    | (show Kept.blk _ _ = false; first | exact b13 | exact b18 | exact b20)
    | with_reducible refine Keeps.ite (P := State.Keeps _ _) ?_ ?_
    | (extract_lets -underBinder +onlyGivenNames x; unfold x; clear x)
    | with_reducible apply State.setAxs_keeps
    | with_reducible apply State.progOp_keeps
    | with_reducible apply State.openOp_keeps
    | with_reducible apply State.axsEvent_keeps
    | split
    | with_reducible refine Keeps.some (by assumption) ?_

theorem State.axsOut_keeps {s : State} (b13 : k.blk 13 = false) (h : State.Keeps k s0 s) (a1 : Nat) (a2 : Nat) (a3 : Int) (a4 : Int) :
    State.Keeps k s0 (State.axsOut s a1 a2 a3 a4) := by
  unfold State.axsOut
  repeat' first
    | with_reducible assumption
    | (with_reducible show Fld.Listed _; decide)
    | (show Kept.blk _ _ = false; first | exact b13)
    | (extract_lets -underBinder +onlyGivenNames x; refine Keeps.cut (k := k) (s0 := s0) (x := x) ?_ ?_ <;> first | (intro _; revert x; intro _ _) | (unfold x; clear x))
    | (extract_lets -underBinder +onlyGivenNames x; unfold x; clear x)
    | with_reducible apply State.set_keeps
    | with_reducible apply State.nextFree_keeps
    | with_reducible apply State.setFlag_keeps

theorem State.axsLanded0_keeps {s : State} (b13 : k.blk 13 = false) (h : State.Keeps k s0 s) (a1 : Nat) (a2 : Nat) (a3 : Int) :
    State.Keeps k s0 (State.axsLanded0 s a1 a2 a3) := by
  unfold State.axsLanded0
  repeat' first
    | with_reducible assumption
    | (with_reducible show Fld.Listed _; decide)
    | (show Kept.blk _ _ = false; first | exact b13)
    | with_reducible refine Keeps.ite (P := State.Keeps _ _) ?_ ?_
    | (extract_lets -underBinder +onlyGivenNames x; unfold x; clear x)
    | with_reducible apply State.setFlag_keeps
    | with_reducible apply State.setAxs_keeps

theorem State.axsSettle_keeps {s : State} (b13 : k.blk 13 = false) (b18 : k.blk 18 = false) (b20 : k.blk 20 = false) (h : State.Keeps k s0 s) (a1 : Nat) (a2 : Bool) (a3 : Bool) :
    State.Keeps k s0 (State.axsSettle s a1 a2 a3) := by
  unfold State.axsSettle
  repeat' first
    | with_reducible assumption
    | (with_reducible show Fld.Listed _; decide)
    | (show Kept.blk _ _ = false; first | exact b13 | exact b18 | exact b20)
    | with_reducible refine Keeps.ite (P := State.Keeps _ _) ?_ ?_
    | with_reducible apply State.set_keeps
    | with_reducible apply State.axsClose_keeps
    | with_reducible apply State.axsEvent_keeps

theorem State.axsMove_keeps {s : State} (b13 : k.blk 13 = false) (b18 : k.blk 18 = false) (b20 : k.blk 20 = false) (h : State.Keeps k s0 s) (a1 : Nat) (a2 : Nat) (a3 : Nat) (a4 : Nat) (a5 : Int) (a6 : Bool) :
    State.Keeps k s0 (State.axsMove s a1 a2 a3 a4 a5 a6) := by
  unfold State.axsMove
  repeat' first
    | with_reducible assumption
    | (with_reducible show Fld.Listed _; decide)
    | (show Kept.blk _ _ = false; first | exact b13 | exact b18 | exact b20)
    | with_reducible refine Keeps.ite (P := State.Keeps _ _) ?_ ?_
    | (extract_lets -underBinder +onlyGivenNames x; refine Keeps.cut (k := k) (s0 := s0) (x := x) ?_ ?_ <;> first | (intro _; revert x; intro _ _) | (unfold x; clear x))
    | (extract_lets -underBinder +onlyGivenNames x; unfold x; clear x)
    | with_reducible apply State.set_keeps
    | with_reducible apply State.nextFree_keeps
    | with_reducible apply State.setAxs_keeps
    | with_reducible apply State.axsTicket_keeps
    | with_reducible apply State.axsLanded0_keeps
    | with_reducible apply State.axsOut_keeps
    | with_reducible apply State.axsSettle_keeps

theorem State.axsUpdate_keeps {s : State} (b5 : k.blk 5 = false) (b6 : k.blk 6 = false) (b13 : k.blk 13 = false) (b18 : k.blk 18 = false) (b20 : k.blk 20 = false) (b22 : k.blk 22 = false) (h : State.Keeps k s0 s) (a1 : Nat) (a2 : Nat) :
    State.Keeps k s0 (State.axsUpdate s a1 a2) := by
  unfold State.axsUpdate
  repeat' first
    | with_reducible assumption
    | (with_reducible show Fld.Listed _; decide)
    | (show Kept.blk _ _ = false; first | exact b5 | exact b6 | exact b13 | exact b18 | exact b20 | exact b22)
    | with_reducible refine Keeps.ite (P := State.Keeps _ _) ?_ ?_
    | (extract_lets -underBinder +onlyGivenNames x; refine Keeps.cut (k := k) (s0 := s0) (x := x) ?_ ?_ <;> first | (intro _; revert x; intro _ _) | (unfold x; clear x))
    | (extract_lets -underBinder +onlyGivenNames x; unfold x; clear x)
    | with_reducible apply State.axsOverrun_keeps
    | with_reducible apply State.axsOut_keeps
    | with_reducible apply State.axsDrainEnd_keeps
    | with_reducible apply State.setAxs_keeps
    | with_reducible apply State.axsMove_keeps
    | with_reducible apply State.axsClamps_keeps
    | with_reducible apply State.bump_keeps
    | with_reducible apply State.axsGo_keeps

theorem State.axsClrFlt_keeps {s : State} (b13 : k.blk 13 = false) (h : State.Keeps k s0 s) (a1 : Nat) :
    State.Keeps k s0 (State.axsClrFlt s a1) := by
  unfold State.axsClrFlt
  repeat' first
    | with_reducible assumption
    | with_reducible refine Keeps.ite (P := State.Keeps _ _) ?_ ?_
    | with_reducible apply State.axsOff_keeps

theorem State.writeAxsCtrl_keeps {s : State} (hresp : k.resp = false) (b5 : k.blk 5 = false) (b6 : k.blk 6 = false) (b13 : k.blk 13 = false) (b18 : k.blk 18 = false) (b20 : k.blk 20 = false) (h : State.Keeps k s0 s) (a1 : Acc) (a2 : Nat) (a3 : Nat) :
    State.Keeps k s0 (State.writeAxsCtrl s a1 a2 a3) := by
  unfold State.writeAxsCtrl
  repeat' first
    | with_reducible assumption
    | with_reducible refine Keeps.ite (P := State.Keeps _ _) ?_ ?_
    | (extract_lets -underBinder +onlyGivenNames x; refine Keeps.cut (k := k) (s0 := s0) (x := x) ?_ ?_ <;> first | (intro _; revert x; intro _ _) | (unfold x; clear x))
    | with_reducible apply State.busErr_keeps
    | with_reducible apply State.axsClrFlt_keeps
    | with_reducible apply State.axsDisableNow_keeps
    | with_reducible apply State.axsDisable_keeps
    | with_reducible apply State.axsStart_keeps
    | with_reducible apply State.ok_keeps

theorem State.writeAxsSp_keeps {s : State} (hresp : k.resp = false) (b13 : k.blk 13 = false) (h : State.Keeps k s0 s) (a1 : Acc) (a2 : Nat) (a3 : Nat) :
    State.Keeps k s0 (State.writeAxsSp s a1 a2 a3) := by
  unfold State.writeAxsSp
  repeat' first
    | with_reducible assumption
    | (with_reducible show Fld.Listed _; decide)
    | (show Kept.blk _ _ = false; first | exact b13)
    | with_reducible refine Keeps.ite (P := State.Keeps _ _) ?_ ?_
    | with_reducible apply State.set_keeps
    | with_reducible apply State.busErr_keeps
    | with_reducible apply State.ok_keeps

theorem execAxisUpdate_keeps {s : State} (b5 : k.blk 5 = false) (b6 : k.blk 6 = false) (b13 : k.blk 13 = false) (b18 : k.blk 18 = false) (b20 : k.blk 20 = false) (b22 : k.blk 22 = false) (h : State.Keeps k s0 s) (a0 : Nat) :
    OutKeeps k s0 (execAxisUpdate a0 s) := by
  unfold execAxisUpdate
  repeat' first
    | with_reducible assumption
    | refine OutKeeps.next ?_
    | with_reducible refine Keeps.ite (P := State.Keeps _ _) ?_ ?_
    | with_reducible refine Keeps.foldl (fun _ _ _ => ?_) ?_
    | with_reducible apply State.touch_keeps
    | with_reducible apply State.axsUpdate_keeps

theorem execAxsEnable_keeps {s : State} (hresp : k.resp = false) (b5 : k.blk 5 = false) (b6 : k.blk 6 = false) (b13 : k.blk 13 = false) (b18 : k.blk 18 = false) (b20 : k.blk 20 = false) (h : State.Keeps k s0 s) (a0 : Acc) (a1 : Fin 32) :
    OutKeeps k s0 (execAxsEnable a0 a1 s) := by
  unfold execAxsEnable
  repeat' first
    | with_reducible assumption
    | refine OutKeeps.next ?_
    | with_reducible apply State.touch_keeps
    | with_reducible apply State.writeAxsCtrl_keeps

theorem execAxsDisable_keeps {s : State} (hresp : k.resp = false) (b5 : k.blk 5 = false) (b6 : k.blk 6 = false) (b13 : k.blk 13 = false) (b18 : k.blk 18 = false) (b20 : k.blk 20 = false) (h : State.Keeps k s0 s) (a0 : Acc) (a1 : Fin 32) :
    OutKeeps k s0 (execAxsDisable a0 a1 s) := by
  unfold execAxsDisable
  repeat' first
    | with_reducible assumption
    | refine OutKeeps.next ?_
    | with_reducible apply State.touch_keeps
    | with_reducible apply State.writeAxsCtrl_keeps

theorem execAxsDisableImmediate_keeps {s : State} (hresp : k.resp = false) (b5 : k.blk 5 = false) (b6 : k.blk 6 = false) (b13 : k.blk 13 = false) (b18 : k.blk 18 = false) (b20 : k.blk 20 = false) (h : State.Keeps k s0 s) (a0 : Acc) (a1 : Fin 32) :
    OutKeeps k s0 (execAxsDisableImmediate a0 a1 s) := by
  unfold execAxsDisableImmediate
  repeat' first
    | with_reducible assumption
    | refine OutKeeps.next ?_
    | with_reducible apply State.touch_keeps
    | with_reducible apply State.writeAxsCtrl_keeps

theorem execAxsClrflt_keeps {s : State} (hresp : k.resp = false) (b5 : k.blk 5 = false) (b6 : k.blk 6 = false) (b13 : k.blk 13 = false) (b18 : k.blk 18 = false) (b20 : k.blk 20 = false) (h : State.Keeps k s0 s) (a0 : Acc) (a1 : Fin 32) :
    OutKeeps k s0 (execAxsClrflt a0 a1 s) := by
  unfold execAxsClrflt
  repeat' first
    | with_reducible assumption
    | refine OutKeeps.next ?_
    | with_reducible apply State.touch_keeps
    | with_reducible apply State.writeAxsCtrl_keeps

end Sys2Proof.Machine
end

