-- ==== Sys2Proof/Laws/Keeps/Grid.lean ====
section
/-!
SUPPORT. Sys2Proof/Laws/Keeps/Grid.lean: what each operation of Machine/Grid.lean keeps.
-/

set_option Elab.async false

namespace Sys2Proof.Machine

set_option linter.tactic.unusedName false

variable {k : Kept} {s0 : State}

theorem State.gridStart_keeps {s : State} (b12 : k.blk 12 = false) (b18 : k.blk 18 = false) (h : State.Keeps k s0 s) (a1 : Nat) :
    State.Keeps k s0 (State.gridStart s a1) := by
  unfold State.gridStart
  repeat' first
    | with_reducible assumption
    | with_reducible refine Keeps.ite (P := State.Keeps _ _) ?_ ?_
    | (extract_lets -underBinder +onlyGivenNames x; unfold x; clear x)
    | with_reducible apply State.gridGo_keeps
    | with_reducible apply State.setGrd_keeps

theorem State.gridDisable_keeps {s : State} (b12 : k.blk 12 = false) (b18 : k.blk 18 = false) (b20 : k.blk 20 = false) (h : State.Keeps k s0 s) (a1 : Nat) :
    State.Keeps k s0 (State.gridDisable s a1) := by
  unfold State.gridDisable
  repeat' first
    | with_reducible assumption
    | (show Kept.blk _ _ = false; first | exact b12 | exact b18 | exact b20)
    | with_reducible refine Keeps.ite (P := State.Keeps _ _) ?_ ?_
    | (extract_lets -underBinder +onlyGivenNames x; refine Keeps.cut (k := k) (s0 := s0) (x := x) ?_ ?_ <;> first | (intro _; revert x; intro _ _) | (unfold x; clear x))
    | (extract_lets -underBinder +onlyGivenNames x; unfold x; clear x)
    | with_reducible apply State.setGrd_keeps
    | with_reducible apply State.gridClose_keeps
    | with_reducible apply State.gridGo_keeps

theorem State.gridDisableNow_keeps {s : State} (b5 : k.blk 5 = false) (b6 : k.blk 6 = false) (b12 : k.blk 12 = false) (b18 : k.blk 18 = false) (b20 : k.blk 20 = false) (h : State.Keeps k s0 s) (a1 : Nat) :
    State.Keeps k s0 (State.gridDisableNow s a1) := by
  unfold State.gridDisableNow
  repeat' first
    | with_reducible assumption
    | (with_reducible show Fld.Listed _; decide)
    | (show Kept.blk _ _ = false; first | exact b5 | exact b6 | exact b12 | exact b18 | exact b20)
    | with_reducible refine Keeps.ite (P := State.Keeps _ _) ?_ ?_
    | (extract_lets -underBinder +onlyGivenNames x; refine Keeps.cut (k := k) (s0 := s0) (x := x) ?_ ?_ <;> first | (intro _; revert x; intro _ _) | (unfold x; clear x))
    | (extract_lets -underBinder +onlyGivenNames x; unfold x; clear x)
    | with_reducible apply State.set_keeps
    | with_reducible apply State.setGrd_keeps
    | with_reducible apply State.gridClose_keeps
    | with_reducible apply State.drivePin_keeps
    | with_reducible apply State.convDisableNow_keeps
    | with_reducible apply State.gridGo_keeps

theorem State.gridDrainDone_keeps {s : State} (b5 : k.blk 5 = false) (b6 : k.blk 6 = false) (b12 : k.blk 12 = false) (b18 : k.blk 18 = false) (h : State.Keeps k s0 s) (a1 : Nat) :
    State.Keeps k s0 (State.gridDrainDone s a1) := by
  unfold State.gridDrainDone
  repeat' first
    | with_reducible assumption
    | (with_reducible show Fld.Listed _; decide)
    | (show Kept.blk _ _ = false; first | exact b5 | exact b6 | exact b12 | exact b18)
    | with_reducible refine Keeps.ite (P := State.Keeps _ _) ?_ ?_
    | with_reducible apply State.set_keeps
    | with_reducible apply State.drivePin_keeps
    | with_reducible apply State.setGrd_keeps
    | with_reducible apply State.convDisable_keeps
    | with_reducible apply State.gridGo_keeps
    | with_reducible apply State.gridStart_keeps

theorem State.gridDeclare_keeps {s : State} (b5 : k.blk 5 = false) (b6 : k.blk 6 = false) (b12 : k.blk 12 = false) (b18 : k.blk 18 = false) (b20 : k.blk 20 = false) (b22 : k.blk 22 = false) (h : State.Keeps k s0 s) (a1 : Nat) (a2 : Nat) (a3 : Nat) :
    State.Keeps k s0 (State.gridDeclare s a1 a2 a3) := by
  unfold State.gridDeclare
  repeat' first
    | with_reducible assumption
    | (with_reducible show Fld.Listed _; decide)
    | (show Kept.blk _ _ = false; first | exact b5 | exact b6 | exact b12 | exact b18 | exact b20 | exact b22)
    | with_reducible refine Keeps.ite (P := State.Keeps _ _) ?_ ?_
    | (extract_lets -underBinder +onlyGivenNames x; refine Keeps.cut (k := k) (s0 := s0) (x := x) ?_ ?_ <;> first | (intro _; revert x; intro _ _) | (unfold x; clear x))
    | with_reducible apply State.set_keeps
    | with_reducible apply State.gridTrip_keeps

theorem State.gridWindow_keeps {s : State} (b5 : k.blk 5 = false) (b6 : k.blk 6 = false) (b12 : k.blk 12 = false) (b18 : k.blk 18 = false) (b20 : k.blk 20 = false) (b22 : k.blk 22 = false) (h : State.Keeps k s0 s) (a1 : Nat) :
    State.Keeps k s0 (State.gridWindow s a1) := by
  unfold State.gridWindow
  repeat' first
    | with_reducible assumption
    | with_reducible refine Keeps.ite (P := State.Keeps _ _) ?_ ?_
    | with_reducible apply State.gridDeclare_keeps
    | with_reducible apply State.gridTrip_keeps

theorem State.gridDead_keeps {s : State} (b5 : k.blk 5 = false) (b6 : k.blk 6 = false) (b12 : k.blk 12 = false) (b18 : k.blk 18 = false) (b20 : k.blk 20 = false) (b22 : k.blk 22 = false) (h : State.Keeps k s0 s) (a1 : Nat) :
    State.Keeps k s0 (State.gridDead s a1) := by
  unfold State.gridDead
  repeat' first
    | with_reducible assumption
    | (show Kept.blk _ _ = false; first | exact b5 | exact b6 | exact b12 | exact b18 | exact b20 | exact b22)
    | with_reducible refine Keeps.ite (P := State.Keeps _ _) ?_ ?_
    | with_reducible apply State.gridDeclare_keeps

theorem State.rideEnter_keeps {s : State} (b12 : k.blk 12 = false) (b18 : k.blk 18 = false) (h : State.Keeps k s0 s) (a1 : Nat) :
    State.Keeps k s0 (State.rideEnter s a1) := by
  unfold State.rideEnter
  repeat' first
    | with_reducible assumption
    | (with_reducible show Fld.Listed _; decide)
    | (show Kept.blk _ _ = false; first | exact b12 | exact b18)
    | with_reducible refine Keeps.ite (P := State.Keeps _ _) ?_ ?_
    | (extract_lets -underBinder +onlyGivenNames x; refine Keeps.cut (k := k) (s0 := s0) (x := x) ?_ ?_ <;> first | (intro _; revert x; intro _ _) | (unfold x; clear x))
    | (extract_lets -underBinder +onlyGivenNames x; unfold x; clear x)
    | with_reducible apply State.setGrd_keeps
    | with_reducible apply State.gridGo_keeps
    | with_reducible apply State.event_keeps
    | with_reducible apply State.bump_keeps

theorem State.gridTryClose_keeps {s : State} (b5 : k.blk 5 = false) (b6 : k.blk 6 = false) (b12 : k.blk 12 = false) (b18 : k.blk 18 = false) (b20 : k.blk 20 = false) (b22 : k.blk 22 = false) (h : State.Keeps k s0 s) (a1 : Nat) (a2 : Nat) :
    State.Keeps k s0 (State.gridTryClose s a1 a2) := by
  unfold State.gridTryClose
  repeat' first
    | with_reducible assumption
    | (show Kept.blk _ _ = false; first | exact b5 | exact b6 | exact b12 | exact b18 | exact b20 | exact b22)
    | with_reducible refine Keeps.ite (P := State.Keeps _ _) ?_ ?_
    | (extract_lets -underBinder +onlyGivenNames x; refine Keeps.cut (k := k) (s0 := s0) (x := x) ?_ ?_ <;> first | (intro _; revert x; intro _ _) | (unfold x; clear x))
    | (extract_lets -underBinder +onlyGivenNames x; unfold x; clear x)
    | with_reducible apply State.drivePin_keeps
    | with_reducible apply State.gridDead_keeps
    | with_reducible apply State.gridGo_keeps
    | with_reducible apply State.setGrd_keeps
    | split

theorem State.gridCloseDone_keeps {s : State} (b5 : k.blk 5 = false) (b6 : k.blk 6 = false) (b12 : k.blk 12 = false) (b18 : k.blk 18 = false) (b20 : k.blk 20 = false) (h : State.Keeps k s0 s) (a1 : Nat) (a2 : Nat) :
    State.Keeps k s0 (State.gridCloseDone s a1 a2) := by
  unfold State.gridCloseDone
  repeat' first
    | with_reducible assumption
    | (show Kept.blk _ _ = false; first | exact b5 | exact b6 | exact b12 | exact b18 | exact b20)
    | with_reducible refine Keeps.ite (P := State.Keeps _ _) ?_ ?_
    | (extract_lets -underBinder +onlyGivenNames x; refine Keeps.cut (k := k) (s0 := s0) (x := x) ?_ ?_ <;> first | (intro _; revert x; intro _ _) | (unfold x; clear x))
    | (extract_lets -underBinder +onlyGivenNames x; unfold x; clear x)
    | with_reducible apply State.gridGo_keeps
    | with_reducible apply State.setGrd_keeps
    | with_reducible apply State.convEnable_keeps
    | with_reducible apply State.openOp_keeps
    | with_reducible apply State.rideEnter_keeps
    | split
    | with_reducible refine Keeps.some (by assumption) ?_

theorem State.gridClrTrip_keeps {s : State} (b12 : k.blk 12 = false) (b18 : k.blk 18 = false) (h : State.Keeps k s0 s) (a1 : Nat) :
    State.Keeps k s0 (State.gridClrTrip s a1) := by
  unfold State.gridClrTrip
  repeat' first
    | with_reducible assumption
    | (with_reducible show Fld.Listed _; decide)
    | (show Kept.blk _ _ = false; first | exact b12 | exact b18)
    | with_reducible refine Keeps.ite (P := State.Keeps _ _) ?_ ?_
    | (extract_lets -underBinder +onlyGivenNames x; refine Keeps.cut (k := k) (s0 := s0) (x := x) ?_ ?_ <;> first | (intro _; revert x; intro _ _) | (unfold x; clear x))
    | (extract_lets -underBinder +onlyGivenNames x; unfold x; clear x)
    | with_reducible apply State.set_keeps
    | with_reducible apply State.setGrd_keeps
    | with_reducible apply State.gridGo_keeps

theorem State.putRefs_keeps {s : State} (b12 : k.blk 12 = false) (b18 : k.blk 18 = false) (h : State.Keeps k s0 s) (a1 : Nat) (a2 : Int) (a3 : Int) (a4 : Bool) :
    State.Keeps k s0 (State.putRefs s a1 a2 a3 a4) := by
  unfold State.putRefs
  repeat' first
    | with_reducible assumption
    | (with_reducible show Fld.Listed _; decide)
    | (show Kept.blk _ _ = false; first | exact b12 | exact b18)
    | with_reducible refine Keeps.ite (P := State.Keeps _ _) ?_ ?_
    | with_reducible apply State.set_keeps
    | with_reducible apply State.event_keeps

theorem State.gridRefs_keeps {s : State} (b12 : k.blk 12 = false) (b18 : k.blk 18 = false) (h : State.Keeps k s0 s) (a1 : Nat) (a2 : Nat) :
    State.Keeps k s0 (State.gridRefs s a1 a2) := by
  unfold State.gridRefs
  repeat' first
    | with_reducible assumption
    | (show Kept.blk _ _ = false; first | exact b12 | exact b18)
    | with_reducible refine Keeps.ite (P := State.Keeps _ _) ?_ ?_
    | (extract_lets -underBinder +onlyGivenNames x; refine Keeps.cut (k := k) (s0 := s0) (x := x) ?_ ?_ <;> first | (intro _; revert x; intro _ _) | (unfold x; clear x))
    | (extract_lets -underBinder +onlyGivenNames x; unfold x; clear x)
    | with_reducible apply State.nextFree_keeps
    | with_reducible apply State.setGrd_keeps
    | with_reducible apply State.putRefs_keeps

theorem State.gridTheta_keeps {s : State} (b12 : k.blk 12 = false) (h : State.Keeps k s0 s) (a1 : Nat) (a2 : Nat) (a3 : Nat) :
    State.Keeps k s0 (State.gridTheta s a1 a2 a3) := by
  unfold State.gridTheta
  repeat' first
    | with_reducible assumption
    | (with_reducible show Fld.Listed _; decide)
    | (show Kept.blk _ _ = false; first | exact b12)
    | (extract_lets -underBinder +onlyGivenNames x; refine Keeps.cut (k := k) (s0 := s0) (x := x) ?_ ?_ <;> first | (intro _; revert x; intro _ _) | (unfold x; clear x))
    | (extract_lets -underBinder +onlyGivenNames x; unfold x; clear x)
    | with_reducible apply State.set_keeps
    | with_reducible apply State.nextFree_keeps

theorem State.gridPublish_keeps {s : State} (b12 : k.blk 12 = false) (b18 : k.blk 18 = false) (b20 : k.blk 20 = false) (h : State.Keeps k s0 s) (a1 : Nat) (a2 : Nat) (a3 : Nat) :
    State.Keeps k s0 (State.gridPublish s a1 a2 a3) := by
  unfold State.gridPublish
  repeat' first
    | with_reducible assumption
    | with_reducible refine Keeps.ite (P := State.Keeps _ _) ?_ ?_
    | with_reducible apply State.gridRefs_keeps
    | with_reducible apply State.gridTheta_keeps
    | with_reducible apply State.gridGo_keeps
    | with_reducible apply State.gridClose_keeps
    | with_reducible apply State.setGrd_keeps

theorem State.excBegin_keeps {s : State} (b12 : k.blk 12 = false) (b18 : k.blk 18 = false) (h : State.Keeps k s0 s) (a1 : Nat) :
    State.Keeps k s0 (State.excBegin s a1) := by
  unfold State.excBegin
  repeat' first
    | with_reducible assumption
    | (with_reducible show Fld.Listed _; decide)
    | (show Kept.blk _ _ = false; first | exact b12 | exact b18)
    | (extract_lets -underBinder +onlyGivenNames x; unfold x; clear x)
    | with_reducible apply State.rideEnter_keeps
    | with_reducible apply State.set_keeps
    | with_reducible apply State.setGrd_keeps

theorem State.rideJudge_keeps {s : State} (b5 : k.blk 5 = false) (b6 : k.blk 6 = false) (b12 : k.blk 12 = false) (b18 : k.blk 18 = false) (b20 : k.blk 20 = false) (b22 : k.blk 22 = false) (h : State.Keeps k s0 s) (a1 : Nat) (a2 : Nat) (a3 : Nat) (a4 : Nat) (a5 : Int) (a6 : Int) (a7 : Bool) :
    State.Keeps k s0 (State.rideJudge s a1 a2 a3 a4 a5 a6 a7) := by
  unfold State.rideJudge
  repeat' first
    | with_reducible assumption
    | (show Kept.blk _ _ = false; first | exact b5 | exact b6 | exact b12 | exact b18 | exact b20 | exact b22)
    | with_reducible refine Keeps.ite (P := State.Keeps _ _) ?_ ?_
    | with_reducible apply State.gridWindow_keeps
    | with_reducible apply State.gridTrip_keeps

theorem State.gridJudge_keeps {s : State} (b5 : k.blk 5 = false) (b6 : k.blk 6 = false) (b12 : k.blk 12 = false) (b18 : k.blk 18 = false) (b20 : k.blk 20 = false) (b22 : k.blk 22 = false) (h : State.Keeps k s0 s) (a1 : Nat) (a2 : Nat) (a3 : Nat) (a4 : Int) :
    State.Keeps k s0 (State.gridJudge s a1 a2 a3 a4) := by
  unfold State.gridJudge
  repeat' first
    | with_reducible assumption
    | with_reducible refine Keeps.ite (P := State.Keeps _ _) ?_ ?_
    | (extract_lets -underBinder +onlyGivenNames x; refine Keeps.cut (k := k) (s0 := s0) (x := x) ?_ ?_ <;> first | (intro _; revert x; intro _ _) | (unfold x; clear x))
    | (extract_lets -underBinder +onlyGivenNames x; unfold x; clear x)
    | with_reducible apply State.setGrd_keeps
    | with_reducible apply State.excBegin_keeps
    | with_reducible apply State.rideJudge_keeps

theorem State.excursionEnd_keeps {s : State} (b12 : k.blk 12 = false) (b18 : k.blk 18 = false) (h : State.Keeps k s0 s) (a1 : Nat) (a2 : Nat) :
    State.Keeps k s0 (State.excursionEnd s a1 a2) := by
  unfold State.excursionEnd
  repeat' first
    | with_reducible assumption
    | (with_reducible show Fld.Listed _; decide)
    | (show Kept.blk _ _ = false; first | exact b12 | exact b18)
    | with_reducible refine Keeps.ite (P := State.Keeps _ _) ?_ ?_
    | with_reducible apply State.set_keeps
    | with_reducible apply State.setGrd_keeps
    | with_reducible apply State.gridGo_keeps
    | with_reducible apply State.event_keeps

theorem State.nudgeBegin_keeps {s : State} (b12 : k.blk 12 = false) (h : State.Keeps k s0 s) (a1 : Nat) (a2 : Nat) (a3 : Bool) :
    State.Keeps k s0 (State.nudgeBegin s a1 a2 a3) := by
  unfold State.nudgeBegin
  repeat' first
    | with_reducible assumption
    | (with_reducible show Fld.Listed _; decide)
    | (show Kept.blk _ _ = false; first | exact b12)
    | (extract_lets -underBinder +onlyGivenNames x; refine Keeps.cut (k := k) (s0 := s0) (x := x) ?_ ?_ <;> first | (intro _; revert x; intro _ _) | (unfold x; clear x))
    | (extract_lets -underBinder +onlyGivenNames x; unfold x; clear x)
    | with_reducible apply State.setGrd_keeps
    | with_reducible apply State.bump_keeps

theorem State.gridCrossing_keeps {s : State} (b5 : k.blk 5 = false) (b6 : k.blk 6 = false) (b12 : k.blk 12 = false) (b18 : k.blk 18 = false) (b20 : k.blk 20 = false) (b22 : k.blk 22 = false) (h : State.Keeps k s0 s) (a1 : Nat) (a2 : Nat) (a3 : Int) :
    State.Keeps k s0 (State.gridCrossing s a1 a2 a3) := by
  unfold State.gridCrossing
  repeat' first
    | with_reducible assumption
    | (with_reducible show Fld.Listed _; decide)
    | (show Kept.blk _ _ = false; first | exact b5 | exact b6 | exact b12 | exact b18 | exact b20 | exact b22)
    | with_reducible refine Keeps.ite (P := State.Keeps _ _) ?_ ?_
    | (extract_lets -underBinder +onlyGivenNames x; refine Keeps.cut (k := k) (s0 := s0) (x := x) ?_ ?_ <;> first | (intro _; revert x; intro _ _) | (unfold x; clear x))
    | (extract_lets -underBinder +onlyGivenNames x; unfold x; clear x)
    | with_reducible apply State.nextFree_keeps
    | with_reducible apply State.setGrd_keeps
    | with_reducible apply State.set_keeps
    | with_reducible apply State.gridDeclare_keeps
    | with_reducible apply State.nudgeBegin_keeps

theorem State.gridWaitBand_keeps {s : State} (b12 : k.blk 12 = false) (h : State.Keeps k s0 s) (a1 : Nat) (a2 : Nat) :
    State.Keeps k s0 (State.gridWaitBand s a1 a2) := by
  unfold State.gridWaitBand
  repeat' first
    | with_reducible assumption
    | (show Kept.blk _ _ = false; first | exact b12)
    | with_reducible refine Keeps.ite (P := State.Keeps _ _) ?_ ?_
    | (extract_lets -underBinder +onlyGivenNames x; unfold x; clear x)
    | with_reducible apply State.setGrd_keeps

theorem State.gridUpdate_keeps {s : State} (b5 : k.blk 5 = false) (b6 : k.blk 6 = false) (b12 : k.blk 12 = false) (b18 : k.blk 18 = false) (b20 : k.blk 20 = false) (b22 : k.blk 22 = false) (h : State.Keeps k s0 s) (a1 : Nat) (a2 : Nat) (a3 : Nat) (a4 : Int) (a5 : Nat) :
    State.Keeps k s0 (State.gridUpdate s a1 a2 a3 a4 a5) := by
  unfold State.gridUpdate
  repeat' first
    | with_reducible assumption
    | with_reducible refine Keeps.ite (P := State.Keeps _ _) ?_ ?_
    | (extract_lets -underBinder +onlyGivenNames x; unfold x; clear x)
    | with_reducible apply State.gridJudge_keeps
    | with_reducible apply State.gridWaitBand_keeps
    | with_reducible apply State.gridCrossing_keeps
    | with_reducible apply State.nextFree_keeps

theorem State.gridTrackLost_keeps {s : State} (b5 : k.blk 5 = false) (b6 : k.blk 6 = false) (b12 : k.blk 12 = false) (b18 : k.blk 18 = false) (b20 : k.blk 20 = false) (b22 : k.blk 22 = false) (h : State.Keeps k s0 s) (a1 : Nat) :
    State.Keeps k s0 (State.gridTrackLost s a1) := by
  unfold State.gridTrackLost
  repeat' first
    | with_reducible assumption
    | with_reducible refine Keeps.ite (P := State.Keeps _ _) ?_ ?_
    | with_reducible refine Keeps.foldl (fun _ _ _ => ?_) ?_
    | with_reducible apply State.gridTrip_keeps

theorem State.gridToken_keeps {s : State} (b5 : k.blk 5 = false) (b6 : k.blk 6 = false) (b12 : k.blk 12 = false) (b18 : k.blk 18 = false) (b20 : k.blk 20 = false) (b22 : k.blk 22 = false) (h : State.Keeps k s0 s) (a1 : Nat) (a2 : Nat) (a3 : Nat) (a4 : Bool) :
    State.Keeps k s0 (State.gridToken s a1 a2 a3 a4) := by
  unfold State.gridToken
  repeat' first
    | with_reducible assumption
    | (with_reducible show Fld.Listed _; decide)
    | (show Kept.blk _ _ = false; first | exact b5 | exact b6 | exact b12 | exact b18 | exact b20 | exact b22)
    | with_reducible refine Keeps.ite (P := State.Keeps _ _) ?_ ?_
    | (extract_lets -underBinder +onlyGivenNames x; refine Keeps.cut (k := k) (s0 := s0) (x := x) ?_ ?_ <;> first | (intro _; revert x; intro _ _) | (unfold x; clear x))
    | (extract_lets -underBinder +onlyGivenNames x; unfold x; clear x)
    | with_reducible apply State.event_keeps
    | with_reducible apply State.bump_keeps
    | with_reducible apply State.set_keeps
    | with_reducible apply State.setGrd_keeps
    | with_reducible apply State.gridWaitBand_keeps
    | with_reducible apply State.gridDead_keeps

theorem State.tokenAged_keeps {s : State} (b12 : k.blk 12 = false) (h : State.Keeps k s0 s) (a1 : Nat) :
    State.Keeps k s0 (State.tokenAged s a1) := by
  unfold State.tokenAged
  repeat' first
    | with_reducible assumption
    | (with_reducible show Fld.Listed _; decide)
    | (show Kept.blk _ _ = false; first | exact b12)
    | with_reducible refine Keeps.ite (P := State.Keeps _ _) ?_ ?_
    | (extract_lets -underBinder +onlyGivenNames x; unfold x; clear x)
    | with_reducible apply State.set_keeps
    | with_reducible apply State.setGrd_keeps

theorem State.nudgeDue_keeps {s : State} (b12 : k.blk 12 = false) (h : State.Keeps k s0 s) (a1 : Nat) :
    State.Keeps k s0 (State.nudgeDue s a1) := by
  unfold State.nudgeDue
  repeat' first
    | with_reducible assumption
    | with_reducible refine Keeps.ite (P := State.Keeps _ _) ?_ ?_
    | with_reducible apply State.setGrd_keeps

theorem State.gridModeApply_keeps {s : State} (b5 : k.blk 5 = false) (b6 : k.blk 6 = false) (b12 : k.blk 12 = false) (b18 : k.blk 18 = false) (b20 : k.blk 20 = false) (b22 : k.blk 22 = false) (h : State.Keeps k s0 s) (a1 : Nat) :
    State.Keeps k s0 (State.gridModeApply s a1) := by
  unfold State.gridModeApply
  repeat' first
    | with_reducible assumption
    | (show Kept.blk _ _ = false; first | exact b5 | exact b6 | exact b12 | exact b18 | exact b20 | exact b22)
    | (extract_lets -underBinder +onlyGivenNames x; unfold x; clear x)
    | with_reducible apply State.gridDead_keeps
    | with_reducible apply State.setGrd_keeps

theorem State.writeGrdCtrl_keeps {s : State} (hresp : k.resp = false) (b5 : k.blk 5 = false) (b6 : k.blk 6 = false) (b12 : k.blk 12 = false) (b18 : k.blk 18 = false) (b20 : k.blk 20 = false) (b22 : k.blk 22 = false) (h : State.Keeps k s0 s) (a1 : Acc) (a2 : Nat) (a3 : Nat) :
    State.Keeps k s0 (State.writeGrdCtrl s a1 a2 a3) := by
  unfold State.writeGrdCtrl
  repeat' first
    | with_reducible assumption
    | with_reducible refine Keeps.ite (P := State.Keeps _ _) ?_ ?_
    | (extract_lets -underBinder +onlyGivenNames x; refine Keeps.cut (k := k) (s0 := s0) (x := x) ?_ ?_ <;> first | (intro _; revert x; intro _ _) | (unfold x; clear x))
    | (extract_lets -underBinder +onlyGivenNames x; unfold x; clear x)
    | with_reducible apply State.busErr_keeps
    | with_reducible apply State.gridClrTrip_keeps
    | with_reducible apply State.gridDisableNow_keeps
    | with_reducible apply State.gridDisable_keeps
    | with_reducible apply State.gridStart_keeps
    | with_reducible apply State.gridTryClose_keeps
    | with_reducible apply State.setGrd_keeps
    | with_reducible apply State.ok_keeps

theorem State.writeGrdSp_keeps {s : State} (hresp : k.resp = false) (b12 : k.blk 12 = false) (h : State.Keeps k s0 s) (a1 : Acc) (a2 : Nat) (a3 : Bool) (a4 : Nat) :
    State.Keeps k s0 (State.writeGrdSp s a1 a2 a3 a4) := by
  unfold State.writeGrdSp
  repeat' first
    | with_reducible assumption
    | (with_reducible show Fld.Listed _; decide)
    | (show Kept.blk _ _ = false; first | exact b12)
    | with_reducible refine Keeps.ite (P := State.Keeps _ _) ?_ ?_
    | with_reducible apply State.set_keeps
    | with_reducible apply State.busErr_keeps
    | with_reducible apply State.ok_keeps
    | split

theorem execGrdEnable_keeps {s : State} (hresp : k.resp = false) (b5 : k.blk 5 = false) (b6 : k.blk 6 = false) (b12 : k.blk 12 = false) (b18 : k.blk 18 = false) (b20 : k.blk 20 = false) (b22 : k.blk 22 = false) (h : State.Keeps k s0 s) (a0 : Acc) (a1 : Fin 4) :
    OutKeeps k s0 (execGrdEnable a0 a1 s) := by
  unfold execGrdEnable
  repeat' first
    | with_reducible assumption
    | refine OutKeeps.next ?_
    | with_reducible apply State.touch_keeps
    | with_reducible apply State.writeGrdCtrl_keeps

theorem execGrdDisable_keeps {s : State} (hresp : k.resp = false) (b5 : k.blk 5 = false) (b6 : k.blk 6 = false) (b12 : k.blk 12 = false) (b18 : k.blk 18 = false) (b20 : k.blk 20 = false) (b22 : k.blk 22 = false) (h : State.Keeps k s0 s) (a0 : Acc) (a1 : Fin 4) :
    OutKeeps k s0 (execGrdDisable a0 a1 s) := by
  unfold execGrdDisable
  repeat' first
    | with_reducible assumption
    | refine OutKeeps.next ?_
    | with_reducible apply State.touch_keeps
    | with_reducible apply State.writeGrdCtrl_keeps

theorem execGrdDisableImmediate_keeps {s : State} (hresp : k.resp = false) (b5 : k.blk 5 = false) (b6 : k.blk 6 = false) (b12 : k.blk 12 = false) (b18 : k.blk 18 = false) (b20 : k.blk 20 = false) (b22 : k.blk 22 = false) (h : State.Keeps k s0 s) (a0 : Acc) (a1 : Fin 4) :
    OutKeeps k s0 (execGrdDisableImmediate a0 a1 s) := by
  unfold execGrdDisableImmediate
  repeat' first
    | with_reducible assumption
    | refine OutKeeps.next ?_
    | with_reducible apply State.touch_keeps
    | with_reducible apply State.writeGrdCtrl_keeps

theorem execGrdReconnect_keeps {s : State} (hresp : k.resp = false) (b5 : k.blk 5 = false) (b6 : k.blk 6 = false) (b12 : k.blk 12 = false) (b18 : k.blk 18 = false) (b20 : k.blk 20 = false) (b22 : k.blk 22 = false) (h : State.Keeps k s0 s) (a0 : Acc) (a1 : Fin 4) :
    OutKeeps k s0 (execGrdReconnect a0 a1 s) := by
  unfold execGrdReconnect
  repeat' first
    | with_reducible assumption
    | refine OutKeeps.next ?_
    | with_reducible apply State.touch_keeps
    | with_reducible apply State.writeGrdCtrl_keeps

theorem execGrdClrtrip_keeps {s : State} (hresp : k.resp = false) (b5 : k.blk 5 = false) (b6 : k.blk 6 = false) (b12 : k.blk 12 = false) (b18 : k.blk 18 = false) (b20 : k.blk 20 = false) (b22 : k.blk 22 = false) (h : State.Keeps k s0 s) (a0 : Acc) (a1 : Fin 4) :
    OutKeeps k s0 (execGrdClrtrip a0 a1 s) := by
  unfold execGrdClrtrip
  repeat' first
    | with_reducible assumption
    | refine OutKeeps.next ?_
    | with_reducible apply State.touch_keeps
    | with_reducible apply State.writeGrdCtrl_keeps

theorem execGridReconElapsed_keeps {s : State} (b5 : k.blk 5 = false) (b6 : k.blk 6 = false) (b12 : k.blk 12 = false) (b18 : k.blk 18 = false) (b20 : k.blk 20 = false) (b22 : k.blk 22 = false) (h : State.Keeps k s0 s) (a0 : Nat) (a1 : Fin 4) :
    OutKeeps k s0 (execGridReconElapsed a0 a1 s) := by
  unfold execGridReconElapsed
  repeat' first
    | with_reducible assumption
    | refine OutKeeps.next ?_
    | with_reducible apply State.touch_keeps
    | with_reducible apply State.gridTryClose_keeps

theorem execGridCloseDone_keeps {s : State} (b5 : k.blk 5 = false) (b6 : k.blk 6 = false) (b12 : k.blk 12 = false) (b18 : k.blk 18 = false) (b20 : k.blk 20 = false) (h : State.Keeps k s0 s) (a0 : Nat) (a1 : Fin 4) :
    OutKeeps k s0 (execGridCloseDone a0 a1 s) := by
  unfold execGridCloseDone
  repeat' first
    | with_reducible assumption
    | refine OutKeeps.next ?_
    | with_reducible apply State.touch_keeps
    | with_reducible apply State.gridCloseDone_keeps

theorem execGridRideTrip_keeps {s : State} (b5 : k.blk 5 = false) (b6 : k.blk 6 = false) (b12 : k.blk 12 = false) (b18 : k.blk 18 = false) (b20 : k.blk 20 = false) (b22 : k.blk 22 = false) (h : State.Keeps k s0 s) (a0 : Nat) (a1 : Fin 4) (a2 : Nat) (a3 : Int) :
    OutKeeps k s0 (execGridRideTrip a0 a1 a2 a3 s) := by
  unfold execGridRideTrip
  repeat' first
    | with_reducible assumption
    | refine OutKeeps.next ?_
    | with_reducible apply State.touch_keeps
    | with_reducible apply State.gridJudge_keeps

theorem execGridExcursionEnd_keeps {s : State} (b12 : k.blk 12 = false) (b18 : k.blk 18 = false) (h : State.Keeps k s0 s) (a0 : Nat) (a1 : Fin 4) :
    OutKeeps k s0 (execGridExcursionEnd a0 a1 s) := by
  unfold execGridExcursionEnd
  repeat' first
    | with_reducible assumption
    | refine OutKeeps.next ?_
    | with_reducible apply State.touch_keeps
    | with_reducible apply State.excursionEnd_keeps

theorem execNudgeStart_keeps {s : State} (b12 : k.blk 12 = false) (h : State.Keeps k s0 s) (a0 : Nat) (a1 : Fin 4) :
    OutKeeps k s0 (execNudgeStart a0 a1 s) := by
  unfold execNudgeStart
  repeat' first
    | with_reducible assumption
    | refine OutKeeps.next ?_
    | with_reducible apply State.touch_keeps
    | with_reducible apply State.nudgeDue_keeps

theorem execTokenAgeExpire_keeps {s : State} (b12 : k.blk 12 = false) (h : State.Keeps k s0 s) (a0 : Nat) (a1 : Fin 4) :
    OutKeeps k s0 (execTokenAgeExpire a0 a1 s) := by
  unfold execTokenAgeExpire
  repeat' first
    | with_reducible assumption
    | refine OutKeeps.next ?_
    | with_reducible apply State.touch_keeps
    | with_reducible apply State.tokenAged_keeps

theorem execGridDrainDone_keeps {s : State} (b5 : k.blk 5 = false) (b6 : k.blk 6 = false) (b12 : k.blk 12 = false) (b18 : k.blk 18 = false) (h : State.Keeps k s0 s) (a0 : Nat) (a1 : Fin 4) :
    OutKeeps k s0 (execGridDrainDone a0 a1 s) := by
  unfold execGridDrainDone
  repeat' first
    | with_reducible assumption
    | refine OutKeeps.next ?_
    | with_reducible apply State.touch_keeps
    | with_reducible apply State.gridDrainDone_keeps

end Sys2Proof.Machine
end

