-- ==== Sys2Proof/Laws/Keeps/JalamPhy.lean ====
section
/-!
SUPPORT. Sys2Proof/Laws/Keeps/JalamPhy.lean: what each operation of Machine/JalamPhy.lean keeps.
-/

set_option Elab.async false

namespace Sys2Proof.Machine

set_option linter.tactic.unusedName false

variable {k : Kept} {s0 : State}

theorem State.phyGo_keeps {s : State} (b17 : k.blk 17 = false) (h : State.Keeps k s0 s) (a1 : Nat) :
    State.Keeps k s0 (State.phyGo s a1) := by
  unfold State.phyGo
  repeat' first
    | with_reducible assumption
    | (with_reducible show Fld.Listed _; decide)
    | (show Kept.blk _ _ = false; first | exact b17)
    | with_reducible apply State.set_keeps

theorem State.rxLock_keeps {s : State} (b17 : k.blk 17 = false) (h : State.Keeps k s0 s) (a1 : Int) (a2 : Nat) :
    State.Keeps k s0 (State.rxLock s a1 a2) := by
  unfold State.rxLock
  repeat' first
    | with_reducible assumption
    | (with_reducible show Fld.Listed _; decide)
    | (show Kept.blk _ _ = false; first | exact b17)
    | (extract_lets -underBinder +onlyGivenNames x; refine Keeps.cut (k := k) (s0 := s0) (x := x) ?_ ?_ <;> first | (intro _; revert x; intro _ _) | (unfold x; clear x))
    | (extract_lets -underBinder +onlyGivenNames x; unfold x; clear x)
    | with_reducible apply State.set_keeps
    | with_reducible apply State.phyGo_keeps
    | (with_reducible refine Keeps.upd (h := ?_); first | with_reducible assumption | with_reducible apply State.phyGo_keeps | with_reducible apply State.set_keeps | with_reducible refine Keeps.ite (P := State.Keeps _ _) ?_ ?_ | with_reducible refine Keeps.foldl (fun _ _ _ => ?_) ?_)

theorem State.rxPreamble_keeps {s : State} (b17 : k.blk 17 = false) (b18 : k.blk 18 = false) (h : State.Keeps k s0 s) (a1 : Int) (a2 : Nat) :
    State.Keeps k s0 (State.rxPreamble s a1 a2) := by
  unfold State.rxPreamble
  repeat' first
    | with_reducible assumption
    | (with_reducible show Fld.Listed _; decide)
    | (show Kept.blk _ _ = false; first | exact b17 | exact b18)
    | with_reducible refine Keeps.ite (P := State.Keeps _ _) ?_ ?_
    | with_reducible apply State.rxLock_keeps
    | with_reducible apply State.event_keeps
    | with_reducible apply State.bump_keeps

theorem State.rxHeader_keeps {s : State} (b17 : k.blk 17 = false) (b18 : k.blk 18 = false) (h : State.Keeps k s0 s) (a1 : BitVec 30) (a2 : Nat) :
    State.Keeps k s0 (State.rxHeader s a1 a2) := by
  unfold State.rxHeader
  repeat' first
    | with_reducible assumption
    | (with_reducible show Fld.Listed _; decide)
    | (show Kept.blk _ _ = false; first | exact b17 | exact b18)
    | with_reducible refine Keeps.ite (P := State.Keeps _ _) ?_ ?_
    | with_reducible apply State.set_keeps
    | with_reducible apply State.set64_keeps
    | with_reducible apply State.phyGo_keeps
    | with_reducible apply State.event_keeps
    | with_reducible apply State.bump_keeps

theorem State.rxPayload_keeps {s : State} (b17 : k.blk 17 = false) (b18 : k.blk 18 = false) (h : State.Keeps k s0 s) (a1 : List Bool) :
    State.Keeps k s0 (State.rxPayload s a1).1 := by
  unfold State.rxPayload
  repeat' first
    | with_reducible assumption
    | (with_reducible show Fld.Listed _; decide)
    | (show Kept.blk _ _ = false; first | exact b17 | exact b18)
    | (extract_lets -underBinder +onlyGivenNames x; refine Keeps.cut (k := k) (s0 := s0) (x := x) ?_ ?_ <;> first | (intro _; revert x; intro _ _) | (unfold x; clear x))
    | (extract_lets -underBinder +onlyGivenNames x; unfold x; clear x)
    | with_reducible apply State.phyGo_keeps
    | with_reducible apply State.event_keeps
    | with_reducible apply State.bump_keeps
    | split

theorem State.rxAborted_keeps {s : State} (b17 : k.blk 17 = false) (b18 : k.blk 18 = false) (h : State.Keeps k s0 s) :
    State.Keeps k s0 (State.rxAborted s) := by
  unfold State.rxAborted
  repeat' first
    | with_reducible assumption
    | (with_reducible show Fld.Listed _; decide)
    | (show Kept.blk _ _ = false; first | exact b17 | exact b18)
    | with_reducible refine Keeps.ite (P := State.Keeps _ _) ?_ ?_
    | with_reducible apply State.phyGo_keeps
    | with_reducible apply State.event_keeps
    | with_reducible apply State.bump_keeps

theorem execJalamPreambleDetect_keeps {s : State} (b17 : k.blk 17 = false) (b18 : k.blk 18 = false) (h : State.Keeps k s0 s) (a0 : Nat) (a1 : BitVec 8) (a2 : Fin 8) :
    OutKeeps k s0 (execJalamPreambleDetect a0 a1 a2 s) := by
  unfold execJalamPreambleDetect
  repeat' first
    | with_reducible assumption
    | refine OutKeeps.next ?_
    | with_reducible apply State.touch_keeps
    | with_reducible apply State.rxPreamble_keeps

theorem execJalamHeaderDecoded_keeps {s : State} (b17 : k.blk 17 = false) (b18 : k.blk 18 = false) (h : State.Keeps k s0 s) (a0 : Nat) (a1 : BitVec 30) (a2 : Nat) :
    OutKeeps k s0 (execJalamHeaderDecoded a0 a1 a2 s) := by
  unfold execJalamHeaderDecoded
  repeat' first
    | with_reducible assumption
    | refine OutKeeps.next ?_
    | with_reducible apply State.touch_keeps
    | with_reducible apply State.rxHeader_keeps

theorem execAbortSymbolsDetected_keeps {s : State} (b17 : k.blk 17 = false) (b18 : k.blk 18 = false) (h : State.Keeps k s0 s) (a0 : Nat) :
    OutKeeps k s0 (execAbortSymbolsDetected a0 s) := by
  unfold execAbortSymbolsDetected
  repeat' first
    | with_reducible assumption
    | refine OutKeeps.next ?_
    | with_reducible apply State.touch_keeps
    | with_reducible apply State.rxAborted_keeps

end Sys2Proof.Machine
end

