-- ==== Sys2Proof/Laws/Keeps/JalamNet.lean ====
section
/-!
SUPPORT. Sys2Proof/Laws/Keeps/JalamNet.lean: what each operation of Machine/JalamNet.lean keeps.
-/

set_option Elab.async false

namespace Sys2Proof.Machine

set_option linter.tactic.unusedName false

variable {k : Kept} {s0 : State}

theorem State.netGo_keeps {s : State} (b17 : k.blk 17 = false) (b18 : k.blk 18 = false) (h : State.Keeps k s0 s) (a1 : Nat) :
    State.Keeps k s0 (State.netGo s a1) := by
  unfold State.netGo
  repeat' first
    | with_reducible assumption
    | (with_reducible show Fld.Listed _; decide)
    | (show Kept.blk _ _ = false; first | exact b17 | exact b18)
    | with_reducible refine Keeps.ite (P := State.Keeps _ _) ?_ ?_
    | with_reducible apply State.set_keeps
    | with_reducible apply State.raise_keeps

theorem State.jlnSet_keeps {s : State} (b17 : k.blk 17 = false) (h : State.Keeps k s0 s) (a1 : Jln → Jln) :
    State.Keeps k s0 (State.jlnSet s a1) := by
  unfold State.jlnSet
  repeat' first
    | (with_reducible refine Keeps.upd (h := ?_); first | with_reducible assumption | with_reducible refine Keeps.ite (P := State.Keeps _ _) ?_ ?_ | with_reducible refine Keeps.foldl (fun _ _ _ => ?_) ?_)

theorem State.noteMembers_keeps {s : State} (b17 : k.blk 17 = false) (h : State.Keeps k s0 s) :
    State.Keeps k s0 (State.noteMembers s) := by
  unfold State.noteMembers
  repeat' first
    | with_reducible assumption
    | (with_reducible show Fld.Listed _; decide)
    | (show Kept.blk _ _ = false; first | exact b17)
    | with_reducible apply State.set_keeps

theorem State.setMembers_keeps {s : State} (b17 : k.blk 17 = false) (h : State.Keeps k s0 s) (a1 : List JMember) :
    State.Keeps k s0 (State.setMembers s a1) := by
  unfold State.setMembers
  repeat' first
    | with_reducible assumption
    | with_reducible apply State.noteMembers_keeps
    | with_reducible apply State.jlnSet_keeps

theorem State.updMember_keeps {s : State} (b17 : k.blk 17 = false) (h : State.Keeps k s0 s) (a1 : Nat) (a2 : JMember → JMember) :
    State.Keeps k s0 (State.updMember s a1 a2) := by
  unfold State.updMember
  repeat' first
    | with_reducible assumption
    | with_reducible apply State.setMembers_keeps

theorem State.dropMember_keeps {s : State} (b17 : k.blk 17 = false) (h : State.Keeps k s0 s) (a1 : Nat) :
    State.Keeps k s0 (State.dropMember s a1) := by
  unfold State.dropMember
  repeat' first
    | with_reducible assumption
    | (extract_lets -underBinder +onlyGivenNames x; refine Keeps.cut (k := k) (s0 := s0) (x := x) ?_ ?_ <;> first | (intro _; revert x; intro _ _) | (unfold x; clear x))
    | (extract_lets -underBinder +onlyGivenNames x; unfold x; clear x)
    | with_reducible apply State.jlnSet_keeps
    | with_reducible apply State.setMembers_keeps

theorem State.noteFcnt_keeps {s : State} (b17 : k.blk 17 = false) (h : State.Keeps k s0 s) (a1 : Nat) :
    State.Keeps k s0 (State.noteFcnt s a1) := by
  unfold State.noteFcnt
  repeat' first
    | with_reducible assumption
    | (with_reducible show Fld.Listed _; decide)
    | (show Kept.blk _ _ = false; first | exact b17)
    | (extract_lets -underBinder +onlyGivenNames x; refine Keeps.cut (k := k) (s0 := s0) (x := x) ?_ ?_ <;> first | (intro _; revert x; intro _ _) | (unfold x; clear x))
    | (extract_lets -underBinder +onlyGivenNames x; unfold x; clear x)
    | with_reducible apply State.set_keeps
    | with_reducible apply State.jlnSet_keeps

theorem State.journalSeq_keeps {s : State} (b18 : k.blk 18 = false) (b20 : k.blk 20 = false) (h : State.Keeps k s0 s) :
    State.Keeps k s0 (State.journalSeq s) := by
  unfold State.journalSeq
  repeat' first
    | with_reducible assumption
    | with_reducible apply State.jnlWrite_keeps

theorem State.takeSeq_keeps {s : State} (b17 : k.blk 17 = false) (b18 : k.blk 18 = false) (b20 : k.blk 20 = false) (h : State.Keeps k s0 s) :
    State.Keeps k s0 (State.takeSeq s).2 := by
  unfold State.takeSeq
  repeat' first
    | with_reducible assumption
    | (with_reducible show Fld.Listed _; decide)
    | (show Kept.blk _ _ = false; first | exact b17 | exact b18 | exact b20)
    | with_reducible refine Keeps.ite (P := State.Keeps _ _) ?_ ?_
    | with_reducible apply State.set_keeps
    | with_reducible apply State.journalSeq_keeps

theorem State.txState_keeps {s : State} (b17 : k.blk 17 = false) (h : State.Keeps k s0 s) (a1 : JFrame) (a2 : Nat) :
    State.Keeps k s0 (State.txState s a1 a2) := by
  unfold State.txState
  repeat' first
    | with_reducible assumption
    | (with_reducible show Fld.Listed _; decide)
    | (show Kept.blk _ _ = false; first | exact b17)
    | with_reducible apply State.set_keeps
    | split

theorem State.txClose_keeps {s : State} (b18 : k.blk 18 = false) (b20 : k.blk 20 = false) (h : State.Keeps k s0 s) (a1 : JFrame) (a2 : Nat) :
    State.Keeps k s0 (State.txClose s a1 a2) := by
  unfold State.txClose
  repeat' first
    | with_reducible assumption
    | with_reducible apply State.closeOp_keeps
    | split

theorem State.txComplete_keeps {s : State} (b17 : k.blk 17 = false) (b18 : k.blk 18 = false) (b20 : k.blk 20 = false) (h : State.Keeps k s0 s) (a1 : JFrame) :
    State.Keeps k s0 (State.txComplete s a1) := by
  unfold State.txComplete
  repeat' first
    | with_reducible assumption
    | with_reducible apply State.txClose_keeps
    | with_reducible apply State.txState_keeps

theorem State.cancelFrame_keeps {s : State} (b17 : k.blk 17 = false) (b18 : k.blk 18 = false) (b20 : k.blk 20 = false) (h : State.Keeps k s0 s) (a1 : JFrame) :
    State.Keeps k s0 (State.cancelFrame s a1) := by
  unfold State.cancelFrame
  repeat' first
    | with_reducible assumption
    | (with_reducible show Fld.Listed _; decide)
    | (show Kept.blk _ _ = false; first | exact b17 | exact b18 | exact b20)
    | (extract_lets -underBinder +onlyGivenNames x; refine Keeps.cut (k := k) (s0 := s0) (x := x) ?_ ?_ <;> first | (intro _; revert x; intro _ _) | (unfold x; clear x))
    | with_reducible apply State.txClose_keeps
    | with_reducible apply State.txState_keeps
    | with_reducible apply State.event_keeps
    | split

theorem State.queueMgmt_keeps {s : State} (b17 : k.blk 17 = false) (h : State.Keeps k s0 s) (a1 : Nat) (a2 : Nat) (a3 : Bool) (a4 : List Byte) :
    State.Keeps k s0 (State.queueMgmt s a1 a2 a3 a4) := by
  unfold State.queueMgmt
  repeat' first
    | with_reducible assumption
    | (extract_lets -underBinder +onlyGivenNames x; unfold x; clear x)
    | with_reducible apply State.jlnSet_keeps

theorem State.addJob_keeps {s : State} (b17 : k.blk 17 = false) (h : State.Keeps k s0 s) (a1 : Nat) (a2 : JItem) :
    State.Keeps k s0 (State.addJob s a1 a2) := by
  unfold State.addJob
  repeat' first
    | with_reducible assumption
    | with_reducible apply State.jlnSet_keeps

theorem State.sendQueued_keeps {s : State} (b17 : k.blk 17 = false) (h : State.Keeps k s0 s) (a1 : JFrame) (a2 : Nat) :
    State.Keeps k s0 (State.sendQueued s a1 a2) := by
  unfold State.sendQueued
  repeat' first
    | with_reducible assumption
    | with_reducible apply State.addJob_keeps
    | with_reducible apply State.jlnSet_keeps

theorem State.contend_keeps {s : State} (b17 : k.blk 17 = false) (h : State.Keeps k s0 s) (a1 : Nat) :
    State.Keeps k s0 (State.contend s a1) := by
  unfold State.contend
  repeat' first
    | with_reducible assumption
    | with_reducible refine Keeps.ite (P := State.Keeps _ _) ?_ ?_
    | with_reducible apply State.jlnSet_keeps
    | with_reducible apply State.nextFree_keeps
    | with_reducible apply State.sendQueued_keeps
    | split

theorem State.cfpNext_keeps {s : State} (b17 : k.blk 17 = false) (h : State.Keeps k s0 s) (a1 : Nat) :
    State.Keeps k s0 (State.cfpNext s a1) := by
  unfold State.cfpNext
  repeat' first
    | with_reducible assumption
    | with_reducible refine Keeps.ite (P := State.Keeps _ _) ?_ ?_
    | (extract_lets -underBinder +onlyGivenNames x; refine Keeps.cut (k := k) (s0 := s0) (x := x) ?_ ?_ <;> first | (intro _; revert x; intro _ _) | (unfold x; clear x))
    | (extract_lets -underBinder +onlyGivenNames x; unfold x; clear x)
    | with_reducible apply State.sendQueued_keeps
    | with_reducible apply State.addJob_keeps
    | with_reducible apply State.nextFree_keeps
    | with_reducible apply State.jlnSet_keeps
    | split

theorem State.proceed_keeps {s : State} (b17 : k.blk 17 = false) (h : State.Keeps k s0 s) (a1 : Nat) (a2 : Nat) :
    State.Keeps k s0 (State.proceed s a1 a2) := by
  unfold State.proceed
  repeat' first
    | with_reducible assumption
    | with_reducible refine Keeps.ite (P := State.Keeps _ _) ?_ ?_
    | with_reducible apply State.cfpNext_keeps
    | with_reducible apply State.contend_keeps

theorem State.beaconOpen_keeps {s : State} (b17 : k.blk 17 = false) (b18 : k.blk 18 = false) (h : State.Keeps k s0 s) (a1 : Nat) :
    State.Keeps k s0 (State.beaconOpen s a1) := by
  unfold State.beaconOpen
  repeat' first
    | with_reducible assumption
    | with_reducible refine Keeps.ite (P := State.Keeps _ _) ?_ ?_
    | (extract_lets -underBinder +onlyGivenNames x; refine Keeps.cut (k := k) (s0 := s0) (x := x) ?_ ?_ <;> first | (intro _; revert x; intro _ _) | (unfold x; clear x))
    | with_reducible apply State.jlnSet_keeps
    | with_reducible apply State.netGo_keeps
    | with_reducible apply State.noteMembers_keeps

theorem State.putLine_keeps {s : State} (b17 : k.blk 17 = false) (b18 : k.blk 18 = false) (h : State.Keeps k s0 s) (a1 : JItem) (a2 : Nat) (a3 : Nat) (a4 : Bool) (a5 : List Byte) :
    State.Keeps k s0 (State.putLine s a1 a2 a3 a4 a5) := by
  unfold State.putLine
  repeat' first
    | with_reducible assumption
    | (with_reducible show Fld.Listed _; decide)
    | (show Kept.blk _ _ = false; first | exact b17 | exact b18)
    | with_reducible refine Keeps.ite (P := State.Keeps _ _) ?_ ?_
    | (extract_lets -underBinder +onlyGivenNames x; refine Keeps.cut (k := k) (s0 := s0) (x := x) ?_ ?_ <;> first | (intro _; revert x; intro _ _) | (unfold x; clear x))
    | (extract_lets -underBinder +onlyGivenNames x; unfold x; clear x)
    | with_reducible apply State.event_keeps
    | with_reducible apply State.bump_keeps
    | with_reducible apply State.phyGo_keeps
    | with_reducible apply State.jlnSet_keeps

theorem State.frameBytes_keeps {s : State} (b17 : k.blk 17 = false) (b18 : k.blk 18 = false) (b20 : k.blk 20 = false) (h : State.Keeps k s0 s) (a1 : JFrame) (a2 : Nat) :
    State.Keeps k s0 (State.frameBytes s a1 a2).2 := by
  unfold State.frameBytes
  repeat' first
    | with_reducible assumption
    | (extract_lets -underBinder +onlyGivenNames x; refine Keeps.cut (k := k) (s0 := s0) (x := x.2) ?_ ?_ <;> first | (intro _; revert x; intro _ _) | (unfold x; clear x))
    | with_reducible apply State.takeSeq_keeps
    | with_reducible apply State.noteFcnt_keeps
    | split

theorem State.txStart_keeps {s : State} (b17 : k.blk 17 = false) (b18 : k.blk 18 = false) (b20 : k.blk 20 = false) (h : State.Keeps k s0 s) (a1 : Nat) :
    State.Keeps k s0 (State.txStart s a1) := by
  unfold State.txStart
  repeat' first
    | with_reducible assumption
    | with_reducible refine Keeps.ite (P := State.Keeps _ _) ?_ ?_
    | (extract_lets -underBinder +onlyGivenNames x; refine Keeps.cut (k := k) (s0 := s0) (x := x) ?_ ?_ <;> first | (intro _; revert x; intro _ _) | (unfold x; clear x))
    | (extract_lets -underBinder +onlyGivenNames x; refine Keeps.cut (k := k) (s0 := s0) (x := x.2) ?_ ?_ <;> first | (intro _; revert x; intro _ _) | (unfold x; clear x))
    | (extract_lets -underBinder +onlyGivenNames x; unfold x; clear x)
    | with_reducible apply State.jlnSet_keeps
    | with_reducible apply State.frameBytes_keeps
    | with_reducible apply State.putLine_keeps
    | with_reducible apply State.txState_keeps
    | with_reducible apply State.takeSeq_keeps
    | with_reducible apply State.nextFree_keeps
    | with_reducible apply State.noteFcnt_keeps
    | split

theorem State.jlnListen_keeps {s : State} (b17 : k.blk 17 = false) (b18 : k.blk 18 = false) (h : State.Keeps k s0 s) (a1 : Nat) :
    State.Keeps k s0 (State.jlnListen s a1) := by
  unfold State.jlnListen
  repeat' first
    | with_reducible assumption
    | with_reducible apply State.netGo_keeps
    | with_reducible apply State.phyGo_keeps
    | with_reducible apply State.jlnSet_keeps

theorem State.jlnOff_keeps {s : State} (b17 : k.blk 17 = false) (b18 : k.blk 18 = false) (h : State.Keeps k s0 s) (a1 : Nat) :
    State.Keeps k s0 (State.jlnOff s a1) := by
  unfold State.jlnOff
  repeat' first
    | with_reducible assumption
    | with_reducible refine Keeps.ite (P := State.Keeps _ _) ?_ ?_
    | with_reducible apply State.netGo_keeps
    | with_reducible apply State.phyGo_keeps
    | with_reducible apply State.jlnSet_keeps
    | with_reducible apply State.jlnListen_keeps

theorem State.jlnDisable_keeps {s : State} (b17 : k.blk 17 = false) (b18 : k.blk 18 = false) (b20 : k.blk 20 = false) (h : State.Keeps k s0 s) (a1 : Nat) :
    State.Keeps k s0 (State.jlnDisable s a1) := by
  unfold State.jlnDisable
  repeat' first
    | with_reducible assumption
    | with_reducible refine Keeps.ite (P := State.Keeps _ _) ?_ ?_
    | (extract_lets -underBinder +onlyGivenNames x; refine Keeps.cut (k := k) (s0 := s0) (x := x) ?_ ?_ <;> first | (intro _; revert x; intro _ _) | (unfold x; clear x))
    | (extract_lets -underBinder +onlyGivenNames x; unfold x; clear x)
    | with_reducible refine Keeps.foldl (fun _ _ _ => ?_) ?_
    | with_reducible apply State.jlnSet_keeps
    | with_reducible apply State.cancelFrame_keeps
    | with_reducible apply State.journalSeq_keeps
    | with_reducible apply State.netGo_keeps
    | with_reducible apply State.noteMembers_keeps
    | with_reducible apply State.jlnOff_keeps
    | with_reducible apply State.phyGo_keeps
    | split

theorem State.txDoneAt_keeps {s : State} (b17 : k.blk 17 = false) (b18 : k.blk 18 = false) (b20 : k.blk 20 = false) (h : State.Keeps k s0 s) (a1 : Nat) :
    State.Keeps k s0 (State.txDoneAt s a1) := by
  unfold State.txDoneAt
  repeat' first
    | with_reducible assumption
    | (with_reducible show Fld.Listed _; decide)
    | (show Kept.blk _ _ = false; first | exact b17 | exact b18 | exact b20)
    | with_reducible refine Keeps.ite (P := State.Keeps _ _) ?_ ?_
    | (extract_lets -underBinder +onlyGivenNames x; refine Keeps.cut (k := k) (s0 := s0) (x := x) ?_ ?_ <;> first | (intro _; revert x; intro _ _) | (unfold x; clear x))
    | with_reducible apply State.jlnOff_keeps
    | with_reducible apply State.event_keeps
    | with_reducible apply State.phyGo_keeps
    | with_reducible apply State.jlnSet_keeps
    | with_reducible apply State.updMember_keeps
    | with_reducible apply State.txState_keeps
    | with_reducible apply State.proceed_keeps
    | with_reducible apply State.txComplete_keeps
    | split

theorem State.ackFrame_keeps {s : State} (b17 : k.blk 17 = false) (h : State.Keeps k s0 s) (a1 : JIn) :
    State.Keeps k s0 (State.ackFrame s a1) := by
  unfold State.ackFrame
  repeat' first
    | with_reducible assumption
    | with_reducible refine Keeps.ite (P := State.Keeps _ _) ?_ ?_
    | with_reducible apply State.addJob_keeps

theorem State.ackTimeout_keeps {s : State} (b17 : k.blk 17 = false) (b18 : k.blk 18 = false) (b20 : k.blk 20 = false) (h : State.Keeps k s0 s) (a1 : Nat) :
    State.Keeps k s0 (State.ackTimeout s a1) := by
  unfold State.ackTimeout
  repeat' first
    | with_reducible assumption
    | (with_reducible show Fld.Listed _; decide)
    | (show Kept.blk _ _ = false; first | exact b17 | exact b18 | exact b20)
    | with_reducible refine Keeps.ite (P := State.Keeps _ _) ?_ ?_
    | (extract_lets -underBinder +onlyGivenNames x; refine Keeps.cut (k := k) (s0 := s0) (x := x) ?_ ?_ <;> first | (intro _; revert x; intro _ _) | (unfold x; clear x))
    | (extract_lets -underBinder +onlyGivenNames x; unfold x; clear x)
    | with_reducible apply State.set_keeps
    | with_reducible apply State.jlnSet_keeps
    | with_reducible apply State.cancelFrame_keeps
    | with_reducible apply State.txClose_keeps
    | with_reducible apply State.txState_keeps
    | with_reducible apply State.event_keeps
    | with_reducible apply State.bump_keeps
    | with_reducible apply State.progOp_keeps
    | with_reducible apply State.proceed_keeps
    | split

theorem State.macReceive_keeps {s : State} (b17 : k.blk 17 = false) (b18 : k.blk 18 = false) (h : State.Keeps k s0 s) (a1 : JIn) :
    State.Keeps k s0 (State.macReceive s a1) := by
  unfold State.macReceive
  repeat' first
    | with_reducible assumption
    | (with_reducible show Fld.Listed _; decide)
    | (show Kept.blk _ _ = false; first | exact b17 | exact b18)
    | with_reducible refine Keeps.ite (P := State.Keeps _ _) ?_ ?_
    | with_reducible apply State.event_keeps
    | with_reducible apply State.jlnSet_keeps
    | with_reducible apply State.bump_keeps

theorem State.frameReceived_keeps {s : State} (b17 : k.blk 17 = false) (b18 : k.blk 18 = false) (h : State.Keeps k s0 s) (a1 : Nat) (a2 : List Bool) :
    State.Keeps k s0 (State.frameReceived s a1 a2) := by
  unfold State.frameReceived
  repeat' first
    | with_reducible assumption
    | (show Kept.blk _ _ = false; first | exact b17 | exact b18)
    | with_reducible refine Keeps.ite (P := State.Keeps _ _) ?_ ?_
    | (extract_lets -underBinder +onlyGivenNames x; refine Keeps.cut (k := k) (s0 := s0) (x := x.1) ?_ ?_ <;> first | (intro _; revert x; intro _ _) | (unfold x; clear x))
    | (extract_lets -underBinder +onlyGivenNames x; unfold x; clear x)
    | with_reducible apply State.rxPayload_keeps
    | with_reducible apply State.macReceive_keeps
    | split
    | with_reducible refine Keeps.fst (by assumption) ?_

theorem State.takeIn_keeps {s : State} (b17 : k.blk 17 = false) (h : State.Keeps k s0 s) (a1 : JIn → Bool) :
    OptKeeps k s0 (State.takeIn s a1) := by
  unfold State.takeIn
  repeat' first
    | with_reducible assumption
    | with_reducible exact OptKeeps.none
    | with_reducible refine OptKeeps.some ?_
    | with_reducible refine Keeps.ite (P := OptKeeps _ _) ?_ ?_
    | with_reducible apply State.jlnSet_keeps
    | split

theorem State.heardFrom_keeps {s : State} (b17 : k.blk 17 = false) (h : State.Keeps k s0 s) (a1 : Nat) (a2 : Nat) :
    State.Keeps k s0 (State.heardFrom s a1 a2) := by
  unfold State.heardFrom
  repeat' first
    | with_reducible assumption
    | (extract_lets -underBinder +onlyGivenNames x; refine Keeps.cut (k := k) (s0 := s0) (x := x) ?_ ?_ <;> first | (intro _; revert x; intro _ _) | (unfold x; clear x))
    | with_reducible apply State.updMember_keeps
    | with_reducible apply State.jlnSet_keeps

theorem State.replay_keeps {s : State} (b17 : k.blk 17 = false) (b18 : k.blk 18 = false) (h : State.Keeps k s0 s) :
    State.Keeps k s0 (State.replay s) := by
  unfold State.replay
  repeat' first
    | with_reducible assumption
    | (with_reducible show Fld.Listed _; decide)
    | (show Kept.blk _ _ = false; first | exact b17 | exact b18)
    | with_reducible apply State.event_keeps
    | with_reducible apply State.bump_keeps

theorem State.authFail_keeps {s : State} (b17 : k.blk 17 = false) (b18 : k.blk 18 = false) (h : State.Keeps k s0 s) :
    State.Keeps k s0 (State.authFail s) := by
  unfold State.authFail
  repeat' first
    | with_reducible assumption
    | (with_reducible show Fld.Listed _; decide)
    | (show Kept.blk _ _ = false; first | exact b17 | exact b18)
    | with_reducible apply State.event_keeps
    | with_reducible apply State.bump_keeps

theorem State.newEntry_keeps {s : State} (b17 : k.blk 17 = false) (h : State.Keeps k s0 s) (a1 : JIn) :
    State.Keeps k s0 (State.newEntry s a1) := by
  unfold State.newEntry
  repeat' first
    | with_reducible assumption
    | with_reducible refine Keeps.ite (P := State.Keeps _ _) ?_ ?_
    | with_reducible apply State.updMember_keeps
    | with_reducible apply State.jlnSet_keeps

theorem State.judge_keeps {s : State} (b17 : k.blk 17 = false) (b18 : k.blk 18 = false) (h : State.Keeps k s0 s) (a1 : JIn) (a2 : State → State) (a3 : State → State) (g2 : ∀ x, State.Keeps k s0 x → State.Keeps k s0 (a2 x)) (g3 : ∀ x, State.Keeps k s0 x → State.Keeps k s0 (a3 x)) :
    State.Keeps k s0 (State.judge s a1 a2 a3) := by
  unfold State.judge
  repeat' first
    | with_reducible assumption
    | with_reducible apply g2
    | with_reducible apply g3
    | with_reducible refine Keeps.ite (P := State.Keeps _ _) ?_ ?_
    | with_reducible apply State.authFail_keeps
    | with_reducible apply State.replay_keeps
    | with_reducible apply State.ackFrame_keeps
    | with_reducible apply State.newEntry_keeps
    | split

theorem State.noteBeacon_keeps {s : State} (b17 : k.blk 17 = false) (h : State.Keeps k s0 s) (a1 : JIn) :
    State.Keeps k s0 (State.noteBeacon s a1) := by
  unfold State.noteBeacon
  repeat' first
    | with_reducible assumption
    | (extract_lets -underBinder +onlyGivenNames x; unfold x; clear x)
    | with_reducible apply State.jlnSet_keeps

theorem State.useBeacon_keeps {s : State} (b2 : k.blk 2 = false) (b5 : k.blk 5 = false) (b6 : k.blk 6 = false) (b12 : k.blk 12 = false) (b17 : k.blk 17 = false) (b18 : k.blk 18 = false) (b20 : k.blk 20 = false) (b22 : k.blk 22 = false) (h : State.Keeps k s0 s) (a1 : JIn) (a2 : Nat) :
    State.Keeps k s0 (State.useBeacon s a1 a2) := by
  unfold State.useBeacon
  repeat' first
    | with_reducible assumption
    | (with_reducible show Fld.Listed _; decide)
    | (show Kept.blk _ _ = false; first | exact b2 | exact b5 | exact b6 | exact b12 | exact b17 | exact b18 | exact b20 | exact b22)
    | with_reducible refine Keeps.ite (P := State.Keeps _ _) ?_ ?_
    | (extract_lets -underBinder +onlyGivenNames x; unfold x; clear x)
    | with_reducible refine Keeps.foldl (fun _ _ _ => ?_) ?_
    | with_reducible apply State.set_keeps
    | with_reducible apply State.event_keeps
    | with_reducible apply State.noteBeacon_keeps
    | with_reducible apply State.set64_keeps
    | with_reducible apply State.gridToken_keeps
    | (with_reducible refine Keeps.upd (h := ?_); first | with_reducible assumption | with_reducible apply State.event_keeps | with_reducible apply State.noteBeacon_keeps | with_reducible apply State.set64_keeps | with_reducible apply State.gridToken_keeps | with_reducible apply State.set_keeps | with_reducible refine Keeps.ite (P := State.Keeps _ _) ?_ ?_ | with_reducible refine Keeps.foldl (fun _ _ _ => ?_) ?_)

theorem State.hearBeacon_keeps {s : State} (b17 : k.blk 17 = false) (b18 : k.blk 18 = false) (h : State.Keeps k s0 s) (a1 : JIn) (a2 : Nat) :
    State.Keeps k s0 (State.hearBeacon s a1 a2) := by
  unfold State.hearBeacon
  repeat' first
    | with_reducible assumption
    | (with_reducible show Fld.Listed _; decide)
    | (show Kept.blk _ _ = false; first | exact b17 | exact b18)
    | with_reducible refine Keeps.ite (P := State.Keeps _ _) ?_ ?_
    | (extract_lets -underBinder +onlyGivenNames x; refine Keeps.cut (k := k) (s0 := s0) (x := x) ?_ ?_ <;> first | (intro _; revert x; intro _ _) | (unfold x; clear x))
    | (extract_lets -underBinder +onlyGivenNames x; unfold x; clear x)
    | with_reducible apply State.set_keeps
    | with_reducible apply State.event_keeps
    | with_reducible apply State.noteBeacon_keeps
    | with_reducible apply State.jlnSet_keeps
    | with_reducible apply State.nextFree_keeps
    | with_reducible apply State.queueMgmt_keeps
    | with_reducible apply State.netGo_keeps
    | split

theorem State.rxBeacon_keeps {s : State} (b2 : k.blk 2 = false) (b5 : k.blk 5 = false) (b6 : k.blk 6 = false) (b12 : k.blk 12 = false) (b17 : k.blk 17 = false) (b18 : k.blk 18 = false) (b20 : k.blk 20 = false) (b22 : k.blk 22 = false) (h : State.Keeps k s0 s) (a1 : Nat) :
    State.Keeps k s0 (State.rxBeacon s a1) := by
  unfold State.rxBeacon
  repeat' first
    | with_reducible assumption
    | (with_reducible show Fld.Listed _; decide)
    | (show Kept.blk _ _ = false; first | exact b2 | exact b5 | exact b6 | exact b12 | exact b17 | exact b18 | exact b20 | exact b22)
    | (intro x hx; have := (hx : State.Keeps k s0 x))
    | with_reducible refine Keeps.ite (P := State.Keeps _ _) ?_ ?_
    | (extract_lets -underBinder +onlyGivenNames x; refine Keeps.cut (k := k) (s0 := s0) (x := x) ?_ ?_ <;> first | (intro _; revert x; intro _ _) | (unfold x; clear x))
    | with_reducible apply State.takeIn_keeps
    | with_reducible apply State.hearBeacon_keeps
    | with_reducible apply State.authFail_keeps
    | with_reducible apply State.event_keeps
    | with_reducible apply State.jlnSet_keeps
    | with_reducible apply State.replay_keeps
    | with_reducible apply State.judge_keeps
    | with_reducible apply State.useBeacon_keeps
    | split
    | with_reducible refine Keeps.some (by assumption) ?_

theorem State.toListen_keeps {s : State} (b17 : k.blk 17 = false) (b18 : k.blk 18 = false) (h : State.Keeps k s0 s) (a1 : Nat) :
    State.Keeps k s0 (State.toListen s a1) := by
  unfold State.toListen
  repeat' first
    | with_reducible assumption
    | (extract_lets -underBinder +onlyGivenNames x; refine Keeps.cut (k := k) (s0 := s0) (x := x) ?_ ?_ <;> first | (intro _; revert x; intro _ _) | (unfold x; clear x))
    | (extract_lets -underBinder +onlyGivenNames x; unfold x; clear x)
    | with_reducible apply State.jlnSet_keeps
    | with_reducible apply State.netGo_keeps
    | with_reducible apply State.noteMembers_keeps

theorem State.rxAssocReq_keeps {s : State} (b17 : k.blk 17 = false) (b18 : k.blk 18 = false) (h : State.Keeps k s0 s) (a1 : Nat) :
    State.Keeps k s0 (State.rxAssocReq s a1) := by
  unfold State.rxAssocReq
  repeat' first
    | with_reducible assumption
    | (intro x hx; have := (hx : State.Keeps k s0 x))
    | with_reducible refine Keeps.ite (P := State.Keeps _ _) ?_ ?_
    | (extract_lets -underBinder +onlyGivenNames x; refine Keeps.cut (k := k) (s0 := s0) (x := x) ?_ ?_ <;> first | (intro _; revert x; intro _ _) | (unfold x; clear x))
    | (extract_lets -underBinder +onlyGivenNames x; unfold x; clear x)
    | with_reducible apply State.takeIn_keeps
    | with_reducible apply State.replay_keeps
    | with_reducible apply State.ackFrame_keeps
    | with_reducible apply State.nextFree_keeps
    | with_reducible apply State.dropMember_keeps
    | with_reducible apply State.setMembers_keeps
    | with_reducible apply State.queueMgmt_keeps
    | with_reducible apply State.judge_keeps
    | split
    | with_reducible refine Keeps.some (by assumption) ?_

theorem State.rxAssocResp_keeps {s : State} (b17 : k.blk 17 = false) (b18 : k.blk 18 = false) (h : State.Keeps k s0 s) (a1 : Nat) :
    State.Keeps k s0 (State.rxAssocResp s a1) := by
  unfold State.rxAssocResp
  repeat' first
    | with_reducible assumption
    | (with_reducible show Fld.Listed _; decide)
    | (show Kept.blk _ _ = false; first | exact b17 | exact b18)
    | (intro x hx; have := (hx : State.Keeps k s0 x))
    | with_reducible refine Keeps.ite (P := State.Keeps _ _) ?_ ?_
    | (extract_lets -underBinder +onlyGivenNames x; refine Keeps.cut (k := k) (s0 := s0) (x := x) ?_ ?_ <;> first | (intro _; revert x; intro _ _) | (unfold x; clear x))
    | (extract_lets -underBinder +onlyGivenNames x; unfold x; clear x)
    | with_reducible apply State.takeIn_keeps
    | with_reducible apply State.replay_keeps
    | with_reducible apply State.ackFrame_keeps
    | with_reducible apply State.jlnSet_keeps
    | with_reducible apply State.queueMgmt_keeps
    | with_reducible apply State.netGo_keeps
    | with_reducible apply State.event_keeps
    | with_reducible apply State.addJob_keeps
    | with_reducible apply State.toListen_keeps
    | with_reducible apply State.judge_keeps
    | split
    | with_reducible refine Keeps.some (by assumption) ?_

theorem State.rxAssocConf_keeps {s : State} (b17 : k.blk 17 = false) (b18 : k.blk 18 = false) (h : State.Keeps k s0 s) (a1 : Nat) :
    State.Keeps k s0 (State.rxAssocConf s a1) := by
  unfold State.rxAssocConf
  repeat' first
    | with_reducible assumption
    | (with_reducible show Fld.Listed _; decide)
    | (show Kept.blk _ _ = false; first | exact b17 | exact b18)
    | (intro x hx; have := (hx : State.Keeps k s0 x))
    | with_reducible refine Keeps.ite (P := State.Keeps _ _) ?_ ?_
    | (extract_lets -underBinder +onlyGivenNames x; refine Keeps.cut (k := k) (s0 := s0) (x := x) ?_ ?_ <;> first | (intro _; revert x; intro _ _) | (unfold x; clear x))
    | with_reducible apply State.takeIn_keeps
    | with_reducible apply State.judge_keeps
    | with_reducible apply State.replay_keeps
    | with_reducible apply State.updMember_keeps
    | with_reducible apply State.ackFrame_keeps
    | with_reducible apply State.event_keeps
    | split
    | with_reducible refine Keeps.some (by assumption) ?_

theorem State.rxDisassoc_keeps {s : State} (b17 : k.blk 17 = false) (b18 : k.blk 18 = false) (h : State.Keeps k s0 s) (a1 : Nat) :
    State.Keeps k s0 (State.rxDisassoc s a1) := by
  unfold State.rxDisassoc
  repeat' first
    | with_reducible assumption
    | (with_reducible show Fld.Listed _; decide)
    | (show Kept.blk _ _ = false; first | exact b17 | exact b18)
    | (intro x hx; have := (hx : State.Keeps k s0 x))
    | with_reducible refine Keeps.ite (P := State.Keeps _ _) ?_ ?_
    | with_reducible apply State.takeIn_keeps
    | with_reducible apply State.judge_keeps
    | with_reducible apply State.replay_keeps
    | with_reducible apply State.event_keeps
    | with_reducible apply State.ackFrame_keeps
    | with_reducible apply State.dropMember_keeps
    | with_reducible apply State.addJob_keeps
    | with_reducible apply State.toListen_keeps
    | split
    | with_reducible refine Keeps.some (by assumption) ?_

theorem State.assocTimeout_keeps {s : State} (b17 : k.blk 17 = false) (b18 : k.blk 18 = false) (h : State.Keeps k s0 s) (a1 : Nat) :
    State.Keeps k s0 (State.assocTimeout s a1) := by
  unfold State.assocTimeout
  repeat' first
    | with_reducible assumption
    | with_reducible refine Keeps.ite (P := State.Keeps _ _) ?_ ?_
    | with_reducible apply State.toListen_keeps
    | split

theorem State.confTimeout_keeps {s : State} (b17 : k.blk 17 = false) (h : State.Keeps k s0 s) (a1 : Nat) :
    State.Keeps k s0 (State.confTimeout s a1) := by
  unfold State.confTimeout
  repeat' first
    | with_reducible assumption
    | with_reducible refine Keeps.ite (P := State.Keeps _ _) ?_ ?_
    | with_reducible apply State.setMembers_keeps

theorem State.listenTimeout_keeps {s : State} (b17 : k.blk 17 = false) (b18 : k.blk 18 = false) (h : State.Keeps k s0 s) (a1 : Nat) :
    State.Keeps k s0 (State.listenTimeout s a1) := by
  unfold State.listenTimeout
  repeat' first
    | with_reducible assumption
    | (with_reducible show Fld.Listed _; decide)
    | (show Kept.blk _ _ = false; first | exact b17 | exact b18)
    | with_reducible refine Keeps.ite (P := State.Keeps _ _) ?_ ?_
    | (extract_lets -underBinder +onlyGivenNames x; refine Keeps.cut (k := k) (s0 := s0) (x := x) ?_ ?_ <;> first | (intro _; revert x; intro _ _) | (unfold x; clear x))
    | with_reducible apply State.set_keeps
    | with_reducible apply State.jlnSet_keeps
    | with_reducible apply State.netGo_keeps
    | with_reducible apply State.noteMembers_keeps

theorem State.beaconLoss_keeps {s : State} (b17 : k.blk 17 = false) (b18 : k.blk 18 = false) (h : State.Keeps k s0 s) (a1 : Nat) :
    State.Keeps k s0 (State.beaconLoss s a1) := by
  unfold State.beaconLoss
  repeat' first
    | with_reducible assumption
    | (with_reducible show Fld.Listed _; decide)
    | (show Kept.blk _ _ = false; first | exact b17 | exact b18)
    | with_reducible refine Keeps.ite (P := State.Keeps _ _) ?_ ?_
    | with_reducible apply State.toListen_keeps
    | with_reducible apply State.event_keeps
    | with_reducible apply State.bump_keeps

theorem State.fillRx_keeps {s : State} (b17 : k.blk 17 = false) (h : State.Keeps k s0 s) (a1 : Nat) (a2 : List Byte) :
    State.Keeps k s0 (State.fillRx s a1 a2) := by
  unfold State.fillRx
  repeat' first
    | with_reducible assumption
    | (with_reducible show Fld.Listed _; decide)
    | (show Kept.blk _ _ = false; first | exact b17)
    | with_reducible refine Keeps.ite (P := State.Keeps _ _) ?_ ?_
    | with_reducible refine Keeps.foldl (fun _ _ _ => ?_) ?_
    | with_reducible apply State.set_keeps

theorem State.rxData_keeps {s : State} (b17 : k.blk 17 = false) (b18 : k.blk 18 = false) (h : State.Keeps k s0 s) (a1 : Nat) :
    State.Keeps k s0 (State.rxData s a1) := by
  unfold State.rxData
  repeat' first
    | with_reducible assumption
    | (with_reducible show Fld.Listed _; decide)
    | (show Kept.blk _ _ = false; first | exact b17 | exact b18)
    | with_reducible refine Keeps.ite (P := State.Keeps _ _) ?_ ?_
    | (extract_lets -underBinder +onlyGivenNames x; refine Keeps.cut (k := k) (s0 := s0) (x := x) ?_ ?_ <;> first | (intro _; revert x; intro _ _) | (unfold x; clear x))
    | (extract_lets -underBinder +onlyGivenNames x; unfold x; clear x)
    | with_reducible apply State.takeIn_keeps
    | with_reducible apply State.heardFrom_keeps
    | with_reducible apply State.proceed_keeps
    | with_reducible apply State.ackFrame_keeps
    | with_reducible apply State.bump_keeps
    | with_reducible apply State.event_keeps
    | with_reducible apply State.jlnSet_keeps
    | with_reducible apply State.fillRx_keeps
    | with_reducible apply State.set_keeps
    | with_reducible apply State.raise_keeps
    | split
    | with_reducible refine Keeps.some (by assumption) ?_

theorem State.rxAck_keeps {s : State} (b17 : k.blk 17 = false) (b18 : k.blk 18 = false) (b20 : k.blk 20 = false) (h : State.Keeps k s0 s) (a1 : Nat) :
    State.Keeps k s0 (State.rxAck s a1) := by
  unfold State.rxAck
  repeat' first
    | with_reducible assumption
    | (with_reducible show Fld.Listed _; decide)
    | (show Kept.blk _ _ = false; first | exact b17 | exact b18 | exact b20)
    | with_reducible refine Keeps.ite (P := State.Keeps _ _) ?_ ?_
    | (extract_lets -underBinder +onlyGivenNames x; refine Keeps.cut (k := k) (s0 := s0) (x := x) ?_ ?_ <;> first | (intro _; revert x; intro _ _) | (unfold x; clear x))
    | with_reducible apply State.takeIn_keeps
    | with_reducible apply State.heardFrom_keeps
    | with_reducible apply State.jlnSet_keeps
    | with_reducible apply State.txComplete_keeps
    | with_reducible apply State.event_keeps
    | with_reducible apply State.proceed_keeps
    | split
    | with_reducible refine Keeps.some (by assumption) ?_

theorem State.rxPoll_keeps {s : State} (b17 : k.blk 17 = false) (h : State.Keeps k s0 s) (a1 : Nat) :
    State.Keeps k s0 (State.rxPoll s a1) := by
  unfold State.rxPoll
  repeat' first
    | with_reducible assumption
    | with_reducible refine Keeps.ite (P := State.Keeps _ _) ?_ ?_
    | (extract_lets -underBinder +onlyGivenNames x; refine Keeps.cut (k := k) (s0 := s0) (x := x) ?_ ?_ <;> first | (intro _; revert x; intro _ _) | (unfold x; clear x))
    | (extract_lets -underBinder +onlyGivenNames x; unfold x; clear x)
    | with_reducible apply State.takeIn_keeps
    | with_reducible apply State.heardFrom_keeps
    | with_reducible apply State.jlnSet_keeps
    | with_reducible apply State.sendQueued_keeps
    | with_reducible apply State.addJob_keeps
    | split
    | with_reducible refine Keeps.some (by assumption) ?_

theorem State.rxNull_keeps {s : State} (b17 : k.blk 17 = false) (h : State.Keeps k s0 s) (a1 : Nat) :
    State.Keeps k s0 (State.rxNull s a1) := by
  unfold State.rxNull
  repeat' first
    | with_reducible assumption
    | with_reducible apply State.takeIn_keeps
    | with_reducible apply State.proceed_keeps
    | with_reducible apply State.heardFrom_keeps
    | split
    | with_reducible refine Keeps.some (by assumption) ?_

theorem State.pollNoresp_keeps {s : State} (b17 : k.blk 17 = false) (b18 : k.blk 18 = false) (h : State.Keeps k s0 s) (a1 : Nat) :
    State.Keeps k s0 (State.pollNoresp s a1) := by
  unfold State.pollNoresp
  repeat' first
    | with_reducible assumption
    | (with_reducible show Fld.Listed _; decide)
    | (show Kept.blk _ _ = false; first | exact b17 | exact b18)
    | with_reducible refine Keeps.ite (P := State.Keeps _ _) ?_ ?_
    | (extract_lets -underBinder +onlyGivenNames x; refine Keeps.cut (k := k) (s0 := s0) (x := x) ?_ ?_ <;> first | (intro _; revert x; intro _ _) | (unfold x; clear x))
    | (extract_lets -underBinder +onlyGivenNames x; unfold x; clear x)
    | with_reducible apply State.proceed_keeps
    | with_reducible apply State.jlnSet_keeps
    | with_reducible apply State.bump_keeps
    | with_reducible apply State.event_keeps
    | with_reducible apply State.dropMember_keeps
    | with_reducible apply State.updMember_keeps
    | split

theorem State.badCmd_keeps {s : State} (b0 : k.blk 0 = false) (h : State.Keeps k s0 s) :
    State.Keeps k s0 (State.badCmd s) := by
  unfold State.badCmd
  repeat' first
    | with_reducible assumption
    | (with_reducible show Fld.Listed _; decide)
    | (show Kept.blk _ _ = false; first | exact b0)
    | with_reducible apply State.bump_keeps

theorem State.noteKeys_keeps {s : State} (b0 : k.blk 0 = false) (h : State.Keeps k s0 s) :
    State.Keeps k s0 (State.noteKeys s) := by
  unfold State.noteKeys
  repeat' first
    | with_reducible assumption
    | (with_reducible show Fld.Listed _; decide)
    | (show Kept.blk _ _ = false; first | exact b0)
    | with_reducible refine Keeps.foldl (fun _ _ _ => ?_) ?_
    | with_reducible apply State.set_keeps

theorem State.setKeySlot_keeps {s : State} (b0 : k.blk 0 = false) (h : State.Keeps k s0 s) (a1 : Nat) (a2 : KeySlot) :
    State.Keeps k s0 (State.setKeySlot s a1 a2) := by
  unfold State.setKeySlot
  repeat' first
    | with_reducible assumption
    | (extract_lets -underBinder +onlyGivenNames x; unfold x; clear x)
    | with_reducible apply State.noteKeys_keeps
    | (with_reducible refine Keeps.upd (h := ?_); first | with_reducible assumption | with_reducible apply State.noteKeys_keeps | with_reducible refine Keeps.ite (P := State.Keeps _ _) ?_ ?_ | with_reducible refine Keeps.foldl (fun _ _ _ => ?_) ?_)

theorem State.readMeter_keeps {s : State} (b0 : k.blk 0 = false) (b17 : k.blk 17 = false) (h : State.Keeps k s0 s) (a1 : JIn) :
    State.Keeps k s0 (State.readMeter s a1) := by
  unfold State.readMeter
  repeat' first
    | with_reducible assumption
    | with_reducible refine Keeps.ite (P := State.Keeps _ _) ?_ ?_
    | (extract_lets -underBinder +onlyGivenNames x; unfold x; clear x)
    | with_reducible apply State.badCmd_keeps
    | with_reducible apply State.queueMgmt_keeps
    | (with_reducible refine Keeps.upd (h := ?_); first | with_reducible assumption | with_reducible apply State.badCmd_keeps | with_reducible apply State.queueMgmt_keeps | with_reducible refine Keeps.ite (P := State.Keeps _ _) ?_ ?_ | with_reducible refine Keeps.foldl (fun _ _ _ => ?_) ?_)

theorem State.revoke_keeps {s : State} (b0 : k.blk 0 = false) (b17 : k.blk 17 = false) (b18 : k.blk 18 = false) (b20 : k.blk 20 = false) (h : State.Keeps k s0 s) (a1 : JIn) :
    State.Keeps k s0 (State.revoke s a1) := by
  unfold State.revoke
  repeat' first
    | with_reducible assumption
    | with_reducible refine Keeps.ite (P := State.Keeps _ _) ?_ ?_
    | (extract_lets -underBinder +onlyGivenNames x; refine Keeps.cut (k := k) (s0 := s0) (x := x) ?_ ?_ <;> first | (intro _; revert x; intro _ _) | (unfold x; clear x))
    | (extract_lets -underBinder +onlyGivenNames x; unfold x; clear x)
    | with_reducible apply State.badCmd_keeps
    | with_reducible apply State.pinFull_keeps
    | with_reducible apply State.pinPut_keeps
    | with_reducible apply State.setKeySlot_keeps
    | with_reducible apply State.queueMgmt_keeps

theorem State.rxChancel_keeps {s : State} (b17 : k.blk 17 = false) (b18 : k.blk 18 = false) (h : State.Keeps k s0 s) (a1 : Nat) (a2 : Nat → Bool) (a3 : State → JIn → State) (g3 : ∀ x y, State.Keeps k s0 x → State.Keeps k s0 (a3 x y)) :
    State.Keeps k s0 (State.rxChancel s a1 a2 a3) := by
  unfold State.rxChancel
  repeat' first
    | with_reducible assumption
    | with_reducible apply g3
    | (intro x hx; have := (hx : State.Keeps k s0 x))
    | with_reducible refine Keeps.ite (P := State.Keeps _ _) ?_ ?_
    | with_reducible apply State.takeIn_keeps
    | with_reducible apply State.judge_keeps
    | with_reducible apply State.replay_keeps
    | with_reducible apply State.proceed_keeps
    | with_reducible apply State.ackFrame_keeps
    | with_reducible apply State.raise_keeps
    | with_reducible apply State.heardFrom_keeps
    | split
    | with_reducible refine Keeps.some (by assumption) ?_

theorem State.txGo_keeps {s : State} (b17 : k.blk 17 = false) (b18 : k.blk 18 = false) (b20 : k.blk 20 = false) (h : State.Keeps k s0 s) (a1 : Nat) (a2 : Nat) :
    State.Keeps k s0 (State.txGo s a1 a2) := by
  unfold State.txGo
  repeat' first
    | with_reducible assumption
    | (with_reducible show Fld.Listed _; decide)
    | (show Kept.blk _ _ = false; first | exact b17 | exact b18 | exact b20)
    | with_reducible refine Keeps.ite (P := State.Keeps _ _) ?_ ?_
    | (extract_lets -underBinder +onlyGivenNames x; refine Keeps.cut (k := k) (s0 := s0) (x := x) ?_ ?_ <;> first | (intro _; revert x; intro _ _) | (unfold x; clear x))
    | (extract_lets -underBinder +onlyGivenNames x; refine Keeps.cut (k := k) (s0 := s0) (x := x.2) ?_ ?_ <;> first | (intro _; revert x; intro _ _) | (unfold x; clear x))
    | (extract_lets -underBinder +onlyGivenNames x; unfold x; clear x)
    | with_reducible apply State.set_keeps
    | with_reducible apply State.event_keeps
    | with_reducible apply State.takeSeq_keeps
    | with_reducible apply State.openOp_keeps
    | with_reducible apply State.contend_keeps
    | with_reducible apply State.jlnSet_keeps
    | split
    | with_reducible refine Keeps.some (by assumption) ?_

theorem State.txCancel_keeps {s : State} (b17 : k.blk 17 = false) (b18 : k.blk 18 = false) (b20 : k.blk 20 = false) (h : State.Keeps k s0 s) (a1 : Nat) (a2 : Nat) :
    State.Keeps k s0 (State.txCancel s a1 a2) := by
  unfold State.txCancel
  repeat' first
    | with_reducible assumption
    | (extract_lets -underBinder +onlyGivenNames x; refine Keeps.cut (k := k) (s0 := s0) (x := x) ?_ ?_ <;> first | (intro _; revert x; intro _ _) | (unfold x; clear x))
    | (extract_lets -underBinder +onlyGivenNames x; unfold x; clear x)
    | with_reducible apply State.jlnSet_keeps
    | with_reducible apply State.contend_keeps
    | with_reducible apply State.cancelFrame_keeps
    | split

theorem State.writeTxCtrl_keeps {s : State} (hresp : k.resp = false) (b17 : k.blk 17 = false) (b18 : k.blk 18 = false) (b20 : k.blk 20 = false) (h : State.Keeps k s0 s) (a1 : Acc) (a2 : Nat) (a3 : Nat) :
    State.Keeps k s0 (State.writeTxCtrl s a1 a2 a3) := by
  unfold State.writeTxCtrl
  repeat' first
    | with_reducible assumption
    | with_reducible refine Keeps.ite (P := State.Keeps _ _) ?_ ?_
    | with_reducible apply State.busErr_keeps
    | with_reducible apply State.ok_keeps
    | with_reducible apply State.txCancel_keeps
    | with_reducible apply State.txGo_keeps

theorem State.writeRxRel_keeps {s : State} (hresp : k.resp = false) (b17 : k.blk 17 = false) (h : State.Keeps k s0 s) (a1 : Acc) (a2 : Nat) (a3 : Nat) :
    State.Keeps k s0 (State.writeRxRel s a1 a2 a3) := by
  unfold State.writeRxRel
  repeat' first
    | with_reducible assumption
    | (with_reducible show Fld.Listed _; decide)
    | (show Kept.blk _ _ = false; first | exact b17)
    | with_reducible refine Keeps.ite (P := State.Keeps _ _) ?_ ?_
    | with_reducible apply State.set_keeps
    | with_reducible apply State.busErr_keeps
    | with_reducible apply State.ok_keeps

theorem State.writeJlnCtrl_keeps {s : State} (hresp : k.resp = false) (b17 : k.blk 17 = false) (b18 : k.blk 18 = false) (b20 : k.blk 20 = false) (h : State.Keeps k s0 s) (a1 : Acc) (a2 : Nat) :
    State.Keeps k s0 (State.writeJlnCtrl s a1 a2) := by
  unfold State.writeJlnCtrl
  repeat' first
    | with_reducible assumption
    | with_reducible refine Keeps.ite (P := State.Keeps _ _) ?_ ?_
    | with_reducible apply State.busErr_keeps
    | with_reducible apply State.ok_keeps
    | with_reducible apply State.jlnDisable_keeps
    | with_reducible apply State.jlnListen_keeps
    | with_reducible apply State.jlnSet_keeps

theorem State.jlnStart_keeps {s : State} (b17 : k.blk 17 = false) (b18 : k.blk 18 = false) (h : State.Keeps k s0 s) (a1 : Nat) :
    State.Keeps k s0 (State.jlnStart s a1) := by
  unfold State.jlnStart
  repeat' first
    | with_reducible assumption
    | with_reducible refine Keeps.ite (P := State.Keeps _ _) ?_ ?_
    | with_reducible apply State.jlnListen_keeps

theorem State.jlnRequeue_keeps {s : State} (b17 : k.blk 17 = false) (h : State.Keeps k s0 s) (a1 : Nat) (a2 : Nat) (a3 : Nat) (a4 : Nat) (a5 : Nat) (a6 : List Byte) :
    State.Keeps k s0 (State.jlnRequeue s a1 a2 a3 a4 a5 a6) := by
  unfold State.jlnRequeue
  repeat' first
    | with_reducible assumption
    | (with_reducible show Fld.Listed _; decide)
    | (show Kept.blk _ _ = false; first | exact b17)
    | with_reducible refine Keeps.ite (P := State.Keeps _ _) ?_ ?_
    | (extract_lets -underBinder +onlyGivenNames x; refine Keeps.cut (k := k) (s0 := s0) (x := x) ?_ ?_ <;> first | (intro _; revert x; intro _ _) | (unfold x; clear x))
    | (extract_lets -underBinder +onlyGivenNames x; unfold x; clear x)
    | with_reducible refine Keeps.foldl (fun _ _ _ => ?_) ?_
    | with_reducible apply State.set_keeps
    | with_reducible apply State.setReg_keeps
    | with_reducible apply State.jlnSet_keeps

theorem execJalamFrameReceived_keeps {s : State} (b17 : k.blk 17 = false) (b18 : k.blk 18 = false) (h : State.Keeps k s0 s) (a0 : Nat) (a1 : List Bool) :
    OutKeeps k s0 (execJalamFrameReceived a0 a1 s) := by
  unfold execJalamFrameReceived
  repeat' first
    | with_reducible assumption
    | refine OutKeeps.next ?_
    | with_reducible apply State.touch_keeps
    | with_reducible apply State.frameReceived_keeps

theorem execJalamTxStart_keeps {s : State} (b17 : k.blk 17 = false) (b18 : k.blk 18 = false) (b20 : k.blk 20 = false) (h : State.Keeps k s0 s) (a0 : Nat) :
    OutKeeps k s0 (execJalamTxStart a0 s) := by
  unfold execJalamTxStart
  repeat' first
    | with_reducible assumption
    | refine OutKeeps.next ?_
    | with_reducible apply State.touch_keeps
    | with_reducible apply State.txStart_keeps

theorem execJalamTxDone_keeps {s : State} (b17 : k.blk 17 = false) (b18 : k.blk 18 = false) (b20 : k.blk 20 = false) (h : State.Keeps k s0 s) (a0 : Nat) :
    OutKeeps k s0 (execJalamTxDone a0 s) := by
  unfold execJalamTxDone
  repeat' first
    | with_reducible assumption
    | refine OutKeeps.next ?_
    | with_reducible apply State.touch_keeps
    | with_reducible apply State.txDoneAt_keeps

theorem execCfpEnd_keeps {s : State} (b17 : k.blk 17 = false) (h : State.Keeps k s0 s) (a0 : Nat) :
    OutKeeps k s0 (execCfpEnd a0 s) := by
  unfold execCfpEnd
  repeat' first
    | with_reducible assumption
    | refine OutKeeps.next ?_
    | with_reducible apply State.touch_keeps
    | with_reducible apply State.contend_keeps

theorem State.backoffSlot_keeps {s : State} (b17 : k.blk 17 = false) (h : State.Keeps k s0 s) (a1 : Nat) :
    State.Keeps k s0 (State.backoffSlot s a1) := by
  unfold State.backoffSlot
  repeat' first
    | with_reducible assumption
    | (show Kept.blk _ _ = false; first | exact b17)
    | with_reducible refine Keeps.ite (P := State.Keeps _ _) ?_ ?_
    | with_reducible apply State.contend_keeps
    | with_reducible apply State.jlnSet_keeps
    | split

theorem execBackoffSlot_keeps {s : State} (b17 : k.blk 17 = false) (h : State.Keeps k s0 s) (a0 : Nat) :
    OutKeeps k s0 (execBackoffSlot a0 s) := by
  unfold execBackoffSlot
  repeat' first
    | with_reducible assumption
    | (show Kept.blk _ _ = false; first | exact b17)
    | refine OutKeeps.next ?_
    | with_reducible apply State.backoffSlot_keeps
    | with_reducible apply State.touch_keeps

theorem execAckTimeout_keeps {s : State} (b17 : k.blk 17 = false) (b18 : k.blk 18 = false) (b20 : k.blk 20 = false) (h : State.Keeps k s0 s) (a0 : Nat) :
    OutKeeps k s0 (execAckTimeout a0 s) := by
  unfold execAckTimeout
  repeat' first
    | with_reducible assumption
    | refine OutKeeps.next ?_
    | with_reducible apply State.touch_keeps
    | with_reducible apply State.ackTimeout_keeps

theorem execPollNoresp_keeps {s : State} (b17 : k.blk 17 = false) (b18 : k.blk 18 = false) (h : State.Keeps k s0 s) (a0 : Nat) :
    OutKeeps k s0 (execPollNoresp a0 s) := by
  unfold execPollNoresp
  repeat' first
    | with_reducible assumption
    | refine OutKeeps.next ?_
    | with_reducible apply State.touch_keeps
    | with_reducible apply State.pollNoresp_keeps

theorem execRxData_keeps {s : State} (b17 : k.blk 17 = false) (b18 : k.blk 18 = false) (h : State.Keeps k s0 s) (a0 : Nat) :
    OutKeeps k s0 (execRxData a0 s) := by
  unfold execRxData
  repeat' first
    | with_reducible assumption
    | refine OutKeeps.next ?_
    | with_reducible apply State.touch_keeps
    | with_reducible apply State.rxData_keeps

theorem execRxAck_keeps {s : State} (b17 : k.blk 17 = false) (b18 : k.blk 18 = false) (b20 : k.blk 20 = false) (h : State.Keeps k s0 s) (a0 : Nat) :
    OutKeeps k s0 (execRxAck a0 s) := by
  unfold execRxAck
  repeat' first
    | with_reducible assumption
    | refine OutKeeps.next ?_
    | with_reducible apply State.touch_keeps
    | with_reducible apply State.rxAck_keeps

theorem execRxPoll_keeps {s : State} (b17 : k.blk 17 = false) (h : State.Keeps k s0 s) (a0 : Nat) :
    OutKeeps k s0 (execRxPoll a0 s) := by
  unfold execRxPoll
  repeat' first
    | with_reducible assumption
    | refine OutKeeps.next ?_
    | with_reducible apply State.touch_keeps
    | with_reducible apply State.rxPoll_keeps

theorem execRxNull_keeps {s : State} (b17 : k.blk 17 = false) (h : State.Keeps k s0 s) (a0 : Nat) :
    OutKeeps k s0 (execRxNull a0 s) := by
  unfold execRxNull
  repeat' first
    | with_reducible assumption
    | refine OutKeeps.next ?_
    | with_reducible apply State.touch_keeps
    | with_reducible apply State.rxNull_keeps

theorem execRxBeacon_keeps {s : State} (b2 : k.blk 2 = false) (b5 : k.blk 5 = false) (b6 : k.blk 6 = false) (b12 : k.blk 12 = false) (b17 : k.blk 17 = false) (b18 : k.blk 18 = false) (b20 : k.blk 20 = false) (b22 : k.blk 22 = false) (h : State.Keeps k s0 s) (a0 : Nat) :
    OutKeeps k s0 (execRxBeacon a0 s) := by
  unfold execRxBeacon
  repeat' first
    | with_reducible assumption
    | refine OutKeeps.next ?_
    | with_reducible apply State.touch_keeps
    | with_reducible apply State.rxBeacon_keeps

theorem execRxAssocReq_keeps {s : State} (b17 : k.blk 17 = false) (b18 : k.blk 18 = false) (h : State.Keeps k s0 s) (a0 : Nat) :
    OutKeeps k s0 (execRxAssocReq a0 s) := by
  unfold execRxAssocReq
  repeat' first
    | with_reducible assumption
    | refine OutKeeps.next ?_
    | with_reducible apply State.touch_keeps
    | with_reducible apply State.rxAssocReq_keeps

theorem execRxAssocResp_keeps {s : State} (b17 : k.blk 17 = false) (b18 : k.blk 18 = false) (h : State.Keeps k s0 s) (a0 : Nat) :
    OutKeeps k s0 (execRxAssocResp a0 s) := by
  unfold execRxAssocResp
  repeat' first
    | with_reducible assumption
    | refine OutKeeps.next ?_
    | with_reducible apply State.touch_keeps
    | with_reducible apply State.rxAssocResp_keeps

theorem execRxAssocConf_keeps {s : State} (b17 : k.blk 17 = false) (b18 : k.blk 18 = false) (h : State.Keeps k s0 s) (a0 : Nat) :
    OutKeeps k s0 (execRxAssocConf a0 s) := by
  unfold execRxAssocConf
  repeat' first
    | with_reducible assumption
    | refine OutKeeps.next ?_
    | with_reducible apply State.touch_keeps
    | with_reducible apply State.rxAssocConf_keeps

theorem execRxDisassoc_keeps {s : State} (b17 : k.blk 17 = false) (b18 : k.blk 18 = false) (h : State.Keeps k s0 s) (a0 : Nat) :
    OutKeeps k s0 (execRxDisassoc a0 s) := by
  unfold execRxDisassoc
  repeat' first
    | with_reducible assumption
    | refine OutKeeps.next ?_
    | with_reducible apply State.touch_keeps
    | with_reducible apply State.rxDisassoc_keeps

theorem execReadMeter_keeps {s : State} (b0 : k.blk 0 = false) (b17 : k.blk 17 = false) (b18 : k.blk 18 = false) (h : State.Keeps k s0 s) (a0 : Nat) :
    OutKeeps k s0 (execReadMeter a0 s) := by
  unfold execReadMeter
  repeat' first
    | with_reducible assumption
    | (intro x y hx; have := (hx : State.Keeps k s0 x))
    | refine OutKeeps.next ?_
    | with_reducible refine Keeps.ite (P := State.Keeps _ _) ?_ ?_
    | with_reducible apply State.touch_keeps
    | with_reducible apply State.rxChancel_keeps
    | with_reducible apply State.readMeter_keeps
    | with_reducible apply State.badCmd_keeps

theorem execRevoke_keeps {s : State} (b0 : k.blk 0 = false) (b17 : k.blk 17 = false) (b18 : k.blk 18 = false) (b20 : k.blk 20 = false) (h : State.Keeps k s0 s) (a0 : Nat) :
    OutKeeps k s0 (execRevoke a0 s) := by
  unfold execRevoke
  repeat' first
    | with_reducible assumption
    | (intro x y hx; have := (hx : State.Keeps k s0 x))
    | refine OutKeeps.next ?_
    | with_reducible apply State.touch_keeps
    | with_reducible apply State.rxChancel_keeps
    | with_reducible apply State.revoke_keeps

theorem execListenTimeout_keeps {s : State} (b17 : k.blk 17 = false) (b18 : k.blk 18 = false) (h : State.Keeps k s0 s) (a0 : Nat) :
    OutKeeps k s0 (execListenTimeout a0 s) := by
  unfold execListenTimeout
  repeat' first
    | with_reducible assumption
    | refine OutKeeps.next ?_
    | with_reducible apply State.touch_keeps
    | with_reducible apply State.listenTimeout_keeps

theorem execBeaconLoss_keeps {s : State} (b17 : k.blk 17 = false) (b18 : k.blk 18 = false) (h : State.Keeps k s0 s) (a0 : Nat) :
    OutKeeps k s0 (execBeaconLoss a0 s) := by
  unfold execBeaconLoss
  repeat' first
    | with_reducible assumption
    | refine OutKeeps.next ?_
    | with_reducible apply State.touch_keeps
    | with_reducible apply State.beaconLoss_keeps

theorem execAssocTimeout_keeps {s : State} (b17 : k.blk 17 = false) (b18 : k.blk 18 = false) (h : State.Keeps k s0 s) (a0 : Nat) :
    OutKeeps k s0 (execAssocTimeout a0 s) := by
  unfold execAssocTimeout
  repeat' first
    | with_reducible assumption
    | refine OutKeeps.next ?_
    | with_reducible apply State.touch_keeps
    | with_reducible apply State.assocTimeout_keeps

theorem execAssocConfTimeout_keeps {s : State} (b17 : k.blk 17 = false) (h : State.Keeps k s0 s) (a0 : Nat) :
    OutKeeps k s0 (execAssocConfTimeout a0 s) := by
  unfold execAssocConfTimeout
  repeat' first
    | with_reducible assumption
    | refine OutKeeps.next ?_
    | with_reducible apply State.touch_keeps
    | with_reducible apply State.confTimeout_keeps

theorem execJlnTxGo_keeps {s : State} (hresp : k.resp = false) (b17 : k.blk 17 = false) (b18 : k.blk 18 = false) (b20 : k.blk 20 = false) (h : State.Keeps k s0 s) (a0 : Acc) (a1 : Fin 2) :
    OutKeeps k s0 (execJlnTxGo a0 a1 s) := by
  unfold execJlnTxGo
  repeat' first
    | with_reducible assumption
    | refine OutKeeps.next ?_
    | with_reducible apply State.touch_keeps
    | with_reducible apply State.writeTxCtrl_keeps

theorem execJlnTxCancel_keeps {s : State} (hresp : k.resp = false) (b17 : k.blk 17 = false) (b18 : k.blk 18 = false) (b20 : k.blk 20 = false) (h : State.Keeps k s0 s) (a0 : Acc) (a1 : Fin 2) :
    OutKeeps k s0 (execJlnTxCancel a0 a1 s) := by
  unfold execJlnTxCancel
  repeat' first
    | with_reducible assumption
    | refine OutKeeps.next ?_
    | with_reducible apply State.touch_keeps
    | with_reducible apply State.writeTxCtrl_keeps

theorem execJlnRxRelease_keeps {s : State} (hresp : k.resp = false) (b17 : k.blk 17 = false) (h : State.Keeps k s0 s) (a0 : Acc) (a1 : Fin 4) :
    OutKeeps k s0 (execJlnRxRelease a0 a1 s) := by
  unfold execJlnRxRelease
  repeat' first
    | with_reducible assumption
    | refine OutKeeps.next ?_
    | with_reducible apply State.touch_keeps
    | with_reducible apply State.writeRxRel_keeps

theorem execJlnEnable_keeps {s : State} (hresp : k.resp = false) (b17 : k.blk 17 = false) (b18 : k.blk 18 = false) (b20 : k.blk 20 = false) (h : State.Keeps k s0 s) (a0 : Acc) :
    OutKeeps k s0 (execJlnEnable a0 s) := by
  unfold execJlnEnable
  repeat' first
    | with_reducible assumption
    | refine OutKeeps.next ?_
    | with_reducible apply State.touch_keeps
    | with_reducible apply State.writeJlnCtrl_keeps

theorem execJlnDisable_keeps {s : State} (hresp : k.resp = false) (b17 : k.blk 17 = false) (b18 : k.blk 18 = false) (b20 : k.blk 20 = false) (h : State.Keeps k s0 s) (a0 : Acc) (a1 : Bool) :
    OutKeeps k s0 (execJlnDisable a0 a1 s) := by
  unfold execJlnDisable
  repeat' first
    | with_reducible assumption
    | refine OutKeeps.next ?_
    | with_reducible apply State.touch_keeps
    | with_reducible apply State.writeJlnCtrl_keeps

end Sys2Proof.Machine
end

