-- ==== Sys2Proof/Laws/Keeps/Mailbox.lean ====
section
/-!
SUPPORT. Sys2Proof/Laws/Keeps/Mailbox.lean: what each operation of Machine/Mailbox.lean keeps.
-/

set_option Elab.async false

namespace Sys2Proof.Machine

set_option linter.tactic.unusedName false

variable {k : Kept} {s0 : State}

theorem State.mbxNotify_keeps {s : State} (b18 : k.blk 18 = false) (h : State.Keeps k s0 s) (a1 : Nat) :
    State.Keeps k s0 (State.mbxNotify s a1) := by
  unfold State.mbxNotify
  repeat' first
    | with_reducible assumption
    | with_reducible refine Keeps.ite (P := State.Keeps _ _) ?_ ?_
    | with_reducible apply State.raise_keeps

theorem State.mbxClose_keeps {s : State} (b18 : k.blk 18 = false) (b19 : k.blk 19 = false) (b20 : k.blk 20 = false) (h : State.Keeps k s0 s) (a1 : Nat) (a2 : Nat) :
    State.Keeps k s0 (State.mbxClose s a1 a2) := by
  unfold State.mbxClose
  repeat' first
    | with_reducible assumption
    | (extract_lets -underBinder +onlyGivenNames x; unfold x; clear x)
    | with_reducible apply State.setMbx_keeps
    | with_reducible apply State.closeOp_keeps
    | split

theorem State.mbxEmpty_keeps {s : State} (b19 : k.blk 19 = false) (h : State.Keeps k s0 s) (a1 : Nat) :
    State.Keeps k s0 (State.mbxEmpty s a1) := by
  unfold State.mbxEmpty
  repeat' first
    | with_reducible assumption
    | (with_reducible show Fld.Listed _; decide)
    | (show Kept.blk _ _ = false; first | exact b19)
    | (extract_lets -underBinder +onlyGivenNames x; unfold x; clear x)
    | with_reducible apply State.set_keeps
    | with_reducible apply State.setMbx_keeps

theorem State.writeStage_keeps {s : State} (hresp : k.resp = false) (b19 : k.blk 19 = false) (h : State.Keeps k s0 s) (a1 : Acc) (a2 : Nat) (a3 : Nat) :
    State.Keeps k s0 (State.writeStage s a1 a2 a3) := by
  unfold State.writeStage
  repeat' first
    | with_reducible assumption
    | (with_reducible show Fld.Listed _; decide)
    | (show Kept.blk _ _ = false; first | exact b19)
    | with_reducible refine Keeps.ite (P := State.Keeps _ _) ?_ ?_
    | with_reducible apply State.set_keeps
    | with_reducible apply State.ok_keeps
    | with_reducible apply State.busErr_keeps

theorem State.copyStage_keeps {s : State} (b19 : k.blk 19 = false) (h : State.Keeps k s0 s) (a1 : Nat) (a2 : Nat) (a3 : Nat) :
    State.Keeps k s0 (State.copyStage s a1 a2 a3) := by
  unfold State.copyStage
  repeat' first
    | with_reducible assumption
    | (with_reducible show Fld.Listed _; decide)
    | (show Kept.blk _ _ = false; first | exact b19)
    | with_reducible refine Keeps.foldl (fun _ _ _ => ?_) ?_
    | with_reducible apply State.set_keeps

theorem State.writeMbxHdr_keeps {s : State} (hresp : k.resp = false) (b18 : k.blk 18 = false) (b19 : k.blk 19 = false) (b20 : k.blk 20 = false) (h : State.Keeps k s0 s) (a1 : Acc) (a2 : Nat) (a3 : Nat) :
    State.Keeps k s0 (State.writeMbxHdr s a1 a2 a3) := by
  unfold State.writeMbxHdr
  repeat' first
    | with_reducible assumption
    | (with_reducible show Fld.Listed _; decide)
    | (show Kept.blk _ _ = false; first | exact b18 | exact b19 | exact b20)
    | with_reducible refine Keeps.ite (P := State.Keeps _ _) ?_ ?_
    | (extract_lets -underBinder +onlyGivenNames x; refine Keeps.cut (k := k) (s0 := s0) (x := x) ?_ ?_ <;> first | (intro _; revert x; intro _ _) | (unfold x; clear x))
    | (extract_lets -underBinder +onlyGivenNames x; unfold x; clear x)
    | with_reducible apply State.set_keeps
    | with_reducible apply State.busErr_keeps
    | with_reducible apply State.bump_keeps
    | with_reducible apply State.mbxNotify_keeps
    | with_reducible apply State.mbxClose_keeps
    | with_reducible apply State.copyStage_keeps
    | with_reducible apply State.set64_keeps
    | with_reducible apply State.setMbx_keeps
    | with_reducible apply State.openOp_keeps
    | with_reducible apply State.ok_keeps
    | with_reducible apply State.raise_keeps
    | split
    | with_reducible refine Keeps.some (by assumption) ?_

theorem State.mbxTake_keeps {s : State} (b18 : k.blk 18 = false) (b19 : k.blk 19 = false) (b20 : k.blk 20 = false) (h : State.Keeps k s0 s) (a1 : Nat) :
    State.Keeps k s0 (State.mbxTake s a1) := by
  unfold State.mbxTake
  repeat' first
    | with_reducible assumption
    | (with_reducible show Fld.Listed _; decide)
    | (show Kept.blk _ _ = false; first | exact b18 | exact b19 | exact b20)
    | with_reducible refine Keeps.ite (P := State.Keeps _ _) ?_ ?_
    | with_reducible apply State.set_keeps
    | with_reducible apply State.mbxNotify_keeps
    | with_reducible apply State.mbxEmpty_keeps
    | with_reducible apply State.mbxClose_keeps

theorem State.writeMbxCtrl_keeps {s : State} (hresp : k.resp = false) (b18 : k.blk 18 = false) (b19 : k.blk 19 = false) (b20 : k.blk 20 = false) (h : State.Keeps k s0 s) (a1 : Acc) (a2 : Nat) (a3 : Nat) :
    State.Keeps k s0 (State.writeMbxCtrl s a1 a2 a3) := by
  unfold State.writeMbxCtrl
  repeat' first
    | with_reducible assumption
    | (with_reducible show Fld.Listed _; decide)
    | (show Kept.blk _ _ = false; first | exact b18 | exact b19 | exact b20)
    | with_reducible refine Keeps.ite (P := State.Keeps _ _) ?_ ?_
    | with_reducible apply State.set_keeps
    | with_reducible apply State.busErr_keeps
    | with_reducible apply State.mbxTake_keeps
    | with_reducible apply State.ok_keeps
    | with_reducible apply State.mbxEmpty_keeps
    | with_reducible apply State.mbxClose_keeps

theorem State.mbxTimeout_keeps {s : State} (b18 : k.blk 18 = false) (b19 : k.blk 19 = false) (h : State.Keeps k s0 s) (a1 : Nat) (a2 : Nat) :
    State.Keeps k s0 (State.mbxTimeout s a1 a2) := by
  unfold State.mbxTimeout
  repeat' first
    | with_reducible assumption
    | (with_reducible show Fld.Listed _; decide)
    | (show Kept.blk _ _ = false; first | exact b18 | exact b19)
    | with_reducible refine Keeps.ite (P := State.Keeps _ _) ?_ ?_
    | (extract_lets -underBinder +onlyGivenNames x; refine Keeps.cut (k := k) (s0 := s0) (x := x) ?_ ?_ <;> first | (intro _; revert x; intro _ _) | (unfold x; clear x))
    | (extract_lets -underBinder +onlyGivenNames x; unfold x; clear x)
    | with_reducible apply State.set_keeps
    | with_reducible apply State.setMbx_keeps
    | with_reducible apply State.mbxNotify_keeps
    | with_reducible apply State.bump_keeps
    | split

theorem execMbxHdrCommit_keeps {s : State} (hresp : k.resp = false) (b18 : k.blk 18 = false) (b19 : k.blk 19 = false) (b20 : k.blk 20 = false) (h : State.Keeps k s0 s) (a0 : Acc) (a1 : Fin 64) (a2 : Word) :
    OutKeeps k s0 (execMbxHdrCommit a0 a1 a2 s) := by
  unfold execMbxHdrCommit
  repeat' first
    | with_reducible assumption
    | refine OutKeeps.next ?_
    | with_reducible apply State.touch_keeps
    | with_reducible apply State.writeMbxHdr_keeps

theorem execMbxTake_keeps {s : State} (hresp : k.resp = false) (b18 : k.blk 18 = false) (b19 : k.blk 19 = false) (b20 : k.blk 20 = false) (h : State.Keeps k s0 s) (a0 : Acc) (a1 : Fin 64) :
    OutKeeps k s0 (execMbxTake a0 a1 s) := by
  unfold execMbxTake
  repeat' first
    | with_reducible assumption
    | refine OutKeeps.next ?_
    | with_reducible apply State.touch_keeps
    | with_reducible apply State.writeMbxCtrl_keeps

theorem execMbxWithdraw_keeps {s : State} (hresp : k.resp = false) (b18 : k.blk 18 = false) (b19 : k.blk 19 = false) (b20 : k.blk 20 = false) (h : State.Keeps k s0 s) (a0 : Acc) (a1 : Fin 64) :
    OutKeeps k s0 (execMbxWithdraw a0 a1 s) := by
  unfold execMbxWithdraw
  repeat' first
    | with_reducible assumption
    | refine OutKeeps.next ?_
    | with_reducible apply State.touch_keeps
    | with_reducible apply State.writeMbxCtrl_keeps

theorem execMbxTimeout_keeps {s : State} (b18 : k.blk 18 = false) (b19 : k.blk 19 = false) (h : State.Keeps k s0 s) (a0 : Nat) (a1 : Fin 64) :
    OutKeeps k s0 (execMbxTimeout a0 a1 s) := by
  unfold execMbxTimeout
  repeat' first
    | with_reducible assumption
    | refine OutKeeps.next ?_
    | with_reducible apply State.touch_keeps
    | with_reducible apply State.mbxTimeout_keeps

end Sys2Proof.Machine
end

