-- ==== Sys2Proof/Laws/Keeps/Meter.lean ====
section
/-!
SUPPORT. Sys2Proof/Laws/Keeps/Meter.lean: what each operation of Machine/Meter.lean keeps.
-/

set_option Elab.async false

namespace Sys2Proof.Machine

set_option linter.tactic.unusedName false

variable {k : Kept} {s0 : State}

theorem State.mtrGo_keeps {s : State} (b16 : k.blk 16 = false) (b18 : k.blk 18 = false) (h : State.Keeps k s0 s) (a1 : Nat) (a2 : Nat) :
    State.Keeps k s0 (State.mtrGo s a1 a2) := by
  unfold State.mtrGo
  repeat' first
    | with_reducible assumption
    | (with_reducible show Fld.Listed _; decide)
    | (show Kept.blk _ _ = false; first | exact b16 | exact b18)
    | with_reducible refine Keeps.ite (P := State.Keeps _ _) ?_ ?_
    | with_reducible apply State.set_keeps
    | with_reducible apply State.raise_keeps

theorem State.setSealed_keeps {s : State} (b16 : k.blk 16 = false) (b18 : k.blk 18 = false) (h : State.Keeps k s0 s) (a1 : Nat) (a2 : Bool) :
    State.Keeps k s0 (State.setSealed s a1 a2) := by
  unfold State.setSealed
  repeat' first
    | with_reducible assumption
    | (with_reducible show Fld.Listed _; decide)
    | (show Kept.blk _ _ = false; first | exact b16 | exact b18)
    | with_reducible refine Keeps.ite (P := State.Keeps _ _) ?_ ?_
    | with_reducible apply State.raise_keeps
    | with_reducible apply State.setFlag_keeps

theorem State.plsWait_keeps {s : State} (b16 : k.blk 16 = false) (b18 : k.blk 18 = false) (h : State.Keeps k s0 s) (a1 : Nat) (a2 : Nat) :
    State.Keeps k s0 (State.plsWait s a1 a2) := by
  unfold State.plsWait
  repeat' first
    | with_reducible assumption
    | (with_reducible show Fld.Listed _; decide)
    | (show Kept.blk _ _ = false; first | exact b16 | exact b18)
    | with_reducible refine Keeps.ite (P := State.Keeps _ _) ?_ ?_
    | with_reducible apply State.set_keeps
    | with_reducible apply State.setPls_keeps
    | with_reducible apply State.event_keeps

theorem State.plsStart_keeps {s : State} (b16 : k.blk 16 = false) (b18 : k.blk 18 = false) (h : State.Keeps k s0 s) (a1 : Nat) (a2 : Nat) :
    State.Keeps k s0 (State.plsStart s a1 a2) := by
  unfold State.plsStart
  repeat' first
    | with_reducible assumption
    | (with_reducible show Fld.Listed _; decide)
    | (show Kept.blk _ _ = false; first | exact b16 | exact b18)
    | with_reducible refine Keeps.ite (P := State.Keeps _ _) ?_ ?_
    | (extract_lets -underBinder +onlyGivenNames x; refine Keeps.cut (k := k) (s0 := s0) (x := x) ?_ ?_ <;> first | (intro _; revert x; intro _ _) | (unfold x; clear x))
    | with_reducible apply State.set_keeps
    | with_reducible apply State.plsWait_keeps
    | with_reducible apply State.inc_keeps
    | with_reducible apply State.setPls_keeps

theorem State.mtrDrained_keeps {s : State} (b16 : k.blk 16 = false) (b18 : k.blk 18 = false) (h : State.Keeps k s0 s) (a1 : Nat) :
    State.Keeps k s0 (State.mtrDrained s a1) := by
  unfold State.mtrDrained
  repeat' first
    | with_reducible assumption
    | with_reducible refine Keeps.ite (P := State.Keeps _ _) ?_ ?_
    | with_reducible apply State.mtrGo_keeps

theorem State.plsEnd_keeps {s : State} (b16 : k.blk 16 = false) (b18 : k.blk 18 = false) (h : State.Keeps k s0 s) (a1 : Nat) (a2 : Nat) :
    State.Keeps k s0 (State.plsEnd s a1 a2) := by
  unfold State.plsEnd
  repeat' first
    | with_reducible assumption
    | (show Kept.blk _ _ = false; first | exact b16 | exact b18)
    | with_reducible refine Keeps.ite (P := State.Keeps _ _) ?_ ?_
    | (extract_lets -underBinder +onlyGivenNames x; unfold x; clear x)
    | with_reducible apply State.mtrDrained_keeps
    | with_reducible apply State.plsWait_keeps
    | with_reducible apply State.setPls_keeps

theorem State.plsResidue_keeps {s : State} (b16 : k.blk 16 = false) (h : State.Keeps k s0 s) (a1 : Nat) (a2 : Nat) (a3 : Nat) :
    State.Keeps k s0 (State.plsResidue s a1 a2 a3) := by
  unfold State.plsResidue
  repeat' first
    | with_reducible assumption
    | with_reducible refine Keeps.ite (P := State.Keeps _ _) ?_ ?_
    | (extract_lets -underBinder +onlyGivenNames x; unfold x; clear x)
    | with_reducible apply State.setPls_keeps
    | with_reducible apply State.nextFree_keeps

theorem State.plsDfc_keeps {s : State} (b16 : k.blk 16 = false) (h : State.Keeps k s0 s) (a1 : Nat) (a2 : Nat) (a3 : Nat) (a4 : List (Int × Int)) :
    State.Keeps k s0 (State.plsDfc s a1 a2 a3 a4) := by
  unfold State.plsDfc
  repeat' first
    | with_reducible assumption
    | with_reducible refine Keeps.ite (P := State.Keeps _ _) ?_ ?_
    | with_reducible apply State.setPls_keeps

theorem State.mtrSample_keeps {s : State} (b16 : k.blk 16 = false) (b18 : k.blk 18 = false) (h : State.Keeps k s0 s) (a1 : Nat) (a2 : Nat) (a3 : MtrSample) :
    State.Keeps k s0 (State.mtrSample s a1 a2 a3) := by
  unfold State.mtrSample
  repeat' first
    | with_reducible assumption
    | (with_reducible show Fld.Listed _; decide)
    | (show Kept.blk _ _ = false; first | exact b16 | exact b18)
    | with_reducible refine Keeps.ite (P := State.Keeps _ _) ?_ ?_
    | (extract_lets -underBinder +onlyGivenNames x; refine Keeps.cut (k := k) (s0 := s0) (x := x) ?_ ?_ <;> first | (intro _; revert x; intro _ _) | (unfold x; clear x))
    | (extract_lets -underBinder +onlyGivenNames x; unfold x; clear x)
    | with_reducible refine Keeps.foldl (fun _ _ _ => ?_) ?_
    | with_reducible apply State.event_keeps
    | with_reducible apply State.bump_keeps
    | with_reducible apply State.setMtr_keeps
    | with_reducible apply State.plsDfc_keeps

theorem State.addEnergy_keeps {s : State} (b16 : k.blk 16 = false) (h : State.Keeps k s0 s) (a1 : Nat) (a2 : Nat) (a3 : Nat) (a4 : Nat) :
    State.Keeps k s0 (State.addEnergy s a1 a2 a3 a4) := by
  unfold State.addEnergy
  repeat' first
    | with_reducible assumption
    | (with_reducible show Fld.Listed _; decide)
    | (show Kept.blk _ _ = false; first | exact b16)
    | (extract_lets -underBinder +onlyGivenNames x; refine Keeps.cut (k := k) (s0 := s0) (x := x) ?_ ?_ <;> first | (intro _; revert x; intro _ _) | (unfold x; clear x))
    | (extract_lets -underBinder +onlyGivenNames x; unfold x; clear x)
    | with_reducible apply State.set64_keeps
    | with_reducible apply State.setMtr_keeps

theorem State.addPhase_keeps {s : State} (b16 : k.blk 16 = false) (h : State.Keeps k s0 s) (a1 : Nat) (a2 : Nat) (a3 : Int × Int × Nat) :
    State.Keeps k s0 (State.addPhase s a1 a2 a3) := by
  unfold State.addPhase
  repeat' first
    | with_reducible assumption
    | with_reducible refine Keeps.ite (P := State.Keeps _ _) ?_ ?_
    | (extract_lets -underBinder +onlyGivenNames x; refine Keeps.cut (k := k) (s0 := s0) (x := x) ?_ ?_ <;> first | (intro _; revert x; intro _ _) | (unfold x; clear x))
    | (extract_lets -underBinder +onlyGivenNames x; unfold x; clear x)
    | with_reducible apply State.addEnergy_keeps

theorem State.mtrNeutral_keeps {s : State} (b16 : k.blk 16 = false) (b18 : k.blk 18 = false) (b20 : k.blk 20 = false) (h : State.Keeps k s0 s) (a1 : Nat) :
    State.Keeps k s0 (State.mtrNeutral s a1) := by
  unfold State.mtrNeutral
  repeat' first
    | with_reducible assumption
    | (with_reducible show Fld.Listed _; decide)
    | (show Kept.blk _ _ = false; first | exact b16 | exact b18 | exact b20)
    | with_reducible refine Keeps.ite (P := State.Keeps _ _) ?_ ?_
    | (extract_lets -underBinder +onlyGivenNames x; refine Keeps.cut (k := k) (s0 := s0) (x := x) ?_ ?_ <;> first | (intro _; revert x; intro _ _) | (unfold x; clear x))
    | (extract_lets -underBinder +onlyGivenNames x; unfold x; clear x)
    | with_reducible apply State.set_keeps
    | with_reducible apply State.setMtr_keeps
    | with_reducible apply State.event_keeps
    | with_reducible apply State.pinEvent_keeps

theorem State.mtrRms_keeps {s : State} (b16 : k.blk 16 = false) (h : State.Keeps k s0 s) (a1 : Nat) (a2 : Nat) (a3 : List Nat) :
    State.Keeps k s0 (State.mtrRms s a1 a2 a3) := by
  unfold State.mtrRms
  repeat' first
    | with_reducible assumption
    | (with_reducible show Fld.Listed _; decide)
    | (show Kept.blk _ _ = false; first | exact b16)
    | (extract_lets -underBinder +onlyGivenNames x; unfold x; clear x)
    | with_reducible refine Keeps.foldl (fun _ _ _ => ?_) ?_
    | with_reducible apply State.set_keeps
    | with_reducible apply State.nextFree_keeps

theorem State.mtrTail_keeps {s : State} (b18 : k.blk 18 = false) (b20 : k.blk 20 = false) (h : State.Keeps k s0 s) (a1 : Nat) :
    State.Keeps k s0 (State.mtrTail s a1) := by
  unfold State.mtrTail
  repeat' first
    | with_reducible assumption
    | with_reducible apply State.ringPut_keeps

theorem State.mtrCheckpoint_keeps {s : State} (b18 : k.blk 18 = false) (b20 : k.blk 20 = false) (h : State.Keeps k s0 s) (a1 : Nat) (a2 : Bool) :
    State.Keeps k s0 (State.mtrCheckpoint s a1 a2) := by
  unfold State.mtrCheckpoint
  repeat' first
    | with_reducible assumption
    | with_reducible refine Keeps.ite (P := State.Keeps _ _) ?_ ?_
    | with_reducible apply State.jnlWrite_keeps

theorem State.checkpointAll_keeps {s : State} (b16 : k.blk 16 = false) (b18 : k.blk 18 = false) (b20 : k.blk 20 = false) (h : State.Keeps k s0 s) (a1 : Bool) :
    State.Keeps k s0 (State.checkpointAll s a1) := by
  unfold State.checkpointAll
  repeat' first
    | with_reducible assumption
    | with_reducible refine Keeps.ite (P := State.Keeps _ _) ?_ ?_
    | with_reducible refine Keeps.foldl (fun _ _ _ => ?_) ?_
    | with_reducible apply State.mtrCheckpoint_keeps
    | (with_reducible refine Keeps.upd (h := ?_); first | with_reducible assumption | with_reducible apply State.mtrCheckpoint_keeps | with_reducible refine Keeps.ite (P := State.Keeps _ _) ?_ ?_ | with_reducible refine Keeps.foldl (fun _ _ _ => ?_) ?_)

theorem State.mtrInterval_keeps {s : State} (b16 : k.blk 16 = false) (b18 : k.blk 18 = false) (b20 : k.blk 20 = false) (h : State.Keeps k s0 s) (a1 a2 : Nat) :
    State.Keeps k s0 (State.mtrInterval s a1 a2) := by
  unfold State.mtrInterval
  extract_lets st
  clear_value st
  split
  · exact h
  split
  · exact h
  · rename_i v n vfs ifs fr s1 gates gated pt qt fl idle before es tot s2 s3 s4 now src s5 s6 s7 ht hst
    have h1 : State.Keeps k s0 s1 := State.nextFree_keeps  h
    have h2 : State.Keeps k s0 s2 := Keeps.ite (P := State.Keeps _ _) h1 (State.addPhase_keeps b16 (State.addPhase_keeps b16
      (State.addPhase_keeps b16 (State.addPhase_keeps b16 h1 _ _ _) _ _ _) _ _ _) _ _ _)
    have h3 : State.Keeps k s0 s3 := State.mtrNeutral_keeps b16 b18 b20 (State.setFlag_keeps  h2 _ _ _ (by decide) (by first | exact b16 | exact b18 | exact b20)) _
    have h4 : State.Keeps k s0 s4 := State.mtrRms_keeps b16 h3 _ _ _
    have h5 : State.Keeps k s0 s5 := State.setMtr_keeps b16 h4 _ _
    have h6 : State.Keeps k s0 s6 := Keeps.foldl (fun x j hx => State.plsResidue_keeps b16 hx _ _ _) h5
    exact State.mtrDrained_keeps b16 b18 (Keeps.ite (P := State.Keeps _ _) (State.mtrTail_keeps b18 b20 h6 _) h6) _

theorem State.checkpointDue_keeps {s : State} (b16 : k.blk 16 = false) (b18 : k.blk 18 = false) (b20 : k.blk 20 = false) (h : State.Keeps k s0 s) (a1 : Nat) :
    State.Keeps k s0 (State.checkpointDue s a1) := by
  unfold State.checkpointDue
  repeat' first
    | with_reducible assumption
    | (show Kept.blk _ _ = false; first | exact b16 | exact b18 | exact b20)
    | with_reducible refine Keeps.ite (P := State.Keeps _ _) ?_ ?_
    | (extract_lets -underBinder +onlyGivenNames x; unfold x; clear x)
    | with_reducible refine Keeps.foldl (fun _ _ _ => ?_) ?_
    | with_reducible apply State.setMtr_keeps
    | with_reducible apply State.mtrCheckpoint_keeps

theorem State.mtrSnapshot_keeps {s : State} (b16 : k.blk 16 = false) (b18 : k.blk 18 = false) (h : State.Keeps k s0 s) (a1 : Nat) (a2 : Nat) :
    State.Keeps k s0 (State.mtrSnapshot s a1 a2) := by
  unfold State.mtrSnapshot
  repeat' first
    | with_reducible assumption
    | (with_reducible show Fld.Listed _; decide)
    | (show Kept.blk _ _ = false; first | exact b16 | exact b18)
    | with_reducible refine Keeps.ite (P := State.Keeps _ _) ?_ ?_
    | (extract_lets -underBinder +onlyGivenNames x; refine Keeps.cut (k := k) (s0 := s0) (x := x) ?_ ?_ <;> first | (intro _; revert x; intro _ _) | (unfold x; clear x))
    | (extract_lets -underBinder +onlyGivenNames x; unfold x; clear x)
    | with_reducible refine Keeps.foldl (fun _ _ _ => ?_) ?_
    | with_reducible apply State.set64_keeps
    | with_reducible apply State.set_keeps
    | with_reducible apply State.event_keeps

theorem State.sealRecord_keeps {s : State} (b16 : k.blk 16 = false) (b18 : k.blk 18 = false) (b20 : k.blk 20 = false) (h : State.Keeps k s0 s) (a1 : Nat) (a2 : Nat) (a3 : BitVec 256) :
    State.Keeps k s0 (State.sealRecord s a1 a2 a3) := by
  unfold State.sealRecord
  repeat' first
    | with_reducible assumption
    | (with_reducible show Fld.Listed _; decide)
    | (show Kept.blk _ _ = false; first | exact b16 | exact b18 | exact b20)
    | with_reducible refine Keeps.ite (P := State.Keeps _ _) ?_ ?_
    | (extract_lets -underBinder +onlyGivenNames x; refine Keeps.cut (k := k) (s0 := s0) (x := x) ?_ ?_ <;> first | (intro _; revert x; intro _ _) | (unfold x; clear x))
    | (extract_lets -underBinder +onlyGivenNames x; unfold x; clear x)
    | with_reducible apply State.set_keeps
    | with_reducible apply State.pinPut_keeps
    | with_reducible apply State.setMtr_keeps
    | with_reducible apply State.setSealed_keeps
    | with_reducible apply State.pinFull_keeps

theorem State.sealPort_keeps {s : State} (b16 : k.blk 16 = false) (b18 : k.blk 18 = false) (b20 : k.blk 20 = false) (h : State.Keeps k s0 s) (a1 : Nat) (a2 : Option (Nat × BitVec 256)) :
    State.Keeps k s0 (State.sealPort s a1 a2) := by
  unfold State.sealPort
  repeat' first
    | with_reducible assumption
    | with_reducible refine Keeps.ite (P := State.Keeps _ _) ?_ ?_
    | with_reducible apply State.sealRecord_keeps
    | with_reducible apply State.setSealed_keeps
    | split

theorem State.sealWaiting_keeps {s : State} (b16 : k.blk 16 = false) (b18 : k.blk 18 = false) (b20 : k.blk 20 = false) (h : State.Keeps k s0 s) :
    State.Keeps k s0 (State.sealWaiting s) := by
  unfold State.sealWaiting
  repeat' first
    | with_reducible assumption
    | with_reducible refine Keeps.ite (P := State.Keeps _ _) ?_ ?_
    | with_reducible refine Keeps.foldl (fun _ _ _ => ?_) ?_
    | with_reducible apply State.sealRecord_keeps

theorem State.writePortReq_keeps {s : State} (hresp : k.resp = false) (b16 : k.blk 16 = false) (h : State.Keeps k s0 s) (a1 : Acc) (a2 : Nat) (a3 : Nat) :
    State.Keeps k s0 (State.writePortReq s a1 a2 a3) := by
  unfold State.writePortReq
  repeat' first
    | with_reducible assumption
    | (with_reducible show Fld.Listed _; decide)
    | (show Kept.blk _ _ = false; first | exact b16)
    | with_reducible refine Keeps.ite (P := State.Keeps _ _) ?_ ?_
    | (extract_lets -underBinder +onlyGivenNames x; unfold x; clear x)
    | with_reducible apply State.set_keeps
    | with_reducible apply State.busErr_keeps
    | with_reducible apply State.ok_keeps
    | with_reducible apply State.setMtr_keeps

theorem State.portDecide_keeps {s : State} (b16 : k.blk 16 = false) (b18 : k.blk 18 = false) (b20 : k.blk 20 = false) (h : State.Keeps k s0 s) (a1 : Nat) :
    State.Keeps k s0 (State.portDecide s a1) := by
  unfold State.portDecide
  repeat' first
    | with_reducible assumption
    | (with_reducible show Fld.Listed _; decide)
    | (show Kept.blk _ _ = false; first | exact b16 | exact b18 | exact b20)
    | with_reducible refine Keeps.ite (P := State.Keeps _ _) ?_ ?_
    | (extract_lets -underBinder +onlyGivenNames x; refine Keeps.cut (k := k) (s0 := s0) (x := x) ?_ ?_ <;> first | (intro _; revert x; intro _ _) | (unfold x; clear x))
    | (extract_lets -underBinder +onlyGivenNames x; unfold x; clear x)
    | with_reducible apply State.set_keeps
    | with_reducible apply State.setMtr_keeps
    | with_reducible apply State.bump_keeps
    | with_reducible apply State.jnlWrite_keeps
    | with_reducible apply State.raise_keeps
    | with_reducible apply State.mtrDrained_keeps
    | with_reducible apply State.mtrGo_keeps
    | split

theorem execMeterSample_keeps {s : State} (b16 : k.blk 16 = false) (b18 : k.blk 18 = false) (h : State.Keeps k s0 s) (a0 : Nat) (a1 : Fin 4) (a2 : MtrSample) :
    OutKeeps k s0 (execMeterSample a0 a1 a2 s) := by
  unfold execMeterSample
  repeat' first
    | with_reducible assumption
    | refine OutKeeps.next ?_
    | with_reducible apply State.touch_keeps
    | with_reducible apply State.mtrSample_keeps

theorem execMeterIntervalEnd_keeps {s : State} (b16 : k.blk 16 = false) (b18 : k.blk 18 = false) (b20 : k.blk 20 = false) (h : State.Keeps k s0 s) (a0 : Nat) (a1 : Fin 4) :
    OutKeeps k s0 (execMeterIntervalEnd a0 a1 s) := by
  unfold execMeterIntervalEnd
  repeat' first
    | with_reducible assumption
    | refine OutKeeps.next ?_
    | with_reducible apply State.touch_keeps
    | with_reducible apply State.mtrInterval_keeps

theorem execPulseStart_keeps {s : State} (b16 : k.blk 16 = false) (b18 : k.blk 18 = false) (h : State.Keeps k s0 s) (a0 : Nat) (a1 : Fin 4) :
    OutKeeps k s0 (execPulseStart a0 a1 s) := by
  unfold execPulseStart
  repeat' first
    | with_reducible assumption
    | refine OutKeeps.next ?_
    | with_reducible apply State.touch_keeps
    | with_reducible apply State.plsStart_keeps

theorem execPulseEnd_keeps {s : State} (b16 : k.blk 16 = false) (b18 : k.blk 18 = false) (h : State.Keeps k s0 s) (a0 : Nat) (a1 : Fin 4) :
    OutKeeps k s0 (execPulseEnd a0 a1 s) := by
  unfold execPulseEnd
  repeat' first
    | with_reducible assumption
    | refine OutKeeps.next ?_
    | with_reducible apply State.touch_keeps
    | with_reducible apply State.plsEnd_keeps

theorem execMeterSnapshot_keeps {s : State} (b16 : k.blk 16 = false) (b18 : k.blk 18 = false) (h : State.Keeps k s0 s) (a0 : Nat) (a1 : Fin 4) :
    OutKeeps k s0 (execMeterSnapshot a0 a1 s) := by
  unfold execMeterSnapshot
  repeat' first
    | with_reducible assumption
    | refine OutKeeps.next ?_
    | with_reducible apply State.touch_keeps
    | with_reducible apply State.mtrSnapshot_keeps

theorem execMeterCheckpoint_keeps {s : State} (b16 : k.blk 16 = false) (b18 : k.blk 18 = false) (b20 : k.blk 20 = false) (h : State.Keeps k s0 s) (a0 : Nat) :
    OutKeeps k s0 (execMeterCheckpoint a0 s) := by
  unfold execMeterCheckpoint
  repeat' first
    | with_reducible assumption
    | (show Kept.blk _ _ = false; first | exact b16 | exact b18 | exact b20)
    | refine OutKeeps.next ?_
    | with_reducible apply State.checkpointDue_keeps
    | with_reducible apply State.touch_keeps

theorem execMtrPortDisable_keeps {s : State} (hresp : k.resp = false) (b16 : k.blk 16 = false) (h : State.Keeps k s0 s) (a0 : Acc) (a1 : Fin 4) :
    OutKeeps k s0 (execMtrPortDisable a0 a1 s) := by
  unfold execMtrPortDisable
  repeat' first
    | with_reducible assumption
    | refine OutKeeps.next ?_
    | with_reducible apply State.touch_keeps
    | with_reducible apply State.writePortReq_keeps

theorem execMtrPortEnable_keeps {s : State} (hresp : k.resp = false) (b16 : k.blk 16 = false) (h : State.Keeps k s0 s) (a0 : Acc) (a1 : Fin 4) :
    OutKeeps k s0 (execMtrPortEnable a0 a1 s) := by
  unfold execMtrPortEnable
  repeat' first
    | with_reducible assumption
    | refine OutKeeps.next ?_
    | with_reducible apply State.touch_keeps
    | with_reducible apply State.writePortReq_keeps

end Sys2Proof.Machine
end

