-- ==== Sys2Proof/Laws/Keeps/Chancel.lean ====
section
/-!
SUPPORT. Sys2Proof/Laws/Keeps/Chancel.lean: what each operation of Machine/Chancel.lean keeps.
-/

set_option Elab.async false

namespace Sys2Proof.Machine

set_option linter.tactic.unusedName false

variable {k : Kept} {s0 : State}

theorem State.coverRecord_keeps {s : State} (b0 : k.blk 0 = false) (b18 : k.blk 18 = false) (b20 : k.blk 20 = false) (h : State.Keeps k s0 s) (a1 : Nat) :
    State.Keeps k s0 (State.coverRecord s a1) := by
  unfold State.coverRecord
  repeat' first
    | with_reducible assumption
    | (with_reducible show Fld.Listed _; decide)
    | (show Kept.blk _ _ = false; first | exact b0 | exact b18 | exact b20)
    | with_reducible refine Keeps.ite (P := State.Keeps _ _) ?_ ?_
    | (extract_lets -underBinder +onlyGivenNames x; refine Keeps.cut (k := k) (s0 := s0) (x := x) ?_ ?_ <;> first | (intro _; revert x; intro _ _) | (unfold x; clear x))
    | (extract_lets -underBinder +onlyGivenNames x; unfold x; clear x)
    | with_reducible apply State.set_keeps
    | with_reducible apply State.pinEvent_keeps
    | (with_reducible refine Keeps.upd (h := ?_); first | with_reducible assumption | with_reducible apply State.pinEvent_keeps | with_reducible apply State.set_keeps | with_reducible refine Keeps.ite (P := State.Keeps _ _) ?_ ?_ | with_reducible refine Keeps.foldl (fun _ _ _ => ?_) ?_)

theorem State.coverWaiting_keeps {s : State} (b0 : k.blk 0 = false) (b18 : k.blk 18 = false) (b20 : k.blk 20 = false) (h : State.Keeps k s0 s) :
    State.Keeps k s0 (State.coverWaiting s) := by
  unfold State.coverWaiting
  repeat' first
    | with_reducible assumption
    | with_reducible apply State.coverRecord_keeps

theorem State.lockNow_keeps {s : State} (b0 : k.blk 0 = false) (b18 : k.blk 18 = false) (b20 : k.blk 20 = false) (h : State.Keeps k s0 s) :
    State.Keeps k s0 (State.lockNow s) := by
  unfold State.lockNow
  repeat' first
    | with_reducible assumption
    | (with_reducible show Fld.Listed _; decide)
    | (show Kept.blk _ _ = false; first | exact b0 | exact b18 | exact b20)
    | with_reducible refine Keeps.ite (P := State.Keeps _ _) ?_ ?_
    | (extract_lets -underBinder +onlyGivenNames x; refine Keeps.cut (k := k) (s0 := s0) (x := x) ?_ ?_ <;> first | (intro _; revert x; intro _ _) | (unfold x; clear x))
    | (extract_lets -underBinder +onlyGivenNames x; unfold x; clear x)
    | with_reducible refine Keeps.foldl (fun _ _ _ => ?_) ?_
    | with_reducible apply State.set_keeps
    | with_reducible apply State.setKeySlot_keeps
    | with_reducible apply State.nextFree_keeps
    | with_reducible apply State.pinPut_keeps
    | (with_reducible refine Keeps.upd (h := ?_); first | with_reducible assumption | with_reducible apply State.setKeySlot_keeps | with_reducible apply State.nextFree_keeps | with_reducible apply State.pinPut_keeps | with_reducible apply State.set_keeps | with_reducible refine Keeps.ite (P := State.Keeps _ _) ?_ ?_ | with_reducible refine Keeps.foldl (fun _ _ _ => ?_) ?_)

theorem State.lockTry_keeps {s : State} (b0 : k.blk 0 = false) (b18 : k.blk 18 = false) (b20 : k.blk 20 = false) (h : State.Keeps k s0 s) :
    State.Keeps k s0 (State.lockTry s) := by
  unfold State.lockTry
  repeat' first
    | with_reducible assumption
    | with_reducible refine Keeps.ite (P := State.Keeps _ _) ?_ ?_
    | with_reducible apply State.lockNow_keeps
    | with_reducible apply State.pinFull_keeps

theorem State.fullNote_keeps {s : State} (b20 : k.blk 20 = false) (h : State.Keeps k s0 s) :
    State.Keeps k s0 (State.fullNote s) := by
  unfold State.fullNote
  repeat' first
    | with_reducible assumption
    | (with_reducible show Fld.Listed _; decide)
    | (show Kept.blk _ _ = false; first | exact b20)
    | with_reducible refine Keeps.ite (P := State.Keeps _ _) ?_ ?_
    | with_reducible apply State.set_keeps

theorem State.pinsFreed_keeps {s : State} (b0 : k.blk 0 = false) (b16 : k.blk 16 = false) (b18 : k.blk 18 = false) (b20 : k.blk 20 = false) (h : State.Keeps k s0 s) :
    State.Keeps k s0 (State.pinsFreed s) := by
  unfold State.pinsFreed
  repeat' first
    | with_reducible assumption
    | (extract_lets -underBinder +onlyGivenNames x; refine Keeps.cut (k := k) (s0 := s0) (x := x) ?_ ?_ <;> first | (intro _; revert x; intro _ _) | (unfold x; clear x))
    | with_reducible apply State.fullNote_keeps
    | with_reducible apply State.sealWaiting_keeps
    | with_reducible apply State.coverWaiting_keeps
    | with_reducible apply State.drainQueue_keeps
    | with_reducible apply State.lockTry_keeps
    | with_reducible apply State.openPass_keeps

theorem State.writePinAck_keeps {s : State} (hresp : k.resp = false) (b0 : k.blk 0 = false) (b16 : k.blk 16 = false) (b18 : k.blk 18 = false) (b20 : k.blk 20 = false) (h : State.Keeps k s0 s) (a1 : Acc) (a2 : Nat) :
    State.Keeps k s0 (State.writePinAck s a1 a2) := by
  unfold State.writePinAck
  repeat' first
    | with_reducible assumption
    | with_reducible refine Keeps.ite (P := State.Keeps _ _) ?_ ?_
    | (extract_lets -underBinder +onlyGivenNames x; refine Keeps.cut (k := k) (s0 := s0) (x := x) ?_ ?_ <;> first | (intro _; revert x; intro _ _) | (unfold x; clear x))
    | (extract_lets -underBinder +onlyGivenNames x; unfold x; clear x)
    | with_reducible apply State.busErr_keeps
    | with_reducible apply State.pinAckOf_keeps
    | with_reducible apply State.ok_keeps
    | with_reducible apply State.pinsFreed_keeps
    | (with_reducible refine Keeps.upd (h := ?_); first | with_reducible assumption | with_reducible apply State.busErr_keeps | with_reducible apply State.pinAckOf_keeps | with_reducible apply State.ok_keeps | with_reducible apply State.pinsFreed_keeps | with_reducible refine Keeps.ite (P := State.Keeps _ _) ?_ ?_ | with_reducible refine Keeps.foldl (fun _ _ _ => ?_) ?_)

theorem State.writeProvKey_keeps {s : State} (hresp : k.resp = false) (b0 : k.blk 0 = false) (h : State.Keeps k s0 s) (a1 : Acc) (a2 : Nat) (a3 : Nat) :
    State.Keeps k s0 (State.writeProvKey s a1 a2 a3) := by
  unfold State.writeProvKey
  repeat' first
    | with_reducible assumption
    | with_reducible refine Keeps.ite (P := State.Keeps _ _) ?_ ?_
    | (extract_lets -underBinder +onlyGivenNames x; unfold x; clear x)
    | with_reducible apply State.busErr_keeps
    | with_reducible apply State.ok_keeps
    | (with_reducible refine Keeps.upd (h := ?_); first | with_reducible assumption | with_reducible apply State.busErr_keeps | with_reducible apply State.ok_keeps | with_reducible refine Keeps.ite (P := State.Keeps _ _) ?_ ?_ | with_reducible refine Keeps.foldl (fun _ _ _ => ?_) ?_)

theorem State.writeProvCmd_keeps {s : State} (hresp : k.resp = false) (b0 : k.blk 0 = false) (b16 : k.blk 16 = false) (b18 : k.blk 18 = false) (b20 : k.blk 20 = false) (h : State.Keeps k s0 s) (a1 : Acc) (a2 : Nat)
    (a3 : Bool) : State.Keeps k s0 (State.writeProvCmd s a1 a2 a3) := by
  unfold State.writeProvCmd
  split
  · exact State.busErr_keeps hresp h
  · have h1 : ∀ c, State.Keeps k s0 { s with chn := c } := fun c =>
      Keeps.upd (h := h)
    have h2 : ∀ c, State.Keeps k s0 (State.set { s with chn := c } Fld.SYS_CHN_PROV_RES_PRES 0 0) := fun c =>
      State.set_keeps (h1 c) _ _ _ (by decide) (by exact b0)
    have h3 : ∀ c d, State.Keeps k s0 { State.set { s with chn := c } Fld.SYS_CHN_PROV_RES_PRES 0 0 with chn := d } :=
      fun c d => Keeps.upd (h := h2 c)
    simp only
    split
    · exact State.ok_keeps hresp (h1 _)
    · split
      · split
        · exact State.ok_keeps hresp (State.set_keeps (h2 _) _ _ _ (by decide) (by exact b0))
        · exact State.ok_keeps hresp (State.pinsFreed_keeps b0 b16 b18 b20 (h3 _ _))
      · split
        · exact State.ok_keeps hresp (State.set_keeps (h2 _) _ _ _ (by decide) (by exact b0))
        · exact State.ok_keeps hresp (h3 _ _)

theorem State.provDone_keeps {s : State} (b0 : k.blk 0 = false) (h : State.Keeps k s0 s) (a1 : Bool) :
    State.Keeps k s0 (State.provDone s a1) := by
  unfold State.provDone
  repeat' first
    | with_reducible assumption
    | (with_reducible show Fld.Listed _; decide)
    | (show Kept.blk _ _ = false; first | exact b0)
    | with_reducible refine Keeps.ite (P := State.Keeps _ _) ?_ ?_
    | (extract_lets -underBinder +onlyGivenNames x; unfold x; clear x)
    | with_reducible apply State.set_keeps
    | with_reducible apply State.setKeySlot_keeps
    | with_reducible apply State.nextFree_keeps
    | (with_reducible refine Keeps.upd (h := ?_); first | with_reducible assumption | with_reducible apply State.setKeySlot_keeps | with_reducible apply State.nextFree_keeps | with_reducible apply State.set_keeps | with_reducible refine Keeps.ite (P := State.Keeps _ _) ?_ ?_ | with_reducible refine Keeps.foldl (fun _ _ _ => ?_) ?_)

theorem State.chnRes_keeps {s : State} (b0 : k.blk 0 = false) (h : State.Keeps k s0 s) (a1 : Nat) (a2 : Nat) (a3 : Nat) :
    State.Keeps k s0 (State.chnRes s a1 a2 a3) := by
  unfold State.chnRes
  repeat' first
    | with_reducible assumption
    | (with_reducible show Fld.Listed _; decide)
    | (show Kept.blk _ _ = false; first | exact b0)
    | with_reducible apply State.set_keeps

theorem State.raiseFloor_keeps {s : State} (b0 : k.blk 0 = false) (h : State.Keeps k s0 s) :
    State.Keeps k s0 (State.raiseFloor s).2 := by
  unfold State.raiseFloor
  repeat' first
    | with_reducible assumption
    | (with_reducible show Fld.Listed _; decide)
    | (show Kept.blk _ _ = false; first | exact b0)
    | (extract_lets -underBinder +onlyGivenNames x; refine Keeps.cut (k := k) (s0 := s0) (x := x) ?_ ?_ <;> first | (intro _; revert x; intro _ _) | (unfold x; clear x))
    | (extract_lets -underBinder +onlyGivenNames x; unfold x; clear x)
    | with_reducible apply State.set_keeps
    | (with_reducible refine Keeps.upd (h := ?_); first | with_reducible assumption | with_reducible apply State.set_keeps | with_reducible refine Keeps.ite (P := State.Keeps _ _) ?_ ?_ | with_reducible refine Keeps.foldl (fun _ _ _ => ?_) ?_)
    | split

theorem State.serveFloor_keeps {s : State} (b0 : k.blk 0 = false) (b18 : k.blk 18 = false) (b19 : k.blk 19 = false) (b20 : k.blk 20 = false) (h : State.Keeps k s0 s) (a1 : Nat) :
    State.Keeps k s0 (State.serveFloor s a1) := by
  unfold State.serveFloor
  repeat' first
    | with_reducible assumption
    | with_reducible refine Keeps.ite (P := State.Keeps _ _) ?_ ?_
    | (extract_lets -underBinder +onlyGivenNames x; refine Keeps.cut (k := k) (s0 := s0) (x := x.2) ?_ ?_ <;> first | (intro _; revert x; intro _ _) | (unfold x; clear x))
    | with_reducible apply State.mbxTake_keeps
    | with_reducible apply State.raiseFloor_keeps
    | with_reducible apply State.chnRes_keeps

theorem State.serveRestart_keeps {s : State} (b0 : k.blk 0 = false) (b5 : k.blk 5 = false) (b6 : k.blk 6 = false) (b11 : k.blk 11 = false) (b12 : k.blk 12 = false) (b13 : k.blk 13 = false) (b18 : k.blk 18 = false) (b19 : k.blk 19 = false) (b20 : k.blk 20 = false) (b21 : k.blk 21 = false) (b22 : k.blk 22 = false) (h : State.Keeps k s0 s) (a1 : Nat) (a2 : Nat) :
    State.Keeps k s0 (State.serveRestart s a1 a2) := by
  unfold State.serveRestart
  repeat' first
    | with_reducible assumption
    | with_reducible refine Keeps.ite (P := State.Keeps _ _) ?_ ?_
    | (extract_lets -underBinder +onlyGivenNames x; refine Keeps.cut (k := k) (s0 := s0) (x := x) ?_ ?_ <;> first | (intro _; revert x; intro _ _) | (unfold x; clear x))
    | (extract_lets -underBinder +onlyGivenNames x; unfold x; clear x)
    | with_reducible apply State.mbxTake_keeps
    | with_reducible apply State.enterSafeHold_keeps
    | with_reducible apply State.chnRes_keeps
    | (with_reducible refine Keeps.upd (h := ?_); first | with_reducible assumption | with_reducible apply State.mbxTake_keeps | with_reducible apply State.enterSafeHold_keeps | with_reducible apply State.chnRes_keeps | with_reducible refine Keeps.ite (P := State.Keeps _ _) ?_ ?_ | with_reducible refine Keeps.foldl (fun _ _ _ => ?_) ?_)

theorem State.trngFail_keeps {s : State} (b0 : k.blk 0 = false) (b5 : k.blk 5 = false) (b6 : k.blk 6 = false) (b18 : k.blk 18 = false) (b20 : k.blk 20 = false) (b22 : k.blk 22 = false) (h : State.Keeps k s0 s) :
    State.Keeps k s0 (State.trngFail s) := by
  unfold State.trngFail
  repeat' first
    | with_reducible assumption
    | (with_reducible show Fld.Listed _; decide)
    | (show Kept.blk _ _ = false; first | exact b0 | exact b5 | exact b6 | exact b18 | exact b20 | exact b22)
    | with_reducible apply State.set_keeps
    | with_reducible apply State.faultF2_keeps

theorem State.tamperRaise_keeps {s : State} (b18 : k.blk 18 = false) (h : State.Keeps k s0 s) (a1 : Nat) :
    State.Keeps k s0 (State.tamperRaise s a1) := by
  unfold State.tamperRaise
  repeat' first
    | with_reducible assumption
    | with_reducible refine Keeps.ite (P := State.Keeps _ _) ?_ ?_
    | with_reducible apply State.raise_keeps

theorem State.coverPorts_keeps {s : State} (b16 : k.blk 16 = false) (b18 : k.blk 18 = false) (h : State.Keeps k s0 s) (a1 : Nat) :
    State.Keeps k s0 (State.coverPorts s a1) := by
  unfold State.coverPorts
  repeat' first
    | with_reducible assumption
    | (with_reducible show Fld.Listed _; decide)
    | (show Kept.blk _ _ = false; first | exact b16 | exact b18)
    | with_reducible refine Keeps.foldl (fun _ _ _ => ?_) ?_
    | with_reducible apply State.event_keeps

theorem State.tamperProbe_keeps {s : State} (b0 : k.blk 0 = false) (b16 : k.blk 16 = false) (b18 : k.blk 18 = false) (b20 : k.blk 20 = false) (h : State.Keeps k s0 s) (a1 : Nat) (a2 : Bool) :
    State.Keeps k s0 (State.tamperProbe s a1 a2) := by
  unfold State.tamperProbe
  repeat' first
    | with_reducible assumption
    | (with_reducible show Fld.Listed _; decide)
    | (show Kept.blk _ _ = false; first | exact b0 | exact b16 | exact b18 | exact b20)
    | with_reducible refine Keeps.ite (P := State.Keeps _ _) ?_ ?_
    | (extract_lets -underBinder +onlyGivenNames x; refine Keeps.cut (k := k) (s0 := s0) (x := x) ?_ ?_ <;> first | (intro _; revert x; intro _ _) | (unfold x; clear x))
    | (extract_lets -underBinder +onlyGivenNames x; unfold x; clear x)
    | with_reducible apply State.tamperRaise_keeps
    | with_reducible apply State.set_keeps
    | with_reducible apply State.coverRecord_keeps
    | with_reducible apply State.coverPorts_keeps
    | (with_reducible refine Keeps.upd (h := ?_); first | with_reducible assumption | with_reducible apply State.tamperRaise_keeps | with_reducible apply State.set_keeps | with_reducible apply State.coverRecord_keeps | with_reducible apply State.coverPorts_keeps | with_reducible refine Keeps.ite (P := State.Keeps _ _) ?_ ?_ | with_reducible refine Keeps.foldl (fun _ _ _ => ?_) ?_)

theorem State.testenHigh_keeps {s : State} (b0 : k.blk 0 = false) (b18 : k.blk 18 = false) (b20 : k.blk 20 = false) (b23 : k.blk 23 = false) (h : State.Keeps k s0 s) :
    State.Keeps k s0 (State.testenHigh s) := by
  unfold State.testenHigh
  repeat' first
    | with_reducible assumption
    | (with_reducible show Fld.Listed _; decide)
    | (show Kept.blk _ _ = false; first | exact b0 | exact b18 | exact b20 | exact b23)
    | with_reducible refine Keeps.ite (P := State.Keeps _ _) ?_ ?_
    | (extract_lets -underBinder +onlyGivenNames x; refine Keeps.cut (k := k) (s0 := s0) (x := x) ?_ ?_ <;> first | (intro _; revert x; intro _ _) | (unfold x; clear x))
    | (extract_lets -underBinder +onlyGivenNames x; unfold x; clear x)
    | with_reducible apply State.set_keeps
    | with_reducible apply State.pinEvent_keeps
    | (with_reducible refine Keeps.upd (h := ?_); first | with_reducible assumption | with_reducible apply State.pinEvent_keeps | with_reducible apply State.set_keeps | with_reducible refine Keeps.ite (P := State.Keeps _ _) ?_ ?_ | with_reducible refine Keeps.foldl (fun _ _ _ => ?_) ?_)

theorem State.raiseEpoch_keeps {s : State} (b0 : k.blk 0 = false) (h : State.Keeps k s0 s) :
    State.Keeps k s0 (State.raiseEpoch s) := by
  unfold State.raiseEpoch
  repeat' first
    | with_reducible assumption
    | (with_reducible show Fld.Listed _; decide)
    | (show Kept.blk _ _ = false; first | exact b0)
    | with_reducible refine Keeps.ite (P := State.Keeps _ _) ?_ ?_
    | (extract_lets -underBinder +onlyGivenNames x; refine Keeps.cut (k := k) (s0 := s0) (x := x) ?_ ?_ <;> first | (intro _; revert x; intro _ _) | (unfold x; clear x))
    | (extract_lets -underBinder +onlyGivenNames x; unfold x; clear x)
    | with_reducible apply State.set_keeps
    | (with_reducible refine Keeps.upd (h := ?_); first | with_reducible assumption | with_reducible apply State.set_keeps | with_reducible refine Keeps.ite (P := State.Keeps _ _) ?_ ?_ | with_reducible refine Keeps.foldl (fun _ _ _ => ?_) ?_)

theorem State.writeNvRelease_keeps {s : State} (hresp : k.resp = false) (b0 : k.blk 0 = false) (h : State.Keeps k s0 s) (a1 : Acc) (a2 : Nat) :
    State.Keeps k s0 (State.writeNvRelease s a1 a2) := by
  unfold State.writeNvRelease
  repeat' first
    | with_reducible assumption
    | with_reducible refine Keeps.ite (P := State.Keeps _ _) ?_ ?_
    | (extract_lets -underBinder +onlyGivenNames x; unfold x; clear x)
    | with_reducible apply State.busErr_keeps
    | with_reducible apply State.ok_keeps
    | (with_reducible refine Keeps.upd (h := ?_); first | with_reducible assumption | with_reducible apply State.busErr_keeps | with_reducible apply State.ok_keeps | with_reducible refine Keeps.ite (P := State.Keeps _ _) ?_ ?_ | with_reducible refine Keeps.foldl (fun _ _ _ => ?_) ?_)

theorem execProvLatch_keeps {s : State} (hresp : k.resp = false) (b0 : k.blk 0 = false) (b16 : k.blk 16 = false) (b18 : k.blk 18 = false) (b20 : k.blk 20 = false) (h : State.Keeps k s0 s) (a0 : Acc) (a1 : Fin 16) (a2 : Byte) :
    OutKeeps k s0 (execProvLatch a0 a1 a2 s) := by
  unfold execProvLatch
  repeat' first
    | with_reducible assumption
    | refine OutKeeps.next ?_
    | with_reducible apply State.touch_keeps
    | with_reducible apply State.writeProvCmd_keeps

theorem execProvGo_keeps {s : State} (hresp : k.resp = false) (b0 : k.blk 0 = false) (b16 : k.blk 16 = false) (b18 : k.blk 18 = false) (b20 : k.blk 20 = false) (h : State.Keeps k s0 s) (a0 : Acc) :
    OutKeeps k s0 (execProvGo a0 s) := by
  unfold execProvGo
  repeat' first
    | with_reducible assumption
    | refine OutKeeps.next ?_
    | with_reducible apply State.touch_keeps
    | with_reducible apply State.writeProvCmd_keeps

theorem execProvLock_keeps {s : State} (hresp : k.resp = false) (b0 : k.blk 0 = false) (b16 : k.blk 16 = false) (b18 : k.blk 18 = false) (b20 : k.blk 20 = false) (h : State.Keeps k s0 s) (a0 : Acc) (a1 : Bool) :
    OutKeeps k s0 (execProvLock a0 a1 s) := by
  unfold execProvLock
  repeat' first
    | with_reducible assumption
    | refine OutKeeps.next ?_
    | with_reducible apply State.touch_keeps
    | with_reducible apply State.writeProvCmd_keeps

theorem execProvProgramDone_keeps {s : State} (b0 : k.blk 0 = false) (h : State.Keeps k s0 s) (a0 : Bool) :
    OutKeeps k s0 (execProvProgramDone a0 s) := by
  unfold execProvProgramDone
  repeat' first
    | with_reducible assumption
    | refine OutKeeps.next ?_
    | with_reducible apply State.provDone_keeps

theorem execFloor_keeps {s : State} (b0 : k.blk 0 = false) (b18 : k.blk 18 = false) (b19 : k.blk 19 = false) (b20 : k.blk 20 = false) (h : State.Keeps k s0 s) (a0 : Nat) (a1 : Fin 64) :
    OutKeeps k s0 (execFloor a0 a1 s) := by
  unfold execFloor
  repeat' first
    | with_reducible assumption
    | refine OutKeeps.next ?_
    | with_reducible apply State.touch_keeps
    | with_reducible apply State.serveFloor_keeps

theorem execRestart_keeps {s : State} (b0 : k.blk 0 = false) (b5 : k.blk 5 = false) (b6 : k.blk 6 = false) (b11 : k.blk 11 = false) (b12 : k.blk 12 = false) (b13 : k.blk 13 = false) (b18 : k.blk 18 = false) (b19 : k.blk 19 = false) (b20 : k.blk 20 = false) (b21 : k.blk 21 = false) (b22 : k.blk 22 = false) (h : State.Keeps k s0 s) (a0 : Nat) (a1 : Fin 64) :
    OutKeeps k s0 (execRestart a0 a1 s) := by
  unfold execRestart
  repeat' first
    | with_reducible assumption
    | refine OutKeeps.next ?_
    | with_reducible apply State.touch_keeps
    | with_reducible apply State.serveRestart_keeps

theorem execPortReq_keeps {s : State} (b16 : k.blk 16 = false) (b18 : k.blk 18 = false) (b20 : k.blk 20 = false) (h : State.Keeps k s0 s) (a0 : Nat) (a1 : Fin 4) :
    OutKeeps k s0 (execPortReq a0 a1 s) := by
  unfold execPortReq
  repeat' first
    | with_reducible assumption
    | refine OutKeeps.next ?_
    | with_reducible apply State.touch_keeps
    | with_reducible apply State.portDecide_keeps

theorem execTrngHealthFail_keeps {s : State} (b0 : k.blk 0 = false) (b5 : k.blk 5 = false) (b6 : k.blk 6 = false) (b18 : k.blk 18 = false) (b20 : k.blk 20 = false) (b22 : k.blk 22 = false) (h : State.Keeps k s0 s) (a0 : Nat) :
    OutKeeps k s0 (execTrngHealthFail a0 s) := by
  unfold execTrngHealthFail
  repeat' first
    | with_reducible assumption
    | refine OutKeeps.next ?_
    | with_reducible apply State.touch_keeps
    | with_reducible apply State.trngFail_keeps

theorem execTamperProbe_keeps {s : State} (b0 : k.blk 0 = false) (b16 : k.blk 16 = false) (b18 : k.blk 18 = false) (b20 : k.blk 20 = false) (h : State.Keeps k s0 s) (a0 : Nat) (a1 : Fin 2) (a2 : ProbeLevels) :
    OutKeeps k s0 (execTamperProbe a0 a1 a2 s) := by
  unfold execTamperProbe
  repeat' first
    | with_reducible assumption
    | (show Kept.blk _ _ = false; first | exact b0 | exact b16 | exact b18 | exact b20)
    | refine OutKeeps.next ?_
    | with_reducible apply State.tamperProbe_keeps
    | with_reducible apply State.touch_keeps

theorem execTestenAssert_keeps {s : State} (b0 : k.blk 0 = false) (b18 : k.blk 18 = false) (b20 : k.blk 20 = false) (b23 : k.blk 23 = false) (h : State.Keeps k s0 s) (a0 : Nat) :
    OutKeeps k s0 (execTestenAssert a0 s) := by
  unfold execTestenAssert
  repeat' first
    | with_reducible assumption
    | refine OutKeeps.next ?_
    | with_reducible apply State.touch_keeps
    | with_reducible apply State.testenHigh_keeps

theorem execSysNvRelease_keeps {s : State} (hresp : k.resp = false) (b0 : k.blk 0 = false) (h : State.Keeps k s0 s) (a0 : Acc) (a1 : Word) :
    OutKeeps k s0 (execSysNvRelease a0 a1 s) := by
  unfold execSysNvRelease
  repeat' first
    | with_reducible assumption
    | refine OutKeeps.next ?_
    | with_reducible apply State.touch_keeps
    | with_reducible apply State.writeNvRelease_keeps

theorem execJnlPinAck_keeps {s : State} (hresp : k.resp = false) (b0 : k.blk 0 = false) (b16 : k.blk 16 = false) (b18 : k.blk 18 = false) (b20 : k.blk 20 = false) (h : State.Keeps k s0 s) (a0 : Acc) (a1 : Word) :
    OutKeeps k s0 (execJnlPinAck a0 a1 s) := by
  unfold execJnlPinAck
  repeat' first
    | with_reducible assumption
    | refine OutKeeps.next ?_
    | with_reducible apply State.touch_keeps
    | with_reducible apply State.writePinAck_keeps

theorem execPinnedAreaFull_keeps {s : State} (b18 : k.blk 18 = false) (b20 : k.blk 20 = false) (h : State.Keeps k s0 s) (a0 : Nat) :
    OutKeeps k s0 (execPinnedAreaFull a0 s) := by
  unfold execPinnedAreaFull
  repeat' first
    | with_reducible assumption
    | refine OutKeeps.next ?_
    | with_reducible refine Keeps.ite (P := State.Keeps _ _) ?_ ?_
    | with_reducible apply State.touch_keeps
    | with_reducible apply State.pinFull_keeps
    | split

end Sys2Proof.Machine
end

