-- ==== Sys2Proof/Laws/Keeps/Conversion.lean ====
section
/-!
SUPPORT. Sys2Proof/Laws/Keeps/Conversion.lean: what each operation of Machine/Conversion.lean keeps.
-/

set_option Elab.async false

namespace Sys2Proof.Machine

set_option linter.tactic.unusedName false

variable {k : Kept} {s0 : State}

theorem State.adcOverrun_keeps {s : State} (b9 : k.blk 9 = false) (b18 : k.blk 18 = false) (h : State.Keeps k s0 s) (a1 : Nat) :
    State.Keeps k s0 (State.adcOverrun s a1) := by
  unfold State.adcOverrun
  repeat' first
    | with_reducible assumption
    | (with_reducible show Fld.Listed _; decide)
    | (show Kept.blk _ _ = false; first | exact b9 | exact b18)
    | with_reducible apply State.event_keeps
    | with_reducible apply State.bump_keeps

theorem State.adcStart_keeps {s : State} (b9 : k.blk 9 = false) (b18 : k.blk 18 = false) (h : State.Keeps k s0 s) (a1 : Nat) (a2 : Nat) :
    State.Keeps k s0 (State.adcStart s a1 a2) := by
  unfold State.adcStart
  repeat' first
    | with_reducible assumption
    | (with_reducible show Fld.Listed _; decide)
    | (show Kept.blk _ _ = false; first | exact b9 | exact b18)
    | with_reducible refine Keeps.ite (P := State.Keeps _ _) ?_ ?_
    | (extract_lets -underBinder +onlyGivenNames x; unfold x; clear x)
    | with_reducible apply State.set_keeps
    | with_reducible apply State.event_keeps
    | with_reducible apply State.adcOverrun_keeps
    | with_reducible apply State.setAdc_keeps

theorem State.noteLevel_keeps {s : State} (b9 : k.blk 9 = false) (h : State.Keeps k s0 s) (a1 : Nat) :
    State.Keeps k s0 (State.noteLevel s a1) := by
  unfold State.noteLevel
  repeat' first
    | with_reducible assumption
    | (with_reducible show Fld.Listed _; decide)
    | (show Kept.blk _ _ = false; first | exact b9)
    | with_reducible apply State.set_keeps

theorem State.adcFlush_keeps {s : State} (hmem : k.mem = false) (b9 : k.blk 9 = false) (b18 : k.blk 18 = false) (h : State.Keeps k s0 s) (a0 a1 : Nat) :
    State.Keeps k s0 (State.adcFlush a0 a1 s) := by
  induction a1 generalizing s with
  | zero => exact h
  | succ n ih =>
    unfold State.adcFlush
    simp only
    split
    · exact h
    · split
      · exact h
      · have hw : ∀ b l x w, State.Keeps k s0 (((s.setBytes b l).setAdc a0 x).set Fld.ADC_DMA_WR_INDEX a0 w) :=
          fun b l x w => State.set_keeps (State.setAdc_keeps b9 (State.setBytes_keeps hmem h b l) a0 x)
            Fld.ADC_DMA_WR_INDEX a0 w (by decide) (by first | exact b9 | exact b18)
        exact ih (Keeps.ite (P := State.Keeps _ _) (State.raise_keeps b18 (hw _ _ _ _) _) (hw _ _ _ _))

theorem State.adcDma_keeps {s : State} (hmem : k.mem = false) (b9 : k.blk 9 = false) (b18 : k.blk 18 = false) (h : State.Keeps k s0 s) (a1 : Nat) :
    State.Keeps k s0 (State.adcDma s a1) := by
  unfold State.adcDma
  repeat' first
    | with_reducible assumption
    | with_reducible refine Keeps.ite (P := State.Keeps _ _) ?_ ?_
    | with_reducible apply State.noteLevel_keeps
    | with_reducible apply State.adcFlush_keeps

theorem State.adcStore_keeps {s : State} (hmem : k.mem = false) (b9 : k.blk 9 = false) (b18 : k.blk 18 = false) (h : State.Keeps k s0 s) (a1 : Nat) (a2 : Nat) (a3 : Nat) :
    State.Keeps k s0 (State.adcStore s a1 a2 a3) := by
  unfold State.adcStore
  repeat' first
    | with_reducible assumption
    | (with_reducible show Fld.Listed _; decide)
    | (show Kept.blk _ _ = false; first | exact b9 | exact b18)
    | with_reducible refine Keeps.ite (P := State.Keeps _ _) ?_ ?_
    | with_reducible apply State.event_keeps
    | with_reducible apply State.setAdc_keeps
    | with_reducible apply State.bump_keeps
    | with_reducible apply State.adcDma_keeps
    | with_reducible apply State.raise_keeps

theorem State.adcTrim_keeps {s : State} (b9 : k.blk 9 = false) (h : State.Keeps k s0 s) (a1 : Nat) (a2 : Nat) (a3 : Trim) (a4 : Trim) (a5 : Option Bool) :
    State.Keeps k s0 (State.adcTrim s a1 a2 a3 a4 a5) := by
  unfold State.adcTrim
  repeat' first
    | with_reducible assumption
    | (with_reducible show Fld.Listed _; decide)
    | (show Kept.blk _ _ = false; first | exact b9)
    | with_reducible refine Keeps.ite (P := State.Keeps _ _) ?_ ?_
    | (extract_lets -underBinder +onlyGivenNames x; refine Keeps.cut (k := k) (s0 := s0) (x := x) ?_ ?_ <;> first | (intro _; revert x; intro _ _) | (unfold x; clear x))
    | (extract_lets -underBinder +onlyGivenNames x; unfold x; clear x)
    | with_reducible apply State.set_keeps
    | with_reducible apply State.setFlag_keeps
    | with_reducible apply State.setAdc_keeps
    | split

theorem State.adcGo_keeps {s : State} (b9 : k.blk 9 = false) (h : State.Keeps k s0 s) (a1 : Nat) (a2 : Nat) :
    State.Keeps k s0 (State.adcGo s a1 a2) := by
  unfold State.adcGo
  repeat' first
    | with_reducible assumption
    | (with_reducible show Fld.Listed _; decide)
    | (show Kept.blk _ _ = false; first | exact b9)
    | with_reducible refine Keeps.ite (P := State.Keeps _ _) ?_ ?_
    | (extract_lets -underBinder +onlyGivenNames x; refine Keeps.cut (k := k) (s0 := s0) (x := x) ?_ ?_ <;> first | (intro _; revert x; intro _ _) | (unfold x; clear x))
    | (extract_lets -underBinder +onlyGivenNames x; unfold x; clear x)
    | with_reducible apply State.set_keeps

theorem State.mpptSeen_keeps {s : State} (b12 : k.blk 12 = false) (h : State.Keeps k s0 s) (a1 : Bool) (a2 : Nat) :
    State.Keeps k s0 (State.mpptSeen s a1 a2) := by
  unfold State.mpptSeen
  repeat' first
    | with_reducible assumption
    | (show Kept.blk _ _ = false; first | exact b12)
    | with_reducible refine Keeps.ite (P := State.Keeps _ _) ?_ ?_
    | (extract_lets -underBinder +onlyGivenNames x; unfold x; clear x)
    | with_reducible refine Keeps.foldl (fun _ _ _ => ?_) ?_
    | with_reducible apply State.setMppt_keeps

theorem State.adcDone_keeps {s : State} (hmem : k.mem = false) (b9 : k.blk 9 = false) (b12 : k.blk 12 = false) (b18 : k.blk 18 = false) (h : State.Keeps k s0 s) (a1 : Nat) (a2 : Nat) (a3 : Trim) (a4 : Trim) (a5 : Option Bool) :
    State.Keeps k s0 (State.adcDone s a1 a2 a3 a4 a5) := by
  unfold State.adcDone
  repeat' first
    | with_reducible assumption
    | (with_reducible show Fld.Listed _; decide)
    | (show Kept.blk _ _ = false; first | exact b9 | exact b12 | exact b18)
    | with_reducible refine Keeps.ite (P := State.Keeps _ _) ?_ ?_
    | (extract_lets -underBinder +onlyGivenNames x; refine Keeps.cut (k := k) (s0 := s0) (x := x) ?_ ?_ <;> first | (intro _; revert x; intro _ _) | (unfold x; clear x))
    | (extract_lets -underBinder +onlyGivenNames x; unfold x; clear x)
    | with_reducible apply State.set_keeps
    | with_reducible apply State.mpptSeen_keeps
    | with_reducible apply State.adcStore_keeps
    | with_reducible apply State.setAdc_keeps
    | with_reducible apply State.event_keeps
    | with_reducible apply State.adcTrim_keeps
    | with_reducible apply State.adcGo_keeps

theorem State.adcEnable_keeps {s : State} (b9 : k.blk 9 = false) (h : State.Keeps k s0 s) (a1 : Nat) :
    State.Keeps k s0 (State.adcEnable s a1) := by
  unfold State.adcEnable
  repeat' first
    | with_reducible assumption
    | (show Kept.blk _ _ = false; first | exact b9)
    | with_reducible refine Keeps.ite (P := State.Keeps _ _) ?_ ?_
    | (extract_lets -underBinder +onlyGivenNames x; unfold x; clear x)
    | with_reducible apply State.setAdc_keeps
    | with_reducible apply State.adcGo_keeps

theorem State.adcDisable_keeps {s : State} (b9 : k.blk 9 = false) (h : State.Keeps k s0 s) (a1 : Nat) :
    State.Keeps k s0 (State.adcDisable s a1) := by
  unfold State.adcDisable
  repeat' first
    | with_reducible assumption
    | (show Kept.blk _ _ = false; first | exact b9)
    | with_reducible refine Keeps.ite (P := State.Keeps _ _) ?_ ?_
    | with_reducible apply State.adcGo_keeps

theorem State.writeAdcCtrl_keeps {s : State} (hresp : k.resp = false) (b9 : k.blk 9 = false) (b18 : k.blk 18 = false) (h : State.Keeps k s0 s) (a1 : Acc) (a2 : Nat) (a3 : Nat) :
    State.Keeps k s0 (State.writeAdcCtrl s a1 a2 a3) := by
  unfold State.writeAdcCtrl
  repeat' first
    | with_reducible assumption
    | with_reducible refine Keeps.ite (P := State.Keeps _ _) ?_ ?_
    | (extract_lets -underBinder +onlyGivenNames x; refine Keeps.cut (k := k) (s0 := s0) (x := x) ?_ ?_ <;> first | (intro _; revert x; intro _ _) | (unfold x; clear x))
    | with_reducible apply State.busErr_keeps
    | with_reducible apply State.adcDisable_keeps
    | with_reducible apply State.adcEnable_keeps
    | with_reducible apply State.adcStart_keeps
    | with_reducible apply State.ok_keeps

theorem State.adcBadLen_keeps {s : State} (hresp : k.resp = false) (b9 : k.blk 9 = false) (b18 : k.blk 18 = false) (h : State.Keeps k s0 s) (a1 : Nat) :
    State.Keeps k s0 (State.adcBadLen s a1) := by
  unfold State.adcBadLen
  repeat' first
    | with_reducible assumption
    | (with_reducible show Fld.Listed _; decide)
    | (show Kept.blk _ _ = false; first | exact b9 | exact b18)
    | with_reducible apply State.busErr_keeps
    | with_reducible apply State.event_keeps

theorem State.writeAdcLen_keeps {s : State} (hresp : k.resp = false) (b9 : k.blk 9 = false) (b18 : k.blk 18 = false) (h : State.Keeps k s0 s) (a1 : Acc) (a2 : Nat) (a3 : Nat) :
    State.Keeps k s0 (State.writeAdcLen s a1 a2 a3) := by
  unfold State.writeAdcLen
  repeat' first
    | with_reducible assumption
    | (with_reducible show Fld.Listed _; decide)
    | (show Kept.blk _ _ = false; first | exact b9 | exact b18)
    | with_reducible refine Keeps.ite (P := State.Keeps _ _) ?_ ?_
    | with_reducible apply State.set_keeps
    | with_reducible apply State.busErr_keeps
    | with_reducible apply State.adcBadLen_keeps
    | with_reducible apply State.ok_keeps

theorem State.writeAdcEntry_keeps {s : State} (hresp : k.resp = false) (b9 : k.blk 9 = false) (b18 : k.blk 18 = false) (h : State.Keeps k s0 s) (a1 : Acc) (a2 : Nat) (a3 : Nat) (a4 : Nat) :
    State.Keeps k s0 (State.writeAdcEntry s a1 a2 a3 a4) := by
  unfold State.writeAdcEntry
  repeat' first
    | with_reducible assumption
    | (with_reducible show Fld.Listed _; decide)
    | (show Kept.blk _ _ = false; first | exact b9 | exact b18)
    | with_reducible refine Keeps.ite (P := State.Keeps _ _) ?_ ?_
    | with_reducible apply State.set_keeps
    | with_reducible apply State.busErr_keeps
    | with_reducible apply State.adcBadLen_keeps
    | with_reducible apply State.ok_keeps

theorem State.writeAdcRd_keeps {s : State} (hmem : k.mem = false) (hresp : k.resp = false) (b9 : k.blk 9 = false) (b18 : k.blk 18 = false) (h : State.Keeps k s0 s) (a1 : Acc) (a2 : Nat) (a3 : Nat) :
    State.Keeps k s0 (State.writeAdcRd s a1 a2 a3) := by
  unfold State.writeAdcRd
  repeat' first
    | with_reducible assumption
    | (with_reducible show Fld.Listed _; decide)
    | (show Kept.blk _ _ = false; first | exact b9 | exact b18)
    | with_reducible refine Keeps.ite (P := State.Keeps _ _) ?_ ?_
    | with_reducible apply State.set_keeps
    | with_reducible apply State.busErr_keeps
    | with_reducible apply State.ok_keeps
    | with_reducible apply State.adcDma_keeps

theorem State.readAdcFifo_keeps {s : State} (hlatch : k.latch = false) (hresp : k.resp = false) (b9 : k.blk 9 = false) (h : State.Keeps k s0 s) (a1 : Master) (a2 : Nat) :
    State.Keeps k s0 (State.readAdcFifo s a1 a2) := by
  unfold State.readAdcFifo
  repeat' first
    | with_reducible assumption
    | with_reducible refine Keeps.ite (P := State.Keeps _ _) ?_ ?_
    | (extract_lets -underBinder +onlyGivenNames x; refine Keeps.cut (k := k) (s0 := s0) (x := x) ?_ ?_ <;> first | (intro _; revert x; intro _ _) | (unfold x; clear x))
    | (extract_lets -underBinder +onlyGivenNames x; unfold x; clear x)
    | with_reducible apply State.answer_keeps
    | with_reducible apply State.setLatch_keeps
    | with_reducible apply State.noteLevel_keeps
    | with_reducible apply State.setAdc_keeps
    | split

theorem State.adcTrigger_keeps {s : State} (b9 : k.blk 9 = false) (b18 : k.blk 18 = false) (h : State.Keeps k s0 s) (a1 : Nat) (a2 : Nat) (a3 : Bool) :
    State.Keeps k s0 (State.adcTrigger s a1 a2 a3) := by
  unfold State.adcTrigger
  repeat' first
    | with_reducible assumption
    | with_reducible refine Keeps.ite (P := State.Keeps _ _) ?_ ?_
    | with_reducible refine Keeps.foldl (fun _ _ _ => ?_) ?_
    | with_reducible apply State.adcStart_keeps

theorem State.adcTwill_keeps {s : State} (b9 : k.blk 9 = false) (b18 : k.blk 18 = false) (h : State.Keeps k s0 s) (a1 : Nat) (a2 : Nat) :
    State.Keeps k s0 (State.adcTwill s a1 a2) := by
  unfold State.adcTwill
  repeat' first
    | with_reducible assumption
    | with_reducible refine Keeps.ite (P := State.Keeps _ _) ?_ ?_
    | with_reducible apply State.adcStart_keeps

theorem State.lsnUpdate_keeps {s : State} (b10 : k.blk 10 = false) (b12 : k.blk 12 = false) (h : State.Keeps k s0 s) (a1 : Nat) (a2 : Int) (a3 : Nat) :
    State.Keeps k s0 (State.lsnUpdate s a1 a2 a3) := by
  unfold State.lsnUpdate
  repeat' first
    | with_reducible assumption
    | (with_reducible show Fld.Listed _; decide)
    | (show Kept.blk _ _ = false; first | exact b10 | exact b12)
    | with_reducible refine Keeps.ite (P := State.Keeps _ _) ?_ ?_
    | (extract_lets -underBinder +onlyGivenNames x; refine Keeps.cut (k := k) (s0 := s0) (x := x) ?_ ?_ <;> first | (intro _; revert x; intro _ _) | (unfold x; clear x))
    | (extract_lets -underBinder +onlyGivenNames x; unfold x; clear x)
    | with_reducible apply State.setFlag_keeps
    | with_reducible apply State.set_keeps
    | with_reducible apply State.mpptSeen_keeps
    | with_reducible apply State.setLsn_keeps

theorem State.lsnGroupDone_keeps {s : State} (b10 : k.blk 10 = false) (b18 : k.blk 18 = false) (h : State.Keeps k s0 s) (a1 : Nat) (a2 : Nat) :
    State.Keeps k s0 (State.lsnGroupDone s a1 a2) := by
  unfold State.lsnGroupDone
  repeat' first
    | with_reducible assumption
    | (with_reducible show Fld.Listed _; decide)
    | (show Kept.blk _ _ = false; first | exact b10 | exact b18)
    | with_reducible refine Keeps.ite (P := State.Keeps _ _) ?_ ?_
    | (extract_lets -underBinder +onlyGivenNames x; refine Keeps.cut (k := k) (s0 := s0) (x := x) ?_ ?_ <;> first | (intro _; revert x; intro _ _) | (unfold x; clear x))
    | (extract_lets -underBinder +onlyGivenNames x; unfold x; clear x)
    | with_reducible apply State.set_keeps
    | with_reducible apply State.bump_keeps
    | with_reducible apply State.event_keeps
    | (with_reducible refine Keeps.upd (h := ?_); first | with_reducible assumption | with_reducible apply State.bump_keeps | with_reducible apply State.event_keeps | with_reducible apply State.set_keeps | with_reducible refine Keeps.ite (P := State.Keeps _ _) ?_ ?_ | with_reducible refine Keeps.foldl (fun _ _ _ => ?_) ?_)

theorem State.lsnComplete_keeps {s : State} (b10 : k.blk 10 = false) (h : State.Keeps k s0 s) (a1 : Nat) (a2 : Nat) :
    State.Keeps k s0 (State.lsnComplete s a1 a2) := by
  unfold State.lsnComplete
  repeat' first
    | with_reducible assumption
    | (with_reducible show Fld.Listed _; decide)
    | (show Kept.blk _ _ = false; first | exact b10)
    | with_reducible refine Keeps.ite (P := State.Keeps _ _) ?_ ?_
    | (extract_lets -underBinder +onlyGivenNames x; refine Keeps.cut (k := k) (s0 := s0) (x := x) ?_ ?_ <;> first | (intro _; revert x; intro _ _) | (unfold x; clear x))
    | with_reducible apply State.set_keeps
    | with_reducible apply State.setLsn_keeps

theorem State.lsnMiss_keeps {s : State} (b10 : k.blk 10 = false) (h : State.Keeps k s0 s) (a1 : Nat) (a2 : Nat) :
    State.Keeps k s0 (State.lsnMiss s a1 a2) := by
  unfold State.lsnMiss
  repeat' first
    | with_reducible assumption
    | (with_reducible show Fld.Listed _; decide)
    | (show Kept.blk _ _ = false; first | exact b10)
    | with_reducible refine Keeps.ite (P := State.Keeps _ _) ?_ ?_
    | (extract_lets -underBinder +onlyGivenNames x; refine Keeps.cut (k := k) (s0 := s0) (x := x) ?_ ?_ <;> first | (intro _; revert x; intro _ _) | (unfold x; clear x))
    | (extract_lets -underBinder +onlyGivenNames x; unfold x; clear x)
    | with_reducible apply State.set_keeps
    | with_reducible apply State.setLsn_keeps
    | (with_reducible refine Keeps.upd (h := ?_); first | with_reducible assumption | with_reducible apply State.setLsn_keeps | with_reducible apply State.set_keeps | with_reducible refine Keeps.ite (P := State.Keeps _ _) ?_ ?_ | with_reducible refine Keeps.foldl (fun _ _ _ => ?_) ?_)

theorem State.lsnFinish_keeps {s : State} (b10 : k.blk 10 = false) (b18 : k.blk 18 = false) (h : State.Keeps k s0 s) (a1 : Nat) (a2 : Nat) (a3 : Bool) :
    State.Keeps k s0 (State.lsnFinish s a1 a2 a3) := by
  unfold State.lsnFinish
  repeat' first
    | with_reducible assumption
    | with_reducible refine Keeps.ite (P := State.Keeps _ _) ?_ ?_
    | (extract_lets -underBinder +onlyGivenNames x; refine Keeps.cut (k := k) (s0 := s0) (x := x) ?_ ?_ <;> first | (intro _; revert x; intro _ _) | (unfold x; clear x))
    | (extract_lets -underBinder +onlyGivenNames x; unfold x; clear x)
    | with_reducible refine Keeps.foldl (fun _ _ _ => ?_) ?_
    | with_reducible apply State.lsnMiss_keeps
    | with_reducible apply State.lsnComplete_keeps
    | with_reducible apply State.lsnGroupDone_keeps

theorem State.lsnFrame_keeps {s : State} (b10 : k.blk 10 = false) (b12 : k.blk 12 = false) (b18 : k.blk 18 = false) (h : State.Keeps k s0 s) (a1 : Nat) (a2 : Nat) (a3 : Int) (a4 : Int) :
    State.Keeps k s0 (State.lsnFrame s a1 a2 a3 a4) := by
  unfold State.lsnFrame
  repeat' first
    | with_reducible assumption
    | with_reducible refine Keeps.ite (P := State.Keeps _ _) ?_ ?_
    | (extract_lets -underBinder +onlyGivenNames x; refine Keeps.cut (k := k) (s0 := s0) (x := x) ?_ ?_ <;> first | (intro _; revert x; intro _ _) | (unfold x; clear x))
    | (extract_lets -underBinder +onlyGivenNames x; unfold x; clear x)
    | with_reducible refine Keeps.foldl (fun _ _ _ => ?_) ?_
    | with_reducible apply State.lsnUpdate_keeps
    | with_reducible apply State.lsnFinish_keeps

theorem State.lsnNoFrame_keeps {s : State} (b10 : k.blk 10 = false) (b18 : k.blk 18 = false) (h : State.Keeps k s0 s) (a1 : Nat) (a2 : Nat) :
    State.Keeps k s0 (State.lsnNoFrame s a1 a2) := by
  unfold State.lsnNoFrame
  repeat' first
    | with_reducible assumption
    | (with_reducible show Fld.Listed _; decide)
    | (show Kept.blk _ _ = false; first | exact b10 | exact b18)
    | with_reducible refine Keeps.ite (P := State.Keeps _ _) ?_ ?_
    | (extract_lets -underBinder +onlyGivenNames x; refine Keeps.cut (k := k) (s0 := s0) (x := x) ?_ ?_ <;> first | (intro _; revert x; intro _ _) | (unfold x; clear x))
    | with_reducible refine Keeps.foldl (fun _ _ _ => ?_) ?_
    | with_reducible apply State.set_keeps
    | with_reducible apply State.lsnFinish_keeps

theorem State.lsnDrop_keeps {s : State} (b10 : k.blk 10 = false) (b18 : k.blk 18 = false) (h : State.Keeps k s0 s) (a1 : Nat) :
    State.Keeps k s0 (State.lsnDrop s a1) := by
  unfold State.lsnDrop
  repeat' first
    | with_reducible assumption
    | with_reducible refine Keeps.foldl (fun _ _ _ => ?_) ?_
    | with_reducible apply State.lsnFinish_keeps

theorem State.lsnLatch_keeps {s : State} (b10 : k.blk 10 = false) (b18 : k.blk 18 = false) (h : State.Keeps k s0 s) (a1 : Nat) (a2 : Nat) :
    State.Keeps k s0 (State.lsnLatch s a1 a2) := by
  unfold State.lsnLatch
  repeat' first
    | with_reducible assumption
    | with_reducible refine Keeps.ite (P := State.Keeps _ _) ?_ ?_
    | (extract_lets -underBinder +onlyGivenNames x; refine Keeps.cut (k := k) (s0 := s0) (x := x) ?_ ?_ <;> first | (intro _; revert x; intro _ _) | (unfold x; clear x))
    | (extract_lets -underBinder +onlyGivenNames x; unfold x; clear x)
    | with_reducible refine Keeps.foldl (fun _ _ _ => ?_) ?_
    | with_reducible apply State.setLsn_keeps
    | with_reducible apply State.lsnFinish_keeps

theorem State.lsnSwitch_keeps {s : State} (b10 : k.blk 10 = false) (b18 : k.blk 18 = false) (h : State.Keeps k s0 s) (a1 : Nat) (a2 : Bool) :
    State.Keeps k s0 (State.lsnSwitch s a1 a2) := by
  unfold State.lsnSwitch
  repeat' first
    | with_reducible assumption
    | with_reducible refine Keeps.ite (P := State.Keeps _ _) ?_ ?_
    | (extract_lets -underBinder +onlyGivenNames x; refine Keeps.cut (k := k) (s0 := s0) (x := x) ?_ ?_ <;> first | (intro _; revert x; intro _ _) | (unfold x; clear x))
    | (extract_lets -underBinder +onlyGivenNames x; unfold x; clear x)
    | with_reducible refine Keeps.foldl (fun _ _ _ => ?_) ?_
    | with_reducible apply State.lsnDrop_keeps
    | with_reducible apply State.setLsn_keeps

theorem State.writeLsnCtrl_keeps {s : State} (hresp : k.resp = false) (b10 : k.blk 10 = false) (b18 : k.blk 18 = false) (h : State.Keeps k s0 s) (a1 : Acc) (a2 : Nat) :
    State.Keeps k s0 (State.writeLsnCtrl s a1 a2) := by
  unfold State.writeLsnCtrl
  repeat' first
    | with_reducible assumption
    | with_reducible refine Keeps.ite (P := State.Keeps _ _) ?_ ?_
    | with_reducible apply State.busErr_keeps
    | with_reducible apply State.ok_keeps
    | with_reducible apply State.lsnSwitch_keeps

theorem execAdcSoftwareStart_keeps {s : State} (hresp : k.resp = false) (b9 : k.blk 9 = false) (b18 : k.blk 18 = false) (h : State.Keeps k s0 s) (a0 : Acc) (a1 : Fin 16) :
    OutKeeps k s0 (execAdcSoftwareStart a0 a1 s) := by
  unfold execAdcSoftwareStart
  repeat' first
    | with_reducible assumption
    | refine OutKeeps.next ?_
    | with_reducible apply State.touch_keeps
    | with_reducible apply State.writeAdcCtrl_keeps

theorem execAdctrgEdge_keeps {s : State} (b9 : k.blk 9 = false) (b18 : k.blk 18 = false) (h : State.Keeps k s0 s) (a0 : Nat) (a1 : Fin 4) (a2 : Bool) :
    OutKeeps k s0 (execAdctrgEdge a0 a1 a2 s) := by
  unfold execAdctrgEdge
  repeat' first
    | with_reducible assumption
    | refine OutKeeps.next ?_
    | with_reducible apply State.touch_keeps
    | with_reducible apply State.adcTrigger_keeps

theorem execAdcConversionDone_keeps {s : State} (hmem : k.mem = false) (b9 : k.blk 9 = false) (b12 : k.blk 12 = false) (b18 : k.blk 18 = false) (h : State.Keeps k s0 s) (a0 : Nat) (a1 : Fin 16) (a2 : BitVec 16) (a3 : Trim) (a4 : Trim) (a5 : Option Bool) :
    OutKeeps k s0 (execAdcConversionDone a0 a1 a2 a3 a4 a5 s) := by
  unfold execAdcConversionDone
  repeat' first
    | with_reducible assumption
    | (show Kept.blk _ _ = false; first | exact b9 | exact b12 | exact b18)
    | refine OutKeeps.next ?_
    | with_reducible apply State.adcDone_keeps
    | with_reducible apply State.touch_keeps

theorem execAdcCoreEnable_keeps {s : State} (hresp : k.resp = false) (b9 : k.blk 9 = false) (b18 : k.blk 18 = false) (h : State.Keeps k s0 s) (a0 : Acc) (a1 : Fin 16) :
    OutKeeps k s0 (execAdcCoreEnable a0 a1 s) := by
  unfold execAdcCoreEnable
  repeat' first
    | with_reducible assumption
    | refine OutKeeps.next ?_
    | with_reducible apply State.touch_keeps
    | with_reducible apply State.writeAdcCtrl_keeps

theorem execAdcCoreDisable_keeps {s : State} (hresp : k.resp = false) (b9 : k.blk 9 = false) (b18 : k.blk 18 = false) (h : State.Keeps k s0 s) (a0 : Acc) (a1 : Fin 16) :
    OutKeeps k s0 (execAdcCoreDisable a0 a1 s) := by
  unfold execAdcCoreDisable
  repeat' first
    | with_reducible assumption
    | refine OutKeeps.next ?_
    | with_reducible apply State.touch_keeps
    | with_reducible apply State.writeAdcCtrl_keeps

theorem execAdcDmaRdWrite_keeps {s : State} (hmem : k.mem = false) (hresp : k.resp = false) (b9 : k.blk 9 = false) (b18 : k.blk 18 = false) (h : State.Keeps k s0 s) (a0 : Acc) (a1 : Fin 16) (a2 : Word) :
    OutKeeps k s0 (execAdcDmaRdWrite a0 a1 a2 s) := by
  unfold execAdcDmaRdWrite
  repeat' first
    | with_reducible assumption
    | refine OutKeeps.next ?_
    | with_reducible apply State.touch_keeps
    | with_reducible apply State.writeAdcRd_keeps

theorem execAdcFifoDataRead_keeps {s : State} (hlatch : k.latch = false) (hresp : k.resp = false) (b9 : k.blk 9 = false) (h : State.Keeps k s0 s) (a0 : Acc) (a1 : Fin 16) :
    OutKeeps k s0 (execAdcFifoDataRead a0 a1 s) := by
  unfold execAdcFifoDataRead
  repeat' first
    | with_reducible assumption
    | refine OutKeeps.next ?_
    | with_reducible apply State.touch_keeps
    | with_reducible apply State.readAdcFifo_keeps

theorem execLsnEnable_keeps {s : State} (hresp : k.resp = false) (b10 : k.blk 10 = false) (b18 : k.blk 18 = false) (h : State.Keeps k s0 s) (a0 : Acc) (a1 : Fin 32) (a2 : Fin 256) :
    OutKeeps k s0 (execLsnEnable a0 a1 a2 s) := by
  unfold execLsnEnable
  repeat' first
    | with_reducible assumption
    | refine OutKeeps.next ?_
    | with_reducible apply State.touch_keeps
    | with_reducible apply State.writeLsnCtrl_keeps

theorem execLsnDisable_keeps {s : State} (hresp : k.resp = false) (b10 : k.blk 10 = false) (b18 : k.blk 18 = false) (h : State.Keeps k s0 s) (a0 : Acc) (a1 : Fin 32) (a2 : Fin 256) :
    OutKeeps k s0 (execLsnDisable a0 a1 a2 s) := by
  unfold execLsnDisable
  repeat' first
    | with_reducible assumption
    | refine OutKeeps.next ?_
    | with_reducible apply State.touch_keeps
    | with_reducible apply State.writeLsnCtrl_keeps

end Sys2Proof.Machine
end

