-- ==== Sys2Proof/Laws/Keeps/Edge.lean ====
section
/-!
SUPPORT. Sys2Proof/Laws/Keeps/Edge.lean: what each operation of Machine/Edge.lean keeps.
-/

set_option Elab.async false

namespace Sys2Proof.Machine

set_option linter.tactic.unusedName false

variable {k : Kept} {s0 : State}

theorem State.scheduleStart_keeps {s : State} (b5 : k.blk 5 = false) (h : State.Keeps k s0 s) (a1 : Nat) :
    State.Keeps k s0 (State.scheduleStart s a1) := by
  unfold State.scheduleStart
  repeat' first
    | with_reducible assumption
    | (extract_lets -underBinder +onlyGivenNames x; unfold x; clear x)
    | with_reducible apply State.setConv_keeps
    | split

theorem State.commitSet_keeps {s : State} (b5 : k.blk 5 = false) (h : State.Keeps k s0 s) (a1 : Nat) (a2 : Nat) (a3 : PatSet) :
    State.Keeps k s0 (State.commitSet s a1 a2 a3) := by
  unfold State.commitSet
  repeat' first
    | with_reducible assumption
    | (with_reducible show Fld.Listed _; decide)
    | (show Kept.blk _ _ = false; first | exact b5)
    | with_reducible refine Keeps.ite (P := State.Keeps _ _) ?_ ?_
    | (extract_lets -underBinder +onlyGivenNames x; refine Keeps.cut (k := k) (s0 := s0) (x := x) ?_ ?_ <;> first | (intro _; revert x; intro _ _) | (unfold x; clear x))
    | (extract_lets -underBinder +onlyGivenNames x; unfold x; clear x)
    | with_reducible apply State.set_keeps
    | with_reducible apply State.bump_keeps
    | with_reducible apply State.setConv_keeps
    | split

theorem State.convCommit_keeps {s : State} (b5 : k.blk 5 = false) (h : State.Keeps k s0 s) (a1 : Nat) (a2 : Nat) :
    State.Keeps k s0 (State.convCommit s a1 a2) := by
  unfold State.convCommit
  repeat' first
    | with_reducible assumption
    | (show Kept.blk _ _ = false; first | exact b5)
    | with_reducible apply State.commitSet_keeps

theorem State.takeSet_keeps {s : State} (b5 : k.blk 5 = false) (h : State.Keeps k s0 s) (a1 : Nat) (a2 : Nat) :
    State.Keeps k s0 (State.takeSet s a1 a2).1 := by
  unfold State.takeSet
  repeat' first
    | with_reducible assumption
    | (with_reducible show Fld.Listed _; decide)
    | (show Kept.blk _ _ = false; first | exact b5)
    | with_reducible refine Keeps.ite (P := State.Keeps _ _) ?_ ?_
    | (extract_lets -underBinder +onlyGivenNames x; unfold x; clear x)
    | with_reducible apply State.setConv_keeps
    | with_reducible apply State.set_keeps
    | with_reducible apply State.bump_keeps
    | split

theorem State.placePattern_keeps {s : State} (b6 : k.blk 6 = false) (h : State.Keeps k s0 s) (a1 : Nat) (a2 : Nat) (a3 : Nat) (a4 : PatSet) :
    State.Keeps k s0 (State.placePattern s a1 a2 a3 a4) := by
  unfold State.placePattern
  repeat' first
    | with_reducible assumption
    | with_reducible refine Keeps.ite (P := State.Keeps _ _) ?_ ?_
    | (extract_lets -underBinder +onlyGivenNames x; unfold x; clear x)
    | with_reducible refine Keeps.foldl (fun _ _ _ => ?_) ?_
    | with_reducible apply State.setBus_keeps

theorem State.cutOutLegs_keeps {s : State} (b6 : k.blk 6 = false) (h : State.Keeps k s0 s) (a1 : Nat) :
    State.Keeps k s0 (State.cutOutLegs s a1) := by
  unfold State.cutOutLegs
  repeat' first
    | with_reducible assumption
    | (extract_lets -underBinder +onlyGivenNames x; unfold x; clear x)
    | with_reducible apply State.sendSafe_keeps

theorem State.buildPeriod_keeps {s : State} (b5 : k.blk 5 = false) (b6 : k.blk 6 = false) (h : State.Keeps k s0 s) (a1 : Nat) (a2 : Nat) (a3 : Nat) (a4 : Nat) (a5 : PatSet) :
    State.Keeps k s0 (State.buildPeriod s a1 a2 a3 a4 a5) := by
  unfold State.buildPeriod
  repeat' first
    | with_reducible assumption
    | (with_reducible show Fld.Listed _; decide)
    | (show Kept.blk _ _ = false; first | exact b5 | exact b6)
    | with_reducible refine Keeps.ite (P := State.Keeps _ _) ?_ ?_
    | (extract_lets -underBinder +onlyGivenNames x; refine Keeps.cut (k := k) (s0 := s0) (x := x) ?_ ?_ <;> first | (intro _; revert x; intro _ _) | (unfold x; clear x))
    | (extract_lets -underBinder +onlyGivenNames x; unfold x; clear x)
    | with_reducible apply State.set_keeps
    | with_reducible apply State.cutOutLegs_keeps
    | with_reducible apply State.placePattern_keeps
    | with_reducible apply State.setConv_keeps

theorem State.cutoff_keeps {s : State} (b5 : k.blk 5 = false) (b6 : k.blk 6 = false) (h : State.Keeps k s0 s) (a1 : Nat) (a2 : Nat) :
    State.Keeps k s0 (State.cutoff s a1 a2) := by
  unfold State.cutoff
  repeat' first
    | with_reducible assumption
    | (show Kept.blk _ _ = false; first | exact b5 | exact b6)
    | with_reducible refine Keeps.ite (P := State.Keeps _ _) ?_ ?_
    | (extract_lets -underBinder +onlyGivenNames x; refine Keeps.cut (k := k) (s0 := s0) (x := x) ?_ ?_ <;> first | (intro _; revert x; intro _ _) | (unfold x; clear x))
    | (extract_lets -underBinder +onlyGivenNames x; unfold x; clear x)
    | with_reducible apply State.scheduleStart_keeps
    | with_reducible apply State.takeSet_keeps
    | with_reducible apply State.setConv_keeps
    | with_reducible apply State.buildPeriod_keeps
    | split
    | with_reducible refine Keeps.fst (by assumption) ?_

theorem State.edgeRequest_keeps {s : State} (b5 : k.blk 5 = false) (b6 : k.blk 6 = false) (h : State.Keeps k s0 s) (a1 : Nat) (a2 : Nat) :
    State.Keeps k s0 (State.edgeRequest s a1 a2) := by
  unfold State.edgeRequest
  repeat' first
    | with_reducible assumption
    | (with_reducible show Fld.Listed _; decide)
    | (show Kept.blk _ _ = false; first | exact b5 | exact b6)
    | with_reducible refine Keeps.ite (P := State.Keeps _ _) ?_ ?_
    | (extract_lets -underBinder +onlyGivenNames x; unfold x; clear x)
    | with_reducible refine Keeps.foldl (fun _ _ _ => ?_) ?_
    | with_reducible apply State.set_keeps
    | with_reducible apply State.takeSet_keeps
    | with_reducible apply State.buildPeriod_keeps
    | split
    | with_reducible refine Keeps.fst (by assumption) ?_

theorem State.drainEnd_keeps {s : State} (b5 : k.blk 5 = false) (b6 : k.blk 6 = false) (h : State.Keeps k s0 s) (a1 : Nat) :
    State.Keeps k s0 (State.drainEnd s a1) := by
  unfold State.drainEnd
  repeat' first
    | with_reducible assumption
    | (show Kept.blk _ _ = false; first | exact b5 | exact b6)
    | with_reducible refine Keeps.ite (P := State.Keeps _ _) ?_ ?_
    | (extract_lets -underBinder +onlyGivenNames x; refine Keeps.cut (k := k) (s0 := s0) (x := x) ?_ ?_ <;> first | (intro _; revert x; intro _ _) | (unfold x; clear x))
    | (extract_lets -underBinder +onlyGivenNames x; unfold x; clear x)
    | with_reducible apply State.setConv_keeps
    | with_reducible apply State.cnvGo_keeps
    | with_reducible apply State.convEnable_keeps

theorem State.beginPeriod_keeps {s : State} (b5 : k.blk 5 = false) (h : State.Keeps k s0 s) (a1 : Nat) (a2 : Period) (a3 : List Period) :
    State.Keeps k s0 (State.beginPeriod s a1 a2 a3) := by
  unfold State.beginPeriod
  repeat' first
    | with_reducible assumption
    | (with_reducible show Fld.Listed _; decide)
    | (show Kept.blk _ _ = false; first | exact b5)
    | (extract_lets -underBinder +onlyGivenNames x; refine Keeps.cut (k := k) (s0 := s0) (x := x) ?_ ?_ <;> first | (intro _; revert x; intro _ _) | (unfold x; clear x))
    | (extract_lets -underBinder +onlyGivenNames x; unfold x; clear x)
    | with_reducible apply State.setConv_keeps
    | with_reducible apply State.setFlag_keeps
    | with_reducible apply State.inc_keeps
    | with_reducible apply State.set64_keeps
    | with_reducible apply State.cnvGo_keeps

theorem State.boundary_keeps {s : State} (b5 : k.blk 5 = false) (b6 : k.blk 6 = false) (h : State.Keeps k s0 s) (a1 : Nat) :
    State.Keeps k s0 (State.boundary s a1) := by
  unfold State.boundary
  repeat' first
    | with_reducible assumption
    | (with_reducible show Fld.Listed _; decide)
    | (show Kept.blk _ _ = false; first | exact b5 | exact b6)
    | with_reducible refine Keeps.ite (P := State.Keeps _ _) ?_ ?_
    | (extract_lets -underBinder +onlyGivenNames x; unfold x; clear x)
    | with_reducible apply State.drainEnd_keeps
    | with_reducible apply State.setConv_keeps
    | with_reducible apply State.set_keeps
    | with_reducible apply State.sendSafe_keeps
    | with_reducible apply State.beginPeriod_keeps
    | split

theorem State.clrTrip_keeps {s : State} (b5 : k.blk 5 = false) (h : State.Keeps k s0 s) (a1 : Nat) :
    State.Keeps k s0 (State.clrTrip s a1) := by
  unfold State.clrTrip
  repeat' first
    | with_reducible assumption
    | (with_reducible show Fld.Listed _; decide)
    | (show Kept.blk _ _ = false; first | exact b5)
    | with_reducible refine Keeps.ite (P := State.Keeps _ _) ?_ ?_
    | with_reducible apply State.set_keeps
    | with_reducible apply State.convReleased_keeps

theorem State.writeCnvCtrl_keeps {s : State} (hresp : k.resp = false) (b5 : k.blk 5 = false) (b6 : k.blk 6 = false) (h : State.Keeps k s0 s) (a1 : Acc) (a2 : Nat) (a3 : Nat) :
    State.Keeps k s0 (State.writeCnvCtrl s a1 a2 a3) := by
  unfold State.writeCnvCtrl
  repeat' first
    | with_reducible assumption
    | with_reducible refine Keeps.ite (P := State.Keeps _ _) ?_ ?_
    | (extract_lets -underBinder +onlyGivenNames x; refine Keeps.cut (k := k) (s0 := s0) (x := x) ?_ ?_ <;> first | (intro _; revert x; intro _ _) | (unfold x; clear x))
    | with_reducible apply State.busErr_keeps
    | with_reducible apply State.clrTrip_keeps
    | with_reducible apply State.convDisableNow_keeps
    | with_reducible apply State.convDisable_keeps
    | with_reducible apply State.convEnable_keeps
    | with_reducible apply State.ok_keeps

theorem State.forceBuilt_keeps {s : State} (b5 : k.blk 5 = false) (b6 : k.blk 6 = false) (h : State.Keeps k s0 s) (a1 : Nat) (a2 : Nat) :
    State.Keeps k s0 (State.forceBuilt s a1 a2) := by
  unfold State.forceBuilt
  repeat' first
    | with_reducible assumption
    | (show Kept.blk _ _ = false; first | exact b5 | exact b6)
    | (extract_lets -underBinder +onlyGivenNames x; refine Keeps.cut (k := k) (s0 := s0) (x := x) ?_ ?_ <;> first | (intro _; revert x; intro _ _) | (unfold x; clear x))
    | (extract_lets -underBinder +onlyGivenNames x; unfold x; clear x)
    | with_reducible refine Keeps.foldl (fun _ _ _ => ?_) ?_
    | with_reducible apply State.setConv_keeps
    | with_reducible apply State.placePattern_keeps

theorem State.writeCnvForce_keeps {s : State} (hresp : k.resp = false) (b5 : k.blk 5 = false) (b6 : k.blk 6 = false) (h : State.Keeps k s0 s) (a1 : Acc) (a2 : Nat) (a3 : Nat) :
    State.Keeps k s0 (State.writeCnvForce s a1 a2 a3) := by
  unfold State.writeCnvForce
  repeat' first
    | with_reducible assumption
    | (with_reducible show Fld.Listed _; decide)
    | (show Kept.blk _ _ = false; first | exact b5 | exact b6)
    | with_reducible refine Keeps.ite (P := State.Keeps _ _) ?_ ?_
    | (extract_lets -underBinder +onlyGivenNames x; refine Keeps.cut (k := k) (s0 := s0) (x := x) ?_ ?_ <;> first | (intro _; revert x; intro _ _) | (unfold x; clear x))
    | (extract_lets -underBinder +onlyGivenNames x; unfold x; clear x)
    | with_reducible apply State.busErr_keeps
    | with_reducible apply State.setConv_keeps
    | with_reducible apply State.ok_keeps
    | with_reducible apply State.set_keeps
    | with_reducible apply State.forceBuilt_keeps

theorem State.writeCnvCommit_keeps {s : State} (hresp : k.resp = false) (b5 : k.blk 5 = false) (h : State.Keeps k s0 s) (a1 : Acc) (a2 : Nat) (a3 : Nat) :
    State.Keeps k s0 (State.writeCnvCommit s a1 a2 a3) := by
  unfold State.writeCnvCommit
  repeat' first
    | with_reducible assumption
    | with_reducible refine Keeps.ite (P := State.Keeps _ _) ?_ ?_
    | with_reducible apply State.busErr_keeps
    | with_reducible apply State.ok_keeps
    | with_reducible apply State.scheduleStart_keeps
    | with_reducible apply State.convCommit_keeps

theorem State.locCommitSet_keeps {s : State} (b5 : k.blk 5 = false) (h : State.Keeps k s0 s) (a1 : Nat) (a2 : Nat) (a3 : PatSet) :
    State.Keeps k s0 (State.locCommitSet s a1 a2 a3) := by
  unfold State.locCommitSet
  repeat' first
    | with_reducible assumption
    | (show Kept.blk _ _ = false; first | exact b5)
    | with_reducible refine Keeps.ite (P := State.Keeps _ _) ?_ ?_
    | (extract_lets -underBinder +onlyGivenNames x; unfold x; clear x)
    | with_reducible apply State.setLoc_keeps
    | split

theorem State.locStart_keeps {s : State} (b5 : k.blk 5 = false) (h : State.Keeps k s0 s) (a1 : Nat) :
    State.Keeps k s0 (State.locStart s a1) := by
  unfold State.locStart
  repeat' first
    | with_reducible assumption
    | (show Kept.blk _ _ = false; first | exact b5)
    | (extract_lets -underBinder +onlyGivenNames x; unfold x; clear x)
    | with_reducible apply State.setLoc_keeps
    | split

theorem State.locCommit_keeps {s : State} (b5 : k.blk 5 = false) (h : State.Keeps k s0 s) (a1 : Nat) (a2 : Nat) :
    State.Keeps k s0 (State.locCommit s a1 a2) := by
  unfold State.locCommit
  repeat' first
    | with_reducible assumption
    | (show Kept.blk _ _ = false; first | exact b5)
    | with_reducible apply State.locStart_keeps
    | with_reducible apply State.locCommitSet_keeps

theorem State.locPlace_keeps {s : State} (b5 : k.blk 5 = false) (b11 : k.blk 11 = false) (h : State.Keeps k s0 s) (a1 : Nat) (a2 : Nat) (a3 : Nat) (a4 : PatSet) (a5 : Bool) :
    State.Keeps k s0 (State.locPlace s a1 a2 a3 a4 a5) := by
  unfold State.locPlace
  repeat' first
    | with_reducible assumption
    | (show Kept.blk _ _ = false; first | exact b5 | exact b11)
    | with_reducible refine Keeps.ite (P := State.Keeps _ _) ?_ ?_
    | (extract_lets -underBinder +onlyGivenNames x; refine Keeps.cut (k := k) (s0 := s0) (x := x) ?_ ?_ <;> first | (intro _; revert x; intro _ _) | (unfold x; clear x))
    | (extract_lets -underBinder +onlyGivenNames x; unfold x; clear x)
    | with_reducible apply State.rampsStart_keeps
    | with_reducible apply State.rampsEnd_keeps
    | with_reducible apply State.setLoc_keeps

theorem State.locDrainEnd_keeps {s : State} (b5 : k.blk 5 = false) (b11 : k.blk 11 = false) (h : State.Keeps k s0 s) (a1 : Nat) :
    State.Keeps k s0 (State.locDrainEnd s a1) := by
  unfold State.locDrainEnd
  repeat' first
    | with_reducible assumption
    | (show Kept.blk _ _ = false; first | exact b5 | exact b11)
    | with_reducible refine Keeps.ite (P := State.Keeps _ _) ?_ ?_
    | (extract_lets -underBinder +onlyGivenNames x; refine Keeps.cut (k := k) (s0 := s0) (x := x) ?_ ?_ <;> first | (intro _; revert x; intro _ _) | (unfold x; clear x))
    | (extract_lets -underBinder +onlyGivenNames x; unfold x; clear x)
    | with_reducible apply State.setLoc_keeps
    | with_reducible apply State.rampsEnd_keeps
    | with_reducible apply State.locEnable_keeps

theorem State.locBoundary_keeps {s : State} (b5 : k.blk 5 = false) (b11 : k.blk 11 = false) (h : State.Keeps k s0 s) (a1 : Nat) (a2 : Nat) :
    State.Keeps k s0 (State.locBoundary s a1 a2) := by
  unfold State.locBoundary
  repeat' first
    | with_reducible assumption
    | (show Kept.blk _ _ = false; first | exact b5 | exact b11)
    | with_reducible refine Keeps.ite (P := State.Keeps _ _) ?_ ?_
    | (extract_lets -underBinder +onlyGivenNames x; refine Keeps.cut (k := k) (s0 := s0) (x := x) ?_ ?_ <;> first | (intro _; revert x; intro _ _) | (unfold x; clear x))
    | (extract_lets -underBinder +onlyGivenNames x; unfold x; clear x)
    | with_reducible apply State.locStart_keeps
    | with_reducible apply State.locDrainEnd_keeps
    | with_reducible apply State.setLoc_keeps
    | with_reducible apply State.rampsEnd_keeps
    | with_reducible apply State.locPlace_keeps
    | split

theorem State.locRequest_keeps {s : State} (b5 : k.blk 5 = false) (b11 : k.blk 11 = false) (h : State.Keeps k s0 s) (a1 : Nat) (a2 : Nat) :
    State.Keeps k s0 (State.locRequest s a1 a2) := by
  unfold State.locRequest
  repeat' first
    | with_reducible assumption
    | (show Kept.blk _ _ = false; first | exact b5 | exact b11)
    | with_reducible refine Keeps.ite (P := State.Keeps _ _) ?_ ?_
    | (extract_lets -underBinder +onlyGivenNames x; unfold x; clear x)
    | with_reducible apply State.locPlace_keeps
    | split

theorem State.locClrTrip_keeps {s : State} (b5 : k.blk 5 = false) (h : State.Keeps k s0 s) (a1 : Nat) :
    State.Keeps k s0 (State.locClrTrip s a1) := by
  unfold State.locClrTrip
  repeat' first
    | with_reducible assumption
    | (extract_lets -underBinder +onlyGivenNames x; unfold x; clear x)
    | with_reducible apply State.locReleased_keeps
    | with_reducible apply State.setLoc_keeps

theorem State.writeLocCtrl_keeps {s : State} (hresp : k.resp = false) (b5 : k.blk 5 = false) (b11 : k.blk 11 = false) (h : State.Keeps k s0 s) (a1 : Acc) (a2 : Nat) (a3 : Nat) :
    State.Keeps k s0 (State.writeLocCtrl s a1 a2 a3) := by
  unfold State.writeLocCtrl
  repeat' first
    | with_reducible assumption
    | with_reducible refine Keeps.ite (P := State.Keeps _ _) ?_ ?_
    | (extract_lets -underBinder +onlyGivenNames x; refine Keeps.cut (k := k) (s0 := s0) (x := x) ?_ ?_ <;> first | (intro _; revert x; intro _ _) | (unfold x; clear x))
    | with_reducible apply State.busErr_keeps
    | with_reducible apply State.locClrTrip_keeps
    | with_reducible apply State.locDisableNow_keeps
    | with_reducible apply State.locDisable_keeps
    | with_reducible apply State.locEnable_keeps
    | with_reducible apply State.locCommit_keeps
    | with_reducible apply State.ok_keeps

theorem State.writeLocForce_keeps {s : State} (hresp : k.resp = false) (b5 : k.blk 5 = false) (h : State.Keeps k s0 s) (a1 : Acc) (a2 : Nat) (a3 : Nat) :
    State.Keeps k s0 (State.writeLocForce s a1 a2 a3) := by
  unfold State.writeLocForce
  repeat' first
    | with_reducible assumption
    | (with_reducible show Fld.Listed _; decide)
    | (show Kept.blk _ _ = false; first | exact b5)
    | with_reducible refine Keeps.ite (P := State.Keeps _ _) ?_ ?_
    | (extract_lets -underBinder +onlyGivenNames x; refine Keeps.cut (k := k) (s0 := s0) (x := x) ?_ ?_ <;> first | (intro _; revert x; intro _ _) | (unfold x; clear x))
    | (extract_lets -underBinder +onlyGivenNames x; unfold x; clear x)
    | with_reducible apply State.set_keeps
    | with_reducible apply State.busErr_keeps
    | with_reducible apply State.ok_keeps
    | with_reducible apply State.setLoc_keeps

theorem State.tripChange_keeps {s : State} (b5 : k.blk 5 = false) (h : State.Keeps k s0 s) (a1 : Nat) (a2 : Nat) (a3 : Bool) :
    State.Keeps k s0 (State.tripChange s a1 a2 a3) := by
  unfold State.tripChange
  repeat' first
    | with_reducible assumption
    | (with_reducible show Fld.Listed _; decide)
    | (show Kept.blk _ _ = false; first | exact b5)
    | with_reducible refine Keeps.ite (P := State.Keeps _ _) ?_ ?_
    | with_reducible apply State.setTrip_keeps
    | with_reducible apply State.setFlag_keeps

theorem State.tripConv_keeps {s : State} (b5 : k.blk 5 = false) (b6 : k.blk 6 = false) (h : State.Keeps k s0 s) (a1 : Nat) (a2 : Nat) :
    State.Keeps k s0 (State.tripConv s a1 a2) := by
  unfold State.tripConv
  repeat' first
    | with_reducible assumption
    | (with_reducible show Fld.Listed _; decide)
    | (show Kept.blk _ _ = false; first | exact b5 | exact b6)
    | (extract_lets -underBinder +onlyGivenNames x; refine Keeps.cut (k := k) (s0 := s0) (x := x) ?_ ?_ <;> first | (intro _; revert x; intro _ _) | (unfold x; clear x))
    | with_reducible apply State.set_keeps
    | with_reducible apply State.setBitOf_keeps
    | with_reducible apply State.convSafe_keeps

theorem State.tripLoc_keeps {s : State} (b5 : k.blk 5 = false) (b11 : k.blk 11 = false) (h : State.Keeps k s0 s) (a1 : Nat) (a2 : Nat) :
    State.Keeps k s0 (State.tripLoc s a1 a2) := by
  unfold State.tripLoc
  repeat' first
    | with_reducible assumption
    | (extract_lets -underBinder +onlyGivenNames x; refine Keeps.cut (k := k) (s0 := s0) (x := x) ?_ ?_ <;> first | (intro _; revert x; intro _ _) | (unfold x; clear x))
    | (extract_lets -underBinder +onlyGivenNames x; unfold x; clear x)
    | with_reducible apply State.locSafe_keeps
    | with_reducible apply State.setLoc_keeps

theorem State.tripAssert_keeps {s : State} (b5 : k.blk 5 = false) (b6 : k.blk 6 = false) (b11 : k.blk 11 = false) (b18 : k.blk 18 = false) (b20 : k.blk 20 = false) (b22 : k.blk 22 = false) (h : State.Keeps k s0 s) (a1 : Nat) (a2 : Nat) :
    State.Keeps k s0 (State.tripAssert s a1 a2) := by
  unfold State.tripAssert
  repeat' first
    | with_reducible assumption
    | (with_reducible show Fld.Listed _; decide)
    | (show Kept.blk _ _ = false; first | exact b5 | exact b6 | exact b11 | exact b18 | exact b20 | exact b22)
    | with_reducible refine Keeps.ite (P := State.Keeps _ _) ?_ ?_
    | (extract_lets -underBinder +onlyGivenNames x; refine Keeps.cut (k := k) (s0 := s0) (x := x) ?_ ?_ <;> first | (intro _; revert x; intro _ _) | (unfold x; clear x))
    | (extract_lets -underBinder +onlyGivenNames x; unfold x; clear x)
    | with_reducible refine Keeps.foldl (fun _ _ _ => ?_) ?_
    | with_reducible apply State.setTrip_keeps
    | with_reducible apply State.bump_keeps
    | with_reducible apply State.set_keeps
    | with_reducible apply State.tripConv_keeps
    | with_reducible apply State.tripLoc_keeps
    | with_reducible apply State.fault_keeps

theorem execEdgCnvCommit_keeps {s : State} (hresp : k.resp = false) (b5 : k.blk 5 = false) (h : State.Keeps k s0 s) (a0 : Acc) (a1 : Fin 256) :
    OutKeeps k s0 (execEdgCnvCommit a0 a1 s) := by
  unfold execEdgCnvCommit
  repeat' first
    | with_reducible assumption
    | refine OutKeeps.next ?_
    | with_reducible apply State.touch_keeps
    | with_reducible apply State.writeCnvCommit_keeps

theorem execConverterCutoff_keeps {s : State} (b5 : k.blk 5 = false) (b6 : k.blk 6 = false) (h : State.Keeps k s0 s) (a0 : Nat) (a1 : Fin 256) :
    OutKeeps k s0 (execConverterCutoff a0 a1 s) := by
  unfold execConverterCutoff
  repeat' first
    | with_reducible assumption
    | refine OutKeeps.next ?_
    | with_reducible apply State.touch_keeps
    | with_reducible apply State.cutoff_keeps

theorem execCnvEnable_keeps {s : State} (hresp : k.resp = false) (b5 : k.blk 5 = false) (b6 : k.blk 6 = false) (h : State.Keeps k s0 s) (a0 : Acc) (a1 : Fin 256) :
    OutKeeps k s0 (execCnvEnable a0 a1 s) := by
  unfold execCnvEnable
  repeat' first
    | with_reducible assumption
    | refine OutKeeps.next ?_
    | with_reducible apply State.touch_keeps
    | with_reducible apply State.writeCnvCtrl_keeps

theorem execCnvDisable_keeps {s : State} (hresp : k.resp = false) (b5 : k.blk 5 = false) (b6 : k.blk 6 = false) (h : State.Keeps k s0 s) (a0 : Acc) (a1 : Fin 256) :
    OutKeeps k s0 (execCnvDisable a0 a1 s) := by
  unfold execCnvDisable
  repeat' first
    | with_reducible assumption
    | refine OutKeeps.next ?_
    | with_reducible apply State.touch_keeps
    | with_reducible apply State.writeCnvCtrl_keeps

theorem execCnvDisableImmediate_keeps {s : State} (hresp : k.resp = false) (b5 : k.blk 5 = false) (b6 : k.blk 6 = false) (h : State.Keeps k s0 s) (a0 : Acc) (a1 : Fin 256) :
    OutKeeps k s0 (execCnvDisableImmediate a0 a1 s) := by
  unfold execCnvDisableImmediate
  repeat' first
    | with_reducible assumption
    | refine OutKeeps.next ?_
    | with_reducible apply State.touch_keeps
    | with_reducible apply State.writeCnvCtrl_keeps

theorem execCnvClrtrip_keeps {s : State} (hresp : k.resp = false) (b5 : k.blk 5 = false) (b6 : k.blk 6 = false) (h : State.Keeps k s0 s) (a0 : Acc) (a1 : Fin 256) :
    OutKeeps k s0 (execCnvClrtrip a0 a1 s) := by
  unfold execCnvClrtrip
  repeat' first
    | with_reducible assumption
    | refine OutKeeps.next ?_
    | with_reducible apply State.touch_keeps
    | with_reducible apply State.writeCnvCtrl_keeps

theorem execCnvForceWrite_keeps {s : State} (hresp : k.resp = false) (b5 : k.blk 5 = false) (b6 : k.blk 6 = false) (h : State.Keeps k s0 s) (a0 : Acc) (a1 : Fin 256) (a2 : Word) :
    OutKeeps k s0 (execCnvForceWrite a0 a1 a2 s) := by
  unfold execCnvForceWrite
  repeat' first
    | with_reducible assumption
    | refine OutKeeps.next ?_
    | with_reducible apply State.touch_keeps
    | with_reducible apply State.writeCnvForce_keeps

theorem execLocCommit_keeps {s : State} (hresp : k.resp = false) (b5 : k.blk 5 = false) (b11 : k.blk 11 = false) (h : State.Keeps k s0 s) (a0 : Acc) (a1 : Fin 32) :
    OutKeeps k s0 (execLocCommit a0 a1 s) := by
  unfold execLocCommit
  repeat' first
    | with_reducible assumption
    | refine OutKeeps.next ?_
    | with_reducible apply State.touch_keeps
    | with_reducible apply State.writeLocCtrl_keeps

theorem execLocalOutputBoundary_keeps {s : State} (b5 : k.blk 5 = false) (b11 : k.blk 11 = false) (h : State.Keeps k s0 s) (a0 : Nat) (a1 : Fin 32) :
    OutKeeps k s0 (execLocalOutputBoundary a0 a1 s) := by
  unfold execLocalOutputBoundary
  repeat' first
    | with_reducible assumption
    | refine OutKeeps.next ?_
    | with_reducible apply State.touch_keeps
    | with_reducible apply State.locBoundary_keeps

theorem execLocEnable_keeps {s : State} (hresp : k.resp = false) (b5 : k.blk 5 = false) (b11 : k.blk 11 = false) (h : State.Keeps k s0 s) (a0 : Acc) (a1 : Fin 32) :
    OutKeeps k s0 (execLocEnable a0 a1 s) := by
  unfold execLocEnable
  repeat' first
    | with_reducible assumption
    | refine OutKeeps.next ?_
    | with_reducible apply State.touch_keeps
    | with_reducible apply State.writeLocCtrl_keeps

theorem execLocDisable_keeps {s : State} (hresp : k.resp = false) (b5 : k.blk 5 = false) (b11 : k.blk 11 = false) (h : State.Keeps k s0 s) (a0 : Acc) (a1 : Fin 32) :
    OutKeeps k s0 (execLocDisable a0 a1 s) := by
  unfold execLocDisable
  repeat' first
    | with_reducible assumption
    | refine OutKeeps.next ?_
    | with_reducible apply State.touch_keeps
    | with_reducible apply State.writeLocCtrl_keeps

theorem execLocDisableImmediate_keeps {s : State} (hresp : k.resp = false) (b5 : k.blk 5 = false) (b11 : k.blk 11 = false) (h : State.Keeps k s0 s) (a0 : Acc) (a1 : Fin 32) :
    OutKeeps k s0 (execLocDisableImmediate a0 a1 s) := by
  unfold execLocDisableImmediate
  repeat' first
    | with_reducible assumption
    | refine OutKeeps.next ?_
    | with_reducible apply State.touch_keeps
    | with_reducible apply State.writeLocCtrl_keeps

theorem execLocClrtrip_keeps {s : State} (hresp : k.resp = false) (b5 : k.blk 5 = false) (b11 : k.blk 11 = false) (h : State.Keeps k s0 s) (a0 : Acc) (a1 : Fin 32) :
    OutKeeps k s0 (execLocClrtrip a0 a1 s) := by
  unfold execLocClrtrip
  repeat' first
    | with_reducible assumption
    | refine OutKeeps.next ?_
    | with_reducible apply State.touch_keeps
    | with_reducible apply State.writeLocCtrl_keeps

theorem execLocForceWrite_keeps {s : State} (hresp : k.resp = false) (b5 : k.blk 5 = false) (h : State.Keeps k s0 s) (a0 : Acc) (a1 : Fin 32) (a2 : Word) :
    OutKeeps k s0 (execLocForceWrite a0 a1 a2 s) := by
  unfold execLocForceWrite
  repeat' first
    | with_reducible assumption
    | refine OutKeeps.next ?_
    | with_reducible apply State.touch_keeps
    | with_reducible apply State.writeLocForce_keeps

theorem execTripInputChange_keeps {s : State} (b5 : k.blk 5 = false) (h : State.Keeps k s0 s) (a0 : Nat) (a1 : Fin 16) (a2 : Bool) :
    OutKeeps k s0 (execTripInputChange a0 a1 a2 s) := by
  unfold execTripInputChange
  repeat' first
    | with_reducible assumption
    | refine OutKeeps.next ?_
    | with_reducible apply State.touch_keeps
    | with_reducible apply State.tripChange_keeps

theorem execTripAsserted_keeps {s : State} (b5 : k.blk 5 = false) (b6 : k.blk 6 = false) (b11 : k.blk 11 = false) (b18 : k.blk 18 = false) (b20 : k.blk 20 = false) (b22 : k.blk 22 = false) (h : State.Keeps k s0 s) (a0 : Nat) (a1 : Fin 16) :
    OutKeeps k s0 (execTripAsserted a0 a1 s) := by
  unfold execTripAsserted
  repeat' first
    | with_reducible assumption
    | refine OutKeeps.next ?_
    | with_reducible apply State.touch_keeps
    | with_reducible apply State.tripAssert_keeps

end Sys2Proof.Machine
end

