-- ==== Sys2Proof/Laws/Keeps/FanLoop.lean ====
section
/-!
SUPPORT. Sys2Proof/Laws/Keeps/FanLoop.lean: what each operation of Machine/FanLoop.lean keeps.
-/

set_option Elab.async false

namespace Sys2Proof.Machine

set_option linter.tactic.unusedName false

variable {k : Kept} {s0 : State}

theorem State.fanGo_keeps {s : State} (b15 : k.blk 15 = false) (h : State.Keeps k s0 s) (a1 : Nat) (a2 : Nat) :
    State.Keeps k s0 (State.fanGo s a1 a2) := by
  unfold State.fanGo
  repeat' first
    | with_reducible assumption
    | (with_reducible show Fld.Listed _; decide)
    | (show Kept.blk _ _ = false; first | exact b15)
    | with_reducible apply State.set_keeps

theorem State.fanEvent_keeps {s : State} (b18 : k.blk 18 = false) (h : State.Keeps k s0 s) (a1 : Fld) (a2 : Nat) (l1 : a1.Listed) (m1 : k.blk a1.block = false) :
    State.Keeps k s0 (State.fanEvent s a1 a2) := by
  unfold State.fanEvent
  repeat' first
    | with_reducible assumption
    | with_reducible apply State.event_keeps

theorem State.fanAttempt_keeps {s : State} (b15 : k.blk 15 = false) (h : State.Keeps k s0 s) (a1 : Nat) (a2 : Nat) (a3 : Nat) :
    State.Keeps k s0 (State.fanAttempt s a1 a2 a3) := by
  unfold State.fanAttempt
  repeat' first
    | with_reducible assumption
    | (with_reducible show Fld.Listed _; decide)
    | (show Kept.blk _ _ = false; first | exact b15)
    | (extract_lets -underBinder +onlyGivenNames x; refine Keeps.cut (k := k) (s0 := s0) (x := x) ?_ ?_ <;> first | (intro _; revert x; intro _ _) | (unfold x; clear x))
    | (extract_lets -underBinder +onlyGivenNames x; unfold x; clear x)
    | with_reducible apply State.set_keeps
    | with_reducible apply State.setFan_keeps
    | with_reducible apply State.fanGo_keeps

theorem State.fanStart_keeps {s : State} (b15 : k.blk 15 = false) (h : State.Keeps k s0 s) (a1 : Nat) (a2 : Nat) :
    State.Keeps k s0 (State.fanStart s a1 a2) := by
  unfold State.fanStart
  repeat' first
    | with_reducible assumption
    | with_reducible refine Keeps.ite (P := State.Keeps _ _) ?_ ?_
    | (extract_lets -underBinder +onlyGivenNames x; unfold x; clear x)
    | with_reducible apply State.setFan_keeps
    | with_reducible apply State.fanAttempt_keeps

theorem State.fanSample_keeps {s : State} (b15 : k.blk 15 = false) (h : State.Keeps k s0 s) (a1 : Nat) (a2 : Nat) (a3 : Nat) :
    State.Keeps k s0 (State.fanSample s a1 a2 a3) := by
  unfold State.fanSample
  repeat' first
    | with_reducible assumption
    | (with_reducible show Fld.Listed _; decide)
    | (show Kept.blk _ _ = false; first | exact b15)
    | (extract_lets -underBinder +onlyGivenNames x; unfold x; clear x)
    | with_reducible apply State.setFan_keeps
    | with_reducible apply State.set_keeps

theorem State.fanPeriod_keeps {s : State} (b15 : k.blk 15 = false) (b18 : k.blk 18 = false) (h : State.Keeps k s0 s) (a1 : Nat) (a2 : Nat) (a3 : Nat) :
    State.Keeps k s0 (State.fanPeriod s a1 a2 a3) := by
  unfold State.fanPeriod
  repeat' first
    | with_reducible assumption
    | (with_reducible show Fld.Listed _; decide)
    | (show Kept.blk _ _ = false; first | exact b15 | exact b18)
    | with_reducible refine Keeps.ite (P := State.Keeps _ _) ?_ ?_
    | (extract_lets -underBinder +onlyGivenNames x; refine Keeps.cut (k := k) (s0 := s0) (x := x) ?_ ?_ <;> first | (intro _; revert x; intro _ _) | (unfold x; clear x))
    | (extract_lets -underBinder +onlyGivenNames x; unfold x; clear x)
    | with_reducible apply State.fanSample_keeps
    | with_reducible apply State.fanGo_keeps
    | with_reducible apply State.setFan_keeps
    | with_reducible apply State.set_keeps
    | with_reducible apply State.fanStart_keeps
    | with_reducible apply State.nextFree_keeps
    | with_reducible apply State.fanEvent_keeps

theorem State.fanEdge_keeps {s : State} (b15 : k.blk 15 = false) (h : State.Keeps k s0 s) (a1 : Nat) (a2 : Nat) :
    State.Keeps k s0 (State.fanEdge s a1 a2) := by
  unfold State.fanEdge
  repeat' first
    | with_reducible assumption
    | (with_reducible show Fld.Listed _; decide)
    | (show Kept.blk _ _ = false; first | exact b15)
    | with_reducible refine Keeps.ite (P := State.Keeps _ _) ?_ ?_
    | (extract_lets -underBinder +onlyGivenNames x; unfold x; clear x)
    | with_reducible apply State.set_keeps
    | with_reducible apply State.setFan_keeps
    | with_reducible apply State.nextFree_keeps

theorem State.fanKickEnd_keeps {s : State} (b15 : k.blk 15 = false) (h : State.Keeps k s0 s) (a1 : Nat) (a2 : Nat) :
    State.Keeps k s0 (State.fanKickEnd s a1 a2) := by
  unfold State.fanKickEnd
  repeat' first
    | with_reducible assumption
    | with_reducible refine Keeps.ite (P := State.Keeps _ _) ?_ ?_
    | with_reducible apply State.setFan_keeps

theorem State.fanCheck_keeps {s : State} (b15 : k.blk 15 = false) (b18 : k.blk 18 = false) (h : State.Keeps k s0 s) (a1 : Nat) (a2 : Nat) :
    State.Keeps k s0 (State.fanCheck s a1 a2) := by
  unfold State.fanCheck
  repeat' first
    | with_reducible assumption
    | (with_reducible show Fld.Listed _; decide)
    | (show Kept.blk _ _ = false; first | exact b15 | exact b18)
    | with_reducible refine Keeps.ite (P := State.Keeps _ _) ?_ ?_
    | with_reducible apply State.fanGo_keeps
    | with_reducible apply State.setFan_keeps
    | with_reducible apply State.bump_keeps
    | with_reducible apply State.fanEvent_keeps

theorem State.fanRetryEnd_keeps {s : State} (b15 : k.blk 15 = false) (h : State.Keeps k s0 s) (a1 : Nat) (a2 : Nat) :
    State.Keeps k s0 (State.fanRetryEnd s a1 a2) := by
  unfold State.fanRetryEnd
  repeat' first
    | with_reducible assumption
    | with_reducible refine Keeps.ite (P := State.Keeps _ _) ?_ ?_
    | with_reducible apply State.fanAttempt_keeps

theorem State.fanJudge_keeps {s : State} (b5 : k.blk 5 = false) (b6 : k.blk 6 = false) (b15 : k.blk 15 = false) (b18 : k.blk 18 = false) (b20 : k.blk 20 = false) (b22 : k.blk 22 = false) (h : State.Keeps k s0 s) (a1 : Nat) (a2 : Nat) (a3 : Nat) :
    State.Keeps k s0 (State.fanJudge s a1 a2 a3) := by
  unfold State.fanJudge
  repeat' first
    | with_reducible assumption
    | (with_reducible show Fld.Listed _; decide)
    | (show Kept.blk _ _ = false; first | exact b5 | exact b6 | exact b15 | exact b18 | exact b20 | exact b22)
    | with_reducible refine Keeps.ite (P := State.Keeps _ _) ?_ ?_
    | (extract_lets -underBinder +onlyGivenNames x; refine Keeps.cut (k := k) (s0 := s0) (x := x) ?_ ?_ <;> first | (intro _; revert x; intro _ _) | (unfold x; clear x))
    | (extract_lets -underBinder +onlyGivenNames x; unfold x; clear x)
    | with_reducible apply State.fanSample_keeps
    | with_reducible apply State.setFan_keeps
    | with_reducible apply State.faultF2_keeps
    | with_reducible apply State.fanGo_keeps
    | with_reducible apply State.set_keeps
    | with_reducible apply State.fanEvent_keeps
    | with_reducible apply State.bump_keeps

theorem State.fanRegained_keeps {s : State} (b15 : k.blk 15 = false) (h : State.Keeps k s0 s) (a1 : Nat) (a2 : Nat) :
    State.Keeps k s0 (State.fanRegained s a1 a2) := by
  unfold State.fanRegained
  repeat' first
    | with_reducible assumption
    | (with_reducible show Fld.Listed _; decide)
    | (show Kept.blk _ _ = false; first | exact b15)
    | with_reducible refine Keeps.ite (P := State.Keeps _ _) ?_ ?_
    | with_reducible apply State.set_keeps
    | with_reducible apply State.fanGo_keeps
    | split

theorem State.fanClear_keeps {s : State} (b15 : k.blk 15 = false) (h : State.Keeps k s0 s) (a1 : Nat) (a2 : Nat) :
    State.Keeps k s0 (State.fanClear s a1 a2) := by
  unfold State.fanClear
  repeat' first
    | with_reducible assumption
    | with_reducible refine Keeps.ite (P := State.Keeps _ _) ?_ ?_
    | (extract_lets -underBinder +onlyGivenNames x; unfold x; clear x)
    | with_reducible apply State.fanGo_keeps
    | with_reducible apply State.setFan_keeps
    | with_reducible apply State.fanAttempt_keeps

theorem State.fanDisable_keeps {s : State} (b15 : k.blk 15 = false) (h : State.Keeps k s0 s) (a1 : Nat) :
    State.Keeps k s0 (State.fanDisable s a1) := by
  unfold State.fanDisable
  repeat' first
    | with_reducible assumption
    | (with_reducible show Fld.Listed _; decide)
    | (show Kept.blk _ _ = false; first | exact b15)
    | with_reducible refine Keeps.ite (P := State.Keeps _ _) ?_ ?_
    | (extract_lets -underBinder +onlyGivenNames x; unfold x; clear x)
    | with_reducible apply State.set_keeps
    | with_reducible apply State.setFan_keeps
    | with_reducible apply State.fanGo_keeps

theorem State.fanDisableNow_keeps {s : State} (b15 : k.blk 15 = false) (h : State.Keeps k s0 s) (a1 : Nat) :
    State.Keeps k s0 (State.fanDisableNow s a1) := by
  unfold State.fanDisableNow
  repeat' first
    | with_reducible assumption
    | (with_reducible show Fld.Listed _; decide)
    | (show Kept.blk _ _ = false; first | exact b15)
    | with_reducible refine Keeps.ite (P := State.Keeps _ _) ?_ ?_
    | (extract_lets -underBinder +onlyGivenNames x; unfold x; clear x)
    | with_reducible apply State.set_keeps
    | with_reducible apply State.setFan_keeps
    | with_reducible apply State.fanGo_keeps

theorem State.writeFanCtrl_keeps {s : State} (hresp : k.resp = false) (b15 : k.blk 15 = false) (h : State.Keeps k s0 s) (a1 : Acc) (a2 : Nat) (a3 : Nat) :
    State.Keeps k s0 (State.writeFanCtrl s a1 a2 a3) := by
  unfold State.writeFanCtrl
  repeat' first
    | with_reducible assumption
    | with_reducible refine Keeps.ite (P := State.Keeps _ _) ?_ ?_
    | (extract_lets -underBinder +onlyGivenNames x; refine Keeps.cut (k := k) (s0 := s0) (x := x) ?_ ?_ <;> first | (intro _; revert x; intro _ _) | (unfold x; clear x))
    | with_reducible apply State.busErr_keeps
    | with_reducible apply State.fanClear_keeps
    | with_reducible apply State.fanDisableNow_keeps
    | with_reducible apply State.fanDisable_keeps
    | with_reducible apply State.fanStart_keeps
    | with_reducible apply State.ok_keeps

theorem State.writeFanDuty_keeps {s : State} (hresp : k.resp = false) (b15 : k.blk 15 = false) (h : State.Keeps k s0 s) (a1 : Acc) (a2 : Nat) (a3 : Nat) :
    State.Keeps k s0 (State.writeFanDuty s a1 a2 a3) := by
  unfold State.writeFanDuty
  repeat' first
    | with_reducible assumption
    | (with_reducible show Fld.Listed _; decide)
    | (show Kept.blk _ _ = false; first | exact b15)
    | with_reducible refine Keeps.ite (P := State.Keeps _ _) ?_ ?_
    | with_reducible apply State.set_keeps
    | with_reducible apply State.busErr_keeps
    | with_reducible apply State.ok_keeps

theorem State.lpGo_keeps {s : State} (b15 : k.blk 15 = false) (b18 : k.blk 18 = false) (h : State.Keeps k s0 s) (a1 : Nat) (a2 : Nat) :
    State.Keeps k s0 (State.lpGo s a1 a2) := by
  unfold State.lpGo
  repeat' first
    | with_reducible assumption
    | (with_reducible show Fld.Listed _; decide)
    | (show Kept.blk _ _ = false; first | exact b15 | exact b18)
    | with_reducible refine Keeps.ite (P := State.Keeps _ _) ?_ ?_
    | with_reducible apply State.set_keeps
    | with_reducible apply State.raise_keeps

theorem State.lpJudge_keeps {s : State} (b15 : k.blk 15 = false) (b18 : k.blk 18 = false) (h : State.Keeps k s0 s) (a1 : Nat) :
    State.Keeps k s0 (State.lpJudge s a1) := by
  unfold State.lpJudge
  repeat' first
    | with_reducible assumption
    | with_reducible refine Keeps.ite (P := State.Keeps _ _) ?_ ?_
    | (extract_lets -underBinder +onlyGivenNames x; unfold x; clear x)
    | with_reducible apply State.lpGo_keeps

theorem State.lpJudgeAll_keeps {s : State} (b15 : k.blk 15 = false) (b18 : k.blk 18 = false) (h : State.Keeps k s0 s) :
    State.Keeps k s0 (State.lpJudgeAll s) := by
  unfold State.lpJudgeAll
  repeat' first
    | with_reducible assumption
    | with_reducible refine Keeps.foldl (fun _ _ _ => ?_) ?_
    | with_reducible apply State.lpJudge_keeps

theorem State.lpStart_keeps {s : State} (b15 : k.blk 15 = false) (b18 : k.blk 18 = false) (h : State.Keeps k s0 s) (a1 : Nat) :
    State.Keeps k s0 (State.lpStart s a1) := by
  unfold State.lpStart
  repeat' first
    | with_reducible assumption
    | (with_reducible show Fld.Listed _; decide)
    | (show Kept.blk _ _ = false; first | exact b15 | exact b18)
    | with_reducible refine Keeps.ite (P := State.Keeps _ _) ?_ ?_
    | (extract_lets -underBinder +onlyGivenNames x; refine Keeps.cut (k := k) (s0 := s0) (x := x) ?_ ?_ <;> first | (intro _; revert x; intro _ _) | (unfold x; clear x))
    | (extract_lets -underBinder +onlyGivenNames x; unfold x; clear x)
    | with_reducible apply State.set_keeps
    | with_reducible apply State.setLp_keeps
    | with_reducible apply State.lpJudge_keeps
    | with_reducible apply State.lpGo_keeps

theorem State.lpEvent_keeps {s : State} (b18 : k.blk 18 = false) (h : State.Keeps k s0 s) (a1 : Fld) (a2 : Nat) (l1 : a1.Listed) (m1 : k.blk a1.block = false) :
    State.Keeps k s0 (State.lpEvent s a1 a2) := by
  unfold State.lpEvent
  repeat' first
    | with_reducible assumption
    | with_reducible apply State.event_keeps

theorem State.lpHeadroom_keeps {s : State} (b15 : k.blk 15 = false) (b18 : k.blk 18 = false) (h : State.Keeps k s0 s) (a1 : Nat) (a2 : Int) :
    State.Keeps k s0 (State.lpHeadroom s a1 a2) := by
  unfold State.lpHeadroom
  repeat' first
    | with_reducible assumption
    | (with_reducible show Fld.Listed _; decide)
    | (show Kept.blk _ _ = false; first | exact b15 | exact b18)
    | with_reducible refine Keeps.ite (P := State.Keeps _ _) ?_ ?_
    | with_reducible apply State.set_keeps
    | with_reducible apply State.setLp_keeps
    | with_reducible apply State.lpEvent_keeps
    | with_reducible apply State.bump_keeps

theorem State.lpMismatch_keeps {s : State} (b15 : k.blk 15 = false) (b18 : k.blk 18 = false) (h : State.Keeps k s0 s) (a1 : Nat) (a2 : Nat) :
    State.Keeps k s0 (State.lpMismatch s a1 a2) := by
  unfold State.lpMismatch
  repeat' first
    | with_reducible assumption
    | (with_reducible show Fld.Listed _; decide)
    | (show Kept.blk _ _ = false; first | exact b15 | exact b18)
    | with_reducible refine Keeps.ite (P := State.Keeps _ _) ?_ ?_
    | with_reducible apply State.set_keeps
    | with_reducible apply State.setLp_keeps
    | with_reducible apply State.lpEvent_keeps
    | with_reducible apply State.bump_keeps

theorem State.lpSample_keeps {s : State} (b15 : k.blk 15 = false) (b18 : k.blk 18 = false) (h : State.Keeps k s0 s) (a1 : Nat) (a2 : Nat) (a3 : Nat) :
    State.Keeps k s0 (State.lpSample s a1 a2 a3) := by
  unfold State.lpSample
  repeat' first
    | with_reducible assumption
    | (with_reducible show Fld.Listed _; decide)
    | (show Kept.blk _ _ = false; first | exact b15 | exact b18)
    | with_reducible refine Keeps.ite (P := State.Keeps _ _) ?_ ?_
    | (extract_lets -underBinder +onlyGivenNames x; refine Keeps.cut (k := k) (s0 := s0) (x := x) ?_ ?_ <;> first | (intro _; revert x; intro _ _) | (unfold x; clear x))
    | (extract_lets -underBinder +onlyGivenNames x; unfold x; clear x)
    | with_reducible apply State.set_keeps
    | with_reducible apply State.nextFree_keeps
    | with_reducible apply State.lpMismatch_keeps
    | with_reducible apply State.lpHeadroom_keeps
    | with_reducible apply State.lpGo_keeps
    | with_reducible apply State.setLp_keeps
    | with_reducible apply State.lpStart_keeps

theorem State.writeLoopCtrl_keeps {s : State} (hresp : k.resp = false) (b15 : k.blk 15 = false) (b18 : k.blk 18 = false) (h : State.Keeps k s0 s) (a1 : Acc) (a2 : Nat) (a3 : Nat) :
    State.Keeps k s0 (State.writeLoopCtrl s a1 a2 a3) := by
  unfold State.writeLoopCtrl
  repeat' first
    | with_reducible assumption
    | with_reducible refine Keeps.ite (P := State.Keeps _ _) ?_ ?_
    | (extract_lets -underBinder +onlyGivenNames x; refine Keeps.cut (k := k) (s0 := s0) (x := x) ?_ ?_ <;> first | (intro _; revert x; intro _ _) | (unfold x; clear x))
    | (extract_lets -underBinder +onlyGivenNames x; unfold x; clear x)
    | with_reducible apply State.busErr_keeps
    | with_reducible apply State.lpJudge_keeps
    | with_reducible apply State.setLp_keeps
    | with_reducible apply State.lpGo_keeps
    | with_reducible apply State.lpStart_keeps
    | with_reducible apply State.ok_keeps

theorem State.writeLoopCode_keeps {s : State} (hresp : k.resp = false) (b15 : k.blk 15 = false) (h : State.Keeps k s0 s) (a1 : Acc) (a2 : Nat) (a3 : Nat) :
    State.Keeps k s0 (State.writeLoopCode s a1 a2 a3) := by
  unfold State.writeLoopCode
  repeat' first
    | with_reducible assumption
    | (with_reducible show Fld.Listed _; decide)
    | (show Kept.blk _ _ = false; first | exact b15)
    | with_reducible refine Keeps.ite (P := State.Keeps _ _) ?_ ?_
    | with_reducible apply State.set_keeps
    | with_reducible apply State.busErr_keeps
    | with_reducible apply State.ok_keeps

theorem State.lpDisable_keeps {s : State} (b15 : k.blk 15 = false) (b18 : k.blk 18 = false) (h : State.Keeps k s0 s) (a1 : Nat) :
    State.Keeps k s0 (State.lpDisable s a1) := by
  unfold State.lpDisable
  repeat' first
    | with_reducible assumption
    | with_reducible refine Keeps.ite (P := State.Keeps _ _) ?_ ?_
    | with_reducible apply State.lpGo_keeps

theorem execFanPeriodStart_keeps {s : State} (b15 : k.blk 15 = false) (b18 : k.blk 18 = false) (h : State.Keeps k s0 s) (a0 : Nat) (a1 : Fin 8) (a2 : Fin 1024) :
    OutKeeps k s0 (execFanPeriodStart a0 a1 a2 s) := by
  unfold execFanPeriodStart
  repeat' first
    | with_reducible assumption
    | refine OutKeeps.next ?_
    | with_reducible apply State.touch_keeps
    | with_reducible apply State.fanPeriod_keeps

theorem execFantachEdge_keeps {s : State} (b15 : k.blk 15 = false) (h : State.Keeps k s0 s) (a0 : Nat) (a1 : Fin 8) :
    OutKeeps k s0 (execFantachEdge a0 a1 s) := by
  unfold execFantachEdge
  repeat' first
    | with_reducible assumption
    | refine OutKeeps.next ?_
    | with_reducible apply State.touch_keeps
    | with_reducible apply State.fanEdge_keeps

theorem execFanKickEnd_keeps {s : State} (b15 : k.blk 15 = false) (h : State.Keeps k s0 s) (a0 : Nat) (a1 : Fin 8) :
    OutKeeps k s0 (execFanKickEnd a0 a1 s) := by
  unfold execFanKickEnd
  repeat' first
    | with_reducible assumption
    | refine OutKeeps.next ?_
    | with_reducible apply State.touch_keeps
    | with_reducible apply State.fanKickEnd_keeps

theorem execFanStartCheck_keeps {s : State} (b15 : k.blk 15 = false) (b18 : k.blk 18 = false) (h : State.Keeps k s0 s) (a0 : Nat) (a1 : Fin 8) :
    OutKeeps k s0 (execFanStartCheck a0 a1 s) := by
  unfold execFanStartCheck
  repeat' first
    | with_reducible assumption
    | refine OutKeeps.next ?_
    | with_reducible apply State.touch_keeps
    | with_reducible apply State.fanCheck_keeps

theorem execFanRetryEnd_keeps {s : State} (b15 : k.blk 15 = false) (h : State.Keeps k s0 s) (a0 : Nat) (a1 : Fin 8) :
    OutKeeps k s0 (execFanRetryEnd a0 a1 s) := by
  unfold execFanRetryEnd
  repeat' first
    | with_reducible assumption
    | refine OutKeeps.next ?_
    | with_reducible apply State.touch_keeps
    | with_reducible apply State.fanRetryEnd_keeps

theorem execFanTachMissing_keeps {s : State} (b5 : k.blk 5 = false) (b6 : k.blk 6 = false) (b15 : k.blk 15 = false) (b18 : k.blk 18 = false) (b20 : k.blk 20 = false) (b22 : k.blk 22 = false) (h : State.Keeps k s0 s) (a0 : Nat) (a1 : Fin 8) (a2 : Fin 1024) :
    OutKeeps k s0 (execFanTachMissing a0 a1 a2 s) := by
  unfold execFanTachMissing
  repeat' first
    | with_reducible assumption
    | (show Kept.blk _ _ = false; first | exact b5 | exact b6 | exact b15 | exact b18 | exact b20 | exact b22)
    | refine OutKeeps.next ?_
    | with_reducible apply State.fanJudge_keeps
    | with_reducible apply State.touch_keeps

theorem execFanTachRegained_keeps {s : State} (b15 : k.blk 15 = false) (h : State.Keeps k s0 s) (a0 : Nat) (a1 : Fin 8) :
    OutKeeps k s0 (execFanTachRegained a0 a1 s) := by
  unfold execFanTachRegained
  repeat' first
    | with_reducible assumption
    | refine OutKeeps.next ?_
    | with_reducible apply State.touch_keeps
    | with_reducible apply State.fanRegained_keeps

theorem execFanEnable_keeps {s : State} (hresp : k.resp = false) (b15 : k.blk 15 = false) (h : State.Keeps k s0 s) (a0 : Acc) (a1 : Fin 8) :
    OutKeeps k s0 (execFanEnable a0 a1 s) := by
  unfold execFanEnable
  repeat' first
    | with_reducible assumption
    | refine OutKeeps.next ?_
    | with_reducible apply State.touch_keeps
    | with_reducible apply State.writeFanCtrl_keeps

theorem execFanDisable_keeps {s : State} (hresp : k.resp = false) (b15 : k.blk 15 = false) (h : State.Keeps k s0 s) (a0 : Acc) (a1 : Fin 8) :
    OutKeeps k s0 (execFanDisable a0 a1 s) := by
  unfold execFanDisable
  repeat' first
    | with_reducible assumption
    | refine OutKeeps.next ?_
    | with_reducible apply State.touch_keeps
    | with_reducible apply State.writeFanCtrl_keeps

theorem execFanDisableImmediate_keeps {s : State} (hresp : k.resp = false) (b15 : k.blk 15 = false) (h : State.Keeps k s0 s) (a0 : Acc) (a1 : Fin 8) :
    OutKeeps k s0 (execFanDisableImmediate a0 a1 s) := by
  unfold execFanDisableImmediate
  repeat' first
    | with_reducible assumption
    | refine OutKeeps.next ?_
    | with_reducible apply State.touch_keeps
    | with_reducible apply State.writeFanCtrl_keeps

theorem execFanClrfault_keeps {s : State} (hresp : k.resp = false) (b15 : k.blk 15 = false) (h : State.Keeps k s0 s) (a0 : Acc) (a1 : Fin 8) :
    OutKeeps k s0 (execFanClrfault a0 a1 s) := by
  unfold execFanClrfault
  repeat' first
    | with_reducible assumption
    | refine OutKeeps.next ?_
    | with_reducible apply State.touch_keeps
    | with_reducible apply State.writeFanCtrl_keeps

theorem execLoopSample_keeps {s : State} (b15 : k.blk 15 = false) (b18 : k.blk 18 = false) (h : State.Keeps k s0 s) (a0 : Nat) (a1 : Fin 4) (a2 : Fin 65536) (a3 : Nat) :
    OutKeeps k s0 (execLoopSample a0 a1 a2 a3 s) := by
  unfold execLoopSample
  repeat' first
    | with_reducible assumption
    | (show Kept.blk _ _ = false; first | exact b15 | exact b18)
    | refine OutKeeps.next ?_
    | with_reducible apply State.lpSample_keeps
    | with_reducible apply State.touch_keeps

theorem execLoopEnable_keeps {s : State} (hresp : k.resp = false) (b15 : k.blk 15 = false) (b18 : k.blk 18 = false) (h : State.Keeps k s0 s) (a0 : Acc) (a1 : Fin 4) :
    OutKeeps k s0 (execLoopEnable a0 a1 s) := by
  unfold execLoopEnable
  repeat' first
    | with_reducible assumption
    | refine OutKeeps.next ?_
    | with_reducible apply State.touch_keeps
    | with_reducible apply State.writeLoopCtrl_keeps

theorem execLoopDisable_keeps {s : State} (hresp : k.resp = false) (b15 : k.blk 15 = false) (b18 : k.blk 18 = false) (h : State.Keeps k s0 s) (a0 : Acc) (a1 : Fin 4) :
    OutKeeps k s0 (execLoopDisable a0 a1 s) := by
  unfold execLoopDisable
  repeat' first
    | with_reducible assumption
    | refine OutKeeps.next ?_
    | with_reducible apply State.touch_keeps
    | with_reducible apply State.writeLoopCtrl_keeps

theorem execLoopDisableImmediate_keeps {s : State} (hresp : k.resp = false) (b15 : k.blk 15 = false) (b18 : k.blk 18 = false) (h : State.Keeps k s0 s) (a0 : Acc) (a1 : Fin 4) :
    OutKeeps k s0 (execLoopDisableImmediate a0 a1 s) := by
  unfold execLoopDisableImmediate
  repeat' first
    | with_reducible assumption
    | refine OutKeeps.next ?_
    | with_reducible apply State.touch_keeps
    | with_reducible apply State.writeLoopCtrl_keeps

theorem execLoopFault_keeps {s : State} (hresp : k.resp = false) (b15 : k.blk 15 = false) (b18 : k.blk 18 = false) (h : State.Keeps k s0 s) (a0 : Acc) (a1 : Fin 4) :
    OutKeeps k s0 (execLoopFault a0 a1 s) := by
  unfold execLoopFault
  repeat' first
    | with_reducible assumption
    | refine OutKeeps.next ?_
    | with_reducible apply State.touch_keeps
    | with_reducible apply State.writeLoopCtrl_keeps

end Sys2Proof.Machine
end

