-- ==== Sys2Proof/Laws/Keeps/FaultFam.lean ====
section
/-!
SUPPORT. Sys2Proof/Laws/Keeps/FaultFam.lean: what each operation of Machine/FaultFam.lean keeps.
-/

set_option Elab.async false

namespace Sys2Proof.Machine

set_option linter.tactic.unusedName false

variable {k : Kept} {s0 : State}

theorem State.writeCnvClr_keeps {s : State} (hresp : k.resp = false) (b5 : k.blk 5 = false) (b18 : k.blk 18 = false) (b22 : k.blk 22 = false) (h : State.Keeps k s0 s) (a1 : Acc) (a2 : Nat) :
    State.Keeps k s0 (State.writeCnvClr s a1 a2) := by
  unfold State.writeCnvClr
  repeat' first
    | with_reducible assumption
    | (with_reducible show Fld.Listed _; decide)
    | (show Kept.blk _ _ = false; first | exact b5 | exact b18 | exact b22)
    | with_reducible refine Keeps.ite (P := State.Keeps _ _) ?_ ?_
    | with_reducible apply State.set_keeps
    | with_reducible apply State.busErr_keeps
    | with_reducible apply State.ok_keeps
    | with_reducible apply State.convReleased_keeps
    | with_reducible apply State.event_keeps

theorem State.writeSvcCtrl_keeps {s : State} (hresp : k.resp = false) (b6 : k.blk 6 = false) (b22 : k.blk 22 = false) (h : State.Keeps k s0 s) (a1 : Acc) (a2 : Nat) :
    State.Keeps k s0 (State.writeSvcCtrl s a1 a2) := by
  unfold State.writeSvcCtrl
  repeat' first
    | with_reducible assumption
    | (with_reducible show Fld.Listed _; decide)
    | (show Kept.blk _ _ = false; first | exact b6 | exact b22)
    | with_reducible refine Keeps.ite (P := State.Keeps _ _) ?_ ?_
    | (extract_lets -underBinder +onlyGivenNames x; refine Keeps.cut (k := k) (s0 := s0) (x := x) ?_ ?_ <;> first | (intro _; revert x; intro _ _) | (unfold x; clear x))
    | (extract_lets -underBinder +onlyGivenNames x; unfold x; clear x)
    | with_reducible apply State.busErr_keeps
    | with_reducible apply State.ok_keeps
    | with_reducible apply State.setBitOf_keeps
    | with_reducible apply State.sendClear_keeps
    | split

theorem State.autoRelease_keeps {s : State} (b5 : k.blk 5 = false) (b21 : k.blk 21 = false) (b22 : k.blk 22 = false) (h : State.Keeps k s0 s) (a1 : Nat) :
    State.Keeps k s0 (State.autoRelease s a1) := by
  unfold State.autoRelease
  repeat' first
    | with_reducible assumption
    | (with_reducible show Fld.Listed _; decide)
    | (show Kept.blk _ _ = false; first | exact b5 | exact b21 | exact b22)
    | with_reducible refine Keeps.ite (P := State.Keeps _ _) ?_ ?_
    | (extract_lets -underBinder +onlyGivenNames x; refine Keeps.cut (k := k) (s0 := s0) (x := x) ?_ ?_ <;> first | (intro _; revert x; intro _ _) | (unfold x; clear x))
    | (extract_lets -underBinder +onlyGivenNames x; unfold x; clear x)
    | with_reducible refine Keeps.foldl (fun _ _ _ => ?_) ?_
    | with_reducible apply State.set_keeps
    | with_reducible apply State.leaveSafeHold_keeps

theorem execSafeHoldAutoRelease_keeps {s : State} (b5 : k.blk 5 = false) (b21 : k.blk 21 = false) (b22 : k.blk 22 = false) (h : State.Keeps k s0 s) (a0 : Nat) :
    OutKeeps k s0 (execSafeHoldAutoRelease a0 s) := by
  unfold execSafeHoldAutoRelease
  repeat' first
    | with_reducible assumption
    | refine OutKeeps.next ?_
    | with_reducible apply State.touch_keeps
    | with_reducible apply State.autoRelease_keeps

theorem execFltCnvClr_keeps {s : State} (hresp : k.resp = false) (b5 : k.blk 5 = false) (b18 : k.blk 18 = false) (b22 : k.blk 22 = false) (h : State.Keeps k s0 s) (a0 : Acc) (a1 : Fin 256) :
    OutKeeps k s0 (execFltCnvClr a0 a1 s) := by
  unfold execFltCnvClr
  repeat' first
    | with_reducible assumption
    | refine OutKeeps.next ?_
    | with_reducible apply State.touch_keeps
    | with_reducible apply State.writeCnvClr_keeps

theorem execLegOut_keeps {s : State} (hresp : k.resp = false) (b6 : k.blk 6 = false) (b22 : k.blk 22 = false) (h : State.Keeps k s0 s) (a0 : Acc) (a1 : Fin 256) :
    OutKeeps k s0 (execLegOut a0 a1 s) := by
  unfold execLegOut
  repeat' first
    | with_reducible assumption
    | refine OutKeeps.next ?_
    | with_reducible apply State.touch_keeps
    | with_reducible apply State.writeSvcCtrl_keeps

theorem execLegIn_keeps {s : State} (hresp : k.resp = false) (b6 : k.blk 6 = false) (b22 : k.blk 22 = false) (h : State.Keeps k s0 s) (a0 : Acc) (a1 : Fin 256) :
    OutKeeps k s0 (execLegIn a0 a1 s) := by
  unfold execLegIn
  repeat' first
    | with_reducible assumption
    | refine OutKeeps.next ?_
    | with_reducible apply State.touch_keeps
    | with_reducible apply State.writeSvcCtrl_keeps

end Sys2Proof.Machine
end

