-- ==== Sys2Proof/Laws/Keeps/IrqFam.lean ====
section
/-!
SUPPORT. Sys2Proof/Laws/Keeps/IrqFam.lean: what each operation of Machine/IrqFam.lean keeps.
-/

set_option Elab.async false

namespace Sys2Proof.Machine

set_option linter.tactic.unusedName false

variable {k : Kept} {s0 : State}

theorem State.startHold_keeps {s : State} (b18 : k.blk 18 = false) (h : State.Keeps k s0 s) (a1 : Nat) (a2 : Nat) :
    State.Keeps k s0 (State.startHold s a1 a2) := by
  unfold State.startHold
  repeat' first
    | with_reducible assumption
    | (with_reducible show Fld.Listed _; decide)
    | (show Kept.blk _ _ = false; first | exact b18)
    | with_reducible refine Keeps.ite (P := State.Keeps _ _) ?_ ?_
    | (extract_lets -underBinder +onlyGivenNames x; refine Keeps.cut (k := k) (s0 := s0) (x := x) ?_ ?_ <;> first | (intro _; revert x; intro _ _) | (unfold x; clear x))
    | (extract_lets -underBinder +onlyGivenNames x; unfold x; clear x)
    | with_reducible apply State.setBitOf_keeps
    | (with_reducible refine Keeps.upd (h := ?_); first | with_reducible assumption | with_reducible apply State.setBitOf_keeps | with_reducible refine Keeps.ite (P := State.Keeps _ _) ?_ ?_ | with_reducible refine Keeps.foldl (fun _ _ _ => ?_) ?_)

theorem State.takeSource_keeps {s : State} (b18 : k.blk 18 = false) (h : State.Keeps k s0 s) (a1 : Nat) (a2 : Nat) :
    State.Keeps k s0 (State.takeSource s a1 a2) := by
  unfold State.takeSource
  repeat' first
    | with_reducible assumption
    | (with_reducible show Fld.Listed _; decide)
    | (show Kept.blk _ _ = false; first | exact b18)
    | (extract_lets -underBinder +onlyGivenNames x; refine Keeps.cut (k := k) (s0 := s0) (x := x) ?_ ?_ <;> first | (intro _; revert x; intro _ _) | (unfold x; clear x))
    | with_reducible apply State.set_keeps
    | with_reducible apply State.setBitOf_keeps
    | with_reducible apply State.startHold_keeps

theorem State.writeIrq_keeps {s : State} (hresp : k.resp = false) (h : State.Keeps k s0 s) (a1 : Acc) (a2 : Nat) (a3 : Nat) (a4 : State → Nat → State) (g4 : ∀ x y, State.Keeps k s0 x → State.Keeps k s0 (a4 x y)) :
    State.Keeps k s0 (State.writeIrq s a1 a2 a3 a4) := by
  unfold State.writeIrq
  repeat' first
    | with_reducible assumption
    | with_reducible apply g4
    | with_reducible refine Keeps.foldl (fun _ _ _ => ?_) ?_
    | with_reducible apply State.busErr_keeps
    | with_reducible apply State.ok_keeps
    | split

theorem State.writePendSet_keeps {s : State} (hresp : k.resp = false) (b18 : k.blk 18 = false) (h : State.Keeps k s0 s) (a1 : Acc) (a2 : Nat) (a3 : Nat) :
    State.Keeps k s0 (State.writePendSet s a1 a2 a3) := by
  unfold State.writePendSet
  repeat' first
    | with_reducible assumption
    | (intro x y hx; have := (hx : State.Keeps k s0 x))
    | with_reducible apply State.writeIrq_keeps
    | with_reducible apply State.raise_keeps

theorem State.writePendClr_keeps {s : State} (hresp : k.resp = false) (b18 : k.blk 18 = false) (h : State.Keeps k s0 s) (a1 : Acc) (a2 : Nat) (a3 : Nat) :
    State.Keeps k s0 (State.writePendClr s a1 a2 a3) := by
  unfold State.writePendClr
  repeat' first
    | with_reducible assumption
    | (with_reducible show Fld.Listed _; decide)
    | (show Kept.blk _ _ = false; first | exact b18)
    | (intro x y hx; have := (hx : State.Keeps k s0 x))
    | with_reducible apply State.writeIrq_keeps
    | with_reducible apply State.setBitOf_keeps

theorem State.writeEnSet_keeps {s : State} (hresp : k.resp = false) (b18 : k.blk 18 = false) (h : State.Keeps k s0 s) (a1 : Acc) (a2 : Nat) (a3 : Nat) :
    State.Keeps k s0 (State.writeEnSet s a1 a2 a3) := by
  unfold State.writeEnSet
  repeat' first
    | with_reducible assumption
    | (with_reducible show Fld.Listed _; decide)
    | (show Kept.blk _ _ = false; first | exact b18)
    | (intro x y hx; have := (hx : State.Keeps k s0 x))
    | with_reducible apply State.writeIrq_keeps
    | with_reducible apply State.setBitOf_keeps

theorem State.writeEnClr_keeps {s : State} (hresp : k.resp = false) (b18 : k.blk 18 = false) (h : State.Keeps k s0 s) (a1 : Acc) (a2 : Nat) (a3 : Nat) :
    State.Keeps k s0 (State.writeEnClr s a1 a2 a3) := by
  unfold State.writeEnClr
  repeat' first
    | with_reducible assumption
    | (with_reducible show Fld.Listed _; decide)
    | (show Kept.blk _ _ = false; first | exact b18)
    | (intro x y hx; have := (hx : State.Keeps k s0 x))
    | with_reducible apply State.writeIrq_keeps
    | with_reducible apply State.setBitOf_keeps

theorem State.writeDoorbell_keeps {s : State} (hresp : k.resp = false) (b18 : k.blk 18 = false) (h : State.Keeps k s0 s) (a1 : Acc) (a2 : Nat) :
    State.Keeps k s0 (State.writeDoorbell s a1 a2) := by
  unfold State.writeDoorbell
  repeat' first
    | with_reducible assumption
    | (with_reducible show Fld.Listed _; decide)
    | (show Kept.blk _ _ = false; first | exact b18)
    | with_reducible refine Keeps.ite (P := State.Keeps _ _) ?_ ?_
    | (extract_lets -underBinder +onlyGivenNames x; refine Keeps.cut (k := k) (s0 := s0) (x := x) ?_ ?_ <;> first | (intro _; revert x; intro _ _) | (unfold x; clear x))
    | (extract_lets -underBinder +onlyGivenNames x; unfold x; clear x)
    | with_reducible apply State.set_keeps
    | with_reducible apply State.busErr_keeps
    | with_reducible apply State.raise_keeps
    | with_reducible apply State.ok_keeps

theorem State.pinLevel_keeps {s : State} (b18 : k.blk 18 = false) (h : State.Keeps k s0 s) (a1 : Nat) :
    State.Keeps k s0 (State.pinLevel s a1) := by
  unfold State.pinLevel
  repeat' first
    | with_reducible assumption
    | (with_reducible show Fld.Listed _; decide)
    | (show Kept.blk _ _ = false; first | exact b18)
    | with_reducible refine Keeps.ite (P := State.Keeps _ _) ?_ ?_
    | with_reducible apply State.setBitOf_keeps

theorem State.pinFilter_keeps {s : State} (b18 : k.blk 18 = false) (h : State.Keeps k s0 s) (a1 : Nat) (a2 : Bool) :
    State.Keeps k s0 (State.pinFilter s a1 a2) := by
  unfold State.pinFilter
  repeat' first
    | with_reducible assumption
    | (with_reducible show Fld.Listed _; decide)
    | (show Kept.blk _ _ = false; first | exact b18)
    | with_reducible refine Keeps.ite (P := State.Keeps _ _) ?_ ?_
    | (extract_lets -underBinder +onlyGivenNames x; refine Keeps.cut (k := k) (s0 := s0) (x := x) ?_ ?_ <;> first | (intro _; revert x; intro _ _) | (unfold x; clear x))
    | (extract_lets -underBinder +onlyGivenNames x; unfold x; clear x)
    | with_reducible apply State.pinLevel_keeps
    | with_reducible apply State.setFlag_keeps
    | with_reducible apply State.raise_keeps
    | (with_reducible refine Keeps.upd (h := ?_); first | with_reducible assumption | with_reducible apply State.pinLevel_keeps | with_reducible apply State.setFlag_keeps | with_reducible apply State.raise_keeps | with_reducible refine Keeps.ite (P := State.Keeps _ _) ?_ ?_ | with_reducible refine Keeps.foldl (fun _ _ _ => ?_) ?_)

theorem State.pinSample_keeps {s : State} (b18 : k.blk 18 = false) (h : State.Keeps k s0 s) (a1 : Nat) (a2 : Nat) (a3 : Bool) :
    State.Keeps k s0 (State.pinSample s a1 a2 a3) := by
  unfold State.pinSample
  repeat' first
    | with_reducible assumption
    | (show Kept.blk _ _ = false; first | exact b18)
    | with_reducible refine Keeps.ite (P := State.Keeps _ _) ?_ ?_
    | with_reducible apply State.pinFilter_keeps

theorem execIrqHoldoffEnd_keeps {s : State} (b18 : k.blk 18 = false) (h : State.Keeps k s0 s) (a0 : Nat) (a1 : Fin 32) (a2 : Fin 3) :
    OutKeeps k s0 (execIrqHoldoffEnd a0 a1 a2 s) := by
  unfold execIrqHoldoffEnd
  repeat' first
    | with_reducible assumption
    | (with_reducible show Fld.Listed _; decide)
    | (show Kept.blk _ _ = false; first | exact b18)
    | refine OutKeeps.next ?_
    | with_reducible refine Keeps.ite (P := State.Keeps _ _) ?_ ?_
    | with_reducible apply State.touch_keeps
    | with_reducible apply State.setBitOf_keeps

theorem execIrqPendSet_keeps {s : State} (hresp : k.resp = false) (b18 : k.blk 18 = false) (h : State.Keeps k s0 s) (a0 : Acc) (a1 : Fin 32) (a2 : Word) :
    OutKeeps k s0 (execIrqPendSet a0 a1 a2 s) := by
  unfold execIrqPendSet
  repeat' first
    | with_reducible assumption
    | refine OutKeeps.next ?_
    | with_reducible apply State.touch_keeps
    | with_reducible apply State.writePendSet_keeps

theorem execIrqPendClr_keeps {s : State} (hresp : k.resp = false) (b18 : k.blk 18 = false) (h : State.Keeps k s0 s) (a0 : Acc) (a1 : Fin 32) (a2 : Word) :
    OutKeeps k s0 (execIrqPendClr a0 a1 a2 s) := by
  unfold execIrqPendClr
  repeat' first
    | with_reducible assumption
    | refine OutKeeps.next ?_
    | with_reducible apply State.touch_keeps
    | with_reducible apply State.writePendClr_keeps

theorem execIrqEnSet_keeps {s : State} (hresp : k.resp = false) (b18 : k.blk 18 = false) (h : State.Keeps k s0 s) (a0 : Acc) (a1 : Fin 32) (a2 : Word) :
    OutKeeps k s0 (execIrqEnSet a0 a1 a2 s) := by
  unfold execIrqEnSet
  repeat' first
    | with_reducible assumption
    | refine OutKeeps.next ?_
    | with_reducible apply State.touch_keeps
    | with_reducible apply State.writeEnSet_keeps

theorem execIrqEnClr_keeps {s : State} (hresp : k.resp = false) (b18 : k.blk 18 = false) (h : State.Keeps k s0 s) (a0 : Acc) (a1 : Fin 32) (a2 : Word) :
    OutKeeps k s0 (execIrqEnClr a0 a1 a2 s) := by
  unfold execIrqEnClr
  repeat' first
    | with_reducible assumption
    | refine OutKeeps.next ?_
    | with_reducible apply State.touch_keeps
    | with_reducible apply State.writeEnClr_keeps

theorem execIrqDoorbell_keeps {s : State} (hresp : k.resp = false) (b18 : k.blk 18 = false) (h : State.Keeps k s0 s) (a0 : Acc) (a1 : Word) :
    OutKeeps k s0 (execIrqDoorbell a0 a1 s) := by
  unfold execIrqDoorbell
  repeat' first
    | with_reducible assumption
    | refine OutKeeps.next ?_
    | with_reducible apply State.touch_keeps
    | with_reducible apply State.writeDoorbell_keeps

theorem execGpioInputSample_keeps {s : State} (b18 : k.blk 18 = false) (h : State.Keeps k s0 s) (a0 : Nat) (a1 : Fin 32) (a2 : Bool) :
    OutKeeps k s0 (execGpioInputSample a0 a1 a2 s) := by
  unfold execGpioInputSample
  repeat' first
    | with_reducible assumption
    | refine OutKeeps.next ?_
    | with_reducible apply State.touch_keeps
    | with_reducible apply State.pinSample_keeps

end Sys2Proof.Machine
end

