-- ==== Sys2Proof/Laws/Keeps/ModeReq.lean ====
section
/-!
SUPPORT. Sys2Proof/Laws/Keeps/ModeReq.lean: what each operation of Machine/ModeReq.lean keeps.
-/

set_option Elab.async false

namespace Sys2Proof.Machine

set_option linter.tactic.unusedName false

variable {k : Kept} {s0 : State}

theorem State.modeResult_keeps {s : State} (b0 : k.blk 0 = false) (h : State.Keeps k s0 s) (a1 : Nat) (a2 : Nat) (a3 : Nat) :
    State.Keeps k s0 (State.modeResult s a1 a2 a3) := by
  unfold State.modeResult
  repeat' first
    | (extract_lets -underBinder +onlyGivenNames x; unfold x; clear x)
    | (with_reducible refine Keeps.upd (h := ?_); first | with_reducible assumption | with_reducible refine Keeps.ite (P := State.Keeps _ _) ?_ ?_ | with_reducible refine Keeps.foldl (fun _ _ _ => ?_) ?_)

theorem State.predictQuiet_keeps {s : State} (b0 : k.blk 0 = false) (h : State.Keeps k s0 s) (a1 : Nat) :
    State.Keeps k s0 (State.predictQuiet s a1) := by
  unfold State.predictQuiet
  repeat' first
    | with_reducible assumption
    | (extract_lets -underBinder +onlyGivenNames x; unfold x; clear x)
    | (with_reducible refine Keeps.upd (h := ?_); first | with_reducible assumption | with_reducible refine Keeps.ite (P := State.Keeps _ _) ?_ ?_ | with_reducible refine Keeps.foldl (fun _ _ _ => ?_) ?_)
    | split

theorem State.clearPend_keeps {s : State} (b0 : k.blk 0 = false) (h : State.Keeps k s0 s) :
    State.Keeps k s0 (State.clearPend s) := by
  unfold State.clearPend
  repeat' first
    | with_reducible assumption
    | (with_reducible show Fld.Listed _; decide)
    | (show Kept.blk _ _ = false; first | exact b0)
    | (extract_lets -underBinder +onlyGivenNames x; unfold x; clear x)
    | with_reducible apply State.set_keeps
    | (with_reducible refine Keeps.upd (h := ?_); first | with_reducible assumption | with_reducible apply State.set_keeps | with_reducible refine Keeps.ite (P := State.Keeps _ _) ?_ ?_ | with_reducible refine Keeps.foldl (fun _ _ _ => ?_) ?_)

theorem State.cancelPend_keeps {s : State} (b0 : k.blk 0 = false) (b18 : k.blk 18 = false) (b20 : k.blk 20 = false) (h : State.Keeps k s0 s) (a1 : Nat) :
    State.Keeps k s0 (State.cancelPend s a1) := by
  unfold State.cancelPend
  repeat' first
    | with_reducible assumption
    | with_reducible apply State.modeResult_keeps
    | with_reducible apply State.closeOp_keeps
    | with_reducible apply State.clearPend_keeps
    | split

theorem State.modeRequest_keeps {s : State} (b0 : k.blk 0 = false) (b18 : k.blk 18 = false) (b20 : k.blk 20 = false) (h : State.Keeps k s0 s) (a1 : Nat) (a2 : Nat) (a3 : Nat) :
    State.Keeps k s0 (State.modeRequest s a1 a2 a3) := by
  unfold State.modeRequest
  repeat' first
    | with_reducible assumption
    | (with_reducible show Fld.Listed _; decide)
    | (show Kept.blk _ _ = false; first | exact b0 | exact b18 | exact b20)
    | with_reducible refine Keeps.ite (P := State.Keeps _ _) ?_ ?_
    | (extract_lets -underBinder +onlyGivenNames x; refine Keeps.cut (k := k) (s0 := s0) (x := x) ?_ ?_ <;> first | (intro _; revert x; intro _ _) | (unfold x; clear x))
    | (extract_lets -underBinder +onlyGivenNames x; unfold x; clear x)
    | with_reducible apply State.set_keeps
    | with_reducible apply State.openOp_keeps
    | with_reducible apply State.modeResult_keeps
    | with_reducible apply State.closeOpWith_keeps
    | with_reducible apply State.cancelPend_keeps
    | with_reducible apply State.predictQuiet_keeps
    | (with_reducible refine Keeps.upd (h := ?_); first | with_reducible assumption | with_reducible apply State.modeResult_keeps | with_reducible apply State.closeOpWith_keeps | with_reducible apply State.cancelPend_keeps | with_reducible apply State.predictQuiet_keeps | with_reducible apply State.set_keeps | with_reducible refine Keeps.ite (P := State.Keeps _ _) ?_ ?_ | with_reducible refine Keeps.foldl (fun _ _ _ => ?_) ?_)
    | split
    | with_reducible refine Keeps.some (by assumption) ?_

theorem State.modeWithdraw_keeps {s : State} (b0 : k.blk 0 = false) (b18 : k.blk 18 = false) (b20 : k.blk 20 = false) (h : State.Keeps k s0 s) (a1 : Nat) :
    State.Keeps k s0 (State.modeWithdraw s a1) := by
  unfold State.modeWithdraw
  repeat' first
    | with_reducible assumption
    | with_reducible apply State.modeResult_keeps
    | with_reducible apply State.cancelPend_keeps
    | split

theorem State.writeModeReq_keeps {s : State} (hresp : k.resp = false) (b0 : k.blk 0 = false) (b18 : k.blk 18 = false) (b20 : k.blk 20 = false) (h : State.Keeps k s0 s) (a1 : Acc) (a2 : Nat) :
    State.Keeps k s0 (State.writeModeReq s a1 a2) := by
  unfold State.writeModeReq
  repeat' first
    | with_reducible assumption
    | with_reducible refine Keeps.ite (P := State.Keeps _ _) ?_ ?_
    | with_reducible apply State.busErr_keeps
    | with_reducible apply State.ok_keeps
    | with_reducible apply State.modeWithdraw_keeps
    | with_reducible apply State.modeRequest_keeps
    | split

theorem execSysModeReq_keeps {s : State} (hresp : k.resp = false) (b0 : k.blk 0 = false) (b18 : k.blk 18 = false) (b20 : k.blk 20 = false) (h : State.Keeps k s0 s) (a0 : Acc) (a1 : Fin 4) :
    OutKeeps k s0 (execSysModeReq a0 a1 s) := by
  unfold execSysModeReq
  repeat' first
    | with_reducible assumption
    | refine OutKeeps.next ?_
    | with_reducible apply State.touch_keeps
    | with_reducible apply State.writeModeReq_keeps

theorem execSysModeCancel_keeps {s : State} (hresp : k.resp = false) (b0 : k.blk 0 = false) (b18 : k.blk 18 = false) (b20 : k.blk 20 = false) (h : State.Keeps k s0 s) (a0 : Acc) :
    OutKeeps k s0 (execSysModeCancel a0 s) := by
  unfold execSysModeCancel
  repeat' first
    | with_reducible assumption
    | refine OutKeeps.next ?_
    | with_reducible apply State.touch_keeps
    | with_reducible apply State.writeModeReq_keeps

end Sys2Proof.Machine
end

