-- ==== Sys2Proof/Laws/Keeps/Mppt.lean ====
section
/-!
SUPPORT. Sys2Proof/Laws/Keeps/Mppt.lean: what each operation of Machine/Mppt.lean keeps.
-/

set_option Elab.async false

namespace Sys2Proof.Machine

set_option linter.tactic.unusedName false

variable {k : Kept} {s0 : State}

theorem State.mpptGo_keeps {s : State} (b12 : k.blk 12 = false) (h : State.Keeps k s0 s) (a1 : Nat) (a2 : Nat) :
    State.Keeps k s0 (State.mpptGo s a1 a2) := by
  unfold State.mpptGo
  repeat' first
    | with_reducible assumption
    | (with_reducible show Fld.Listed _; decide)
    | (show Kept.blk _ _ = false; first | exact b12)
    | with_reducible apply State.set_keeps

theorem State.mpptEvent_keeps {s : State} (b18 : k.blk 18 = false) (h : State.Keeps k s0 s) (a1 : Fld) (a2 : Nat) (l1 : a1.Listed) (m1 : k.blk a1.block = false) :
    State.Keeps k s0 (State.mpptEvent s a1 a2) := by
  unfold State.mpptEvent
  repeat' first
    | with_reducible assumption
    | with_reducible apply State.event_keeps

theorem State.mpptHold_keeps {s : State} (b12 : k.blk 12 = false) (b18 : k.blk 18 = false) (h : State.Keeps k s0 s) (a1 : Nat) :
    State.Keeps k s0 (State.mpptHold s a1) := by
  unfold State.mpptHold
  repeat' first
    | with_reducible assumption
    | (with_reducible show Fld.Listed _; decide)
    | (show Kept.blk _ _ = false; first | exact b12 | exact b18)
    | with_reducible refine Keeps.ite (P := State.Keeps _ _) ?_ ?_
    | (extract_lets -underBinder +onlyGivenNames x; refine Keeps.cut (k := k) (s0 := s0) (x := x) ?_ ?_ <;> first | (intro _; revert x; intro _ _) | (unfold x; clear x))
    | (extract_lets -underBinder +onlyGivenNames x; unfold x; clear x)
    | with_reducible apply State.setMppt_keeps
    | with_reducible apply State.mpptGo_keeps
    | with_reducible apply State.mpptEvent_keeps

theorem State.scanStart_keeps {s : State} (b12 : k.blk 12 = false) (h : State.Keeps k s0 s) (a1 : Nat) (a2 : Nat) :
    State.Keeps k s0 (State.scanStart s a1 a2) := by
  unfold State.scanStart
  repeat' first
    | with_reducible assumption
    | (with_reducible show Fld.Listed _; decide)
    | (show Kept.blk _ _ = false; first | exact b12)
    | with_reducible refine Keeps.ite (P := State.Keeps _ _) ?_ ?_
    | (extract_lets -underBinder +onlyGivenNames x; refine Keeps.cut (k := k) (s0 := s0) (x := x) ?_ ?_ <;> first | (intro _; revert x; intro _ _) | (unfold x; clear x))
    | with_reducible apply State.set_keeps
    | with_reducible apply State.mpptGo_keeps
    | with_reducible apply State.setMppt_keeps
    | with_reducible apply State.bump_keeps

theorem State.mpptLeft_keeps {s : State} (b12 : k.blk 12 = false) (b18 : k.blk 18 = false) (h : State.Keeps k s0 s) (a1 : Nat) :
    State.Keeps k s0 (State.mpptLeft s a1) := by
  unfold State.mpptLeft
  repeat' first
    | with_reducible assumption
    | with_reducible refine Keeps.ite (P := State.Keeps _ _) ?_ ?_
    | with_reducible apply State.mpptGo_keeps
    | with_reducible apply State.mpptAbort_keeps

theorem State.mpptAgain_keeps {s : State} (b12 : k.blk 12 = false) (h : State.Keeps k s0 s) (a1 : Nat) (a2 : Nat) :
    State.Keeps k s0 (State.mpptAgain s a1 a2) := by
  unfold State.mpptAgain
  repeat' first
    | with_reducible assumption
    | with_reducible refine Keeps.ite (P := State.Keeps _ _) ?_ ?_
    | with_reducible apply State.scanStart_keeps

theorem State.scanAsk_keeps {s : State} (b12 : k.blk 12 = false) (h : State.Keeps k s0 s) (a1 : Nat) (a2 : Nat) :
    State.Keeps k s0 (State.scanAsk s a1 a2) := by
  unfold State.scanAsk
  repeat' first
    | with_reducible assumption
    | with_reducible refine Keeps.ite (P := State.Keeps _ _) ?_ ?_
    | with_reducible apply State.scanStart_keeps

theorem State.scanDwell_keeps {s : State} (b12 : k.blk 12 = false) (b18 : k.blk 18 = false) (h : State.Keeps k s0 s) (a1 : Nat) (a2 : Nat) (a3 : List Nat) :
    State.Keeps k s0 (State.scanDwell s a1 a2 a3) := by
  unfold State.scanDwell
  repeat' first
    | with_reducible assumption
    | (with_reducible show Fld.Listed _; decide)
    | (show Kept.blk _ _ = false; first | exact b12 | exact b18)
    | with_reducible refine Keeps.ite (P := State.Keeps _ _) ?_ ?_
    | (extract_lets -underBinder +onlyGivenNames x; refine Keeps.cut (k := k) (s0 := s0) (x := x) ?_ ?_ <;> first | (intro _; revert x; intro _ _) | (unfold x; clear x))
    | (extract_lets -underBinder +onlyGivenNames x; unfold x; clear x)
    | with_reducible apply State.mpptLeft_keeps
    | with_reducible apply State.mpptHold_keeps
    | with_reducible apply State.nextFree_keeps
    | with_reducible apply State.setMppt_keeps
    | with_reducible apply State.set_keeps
    | with_reducible apply State.mpptEvent_keeps
    | with_reducible apply State.mpptGo_keeps

theorem State.mpptPerturb_keeps {s : State} (b12 : k.blk 12 = false) (h : State.Keeps k s0 s) (a1 : Nat) (a2 : Int) :
    State.Keeps k s0 (State.mpptPerturb s a1 a2) := by
  unfold State.mpptPerturb
  repeat' first
    | with_reducible assumption
    | (with_reducible show Fld.Listed _; decide)
    | (show Kept.blk _ _ = false; first | exact b12)
    | (extract_lets -underBinder +onlyGivenNames x; refine Keeps.cut (k := k) (s0 := s0) (x := x) ?_ ?_ <;> first | (intro _; revert x; intro _ _) | (unfold x; clear x))
    | (extract_lets -underBinder +onlyGivenNames x; unfold x; clear x)
    | with_reducible apply State.set_keeps
    | with_reducible apply State.setMppt_keeps
    | with_reducible apply State.setFlag_keeps

theorem State.mpptDrop_keeps {s : State} (b12 : k.blk 12 = false) (h : State.Keeps k s0 s) (a1 : Nat) (a2 : Nat) (a3 : Int) :
    State.Keeps k s0 (State.mpptDrop s a1 a2 a3) := by
  unfold State.mpptDrop
  repeat' first
    | with_reducible assumption
    | with_reducible refine Keeps.ite (P := State.Keeps _ _) ?_ ?_
    | with_reducible apply State.setMppt_keeps
    | with_reducible apply State.scanStart_keeps

theorem State.mpptDrainStep_keeps {s : State} (b12 : k.blk 12 = false) (h : State.Keeps k s0 s) (a1 : Nat) (a2 : Nat) :
    State.Keeps k s0 (State.mpptDrainStep s a1 a2) := by
  unfold State.mpptDrainStep
  repeat' first
    | with_reducible assumption
    | (with_reducible show Fld.Listed _; decide)
    | (show Kept.blk _ _ = false; first | exact b12)
    | with_reducible refine Keeps.ite (P := State.Keeps _ _) ?_ ?_
    | (extract_lets -underBinder +onlyGivenNames x; refine Keeps.cut (k := k) (s0 := s0) (x := x) ?_ ?_ <;> first | (intro _; revert x; intro _ _) | (unfold x; clear x))
    | with_reducible apply State.set_keeps
    | with_reducible apply State.mpptGo_keeps
    | with_reducible apply State.setMppt_keeps
    | with_reducible apply State.scanStart_keeps

theorem State.mpptNextStep_keeps {s : State} (b12 : k.blk 12 = false) (h : State.Keeps k s0 s) (a1 : Nat) (a2 : Nat) :
    State.Keeps k s0 (State.mpptNextStep s a1 a2) := by
  unfold State.mpptNextStep
  repeat' first
    | with_reducible assumption
    | (show Kept.blk _ _ = false; first | exact b12)
    | with_reducible refine Keeps.ite (P := State.Keeps _ _) ?_ ?_
    | (extract_lets -underBinder +onlyGivenNames x; unfold x; clear x)
    | with_reducible apply State.setMppt_keeps

theorem State.mpptTrack_keeps {s : State} (b12 : k.blk 12 = false) (h : State.Keeps k s0 s) (a1 : Nat) (a2 : Nat) (a3 : Nat) (a4 : List Nat) :
    State.Keeps k s0 (State.mpptTrack s a1 a2 a3 a4) := by
  unfold State.mpptTrack
  repeat' first
    | with_reducible assumption
    | (show Kept.blk _ _ = false; first | exact b12)
    | (extract_lets -underBinder +onlyGivenNames x; unfold x; clear x)
    | with_reducible apply State.mpptDrop_keeps
    | with_reducible apply State.mpptPerturb_keeps
    | with_reducible apply State.mpptGo_keeps
    | with_reducible apply State.nextFree_keeps

theorem State.mpptStep_keeps {s : State} (b12 : k.blk 12 = false) (b18 : k.blk 18 = false) (h : State.Keeps k s0 s) (a1 : Nat) (a2 : Nat) (a3 : Nat) (a4 : List Nat) :
    State.Keeps k s0 (State.mpptStep s a1 a2 a3 a4) := by
  unfold State.mpptStep
  repeat' first
    | with_reducible assumption
    | (show Kept.blk _ _ = false; first | exact b12 | exact b18)
    | with_reducible refine Keeps.ite (P := State.Keeps _ _) ?_ ?_
    | (extract_lets -underBinder +onlyGivenNames x; refine Keeps.cut (k := k) (s0 := s0) (x := x) ?_ ?_ <;> first | (intro _; revert x; intro _ _) | (unfold x; clear x))
    | (extract_lets -underBinder +onlyGivenNames x; unfold x; clear x)
    | with_reducible apply State.mpptLeft_keeps
    | with_reducible apply State.mpptHold_keeps
    | with_reducible apply State.mpptAgain_keeps
    | with_reducible apply State.mpptDrainStep_keeps
    | with_reducible apply State.mpptGo_keeps
    | with_reducible apply State.mpptTrack_keeps
    | with_reducible apply State.mpptNextStep_keeps

theorem State.mpptStart_keeps {s : State} (b12 : k.blk 12 = false) (h : State.Keeps k s0 s) (a1 : Nat) (a2 : Nat) :
    State.Keeps k s0 (State.mpptStart s a1 a2) := by
  unfold State.mpptStart
  repeat' first
    | with_reducible assumption
    | (with_reducible show Fld.Listed _; decide)
    | (show Kept.blk _ _ = false; first | exact b12)
    | with_reducible refine Keeps.ite (P := State.Keeps _ _) ?_ ?_
    | (extract_lets -underBinder +onlyGivenNames x; refine Keeps.cut (k := k) (s0 := s0) (x := x) ?_ ?_ <;> first | (intro _; revert x; intro _ _) | (unfold x; clear x))
    | (extract_lets -underBinder +onlyGivenNames x; unfold x; clear x)
    | with_reducible apply State.set_keeps
    | with_reducible apply State.setMppt_keeps
    | with_reducible apply State.scanStart_keeps

theorem State.mpptDisable_keeps {s : State} (b12 : k.blk 12 = false) (h : State.Keeps k s0 s) (a1 : Nat) :
    State.Keeps k s0 (State.mpptDisable s a1) := by
  unfold State.mpptDisable
  repeat' first
    | with_reducible assumption
    | with_reducible refine Keeps.ite (P := State.Keeps _ _) ?_ ?_
    | with_reducible apply State.mpptGo_keeps

theorem State.mpptDisableNow_keeps {s : State} (b12 : k.blk 12 = false) (h : State.Keeps k s0 s) (a1 : Nat) :
    State.Keeps k s0 (State.mpptDisableNow s a1) := by
  unfold State.mpptDisableNow
  repeat' first
    | with_reducible assumption
    | (with_reducible show Fld.Listed _; decide)
    | (show Kept.blk _ _ = false; first | exact b12)
    | with_reducible refine Keeps.ite (P := State.Keeps _ _) ?_ ?_
    | (extract_lets -underBinder +onlyGivenNames x; refine Keeps.cut (k := k) (s0 := s0) (x := x) ?_ ?_ <;> first | (intro _; revert x; intro _ _) | (unfold x; clear x))
    | (extract_lets -underBinder +onlyGivenNames x; unfold x; clear x)
    | with_reducible apply State.set_keeps
    | with_reducible apply State.setMppt_keeps
    | with_reducible apply State.mpptGo_keeps

theorem State.mpptModeApply_keeps {s : State} (b12 : k.blk 12 = false) (b18 : k.blk 18 = false) (h : State.Keeps k s0 s) (a1 : Nat) :
    State.Keeps k s0 (State.mpptModeApply s a1) := by
  unfold State.mpptModeApply
  repeat' first
    | with_reducible assumption
    | (with_reducible show Fld.Listed _; decide)
    | (show Kept.blk _ _ = false; first | exact b12 | exact b18)
    | with_reducible refine Keeps.ite (P := State.Keeps _ _) ?_ ?_
    | (extract_lets -underBinder +onlyGivenNames x; refine Keeps.cut (k := k) (s0 := s0) (x := x) ?_ ?_ <;> first | (intro _; revert x; intro _ _) | (unfold x; clear x))
    | (extract_lets -underBinder +onlyGivenNames x; unfold x; clear x)
    | with_reducible apply State.set_keeps
    | with_reducible apply State.setMppt_keeps
    | with_reducible apply State.mpptAbort_keeps
    | with_reducible apply State.mpptGo_keeps

theorem State.writeMpptCtrl_keeps {s : State} (hresp : k.resp = false) (b12 : k.blk 12 = false) (h : State.Keeps k s0 s) (a1 : Acc) (a2 : Nat) (a3 : Nat) :
    State.Keeps k s0 (State.writeMpptCtrl s a1 a2 a3) := by
  unfold State.writeMpptCtrl
  repeat' first
    | with_reducible assumption
    | with_reducible refine Keeps.ite (P := State.Keeps _ _) ?_ ?_
    | (extract_lets -underBinder +onlyGivenNames x; refine Keeps.cut (k := k) (s0 := s0) (x := x) ?_ ?_ <;> first | (intro _; revert x; intro _ _) | (unfold x; clear x))
    | with_reducible apply State.busErr_keeps
    | with_reducible apply State.mpptDisableNow_keeps
    | with_reducible apply State.mpptDisable_keeps
    | with_reducible apply State.mpptStart_keeps
    | with_reducible apply State.scanAsk_keeps
    | with_reducible apply State.ok_keeps

theorem execMpptStep_keeps {s : State} (b12 : k.blk 12 = false) (b18 : k.blk 18 = false) (h : State.Keeps k s0 s) (a0 : Nat) (a1 : Fin 16) (a2 : Nat) (a3 : List Nat) :
    OutKeeps k s0 (execMpptStep a0 a1 a2 a3 s) := by
  unfold execMpptStep
  repeat' first
    | with_reducible assumption
    | (show Kept.blk _ _ = false; first | exact b12 | exact b18)
    | refine OutKeeps.next ?_
    | with_reducible apply State.mpptStep_keeps
    | with_reducible apply State.touch_keeps

theorem execMpptScanDwellEnd_keeps {s : State} (b12 : k.blk 12 = false) (b18 : k.blk 18 = false) (h : State.Keeps k s0 s) (a0 : Nat) (a1 : Fin 16) (a2 : List Nat) :
    OutKeeps k s0 (execMpptScanDwellEnd a0 a1 a2 s) := by
  unfold execMpptScanDwellEnd
  repeat' first
    | with_reducible assumption
    | (show Kept.blk _ _ = false; first | exact b12 | exact b18)
    | refine OutKeeps.next ?_
    | with_reducible apply State.scanDwell_keeps
    | with_reducible apply State.touch_keeps

theorem execMpptScheduledScan_keeps {s : State} (b12 : k.blk 12 = false) (h : State.Keeps k s0 s) (a0 : Nat) (a1 : Fin 16) :
    OutKeeps k s0 (execMpptScheduledScan a0 a1 s) := by
  unfold execMpptScheduledScan
  repeat' first
    | with_reducible assumption
    | (show Kept.blk _ _ = false; first | exact b12)
    | refine OutKeeps.next ?_
    | with_reducible refine Keeps.ite (P := State.Keeps _ _) ?_ ?_
    | (extract_lets -underBinder +onlyGivenNames x; refine Keeps.cut (k := k) (s0 := s0) (x := x) ?_ ?_ <;> first | (intro _; revert x; intro _ _) | (unfold x; clear x))
    | (extract_lets -underBinder +onlyGivenNames x; unfold x; clear x)
    | with_reducible apply State.touch_keeps
    | with_reducible apply State.scanAsk_keeps
    | split

theorem execMpptScanCmd_keeps {s : State} (hresp : k.resp = false) (b12 : k.blk 12 = false) (h : State.Keeps k s0 s) (a0 : Acc) (a1 : Fin 16) :
    OutKeeps k s0 (execMpptScanCmd a0 a1 s) := by
  unfold execMpptScanCmd
  repeat' first
    | with_reducible assumption
    | refine OutKeeps.next ?_
    | with_reducible apply State.touch_keeps
    | with_reducible apply State.writeMpptCtrl_keeps

theorem execMpptEnable_keeps {s : State} (hresp : k.resp = false) (b12 : k.blk 12 = false) (h : State.Keeps k s0 s) (a0 : Acc) (a1 : Fin 16) :
    OutKeeps k s0 (execMpptEnable a0 a1 s) := by
  unfold execMpptEnable
  repeat' first
    | with_reducible assumption
    | refine OutKeeps.next ?_
    | with_reducible apply State.touch_keeps
    | with_reducible apply State.writeMpptCtrl_keeps

theorem execMpptDisable_keeps {s : State} (hresp : k.resp = false) (b12 : k.blk 12 = false) (h : State.Keeps k s0 s) (a0 : Acc) (a1 : Fin 16) :
    OutKeeps k s0 (execMpptDisable a0 a1 s) := by
  unfold execMpptDisable
  repeat' first
    | with_reducible assumption
    | refine OutKeeps.next ?_
    | with_reducible apply State.touch_keeps
    | with_reducible apply State.writeMpptCtrl_keeps

theorem execMpptDisableImmediate_keeps {s : State} (hresp : k.resp = false) (b12 : k.blk 12 = false) (h : State.Keeps k s0 s) (a0 : Acc) (a1 : Fin 16) :
    OutKeeps k s0 (execMpptDisableImmediate a0 a1 s) := by
  unfold execMpptDisableImmediate
  repeat' first
    | with_reducible assumption
    | refine OutKeeps.next ?_
    | with_reducible apply State.touch_keeps
    | with_reducible apply State.writeMpptCtrl_keeps

end Sys2Proof.Machine
end

