-- ==== Sys2Proof/Laws/Keeps/Selvedge.lean ====
section
/-!
SUPPORT. Sys2Proof/Laws/Keeps/Selvedge.lean: what each operation of Machine/Selvedge.lean keeps.
-/

set_option Elab.async false

namespace Sys2Proof.Machine

set_option linter.tactic.unusedName false

variable {k : Kept} {s0 : State}

theorem mirrorReg_block {a : Nat} {r : Reg} (e : mirrorReg a = some r) : r.info.base / 65536 % 64 = 8 := by
  unfold mirrorReg at e
  split at e <;> first | cases e | skip
  all_goals rfl

theorem State.sendFrame_keeps {s : State} (b6 : k.blk 6 = false) (b18 : k.blk 18 = false) (h : State.Keeps k s0 s) (a1 : Nat) (a2 : Nat) (a3 : Bool) :
    State.Keeps k s0 (State.sendFrame s a1 a2 a3) := by
  unfold State.sendFrame
  repeat' first
    | with_reducible assumption
    | (with_reducible show Fld.Listed _; decide)
    | (show Kept.blk _ _ = false; first | exact b6 | exact b18)
    | (extract_lets -underBinder +onlyGivenNames x; refine Keeps.cut (k := k) (s0 := s0) (x := x) ?_ ?_ <;> first | (intro _; revert x; intro _ _) | (unfold x; clear x))
    | (extract_lets -underBinder +onlyGivenNames x; unfold x; clear x)
    | with_reducible refine Keeps.foldl (fun _ _ _ => ?_) ?_
    | with_reducible apply State.set_keeps
    | with_reducible apply State.setBus_keeps
    | with_reducible apply State.event_keeps
    | with_reducible apply State.bump_keeps

theorem State.dropOps_keeps {s : State} (b6 : k.blk 6 = false) (h : State.Keeps k s0 s) (a1 : Nat) :
    State.Keeps k s0 (State.dropOps s a1) := by
  unfold State.dropOps
  repeat' first
    | with_reducible assumption
    | (extract_lets -underBinder +onlyGivenNames x; unfold x; clear x)
    | with_reducible apply State.setBus_keeps

theorem State.backToEnum_keeps {s : State} (b6 : k.blk 6 = false) (h : State.Keeps k s0 s) (a1 : Nat) :
    State.Keeps k s0 (State.backToEnum s a1) := by
  unfold State.backToEnum
  repeat' first
    | with_reducible assumption
    | (with_reducible show Fld.Listed _; decide)
    | (show Kept.blk _ _ = false; first | exact b6)
    | (extract_lets -underBinder +onlyGivenNames x; unfold x; clear x)
    | with_reducible apply State.set_keeps
    | with_reducible apply State.dropOps_keeps
    | with_reducible apply State.setDrop_keeps

theorem State.closeSlot15_keeps {s : State} (b6 : k.blk 6 = false) (h : State.Keeps k s0 s) (a1 : Nat) :
    State.Keeps k s0 (State.closeSlot15 s a1) := by
  unfold State.closeSlot15
  repeat' first
    | with_reducible assumption
    | with_reducible refine Keeps.ite (P := State.Keeps _ _) ?_ ?_
    | with_reducible apply State.setDrop_keeps
    | with_reducible apply State.backToEnum_keeps

theorem State.ageAlign_keeps {s : State} (b6 : k.blk 6 = false) (h : State.Keeps k s0 s) (a1 : Nat) :
    State.Keeps k s0 (State.ageAlign s a1) := by
  unfold State.ageAlign
  repeat' first
    | with_reducible assumption
    | with_reducible refine Keeps.ite (P := State.Keeps _ _) ?_ ?_
    | with_reducible apply State.backToEnum_keeps
    | with_reducible apply State.setDrop_keeps

theorem State.restPolls_keeps {s : State} (b6 : k.blk 6 = false) (h : State.Keeps k s0 s) (a1 : Nat) (a2 : Nat) :
    State.Keeps k s0 (State.restPolls s a1 a2) := by
  unfold State.restPolls
  repeat' first
    | with_reducible assumption
    | with_reducible refine Keeps.ite (P := State.Keeps _ _) ?_ ?_
    | with_reducible refine Keeps.foldl (fun _ _ _ => ?_) ?_
    | with_reducible apply State.setDrop_keeps

theorem State.enumPoll_keeps {s : State} (b6 : k.blk 6 = false) (h : State.Keeps k s0 s) (a1 : Nat) :
    State.Keeps k s0 (State.enumPoll s a1) := by
  unfold State.enumPoll
  repeat' first
    | with_reducible assumption
    | (with_reducible show Fld.Listed _; decide)
    | (show Kept.blk _ _ = false; first | exact b6)
    | (extract_lets -underBinder +onlyGivenNames x; refine Keeps.cut (k := k) (s0 := s0) (x := x) ?_ ?_ <;> first | (intro _; revert x; intro _ _) | (unfold x; clear x))
    | (extract_lets -underBinder +onlyGivenNames x; unfold x; clear x)
    | with_reducible apply State.set_keeps
    | with_reducible apply State.setBus_keeps
    | with_reducible apply State.restPolls_keeps
    | split

theorem State.openSlot15_keeps {s : State} (b6 : k.blk 6 = false) (h : State.Keeps k s0 s) (a1 : Nat) :
    State.Keeps k s0 (State.openSlot15 s a1) := by
  unfold State.openSlot15
  repeat' first
    | with_reducible assumption
    | (with_reducible show Fld.Listed _; decide)
    | (show Kept.blk _ _ = false; first | exact b6)
    | with_reducible apply State.set_keeps
    | with_reducible apply State.enumPoll_keeps
    | split

theorem State.rotate_keeps {s : State} (b6 : k.blk 6 = false) (h : State.Keeps k s0 s) (a1 : Nat) :
    State.Keeps k s0 (State.rotate s a1) := by
  unfold State.rotate
  repeat' first
    | with_reducible assumption
    | with_reducible refine Keeps.ite (P := State.Keeps _ _) ?_ ?_
    | (extract_lets -underBinder +onlyGivenNames x; unfold x; clear x)
    | with_reducible apply State.setBus_keeps

theorem State.ageMirror_keeps {s : State} (b8 : k.blk 8 = false) (h : State.Keeps k s0 s) (a1 : Nat) :
    State.Keeps k s0 (State.ageMirror s a1) := by
  unfold State.ageMirror
  repeat' first
    | with_reducible assumption
    | (with_reducible show Fld.Listed _; decide)
    | (show Kept.blk _ _ = false; first | exact b8)
    | with_reducible refine Keeps.ite (P := State.Keeps _ _) ?_ ?_
    | with_reducible apply State.bump_keeps

theorem State.busCycleStart_keeps {s : State} (b6 : k.blk 6 = false) (b8 : k.blk 8 = false) (b18 : k.blk 18 = false) (h : State.Keeps k s0 s) (a1 : Nat) (a2 : Nat) :
    State.Keeps k s0 (State.busCycleStart s a1 a2) := by
  unfold State.busCycleStart
  repeat' first
    | with_reducible assumption
    | (show Kept.blk _ _ = false; first | exact b6 | exact b8 | exact b18)
    | with_reducible refine Keeps.ite (P := State.Keeps _ _) ?_ ?_
    | (extract_lets -underBinder +onlyGivenNames x; refine Keeps.cut (k := k) (s0 := s0) (x := x) ?_ ?_ <;> first | (intro _; revert x; intro _ _) | (unfold x; clear x))
    | (extract_lets -underBinder +onlyGivenNames x; unfold x; clear x)
    | with_reducible refine Keeps.foldl (fun _ _ _ => ?_) ?_
    | with_reducible apply State.closeSlot15_keeps
    | with_reducible apply State.ageAlign_keeps
    | with_reducible apply State.openSlot15_keeps
    | with_reducible apply State.rotate_keeps
    | with_reducible apply State.ageMirror_keeps
    | with_reducible apply State.sendFrame_keeps

theorem State.setMirrorHalf_keeps {s : State} (b8 : k.blk 8 = false) (h : State.Keeps k s0 s) (a1 a2 a3 : Nat) :
    State.Keeps k s0 (State.setMirrorHalf s a1 a2 a3) := by
  unfold State.setMirrorHalf
  split
  · exact h
  · rename_i r e
    have hr : ∀ v, State.Keeps k s0 (s.setReg r a1 v) := fun v =>
      State.setReg_keeps h r a1 v (by rw [mirrorReg_block e]; exact b8)
    exact Keeps.ite (P := State.Keeps _ _) (State.set_keeps (hr _) _ _ _ (by decide) (by first | exact b8)) (hr _)

theorem State.cfgBatch_keeps {s : State} (b6 : k.blk 6 = false) (h : State.Keeps k s0 s) (a1 : Nat) (a2 : Bool) :
    State.Keeps k s0 (State.cfgBatch s a1 a2) := by
  unfold State.cfgBatch
  repeat' first
    | with_reducible assumption
    | with_reducible refine Keeps.ite (P := State.Keeps _ _) ?_ ?_
    | (extract_lets -underBinder +onlyGivenNames x; unfold x; clear x)
    | with_reducible refine Keeps.foldl (fun _ _ _ => ?_) ?_
    | with_reducible apply State.setDrop_keeps
    | with_reducible apply State.mgmt_keeps

theorem State.cfgAnswered_keeps {s : State} (b6 : k.blk 6 = false) (h : State.Keeps k s0 s) (a1 : Nat) :
    State.Keeps k s0 (State.cfgAnswered s a1) := by
  unfold State.cfgAnswered
  repeat' first
    | with_reducible assumption
    | (with_reducible show Fld.Listed _; decide)
    | (show Kept.blk _ _ = false; first | exact b6)
    | with_reducible refine Keeps.ite (P := State.Keeps _ _) ?_ ?_
    | with_reducible apply State.set_keeps
    | with_reducible apply State.setDrop_keeps
    | with_reducible apply State.cfgBatch_keeps

theorem State.dropAdmit_keeps {s : State} (b6 : k.blk 6 = false) (b8 : k.blk 8 = false) (b18 : k.blk 18 = false) (b22 : k.blk 22 = false) (h : State.Keeps k s0 s) (a1 : Nat) :
    State.Keeps k s0 (State.dropAdmit s a1) := by
  unfold State.dropAdmit
  repeat' first
    | with_reducible assumption
    | (with_reducible show Fld.Listed _; decide)
    | (show Kept.blk _ _ = false; first | exact b6 | exact b8 | exact b18 | exact b22)
    | (extract_lets -underBinder +onlyGivenNames x; refine Keeps.cut (k := k) (s0 := s0) (x := x) ?_ ?_ <;> first | (intro _; revert x; intro _ _) | (unfold x; clear x))
    | (extract_lets -underBinder +onlyGivenNames x; unfold x; clear x)
    | with_reducible apply State.set_keeps
    | with_reducible apply State.setBitOf_keeps
    | with_reducible apply State.setDrop_keeps
    | with_reducible apply State.event_keeps

theorem State.enumGood_keeps {s : State} (b6 : k.blk 6 = false) (b8 : k.blk 8 = false) (b18 : k.blk 18 = false) (h : State.Keeps k s0 s) (a1 : Nat) (a2 : Nat) :
    State.Keeps k s0 (State.enumGood s a1 a2) := by
  unfold State.enumGood
  repeat' first
    | with_reducible assumption
    | (with_reducible show Fld.Listed _; decide)
    | (show Kept.blk _ _ = false; first | exact b6 | exact b8 | exact b18)
    | with_reducible refine Keeps.ite (P := State.Keeps _ _) ?_ ?_
    | (extract_lets -underBinder +onlyGivenNames x; refine Keeps.cut (k := k) (s0 := s0) (x := x) ?_ ?_ <;> first | (intro _; revert x; intro _ _) | (unfold x; clear x))
    | (extract_lets -underBinder +onlyGivenNames x; unfold x; clear x)
    | with_reducible apply State.set_keeps
    | with_reducible apply State.event_keeps
    | with_reducible apply State.setDrop_keeps

theorem State.enumEnergy_keeps {s : State} (b6 : k.blk 6 = false) (b18 : k.blk 18 = false) (h : State.Keeps k s0 s) (a1 : Nat) :
    State.Keeps k s0 (State.enumEnergy s a1) := by
  unfold State.enumEnergy
  repeat' first
    | with_reducible assumption
    | (with_reducible show Fld.Listed _; decide)
    | (show Kept.blk _ _ = false; first | exact b6 | exact b18)
    | with_reducible refine Keeps.ite (P := State.Keeps _ _) ?_ ?_
    | (extract_lets -underBinder +onlyGivenNames x; refine Keeps.cut (k := k) (s0 := s0) (x := x) ?_ ?_ <;> first | (intro _; revert x; intro _ _) | (unfold x; clear x))
    | with_reducible apply State.setDrop_keeps
    | with_reducible apply State.event_keeps
    | with_reducible apply State.bump_keeps

theorem State.enumAnswer_keeps {s : State} (b6 : k.blk 6 = false) (b8 : k.blk 8 = false) (b18 : k.blk 18 = false) (h : State.Keeps k s0 s) (a1 : Nat) (a2 : Nat) :
    State.Keeps k s0 (State.enumAnswer s a1 a2) := by
  unfold State.enumAnswer
  repeat' first
    | with_reducible assumption
    | with_reducible refine Keeps.ite (P := State.Keeps _ _) ?_ ?_
    | (extract_lets -underBinder +onlyGivenNames x; unfold x; clear x)
    | with_reducible apply State.enumEnergy_keeps
    | with_reducible apply State.setDrop_keeps
    | with_reducible apply State.enumGood_keeps

theorem State.calEcho_keeps {s : State} (b6 : k.blk 6 = false) (h : State.Keeps k s0 s) (a1 : Nat) (a2 : EchoRx) :
    State.Keeps k s0 (State.calEcho s a1 a2) := by
  unfold State.calEcho
  repeat' first
    | with_reducible assumption
    | (with_reducible show Fld.Listed _; decide)
    | (show Kept.blk _ _ = false; first | exact b6)
    | with_reducible refine Keeps.ite (P := State.Keeps _ _) ?_ ?_
    | (extract_lets -underBinder +onlyGivenNames x; refine Keeps.cut (k := k) (s0 := s0) (x := x) ?_ ?_ <;> first | (intro _; revert x; intro _ _) | (unfold x; clear x))
    | (extract_lets -underBinder +onlyGivenNames x; unfold x; clear x)
    | with_reducible apply State.setDrop_keeps
    | with_reducible apply State.set_keeps
    | with_reducible apply State.mgmt_keeps

theorem State.driftCorrect_keeps {s : State} (b6 : k.blk 6 = false) (b18 : k.blk 18 = false) (h : State.Keeps k s0 s) (a1 : Nat) :
    State.Keeps k s0 (State.driftCorrect s a1) := by
  unfold State.driftCorrect
  repeat' first
    | with_reducible assumption
    | (with_reducible show Fld.Listed _; decide)
    | (show Kept.blk _ _ = false; first | exact b6 | exact b18)
    | with_reducible refine Keeps.ite (P := State.Keeps _ _) ?_ ?_
    | with_reducible apply State.set_keeps
    | with_reducible apply State.setDrop_keeps
    | with_reducible apply State.mgmt_keeps
    | with_reducible apply State.event_keeps

theorem State.jnlDiscrepancy_keeps {s : State} (b18 : k.blk 18 = false) (b20 : k.blk 20 = false) (h : State.Keeps k s0 s) (a1 : Nat) (a2 : Nat) (a3 : Nat) (a4 : Nat) :
    State.Keeps k s0 (State.jnlDiscrepancy s a1 a2 a3 a4) := by
  unfold State.jnlDiscrepancy
  repeat' first
    | with_reducible assumption
    | with_reducible apply State.jnlWrite_keeps

theorem State.setStale_keeps {s : State} (b22 : k.blk 22 = false) (h : State.Keeps k s0 s) (a1 : Nat) (a2 : Bool) :
    State.Keeps k s0 (State.setStale s a1 a2) := by
  unfold State.setStale
  repeat' first
    | with_reducible assumption
    | (with_reducible show Fld.Listed _; decide)
    | (show Kept.blk _ _ = false; first | exact b22)
    | with_reducible apply State.setBitOf_keeps

theorem State.discF1_keeps {s : State} (b5 : k.blk 5 = false) (b6 : k.blk 6 = false) (b12 : k.blk 12 = false) (b13 : k.blk 13 = false) (b18 : k.blk 18 = false) (b20 : k.blk 20 = false) (b22 : k.blk 22 = false) (h : State.Keeps k s0 s) (a1 : Nat) :
    State.Keeps k s0 (State.discF1 s a1) := by
  unfold State.discF1
  repeat' first
    | with_reducible assumption
    | with_reducible refine Keeps.ite (P := State.Keeps _ _) ?_ ?_
    | with_reducible apply State.legF1_keeps
    | split

theorem State.discrepancy_keeps {s : State} (b5 : k.blk 5 = false) (b6 : k.blk 6 = false) (b12 : k.blk 12 = false) (b13 : k.blk 13 = false) (b18 : k.blk 18 = false) (b20 : k.blk 20 = false) (b22 : k.blk 22 = false) (h : State.Keeps k s0 s) (a1 : Nat) (a2 : Nat) (a3 : Nat) :
    State.Keeps k s0 (State.discrepancy s a1 a2 a3) := by
  unfold State.discrepancy
  repeat' first
    | with_reducible assumption
    | (with_reducible show Fld.Listed _; decide)
    | (show Kept.blk _ _ = false; first | exact b5 | exact b6 | exact b12 | exact b13 | exact b18 | exact b20 | exact b22)
    | (extract_lets -underBinder +onlyGivenNames x; refine Keeps.cut (k := k) (s0 := s0) (x := x) ?_ ?_ <;> first | (intro _; revert x; intro _ _) | (unfold x; clear x))
    | (extract_lets -underBinder +onlyGivenNames x; unfold x; clear x)
    | with_reducible apply State.setDrop_keeps
    | with_reducible apply State.bump_keeps
    | with_reducible apply State.discF1_keeps
    | with_reducible apply State.jnlDiscrepancy_keeps
    | with_reducible apply State.event_keeps

theorem State.judgeDisc_keeps {s : State} (b6 : k.blk 6 = false) (b18 : k.blk 18 = false) (b20 : k.blk 20 = false) (b22 : k.blk 22 = false) (h : State.Keeps k s0 s) (a1 : Nat) (a2 : Nat) :
    State.Keeps k s0 (State.judgeDisc s a1 a2) := by
  unfold State.judgeDisc
  repeat' first
    | with_reducible assumption
    | (with_reducible show Fld.Listed _; decide)
    | (show Kept.blk _ _ = false; first | exact b6 | exact b18 | exact b20 | exact b22)
    | with_reducible refine Keeps.ite (P := State.Keeps _ _) ?_ ?_
    | (extract_lets -underBinder +onlyGivenNames x; refine Keeps.cut (k := k) (s0 := s0) (x := x) ?_ ?_ <;> first | (intro _; revert x; intro _ _) | (unfold x; clear x))
    | (extract_lets -underBinder +onlyGivenNames x; unfold x; clear x)
    | with_reducible apply State.setDrop_keeps
    | with_reducible apply State.setStale_keeps
    | with_reducible apply State.event_keeps
    | with_reducible apply State.bump_keeps
    | with_reducible apply State.jnlDiscrepancy_keeps

theorem State.judgeStale_keeps {s : State} (b6 : k.blk 6 = false) (b18 : k.blk 18 = false) (b20 : k.blk 20 = false) (b22 : k.blk 22 = false) (h : State.Keeps k s0 s) (a1 : Nat) (a2 : Nat) :
    State.Keeps k s0 (State.judgeStale s a1 a2) := by
  unfold State.judgeStale
  repeat' first
    | with_reducible assumption
    | with_reducible refine Keeps.ite (P := State.Keeps _ _) ?_ ?_
    | (extract_lets -underBinder +onlyGivenNames x; unfold x; clear x)
    | with_reducible apply State.setDrop_keeps
    | with_reducible apply State.jnlDiscrepancy_keeps
    | with_reducible apply State.setStale_keeps
    | split

theorem State.stateResponse_keeps {s : State} (b5 : k.blk 5 = false) (b6 : k.blk 6 = false) (b8 : k.blk 8 = false) (b12 : k.blk 12 = false) (b13 : k.blk 13 = false) (b18 : k.blk 18 = false) (b20 : k.blk 20 = false) (b22 : k.blk 22 = false) (h : State.Keeps k s0 s) (a1 : Nat) (a2 : Nat) (a3 : Nat) :
    State.Keeps k s0 (State.stateResponse s a1 a2 a3) := by
  unfold State.stateResponse
  repeat' first
    | with_reducible assumption
    | (show Kept.blk _ _ = false; first | exact b5 | exact b6 | exact b8 | exact b12 | exact b13 | exact b18 | exact b20 | exact b22)
    | with_reducible refine Keeps.ite (P := State.Keeps _ _) ?_ ?_
    | (extract_lets -underBinder +onlyGivenNames x; refine Keeps.cut (k := k) (s0 := s0) (x := x) ?_ ?_ <;> first | (intro _; revert x; intro _ _) | (unfold x; clear x))
    | (extract_lets -underBinder +onlyGivenNames x; unfold x; clear x)
    | with_reducible apply State.jnlDiscrepancy_keeps
    | with_reducible apply State.setMirrorHalf_keeps
    | with_reducible apply State.setDrop_keeps
    | with_reducible apply State.discF1_keeps
    | with_reducible apply State.discrepancy_keeps

theorem State.readAnswered_keeps {s : State} (b5 : k.blk 5 = false) (b6 : k.blk 6 = false) (b8 : k.blk 8 = false) (b12 : k.blk 12 = false) (b13 : k.blk 13 = false) (b18 : k.blk 18 = false) (b20 : k.blk 20 = false) (b22 : k.blk 22 = false) (h : State.Keeps k s0 s) (a1 : Nat) (a2 : Nat) (a3 : MgmtOp) (a4 : Nat) :
    State.Keeps k s0 (State.readAnswered s a1 a2 a3 a4) := by
  unfold State.readAnswered
  repeat' first
    | with_reducible assumption
    | (with_reducible show Fld.Listed _; decide)
    | (show Kept.blk _ _ = false; first | exact b5 | exact b6 | exact b8 | exact b12 | exact b13 | exact b18 | exact b20 | exact b22)
    | with_reducible refine Keeps.ite (P := State.Keeps _ _) ?_ ?_
    | (extract_lets -underBinder +onlyGivenNames x; unfold x; clear x)
    | with_reducible apply State.set_keeps
    | with_reducible apply State.setDrop_keeps
    | with_reducible apply State.stateResponse_keeps
    | with_reducible apply State.setMirrorHalf_keeps
    | split

theorem State.mgmtAnswer_keeps {s : State} (b5 : k.blk 5 = false) (b6 : k.blk 6 = false) (b8 : k.blk 8 = false) (b12 : k.blk 12 = false) (b13 : k.blk 13 = false) (b18 : k.blk 18 = false) (b20 : k.blk 20 = false) (b22 : k.blk 22 = false) (h : State.Keeps k s0 s) (a1 : Nat) (a2 : Nat) (a3 : Nat) (a4 : Nat) :
    State.Keeps k s0 (State.mgmtAnswer s a1 a2 a3 a4) := by
  unfold State.mgmtAnswer
  repeat' first
    | with_reducible assumption
    | with_reducible refine Keeps.ite (P := State.Keeps _ _) ?_ ?_
    | (extract_lets -underBinder +onlyGivenNames x; unfold x; clear x)
    | with_reducible apply State.setBus_keeps
    | with_reducible apply State.readAnswered_keeps
    | with_reducible apply State.cfgAnswered_keeps
    | split

theorem State.mgmtUnanswered_keeps {s : State} (b6 : k.blk 6 = false) (h : State.Keeps k s0 s) (a1 : Nat) (a2 : Nat) :
    State.Keeps k s0 (State.mgmtUnanswered s a1 a2) := by
  unfold State.mgmtUnanswered
  repeat' first
    | with_reducible assumption
    | (extract_lets -underBinder +onlyGivenNames x; unfold x; clear x)
    | with_reducible apply State.setBus_keeps

theorem State.mgmtRetry_keeps {s : State} (b6 : k.blk 6 = false) (h : State.Keeps k s0 s) (a1 : Nat) (a2 : Nat) :
    State.Keeps k s0 (State.mgmtRetry s a1 a2) := by
  unfold State.mgmtRetry
  repeat' first
    | with_reducible assumption
    | (extract_lets -underBinder +onlyGivenNames x; unfold x; clear x)
    | with_reducible apply State.setBus_keeps

theorem State.pruneSafe_keeps {s : State} (b6 : k.blk 6 = false) (h : State.Keeps k s0 s) (a1 : Nat) :
    State.Keeps k s0 (State.pruneSafe s a1) := by
  unfold State.pruneSafe
  repeat' first
    | with_reducible assumption
    | (extract_lets -underBinder +onlyGivenNames x; unfold x; clear x)
    | with_reducible apply State.setBus_keeps

theorem State.faultReads_keeps {s : State} (b6 : k.blk 6 = false) (h : State.Keeps k s0 s) (a1 : Nat) :
    State.Keeps k s0 (State.faultReads s a1) := by
  unfold State.faultReads
  repeat' first
    | with_reducible assumption
    | (extract_lets -underBinder +onlyGivenNames x; refine Keeps.cut (k := k) (s0 := s0) (x := x) ?_ ?_ <;> first | (intro _; revert x; intro _ _) | (unfold x; clear x))
    | (extract_lets -underBinder +onlyGivenNames x; unfold x; clear x)
    | with_reducible refine Keeps.foldl (fun _ _ _ => ?_) ?_
    | with_reducible apply State.setBus_keeps
    | with_reducible apply State.mgmt_keeps

theorem State.firstFault_keeps {s : State} (b5 : k.blk 5 = false) (b6 : k.blk 6 = false) (b12 : k.blk 12 = false) (b13 : k.blk 13 = false) (b18 : k.blk 18 = false) (b20 : k.blk 20 = false) (b22 : k.blk 22 = false) (h : State.Keeps k s0 s) (a1 : Nat) :
    State.Keeps k s0 (State.firstFault s a1) := by
  unfold State.firstFault
  repeat' first
    | with_reducible assumption
    | with_reducible refine Keeps.ite (P := State.Keeps _ _) ?_ ?_
    | with_reducible apply State.faultReads_keeps
    | with_reducible apply State.faultF2_keeps
    | with_reducible apply State.legF1_keeps

theorem State.judgeStatus_keeps {s : State} (b5 : k.blk 5 = false) (b6 : k.blk 6 = false) (b8 : k.blk 8 = false) (b12 : k.blk 12 = false) (b13 : k.blk 13 = false) (b18 : k.blk 18 = false) (b20 : k.blk 20 = false) (b22 : k.blk 22 = false) (h : State.Keeps k s0 s) (a1 : Nat) (a2 : Nat) (a3 : Nat) :
    State.Keeps k s0 (State.judgeStatus s a1 a2 a3) := by
  unfold State.judgeStatus
  repeat' first
    | with_reducible assumption
    | (with_reducible show Fld.Listed _; decide)
    | (show Kept.blk _ _ = false; first | exact b5 | exact b6 | exact b8 | exact b12 | exact b13 | exact b18 | exact b20 | exact b22)
    | with_reducible refine Keeps.ite (P := State.Keeps _ _) ?_ ?_
    | with_reducible apply State.set_keeps
    | with_reducible apply State.setDrop_keeps
    | with_reducible apply State.raise_keeps
    | with_reducible apply State.firstFault_keeps
    | with_reducible apply State.legF1_keeps

theorem State.frameMissing_keeps {s : State} (b5 : k.blk 5 = false) (b6 : k.blk 6 = false) (b10 : k.blk 10 = false) (b12 : k.blk 12 = false) (b13 : k.blk 13 = false) (b18 : k.blk 18 = false) (b20 : k.blk 20 = false) (b22 : k.blk 22 = false) (h : State.Keeps k s0 s) (a1 : Nat) (a2 : Nat) (a3 : Bool) :
    State.Keeps k s0 (State.frameMissing s a1 a2 a3) := by
  unfold State.frameMissing
  repeat' first
    | with_reducible assumption
    | (with_reducible show Fld.Listed _; decide)
    | (show Kept.blk _ _ = false; first | exact b5 | exact b6 | exact b10 | exact b12 | exact b13 | exact b18 | exact b20 | exact b22)
    | with_reducible refine Keeps.ite (P := State.Keeps _ _) ?_ ?_
    | (extract_lets -underBinder +onlyGivenNames x; refine Keeps.cut (k := k) (s0 := s0) (x := x) ?_ ?_ <;> first | (intro _; revert x; intro _ _) | (unfold x; clear x))
    | (extract_lets -underBinder +onlyGivenNames x; unfold x; clear x)
    | with_reducible apply State.mgmtUnanswered_keeps
    | with_reducible apply State.setDrop_keeps
    | with_reducible apply State.backToEnum_keeps
    | with_reducible apply State.bump_keeps
    | with_reducible apply State.lsnNoFrame_keeps
    | with_reducible apply State.setBitOf_keeps
    | with_reducible apply State.set_keeps
    | with_reducible apply State.event_keeps
    | with_reducible apply State.pruneSafe_keeps
    | with_reducible apply State.lsnDrop_keeps
    | with_reducible apply State.dropOps_keeps
    | with_reducible apply State.setConv_keeps
    | with_reducible apply State.legF1_keeps
    | split

theorem State.frameTaken_keeps {s : State} (b5 : k.blk 5 = false) (b6 : k.blk 6 = false) (b8 : k.blk 8 = false) (b12 : k.blk 12 = false) (b13 : k.blk 13 = false) (b18 : k.blk 18 = false) (b20 : k.blk 20 = false) (b22 : k.blk 22 = false) (h : State.Keeps k s0 s) (a1 : Nat) (a2 : Nat) (a3 : DataFrame) (a4 : Int) :
    State.Keeps k s0 (State.frameTaken s a1 a2 a3 a4) := by
  unfold State.frameTaken
  repeat' first
    | with_reducible assumption
    | (show Kept.blk _ _ = false; first | exact b5 | exact b6 | exact b8 | exact b12 | exact b13 | exact b18 | exact b20 | exact b22)
    | with_reducible refine Keeps.ite (P := State.Keeps _ _) ?_ ?_
    | (extract_lets -underBinder +onlyGivenNames x; unfold x; clear x)
    | with_reducible apply State.judgeStatus_keeps
    | with_reducible apply State.setDrop_keeps

theorem State.frameAdmitted_keeps {s : State} (b5 : k.blk 5 = false) (b6 : k.blk 6 = false) (b8 : k.blk 8 = false) (b10 : k.blk 10 = false) (b12 : k.blk 12 = false) (b13 : k.blk 13 = false) (b18 : k.blk 18 = false) (b20 : k.blk 20 = false) (b22 : k.blk 22 = false) (h : State.Keeps k s0 s) (a1 : Nat) (a2 : Nat) (a3 : DataFrame) :
    State.Keeps k s0 (State.frameAdmitted s a1 a2 a3) := by
  unfold State.frameAdmitted
  repeat' first
    | with_reducible assumption
    | (show Kept.blk _ _ = false; first | exact b5 | exact b6 | exact b8 | exact b10 | exact b12 | exact b13 | exact b18 | exact b20 | exact b22)
    | with_reducible refine Keeps.ite (P := State.Keeps _ _) ?_ ?_
    | (extract_lets -underBinder +onlyGivenNames x; refine Keeps.cut (k := k) (s0 := s0) (x := x) ?_ ?_ <;> first | (intro _; revert x; intro _ _) | (unfold x; clear x))
    | (extract_lets -underBinder +onlyGivenNames x; unfold x; clear x)
    | with_reducible apply State.lsnFrame_keeps
    | with_reducible apply State.judgeStale_keeps
    | with_reducible apply State.judgeDisc_keeps
    | with_reducible apply State.mgmtUnanswered_keeps
    | with_reducible apply State.mgmtAnswer_keeps
    | with_reducible apply State.pruneSafe_keeps

theorem State.dropDelay_keeps {s : State} (b6 : k.blk 6 = false) (h : State.Keeps k s0 s) (a1 : Nat) :
    State.Keeps k s0 (State.dropDelay s a1) := by
  unfold State.dropDelay
  repeat' first
    | with_reducible assumption
    | (show Kept.blk _ _ = false; first | exact b6)
    | (extract_lets -underBinder +onlyGivenNames x; unfold x; clear x)
    | with_reducible apply State.setBus_keeps

theorem State.frameAdmission_keeps {s : State} (b5 : k.blk 5 = false) (b6 : k.blk 6 = false) (b8 : k.blk 8 = false) (b12 : k.blk 12 = false) (b13 : k.blk 13 = false) (b18 : k.blk 18 = false) (b20 : k.blk 20 = false) (b22 : k.blk 22 = false) (h : State.Keeps k s0 s) (a1 : Nat) (a2 : Nat) (a3 : DataFrame) :
    State.Keeps k s0 (State.frameAdmission s a1 a2 a3) := by
  unfold State.frameAdmission
  repeat' first
    | with_reducible assumption
    | (with_reducible show Fld.Listed _; decide)
    | (show Kept.blk _ _ = false; first | exact b5 | exact b6 | exact b8 | exact b12 | exact b13 | exact b18 | exact b20 | exact b22)
    | with_reducible refine Keeps.ite (P := State.Keeps _ _) ?_ ?_
    | (extract_lets -underBinder +onlyGivenNames x; refine Keeps.cut (k := k) (s0 := s0) (x := x) ?_ ?_ <;> first | (intro _; revert x; intro _ _) | (unfold x; clear x))
    | (extract_lets -underBinder +onlyGivenNames x; unfold x; clear x)
    | with_reducible apply State.mgmtUnanswered_keeps
    | with_reducible apply State.mgmtAnswer_keeps
    | with_reducible apply State.cfgBatch_keeps
    | with_reducible apply State.set_keeps
    | with_reducible apply State.setDrop_keeps
    | with_reducible apply State.dropDelay_keeps
    | with_reducible apply State.dropAdmit_keeps

theorem State.dataArrives_keeps {s : State} (b5 : k.blk 5 = false) (b6 : k.blk 6 = false) (b8 : k.blk 8 = false) (b10 : k.blk 10 = false) (b12 : k.blk 12 = false) (b13 : k.blk 13 = false) (b18 : k.blk 18 = false) (b20 : k.blk 20 = false) (b22 : k.blk 22 = false) (h : State.Keeps k s0 s) (a1 : Nat) (a2 : Nat) (a3 : BitVec 64) (a4 : Int) :
    State.Keeps k s0 (State.dataArrives s a1 a2 a3 a4) := by
  unfold State.dataArrives
  repeat' first
    | with_reducible assumption
    | (show Kept.blk _ _ = false; first | exact b5 | exact b6 | exact b8 | exact b10 | exact b12 | exact b13 | exact b18 | exact b20 | exact b22)
    | with_reducible refine Keeps.ite (P := State.Keeps _ _) ?_ ?_
    | (extract_lets -underBinder +onlyGivenNames x; refine Keeps.cut (k := k) (s0 := s0) (x := x) ?_ ?_ <;> first | (intro _; revert x; intro _ _) | (unfold x; clear x))
    | (extract_lets -underBinder +onlyGivenNames x; unfold x; clear x)
    | with_reducible apply State.frameMissing_keeps
    | with_reducible apply State.frameTaken_keeps
    | with_reducible apply State.frameAdmitted_keeps
    | with_reducible apply State.frameAdmission_keeps
    | split

theorem State.writeBtrCtrl_keeps {s : State} (hresp : k.resp = false) (b6 : k.blk 6 = false) (h : State.Keeps k s0 s) (a1 : Acc) (a2 : Nat) (a3 : Nat) :
    State.Keeps k s0 (State.writeBtrCtrl s a1 a2 a3) := by
  unfold State.writeBtrCtrl
  repeat' first
    | with_reducible assumption
    | with_reducible refine Keeps.ite (P := State.Keeps _ _) ?_ ?_
    | with_reducible apply State.busErr_keeps
    | with_reducible apply State.ok_keeps
    | with_reducible apply State.sendClear_keeps

theorem State.staleReread_keeps {s : State} (b6 : k.blk 6 = false) (h : State.Keeps k s0 s) (a1 : Nat) (a2 : Nat) :
    State.Keeps k s0 (State.staleReread s a1 a2) := by
  unfold State.staleReread
  repeat' first
    | with_reducible assumption
    | (show Kept.blk _ _ = false; first | exact b6)
    | with_reducible refine Keeps.ite (P := State.Keeps _ _) ?_ ?_
    | (extract_lets -underBinder +onlyGivenNames x; unfold x; clear x)
    | with_reducible apply State.mgmt_keeps
    | with_reducible apply State.setDrop_keeps

theorem execSelvedgeCycleStart_keeps {s : State} (b6 : k.blk 6 = false) (b8 : k.blk 8 = false) (b18 : k.blk 18 = false) (h : State.Keeps k s0 s) (a0 : Nat) (a1 : Fin 16) :
    OutKeeps k s0 (execSelvedgeCycleStart a0 a1 s) := by
  unfold execSelvedgeCycleStart
  repeat' first
    | with_reducible assumption
    | (show Kept.blk _ _ = false; first | exact b6 | exact b8 | exact b18)
    | refine OutKeeps.next ?_
    | with_reducible apply State.busCycleStart_keeps
    | with_reducible apply State.touch_keeps

theorem execFrameBSend_keeps {s : State} (b6 : k.blk 6 = false) (b18 : k.blk 18 = false) (h : State.Keeps k s0 s) (a0 : Nat) (a1 : Fin 16) :
    OutKeeps k s0 (execFrameBSend a0 a1 s) := by
  unfold execFrameBSend
  repeat' first
    | with_reducible assumption
    | refine OutKeeps.next ?_
    | with_reducible refine Keeps.ite (P := State.Keeps _ _) ?_ ?_
    | with_reducible apply State.touch_keeps
    | with_reducible apply State.sendFrame_keeps

theorem execMgmtRetry_keeps {s : State} (b6 : k.blk 6 = false) (h : State.Keeps k s0 s) (a0 : Nat) (a1 : Fin 256) (a2 : Fin 4) :
    OutKeeps k s0 (execMgmtRetry a0 a1 a2 s) := by
  unfold execMgmtRetry
  repeat' first
    | with_reducible assumption
    | refine OutKeeps.next ?_
    | with_reducible apply State.touch_keeps
    | with_reducible apply State.mgmtRetry_keeps

theorem execUpstreamDataFrame_keeps {s : State} (b5 : k.blk 5 = false) (b6 : k.blk 6 = false) (b8 : k.blk 8 = false) (b10 : k.blk 10 = false) (b12 : k.blk 12 = false) (b13 : k.blk 13 = false) (b18 : k.blk 18 = false) (b20 : k.blk 20 = false) (b22 : k.blk 22 = false) (h : State.Keeps k s0 s) (a0 : Nat) (a1 : Fin 256) (a2 : BitVec 64) (a3 : Int) :
    OutKeeps k s0 (execUpstreamDataFrame a0 a1 a2 a3 s) := by
  unfold execUpstreamDataFrame
  repeat' first
    | with_reducible assumption
    | refine OutKeeps.next ?_
    | with_reducible apply State.touch_keeps
    | with_reducible apply State.dataArrives_keeps

theorem execDataFrameMissing_keeps {s : State} (b5 : k.blk 5 = false) (b6 : k.blk 6 = false) (b10 : k.blk 10 = false) (b12 : k.blk 12 = false) (b13 : k.blk 13 = false) (b18 : k.blk 18 = false) (b20 : k.blk 20 = false) (b22 : k.blk 22 = false) (h : State.Keeps k s0 s) (a0 : Nat) (a1 : Fin 256) (a2 : Bool) :
    OutKeeps k s0 (execDataFrameMissing a0 a1 a2 s) := by
  unfold execDataFrameMissing
  repeat' first
    | with_reducible assumption
    | refine OutKeeps.next ?_
    | with_reducible refine Keeps.ite (P := State.Keeps _ _) ?_ ?_
    | with_reducible apply State.touch_keeps
    | with_reducible apply State.frameMissing_keeps

theorem execEnumAnswer_keeps {s : State} (b6 : k.blk 6 = false) (b8 : k.blk 8 = false) (b18 : k.blk 18 = false) (h : State.Keeps k s0 s) (a0 : Nat) (a1 : Fin 256) (a2 : BitVec 56) :
    OutKeeps k s0 (execEnumAnswer a0 a1 a2 s) := by
  unfold execEnumAnswer
  repeat' first
    | with_reducible assumption
    | refine OutKeeps.next ?_
    | with_reducible apply State.touch_keeps
    | with_reducible apply State.enumAnswer_keeps

theorem execCalEcho_keeps {s : State} (b6 : k.blk 6 = false) (h : State.Keeps k s0 s) (a0 : Nat) (a1 : Fin 256) (a2 : EchoRx) :
    OutKeeps k s0 (execCalEcho a0 a1 a2 s) := by
  unfold execCalEcho
  repeat' first
    | with_reducible assumption
    | (show Kept.blk _ _ = false; first | exact b6)
    | refine OutKeeps.next ?_
    | with_reducible apply State.calEcho_keeps
    | with_reducible apply State.touch_keeps

theorem execDelayDriftCorrect_keeps {s : State} (b6 : k.blk 6 = false) (b18 : k.blk 18 = false) (h : State.Keeps k s0 s) (a0 : Nat) (a1 : Fin 256) :
    OutKeeps k s0 (execDelayDriftCorrect a0 a1 s) := by
  unfold execDelayDriftCorrect
  repeat' first
    | with_reducible assumption
    | refine OutKeeps.next ?_
    | with_reducible apply State.touch_keeps
    | with_reducible apply State.driftCorrect_keeps

theorem execBtrCtrlWrite_keeps {s : State} (hresp : k.resp = false) (b6 : k.blk 6 = false) (h : State.Keeps k s0 s) (a0 : Acc) (a1 : Fin 256) (a2 : Word) :
    OutKeeps k s0 (execBtrCtrlWrite a0 a1 a2 s) := by
  unfold execBtrCtrlWrite
  repeat' first
    | with_reducible assumption
    | refine OutKeeps.next ?_
    | with_reducible apply State.touch_keeps
    | with_reducible apply State.writeBtrCtrl_keeps

theorem execStaleReread_keeps {s : State} (b6 : k.blk 6 = false) (h : State.Keeps k s0 s) (a0 : Nat) (a1 : Fin 256) :
    OutKeeps k s0 (execStaleReread a0 a1 s) := by
  unfold execStaleReread
  repeat' first
    | with_reducible assumption
    | refine OutKeeps.next ?_
    | with_reducible apply State.touch_keeps
    | with_reducible apply State.staleReread_keeps

end Sys2Proof.Machine
end

