-- ==== Sys2Proof/Laws/Keeps/JournalFam.lean ====
section
/-!
SUPPORT. Sys2Proof/Laws/Keeps/JournalFam.lean: what each operation of Machine/JournalFam.lean keeps.
-/

set_option Elab.async false

namespace Sys2Proof.Machine

set_option linter.tactic.unusedName false

variable {k : Kept} {s0 : State}

theorem State.countBad_keeps {s : State} (b18 : k.blk 18 = false) (b20 : k.blk 20 = false) (h : State.Keeps k s0 s) (a1 : Nat) :
    State.Keeps k s0 (State.countBad s a1) := by
  unfold State.countBad
  repeat' first
    | with_reducible assumption
    | (with_reducible show Fld.Listed _; decide)
    | (show Kept.blk _ _ = false; first | exact b18 | exact b20)
    | with_reducible refine Keeps.ite (P := State.Keeps _ _) ?_ ?_
    | with_reducible apply State.event_keeps
    | with_reducible apply State.bumpBy_keeps

theorem State.replayAct_keeps {s : State} (b13 : k.blk 13 = false) (b14 : k.blk 14 = false) (b17 : k.blk 17 = false) (b20 : k.blk 20 = false) (h : State.Keeps k s0 s) (a1 : OpRec) :
    State.Keeps k s0 (State.replayAct s a1) := by
  unfold State.replayAct
  repeat' first
    | with_reducible assumption
    | (show Kept.blk _ _ = false; first | exact b13 | exact b14 | exact b17 | exact b20)
    | (extract_lets -underBinder +onlyGivenNames x; unfold x; clear x)
    | with_reducible apply State.setAxs_keeps
    | with_reducible apply State.setAux_keeps
    | with_reducible apply State.jlnRequeue_keeps
    | (with_reducible refine Keeps.upd (h := ?_); first | with_reducible assumption | with_reducible apply State.setAxs_keeps | with_reducible apply State.setAux_keeps | with_reducible apply State.jlnRequeue_keeps | with_reducible refine Keeps.ite (P := State.Keeps _ _) ?_ ?_ | with_reducible refine Keeps.foldl (fun _ _ _ => ?_) ?_)
    | split

theorem State.replayOp_keeps {s : State} (b13 : k.blk 13 = false) (b14 : k.blk 14 = false) (b17 : k.blk 17 = false) (b18 : k.blk 18 = false) (b20 : k.blk 20 = false) (h : State.Keeps k s0 s) (a1 : OpRec) :
    State.Keeps k s0 (State.replayOp s a1) := by
  unfold State.replayOp
  repeat' first
    | with_reducible assumption
    | (with_reducible show Fld.Listed _; decide)
    | (show Kept.blk _ _ = false; first | exact b13 | exact b14 | exact b17 | exact b18 | exact b20)
    | with_reducible refine Keeps.ite (P := State.Keeps _ _) ?_ ?_
    | (extract_lets -underBinder +onlyGivenNames x; unfold x; clear x)
    | with_reducible apply State.set_keeps
    | with_reducible apply State.closeOp_keeps
    | with_reducible apply State.replayAct_keeps
    | (with_reducible refine Keeps.upd (h := ?_); first | with_reducible assumption | with_reducible apply State.ringPut_keeps | with_reducible apply State.closeOp_keeps | with_reducible apply State.replayAct_keeps | with_reducible apply State.set_keeps | with_reducible refine Keeps.ite (P := State.Keeps _ _) ?_ ?_ | with_reducible refine Keeps.foldl (fun _ _ _ => ?_) ?_)

theorem State.loadEnergy_keeps {s : State} (b16 : k.blk 16 = false) (h : State.Keeps k s0 s) (a1 : Nat) (a2 : JSource) (a3 : JGrp) :
    State.Keeps k s0 (State.loadEnergy s a1 a2 a3) := by
  unfold State.loadEnergy
  repeat' first
    | with_reducible assumption
    | (with_reducible show Fld.Listed _; decide)
    | (show Kept.blk _ _ = false; first | exact b16)
    | (extract_lets -underBinder +onlyGivenNames x; refine Keeps.cut (k := k) (s0 := s0) (x := x) ?_ ?_ <;> first | (intro _; revert x; intro _ _) | (unfold x; clear x))
    | (extract_lets -underBinder +onlyGivenNames x; unfold x; clear x)
    | with_reducible refine Keeps.foldl (fun _ _ _ => ?_) ?_
    | with_reducible apply State.set64_keeps
    | with_reducible apply State.setMtr_keeps

theorem State.portResume_keeps {s : State} (b16 : k.blk 16 = false) (b18 : k.blk 18 = false) (b20 : k.blk 20 = false) (h : State.Keeps k s0 s) (a1 : Nat) (a2 : Nat) (a3 : JSource) :
    State.Keeps k s0 (State.portResume s a1 a2 a3) := by
  unfold State.portResume
  repeat' first
    | with_reducible assumption
    | (with_reducible show Fld.Listed _; decide)
    | (show Kept.blk _ _ = false; first | exact b16 | exact b18 | exact b20)
    | with_reducible refine Keeps.ite (P := State.Keeps _ _) ?_ ?_
    | (extract_lets -underBinder +onlyGivenNames x; unfold x; clear x)
    | with_reducible apply State.setMtr_keeps
    | with_reducible apply State.event_keeps
    | with_reducible apply State.mtrCheckpoint_keeps
    | with_reducible apply State.loadEnergy_keeps
    | split

theorem State.eraseRing_keeps {s : State} (b20 : k.blk 20 = false) (h : State.Keeps k s0 s) :
    State.Keeps k s0 (State.eraseRing s) := by
  unfold State.eraseRing
  repeat' first
    | with_reducible assumption
    | with_reducible refine Keeps.ite (P := State.Keeps _ _) ?_ ?_
    | (extract_lets -underBinder +onlyGivenNames x; unfold x; clear x)
    | (with_reducible refine Keeps.upd (h := ?_); first | with_reducible assumption | with_reducible refine Keeps.ite (P := State.Keeps _ _) ?_ ?_ | with_reducible refine Keeps.foldl (fun _ _ _ => ?_) ?_)

theorem State.jnlOpen_keeps {s : State} (b20 : k.blk 20 = false) (h : State.Keeps k s0 s) (a1 : Nat) (a2 : JSource) :
    State.Keeps k s0 (State.jnlOpen s a1 a2) := by
  unfold State.jnlOpen
  repeat' first
    | with_reducible assumption
    | (with_reducible show Fld.Listed _; decide)
    | (show Kept.blk _ _ = false; first | exact b20)
    | (extract_lets -underBinder +onlyGivenNames x; refine Keeps.cut (k := k) (s0 := s0) (x := x) ?_ ?_ <;> first | (intro _; revert x; intro _ _) | (unfold x; clear x))
    | (extract_lets -underBinder +onlyGivenNames x; unfold x; clear x)
    | with_reducible apply State.notePins_keeps
    | with_reducible apply State.set_keeps
    | (with_reducible refine Keeps.upd (h := ?_); first | with_reducible assumption | with_reducible apply State.notePins_keeps | with_reducible apply State.set_keeps | with_reducible refine Keeps.ite (P := State.Keeps _ _) ?_ ?_ | with_reducible refine Keeps.foldl (fun _ _ _ => ?_) ?_)
    | split

theorem State.jnlReplay_keeps {s : State} (b13 : k.blk 13 = false) (b14 : k.blk 14 = false) (b17 : k.blk 17 = false) (b18 : k.blk 18 = false) (b20 : k.blk 20 = false) (h : State.Keeps k s0 s) (a1 : Nat) (a2 : JSource) :
    State.Keeps k s0 (State.jnlReplay s a1 a2) := by
  unfold State.jnlReplay
  repeat' first
    | with_reducible assumption
    | (with_reducible show Fld.Listed _; decide)
    | (show Kept.blk _ _ = false; first | exact b13 | exact b14 | exact b17 | exact b18 | exact b20)
    | (extract_lets -underBinder +onlyGivenNames x; refine Keeps.cut (k := k) (s0 := s0) (x := x) ?_ ?_ <;> first | (intro _; revert x; intro _ _) | (unfold x; clear x))
    | (extract_lets -underBinder +onlyGivenNames x; unfold x; clear x)
    | with_reducible refine Keeps.foldl (fun _ _ _ => ?_) ?_
    | with_reducible apply State.set_keeps
    | with_reducible apply State.countBad_keeps
    | with_reducible apply State.jnlOpen_keeps
    | with_reducible apply State.replayOp_keeps
    | with_reducible apply State.noteOpen_keeps
    | with_reducible apply State.jnlWrite_keeps

theorem State.portsStart_keeps {s : State} (b0 : k.blk 0 = false) (b16 : k.blk 16 = false) (b18 : k.blk 18 = false) (b20 : k.blk 20 = false) (h : State.Keeps k s0 s) (a1 : Nat) (a2 : JSource) :
    State.Keeps k s0 (State.portsStart s a1 a2) := by
  unfold State.portsStart
  repeat' first
    | with_reducible assumption
    | (show Kept.blk _ _ = false; first | exact b0 | exact b16 | exact b18 | exact b20)
    | (extract_lets -underBinder +onlyGivenNames x; refine Keeps.cut (k := k) (s0 := s0) (x := x) ?_ ?_ <;> first | (intro _; revert x; intro _ _) | (unfold x; clear x))
    | (extract_lets -underBinder +onlyGivenNames x; unfold x; clear x)
    | with_reducible refine Keeps.foldl (fun _ _ _ => ?_) ?_
    | with_reducible apply State.sealPort_keeps
    | with_reducible apply State.portResume_keeps
    | with_reducible apply State.coverPorts_keeps
    | with_reducible apply State.coverWaiting_keeps

theorem State.closePass_keeps {s : State} (b18 : k.blk 18 = false) (b20 : k.blk 20 = false) (h : State.Keeps k s0 s) :
    State.Keeps k s0 (State.closePass s) := by
  unfold State.closePass
  repeat' first
    | with_reducible assumption
    | with_reducible refine Keeps.ite (P := State.Keeps _ _) ?_ ?_
    | (extract_lets -underBinder +onlyGivenNames x; refine Keeps.cut (k := k) (s0 := s0) (x := x) ?_ ?_ <;> first | (intro _; revert x; intro _ _) | (unfold x; clear x))
    | (extract_lets -underBinder +onlyGivenNames x; unfold x; clear x)
    | with_reducible apply State.closeOp_keeps
    | (with_reducible refine Keeps.upd (h := ?_); first | with_reducible assumption | with_reducible apply State.closeOp_keeps | with_reducible refine Keeps.ite (P := State.Keeps _ _) ?_ ?_ | with_reducible refine Keeps.foldl (fun _ _ _ => ?_) ?_)
    | split

theorem State.mirrorDone_keeps {s : State} (b0 : k.blk 0 = false) (b16 : k.blk 16 = false) (b18 : k.blk 18 = false) (b20 : k.blk 20 = false) (h : State.Keeps k s0 s) (a1 : JGrp) :
    State.Keeps k s0 (State.mirrorDone s a1) := by
  unfold State.mirrorDone
  repeat' first
    | with_reducible assumption
    | with_reducible refine Keeps.ite (P := State.Keeps _ _) ?_ ?_
    | (extract_lets -underBinder +onlyGivenNames x; refine Keeps.cut (k := k) (s0 := s0) (x := x) ?_ ?_ <;> first | (intro _; revert x; intro _ _) | (unfold x; clear x))
    | (extract_lets -underBinder +onlyGivenNames x; unfold x; clear x)
    | with_reducible apply State.pinsFreed_keeps
    | with_reducible apply State.pinAckOf_keeps
    | (with_reducible refine Keeps.upd (h := ?_); first | with_reducible assumption | with_reducible apply State.pinsFreed_keeps | with_reducible apply State.pinAckOf_keeps | with_reducible refine Keeps.ite (P := State.Keeps _ _) ?_ ?_ | with_reducible refine Keeps.foldl (fun _ _ _ => ?_) ?_)

theorem State.mirrorCopy_keeps {s : State} (b0 : k.blk 0 = false) (b16 : k.blk 16 = false) (b18 : k.blk 18 = false) (b20 : k.blk 20 = false) (h : State.Keeps k s0 s) (a1 : Bool) :
    State.Keeps k s0 (State.mirrorCopy s a1) := by
  unfold State.mirrorCopy
  repeat' first
    | with_reducible assumption
    | (with_reducible show Fld.Listed _; decide)
    | (show Kept.blk _ _ = false; first | exact b0 | exact b16 | exact b18 | exact b20)
    | with_reducible refine Keeps.ite (P := State.Keeps _ _) ?_ ?_
    | (extract_lets -underBinder +onlyGivenNames x; refine Keeps.cut (k := k) (s0 := s0) (x := x) ?_ ?_ <;> first | (intro _; revert x; intro _ _) | (unfold x; clear x))
    | (extract_lets -underBinder +onlyGivenNames x; unfold x; clear x)
    | with_reducible apply State.set_keeps
    | with_reducible apply State.event_keeps
    | with_reducible apply State.progOp_keeps
    | with_reducible apply State.closePass_keeps
    | with_reducible apply State.mirrorDone_keeps
    | (with_reducible refine Keeps.upd (h := ?_); first | with_reducible assumption | with_reducible apply State.event_keeps | with_reducible apply State.progOp_keeps | with_reducible apply State.closePass_keeps | with_reducible apply State.mirrorDone_keeps | with_reducible apply State.set_keeps | with_reducible refine Keeps.ite (P := State.Keeps _ _) ?_ ?_ | with_reducible refine Keeps.foldl (fun _ _ _ => ?_) ?_)
    | split

theorem execMirrorRecordCopy_keeps {s : State} (b0 : k.blk 0 = false) (b16 : k.blk 16 = false) (b18 : k.blk 18 = false) (b20 : k.blk 20 = false) (h : State.Keeps k s0 s) (a0 : Nat) (a1 : Bool) :
    OutKeeps k s0 (execMirrorRecordCopy a0 a1 s) := by
  unfold execMirrorRecordCopy
  repeat' first
    | with_reducible assumption
    | refine OutKeeps.next ?_
    | with_reducible apply State.touch_keeps
    | with_reducible apply State.mirrorCopy_keeps

end Sys2Proof.Machine
end

