-- ==== Sys2Proof/Laws/Keeps/Load.lean ====
section
/-!
SUPPORT. Sys2Proof/Laws/Keeps/Load.lean: what each operation of Machine/Load.lean keeps.
-/

set_option Elab.async false

namespace Sys2Proof.Machine

set_option linter.tactic.unusedName false

variable {k : Kept} {s0 : State}

theorem State.loadWords_keeps {s : State} (ball : ∀ b, k.blk b = false) (h : State.Keeps k s0 s) (a1 : Rec) (a2 : Nat) (a3 : List (Nat × Reg)) :
    State.Keeps k s0 (State.loadWords s a1 a2 a3) := by
  unfold State.loadWords
  repeat' first
    | with_reducible assumption
    | (show Kept.blk _ _ = false; first | exact ball _)
    | with_reducible refine Keeps.foldl (fun _ _ _ => ?_) ?_
    | with_reducible apply State.setReg_keeps

theorem State.loadLsn_keeps {s : State} (b10 : k.blk 10 = false) (h : State.Keeps k s0 s) (a1 : Rec) (a2 : Nat) (a3 : Nat) (a4 : Nat) (a5 : Bool) :
    State.Keeps k s0 (State.loadLsn s a1 a2 a3 a4 a5) := by
  unfold State.loadLsn
  repeat' first
    | with_reducible assumption
    | (with_reducible show Fld.Listed _; decide)
    | (show Kept.blk _ _ = false; first | exact b10)
    | with_reducible refine Keeps.ite (P := State.Keeps _ _) ?_ ?_
    | (extract_lets -underBinder +onlyGivenNames x; refine Keeps.cut (k := k) (s0 := s0) (x := x) ?_ ?_ <;> first | (intro _; revert x; intro _ _) | (unfold x; clear x))
    | (extract_lets -underBinder +onlyGivenNames x; unfold x; clear x)
    | with_reducible apply State.set_keeps
    | with_reducible apply State.setFlag_keeps
    | with_reducible apply State.setReg_keeps

theorem State.loadJournal_keeps {s : State} (b20 : k.blk 20 = false) (h : State.Keeps k s0 s) (a1 : Rec) :
    State.Keeps k s0 (State.loadJournal s a1) := by
  unfold State.loadJournal
  repeat' first
    | with_reducible assumption
    | (with_reducible show Fld.Listed _; decide)
    | (show Kept.blk _ _ = false; first | exact b20)
    | with_reducible apply State.set_keeps

theorem State.loadRec_keeps {s : State} (ball : ∀ b, k.blk b = false) (h : State.Keeps k s0 s) (a1 : Rec) :
    State.Keeps k s0 (State.loadRec s a1) := by
  unfold State.loadRec
  repeat' first
    | with_reducible assumption
    | (with_reducible show Fld.Listed _; decide)
    | (show Kept.blk _ _ = false; first | exact ball _)
    | with_reducible refine Keeps.ite (P := State.Keeps _ _) ?_ ?_
    | (extract_lets -underBinder +onlyGivenNames x; refine Keeps.cut (k := k) (s0 := s0) (x := x) ?_ ?_ <;> first | (intro _; revert x; intro _ _) | (unfold x; clear x))
    | (extract_lets -underBinder +onlyGivenNames x; unfold x; clear x)
    | with_reducible refine Keeps.foldl (fun _ _ _ => ?_) ?_
    | with_reducible apply State.set_keeps
    | with_reducible apply State.loadWords_keeps
    | with_reducible apply State.setReg_keeps
    | with_reducible apply State.loadLsn_keeps
    | with_reducible apply State.loadJournal_keeps
    | split

theorem State.loadOwners_keeps {s : State} (b0 : k.blk 0 = false) (b5 : k.blk 5 = false) (h : State.Keeps k s0 s) (a1 : Cfg) :
    State.Keeps k s0 (State.loadOwners s a1) := by
  unfold State.loadOwners
  repeat' first
    | with_reducible assumption
    | (with_reducible show Fld.Listed _; decide)
    | (show Kept.blk _ _ = false; first | exact b0 | exact b5)
    | (extract_lets -underBinder +onlyGivenNames x; refine Keeps.cut (k := k) (s0 := s0) (x := x) ?_ ?_ <;> first | (intro _; revert x; intro _ _) | (unfold x; clear x))
    | (extract_lets -underBinder +onlyGivenNames x; unfold x; clear x)
    | with_reducible refine Keeps.foldl (fun _ _ _ => ?_) ?_
    | with_reducible apply State.set_keeps
    | (with_reducible refine Keeps.upd (h := ?_); first | with_reducible assumption | with_reducible apply State.set_keeps | with_reducible refine Keeps.ite (P := State.Keeps _ _) ?_ ?_ | with_reducible refine Keeps.foldl (fun _ _ _ => ?_) ?_)

theorem State.loadLegs_keeps {s : State} (b5 : k.blk 5 = false) (b8 : k.blk 8 = false) (h : State.Keeps k s0 s) (a1 : Cfg) :
    State.Keeps k s0 (State.loadLegs s a1) := by
  unfold State.loadLegs
  repeat' first
    | with_reducible assumption
    | (with_reducible show Fld.Listed _; decide)
    | (show Kept.blk _ _ = false; first | exact b5 | exact b8)
    | with_reducible refine Keeps.foldl (fun _ _ _ => ?_) ?_
    | with_reducible apply State.set_keeps

theorem State.loadBrakes_keeps {s : State} (b5 : k.blk 5 = false) (b8 : k.blk 8 = false) (b11 : k.blk 11 = false) (h : State.Keeps k s0 s) (a1 : Cfg) :
    State.Keeps k s0 (State.loadBrakes s a1) := by
  unfold State.loadBrakes
  repeat' first
    | with_reducible assumption
    | (with_reducible show Fld.Listed _; decide)
    | (show Kept.blk _ _ = false; first | exact b5 | exact b8 | exact b11)
    | with_reducible refine Keeps.ite (P := State.Keeps _ _) ?_ ?_
    | (extract_lets -underBinder +onlyGivenNames x; refine Keeps.cut (k := k) (s0 := s0) (x := x) ?_ ?_ <;> first | (intro _; revert x; intro _ _) | (unfold x; clear x))
    | (extract_lets -underBinder +onlyGivenNames x; unfold x; clear x)
    | with_reducible refine Keeps.foldl (fun _ _ _ => ?_) ?_
    | with_reducible apply State.set_keeps

theorem State.loadClaims_keeps {s : State} (b11 : k.blk 11 = false) (h : State.Keeps k s0 s) (a1 : Cfg) :
    State.Keeps k s0 (State.loadClaims s a1) := by
  unfold State.loadClaims
  repeat' first
    | with_reducible assumption
    | (with_reducible show Fld.Listed _; decide)
    | (show Kept.blk _ _ = false; first | exact b11)
    | with_reducible refine Keeps.foldl (fun _ _ _ => ?_) ?_
    | with_reducible apply State.set_keeps

theorem State.loadLegMap_keeps {s : State} (b6 : k.blk 6 = false) (h : State.Keeps k s0 s) (a1 : Cfg) :
    State.Keeps k s0 (State.loadLegMap s a1) := by
  unfold State.loadLegMap
  repeat' first
    | with_reducible assumption
    | (with_reducible show Fld.Listed _; decide)
    | (show Kept.blk _ _ = false; first | exact b6)
    | (extract_lets -underBinder +onlyGivenNames x; refine Keeps.cut (k := k) (s0 := s0) (x := x) ?_ ?_ <;> first | (intro _; revert x; intro _ _) | (unfold x; clear x))
    | with_reducible refine Keeps.foldl (fun _ _ _ => ?_) ?_
    | with_reducible apply State.setFlag_keeps

theorem State.loadRoutes_keeps {s : State} (b18 : k.blk 18 = false) (h : State.Keeps k s0 s) (a1 : Cfg) :
    State.Keeps k s0 (State.loadRoutes s a1) := by
  unfold State.loadRoutes
  repeat' first
    | with_reducible assumption
    | (with_reducible show Fld.Listed _; decide)
    | (show Kept.blk _ _ = false; first | exact b18)
    | with_reducible refine Keeps.foldl (fun _ _ _ => ?_) ?_
    | with_reducible apply State.set_keeps

theorem State.loadSlot_keeps {s : State} (b4 : k.blk 4 = false) (h : State.Keeps k s0 s) (a1 : Nat) :
    State.Keeps k s0 (State.loadSlot s a1) := by
  unfold State.loadSlot
  repeat' first
    | with_reducible assumption
    | with_reducible apply State.setSlot_keeps

theorem State.leaveWakes_keeps {s : State} (b21 : k.blk 21 = false) (h : State.Keeps k s0 s) :
    State.Keeps k s0 (State.leaveWakes s) := by
  unfold State.leaveWakes
  repeat' first
    | with_reducible assumption
    | (show Kept.blk _ _ = false; first | exact b21)
    | (extract_lets -underBinder +onlyGivenNames x; unfold x; clear x)
    | (with_reducible refine Keeps.upd (h := ?_); first | with_reducible assumption | with_reducible refine Keeps.ite (P := State.Keeps _ _) ?_ ?_ | with_reducible refine Keeps.foldl (fun _ _ _ => ?_) ?_)

theorem State.leaveUnder_keeps {s : State} (b21 : k.blk 21 = false) (h : State.Keeps k s0 s) (a1 : Cfg) :
    State.Keeps k s0 (State.leaveUnder s a1) := by
  unfold State.leaveUnder
  repeat' first
    | with_reducible assumption
    | (show Kept.blk _ _ = false; first | exact b21)
    | with_reducible refine Keeps.ite (P := State.Keeps _ _) ?_ ?_
    | (extract_lets -underBinder +onlyGivenNames x; refine Keeps.cut (k := k) (s0 := s0) (x := x) ?_ ?_ <;> first | (intro _; revert x; intro _ _) | (unfold x; clear x))
    | (extract_lets -underBinder +onlyGivenNames x; unfold x; clear x)
    | with_reducible apply State.leaveWakes_keeps
    | (with_reducible refine Keeps.upd (h := ?_); first | with_reducible assumption | with_reducible apply State.leaveWakes_keeps | with_reducible refine Keeps.ite (P := State.Keeps _ _) ?_ ?_ | with_reducible refine Keeps.foldl (fun _ _ _ => ?_) ?_)

theorem State.loadAll_keeps {s : State} (ball : ∀ b, k.blk b = false) (h : State.Keeps k s0 s) (a1 : Cfg) :
    State.Keeps k s0 (State.loadAll s a1) := by
  unfold State.loadAll
  repeat' first
    | with_reducible assumption
    | (show Kept.blk _ _ = false; first | exact ball _)
    | (extract_lets -underBinder +onlyGivenNames x; refine Keeps.cut (k := k) (s0 := s0) (x := x) ?_ ?_ <;> first | (intro _; revert x; intro _ _) | (unfold x; clear x))
    | (extract_lets -underBinder +onlyGivenNames x; unfold x; clear x)
    | with_reducible refine Keeps.foldl (fun _ _ _ => ?_) ?_
    | with_reducible apply State.loadRec_keeps
    | with_reducible apply State.loadClaims_keeps
    | with_reducible apply State.loadBrakes_keeps
    | with_reducible apply State.loadLegs_keeps
    | with_reducible apply State.loadOwners_keeps
    | with_reducible apply State.loadRoutes_keeps
    | with_reducible apply State.loadLegMap_keeps
    | with_reducible apply State.loadSlot_keeps
    | with_reducible apply State.leaveUnder_keeps
    | (with_reducible refine Keeps.upd (h := ?_); first | with_reducible assumption | with_reducible apply State.loadRec_keeps | with_reducible apply State.loadClaims_keeps | with_reducible apply State.loadBrakes_keeps | with_reducible apply State.loadLegs_keeps | with_reducible apply State.loadOwners_keeps | with_reducible apply State.loadRoutes_keeps | with_reducible apply State.loadLegMap_keeps | with_reducible apply State.loadSlot_keeps | with_reducible apply State.leaveUnder_keeps | with_reducible refine Keeps.ite (P := State.Keeps _ _) ?_ ?_ | with_reducible refine Keeps.foldl (fun _ _ _ => ?_) ?_)

end Sys2Proof.Machine
end

