-- ==== Sys2Proof/Laws/Keeps/Power.lean ====
section
/-!
SUPPORT. Sys2Proof/Laws/Keeps/Power.lean: what each operation of Machine/Power.lean keeps.
-/

set_option Elab.async false

namespace Sys2Proof.Machine

set_option linter.tactic.unusedName false

variable {k : Kept} {s0 : State}

theorem undercroftFields_listed : ∀ f ∈ undercroftFields, f.Listed :=
  fun _ hf => Reg.fields_listed hf

theorem undercroftFields_block : ∀ f ∈ undercroftFields, f.block = 21 := by decide

theorem State.copyFields_keeps {s : State} (ball : ∀ b, k.blk b = false) (h : State.Keeps k s0 s) (a1 : State) (a2 : List Fld) (a3 : Nat)
    (l2 : ∀ f ∈ a2, f.Listed) : State.Keeps k s0 (State.copyFields s a1 a2 a3) := by
  unfold State.copyFields
  exact Keeps.foldl_mem (fun x f hf hx => State.set_keeps hx f a3 _ (l2 f hf) (ball _)) h

theorem State.tamperKept_keeps {s : State} (b0 : k.blk 0 = false) (h : State.Keeps k s0 s) :
    State.Keeps k s0 (State.tamperKept s) := by
  unfold State.tamperKept
  repeat' first
    | with_reducible assumption
    | (with_reducible show Fld.Listed _; decide)
    | (show Kept.blk _ _ = false; first | exact b0)
    | (extract_lets -underBinder +onlyGivenNames x; unfold x; clear x)
    | with_reducible refine Keeps.foldl (fun _ _ _ => ?_) ?_
    | with_reducible apply State.set_keeps
    | (with_reducible refine Keeps.upd (h := ?_); first | with_reducible assumption | with_reducible apply State.set_keeps | with_reducible refine Keeps.ite (P := State.Keeps _ _) ?_ ?_ | with_reducible refine Keeps.foldl (fun _ _ _ => ?_) ?_)

theorem State.powerDown_keeps {s : State} (hmem : k.mem = false) (hcores : k.cores = false) (hcomp : k.comp = false) (hlatch : k.latch = false) (hresp : k.resp = false) (htime : k.time = false) (ball : ∀ b, k.blk b = false) (h : State.Keeps k s0 s) (a1 : Bool) : State.Keeps k s0 (State.powerDown s a1) := by
  unfold State.powerDown
  have ht : ∀ f ∈ [Fld.SYS_TAMPER_OPEN, Fld.SYS_TAMPER_PENDREC, Fld.SYS_TAMPER_COUNT], f.Listed := by decide
  refine State.copyFields_keeps ball (State.copyFields_keeps ball (State.copyFields_keeps ball ?_ _ _ _ undercroftFields_listed)
    _ _ _ ht) _ _ _ ht
  exact ⟨h.queue, fun _ => ⟨rfl, State.fieldsFit_of_nil rfl⟩, Keeps.off hmem, Keeps.off hcores, Keeps.off hcomp,
    Keeps.off hlatch, Keeps.off hresp, Keeps.off htime, fun b => Keeps.off (ball b)⟩

theorem State.ucrEvent_keeps {s : State} (b18 : k.blk 18 = false) (h : State.Keeps k s0 s) (a1 : Fld) (a2 : Nat) (l1 : a1.Listed) (m1 : k.blk a1.block = false) :
    State.Keeps k s0 (State.ucrEvent s a1 a2) := by
  unfold State.ucrEvent
  repeat' first
    | with_reducible assumption
    | with_reducible refine Keeps.ite (P := State.Keeps _ _) ?_ ?_
    | with_reducible apply State.set_keeps
    | with_reducible apply State.raise_keeps

theorem State.clearUnder_keeps {s : State} (b0 : k.blk 0 = false) (b21 : k.blk 21 = false) (h : State.Keeps k s0 s) : State.Keeps k s0 (State.clearUnder s) := by
  unfold State.clearUnder
  refine Keeps.foldl (fun x j hx => State.set_keeps (State.set_keeps (State.set_keeps hx _ _ _ ?_ (by first | exact b0 | exact b21)) _ _ _ ?_ (by first | exact b0 | exact b21))
    _ _ _ ?_ (by first | exact b0 | exact b21)) ?_
  · decide
  · decide
  · decide
  · refine Keeps.upd (h := ?_)
    exact Keeps.foldl_mem (fun x f hf hx => State.set_keeps hx f 0 _ (undercroftFields_listed f hf) (by rw [undercroftFields_block f hf]; exact b21)) h

theorem State.underStart_keeps {s : State} (b0 : k.blk 0 = false) (b21 : k.blk 21 = false) (h : State.Keeps k s0 s) :
    State.Keeps k s0 (State.underStart s) := by
  unfold State.underStart
  repeat' first
    | with_reducible assumption
    | with_reducible refine Keeps.ite (P := State.Keeps _ _) ?_ ?_
    | (extract_lets -underBinder +onlyGivenNames x; refine Keeps.cut (k := k) (s0 := s0) (x := x) ?_ ?_ <;> first | (intro _; revert x; intro _ _) | (unfold x; clear x))
    | (extract_lets -underBinder +onlyGivenNames x; unfold x; clear x)
    | with_reducible apply State.clearUnder_keeps
    | (with_reducible refine Keeps.upd (h := ?_); first | with_reducible assumption | with_reducible apply State.clearUnder_keeps | with_reducible refine Keeps.ite (P := State.Keeps _ _) ?_ ?_ | with_reducible refine Keeps.foldl (fun _ _ _ => ?_) ?_)

theorem State.harvester_keeps {s : State} (b18 : k.blk 18 = false) (b21 : k.blk 21 = false) (h : State.Keeps k s0 s) (a1 : Nat) :
    State.Keeps k s0 (State.harvester s a1) := by
  unfold State.harvester
  repeat' first
    | with_reducible assumption
    | (with_reducible show Fld.Listed _; decide)
    | (show Kept.blk _ _ = false; first | exact b18 | exact b21)
    | with_reducible refine Keeps.ite (P := State.Keeps _ _) ?_ ?_
    | (extract_lets -underBinder +onlyGivenNames x; refine Keeps.cut (k := k) (s0 := s0) (x := x) ?_ ?_ <;> first | (intro _; revert x; intro _ _) | (unfold x; clear x))
    | (extract_lets -underBinder +onlyGivenNames x; unfold x; clear x)
    | with_reducible apply State.set_keeps
    | with_reducible apply State.ucrEvent_keeps

theorem State.ucrTick_keeps {s : State} (b21 : k.blk 21 = false) (h : State.Keeps k s0 s) (a1 : Nat) :
    State.Keeps k s0 (State.ucrTick s a1) := by
  unfold State.ucrTick
  repeat' first
    | with_reducible assumption
    | (with_reducible show Fld.Listed _; decide)
    | (show Kept.blk _ _ = false; first | exact b21)
    | with_reducible refine Keeps.ite (P := State.Keeps _ _) ?_ ?_
    | with_reducible apply State.set64_keeps

theorem State.setCount_keeps {s : State} (b21 : k.blk 21 = false) (h : State.Keeps k s0 s) :
    State.Keeps k s0 (State.setCount s) := by
  unfold State.setCount
  repeat' first
    | with_reducible assumption
    | (with_reducible show Fld.Listed _; decide)
    | (show Kept.blk _ _ = false; first | exact b21)
    | with_reducible refine Keeps.ite (P := State.Keeps _ _) ?_ ?_
    | with_reducible apply State.set64_keeps

theorem State.tearLast_keeps {s : State} (b20 : k.blk 20 = false) (h : State.Keeps k s0 s) :
    State.Keeps k s0 (State.tearLast s) := by
  unfold State.tearLast
  repeat' first
    | with_reducible assumption
    | (extract_lets -underBinder +onlyGivenNames x; unfold x; clear x)
    | (with_reducible refine Keeps.upd (h := ?_); first | with_reducible assumption | with_reducible refine Keeps.ite (P := State.Keeps _ _) ?_ ?_ | with_reducible refine Keeps.foldl (fun _ _ _ => ?_) ?_)
    | split

theorem State.enterVigil_keeps {s : State} (hmem : k.mem = false) (hcores : k.cores = false) (hcomp : k.comp = false) (hlatch : k.latch = false) (hresp : k.resp = false) (htime : k.time = false) (ball : ∀ b, k.blk b = false) (h : State.Keeps k s0 s) (a1 : Bool) :
    State.Keeps k s0 (State.enterVigil s a1) := by
  unfold State.enterVigil
  repeat' first
    | with_reducible assumption
    | (with_reducible show Fld.Listed _; decide)
    | (show Kept.blk _ _ = false; first | exact ball _)
    | with_reducible refine Keeps.ite (P := State.Keeps _ _) ?_ ?_
    | (extract_lets -underBinder +onlyGivenNames x; refine Keeps.cut (k := k) (s0 := s0) (x := x) ?_ ?_ <;> first | (intro _; revert x; intro _ _) | (unfold x; clear x))
    | (extract_lets -underBinder +onlyGivenNames x; unfold x; clear x)
    | with_reducible apply State.tearLast_keeps
    | with_reducible apply State.setCount_keeps
    | with_reducible apply State.set_keeps
    | with_reducible apply State.powerDown_keeps
    | with_reducible apply State.tamperKept_keeps
    | (with_reducible refine Keeps.upd (h := ?_); first | with_reducible assumption | with_reducible apply State.tearLast_keeps | with_reducible apply State.setCount_keeps | with_reducible apply State.set_keeps | with_reducible apply State.powerDown_keeps | with_reducible apply State.tamperKept_keeps | with_reducible refine Keeps.ite (P := State.Keeps _ _) ?_ ?_ | with_reducible refine Keeps.foldl (fun _ _ _ => ?_) ?_)

theorem State.underDeath_keeps {s : State} (b0 : k.blk 0 = false) (b21 : k.blk 21 = false) (h : State.Keeps k s0 s) :
    State.Keeps k s0 (State.underDeath s) := by
  unfold State.underDeath
  repeat' first
    | with_reducible assumption
    | with_reducible refine Keeps.ite (P := State.Keeps _ _) ?_ ?_
    | (extract_lets -underBinder +onlyGivenNames x; refine Keeps.cut (k := k) (s0 := s0) (x := x) ?_ ?_ <;> first | (intro _; revert x; intro _ _) | (unfold x; clear x))
    | (extract_lets -underBinder +onlyGivenNames x; unfold x; clear x)
    | with_reducible apply State.clearUnder_keeps
    | (with_reducible refine Keeps.upd (h := ?_); first | with_reducible assumption | with_reducible apply State.clearUnder_keeps | with_reducible refine Keeps.ite (P := State.Keeps _ _) ?_ ?_ | with_reducible refine Keeps.foldl (fun _ _ _ => ?_) ?_)

theorem State.wake_keeps {s : State} (b21 : k.blk 21 = false) (h : State.Keeps k s0 s) (a1 : WakeCause) :
    State.Keeps k s0 (State.wake s a1) := by
  unfold State.wake
  repeat' first
    | with_reducible assumption
    | (with_reducible show Fld.Listed _; decide)
    | (show Kept.blk _ _ = false; first | exact b21)
    | with_reducible refine Keeps.ite (P := State.Keeps _ _) ?_ ?_
    | (extract_lets -underBinder +onlyGivenNames x; refine Keeps.cut (k := k) (s0 := s0) (x := x) ?_ ?_ <;> first | (intro _; revert x; intro _ _) | (unfold x; clear x))
    | (extract_lets -underBinder +onlyGivenNames x; unfold x; clear x)
    | with_reducible apply State.setBitOf_keeps
    | (with_reducible refine Keeps.upd (h := ?_); first | with_reducible assumption | with_reducible apply State.setBitOf_keeps | with_reducible refine Keeps.ite (P := State.Keeps _ _) ?_ ?_ | with_reducible refine Keeps.foldl (fun _ _ _ => ?_) ?_)
    | split

theorem State.pwrlowEnd_keeps {s : State} (b21 : k.blk 21 = false) (h : State.Keeps k s0 s) :
    State.Keeps k s0 (State.pwrlowEnd s) := by
  unfold State.pwrlowEnd
  repeat' first
    | with_reducible assumption
    | with_reducible refine Keeps.ite (P := State.Keeps _ _) ?_ ?_
    | (extract_lets -underBinder +onlyGivenNames x; unfold x; clear x)
    | (with_reducible refine Keeps.upd (h := ?_); first | with_reducible assumption | with_reducible refine Keeps.ite (P := State.Keeps _ _) ?_ ?_ | with_reducible refine Keeps.foldl (fun _ _ _ => ?_) ?_)

theorem State.wakeTimeout_keeps {s : State} (b18 : k.blk 18 = false) (b21 : k.blk 21 = false) (h : State.Keeps k s0 s) :
    State.Keeps k s0 (State.wakeTimeout s) := by
  unfold State.wakeTimeout
  repeat' first
    | with_reducible assumption
    | (with_reducible show Fld.Listed _; decide)
    | (show Kept.blk _ _ = false; first | exact b18 | exact b21)
    | with_reducible refine Keeps.ite (P := State.Keeps _ _) ?_ ?_
    | (extract_lets -underBinder +onlyGivenNames x; refine Keeps.cut (k := k) (s0 := s0) (x := x) ?_ ?_ <;> first | (intro _; revert x; intro _ _) | (unfold x; clear x))
    | (extract_lets -underBinder +onlyGivenNames x; unfold x; clear x)
    | with_reducible apply State.ucrEvent_keeps
    | with_reducible apply State.bump_keeps
    | (with_reducible refine Keeps.upd (h := ?_); first | with_reducible assumption | with_reducible apply State.ucrEvent_keeps | with_reducible apply State.bump_keeps | with_reducible refine Keeps.ite (P := State.Keeps _ _) ?_ ?_ | with_reducible refine Keeps.foldl (fun _ _ _ => ?_) ?_)

theorem State.startBegin_keeps {s : State} (b0 : k.blk 0 = false) (b21 : k.blk 21 = false) (h : State.Keeps k s0 s) :
    State.Keeps k s0 (State.startBegin s) := by
  unfold State.startBegin
  repeat' first
    | with_reducible assumption
    | (with_reducible show Fld.Listed _; decide)
    | (show Kept.blk _ _ = false; first | exact b0 | exact b21)
    | with_reducible refine Keeps.ite (P := State.Keeps _ _) ?_ ?_
    | (extract_lets -underBinder +onlyGivenNames x; refine Keeps.cut (k := k) (s0 := s0) (x := x) ?_ ?_ <;> first | (intro _; revert x; intro _ _) | (unfold x; clear x))
    | (extract_lets -underBinder +onlyGivenNames x; unfold x; clear x)
    | with_reducible apply State.set_keeps
    | with_reducible apply State.underStart_keeps
    | with_reducible apply State.setBitOf_keeps
    | (with_reducible refine Keeps.upd (h := ?_); first | with_reducible assumption | with_reducible apply State.underStart_keeps | with_reducible apply State.setBitOf_keeps | with_reducible apply State.set_keeps | with_reducible refine Keeps.ite (P := State.Keeps _ _) ?_ ?_ | with_reducible refine Keeps.foldl (fun _ _ _ => ?_) ?_)

theorem State.deviceReset_keeps {s : State} (hmem : k.mem = false) (hcores : k.cores = false) (hcomp : k.comp = false) (hlatch : k.latch = false) (hresp : k.resp = false) (htime : k.time = false) (ball : ∀ b, k.blk b = false) (h : State.Keeps k s0 s) :
    State.Keeps k s0 (State.deviceReset s) := by
  unfold State.deviceReset
  repeat' first
    | with_reducible assumption
    | (show Kept.blk _ _ = false; first | exact ball _)
    | with_reducible refine Keeps.ite (P := State.Keeps _ _) ?_ ?_
    | (extract_lets -underBinder +onlyGivenNames x; refine Keeps.cut (k := k) (s0 := s0) (x := x) ?_ ?_ <;> first | (intro _; revert x; intro _ _) | (unfold x; clear x))
    | (extract_lets -underBinder +onlyGivenNames x; unfold x; clear x)
    | with_reducible apply State.powerDown_keeps
    | with_reducible apply State.tamperKept_keeps
    | (with_reducible refine Keeps.upd (h := ?_); first | with_reducible assumption | with_reducible apply State.powerDown_keeps | with_reducible apply State.tamperKept_keeps | with_reducible refine Keeps.ite (P := State.Keeps _ _) ?_ ?_ | with_reducible refine Keeps.foldl (fun _ _ _ => ?_) ?_)

theorem State.prepare_keeps {s : State} (b5 : k.blk 5 = false) (b6 : k.blk 6 = false) (b11 : k.blk 11 = false) (b12 : k.blk 12 = false) (b13 : k.blk 13 = false) (b16 : k.blk 16 = false) (b18 : k.blk 18 = false) (b20 : k.blk 20 = false) (b21 : k.blk 21 = false) (b22 : k.blk 22 = false) (h : State.Keeps k s0 s) :
    State.Keeps k s0 (State.prepare s) := by
  unfold State.prepare
  repeat' first
    | with_reducible assumption
    | (with_reducible show Fld.Listed _; decide)
    | (show Kept.blk _ _ = false; first | exact b5 | exact b6 | exact b11 | exact b12 | exact b13 | exact b16 | exact b18 | exact b20 | exact b21 | exact b22)
    | with_reducible refine Keeps.ite (P := State.Keeps _ _) ?_ ?_
    | (extract_lets -underBinder +onlyGivenNames x; refine Keeps.cut (k := k) (s0 := s0) (x := x) ?_ ?_ <;> first | (intro _; revert x; intro _ _) | (unfold x; clear x))
    | (extract_lets -underBinder +onlyGivenNames x; unfold x; clear x)
    | with_reducible apply State.set_keeps
    | with_reducible apply State.ucrEvent_keeps
    | with_reducible apply State.enterSafeHold_keeps
    | with_reducible apply State.journalSeq_keeps
    | with_reducible apply State.checkpointAll_keeps
    | (with_reducible refine Keeps.upd (h := ?_); first | with_reducible assumption | with_reducible apply State.ucrEvent_keeps | with_reducible apply State.enterSafeHold_keeps | with_reducible apply State.journalSeq_keeps | with_reducible apply State.checkpointAll_keeps | with_reducible apply State.set_keeps | with_reducible refine Keeps.ite (P := State.Keeps _ _) ?_ ?_ | with_reducible refine Keeps.foldl (fun _ _ _ => ?_) ?_)

theorem State.pfailAssert_keeps {s : State} (b5 : k.blk 5 = false) (b6 : k.blk 6 = false) (b11 : k.blk 11 = false) (b12 : k.blk 12 = false) (b13 : k.blk 13 = false) (b16 : k.blk 16 = false) (b18 : k.blk 18 = false) (b20 : k.blk 20 = false) (b21 : k.blk 21 = false) (b22 : k.blk 22 = false) (h : State.Keeps k s0 s) :
    State.Keeps k s0 (State.pfailAssert s) := by
  unfold State.pfailAssert
  repeat' first
    | with_reducible assumption
    | (with_reducible show Fld.Listed _; decide)
    | (show Kept.blk _ _ = false; first | exact b5 | exact b6 | exact b11 | exact b12 | exact b13 | exact b16 | exact b18 | exact b20 | exact b21 | exact b22)
    | with_reducible refine Keeps.ite (P := State.Keeps _ _) ?_ ?_
    | with_reducible apply State.set_keeps
    | with_reducible apply State.prepare_keeps

theorem State.pfailRelease_keeps {s : State} (b5 : k.blk 5 = false) (b21 : k.blk 21 = false) (b22 : k.blk 22 = false) (h : State.Keeps k s0 s) :
    State.Keeps k s0 (State.pfailRelease s) := by
  unfold State.pfailRelease
  repeat' first
    | with_reducible assumption
    | (with_reducible show Fld.Listed _; decide)
    | (show Kept.blk _ _ = false; first | exact b5 | exact b21 | exact b22)
    | (extract_lets -underBinder +onlyGivenNames x; refine Keeps.cut (k := k) (s0 := s0) (x := x) ?_ ?_ <;> first | (intro _; revert x; intro _ _) | (unfold x; clear x))
    | (extract_lets -underBinder +onlyGivenNames x; unfold x; clear x)
    | with_reducible apply State.set_keeps
    | with_reducible apply State.leaveSafeHold_keeps
    | (with_reducible refine Keeps.upd (h := ?_); first | with_reducible assumption | with_reducible apply State.leaveSafeHold_keeps | with_reducible apply State.set_keeps | with_reducible refine Keeps.ite (P := State.Keeps _ _) ?_ ?_ | with_reducible refine Keeps.foldl (fun _ _ _ => ?_) ?_)

theorem State.vldFall_keeps {s : State} (b17 : k.blk 17 = false) (b18 : k.blk 18 = false) (b21 : k.blk 21 = false) (h : State.Keeps k s0 s) :
    State.Keeps k s0 (State.vldFall s) := by
  unfold State.vldFall
  repeat' first
    | with_reducible assumption
    | (with_reducible show Fld.Listed _; decide)
    | (show Kept.blk _ _ = false; first | exact b17 | exact b18 | exact b21)
    | with_reducible refine Keeps.ite (P := State.Keeps _ _) ?_ ?_
    | (extract_lets -underBinder +onlyGivenNames x; refine Keeps.cut (k := k) (s0 := s0) (x := x) ?_ ?_ <;> first | (intro _; revert x; intro _ _) | (unfold x; clear x))
    | with_reducible apply State.set_keeps
    | with_reducible apply State.ucrEvent_keeps
    | with_reducible apply State.jlnOff_keeps
    | with_reducible apply State.phyGo_keeps
    | with_reducible apply State.jlnSet_keeps
    | with_reducible apply State.txState_keeps
    | split

theorem State.vldRise_keeps {s : State} (b17 : k.blk 17 = false) (b21 : k.blk 21 = false) (h : State.Keeps k s0 s) (a1 : Nat) :
    State.Keeps k s0 (State.vldRise s a1) := by
  unfold State.vldRise
  repeat' first
    | with_reducible assumption
    | (with_reducible show Fld.Listed _; decide)
    | (show Kept.blk _ _ = false; first | exact b17 | exact b21)
    | with_reducible apply State.set_keeps
    | with_reducible apply State.contend_keeps

theorem State.vbakLow_keeps {s : State} (b18 : k.blk 18 = false) (b21 : k.blk 21 = false) (h : State.Keeps k s0 s) (a1 : Nat) :
    State.Keeps k s0 (State.vbakLow s a1) := by
  unfold State.vbakLow
  repeat' first
    | with_reducible assumption
    | (with_reducible show Fld.Listed _; decide)
    | (show Kept.blk _ _ = false; first | exact b18 | exact b21)
    | with_reducible refine Keeps.ite (P := State.Keeps _ _) ?_ ?_
    | (extract_lets -underBinder +onlyGivenNames x; refine Keeps.cut (k := k) (s0 := s0) (x := x) ?_ ?_ <;> first | (intro _; revert x; intro _ _) | (unfold x; clear x))
    | (extract_lets -underBinder +onlyGivenNames x; unfold x; clear x)
    | with_reducible apply State.set_keeps
    | with_reducible apply State.ucrEvent_keeps

theorem State.restartReset_keeps {s : State} (hmem : k.mem = false) (hcores : k.cores = false) (hcomp : k.comp = false) (hlatch : k.latch = false) (hresp : k.resp = false) (htime : k.time = false) (ball : ∀ b, k.blk b = false) (h : State.Keeps k s0 s) (a1 : Nat) :
    State.Keeps k s0 (State.restartReset s a1) := by
  unfold State.restartReset
  repeat' first
    | with_reducible assumption
    | (show Kept.blk _ _ = false; first | exact ball _)
    | with_reducible refine Keeps.ite (P := State.Keeps _ _) ?_ ?_
    | (extract_lets -underBinder +onlyGivenNames x; refine Keeps.cut (k := k) (s0 := s0) (x := x) ?_ ?_ <;> first | (intro _; revert x; intro _ _) | (unfold x; clear x))
    | with_reducible apply State.jnlWrite_keeps
    | with_reducible apply State.checkpointAll_keeps
    | with_reducible apply State.startBegin_keeps
    | with_reducible apply State.deviceReset_keeps
    | with_reducible apply State.chnRes_keeps
    | split

theorem execUndercroftStart_keeps {s : State} (b0 : k.blk 0 = false) (b21 : k.blk 21 = false) (h : State.Keeps k s0 s) :
    OutKeeps k s0 (execUndercroftStart s) := by
  unfold execUndercroftStart
  repeat' first
    | with_reducible assumption
    | refine OutKeeps.next ?_
    | with_reducible refine Keeps.ite (P := State.Keeps _ _) ?_ ?_
    | (extract_lets -underBinder +onlyGivenNames x; refine Keeps.cut (k := k) (s0 := s0) (x := x) ?_ ?_ <;> first | (intro _; revert x; intro _ _) | (unfold x; clear x))
    | (extract_lets -underBinder +onlyGivenNames x; unfold x; clear x)
    | with_reducible apply State.underStart_keeps
    | (with_reducible refine Keeps.upd (h := ?_); first | with_reducible assumption | with_reducible apply State.underStart_keeps | with_reducible refine Keeps.ite (P := State.Keeps _ _) ?_ ?_ | with_reducible refine Keeps.foldl (fun _ _ _ => ?_) ?_)

theorem execUndercroftDeath_keeps {s : State} (b0 : k.blk 0 = false) (b21 : k.blk 21 = false) (h : State.Keeps k s0 s) :
    OutKeeps k s0 (execUndercroftDeath s) := by
  unfold execUndercroftDeath
  repeat' first
    | with_reducible assumption
    | refine OutKeeps.next ?_
    | with_reducible apply State.underDeath_keeps

theorem execHarvesterModeChange_keeps {s : State} (b18 : k.blk 18 = false) (b21 : k.blk 21 = false) (h : State.Keeps k s0 s) (a0 : Nat) (a1 : Nat) :
    OutKeeps k s0 (execHarvesterModeChange a0 a1 s) := by
  unfold execHarvesterModeChange
  repeat' first
    | with_reducible assumption
    | refine OutKeeps.next ?_
    | with_reducible apply State.touch_keeps
    | with_reducible apply State.harvester_keeps

theorem execDeviceResetRelease_keeps {s : State} (b0 : k.blk 0 = false) (b21 : k.blk 21 = false) (h : State.Keeps k s0 s) :
    OutKeeps k s0 (execDeviceResetRelease s) := by
  unfold execDeviceResetRelease
  repeat' first
    | with_reducible assumption
    | refine OutKeeps.next ?_
    | with_reducible apply State.startBegin_keeps

theorem execDeviceReset_keeps {s : State} (hmem : k.mem = false) (hcores : k.cores = false) (hcomp : k.comp = false) (hlatch : k.latch = false) (hresp : k.resp = false) (htime : k.time = false) (ball : ∀ b, k.blk b = false) (h : State.Keeps k s0 s) :
    OutKeeps k s0 (execDeviceReset s) := by
  unfold execDeviceReset
  repeat' first
    | with_reducible assumption
    | refine OutKeeps.next ?_
    | with_reducible apply State.deviceReset_keeps

theorem execMainSupplyOutOfRange_keeps {s : State} (hmem : k.mem = false) (hcores : k.cores = false) (hcomp : k.comp = false) (hlatch : k.latch = false) (hresp : k.resp = false) (htime : k.time = false) (ball : ∀ b, k.blk b = false) (h : State.Keeps k s0 s) (a0 : Nat) (a1 : Bool) :
    OutKeeps k s0 (execMainSupplyOutOfRange a0 a1 s) := by
  unfold execMainSupplyOutOfRange
  repeat' first
    | with_reducible assumption
    | refine OutKeeps.next ?_
    | with_reducible apply State.touch_keeps
    | with_reducible apply State.enterVigil_keeps

theorem execVldLow_keeps {s : State} (b17 : k.blk 17 = false) (b18 : k.blk 18 = false) (b21 : k.blk 21 = false) (h : State.Keeps k s0 s) (a0 : Nat) :
    OutKeeps k s0 (execVldLow a0 s) := by
  unfold execVldLow
  repeat' first
    | with_reducible assumption
    | refine OutKeeps.next ?_
    | with_reducible apply State.touch_keeps
    | with_reducible apply State.vldFall_keeps

theorem execVldInRange_keeps {s : State} (b17 : k.blk 17 = false) (b21 : k.blk 21 = false) (h : State.Keeps k s0 s) (a0 : Nat) :
    OutKeeps k s0 (execVldInRange a0 s) := by
  unfold execVldInRange
  repeat' first
    | with_reducible assumption
    | refine OutKeeps.next ?_
    | with_reducible apply State.touch_keeps
    | with_reducible apply State.vldRise_keeps

theorem execPfailnAssert_keeps {s : State} (b5 : k.blk 5 = false) (b6 : k.blk 6 = false) (b11 : k.blk 11 = false) (b12 : k.blk 12 = false) (b13 : k.blk 13 = false) (b16 : k.blk 16 = false) (b18 : k.blk 18 = false) (b20 : k.blk 20 = false) (b21 : k.blk 21 = false) (b22 : k.blk 22 = false) (h : State.Keeps k s0 s) (a0 : Nat) :
    OutKeeps k s0 (execPfailnAssert a0 s) := by
  unfold execPfailnAssert
  repeat' first
    | with_reducible assumption
    | refine OutKeeps.next ?_
    | with_reducible apply State.touch_keeps
    | with_reducible apply State.pfailAssert_keeps

theorem execPfailnRelease_keeps {s : State} (b5 : k.blk 5 = false) (b21 : k.blk 21 = false) (b22 : k.blk 22 = false) (h : State.Keeps k s0 s) (a0 : Nat) :
    OutKeeps k s0 (execPfailnRelease a0 s) := by
  unfold execPfailnRelease
  repeat' first
    | with_reducible assumption
    | refine OutKeeps.next ?_
    | with_reducible apply State.touch_keeps
    | with_reducible apply State.pfailRelease_keeps

theorem execVbaklow_keeps {s : State} (b18 : k.blk 18 = false) (b21 : k.blk 21 = false) (h : State.Keeps k s0 s) (a0 : Nat) (a1 : Fin 1024) :
    OutKeeps k s0 (execVbaklow a0 a1 s) := by
  unfold execVbaklow
  repeat' first
    | with_reducible assumption
    | refine OutKeeps.next ?_
    | with_reducible apply State.touch_keeps
    | with_reducible apply State.vbakLow_keeps

theorem execUcrTimeTick_keeps {s : State} (b21 : k.blk 21 = false) (h : State.Keeps k s0 s) (a0 : Nat) :
    OutKeeps k s0 (execUcrTimeTick a0 s) := by
  unfold execUcrTimeTick
  repeat' first
    | with_reducible assumption
    | refine OutKeeps.next ?_
    | with_reducible apply State.touch_keeps
    | with_reducible apply State.ucrTick_keeps

theorem execVigilWakeEvent_keeps {s : State} (b21 : k.blk 21 = false) (h : State.Keeps k s0 s) (a0 : WakeCause) :
    OutKeeps k s0 (execVigilWakeEvent a0 s) := by
  unfold execVigilWakeEvent
  repeat' first
    | with_reducible assumption
    | refine OutKeeps.next ?_
    | with_reducible apply State.wake_keeps

theorem execPwrlowEnd_keeps {s : State} (b21 : k.blk 21 = false) (h : State.Keeps k s0 s) :
    OutKeeps k s0 (execPwrlowEnd s) := by
  unfold execPwrlowEnd
  repeat' first
    | with_reducible assumption
    | refine OutKeeps.next ?_
    | with_reducible apply State.pwrlowEnd_keeps

theorem execWakeTimeout_keeps {s : State} (b18 : k.blk 18 = false) (b21 : k.blk 21 = false) (h : State.Keeps k s0 s) :
    OutKeeps k s0 (execWakeTimeout s) := by
  unfold execWakeTimeout
  repeat' first
    | with_reducible assumption
    | refine OutKeeps.next ?_
    | with_reducible apply State.wakeTimeout_keeps

theorem execRestartReset_keeps {s : State} (hmem : k.mem = false) (hcores : k.cores = false) (hcomp : k.comp = false) (hlatch : k.latch = false) (hresp : k.resp = false) (htime : k.time = false) (ball : ∀ b, k.blk b = false) (h : State.Keeps k s0 s) (a0 : Nat) :
    OutKeeps k s0 (execRestartReset a0 s) := by
  unfold execRestartReset
  repeat' first
    | with_reducible assumption
    | refine OutKeeps.next ?_
    | with_reducible apply State.touch_keeps
    | with_reducible apply State.restartReset_keeps

end Sys2Proof.Machine
end

