-- ==== Sys2Proof/Laws/Keeps/Timebase.lean ====
section
/-!
SUPPORT. Sys2Proof/Laws/Keeps/Timebase.lean: what each operation of Machine/Timebase.lean keeps.
-/

set_option Elab.async false

namespace Sys2Proof.Machine

set_option linter.tactic.unusedName false

variable {k : Kept} {s0 : State}

theorem State.setDebt_keeps {s : State} (b2 : k.blk 2 = false) (h : State.Keeps k s0 s) (a1 : Int) :
    State.Keeps k s0 (State.setDebt s a1) := by
  unfold State.setDebt
  repeat' first
    | with_reducible assumption
    | (with_reducible show Fld.Listed _; decide)
    | (show Kept.blk _ _ = false; first | exact b2)
    | with_reducible apply State.set64_keeps

theorem State.setFreq_keeps {s : State} (b2 : k.blk 2 = false) (h : State.Keeps k s0 s) (a1 : Int) :
    State.Keeps k s0 (State.setFreq s a1) := by
  unfold State.setFreq
  repeat' first
    | with_reducible assumption
    | (with_reducible show Fld.Listed _; decide)
    | (show Kept.blk _ _ = false; first | exact b2)
    | with_reducible apply State.set_keeps

theorem State.freezeSlew_keeps {s : State} (b2 : k.blk 2 = false) (h : State.Keeps k s0 s) (a1 : Nat) :
    State.Keeps k s0 (State.freezeSlew s a1) := by
  unfold State.freezeSlew
  repeat' first
    | with_reducible assumption
    | (extract_lets -underBinder +onlyGivenNames x; refine Keeps.cut (k := k) (s0 := s0) (x := x) ?_ ?_ <;> first | (intro _; revert x; intro _ _) | (unfold x; clear x))
    | (extract_lets -underBinder +onlyGivenNames x; unfold x; clear x)
    | with_reducible apply State.setDebt_keeps
    | with_reducible apply State.setFreq_keeps
    | (with_reducible refine Keeps.upd (h := ?_); first | with_reducible assumption | with_reducible apply State.setDebt_keeps | with_reducible apply State.setFreq_keeps | with_reducible refine Keeps.ite (P := State.Keeps _ _) ?_ ?_ | with_reducible refine Keeps.foldl (fun _ _ _ => ?_) ?_)

theorem State.tbGo_keeps {s : State} (b2 : k.blk 2 = false) (b18 : k.blk 18 = false) (h : State.Keeps k s0 s) (a1 : Nat) :
    State.Keeps k s0 (State.tbGo s a1) := by
  unfold State.tbGo
  repeat' first
    | with_reducible assumption
    | (with_reducible show Fld.Listed _; decide)
    | (show Kept.blk _ _ = false; first | exact b2 | exact b18)
    | with_reducible refine Keeps.ite (P := State.Keeps _ _) ?_ ?_
    | with_reducible apply State.set_keeps
    | with_reducible apply State.raise_keeps

theorem State.qualify_keeps {s : State} (b2 : k.blk 2 = false) (b18 : k.blk 18 = false) (h : State.Keeps k s0 s) (a1 : Nat) :
    State.Keeps k s0 (State.qualify s a1) := by
  unfold State.qualify
  repeat' first
    | with_reducible assumption
    | (with_reducible show Fld.Listed _; decide)
    | (show Kept.blk _ _ = false; first | exact b2 | exact b18)
    | with_reducible apply State.set_keeps
    | with_reducible apply State.tbGo_keeps

theorem State.holdover_keeps {s : State} (b2 : k.blk 2 = false) (b18 : k.blk 18 = false) (h : State.Keeps k s0 s) :
    State.Keeps k s0 (State.holdover s) := by
  unfold State.holdover
  repeat' first
    | with_reducible assumption
    | (with_reducible show Fld.Listed _; decide)
    | (show Kept.blk _ _ = false; first | exact b2 | exact b18)
    | (extract_lets -underBinder +onlyGivenNames x; refine Keeps.cut (k := k) (s0 := s0) (x := x) ?_ ?_ <;> first | (intro _; revert x; intro _ _) | (unfold x; clear x))
    | with_reducible apply State.set_keeps
    | with_reducible apply State.tbGo_keeps
    | with_reducible apply State.qualify_keeps
    | split

theorem State.refUsableNow_keeps {s : State} (b2 : k.blk 2 = false) (b18 : k.blk 18 = false) (h : State.Keeps k s0 s) (a1 : Nat) :
    State.Keeps k s0 (State.refUsableNow s a1) := by
  unfold State.refUsableNow
  repeat' first
    | with_reducible assumption
    | (with_reducible show Fld.Listed _; decide)
    | (show Kept.blk _ _ = false; first | exact b2 | exact b18)
    | with_reducible refine Keeps.ite (P := State.Keeps _ _) ?_ ?_
    | with_reducible apply State.set_keeps
    | with_reducible apply State.qualify_keeps
    | with_reducible apply State.freezeSlew_keeps
    | split

theorem State.refPresent_keeps {s : State} (b2 : k.blk 2 = false) (b18 : k.blk 18 = false) (h : State.Keeps k s0 s) (a1 : Nat) (a2 : Nat) :
    State.Keeps k s0 (State.refPresent s a1 a2) := by
  unfold State.refPresent
  repeat' first
    | with_reducible assumption
    | (with_reducible show Fld.Listed _; decide)
    | (show Kept.blk _ _ = false; first | exact b2 | exact b18)
    | with_reducible apply State.refUsableNow_keeps
    | with_reducible apply State.setBitOf_keeps

theorem State.qualFail_keeps {s : State} (b2 : k.blk 2 = false) (b18 : k.blk 18 = false) (h : State.Keeps k s0 s) :
    State.Keeps k s0 (State.qualFail s) := by
  unfold State.qualFail
  repeat' first
    | with_reducible assumption
    | (with_reducible show Fld.Listed _; decide)
    | (show Kept.blk _ _ = false; first | exact b2 | exact b18)
    | with_reducible refine Keeps.ite (P := State.Keeps _ _) ?_ ?_
    | (extract_lets -underBinder +onlyGivenNames x; refine Keeps.cut (k := k) (s0 := s0) (x := x) ?_ ?_ <;> first | (intro _; revert x; intro _ _) | (unfold x; clear x))
    | (extract_lets -underBinder +onlyGivenNames x; unfold x; clear x)
    | with_reducible apply State.raise_keeps
    | with_reducible apply State.bump_keeps
    | with_reducible apply State.setBitOf_keeps
    | with_reducible apply State.holdover_keeps
    | with_reducible apply State.qualify_keeps
    | with_reducible apply State.set_keeps
    | split

theorem State.refLost_keeps {s : State} (b2 : k.blk 2 = false) (b18 : k.blk 18 = false) (h : State.Keeps k s0 s) (a1 : Nat) (a2 : Nat) :
    State.Keeps k s0 (State.refLost s a1 a2) := by
  unfold State.refLost
  repeat' first
    | with_reducible assumption
    | (with_reducible show Fld.Listed _; decide)
    | (show Kept.blk _ _ = false; first | exact b2 | exact b18)
    | with_reducible refine Keeps.ite (P := State.Keeps _ _) ?_ ?_
    | (extract_lets -underBinder +onlyGivenNames x; refine Keeps.cut (k := k) (s0 := s0) (x := x) ?_ ?_ <;> first | (intro _; revert x; intro _ _) | (unfold x; clear x))
    | (extract_lets -underBinder +onlyGivenNames x; unfold x; clear x)
    | with_reducible apply State.raise_keeps
    | with_reducible apply State.setBitOf_keeps
    | with_reducible apply State.holdover_keeps
    | with_reducible apply State.setFreq_keeps
    | with_reducible apply State.freezeSlew_keeps
    | with_reducible apply State.qualFail_keeps

theorem State.follow_keeps {s : State} (b2 : k.blk 2 = false) (h : State.Keeps k s0 s) (a1 : Nat) :
    State.Keeps k s0 (State.follow s a1) := by
  unfold State.follow
  repeat' first
    | with_reducible assumption
    | (with_reducible show Fld.Listed _; decide)
    | (show Kept.blk _ _ = false; first | exact b2)
    | with_reducible refine Keeps.ite (P := State.Keeps _ _) ?_ ?_
    | (extract_lets -underBinder +onlyGivenNames x; refine Keeps.cut (k := k) (s0 := s0) (x := x) ?_ ?_ <;> first | (intro _; revert x; intro _ _) | (unfold x; clear x))
    | (extract_lets -underBinder +onlyGivenNames x; unfold x; clear x)
    | with_reducible apply State.bump_keeps
    | with_reducible apply State.set_keeps
    | (with_reducible refine Keeps.upd (h := ?_); first | with_reducible assumption | with_reducible apply State.bump_keeps | with_reducible apply State.set_keeps | with_reducible refine Keeps.ite (P := State.Keeps _ _) ?_ ?_ | with_reducible refine Keeps.foldl (fun _ _ _ => ?_) ?_)

theorem State.slewTo_keeps {s : State} (b2 : k.blk 2 = false) (h : State.Keeps k s0 s) (a1 : Nat) (a2 : Int) :
    State.Keeps k s0 (State.slewTo s a1 a2) := by
  unfold State.slewTo
  repeat' first
    | with_reducible assumption
    | (show Kept.blk _ _ = false; first | exact b2)
    | (extract_lets -underBinder +onlyGivenNames x; unfold x; clear x)
    | (with_reducible refine Keeps.upd (h := ?_); first | with_reducible assumption | with_reducible refine Keeps.ite (P := State.Keeps _ _) ?_ ?_ | with_reducible refine Keeps.foldl (fun _ _ _ => ?_) ?_)

theorem State.qualPass_keeps {s : State} (b2 : k.blk 2 = false) (b18 : k.blk 18 = false) (h : State.Keeps k s0 s) (a1 : Nat) (a2 : Int) (a3 : Int) :
    State.Keeps k s0 (State.qualPass s a1 a2 a3) := by
  unfold State.qualPass
  repeat' first
    | with_reducible assumption
    | (with_reducible show Fld.Listed _; decide)
    | (show Kept.blk _ _ = false; first | exact b2 | exact b18)
    | with_reducible refine Keeps.ite (P := State.Keeps _ _) ?_ ?_
    | (extract_lets -underBinder +onlyGivenNames x; refine Keeps.cut (k := k) (s0 := s0) (x := x) ?_ ?_ <;> first | (intro _; revert x; intro _ _) | (unfold x; clear x))
    | (extract_lets -underBinder +onlyGivenNames x; unfold x; clear x)
    | with_reducible apply State.qualFail_keeps
    | with_reducible apply State.follow_keeps
    | with_reducible apply State.freezeSlew_keeps
    | with_reducible apply State.set64_keeps
    | with_reducible apply State.tbGo_keeps
    | with_reducible apply State.slewTo_keeps
    | with_reducible apply State.setDebt_keeps
    | (with_reducible refine Keeps.upd (h := ?_); first | with_reducible assumption | with_reducible apply State.qualFail_keeps | with_reducible apply State.follow_keeps | with_reducible apply State.freezeSlew_keeps | with_reducible apply State.set64_keeps | with_reducible apply State.tbGo_keeps | with_reducible apply State.slewTo_keeps | with_reducible apply State.setDebt_keeps | with_reducible refine Keeps.ite (P := State.Keeps _ _) ?_ ?_ | with_reducible refine Keeps.foldl (fun _ _ _ => ?_) ?_)

theorem State.slewDone_keeps {s : State} (b2 : k.blk 2 = false) (b18 : k.blk 18 = false) (h : State.Keeps k s0 s) (a1 : Nat) (a2 : Int) :
    State.Keeps k s0 (State.slewDone s a1 a2) := by
  unfold State.slewDone
  repeat' first
    | with_reducible assumption
    | (show Kept.blk _ _ = false; first | exact b2 | exact b18)
    | with_reducible refine Keeps.ite (P := State.Keeps _ _) ?_ ?_
    | with_reducible apply State.tbGo_keeps
    | with_reducible apply State.slewTo_keeps
    | with_reducible apply State.freezeSlew_keeps

theorem State.barEnd_keeps {s : State} (b2 : k.blk 2 = false) (b18 : k.blk 18 = false) (h : State.Keeps k s0 s) (a1 : Nat) (a2 : Nat) :
    State.Keeps k s0 (State.barEnd s a1 a2) := by
  unfold State.barEnd
  repeat' first
    | with_reducible assumption
    | (with_reducible show Fld.Listed _; decide)
    | (show Kept.blk _ _ = false; first | exact b2 | exact b18)
    | with_reducible apply State.refUsableNow_keeps
    | with_reducible apply State.setBitOf_keeps

theorem State.plltErr_keeps {s : State} (b1 : k.blk 1 = false) (h : State.Keeps k s0 s) (a1 : List Int) :
    State.Keeps k s0 (State.plltErr s a1) := by
  unfold State.plltErr
  repeat' first
    | with_reducible assumption
    | (with_reducible show Fld.Listed _; decide)
    | (show Kept.blk _ _ = false; first | exact b1)
    | with_reducible apply State.set_keeps
    | split

theorem State.plltUnlock_keeps {s : State} (b1 : k.blk 1 = false) (b2 : k.blk 2 = false) (b5 : k.blk 5 = false) (b6 : k.blk 6 = false) (b11 : k.blk 11 = false) (b12 : k.blk 12 = false) (b13 : k.blk 13 = false) (b18 : k.blk 18 = false) (b20 : k.blk 20 = false) (b21 : k.blk 21 = false) (b22 : k.blk 22 = false) (h : State.Keeps k s0 s) (a1 : Nat) (a2 : List Int) :
    State.Keeps k s0 (State.plltUnlock s a1 a2) := by
  unfold State.plltUnlock
  repeat' first
    | with_reducible assumption
    | (with_reducible show Fld.Listed _; decide)
    | (show Kept.blk _ _ = false; first | exact b1 | exact b2 | exact b5 | exact b6 | exact b11 | exact b12 | exact b13 | exact b18 | exact b20 | exact b21 | exact b22)
    | with_reducible refine Keeps.ite (P := State.Keeps _ _) ?_ ?_
    | (extract_lets -underBinder +onlyGivenNames x; refine Keeps.cut (k := k) (s0 := s0) (x := x) ?_ ?_ <;> first | (intro _; revert x; intro _ _) | (unfold x; clear x))
    | (extract_lets -underBinder +onlyGivenNames x; unfold x; clear x)
    | with_reducible apply State.plltErr_keeps
    | with_reducible apply State.set_keeps
    | with_reducible apply State.freezeSlew_keeps
    | with_reducible apply State.event_keeps
    | with_reducible apply State.faultF4_keeps
    | with_reducible apply State.tbGo_keeps
    | (with_reducible refine Keeps.upd (h := ?_); first | with_reducible assumption | with_reducible apply State.plltErr_keeps | with_reducible apply State.set_keeps | with_reducible apply State.freezeSlew_keeps | with_reducible apply State.event_keeps | with_reducible apply State.faultF4_keeps | with_reducible apply State.tbGo_keeps | with_reducible refine Keeps.ite (P := State.Keeps _ _) ?_ ?_ | with_reducible refine Keeps.foldl (fun _ _ _ => ?_) ?_)

theorem State.f4Clears_keeps {s : State} (b21 : k.blk 21 = false) (h : State.Keeps k s0 s) :
    State.Keeps k s0 (State.f4Clears s) := by
  unfold State.f4Clears
  repeat' first
    | with_reducible assumption
    | (show Kept.blk _ _ = false; first | exact b21)
    | (extract_lets -underBinder +onlyGivenNames x; unfold x; clear x)
    | (with_reducible refine Keeps.upd (h := ?_); first | with_reducible assumption | with_reducible refine Keeps.ite (P := State.Keeps _ _) ?_ ?_ | with_reducible refine Keeps.foldl (fun _ _ _ => ?_) ?_)

theorem State.pllsFreq_keeps {s : State} (b1 : k.blk 1 = false) (b5 : k.blk 5 = false) (b6 : k.blk 6 = false) (b11 : k.blk 11 = false) (b12 : k.blk 12 = false) (b13 : k.blk 13 = false) (b18 : k.blk 18 = false) (b20 : k.blk 20 = false) (b21 : k.blk 21 = false) (b22 : k.blk 22 = false) (h : State.Keeps k s0 s) (a1 : List Nat) :
    State.Keeps k s0 (State.pllsFreq s a1) := by
  unfold State.pllsFreq
  repeat' first
    | with_reducible assumption
    | (with_reducible show Fld.Listed _; decide)
    | (show Kept.blk _ _ = false; first | exact b1 | exact b5 | exact b6 | exact b11 | exact b12 | exact b13 | exact b18 | exact b20 | exact b21 | exact b22)
    | with_reducible refine Keeps.ite (P := State.Keeps _ _) ?_ ?_
    | (extract_lets -underBinder +onlyGivenNames x; refine Keeps.cut (k := k) (s0 := s0) (x := x) ?_ ?_ <;> first | (intro _; revert x; intro _ _) | (unfold x; clear x))
    | (extract_lets -underBinder +onlyGivenNames x; unfold x; clear x)
    | with_reducible apply State.set_keeps
    | with_reducible apply State.f4Clears_keeps
    | with_reducible apply State.faultF4_keeps
    | with_reducible apply State.event_keeps
    | split

theorem execPlltUnlock_keeps {s : State} (b1 : k.blk 1 = false) (b2 : k.blk 2 = false) (b5 : k.blk 5 = false) (b6 : k.blk 6 = false) (b11 : k.blk 11 = false) (b12 : k.blk 12 = false) (b13 : k.blk 13 = false) (b18 : k.blk 18 = false) (b20 : k.blk 20 = false) (b21 : k.blk 21 = false) (b22 : k.blk 22 = false) (h : State.Keeps k s0 s) (a0 : Nat) (a1 : List Int) :
    OutKeeps k s0 (execPlltUnlock a0 a1 s) := by
  unfold execPlltUnlock
  repeat' first
    | with_reducible assumption
    | (show Kept.blk _ _ = false; first | exact b1 | exact b2 | exact b5 | exact b6 | exact b11 | exact b12 | exact b13 | exact b18 | exact b20 | exact b21 | exact b22)
    | refine OutKeeps.next ?_
    | with_reducible refine Keeps.ite (P := State.Keeps _ _) ?_ ?_
    | (extract_lets -underBinder +onlyGivenNames x; refine Keeps.cut (k := k) (s0 := s0) (x := x) ?_ ?_ <;> first | (intro _; revert x; intro _ _) | (unfold x; clear x))
    | (extract_lets -underBinder +onlyGivenNames x; unfold x; clear x)
    | with_reducible apply State.touch_keeps
    | with_reducible apply State.plltUnlock_keeps
    | split

theorem execPllsFreqFault_keeps {s : State} (b1 : k.blk 1 = false) (b5 : k.blk 5 = false) (b6 : k.blk 6 = false) (b11 : k.blk 11 = false) (b12 : k.blk 12 = false) (b13 : k.blk 13 = false) (b18 : k.blk 18 = false) (b20 : k.blk 20 = false) (b21 : k.blk 21 = false) (b22 : k.blk 22 = false) (h : State.Keeps k s0 s) (a0 : CountRun) :
    OutKeeps k s0 (execPllsFreqFault a0 s) := by
  unfold execPllsFreqFault
  repeat' first
    | with_reducible assumption
    | (show Kept.blk _ _ = false; first | exact b1 | exact b5 | exact b6 | exact b11 | exact b12 | exact b13 | exact b18 | exact b20 | exact b21 | exact b22)
    | refine OutKeeps.next ?_
    | with_reducible refine Keeps.ite (P := State.Keeps _ _) ?_ ?_
    | (extract_lets -underBinder +onlyGivenNames x; refine Keeps.cut (k := k) (s0 := s0) (x := x) ?_ ?_ <;> first | (intro _; revert x; intro _ _) | (unfold x; clear x))
    | (extract_lets -underBinder +onlyGivenNames x; unfold x; clear x)
    | with_reducible apply State.touch_keeps
    | with_reducible apply State.pllsFreq_keeps
    | split

theorem execReferencePresent_keeps {s : State} (b2 : k.blk 2 = false) (b18 : k.blk 18 = false) (h : State.Keeps k s0 s) (a0 : Nat) (a1 : RefId) :
    OutKeeps k s0 (execReferencePresent a0 a1 s) := by
  unfold execReferencePresent
  repeat' first
    | with_reducible assumption
    | refine OutKeeps.next ?_
    | with_reducible apply State.touch_keeps
    | with_reducible apply State.refPresent_keeps

theorem execReferenceLost_keeps {s : State} (b2 : k.blk 2 = false) (b18 : k.blk 18 = false) (h : State.Keeps k s0 s) (a0 : Nat) (a1 : RefId) :
    OutKeeps k s0 (execReferenceLost a0 a1 s) := by
  unfold execReferenceLost
  repeat' first
    | with_reducible assumption
    | refine OutKeeps.next ?_
    | with_reducible apply State.touch_keeps
    | with_reducible apply State.refLost_keeps

theorem execQualifyPass_keeps {s : State} (b2 : k.blk 2 = false) (b18 : k.blk 18 = false) (h : State.Keeps k s0 s) (a0 : Nat) (a1 : Int) (a2 : Int) :
    OutKeeps k s0 (execQualifyPass a0 a1 a2 s) := by
  unfold execQualifyPass
  repeat' first
    | with_reducible assumption
    | refine OutKeeps.next ?_
    | with_reducible apply State.touch_keeps
    | with_reducible apply State.qualPass_keeps

theorem execQualifyFail_keeps {s : State} (b2 : k.blk 2 = false) (b18 : k.blk 18 = false) (h : State.Keeps k s0 s) (a0 : Nat) :
    OutKeeps k s0 (execQualifyFail a0 s) := by
  unfold execQualifyFail
  repeat' first
    | with_reducible assumption
    | refine OutKeeps.next ?_
    | with_reducible apply State.touch_keeps
    | with_reducible apply State.qualFail_keeps

theorem execReferenceBarExpire_keeps {s : State} (b2 : k.blk 2 = false) (b18 : k.blk 18 = false) (h : State.Keeps k s0 s) (a0 : Nat) (a1 : RefId) :
    OutKeeps k s0 (execReferenceBarExpire a0 a1 s) := by
  unfold execReferenceBarExpire
  repeat' first
    | with_reducible assumption
    | refine OutKeeps.next ?_
    | with_reducible apply State.touch_keeps
    | with_reducible apply State.barEnd_keeps

theorem execSlewComplete_keeps {s : State} (b2 : k.blk 2 = false) (b18 : k.blk 18 = false) (h : State.Keeps k s0 s) (a0 : Nat) (a1 : Int) :
    OutKeeps k s0 (execSlewComplete a0 a1 s) := by
  unfold execSlewComplete
  repeat' first
    | with_reducible assumption
    | refine OutKeeps.next ?_
    | with_reducible apply State.touch_keeps
    | with_reducible apply State.slewDone_keeps

end Sys2Proof.Machine
end

