-- ==== Sys2Proof/Laws/Keeps/TwillBase.lean ====
section
/-!
SUPPORT. Sys2Proof/Laws/Keeps/TwillBase.lean: what each operation of Machine/TwillBase.lean keeps.
-/

set_option Elab.async false

namespace Sys2Proof.Machine

set_option linter.tactic.unusedName false

variable {k : Kept} {s0 : State}

theorem State.setPred_keeps {s : State} (b4 : k.blk 4 = false) (h : State.Keeps k s0 s) (a1 : Nat) (a2 : Nat) :
    State.Keeps k s0 (State.setPred s a1 a2) := by
  unfold State.setPred
  repeat' first
    | with_reducible assumption
    | (with_reducible show Fld.Listed _; decide)
    | (show Kept.blk _ _ = false; first | exact b4)
    | with_reducible apply State.set64_keeps

theorem State.slotGo_keeps {s : State} (b4 : k.blk 4 = false) (h : State.Keeps k s0 s) (a1 : Nat) (a2 : Nat) :
    State.Keeps k s0 (State.slotGo s a1 a2) := by
  unfold State.slotGo
  repeat' first
    | with_reducible assumption
    | (with_reducible show Fld.Listed _; decide)
    | (show Kept.blk _ _ = false; first | exact b4)
    | with_reducible apply State.set_keeps
    | with_reducible apply State.setPred_keeps

theorem State.slotEvent_keeps {s : State} (b18 : k.blk 18 = false) (h : State.Keeps k s0 s) (a1 : Fld) (a2 : Nat) (l1 : a1.Listed) (m1 : k.blk a1.block = false) :
    State.Keeps k s0 (State.slotEvent s a1 a2) := by
  unfold State.slotEvent
  repeat' first
    | with_reducible assumption
    | with_reducible refine Keeps.ite (P := State.Keeps _ _) ?_ ?_
    | with_reducible apply State.set_keeps
    | with_reducible apply State.raise_keeps

theorem State.setTgt_keeps {s : State} (b4 : k.blk 4 = false) (h : State.Keeps k s0 s) (a1 : Nat) (a2 : Nat) :
    State.Keeps k s0 (State.setTgt s a1 a2) := by
  unfold State.setTgt
  repeat' first
    | with_reducible assumption
    | (with_reducible show Fld.Listed _; decide)
    | (show Kept.blk _ _ = false; first | exact b4)
    | (extract_lets -underBinder +onlyGivenNames x; unfold x; clear x)
    | with_reducible apply State.set64_keeps
    | with_reducible apply State.setSlot_keeps

theorem State.takeNew_keeps {s : State} (b4 : k.blk 4 = false) (h : State.Keeps k s0 s) (a1 : Nat) :
    State.Keeps k s0 (State.takeNew s a1) := by
  unfold State.takeNew
  repeat' first
    | with_reducible assumption
    | (show Kept.blk _ _ = false; first | exact b4)
    | with_reducible refine Keeps.ite (P := State.Keeps _ _) ?_ ?_
    | (extract_lets -underBinder +onlyGivenNames x; unfold x; clear x)
    | with_reducible apply State.setSlot_keeps

theorem State.stepTgt_keeps {s : State} (b4 : k.blk 4 = false) (h : State.Keeps k s0 s) (a1 : Nat) (a2 : Nat) (a3 : Int) :
    State.Keeps k s0 (State.stepTgt s a1 a2 a3) := by
  unfold State.stepTgt
  repeat' first
    | with_reducible assumption
    | (extract_lets -underBinder +onlyGivenNames x; unfold x; clear x)
    | with_reducible apply State.setTgt_keeps

theorem State.countSkips_keeps {s : State} (b4 : k.blk 4 = false) (h : State.Keeps k s0 s) (a1 : Nat) (a2 : Nat) :
    State.Keeps k s0 (State.countSkips s a1 a2) := by
  unfold State.countSkips
  repeat' first
    | with_reducible assumption
    | (with_reducible show Fld.Listed _; decide)
    | (show Kept.blk _ _ = false; first | exact b4)
    | with_reducible apply State.set_keeps

theorem State.skips_keeps {s : State} (b4 : k.blk 4 = false) (b18 : k.blk 18 = false) (h : State.Keeps k s0 s) (a1 : Nat) (a2 : Nat) :
    State.Keeps k s0 (State.skips s a1 a2) := by
  unfold State.skips
  repeat' first
    | with_reducible assumption
    | (with_reducible show Fld.Listed _; decide)
    | (show Kept.blk _ _ = false; first | exact b4 | exact b18)
    | with_reducible refine Keeps.ite (P := State.Keeps _ _) ?_ ?_
    | with_reducible apply State.slotEvent_keeps
    | with_reducible apply State.countSkips_keeps

theorem State.slotArm_keeps {s : State} (b4 : k.blk 4 = false) (h : State.Keeps k s0 s) (a1 : Nat) :
    State.Keeps k s0 (State.slotArm s a1) := by
  unfold State.slotArm
  repeat' first
    | with_reducible assumption
    | (show Kept.blk _ _ = false; first | exact b4)
    | with_reducible refine Keeps.ite (P := State.Keeps _ _) ?_ ?_
    | (extract_lets -underBinder +onlyGivenNames x; refine Keeps.cut (k := k) (s0 := s0) (x := x) ?_ ?_ <;> first | (intro _; revert x; intro _ _) | (unfold x; clear x))
    | (extract_lets -underBinder +onlyGivenNames x; unfold x; clear x)
    | with_reducible apply State.setSlot_keeps
    | with_reducible apply State.takeNew_keeps
    | with_reducible apply State.setTgt_keeps
    | with_reducible apply State.slotGo_keeps

theorem State.slotDisarm_keeps {s : State} (b4 : k.blk 4 = false) (h : State.Keeps k s0 s) (a1 : Nat) :
    State.Keeps k s0 (State.slotDisarm s a1) := by
  unfold State.slotDisarm
  repeat' first
    | with_reducible assumption
    | with_reducible refine Keeps.ite (P := State.Keeps _ _) ?_ ?_
    | (extract_lets -underBinder +onlyGivenNames x; unfold x; clear x)
    | with_reducible apply State.setSlot_keeps
    | with_reducible apply State.slotGo_keeps

theorem State.autoArm_keeps {s : State} (b4 : k.blk 4 = false) (h : State.Keeps k s0 s) (a1 : Nat → Bool) :
    State.Keeps k s0 (State.autoArm s a1) := by
  unfold State.autoArm
  repeat' first
    | with_reducible assumption
    | with_reducible refine Keeps.foldl (fun _ _ _ => ?_) ?_
    | with_reducible apply State.slotArm_keeps

theorem State.withdraw_keeps {s : State} (b4 : k.blk 4 = false) (h : State.Keeps k s0 s) (a1 : Nat) (a2 : Nat) :
    State.Keeps k s0 (State.withdraw s a1 a2) := by
  unfold State.withdraw
  repeat' first
    | with_reducible assumption
    | (extract_lets -underBinder +onlyGivenNames x; unfold x; clear x)
    | with_reducible apply State.slotGo_keeps
    | with_reducible apply State.setSlot_keeps

theorem State.revSlots_keeps {s : State} (b4 : k.blk 4 = false) (b18 : k.blk 18 = false) (h : State.Keeps k s0 s) (a1 : Nat) :
    State.Keeps k s0 (State.revSlots s a1) := by
  unfold State.revSlots
  repeat' first
    | with_reducible assumption
    | (with_reducible show Fld.Listed _; decide)
    | (show Kept.blk _ _ = false; first | exact b4 | exact b18)
    | with_reducible refine Keeps.ite (P := State.Keeps _ _) ?_ ?_
    | with_reducible refine Keeps.foldl (fun _ _ _ => ?_) ?_
    | with_reducible apply State.withdraw_keeps
    | with_reducible apply State.slotEvent_keeps

theorem State.stallSlots_keeps {s : State} (b4 : k.blk 4 = false) (h : State.Keeps k s0 s) (a1 : Nat) :
    State.Keeps k s0 (State.stallSlots s a1) := by
  unfold State.stallSlots
  repeat' first
    | with_reducible assumption
    | with_reducible refine Keeps.foldl (fun _ _ _ => ?_) ?_
    | with_reducible apply State.withdraw_keeps

theorem State.missed_keeps {s : State} (b4 : k.blk 4 = false) (b18 : k.blk 18 = false) (h : State.Keeps k s0 s) (a1 : Nat) :
    State.Keeps k s0 (State.missed s a1) := by
  unfold State.missed
  repeat' first
    | with_reducible assumption
    | (with_reducible show Fld.Listed _; decide)
    | (show Kept.blk _ _ = false; first | exact b4 | exact b18)
    | with_reducible apply State.slotEvent_keeps
    | with_reducible apply State.bump_keeps

theorem State.returnSlot_keeps {s : State} (b4 : k.blk 4 = false) (b18 : k.blk 18 = false) (h : State.Keeps k s0 s) (a1 : Nat) :
    State.Keeps k s0 (State.returnSlot s a1) := by
  unfold State.returnSlot
  repeat' first
    | with_reducible assumption
    | (show Kept.blk _ _ = false; first | exact b4 | exact b18)
    | with_reducible refine Keeps.ite (P := State.Keeps _ _) ?_ ?_
    | (extract_lets -underBinder +onlyGivenNames x; refine Keeps.cut (k := k) (s0 := s0) (x := x) ?_ ?_ <;> first | (intro _; revert x; intro _ _) | (unfold x; clear x))
    | (extract_lets -underBinder +onlyGivenNames x; unfold x; clear x)
    | with_reducible apply State.takeNew_keeps
    | with_reducible apply State.setSlot_keeps
    | with_reducible apply State.slotGo_keeps
    | with_reducible apply State.missed_keeps
    | with_reducible apply State.countSkips_keeps
    | with_reducible apply State.stepTgt_keeps

theorem State.returnSlots_keeps {s : State} (b4 : k.blk 4 = false) (b18 : k.blk 18 = false) (h : State.Keeps k s0 s) (a1 : Nat) :
    State.Keeps k s0 (State.returnSlots s a1) := by
  unfold State.returnSlots
  repeat' first
    | with_reducible assumption
    | with_reducible refine Keeps.foldl (fun _ _ _ => ?_) ?_
    | with_reducible apply State.returnSlot_keeps

theorem State.predictSlot_keeps {s : State} (b4 : k.blk 4 = false) (h : State.Keeps k s0 s) (a1 : Nat) (a2 : Nat) :
    State.Keeps k s0 (State.predictSlot s a1 a2) := by
  unfold State.predictSlot
  repeat' first
    | with_reducible assumption
    | (with_reducible show Fld.Listed _; decide)
    | (show Kept.blk _ _ = false; first | exact b4)
    | with_reducible apply State.set_keeps
    | with_reducible apply State.slotGo_keeps
    | with_reducible apply State.setPred_keeps
    | split

theorem State.writeSlotCtrl_keeps {s : State} (hresp : k.resp = false) (b4 : k.blk 4 = false) (h : State.Keeps k s0 s) (a1 : Acc) (a2 : Nat) (a3 : Nat) :
    State.Keeps k s0 (State.writeSlotCtrl s a1 a2 a3) := by
  unfold State.writeSlotCtrl
  repeat' first
    | with_reducible assumption
    | with_reducible refine Keeps.ite (P := State.Keeps _ _) ?_ ?_
    | with_reducible apply State.busErr_keeps
    | with_reducible apply State.ok_keeps
    | with_reducible apply State.slotDisarm_keeps
    | with_reducible apply State.slotArm_keeps

theorem State.writeSlotTgtLo_keeps {s : State} (hresp : k.resp = false) (b4 : k.blk 4 = false) (h : State.Keeps k s0 s) (a1 : Acc) (a2 : Nat) (a3 : Nat) :
    State.Keeps k s0 (State.writeSlotTgtLo s a1 a2 a3) := by
  unfold State.writeSlotTgtLo
  repeat' first
    | with_reducible assumption
    | (with_reducible show Fld.Listed _; decide)
    | (show Kept.blk _ _ = false; first | exact b4)
    | with_reducible refine Keeps.ite (P := State.Keeps _ _) ?_ ?_
    | with_reducible apply State.set_keeps
    | with_reducible apply State.busErr_keeps
    | with_reducible apply State.ok_keeps

theorem State.writeSlotTgtHi_keeps {s : State} (hresp : k.resp = false) (b4 : k.blk 4 = false) (h : State.Keeps k s0 s) (a1 : Acc) (a2 : Nat) (a3 : Nat) :
    State.Keeps k s0 (State.writeSlotTgtHi s a1 a2 a3) := by
  unfold State.writeSlotTgtHi
  repeat' first
    | with_reducible assumption
    | (with_reducible show Fld.Listed _; decide)
    | (show Kept.blk _ _ = false; first | exact b4)
    | with_reducible refine Keeps.ite (P := State.Keeps _ _) ?_ ?_
    | (extract_lets -underBinder +onlyGivenNames x; refine Keeps.cut (k := k) (s0 := s0) (x := x) ?_ ?_ <;> first | (intro _; revert x; intro _ _) | (unfold x; clear x))
    | (extract_lets -underBinder +onlyGivenNames x; unfold x; clear x)
    | with_reducible apply State.set_keeps
    | with_reducible apply State.busErr_keeps
    | with_reducible apply State.ok_keeps
    | with_reducible apply State.setSlot_keeps

theorem State.writeSlotStepLo_keeps {s : State} (hresp : k.resp = false) (b4 : k.blk 4 = false) (h : State.Keeps k s0 s) (a1 : Acc) (a2 : Nat) (a3 : Nat) :
    State.Keeps k s0 (State.writeSlotStepLo s a1 a2 a3) := by
  unfold State.writeSlotStepLo
  repeat' first
    | with_reducible assumption
    | (with_reducible show Fld.Listed _; decide)
    | (show Kept.blk _ _ = false; first | exact b4)
    | with_reducible refine Keeps.ite (P := State.Keeps _ _) ?_ ?_
    | with_reducible apply State.set_keeps
    | with_reducible apply State.busErr_keeps
    | with_reducible apply State.ok_keeps

theorem State.writeSlotStepHi_keeps {s : State} (hresp : k.resp = false) (b4 : k.blk 4 = false) (h : State.Keeps k s0 s) (a1 : Acc) (a2 : Nat) (a3 : Nat) :
    State.Keeps k s0 (State.writeSlotStepHi s a1 a2 a3) := by
  unfold State.writeSlotStepHi
  repeat' first
    | with_reducible assumption
    | (with_reducible show Fld.Listed _; decide)
    | (show Kept.blk _ _ = false; first | exact b4)
    | with_reducible refine Keeps.ite (P := State.Keeps _ _) ?_ ?_
    | (extract_lets -underBinder +onlyGivenNames x; refine Keeps.cut (k := k) (s0 := s0) (x := x) ?_ ?_ <;> first | (intro _; revert x; intro _ _) | (unfold x; clear x))
    | (extract_lets -underBinder +onlyGivenNames x; unfold x; clear x)
    | with_reducible apply State.set_keeps
    | with_reducible apply State.busErr_keeps
    | with_reducible apply State.ok_keeps
    | with_reducible apply State.setSlot_keeps

theorem execTwillSlotArm_keeps {s : State} (hresp : k.resp = false) (b4 : k.blk 4 = false) (h : State.Keeps k s0 s) (a0 : Acc) (a1 : Fin 1024) :
    OutKeeps k s0 (execTwillSlotArm a0 a1 s) := by
  unfold execTwillSlotArm
  repeat' first
    | with_reducible assumption
    | refine OutKeeps.next ?_
    | with_reducible apply State.touch_keeps
    | with_reducible apply State.writeSlotCtrl_keeps

theorem execTwillSlotDisarm_keeps {s : State} (hresp : k.resp = false) (b4 : k.blk 4 = false) (h : State.Keeps k s0 s) (a0 : Acc) (a1 : Fin 1024) :
    OutKeeps k s0 (execTwillSlotDisarm a0 a1 s) := by
  unfold execTwillSlotDisarm
  repeat' first
    | with_reducible assumption
    | refine OutKeeps.next ?_
    | with_reducible apply State.touch_keeps
    | with_reducible apply State.writeSlotCtrl_keeps

theorem execTwillTargetCommit_keeps {s : State} (hresp : k.resp = false) (b4 : k.blk 4 = false) (h : State.Keeps k s0 s) (a0 : Acc) (a1 : Fin 1024) (a2 : Word) :
    OutKeeps k s0 (execTwillTargetCommit a0 a1 a2 s) := by
  unfold execTwillTargetCommit
  repeat' first
    | with_reducible assumption
    | refine OutKeeps.next ?_
    | with_reducible apply State.touch_keeps
    | with_reducible apply State.writeSlotTgtHi_keeps

theorem execTwillStepCommit_keeps {s : State} (hresp : k.resp = false) (b4 : k.blk 4 = false) (h : State.Keeps k s0 s) (a0 : Acc) (a1 : Fin 1024) (a2 : Word) :
    OutKeeps k s0 (execTwillStepCommit a0 a1 a2 s) := by
  unfold execTwillStepCommit
  repeat' first
    | with_reducible assumption
    | refine OutKeeps.next ?_
    | with_reducible apply State.touch_keeps
    | with_reducible apply State.writeSlotStepHi_keeps

end Sys2Proof.Machine
end

