-- ==== Sys2Proof/Laws/Keeps/Start.lean ====
section
/-!
SUPPORT. Sys2Proof/Laws/Keeps/Start.lean: what each operation of Machine/Start.lean keeps.
-/

set_option Elab.async false

namespace Sys2Proof.Machine

set_option linter.tactic.unusedName false

variable {k : Kept} {s0 : State}

theorem State.loadOtp_keeps {s : State} (b0 : k.blk 0 = false) (h : State.Keeps k s0 s) :
    State.Keeps k s0 (State.loadOtp s) := by
  unfold State.loadOtp
  repeat' first
    | with_reducible assumption
    | (with_reducible show Fld.Listed _; decide)
    | (show Kept.blk _ _ = false; first | exact b0)
    | with_reducible refine Keeps.ite (P := State.Keeps _ _) ?_ ?_
    | (extract_lets -underBinder +onlyGivenNames x; refine Keeps.cut (k := k) (s0 := s0) (x := x) ?_ ?_ <;> first | (intro _; revert x; intro _ _) | (unfold x; clear x))
    | (extract_lets -underBinder +onlyGivenNames x; unfold x; clear x)
    | with_reducible refine Keeps.foldl (fun _ _ _ => ?_) ?_
    | with_reducible apply State.set_keeps
    | with_reducible apply State.noteKeys_keeps
    | with_reducible apply State.setFlag_keeps

theorem State.pllsLock_keeps {s : State} (b0 : k.blk 0 = false) (b21 : k.blk 21 = false) (h : State.Keeps k s0 s) :
    State.Keeps k s0 (State.pllsLock s) := by
  unfold State.pllsLock
  repeat' first
    | with_reducible assumption
    | (show Kept.blk _ _ = false; first | exact b0 | exact b21)
    | with_reducible refine Keeps.ite (P := State.Keeps _ _) ?_ ?_
    | (extract_lets -underBinder +onlyGivenNames x; unfold x; clear x)
    | with_reducible apply State.startStep_keeps
    | with_reducible apply State.loadOtp_keeps
    | (with_reducible refine Keeps.upd (h := ?_); first | with_reducible assumption | with_reducible apply State.startStep_keeps | with_reducible apply State.loadOtp_keeps | with_reducible refine Keeps.ite (P := State.Keeps _ _) ?_ ?_ | with_reducible refine Keeps.foldl (fun _ _ _ => ?_) ?_)

theorem State.valuesCommitted_keeps {s : State} (ball : ∀ b, k.blk b = false) (h : State.Keeps k s0 s) :
    State.Keeps k s0 (State.valuesCommitted s) := by
  unfold State.valuesCommitted
  repeat' first
    | with_reducible assumption
    | (with_reducible show Fld.Listed _; decide)
    | (show Kept.blk _ _ = false; first | exact ball _)
    | with_reducible refine Keeps.ite (P := State.Keeps _ _) ?_ ?_
    | (extract_lets -underBinder +onlyGivenNames x; refine Keeps.cut (k := k) (s0 := s0) (x := x) ?_ ?_ <;> first | (intro _; revert x; intro _ _) | (unfold x; clear x))
    | (extract_lets -underBinder +onlyGivenNames x; unfold x; clear x)
    | with_reducible apply State.eraseRing_keeps
    | with_reducible apply State.loadJournal_keeps
    | with_reducible apply State.setFlag_keeps
    | with_reducible apply State.loadAll_keeps
    | with_reducible apply State.set_keeps
    | with_reducible apply State.startStep_keeps
    | with_reducible apply State.portsStart_keeps
    | with_reducible apply State.jnlReplay_keeps
    | (with_reducible refine Keeps.upd (h := ?_); first | with_reducible assumption | with_reducible apply State.eraseRing_keeps | with_reducible apply State.loadJournal_keeps | with_reducible apply State.setFlag_keeps | with_reducible apply State.loadAll_keeps | with_reducible apply State.set_keeps | with_reducible apply State.startStep_keeps | with_reducible apply State.portsStart_keeps | with_reducible apply State.jnlReplay_keeps | with_reducible refine Keeps.ite (P := State.Keeps _ _) ?_ ?_ | with_reducible refine Keeps.foldl (fun _ _ _ => ?_) ?_)
    | split

theorem State.gapRecords_keeps {s : State} (b16 : k.blk 16 = false) (b18 : k.blk 18 = false) (b20 : k.blk 20 = false) (h : State.Keeps k s0 s) :
    State.Keeps k s0 (State.gapRecords s) := by
  unfold State.gapRecords
  repeat' first
    | with_reducible assumption
    | (extract_lets -underBinder +onlyGivenNames x; refine Keeps.cut (k := k) (s0 := s0) (x := x) ?_ ?_ <;> first | (intro _; revert x; intro _ _) | (unfold x; clear x))
    | (extract_lets -underBinder +onlyGivenNames x; unfold x; clear x)
    | with_reducible refine Keeps.foldl (fun _ _ _ => ?_) ?_
    | with_reducible apply State.setMtr_keeps
    | with_reducible apply State.pinEvent_keeps
    | split

theorem State.unwitnessed_keeps {s : State} (b18 : k.blk 18 = false) (b20 : k.blk 20 = false) (b21 : k.blk 21 = false) (h : State.Keeps k s0 s) :
    State.Keeps k s0 (State.unwitnessed s) := by
  unfold State.unwitnessed
  repeat' first
    | with_reducible assumption
    | (with_reducible show Fld.Listed _; decide)
    | (show Kept.blk _ _ = false; first | exact b18 | exact b20 | exact b21)
    | with_reducible refine Keeps.ite (P := State.Keeps _ _) ?_ ?_
    | (extract_lets -underBinder +onlyGivenNames x; refine Keeps.cut (k := k) (s0 := s0) (x := x) ?_ ?_ <;> first | (intro _; revert x; intro _ _) | (unfold x; clear x))
    | (extract_lets -underBinder +onlyGivenNames x; unfold x; clear x)
    | with_reducible apply State.pinEvent_keeps
    | with_reducible apply State.ucrEvent_keeps

theorem State.drivePins_keeps {s : State} (b5 : k.blk 5 = false) (b16 : k.blk 16 = false) (b18 : k.blk 18 = false) (h : State.Keeps k s0 s) :
    State.Keeps k s0 (State.drivePins s) := by
  unfold State.drivePins
  repeat' first
    | with_reducible assumption
    | (extract_lets -underBinder +onlyGivenNames x; refine Keeps.cut (k := k) (s0 := s0) (x := x) ?_ ?_ <;> first | (intro _; revert x; intro _ _) | (unfold x; clear x))
    | (extract_lets -underBinder +onlyGivenNames x; unfold x; clear x)
    | with_reducible refine Keeps.foldl (fun _ _ _ => ?_) ?_
    | with_reducible apply State.drivePin_keeps
    | with_reducible apply State.setLoc_keeps
    | with_reducible apply State.setPls_keeps
    | with_reducible apply State.setBrk_keeps

theorem State.brkStart_keeps {s : State} (b5 : k.blk 5 = false) (b11 : k.blk 11 = false) (h : State.Keeps k s0 s) :
    State.Keeps k s0 (State.brkStart s) := by
  unfold State.brkStart
  repeat' first
    | with_reducible assumption
    | (with_reducible show Fld.Listed _; decide)
    | (show Kept.blk _ _ = false; first | exact b5 | exact b11)
    | (extract_lets -underBinder +onlyGivenNames x; refine Keeps.cut (k := k) (s0 := s0) (x := x) ?_ ?_ <;> first | (intro _; revert x; intro _ _) | (unfold x; clear x))
    | (extract_lets -underBinder +onlyGivenNames x; unfold x; clear x)
    | with_reducible refine Keeps.foldl (fun _ _ _ => ?_) ?_
    | with_reducible apply State.set_keeps
    | with_reducible apply State.cmpEnable_keeps
    | with_reducible apply State.brkDac_keeps

theorem State.timebaseStart_keeps {s : State} (htime : k.time = false) (b0 : k.blk 0 = false) (b1 : k.blk 1 = false) (b2 : k.blk 2 = false) (b3 : k.blk 3 = false) (b4 : k.blk 4 = false) (b5 : k.blk 5 = false) (b9 : k.blk 9 = false) (b11 : k.blk 11 = false) (b14 : k.blk 14 = false) (b15 : k.blk 15 = false) (b16 : k.blk 16 = false) (b17 : k.blk 17 = false) (b18 : k.blk 18 = false) (b20 : k.blk 20 = false) (b21 : k.blk 21 = false) (h : State.Keeps k s0 s) :
    State.Keeps k s0 (State.timebaseStart s) := by
  unfold State.timebaseStart
  repeat' first
    | with_reducible assumption
    | (with_reducible show Fld.Listed _; decide)
    | (show Kept.blk _ _ = false; first | exact b0 | exact b1 | exact b2 | exact b3 | exact b4 | exact b5 | exact b9 | exact b11 | exact b14 | exact b15 | exact b16 | exact b17 | exact b18 | exact b20 | exact b21)
    | with_reducible refine Keeps.ite (P := State.Keeps _ _) ?_ ?_
    | (extract_lets -underBinder +onlyGivenNames x; refine Keeps.cut (k := k) (s0 := s0) (x := x) ?_ ?_ <;> first | (intro _; revert x; intro _ _) | (unfold x; clear x))
    | (extract_lets -underBinder +onlyGivenNames x; unfold x; clear x)
    | with_reducible refine Keeps.foldl (fun _ _ _ => ?_) ?_
    | with_reducible apply State.startStep_keeps
    | with_reducible apply State.set_keeps
    | with_reducible apply State.raiseEpoch_keeps
    | with_reducible apply State.unwitnessed_keeps
    | with_reducible apply State.gapRecords_keeps
    | with_reducible apply State.holdover_keeps
    | with_reducible apply State.adcEnable_keeps
    | with_reducible apply State.cmpEnable_keeps
    | with_reducible apply State.brkStart_keeps
    | with_reducible apply State.drivePins_keeps
    | with_reducible apply State.auxT6_keeps
    | with_reducible apply State.mtrGo_keeps
    | with_reducible apply State.jlnStart_keeps
    | with_reducible apply State.fanStart_keeps
    | with_reducible apply State.tryT7_keeps
    | with_reducible apply State.autoArm_keeps
    | (with_reducible refine Keeps.upd (h := ?_); first | with_reducible assumption | with_reducible apply State.startStep_keeps | with_reducible apply State.set_keeps | with_reducible apply State.raiseEpoch_keeps | with_reducible apply State.unwitnessed_keeps | with_reducible apply State.gapRecords_keeps | with_reducible apply State.holdover_keeps | with_reducible apply State.adcEnable_keeps | with_reducible apply State.cmpEnable_keeps | with_reducible apply State.brkStart_keeps | with_reducible apply State.drivePins_keeps | with_reducible apply State.auxT6_keeps | with_reducible apply State.mtrGo_keeps | with_reducible apply State.jlnStart_keeps | with_reducible apply State.fanStart_keeps | with_reducible apply State.tryT7_keeps | with_reducible apply State.autoArm_keeps | with_reducible refine Keeps.ite (P := State.Keeps _ _) ?_ ?_ | with_reducible refine Keeps.foldl (fun _ _ _ => ?_) ?_)

theorem State.tryT6_keeps {s : State} (htime : k.time = false) (b0 : k.blk 0 = false) (b1 : k.blk 1 = false) (b2 : k.blk 2 = false) (b3 : k.blk 3 = false) (b4 : k.blk 4 = false) (b5 : k.blk 5 = false) (b9 : k.blk 9 = false) (b11 : k.blk 11 = false) (b14 : k.blk 14 = false) (b15 : k.blk 15 = false) (b16 : k.blk 16 = false) (b17 : k.blk 17 = false) (b18 : k.blk 18 = false) (b20 : k.blk 20 = false) (b21 : k.blk 21 = false) (h : State.Keeps k s0 s) :
    State.Keeps k s0 (State.tryT6 s) := by
  unfold State.tryT6
  repeat' first
    | with_reducible assumption
    | with_reducible refine Keeps.ite (P := State.Keeps _ _) ?_ ?_
    | with_reducible apply State.timebaseStart_keeps

theorem State.journalDone_keeps {s : State} (htime : k.time = false) (b0 : k.blk 0 = false) (b1 : k.blk 1 = false) (b2 : k.blk 2 = false) (b3 : k.blk 3 = false) (b4 : k.blk 4 = false) (b5 : k.blk 5 = false) (b9 : k.blk 9 = false) (b11 : k.blk 11 = false) (b14 : k.blk 14 = false) (b15 : k.blk 15 = false) (b16 : k.blk 16 = false) (b17 : k.blk 17 = false) (b18 : k.blk 18 = false) (b20 : k.blk 20 = false) (b21 : k.blk 21 = false) (h : State.Keeps k s0 s) :
    State.Keeps k s0 (State.journalDone s) := by
  unfold State.journalDone
  repeat' first
    | with_reducible assumption
    | with_reducible refine Keeps.ite (P := State.Keeps _ _) ?_ ?_
    | (extract_lets -underBinder +onlyGivenNames x; unfold x; clear x)
    | with_reducible apply State.tryT6_keeps
    | (with_reducible refine Keeps.upd (h := ?_); first | with_reducible assumption | with_reducible apply State.tryT6_keeps | with_reducible refine Keeps.ite (P := State.Keeps _ _) ?_ ?_ | with_reducible refine Keeps.foldl (fun _ _ _ => ?_) ?_)

theorem State.plltLock_keeps {s : State} (htime : k.time = false) (b0 : k.blk 0 = false) (b1 : k.blk 1 = false) (b2 : k.blk 2 = false) (b3 : k.blk 3 = false) (b4 : k.blk 4 = false) (b5 : k.blk 5 = false) (b9 : k.blk 9 = false) (b11 : k.blk 11 = false) (b14 : k.blk 14 = false) (b15 : k.blk 15 = false) (b16 : k.blk 16 = false) (b17 : k.blk 17 = false) (b18 : k.blk 18 = false) (b20 : k.blk 20 = false) (b21 : k.blk 21 = false) (h : State.Keeps k s0 s) (a1 : Nat) (a2 : List Int) :
    State.Keeps k s0 (State.plltLock s a1 a2) := by
  unfold State.plltLock
  repeat' first
    | with_reducible assumption
    | (with_reducible show Fld.Listed _; decide)
    | (show Kept.blk _ _ = false; first | exact b0 | exact b1 | exact b2 | exact b3 | exact b4 | exact b5 | exact b9 | exact b11 | exact b14 | exact b15 | exact b16 | exact b17 | exact b18 | exact b20 | exact b21)
    | with_reducible refine Keeps.ite (P := State.Keeps _ _) ?_ ?_
    | (extract_lets -underBinder +onlyGivenNames x; refine Keeps.cut (k := k) (s0 := s0) (x := x) ?_ ?_ <;> first | (intro _; revert x; intro _ _) | (unfold x; clear x))
    | (extract_lets -underBinder +onlyGivenNames x; unfold x; clear x)
    | with_reducible apply State.plltErr_keeps
    | with_reducible apply State.f4Clears_keeps
    | with_reducible apply State.raise_keeps
    | with_reducible apply State.set_keeps
    | with_reducible apply State.tryT6_keeps
    | with_reducible apply State.refUsableNow_keeps
    | (with_reducible refine Keeps.upd (h := ?_); first | with_reducible assumption | with_reducible apply State.plltErr_keeps | with_reducible apply State.f4Clears_keeps | with_reducible apply State.raise_keeps | with_reducible apply State.set_keeps | with_reducible apply State.tryT6_keeps | with_reducible apply State.refUsableNow_keeps | with_reducible refine Keeps.ite (P := State.Keeps _ _) ?_ ?_ | with_reducible refine Keeps.foldl (fun _ _ _ => ?_) ?_)

theorem State.gateSupplies_keeps {s : State} (b0 : k.blk 0 = false) (b6 : k.blk 6 = false) (h : State.Keeps k s0 s) :
    State.Keeps k s0 (State.gateSupplies s) := by
  unfold State.gateSupplies
  repeat' first
    | with_reducible assumption
    | (with_reducible show Fld.Listed _; decide)
    | (show Kept.blk _ _ = false; first | exact b0 | exact b6)
    | with_reducible refine Keeps.ite (P := State.Keeps _ _) ?_ ?_
    | with_reducible refine Keeps.foldl (fun _ _ _ => ?_) ?_
    | with_reducible apply State.set_keeps
    | with_reducible apply State.startStep_keeps

theorem State.reapply_keeps {s : State} (b0 : k.blk 0 = false) (b18 : k.blk 18 = false) (b20 : k.blk 20 = false) (h : State.Keeps k s0 s) (a1 : Replayed) :
    State.Keeps k s0 (State.reapply s a1) := by
  unfold State.reapply
  repeat' first
    | with_reducible assumption
    | (with_reducible show Fld.Listed _; decide)
    | (show Kept.blk _ _ = false; first | exact b0 | exact b18 | exact b20)
    | with_reducible refine Keeps.ite (P := State.Keeps _ _) ?_ ?_
    | (extract_lets -underBinder +onlyGivenNames x; refine Keeps.cut (k := k) (s0 := s0) (x := x) ?_ ?_ <;> first | (intro _; revert x; intro _ _) | (unfold x; clear x))
    | (extract_lets -underBinder +onlyGivenNames x; unfold x; clear x)
    | with_reducible apply State.set_keeps
    | with_reducible apply State.modeResult_keeps
    | with_reducible apply State.closeOpWith_keeps
    | with_reducible apply State.cancelPend_keeps
    | with_reducible apply State.predictQuiet_keeps
    | (with_reducible refine Keeps.upd (h := ?_); first | with_reducible assumption | with_reducible apply State.modeResult_keeps | with_reducible apply State.closeOpWith_keeps | with_reducible apply State.cancelPend_keeps | with_reducible apply State.predictQuiet_keeps | with_reducible apply State.set_keeps | with_reducible refine Keeps.ite (P := State.Keeps _ _) ?_ ?_ | with_reducible refine Keeps.foldl (fun _ _ _ => ?_) ?_)

theorem State.reportReplay_keeps {s : State} (b0 : k.blk 0 = false) (b18 : k.blk 18 = false) (b20 : k.blk 20 = false) (h : State.Keeps k s0 s) :
    State.Keeps k s0 (State.reportReplay s) := by
  unfold State.reportReplay
  repeat' first
    | with_reducible assumption
    | (with_reducible show Fld.Listed _; decide)
    | (show Kept.blk _ _ = false; first | exact b0 | exact b18 | exact b20)
    | with_reducible refine Keeps.ite (P := State.Keeps _ _) ?_ ?_
    | (extract_lets -underBinder +onlyGivenNames x; refine Keeps.cut (k := k) (s0 := s0) (x := x) ?_ ?_ <;> first | (intro _; revert x; intro _ _) | (unfold x; clear x))
    | (extract_lets -underBinder +onlyGivenNames x; unfold x; clear x)
    | with_reducible refine Keeps.foldl (fun _ _ _ => ?_) ?_
    | with_reducible apply State.set_keeps
    | with_reducible apply State.event_keeps
    | with_reducible apply State.reapply_keeps
    | (with_reducible refine Keeps.upd (h := ?_); first | with_reducible assumption | with_reducible apply State.event_keeps | with_reducible apply State.reapply_keeps | with_reducible apply State.set_keeps | with_reducible refine Keeps.ite (P := State.Keeps _ _) ?_ ?_ | with_reducible refine Keeps.foldl (fun _ _ _ => ?_) ?_)

theorem State.runBegins_keeps {s : State} (hcores : k.cores = false) (b0 : k.blk 0 = false) (b4 : k.blk 4 = false) (b5 : k.blk 5 = false) (b6 : k.blk 6 = false) (b11 : k.blk 11 = false) (b12 : k.blk 12 = false) (b13 : k.blk 13 = false) (b16 : k.blk 16 = false) (b18 : k.blk 18 = false) (b20 : k.blk 20 = false) (b21 : k.blk 21 = false) (b22 : k.blk 22 = false) (h : State.Keeps k s0 s) :
    State.Keeps k s0 (State.runBegins s) := by
  unfold State.runBegins
  repeat' first
    | with_reducible assumption
    | (with_reducible show Fld.Listed _; decide)
    | (show Kept.blk _ _ = false; first | exact b0 | exact b4 | exact b5 | exact b6 | exact b11 | exact b12 | exact b13 | exact b16 | exact b18 | exact b20 | exact b21 | exact b22)
    | with_reducible refine Keeps.ite (P := State.Keeps _ _) ?_ ?_
    | (extract_lets -underBinder +onlyGivenNames x; unfold x; clear x)
    | with_reducible apply State.set_keeps
    | with_reducible apply State.startStep_keeps
    | with_reducible apply State.reportReplay_keeps
    | with_reducible apply State.ucrEvent_keeps
    | with_reducible apply State.autoArm_keeps
    | with_reducible apply State.enterSafeHold_keeps
    | with_reducible apply State.prepare_keeps
    | (with_reducible refine Keeps.upd (h := ?_); first | with_reducible assumption | with_reducible apply State.startStep_keeps | with_reducible apply State.reportReplay_keeps | with_reducible apply State.ucrEvent_keeps | with_reducible apply State.autoArm_keeps | with_reducible apply State.enterSafeHold_keeps | with_reducible apply State.prepare_keeps | with_reducible apply State.set_keeps | with_reducible refine Keeps.ite (P := State.Keeps _ _) ?_ ?_ | with_reducible refine Keeps.foldl (fun _ _ _ => ?_) ?_)

theorem State.fnStart_keeps {s : State} (b12 : k.blk 12 = false) (b13 : k.blk 13 = false) (b15 : k.blk 15 = false) (b18 : k.blk 18 = false) (h : State.Keeps k s0 s) (a1 : Nat) (a2 : Nat) :
    State.Keeps k s0 (State.fnStart s a1 a2) := by
  unfold State.fnStart
  repeat' first
    | with_reducible assumption
    | with_reducible refine Keeps.ite (P := State.Keeps _ _) ?_ ?_
    | with_reducible apply State.gridStart_keeps
    | with_reducible apply State.mpptStart_keeps
    | with_reducible apply State.axsStart_keeps
    | with_reducible apply State.fanStart_keeps
    | with_reducible apply State.lpStart_keeps

theorem State.startOwned_keeps {s : State} (b12 : k.blk 12 = false) (b13 : k.blk 13 = false) (b15 : k.blk 15 = false) (b18 : k.blk 18 = false) (h : State.Keeps k s0 s) (a1 : Nat) (a2 : Nat) :
    State.Keeps k s0 (State.startOwned s a1 a2) := by
  unfold State.startOwned
  repeat' first
    | with_reducible assumption
    | with_reducible refine Keeps.foldl (fun _ _ _ => ?_) ?_
    | with_reducible apply State.fnStart_keeps

theorem State.writeCoreArm_keeps {s : State} (hresp : k.resp = false) (b0 : k.blk 0 = false) (b12 : k.blk 12 = false) (b13 : k.blk 13 = false) (b15 : k.blk 15 = false) (b18 : k.blk 18 = false) (h : State.Keeps k s0 s) (a1 : Acc) (a2 : Nat) :
    State.Keeps k s0 (State.writeCoreArm s a1 a2) := by
  unfold State.writeCoreArm
  repeat' first
    | with_reducible assumption
    | (with_reducible show Fld.Listed _; decide)
    | (show Kept.blk _ _ = false; first | exact b0 | exact b12 | exact b13 | exact b15 | exact b18)
    | with_reducible refine Keeps.ite (P := State.Keeps _ _) ?_ ?_
    | with_reducible apply State.set_keeps
    | with_reducible apply State.busErr_keeps
    | with_reducible apply State.ok_keeps
    | with_reducible apply State.startOwned_keeps
    | split

theorem execPllsLock_keeps {s : State} (b0 : k.blk 0 = false) (b21 : k.blk 21 = false) (h : State.Keeps k s0 s) :
    OutKeeps k s0 (execPllsLock s) := by
  unfold execPllsLock
  repeat' first
    | with_reducible assumption
    | refine OutKeeps.next ?_
    | with_reducible apply State.pllsLock_keeps

theorem execRecordValuesCommitted_keeps {s : State} (ball : ∀ b, k.blk b = false) (h : State.Keeps k s0 s) :
    OutKeeps k s0 (execRecordValuesCommitted s) := by
  unfold execRecordValuesCommitted
  repeat' first
    | with_reducible assumption
    | refine OutKeeps.next ?_
    | with_reducible apply State.valuesCommitted_keeps

theorem execJournalWorkDone_keeps {s : State} (htime : k.time = false) (b0 : k.blk 0 = false) (b1 : k.blk 1 = false) (b2 : k.blk 2 = false) (b3 : k.blk 3 = false) (b4 : k.blk 4 = false) (b5 : k.blk 5 = false) (b9 : k.blk 9 = false) (b11 : k.blk 11 = false) (b14 : k.blk 14 = false) (b15 : k.blk 15 = false) (b16 : k.blk 16 = false) (b17 : k.blk 17 = false) (b18 : k.blk 18 = false) (b20 : k.blk 20 = false) (b21 : k.blk 21 = false) (h : State.Keeps k s0 s) :
    OutKeeps k s0 (execJournalWorkDone s) := by
  unfold execJournalWorkDone
  repeat' first
    | with_reducible assumption
    | refine OutKeeps.next ?_
    | with_reducible apply State.journalDone_keeps

theorem execPlltLockDeclared_keeps {s : State} (htime : k.time = false) (b0 : k.blk 0 = false) (b1 : k.blk 1 = false) (b2 : k.blk 2 = false) (b3 : k.blk 3 = false) (b4 : k.blk 4 = false) (b5 : k.blk 5 = false) (b9 : k.blk 9 = false) (b11 : k.blk 11 = false) (b14 : k.blk 14 = false) (b15 : k.blk 15 = false) (b16 : k.blk 16 = false) (b17 : k.blk 17 = false) (b18 : k.blk 18 = false) (b20 : k.blk 20 = false) (b21 : k.blk 21 = false) (h : State.Keeps k s0 s) (a0 : Nat) (a1 : List Int) :
    OutKeeps k s0 (execPlltLockDeclared a0 a1 s) := by
  unfold execPlltLockDeclared
  repeat' first
    | with_reducible assumption
    | (show Kept.blk _ _ = false; first | exact b0 | exact b1 | exact b2 | exact b3 | exact b4 | exact b5 | exact b9 | exact b11 | exact b14 | exact b15 | exact b16 | exact b17 | exact b18 | exact b20 | exact b21)
    | refine OutKeeps.next ?_
    | with_reducible apply State.plltLock_keeps
    | with_reducible apply State.touch_keeps

theorem execGateSuppliesUp_keeps {s : State} (b0 : k.blk 0 = false) (b6 : k.blk 6 = false) (h : State.Keeps k s0 s) (a0 : Nat) :
    OutKeeps k s0 (execGateSuppliesUp a0 s) := by
  unfold execGateSuppliesUp
  repeat' first
    | with_reducible assumption
    | refine OutKeeps.next ?_
    | with_reducible apply State.touch_keeps
    | with_reducible apply State.gateSupplies_keeps

theorem execAdmissionWaitEnd_keeps {s : State} (hcores : k.cores = false) (b0 : k.blk 0 = false) (b4 : k.blk 4 = false) (b5 : k.blk 5 = false) (b6 : k.blk 6 = false) (b11 : k.blk 11 = false) (b12 : k.blk 12 = false) (b13 : k.blk 13 = false) (b16 : k.blk 16 = false) (b18 : k.blk 18 = false) (b20 : k.blk 20 = false) (b21 : k.blk 21 = false) (b22 : k.blk 22 = false) (h : State.Keeps k s0 s) (a0 : Nat) :
    OutKeeps k s0 (execAdmissionWaitEnd a0 s) := by
  unfold execAdmissionWaitEnd
  repeat' first
    | with_reducible assumption
    | refine OutKeeps.next ?_
    | with_reducible apply State.touch_keeps
    | with_reducible apply State.runBegins_keeps

theorem execSysCoreArm_keeps {s : State} (hresp : k.resp = false) (b0 : k.blk 0 = false) (b12 : k.blk 12 = false) (b13 : k.blk 13 = false) (b15 : k.blk 15 = false) (b18 : k.blk 18 = false) (h : State.Keeps k s0 s) (a0 : Acc) (a1 : Word) :
    OutKeeps k s0 (execSysCoreArm a0 a1 s) := by
  unfold execSysCoreArm
  repeat' first
    | with_reducible assumption
    | refine OutKeeps.next ?_
    | with_reducible apply State.touch_keeps
    | with_reducible apply State.writeCoreArm_keeps

end Sys2Proof.Machine
end

