-- ==== Sys2Proof/Laws/Keeps/Tracker.lean ====
section
/-!
SUPPORT. Sys2Proof/Laws/Keeps/Tracker.lean: what each operation of Machine/Tracker.lean keeps.
-/

set_option Elab.async false

namespace Sys2Proof.Machine

set_option linter.tactic.unusedName false

variable {k : Kept} {s0 : State}

theorem State.trkEvent_keeps {s : State} (b18 : k.blk 18 = false) (h : State.Keeps k s0 s) (a1 : Fld) (a2 : Nat) (l1 : a1.Listed) (m1 : k.blk a1.block = false) :
    State.Keeps k s0 (State.trkEvent s a1 a2) := by
  unfold State.trkEvent
  repeat' first
    | with_reducible assumption
    | with_reducible apply State.event_keeps

theorem State.setRate_keeps {s : State} (b3 : k.blk 3 = false) (h : State.Keeps k s0 s) (a1 : Nat) (a2 : Int) :
    State.Keeps k s0 (State.setRate s a1 a2) := by
  unfold State.setRate
  repeat' first
    | with_reducible assumption
    | (with_reducible show Fld.Listed _; decide)
    | (show Kept.blk _ _ = false; first | exact b3)
    | with_reducible apply State.set_keeps
    | with_reducible apply State.set64_keeps

theorem State.markNew_keeps {s : State} (hcores : k.cores = false) (h : State.Keeps k s0 s) (a1 : Nat) :
    State.Keeps k s0 (State.markNew s a1) := by
  unfold State.markNew
  repeat' first
    | (extract_lets -underBinder +onlyGivenNames x; unfold x; clear x)
    | (with_reducible refine Keeps.upd (h := ?_); first | with_reducible assumption | with_reducible refine Keeps.ite (P := State.Keeps _ _) ?_ ?_ | with_reducible refine Keeps.foldl (fun _ _ _ => ?_) ?_)

theorem State.putAngle_keeps {s : State} (hcores : k.cores = false) (b3 : k.blk 3 = false) (b18 : k.blk 18 = false) (h : State.Keeps k s0 s) (a1 : Nat) (a2 : Int) (a3 : Int) (a4 : Nat) :
    State.Keeps k s0 (State.putAngle s a1 a2 a3 a4) := by
  unfold State.putAngle
  repeat' first
    | with_reducible assumption
    | (with_reducible show Fld.Listed _; decide)
    | (show Kept.blk _ _ = false; first | exact b3 | exact b18)
    | with_reducible refine Keeps.ite (P := State.Keeps _ _) ?_ ?_
    | with_reducible apply State.setRate_keeps
    | with_reducible apply State.set64_keeps
    | with_reducible apply State.markNew_keeps
    | with_reducible apply State.trkEvent_keeps
    | with_reducible apply State.bump_keeps

theorem State.judgeRev_keeps {s : State} (b3 : k.blk 3 = false) (b18 : k.blk 18 = false) (h : State.Keeps k s0 s) (a1 : Nat) :
    State.Keeps k s0 (State.judgeRev s a1).1 := by
  unfold State.judgeRev
  repeat' first
    | with_reducible assumption
    | (with_reducible show Fld.Listed _; decide)
    | (show Kept.blk _ _ = false; first | exact b3 | exact b18)
    | with_reducible refine Keeps.ite (P := State.Keeps _ _) ?_ ?_
    | (extract_lets -underBinder +onlyGivenNames x; refine Keeps.cut (k := k) (s0 := s0) (x := x) ?_ ?_ <;> first | (intro _; revert x; intro _ _) | (unfold x; clear x))
    | (extract_lets -underBinder +onlyGivenNames x; unfold x; clear x)
    | with_reducible apply State.setFlag_keeps
    | with_reducible apply State.setTrk_keeps
    | with_reducible apply State.trkEvent_keeps
    | split

theorem State.coastBase_keeps {s : State} (b3 : k.blk 3 = false) (h : State.Keeps k s0 s) (a1 : Nat) (a2 : Nat) :
    State.Keeps k s0 (State.coastBase s a1 a2) := by
  unfold State.coastBase
  repeat' first
    | with_reducible assumption
    | (extract_lets -underBinder +onlyGivenNames x; unfold x; clear x)
    | with_reducible apply State.setTrk_keeps

theorem State.noteStep_keeps {s : State} (b3 : k.blk 3 = false) (b18 : k.blk 18 = false) (h : State.Keeps k s0 s) (a1 : Nat) (a2 : Int) :
    State.Keeps k s0 (State.noteStep s a1 a2) := by
  unfold State.noteStep
  repeat' first
    | with_reducible assumption
    | (with_reducible show Fld.Listed _; decide)
    | (show Kept.blk _ _ = false; first | exact b3 | exact b18)
    | with_reducible refine Keeps.ite (P := State.Keeps _ _) ?_ ?_
    | with_reducible apply State.trkEvent_keeps
    | with_reducible apply State.set_keeps

theorem State.regain_keeps {s : State} (b3 : k.blk 3 = false) (b18 : k.blk 18 = false) (h : State.Keeps k s0 s) (a1 : Nat) (a2 : Int) (a3 : TrkSample) :
    State.Keeps k s0 (State.regain s a1 a2 a3) := by
  unfold State.regain
  repeat' first
    | with_reducible assumption
    | (with_reducible show Fld.Listed _; decide)
    | (show Kept.blk _ _ = false; first | exact b3 | exact b18)
    | with_reducible refine Keeps.ite (P := State.Keeps _ _) ?_ ?_
    | (extract_lets -underBinder +onlyGivenNames x; refine Keeps.cut (k := k) (s0 := s0) (x := x) ?_ ?_ <;> first | (intro _; revert x; intro _ _) | (unfold x; clear x))
    | (extract_lets -underBinder +onlyGivenNames x; unfold x; clear x)
    | with_reducible apply State.trkEvent_keeps
    | with_reducible apply State.set_keeps
    | with_reducible apply State.noteStep_keeps

theorem State.noteAmp_keeps {s : State} (b3 : k.blk 3 = false) (h : State.Keeps k s0 s) (a1 : Nat) (a2 : Nat) (a3 : TrkSample) :
    State.Keeps k s0 (State.noteAmp s a1 a2 a3) := by
  unfold State.noteAmp
  repeat' first
    | with_reducible assumption
    | (show Kept.blk _ _ = false; first | exact b3)
    | with_reducible refine Keeps.ite (P := State.Keeps _ _) ?_ ?_
    | (extract_lets -underBinder +onlyGivenNames x; unfold x; clear x)
    | with_reducible apply State.setTrk_keeps

theorem State.trkUpdate_keeps {s : State} (hcores : k.cores = false) (b3 : k.blk 3 = false) (b18 : k.blk 18 = false) (h : State.Keeps k s0 s) (a1 : Nat) (a2 : Nat) (a3 : TrkSample) :
    State.Keeps k s0 (State.trkUpdate s a1 a2 a3).1 := by
  unfold State.trkUpdate
  repeat' first
    | with_reducible assumption
    | (with_reducible show Fld.Listed _; decide)
    | (show Kept.blk _ _ = false; first | exact b3 | exact b18)
    | with_reducible refine Keeps.ite (P := State.Keeps _ _) ?_ ?_
    | (extract_lets -underBinder +onlyGivenNames x; refine Keeps.cut (k := k) (s0 := s0) (x := x) ?_ ?_ <;> first | (intro _; revert x; intro _ _) | (unfold x; clear x))
    | (extract_lets -underBinder +onlyGivenNames x; unfold x; clear x)
    | with_reducible apply State.noteAmp_keeps
    | with_reducible apply State.nextFree_keeps
    | with_reducible apply State.set_keeps
    | with_reducible apply State.regain_keeps
    | with_reducible apply State.coastBase_keeps
    | with_reducible apply State.putAngle_keeps
    | with_reducible apply State.trkEvent_keeps
    | with_reducible apply State.judgeRev_keeps
    | with_reducible apply State.setTrk_keeps
    | split
    | with_reducible refine Keeps.fst (by assumption) ?_

theorem State.trkEdge_keeps {s : State} (b3 : k.blk 3 = false) (h : State.Keeps k s0 s) (a1 : Nat) (a2 : Nat) (a3 : EncEdge) :
    State.Keeps k s0 (State.trkEdge s a1 a2 a3) := by
  unfold State.trkEdge
  repeat' first
    | with_reducible assumption
    | (with_reducible show Fld.Listed _; decide)
    | (show Kept.blk _ _ = false; first | exact b3)
    | with_reducible refine Keeps.ite (P := State.Keeps _ _) ?_ ?_
    | (extract_lets -underBinder +onlyGivenNames x; refine Keeps.cut (k := k) (s0 := s0) (x := x) ?_ ?_ <;> first | (intro _; revert x; intro _ _) | (unfold x; clear x))
    | (extract_lets -underBinder +onlyGivenNames x; unfold x; clear x)
    | with_reducible apply State.setTrk_keeps
    | with_reducible apply State.bump_keeps
    | with_reducible apply State.set_keeps
    | split

theorem State.encEdge_keeps {s : State} (b3 : k.blk 3 = false) (h : State.Keeps k s0 s) (a1 : Nat) (a2 : Nat) (a3 : EncEdge) :
    State.Keeps k s0 (State.encEdge s a1 a2 a3) := by
  unfold State.encEdge
  repeat' first
    | with_reducible assumption
    | (show Kept.blk _ _ = false; first | exact b3)
    | with_reducible refine Keeps.ite (P := State.Keeps _ _) ?_ ?_
    | with_reducible refine Keeps.foldl (fun _ _ _ => ?_) ?_
    | with_reducible apply State.trkEdge_keeps

theorem State.slCommit_keeps {s : State} (hcores : k.cores = false) (b3 : k.blk 3 = false) (b18 : k.blk 18 = false) (h : State.Keeps k s0 s) (a1 : Nat) (a2 : Nat) :
    State.Keeps k s0 (State.slCommit s a1 a2).1 := by
  unfold State.slCommit
  repeat' first
    | with_reducible assumption
    | (with_reducible show Fld.Listed _; decide)
    | (show Kept.blk _ _ = false; first | exact b3 | exact b18)
    | with_reducible refine Keeps.ite (P := State.Keeps _ _) ?_ ?_
    | (extract_lets -underBinder +onlyGivenNames x; refine Keeps.cut (k := k) (s0 := s0) (x := x) ?_ ?_ <;> first | (intro _; revert x; intro _ _) | (unfold x; clear x))
    | (extract_lets -underBinder +onlyGivenNames x; unfold x; clear x)
    | with_reducible apply State.setTrk_keeps
    | with_reducible apply State.nextFree_keeps
    | with_reducible apply State.trkEvent_keeps
    | with_reducible apply State.set_keeps
    | with_reducible apply State.putAngle_keeps
    | with_reducible apply State.noteStep_keeps
    | with_reducible apply State.judgeRev_keeps
    | split
    | with_reducible refine Keeps.fst (by assumption) ?_

theorem State.trkLost_keeps {s : State} (b3 : k.blk 3 = false) (b18 : k.blk 18 = false) (h : State.Keeps k s0 s) (a1 : Nat) (a2 : Nat) :
    State.Keeps k s0 (State.trkLost s a1 a2) := by
  unfold State.trkLost
  repeat' first
    | with_reducible assumption
    | (with_reducible show Fld.Listed _; decide)
    | (show Kept.blk _ _ = false; first | exact b3 | exact b18)
    | with_reducible refine Keeps.ite (P := State.Keeps _ _) ?_ ?_
    | (extract_lets -underBinder +onlyGivenNames x; refine Keeps.cut (k := k) (s0 := s0) (x := x) ?_ ?_ <;> first | (intro _; revert x; intro _ _) | (unfold x; clear x))
    | (extract_lets -underBinder +onlyGivenNames x; unfold x; clear x)
    | with_reducible apply State.set_keeps
    | with_reducible apply State.setTrk_keeps
    | with_reducible apply State.trkEvent_keeps

theorem State.trkHeld_keeps {s : State} (b3 : k.blk 3 = false) (h : State.Keeps k s0 s) (a1 : Nat) (a2 : Nat) :
    State.Keeps k s0 (State.trkHeld s a1 a2) := by
  unfold State.trkHeld
  repeat' first
    | with_reducible assumption
    | (with_reducible show Fld.Listed _; decide)
    | (show Kept.blk _ _ = false; first | exact b3)
    | with_reducible refine Keeps.ite (P := State.Keeps _ _) ?_ ?_
    | with_reducible apply State.set_keeps
    | with_reducible apply State.setRate_keeps
    | with_reducible apply State.coastBase_keeps

theorem State.trkAcquired_keeps {s : State} (b3 : k.blk 3 = false) (h : State.Keeps k s0 s) (a1 : Nat) :
    State.Keeps k s0 (State.trkAcquired s a1) := by
  unfold State.trkAcquired
  repeat' first
    | with_reducible assumption
    | (with_reducible show Fld.Listed _; decide)
    | (show Kept.blk _ _ = false; first | exact b3)
    | with_reducible refine Keeps.ite (P := State.Keeps _ _) ?_ ?_
    | with_reducible apply State.set_keeps

theorem State.writeQry_keeps {s : State} (hresp : k.resp = false) (b3 : k.blk 3 = false) (h : State.Keeps k s0 s) (a1 : Acc) (a2 : Nat) (a3 : Nat) :
    State.Keeps k s0 (State.writeQry s a1 a2 a3) := by
  unfold State.writeQry
  repeat' first
    | with_reducible assumption
    | (with_reducible show Fld.Listed _; decide)
    | (show Kept.blk _ _ = false; first | exact b3)
    | with_reducible refine Keeps.ite (P := State.Keeps _ _) ?_ ?_
    | (extract_lets -underBinder +onlyGivenNames x; unfold x; clear x)
    | with_reducible apply State.set_keeps
    | with_reducible apply State.busErr_keeps
    | with_reducible apply State.ok_keeps
    | with_reducible apply State.setQry_keeps

theorem State.qryOut_keeps {s : State} (b3 : k.blk 3 = false) (h : State.Keeps k s0 s) (a1 : Nat) (a2 : Nat) (a3 : Bool) (a4 : Bool) (a5 : Bool) :
    State.Keeps k s0 (State.qryOut s a1 a2 a3 a4 a5) := by
  unfold State.qryOut
  repeat' first
    | with_reducible assumption
    | (with_reducible show Fld.Listed _; decide)
    | (show Kept.blk _ _ = false; first | exact b3)
    | (extract_lets -underBinder +onlyGivenNames x; refine Keeps.cut (k := k) (s0 := s0) (x := x) ?_ ?_ <;> first | (intro _; revert x; intro _ _) | (unfold x; clear x))
    | with_reducible apply State.set_keeps
    | with_reducible apply State.set64_keeps
    | with_reducible apply State.setFlag_keeps

theorem State.qryDone_keeps {s : State} (b3 : k.blk 3 = false) (h : State.Keeps k s0 s) (a1 : Nat) :
    State.Keeps k s0 (State.qryDone s a1) := by
  unfold State.qryDone
  repeat' first
    | with_reducible assumption
    | with_reducible refine Keeps.ite (P := State.Keeps _ _) ?_ ?_
    | (extract_lets -underBinder +onlyGivenNames x; unfold x; clear x)
    | with_reducible apply State.setQry_keeps
    | with_reducible apply State.qryOut_keeps
    | with_reducible apply State.nextFree_keeps
    | split

theorem State.readQryOut_keeps {s : State} (hlatch : k.latch = false) (hresp : k.resp = false) (h : State.Keeps k s0 s) (a1 : Acc) (a2 : Nat) :
    State.Keeps k s0 (State.readQryOut s a1 a2) := by
  unfold State.readQryOut
  repeat' first
    | with_reducible assumption
    | with_reducible refine Keeps.ite (P := State.Keeps _ _) ?_ ?_
    | with_reducible apply State.busErr_keeps
    | with_reducible apply State.stall_keeps
    | with_reducible apply State.answer_keeps
    | with_reducible apply State.setLatch_keeps

theorem execEncoderEdge_keeps {s : State} (b3 : k.blk 3 = false) (h : State.Keeps k s0 s) (a0 : Nat) (a1 : Fin 16) (a2 : EncEdge) :
    OutKeeps k s0 (execEncoderEdge a0 a1 a2 s) := by
  unfold execEncoderEdge
  repeat' first
    | with_reducible assumption
    | refine OutKeeps.next ?_
    | with_reducible apply State.touch_keeps
    | with_reducible apply State.encEdge_keeps

theorem execAngleAtTimeQuery_keeps {s : State} (hresp : k.resp = false) (b3 : k.blk 3 = false) (h : State.Keeps k s0 s) (a0 : Acc) (a1 : Fin 5) (a2 : Fin 64) :
    OutKeeps k s0 (execAngleAtTimeQuery a0 a1 a2 s) := by
  unfold execAngleAtTimeQuery
  repeat' first
    | with_reducible assumption
    | refine OutKeeps.next ?_
    | with_reducible apply State.touch_keeps
    | with_reducible apply State.writeQry_keeps

theorem execTimeAtAngleQuery_keeps {s : State} (hresp : k.resp = false) (b3 : k.blk 3 = false) (h : State.Keeps k s0 s) (a0 : Acc) (a1 : Fin 5) (a2 : Fin 64) :
    OutKeeps k s0 (execTimeAtAngleQuery a0 a1 a2 s) := by
  unfold execTimeAtAngleQuery
  repeat' first
    | with_reducible assumption
    | refine OutKeeps.next ?_
    | with_reducible apply State.touch_keeps
    | with_reducible apply State.writeQry_keeps

theorem State.qryServe_keeps {s : State} (hlatch : k.latch = false) (hresp : k.resp = false) (b23 : k.blk 23 = false) (h : State.Keeps k s0 s) (a1 : Nat) : State.Keeps k s0 (State.qryServe s a1) := by
  unfold State.qryServe
  simp only
  split
  · exact Keeps.upd (h := State.readQryOut_keeps hlatch hresp h _ _)
  · split
    · exact Keeps.upd (h := State.readQryOut_keeps hlatch hresp h _ _)
    · exact h

theorem execQueryResultReady_keeps {s : State} (hlatch : k.latch = false) (hresp : k.resp = false) (b3 : k.blk 3 = false) (b23 : k.blk 23 = false) (h : State.Keeps k s0 s) (a0 : Fin 5) :
    OutKeeps k s0 (execQueryResultReady a0 s) := by
  unfold execQueryResultReady
  repeat' first
    | with_reducible assumption
    | refine OutKeeps.next ?_
    | with_reducible refine Keeps.ite (P := State.Keeps _ _) ?_ ?_
    | with_reducible apply State.qryServe_keeps
    | with_reducible apply State.qryDone_keeps

theorem execAngQryOutRead_keeps {s : State} (hlatch : k.latch = false) (hresp : k.resp = false) (h : State.Keeps k s0 s) (a0 : Acc) (a1 : Fin 5) :
    OutKeeps k s0 (execAngQryOutRead a0 a1 s) := by
  unfold execAngQryOutRead
  repeat' first
    | with_reducible assumption
    | refine OutKeeps.next ?_
    | with_reducible apply State.touch_keeps
    | with_reducible apply State.readQryOut_keeps

end Sys2Proof.Machine
end

