-- ==== Sys2Proof/Laws/Keeps/TrackerSteps.lean ====
section
/-!
SUPPORT. Sys2Proof/Laws/Keeps/TrackerSteps.lean: what each operation of Machine/TrackerSteps.lean keeps.
-/

set_option Elab.async false

namespace Sys2Proof.Machine

set_option linter.tactic.unusedName false

variable {k : Kept} {s0 : State}

theorem State.trackerUpdate_keeps {s : State} (hcores : k.cores = false) (b3 : k.blk 3 = false) (b4 : k.blk 4 = false) (b5 : k.blk 5 = false) (b6 : k.blk 6 = false) (b12 : k.blk 12 = false) (b18 : k.blk 18 = false) (b20 : k.blk 20 = false) (b22 : k.blk 22 = false) (h : State.Keeps k s0 s) (a1 : Nat) (a2 : Nat) (a3 : TrkSample) :
    State.Keeps k s0 (State.trackerUpdate s a1 a2 a3) := by
  unfold State.trackerUpdate
  repeat' first
    | with_reducible assumption
    | with_reducible refine Keeps.ite (P := State.Keeps _ _) ?_ ?_
    | with_reducible refine Keeps.foldl (fun _ _ _ => ?_) ?_
    | with_reducible apply State.trkUpdate_keeps
    | with_reducible apply State.revSlots_keeps
    | with_reducible apply State.gridUpdate_keeps

theorem State.trackerLoss_keeps {s : State} (b3 : k.blk 3 = false) (b4 : k.blk 4 = false) (b18 : k.blk 18 = false) (h : State.Keeps k s0 s) (a1 : Nat) (a2 : Nat) :
    State.Keeps k s0 (State.trackerLoss s a1 a2) := by
  unfold State.trackerLoss
  repeat' first
    | with_reducible assumption
    | with_reducible refine Keeps.ite (P := State.Keeps _ _) ?_ ?_
    | with_reducible apply State.stallSlots_keeps
    | with_reducible apply State.trkLost_keeps

theorem State.trackerHeld_keeps {s : State} (b3 : k.blk 3 = false) (b5 : k.blk 5 = false) (b6 : k.blk 6 = false) (b12 : k.blk 12 = false) (b18 : k.blk 18 = false) (b20 : k.blk 20 = false) (b22 : k.blk 22 = false) (h : State.Keeps k s0 s) (a1 : Nat) (a2 : Nat) :
    State.Keeps k s0 (State.trackerHeld s a1 a2) := by
  unfold State.trackerHeld
  repeat' first
    | with_reducible assumption
    | with_reducible refine Keeps.ite (P := State.Keeps _ _) ?_ ?_
    | with_reducible apply State.gridTrackLost_keeps
    | with_reducible apply State.trkHeld_keeps

theorem State.trackerAcquired_keeps {s : State} (b3 : k.blk 3 = false) (b4 : k.blk 4 = false) (b18 : k.blk 18 = false) (h : State.Keeps k s0 s) (a1 : Nat) :
    State.Keeps k s0 (State.trackerAcquired s a1) := by
  unfold State.trackerAcquired
  repeat' first
    | with_reducible assumption
    | with_reducible refine Keeps.ite (P := State.Keeps _ _) ?_ ?_
    | with_reducible apply State.returnSlots_keeps
    | with_reducible apply State.trkAcquired_keeps

theorem State.writeSlStampHi_keeps {s : State} (hcores : k.cores = false) (hresp : k.resp = false) (b3 : k.blk 3 = false) (b4 : k.blk 4 = false) (b18 : k.blk 18 = false) (h : State.Keeps k s0 s) (a1 : Acc) (a2 : Nat) (a3 : Nat) :
    State.Keeps k s0 (State.writeSlStampHi s a1 a2 a3) := by
  unfold State.writeSlStampHi
  repeat' first
    | with_reducible assumption
    | (with_reducible show Fld.Listed _; decide)
    | (show Kept.blk _ _ = false; first | exact b3 | exact b4 | exact b18)
    | with_reducible refine Keeps.ite (P := State.Keeps _ _) ?_ ?_
    | with_reducible apply State.set_keeps
    | with_reducible apply State.busErr_keeps
    | with_reducible apply State.slCommit_keeps
    | with_reducible apply State.ok_keeps
    | with_reducible apply State.revSlots_keeps

theorem State.convBoundary_keeps {s : State} (b5 : k.blk 5 = false) (b6 : k.blk 6 = false) (b12 : k.blk 12 = false) (b18 : k.blk 18 = false) (b20 : k.blk 20 = false) (h : State.Keeps k s0 s) (a1 : Nat) (a2 : Nat) :
    State.Keeps k s0 (State.convBoundary s a1 a2) := by
  unfold State.convBoundary
  repeat' first
    | with_reducible assumption
    | (show Kept.blk _ _ = false; first | exact b5 | exact b6 | exact b12 | exact b18 | exact b20)
    | with_reducible refine Keeps.ite (P := State.Keeps _ _) ?_ ?_
    | (extract_lets -underBinder +onlyGivenNames x; refine Keeps.cut (k := k) (s0 := s0) (x := x) ?_ ?_ <;> first | (intro _; revert x; intro _ _) | (unfold x; clear x))
    | (extract_lets -underBinder +onlyGivenNames x; unfold x; clear x)
    | with_reducible refine Keeps.foldl (fun _ _ _ => ?_) ?_
    | with_reducible apply State.boundary_keeps
    | with_reducible apply State.gridPublish_keeps
    | with_reducible apply State.mpptAgain_keeps
    | with_reducible apply State.mpptLeft_keeps
    | split

theorem execTrackerUpdate_keeps {s : State} (hcores : k.cores = false) (b3 : k.blk 3 = false) (b4 : k.blk 4 = false) (b5 : k.blk 5 = false) (b6 : k.blk 6 = false) (b12 : k.blk 12 = false) (b18 : k.blk 18 = false) (b20 : k.blk 20 = false) (b22 : k.blk 22 = false) (h : State.Keeps k s0 s) (a0 : Nat) (a1 : Fin 64) (a2 : TrkSample) :
    OutKeeps k s0 (execTrackerUpdate a0 a1 a2 s) := by
  unfold execTrackerUpdate
  repeat' first
    | with_reducible assumption
    | refine OutKeeps.next ?_
    | with_reducible apply State.touch_keeps
    | with_reducible apply State.trackerUpdate_keeps

theorem execTrackerSourceLoss_keeps {s : State} (b3 : k.blk 3 = false) (b4 : k.blk 4 = false) (b18 : k.blk 18 = false) (h : State.Keeps k s0 s) (a0 : Nat) (a1 : Fin 64) :
    OutKeeps k s0 (execTrackerSourceLoss a0 a1 s) := by
  unfold execTrackerSourceLoss
  repeat' first
    | with_reducible assumption
    | refine OutKeeps.next ?_
    | with_reducible apply State.touch_keeps
    | with_reducible apply State.trackerLoss_keeps

theorem execTrackerCoastExpire_keeps {s : State} (b3 : k.blk 3 = false) (b5 : k.blk 5 = false) (b6 : k.blk 6 = false) (b12 : k.blk 12 = false) (b18 : k.blk 18 = false) (b20 : k.blk 20 = false) (b22 : k.blk 22 = false) (h : State.Keeps k s0 s) (a0 : Nat) (a1 : Fin 64) :
    OutKeeps k s0 (execTrackerCoastExpire a0 a1 s) := by
  unfold execTrackerCoastExpire
  repeat' first
    | with_reducible assumption
    | refine OutKeeps.next ?_
    | with_reducible apply State.touch_keeps
    | with_reducible apply State.trackerHeld_keeps

theorem execTrackerAcquired_keeps {s : State} (b3 : k.blk 3 = false) (b4 : k.blk 4 = false) (b18 : k.blk 18 = false) (h : State.Keeps k s0 s) (a0 : Nat) (a1 : Fin 64) :
    OutKeeps k s0 (execTrackerAcquired a0 a1 s) := by
  unfold execTrackerAcquired
  repeat' first
    | with_reducible assumption
    | refine OutKeeps.next ?_
    | with_reducible apply State.touch_keeps
    | with_reducible apply State.trackerAcquired_keeps

theorem execAngSlStampHiWrite_keeps {s : State} (hcores : k.cores = false) (hresp : k.resp = false) (b3 : k.blk 3 = false) (b4 : k.blk 4 = false) (b18 : k.blk 18 = false) (h : State.Keeps k s0 s) (a0 : Acc) (a1 : Fin 64) (a2 : Word) :
    OutKeeps k s0 (execAngSlStampHiWrite a0 a1 a2 s) := by
  unfold execAngSlStampHiWrite
  repeat' first
    | with_reducible assumption
    | refine OutKeeps.next ?_
    | with_reducible apply State.touch_keeps
    | with_reducible apply State.writeSlStampHi_keeps

theorem execConverterBoundary_keeps {s : State} (b5 : k.blk 5 = false) (b6 : k.blk 6 = false) (b12 : k.blk 12 = false) (b18 : k.blk 18 = false) (b20 : k.blk 20 = false) (h : State.Keeps k s0 s) (a0 : Nat) (a1 : Fin 256) :
    OutKeeps k s0 (execConverterBoundary a0 a1 s) := by
  unfold execConverterBoundary
  repeat' first
    | with_reducible assumption
    | refine OutKeeps.next ?_
    | with_reducible apply State.touch_keeps
    | with_reducible apply State.convBoundary_keeps

end Sys2Proof.Machine
end

