-- ==== Sys2Proof/Laws/Keeps/Bus.lean ====
section
/-!
SUPPORT. Sys2Proof/Laws/Keeps/Bus.lean: what each operation of Machine/Bus.lean keeps.
-/

set_option Elab.async false

namespace Sys2Proof.Machine

set_option linter.tactic.unusedName false

variable {k : Kept} {s0 : State}

theorem State.clearW1c_keeps {s : State} (ball : ∀ b, k.blk b = false) (h : State.Keeps k s0 s) (a1 : Reg) (a2 a3 : Nat) :
    State.Keeps k s0 (State.clearW1c s a1 a2 a3) := by
  unfold State.clearW1c
  exact Keeps.foldl_mem
    (fun x f hf hx => State.set_keeps hx f a2 _ (Fld.listed_of_mem (List.mem_filter.mp hf).1) (ball _)) h

theorem State.storeRw_keeps {s : State} (ball : ∀ b, k.blk b = false) (h : State.Keeps k s0 s) (a1 : Reg) (a2 a3 : Nat) :
    State.Keeps k s0 (State.storeRw s a1 a2 a3) := by
  unfold State.storeRw
  exact Keeps.foldl_mem
    (fun x f hf hx => State.set_keeps hx f a2 _ (Fld.listed_of_mem (List.mem_filter.mp hf).1) (ball _)) h

theorem State.storeIf_keeps {s : State} (hresp : k.resp = false) (ball : ∀ b, k.blk b = false) (h : State.Keeps k s0 s) (a1 : Bool) (a2 : Reg) (a3 : Nat) (a4 : Nat) :
    State.Keeps k s0 (State.storeIf s a1 a2 a3 a4) := by
  unfold State.storeIf
  repeat' first
    | with_reducible assumption
    | with_reducible refine Keeps.ite (P := State.Keeps _ _) ?_ ?_
    | with_reducible apply State.ok_keeps
    | with_reducible apply State.storeRw_keeps
    | with_reducible apply State.busErr_keeps

theorem State.writeAlarmHi_keeps {s : State} (hresp : k.resp = false) (b21 : k.blk 21 = false) (h : State.Keeps k s0 s) (a1 : Acc) (a2 : Nat) :
    State.Keeps k s0 (State.writeAlarmHi s a1 a2) := by
  unfold State.writeAlarmHi
  repeat' first
    | with_reducible assumption
    | (with_reducible show Fld.Listed _; decide)
    | (show Kept.blk _ _ = false; first | exact b21)
    | with_reducible refine Keeps.ite (P := State.Keeps _ _) ?_ ?_
    | (extract_lets -underBinder +onlyGivenNames x; refine Keeps.cut (k := k) (s0 := s0) (x := x) ?_ ?_ <;> first | (intro _; revert x; intro _ _) | (unfold x; clear x))
    | (extract_lets -underBinder +onlyGivenNames x; unfold x; clear x)
    | with_reducible apply State.set_keeps
    | with_reducible apply State.ok_keeps
    | with_reducible apply State.busErr_keeps
    | (with_reducible refine Keeps.upd (h := ?_); first | with_reducible assumption | with_reducible apply State.ok_keeps | with_reducible apply State.busErr_keeps | with_reducible apply State.set_keeps | with_reducible refine Keeps.ite (P := State.Keeps _ _) ?_ ?_ | with_reducible refine Keeps.foldl (fun _ _ _ => ?_) ?_)

theorem State.writeDbgPc_keeps {s : State} (hcores : k.cores = false) (hresp : k.resp = false) (h : State.Keeps k s0 s) (a1 : Acc) (a2 : Nat) (a3 : Nat) :
    State.Keeps k s0 (State.writeDbgPc s a1 a2 a3) := by
  unfold State.writeDbgPc
  repeat' first
    | with_reducible assumption
    | with_reducible refine Keeps.ite (P := State.Keeps _ _) ?_ ?_
    | (extract_lets -underBinder +onlyGivenNames x; unfold x; clear x)
    | with_reducible apply State.busErr_keeps
    | with_reducible apply State.ok_keeps
    | with_reducible apply State.setCore_keeps

theorem State.writeDbgReg_keeps {s : State} (hcores : k.cores = false) (hresp : k.resp = false) (h : State.Keeps k s0 s) (a1 : Acc) (a2 : Nat) (a3 : Nat) (a4 : Nat) :
    State.Keeps k s0 (State.writeDbgReg s a1 a2 a3 a4) := by
  unfold State.writeDbgReg
  repeat' first
    | with_reducible assumption
    | with_reducible refine Keeps.ite (P := State.Keeps _ _) ?_ ?_
    | with_reducible apply State.busErr_keeps
    | with_reducible apply State.ok_keeps
    | with_reducible apply State.setCore_keeps

theorem State.writeRule_keeps {s : State} (hmem : k.mem = false) (hcores : k.cores = false) (hresp : k.resp = false) (ball : ∀ b, k.blk b = false) (h : State.Keeps k s0 s) (a1 : Acc) (a2 : Reg) (a3 : Nat) (a4 : Nat) :
    State.Keeps k s0 (State.writeRule s a1 a2 a3 a4) := by
  unfold State.writeRule
  repeat' first
    | with_reducible assumption
    | (show Kept.blk _ _ = false; first | exact ball _)
    | with_reducible refine Keeps.ite (P := State.Keeps _ _) ?_ ?_
    | with_reducible apply State.writeCoreArm_keeps
    | with_reducible apply State.writeModeReq_keeps
    | with_reducible apply State.writeNvRelease_keeps
    | with_reducible apply State.writeProvCmd_keeps
    | with_reducible apply State.nextFree_keeps
    | with_reducible apply State.writeProvKey_keeps
    | with_reducible apply State.storeIf_keeps
    | with_reducible apply State.writeSlStampHi_keeps
    | with_reducible apply State.writeQry_keeps
    | with_reducible apply State.writeSlotTgtLo_keeps
    | with_reducible apply State.writeSlotTgtHi_keeps
    | with_reducible apply State.writeSlotStepLo_keeps
    | with_reducible apply State.writeSlotStepHi_keeps
    | with_reducible apply State.writeSlotCtrl_keeps
    | with_reducible apply State.writeCnvCommit_keeps
    | with_reducible apply State.writeCnvCtrl_keeps
    | with_reducible apply State.writeCnvForce_keeps
    | with_reducible apply State.writeLocCtrl_keeps
    | with_reducible apply State.writeLocForce_keeps
    | with_reducible apply State.writeBtrCtrl_keeps
    | with_reducible apply State.writeAdcLen_keeps
    | with_reducible apply State.writeAdcEntry_keeps
    | with_reducible apply State.writeAdcCtrl_keeps
    | with_reducible apply State.writeAdcRd_keeps
    | with_reducible apply State.writeLsnCtrl_keeps
    | with_reducible apply State.writeCmpDac_keeps
    | with_reducible apply State.writeCmpTest_keeps
    | with_reducible apply State.writeCmpCtrl_keeps
    | with_reducible apply State.writeGrdCtrl_keeps
    | with_reducible apply State.writeGrdSp_keeps
    | with_reducible apply State.writeMpptCtrl_keeps
    | with_reducible apply State.writeAxsSp_keeps
    | with_reducible apply State.writeAxsCtrl_keeps
    | with_reducible apply State.writeAuxCtrl_keeps
    | with_reducible apply State.writeFanDuty_keeps
    | with_reducible apply State.writeFanCtrl_keeps
    | with_reducible apply State.writeLoopCode_keeps
    | with_reducible apply State.writeLoopCtrl_keeps
    | with_reducible apply State.busErr_keeps
    | with_reducible apply State.ok_keeps
    | with_reducible apply State.clearW1c_keeps
    | with_reducible apply State.writePortReq_keeps
    | with_reducible apply State.writeJlnCtrl_keeps
    | with_reducible apply State.writeTxCtrl_keeps
    | with_reducible apply State.writeRxRel_keeps
    | with_reducible apply State.writePendSet_keeps
    | with_reducible apply State.writePendClr_keeps
    | with_reducible apply State.writeEnSet_keeps
    | with_reducible apply State.writeEnClr_keeps
    | with_reducible apply State.writeDoorbell_keeps
    | with_reducible apply State.writeMbxHdr_keeps
    | with_reducible apply State.writeMbxCtrl_keeps
    | with_reducible apply State.writeStage_keeps
    | with_reducible apply State.writePinAck_keeps
    | with_reducible apply State.writeAlarmHi_keeps
    | with_reducible apply State.writeCnvClr_keeps
    | with_reducible apply State.writeSvcCtrl_keeps
    | with_reducible apply State.writeDbgPc_keeps
    | with_reducible apply State.writeDbgReg_keeps
    | split

theorem State.writeReg_keeps {s : State} (hmem : k.mem = false) (hcores : k.cores = false) (hresp : k.resp = false) (ball : ∀ b, k.blk b = false) (h : State.Keeps k s0 s) (a1 : Acc) (a2 : Reg) (a3 : Nat) (a4 : Nat) :
    State.Keeps k s0 (State.writeReg s a1 a2 a3 a4) := by
  unfold State.writeReg
  repeat' first
    | with_reducible assumption
    | (show Kept.blk _ _ = false; first | exact ball _)
    | with_reducible refine Keeps.ite (P := State.Keeps _ _) ?_ ?_
    | with_reducible apply State.busErr_keeps
    | with_reducible apply State.ok_keeps
    | with_reducible apply State.writeMbxHdr_keeps
    | with_reducible apply State.writeRule_keeps

theorem State.readReg_keeps {s : State} (hlatch : k.latch = false) (hresp : k.resp = false) (ball : ∀ b, k.blk b = false) (h : State.Keeps k s0 s) (a1 : Acc) (a2 : Reg) (a3 : Nat) :
    State.Keeps k s0 (State.readReg s a1 a2 a3) := by
  unfold State.readReg
  repeat' first
    | with_reducible assumption
    | (show Kept.blk _ _ = false; first | exact ball _)
    | with_reducible refine Keeps.ite (P := State.Keeps _ _) ?_ ?_
    | (extract_lets -underBinder +onlyGivenNames x; unfold x; clear x)
    | with_reducible refine Keeps.foldl (fun _ _ _ => ?_) ?_
    | with_reducible apply State.readAdcFifo_keeps
    | with_reducible apply State.readQryOut_keeps
    | with_reducible apply State.busErr_keeps
    | with_reducible apply State.answer_keeps
    | with_reducible apply State.setLatch_keeps
    | split

theorem State.busRead_keeps {s : State} (hlatch : k.latch = false) (hresp : k.resp = false) (ball : ∀ b, k.blk b = false) (h : State.Keeps k s0 s) (a1 : Acc) (a2 : Nat) (a3 : AccSize) :
    State.Keeps k s0 (State.busRead s a1 a2 a3) := by
  unfold State.busRead
  repeat' first
    | with_reducible assumption
    | with_reducible refine Keeps.ite (P := State.Keeps _ _) ?_ ?_
    | with_reducible apply State.busErr_keeps
    | with_reducible apply State.readReg_keeps
    | with_reducible apply State.answer_keeps
    | split

theorem State.busWrite_keeps {s : State} (hmem : k.mem = false) (hcores : k.cores = false) (hresp : k.resp = false) (ball : ∀ b, k.blk b = false) (h : State.Keeps k s0 s) (a1 : Acc) (a2 : Nat) (a3 : AccSize) (a4 : Nat) :
    State.Keeps k s0 (State.busWrite s a1 a2 a3 a4) := by
  unfold State.busWrite
  repeat' first
    | with_reducible assumption
    | with_reducible refine Keeps.ite (P := State.Keeps _ _) ?_ ?_
    | with_reducible apply State.setBytes_keeps
    | with_reducible apply State.busErr_keeps
    | with_reducible apply State.writeReg_keeps
    | with_reducible apply State.ok_keeps
    | split

end Sys2Proof.Machine
end

