-- ==== Sys2Proof/Laws/Keeps/NaveCore.lean ====
section
/-!
SUPPORT. Sys2Proof/Laws/Keeps/NaveCore.lean: what each operation of Machine/NaveCore.lean keeps.
-/

set_option Elab.async false

namespace Sys2Proof.Machine

set_option linter.tactic.unusedName false

variable {k : Kept} {s0 : State}

theorem armBit_listed (c : Nat) : (armBit c).Listed := by
  unfold armBit
  split <;> decide

theorem armBit_block (c : Nat) : (armBit c).block = 0 := by
  unfold armBit
  split <;> rfl

theorem State.abandonOwned_keeps {s : State} (b12 : k.blk 12 = false) (b13 : k.blk 13 = false) (b14 : k.blk 14 = false) (b18 : k.blk 18 = false) (b20 : k.blk 20 = false) (h : State.Keeps k s0 s) (a1 : Nat) :
    State.Keeps k s0 (State.abandonOwned s a1) := by
  unfold State.abandonOwned
  repeat' first
    | with_reducible assumption
    | (extract_lets -underBinder +onlyGivenNames x; refine Keeps.cut (k := k) (s0 := s0) (x := x) ?_ ?_ <;> first | (intro _; revert x; intro _ _) | (unfold x; clear x))
    | with_reducible refine Keeps.foldl (fun _ _ _ => ?_) ?_
    | with_reducible apply State.gridClose_keeps
    | with_reducible apply State.axsClose_keeps
    | with_reducible apply State.auxClose_keeps

theorem State.lockout_keeps {s : State} (hcores : k.cores = false) (b0 : k.blk 0 = false) (b5 : k.blk 5 = false) (b6 : k.blk 6 = false) (b11 : k.blk 11 = false) (b12 : k.blk 12 = false) (b13 : k.blk 13 = false) (b14 : k.blk 14 = false) (b15 : k.blk 15 = false) (b18 : k.blk 18 = false) (b20 : k.blk 20 = false) (b22 : k.blk 22 = false) (h : State.Keeps k s0 s) (a1 a2 a3 : Nat) :
    State.Keeps k s0 (State.lockout s a1 a2 a3) := by
  unfold State.lockout
  refine State.lpJudgeAll_keeps b15 b18 (State.faultF3_keeps b5 b6 b11 b12 b13 b18 b20 b22 (State.abandonOwned_keeps b12 b13 b14 b18 b20 (State.pinEvent_keeps b18 b20
    (State.setCore_keeps hcores (State.set_keeps (State.set64_keeps  (State.set_keeps (State.set_keeps (State.set_keeps
      (State.set_keeps (State.set_keeps (State.set_keeps h _ _ _ ?_ (by exact b0)) _ _ _ ?_ (by exact b0)) _ _ _ ?_ (by exact b0)) _ _ _ ?_ (by exact b0))
      _ _ _ ?_ (by exact b0)) _ _ _ ?_ (by exact b0)) _ _ _ _ ?_ (by exact b0) ?_ (by exact b0)) _ _ _ (armBit_listed _) (by rw [armBit_block]; exact b0))
      _ _) _ _ _) _) _)
  all_goals decide

theorem State.enterExc_keeps {s : State} (hmem : k.mem = false) (hcores : k.cores = false) (b0 : k.blk 0 = false) (b5 : k.blk 5 = false) (b6 : k.blk 6 = false) (b11 : k.blk 11 = false) (b12 : k.blk 12 = false) (b13 : k.blk 13 = false) (b14 : k.blk 14 = false) (b15 : k.blk 15 = false) (b18 : k.blk 18 = false) (b20 : k.blk 20 = false) (b22 : k.blk 22 = false) (h : State.Keeps k s0 s) (a1 : Nat) (a2 : Nat) (a3 : Nat) (a4 : Nat) (a5 : Word) (a6 : Word) :
    State.Keeps k s0 (State.enterExc s a1 a2 a3 a4 a5 a6) := by
  unfold State.enterExc
  repeat' first
    | with_reducible assumption
    | (extract_lets -underBinder +onlyGivenNames x; refine Keeps.cut (k := k) (s0 := s0) (x := x) ?_ ?_ <;> first | (intro _; revert x; intro _ _) | (unfold x; clear x))
    | (extract_lets -underBinder +onlyGivenNames x; unfold x; clear x)
    | with_reducible apply State.setBytes_keeps
    | with_reducible apply State.lockout_keeps
    | with_reducible apply State.setCore_keeps
    | split

theorem State.put_keeps {s : State} (hcores : k.cores = false) (h : State.Keeps k s0 s) (a1 : Nat) (a2 : Fin 32) (a3 : Word) (a4 : Word) :
    Ret.Keeps k s0 (State.put s a1 a2 a3 a4) := by
  unfold State.put
  repeat' first
    | with_reducible assumption
    | refine Ret.Keeps.done ?_
    | refine Ret.Keeps.exc ?_
    | with_reducible refine Keeps.ite (P := Ret.Keeps _ _) ?_ ?_
    | with_reducible apply State.setCore_keeps

theorem State.haltCore_keeps {s : State} (hcores : k.cores = false) (b0 : k.blk 0 = false) (b5 : k.blk 5 = false) (b6 : k.blk 6 = false) (b11 : k.blk 11 = false) (b12 : k.blk 12 = false) (b13 : k.blk 13 = false) (b15 : k.blk 15 = false) (b18 : k.blk 18 = false) (b20 : k.blk 20 = false) (b22 : k.blk 22 = false) (b23 : k.blk 23 = false) (h : State.Keeps k s0 s) (a1 : Nat) (a2 : Nat) :
    State.Keeps k s0 (State.haltCore s a1 a2) := by
  unfold State.haltCore
  repeat' first
    | with_reducible assumption
    | (with_reducible show Fld.Listed _; decide)
    | (show Kept.blk _ _ = false; first | exact b0 | exact b5 | exact b6 | exact b11 | exact b12 | exact b13 | exact b15 | exact b18 | exact b20 | exact b22 | exact b23)
    | (extract_lets -underBinder +onlyGivenNames x; refine Keeps.cut (k := k) (s0 := s0) (x := x) ?_ ?_ <;> first | (intro _; revert x; intro _ _) | (unfold x; clear x))
    | (extract_lets -underBinder +onlyGivenNames x; unfold x; clear x)
    | with_reducible refine Keeps.foldl (fun _ _ _ => ?_) ?_
    | with_reducible apply State.set_keeps
    | with_reducible apply State.setCore_keeps
    | with_reducible apply State.holdWithFuncs_keeps
    | with_reducible apply State.lpJudgeAll_keeps
    | with_reducible apply State.locSafe_keeps

theorem State.commit_keeps {s : State} (hmem : k.mem = false) (hcores : k.cores = false) (b0 : k.blk 0 = false) (b5 : k.blk 5 = false) (b6 : k.blk 6 = false) (b11 : k.blk 11 = false) (b12 : k.blk 12 = false) (b13 : k.blk 13 = false) (b14 : k.blk 14 = false) (b15 : k.blk 15 = false) (b18 : k.blk 18 = false) (b20 : k.blk 20 = false) (b22 : k.blk 22 = false) (b23 : k.blk 23 = false) (a1 : Nat) {a2 : Ret}
    (r : Ret.Keeps k s0 a2) : State.Keeps k s0 (State.commit s a1 a2) := by
  cases r with
  | done h => exact State.setCore_keeps hcores h _ _
  | exc h => exact State.enterExc_keeps hmem hcores b0 b5 b6 b11 b12 b13 b14 b15 b18 b20 b22 h _ _ _ _ _ _
  | wait h => exact h
  | halt h => exact State.haltCore_keeps hcores b0 b5 b6 b11 b12 b13 b15 b18 b20 b22 b23 h _ _

theorem State.fetched_keeps {s : State} (h : State.Keeps k s0 s) (a1 : Nat) (a2 : State → Ret) (g2 : ∀ x, State.Keeps k s0 x → Ret.Keeps k s0 (a2 x)) :
    Ret.Keeps k s0 (State.fetched s a1 a2) := by
  unfold State.fetched
  repeat' first
    | with_reducible assumption
    | with_reducible apply g2
    | refine Ret.Keeps.exc ?_
    | with_reducible refine Keeps.ite (P := Ret.Keeps _ _) ?_ ?_

theorem State.retire_keeps {s : State} (hmem : k.mem = false) (hcores : k.cores = false) (b0 : k.blk 0 = false) (b5 : k.blk 5 = false) (b6 : k.blk 6 = false) (b11 : k.blk 11 = false) (b12 : k.blk 12 = false) (b13 : k.blk 13 = false) (b14 : k.blk 14 = false) (b15 : k.blk 15 = false) (b18 : k.blk 18 = false) (b20 : k.blk 20 = false) (b22 : k.blk 22 = false) (b23 : k.blk 23 = false) (h : State.Keeps k s0 s)
    (a1 : Nat) (a2 : State → Ret) (g2 : ∀ x, State.Keeps k s0 x → Ret.Keeps k s0 (a2 x)) :
    State.Keeps k s0 (State.retire s a1 a2) := by
  unfold State.retire
  split
  · exact h
  · have hs : ∀ n, State.Keeps k s0 (s.setCore a1 n) := fun n => State.setCore_keeps hcores h a1 n
    extract_lets src x
    have hx : State.Keeps k s0 x := hs _
    clear_value x
    have hf := State.fetched_keeps  hx a1 a2 g2
    split
    · exact State.commit_keeps hmem hcores b0 b5 b6 b11 b12 b13 b14 b15 b18 b20 b22 b23 a1 hf
    · exact State.haltCore_keeps hcores b0 b5 b6 b11 b12 b13 b15 b18 b20 b22 b23 hx _ _
    · split
      · rename_i e
        rw [e] at hf
        cases hf with
        | exc hy => exact State.commit_keeps hmem hcores b0 b5 b6 b11 b12 b13 b14 b15 b18 b20 b22 b23 a1 (Keeps.ite (P := Ret.Keeps _ _) (.exc hy) (.exc hx))
      · exact State.commit_keeps hmem hcores b0 b5 b6 b11 b12 b13 b14 b15 b18 b20 b22 b23 a1 (.exc hx)

theorem State.kernelOnly_keeps {s : State} (h : State.Keeps k s0 s) (a1 : Nat) (a2 : Word) {a3 : Ret}
    (r : Ret.Keeps k s0 a3) : Ret.Keeps k s0 (State.kernelOnly s a1 a2 a3) := by
  unfold State.kernelOnly
  split
  · exact r
  · exact Ret.Keeps.exc h

theorem State.runNave_keeps {s : State} (hmem : k.mem = false) (hcores : k.cores = false) (b0 : k.blk 0 = false) (b5 : k.blk 5 = false) (b6 : k.blk 6 = false) (b11 : k.blk 11 = false) (b12 : k.blk 12 = false) (b13 : k.blk 13 = false) (b14 : k.blk 14 = false) (b15 : k.blk 15 = false) (b18 : k.blk 18 = false) (b20 : k.blk 20 = false) (b22 : k.blk 22 = false) (b23 : k.blk 23 = false) (h : State.Keeps k s0 s) (a1 : Nat) (a2 : Nat) (a3 : State → Ret) (g3 : ∀ x, State.Keeps k s0 x → Ret.Keeps k s0 (a3 x)) :
    State.Keeps k s0 (State.runNave s a1 a2 a3) := by
  unfold State.runNave
  repeat' first
    | with_reducible assumption
    | with_reducible apply State.touch_keeps
    | with_reducible apply State.retire_keeps

end Sys2Proof.Machine
end

