-- ==== Sys2Proof/Laws/Keeps/NaveMem.lean ====
section
/-!
SUPPORT. Sys2Proof/Laws/Keeps/NaveMem.lean: what each operation of Machine/NaveMem.lean keeps.
-/

set_option Elab.async false

namespace Sys2Proof.Machine

set_option linter.tactic.unusedName false

variable {k : Kept} {s0 : State}

theorem State.accessStop_keeps {s : State} (h : State.Keeps k s0 s) (a1 : Nat) (a2 : Nat) (a3 : AccSize) (a4 : Bool) :
    OptRetKeeps k s0 (State.accessStop s a1 a2 a3 a4) := by
  unfold State.accessStop
  repeat' first
    | with_reducible assumption
    | with_reducible exact OptRetKeeps.none
    | with_reducible refine OptRetKeeps.some ?_
    | refine Ret.Keeps.exc ?_
    | refine Ret.Keeps.halt ?_
    | with_reducible refine Keeps.ite (P := OptRetKeeps _ _) ?_ ?_
    | split

theorem State.coreRead_keeps {s : State} (hlatch : k.latch = false) (hresp : k.resp = false) (ball : ∀ b, k.blk b = false) (h : State.Keeps k s0 s)
    (a1 a2 : Nat) (a3 : AccSize) (a4 : State → Word → Ret)
    (g4 : ∀ x y, State.Keeps k s0 x → Ret.Keeps k s0 (a4 x y)) : Ret.Keeps k s0 (State.coreRead s a1 a2 a3 a4) := by
  unfold State.coreRead
  split
  · rename_i e
    exact OptRetKeeps.get e (State.accessStop_keeps  h _ _ _ _)
  · have hr : ∀ q, State.Keeps k s0 { (s.busRead (s.coreAcc a1) a2 a3) with resp := q } := fun q =>
      Keeps.upd (h := State.busRead_keeps hlatch hresp ball h _ _ _)
    simp only
    split
    · exact g4 _ _ (hr _)
    · exact Ret.Keeps.wait h
    · exact Ret.Keeps.exc (hr _)

theorem State.coreWrite_keeps {s : State} (hmem : k.mem = false) (hcores : k.cores = false) (hresp : k.resp = false) (ball : ∀ b, k.blk b = false) (h : State.Keeps k s0 s) (a1 a2 : Nat) (a3 : AccSize) (a4 : Nat) (a5 : State → Ret)
    (g5 : ∀ x, State.Keeps k s0 x → Ret.Keeps k s0 (a5 x)) : Ret.Keeps k s0 (State.coreWrite s a1 a2 a3 a4 a5) := by
  unfold State.coreWrite
  split
  · rename_i e
    exact OptRetKeeps.get e (State.accessStop_keeps  h _ _ _ _)
  · have hr : ∀ q, State.Keeps k s0 { (s.busWrite (s.coreAcc a1) a2 a3 a4) with resp := q } := fun q =>
      Keeps.upd (h := State.busWrite_keeps hmem hcores hresp ball h _ _ _ _)
    simp only
    split
    · exact g5 _ (hr _)
    · exact Ret.Keeps.exc (hr _)

theorem State.load_keeps {s : State} (hcores : k.cores = false) (hlatch : k.latch = false) (hresp : k.resp = false) (ball : ∀ b, k.blk b = false) (h : State.Keeps k s0 s) (a1 : Nat) (a2 : Fin 32) (a3 : Fin 32) (a4 : BitVec 16) (a5 : AccSize) (a6 : Word → Word) :
    Ret.Keeps k s0 (State.load s a1 a2 a3 a4 a5 a6) := by
  unfold State.load
  repeat' first
    | with_reducible assumption
    | (intro x y hx; have := (hx : State.Keeps k s0 x))
    | with_reducible apply State.coreRead_keeps
    | with_reducible apply State.put_keeps

theorem State.store_keeps {s : State} (hmem : k.mem = false) (hcores : k.cores = false) (hresp : k.resp = false) (ball : ∀ b, k.blk b = false) (h : State.Keeps k s0 s) (a1 : Nat) (a2 : Fin 32) (a3 : Fin 32) (a4 : BitVec 16) (a5 : AccSize) :
    Ret.Keeps k s0 (State.store s a1 a2 a3 a4 a5) := by
  unfold State.store
  repeat' first
    | with_reducible assumption
    | (intro x hx; have := (hx : State.Keeps k s0 x))
    | refine Ret.Keeps.done ?_
    | (extract_lets -underBinder +onlyGivenNames x; unfold x; clear x)
    | with_reducible apply State.coreWrite_keeps

theorem State.doLb_keeps {s : State} (hcores : k.cores = false) (hlatch : k.latch = false) (hresp : k.resp = false) (ball : ∀ b, k.blk b = false) (h : State.Keeps k s0 s) (a1 : Nat) (a2 : Fin 32) (a3 : Fin 32) (a4 : BitVec 16) :
    Ret.Keeps k s0 (State.doLb s a1 a2 a3 a4) := by
  unfold State.doLb
  repeat' first
    | with_reducible assumption
    | with_reducible apply State.load_keeps

theorem State.doLbu_keeps {s : State} (hcores : k.cores = false) (hlatch : k.latch = false) (hresp : k.resp = false) (ball : ∀ b, k.blk b = false) (h : State.Keeps k s0 s) (a1 : Nat) (a2 : Fin 32) (a3 : Fin 32) (a4 : BitVec 16) :
    Ret.Keeps k s0 (State.doLbu s a1 a2 a3 a4) := by
  unfold State.doLbu
  repeat' first
    | with_reducible assumption
    | with_reducible apply State.load_keeps

theorem State.doLh_keeps {s : State} (hcores : k.cores = false) (hlatch : k.latch = false) (hresp : k.resp = false) (ball : ∀ b, k.blk b = false) (h : State.Keeps k s0 s) (a1 : Nat) (a2 : Fin 32) (a3 : Fin 32) (a4 : BitVec 16) :
    Ret.Keeps k s0 (State.doLh s a1 a2 a3 a4) := by
  unfold State.doLh
  repeat' first
    | with_reducible assumption
    | with_reducible apply State.load_keeps

theorem State.doLhu_keeps {s : State} (hcores : k.cores = false) (hlatch : k.latch = false) (hresp : k.resp = false) (ball : ∀ b, k.blk b = false) (h : State.Keeps k s0 s) (a1 : Nat) (a2 : Fin 32) (a3 : Fin 32) (a4 : BitVec 16) :
    Ret.Keeps k s0 (State.doLhu s a1 a2 a3 a4) := by
  unfold State.doLhu
  repeat' first
    | with_reducible assumption
    | with_reducible apply State.load_keeps

theorem State.doLw_keeps {s : State} (hcores : k.cores = false) (hlatch : k.latch = false) (hresp : k.resp = false) (ball : ∀ b, k.blk b = false) (h : State.Keeps k s0 s) (a1 : Nat) (a2 : Fin 32) (a3 : Fin 32) (a4 : BitVec 16) :
    Ret.Keeps k s0 (State.doLw s a1 a2 a3 a4) := by
  unfold State.doLw
  repeat' first
    | with_reducible assumption
    | with_reducible apply State.load_keeps

theorem State.doSb_keeps {s : State} (hmem : k.mem = false) (hcores : k.cores = false) (hresp : k.resp = false) (ball : ∀ b, k.blk b = false) (h : State.Keeps k s0 s) (a1 : Nat) (a2 : Fin 32) (a3 : Fin 32) (a4 : BitVec 16) :
    Ret.Keeps k s0 (State.doSb s a1 a2 a3 a4) := by
  unfold State.doSb
  repeat' first
    | with_reducible assumption
    | with_reducible apply State.store_keeps

theorem State.doSh_keeps {s : State} (hmem : k.mem = false) (hcores : k.cores = false) (hresp : k.resp = false) (ball : ∀ b, k.blk b = false) (h : State.Keeps k s0 s) (a1 : Nat) (a2 : Fin 32) (a3 : Fin 32) (a4 : BitVec 16) :
    Ret.Keeps k s0 (State.doSh s a1 a2 a3 a4) := by
  unfold State.doSh
  repeat' first
    | with_reducible assumption
    | with_reducible apply State.store_keeps

theorem State.doSw_keeps {s : State} (hmem : k.mem = false) (hcores : k.cores = false) (hresp : k.resp = false) (ball : ∀ b, k.blk b = false) (h : State.Keeps k s0 s) (a1 : Nat) (a2 : Fin 32) (a3 : Fin 32) (a4 : BitVec 16) :
    Ret.Keeps k s0 (State.doSw s a1 a2 a3 a4) := by
  unfold State.doSw
  repeat' first
    | with_reducible assumption
    | with_reducible apply State.store_keeps

end Sys2Proof.Machine
end

