-- ==== Sys2Proof/Laws/Keeps/Damask.lean ====
section
/-!
SUPPORT. Sys2Proof/Laws/Keeps/Damask.lean: what each operation of Machine/Damask.lean keeps.
-/

set_option Elab.async false

namespace Sys2Proof.Machine

set_option linter.tactic.unusedName false

variable {k : Kept} {s0 : State}

theorem State.setDm_keeps {s : State} (hcores : k.cores = false) (h : State.Keeps k s0 s) (a1 : Nat) (a2 : Damask) :
    State.Keeps k s0 (State.setDm s a1 a2) := by
  unfold State.setDm
  repeat' first
    | with_reducible assumption
    | (extract_lets -underBinder +onlyGivenNames x; unfold x; clear x)
    | with_reducible apply State.setCore_keeps

theorem State.flagged_keeps {s : State} (hcores : k.cores = false) (h : State.Keeps k s0 s) (a1 : Nat) (a2 : Word) (a3 : Nat) (a4 : State → Ret) (g4 : ∀ x, State.Keeps k s0 x → Ret.Keeps k s0 (a4 x)) :
    Ret.Keeps k s0 (State.flagged s a1 a2 a3 a4) := by
  unfold State.flagged
  repeat' first
    | with_reducible assumption
    | with_reducible apply g4
    | refine Ret.Keeps.exc ?_
    | with_reducible refine Keeps.ite (P := Ret.Keeps _ _) ?_ ?_
    | with_reducible apply State.setDm_keeps

theorem State.dmOut_keeps {s : State} (hcores : k.cores = false) (h : State.Keeps k s0 s) (a1 : Nat) (a2 : Word) (a3 : Nat) (a4 : List (Nat × Word)) :
    Ret.Keeps k s0 (State.dmOut s a1 a2 a3 a4) := by
  unfold State.dmOut
  repeat' first
    | with_reducible assumption
    | (intro x hx; have := (hx : State.Keeps k s0 x))
    | refine Ret.Keeps.done ?_
    | with_reducible apply State.flagged_keeps
    | with_reducible apply State.setDm_keeps

theorem State.dmOne_keeps {s : State} (hcores : k.cores = false) (h : State.Keeps k s0 s) (a1 : Nat) (a2 : Word) (a3 : Nat) (a4 : Flagged) :
    Ret.Keeps k s0 (State.dmOne s a1 a2 a3 a4) := by
  unfold State.dmOne
  repeat' first
    | with_reducible assumption
    | with_reducible apply State.dmOut_keeps

theorem State.dmPair_keeps {s : State} (hcores : k.cores = false) (h : State.Keeps k s0 s) (a1 : Nat) (a2 : Word) (a3 : Nat) (a4 : Flagged) (a5 : Flagged) :
    Ret.Keeps k s0 (State.dmPair s a1 a2 a3 a4 a5) := by
  unfold State.dmPair
  repeat' first
    | with_reducible assumption
    | with_reducible apply State.dmOut_keeps

theorem State.skipFree_keeps {s : State} (h : State.Keeps k s0 s) (a1 : Nat) :
    State.Keeps k s0 (State.skipFree s a1) := by
  unfold State.skipFree
  repeat' first
    | (with_reducible refine Keeps.upd (h := ?_); first | with_reducible assumption | with_reducible refine Keeps.ite (P := State.Keeps _ _) ?_ ?_ | with_reducible refine Keeps.foldl (fun _ _ _ => ?_) ?_)

theorem State.long_keeps {s : State} (hcores : k.cores = false) (h : State.Keeps k s0 s) (a1 : Nat) (a2 : Nat) (a3 : Fin 32) (a4 : Fin 32) (a5 : Fin 32) :
    Ret.Keeps k s0 (State.long s a1 a2 a3 a4 a5) := by
  unfold State.long
  repeat' first
    | with_reducible assumption
    | refine Ret.Keeps.wait ?_
    | (extract_lets -underBinder +onlyGivenNames x; unfold x; clear x)
    | with_reducible apply State.setCore_keeps

theorem State.doDmtd_keeps {s : State} (hcores : k.cores = false) (h : State.Keeps k s0 s) (a1 : Nat) (a2 : Fin 32) (a3 : Fin 32) :
    Ret.Keeps k s0 (State.doDmtd s a1 a2 a3) := by
  unfold State.doDmtd
  repeat' first
    | with_reducible assumption
    | refine Ret.Keeps.done ?_
    | with_reducible apply State.setDm_keeps

theorem State.doDmfd_keeps {s : State} (hcores : k.cores = false) (h : State.Keeps k s0 s) (a1 : Nat) (a2 : Fin 32) (a3 : Fin 32) :
    Ret.Keeps k s0 (State.doDmfd s a1 a2 a3) := by
  unfold State.doDmfd
  repeat' first
    | with_reducible assumption
    | with_reducible apply State.put_keeps

theorem State.doDmfs_keeps {s : State} (hcores : k.cores = false) (h : State.Keeps k s0 s) (a1 : Nat) (a2 : Fin 32) :
    Ret.Keeps k s0 (State.doDmfs s a1 a2) := by
  unfold State.doDmfs
  repeat' first
    | with_reducible assumption
    | with_reducible apply State.put_keeps

theorem State.doDmts_keeps {s : State} (hcores : k.cores = false) (h : State.Keeps k s0 s) (a1 : Nat) (a2 : Fin 32) :
    Ret.Keeps k s0 (State.doDmts s a1 a2) := by
  unfold State.doDmts
  repeat' first
    | with_reducible assumption
    | refine Ret.Keeps.done ?_
    | (extract_lets -underBinder +onlyGivenNames x; unfold x; clear x)
    | with_reducible apply State.setDm_keeps

theorem State.q31_keeps {s : State} (hcores : k.cores = false) (h : State.Keeps k s0 s) (a1 : Nat) (a2 : Word) (a3 : Fin 32) (a4 : Fin 32) (a5 : Fin 32) (a6 : Int → Int → Int) :
    Ret.Keeps k s0 (State.q31 s a1 a2 a3 a4 a5 a6) := by
  unfold State.q31
  repeat' first
    | with_reducible assumption
    | with_reducible apply State.dmOne_keeps

theorem State.doDqadd_keeps {s : State} (hcores : k.cores = false) (h : State.Keeps k s0 s) (a1 : Nat) (a2 : Fin 32) (a3 : Fin 32) (a4 : Fin 32) :
    Ret.Keeps k s0 (State.doDqadd s a1 a2 a3 a4) := by
  unfold State.doDqadd
  repeat' first
    | with_reducible assumption
    | with_reducible apply State.q31_keeps

theorem State.doDqsub_keeps {s : State} (hcores : k.cores = false) (h : State.Keeps k s0 s) (a1 : Nat) (a2 : Fin 32) (a3 : Fin 32) (a4 : Fin 32) :
    Ret.Keeps k s0 (State.doDqsub s a1 a2 a3 a4) := by
  unfold State.doDqsub
  repeat' first
    | with_reducible assumption
    | with_reducible apply State.q31_keeps

theorem State.doDqmul_keeps {s : State} (hcores : k.cores = false) (h : State.Keeps k s0 s) (a1 : Nat) (a2 : Fin 32) (a3 : Fin 32) (a4 : Fin 32) :
    Ret.Keeps k s0 (State.doDqmul s a1 a2 a3 a4) := by
  unfold State.doDqmul
  repeat' first
    | with_reducible assumption
    | with_reducible apply State.dmOne_keeps

theorem State.doDqmac_keeps {s : State} (hcores : k.cores = false) (h : State.Keeps k s0 s) (a1 : Nat) (a2 : Fin 32) (a3 : Fin 32) (a4 : Fin 32) :
    Ret.Keeps k s0 (State.doDqmac s a1 a2 a3 a4) := by
  unfold State.doDqmac
  repeat' first
    | with_reducible assumption
    | (extract_lets -underBinder +onlyGivenNames x; unfold x; clear x)
    | with_reducible apply State.dmOne_keeps

theorem State.doDqdiv_keeps {s : State} (hcores : k.cores = false) (h : State.Keeps k s0 s) (a1 : Nat) (a2 a3 a4 : Fin 32) :
    Ret.Keeps k s0 (State.doDqdiv s a1 a2 a3 a4) := State.long_keeps hcores h _ _ _ _ _

theorem State.endDqdiv_keeps {s : State} (hcores : k.cores = false) (h : State.Keeps k s0 s) (a1 : Nat) (a2 : Fin 32) (a3 : Fin 32) (a4 : Fin 32) :
    Ret.Keeps k s0 (State.endDqdiv s a1 a2 a3 a4) := by
  unfold State.endDqdiv
  repeat' first
    | with_reducible assumption
    | with_reducible refine Keeps.ite (P := Ret.Keeps _ _) ?_ ?_
    | (extract_lets -underBinder +onlyGivenNames x; unfold x; clear x)
    | with_reducible apply State.nextFree_keeps
    | with_reducible apply State.dmOne_keeps

theorem State.float2_keeps {s : State} (hcores : k.cores = false) (h : State.Keeps k s0 s) (a1 : Nat) (a2 : Word) (a3 : Fin 32) (a4 : Fin 32) (a5 : Fin 32) (a6 : BitVec 64 → Word → Word → Flagged) :
    Ret.Keeps k s0 (State.float2 s a1 a2 a3 a4 a5 a6) := by
  unfold State.float2
  repeat' first
    | with_reducible assumption
    | with_reducible apply State.dmOne_keeps
    | with_reducible apply State.nextFree_keeps

theorem State.doFadd_keeps {s : State} (hcores : k.cores = false) (h : State.Keeps k s0 s) (a1 : Nat) (a2 : Fin 32) (a3 : Fin 32) (a4 : Fin 32) :
    Ret.Keeps k s0 (State.doFadd s a1 a2 a3 a4) := by
  unfold State.doFadd
  repeat' first
    | with_reducible assumption
    | with_reducible apply State.float2_keeps

theorem State.doFsub_keeps {s : State} (hcores : k.cores = false) (h : State.Keeps k s0 s) (a1 : Nat) (a2 : Fin 32) (a3 : Fin 32) (a4 : Fin 32) :
    Ret.Keeps k s0 (State.doFsub s a1 a2 a3 a4) := by
  unfold State.doFsub
  repeat' first
    | with_reducible assumption
    | with_reducible apply State.float2_keeps

theorem State.doFmul_keeps {s : State} (hcores : k.cores = false) (h : State.Keeps k s0 s) (a1 : Nat) (a2 : Fin 32) (a3 : Fin 32) (a4 : Fin 32) :
    Ret.Keeps k s0 (State.doFmul s a1 a2 a3 a4) := by
  unfold State.doFmul
  repeat' first
    | with_reducible assumption
    | with_reducible apply State.float2_keeps

theorem State.doFmac_keeps {s : State} (hcores : k.cores = false) (h : State.Keeps k s0 s) (a1 : Nat) (a2 : Fin 32) (a3 : Fin 32) (a4 : Fin 32) :
    Ret.Keeps k s0 (State.doFmac s a1 a2 a3 a4) := by
  unfold State.doFmac
  repeat' first
    | with_reducible assumption
    | with_reducible apply State.dmOne_keeps
    | with_reducible apply State.nextFree_keeps

theorem State.doFdiv_keeps {s : State} (hcores : k.cores = false) (h : State.Keeps k s0 s) (a1 : Nat) (a2 a3 a4 : Fin 32) :
    Ret.Keeps k s0 (State.doFdiv s a1 a2 a3 a4) := State.long_keeps hcores h _ _ _ _ _

theorem State.endFdiv_keeps {s : State} (hcores : k.cores = false) (h : State.Keeps k s0 s) (a1 : Nat) (a2 : Fin 32) (a3 : Fin 32) (a4 : Fin 32) :
    Ret.Keeps k s0 (State.endFdiv s a1 a2 a3 a4) := by
  unfold State.endFdiv
  repeat' first
    | with_reducible assumption
    | with_reducible apply State.float2_keeps

theorem State.doFsqrt_keeps {s : State} (hcores : k.cores = false) (h : State.Keeps k s0 s) (a1 : Nat) (a2 a3 : Fin 32) :
    Ret.Keeps k s0 (State.doFsqrt s a1 a2 a3) := State.long_keeps hcores h _ _ _ _ _

theorem State.endFsqrt_keeps {s : State} (hcores : k.cores = false) (h : State.Keeps k s0 s) (a1 : Nat) (a2 : Fin 32) (a3 : Fin 32) :
    Ret.Keeps k s0 (State.endFsqrt s a1 a2 a3) := by
  unfold State.endFsqrt
  repeat' first
    | with_reducible assumption
    | with_reducible apply State.dmOne_keeps
    | with_reducible apply State.nextFree_keeps

theorem State.doFtoq_keeps {s : State} (hcores : k.cores = false) (h : State.Keeps k s0 s) (a1 : Nat) (a2 : Fin 32) (a3 : Fin 32) :
    Ret.Keeps k s0 (State.doFtoq s a1 a2 a3) := by
  unfold State.doFtoq
  repeat' first
    | with_reducible assumption
    | with_reducible apply State.dmOne_keeps
    | with_reducible apply State.nextFree_keeps

theorem State.doQtof_keeps {s : State} (hcores : k.cores = false) (h : State.Keeps k s0 s) (a1 : Nat) (a2 : Fin 32) (a3 : Fin 32) :
    Ret.Keeps k s0 (State.doQtof s a1 a2 a3) := by
  unfold State.doQtof
  repeat' first
    | with_reducible assumption
    | with_reducible apply State.dmOne_keeps

theorem State.products_keeps {s : State} (hcores : k.cores = false) (h : State.Keeps k s0 s) (a1 : Nat) (a2 : Word) (a3 : Fin 32) (a4 : Int) (a5 : Int) :
    Ret.Keeps k s0 (State.products s a1 a2 a3 a4 a5) := by
  unfold State.products
  repeat' first
    | with_reducible assumption
    | with_reducible apply State.dmPair_keeps
    | with_reducible apply State.skipFree_keeps

theorem State.doCmul_keeps {s : State} (hcores : k.cores = false) (h : State.Keeps k s0 s) (a1 : Nat) (a2 : Fin 32) (a3 : Fin 32) (a4 : Fin 32) :
    Ret.Keeps k s0 (State.doCmul s a1 a2 a3 a4) := by
  unfold State.doCmul
  repeat' first
    | with_reducible assumption
    | (extract_lets -underBinder +onlyGivenNames x; unfold x; clear x)
    | with_reducible apply State.products_keeps

theorem State.doClarke_keeps {s : State} (hcores : k.cores = false) (h : State.Keeps k s0 s) (a1 : Nat) (a2 : Fin 32) (a3 : Fin 32) :
    Ret.Keeps k s0 (State.doClarke s a1 a2 a3) := by
  unfold State.doClarke
  repeat' first
    | with_reducible assumption
    | (extract_lets -underBinder +onlyGivenNames x; unfold x; clear x)
    | with_reducible apply State.dmPair_keeps
    | with_reducible apply State.skipFree_keeps

theorem State.doPark_keeps {s : State} (hcores : k.cores = false) (h : State.Keeps k s0 s) (a1 : Nat) (a2 : Fin 32) (a3 : Fin 32) (a4 : Fin 32) :
    Ret.Keeps k s0 (State.doPark s a1 a2 a3 a4) := by
  unfold State.doPark
  repeat' first
    | with_reducible assumption
    | (extract_lets -underBinder +onlyGivenNames x; unfold x; clear x)
    | with_reducible apply State.products_keeps

theorem State.doIpark_keeps {s : State} (hcores : k.cores = false) (h : State.Keeps k s0 s) (a1 : Nat) (a2 : Fin 32) (a3 : Fin 32) (a4 : Fin 32) :
    Ret.Keeps k s0 (State.doIpark s a1 a2 a3 a4) := by
  unfold State.doIpark
  repeat' first
    | with_reducible assumption
    | (extract_lets -underBinder +onlyGivenNames x; unfold x; clear x)
    | with_reducible apply State.products_keeps

theorem State.doSincos_keeps {s : State} (hcores : k.cores = false) (h : State.Keeps k s0 s) (a1 : Nat) (a2 : Fin 32) (a3 : Fin 32) :
    Ret.Keeps k s0 (State.doSincos s a1 a2 a3) := by
  unfold State.doSincos
  repeat' first
    | with_reducible assumption
    | (extract_lets -underBinder +onlyGivenNames x; unfold x; clear x)
    | with_reducible apply State.dmOut_keeps
    | with_reducible apply State.skipFree_keeps

theorem State.sectionOut_keeps {s : State} (hcores : k.cores = false) (h : State.Keeps k s0 s) (a1 : Nat) (a2 : Word) (a3 : Fin 32) (a4 : Fin 32) (a5 : Flagged) (a6 : Flagged) (a7 : Flagged) :
    Ret.Keeps k s0 (State.sectionOut s a1 a2 a3 a4 a5 a6 a7) := by
  unfold State.sectionOut
  repeat' first
    | with_reducible assumption
    | (intro x hx; have := (hx : State.Keeps k s0 x))
    | refine Ret.Keeps.done ?_
    | with_reducible apply State.flagged_keeps
    | with_reducible apply State.setDm_keeps

theorem State.doBq_keeps {s : State} (hcores : k.cores = false) (h : State.Keeps k s0 s) (a1 : Nat) (a2 : Fin 32) (a3 : Fin 32) (a4 : Fin 32) :
    Ret.Keeps k s0 (State.doBq s a1 a2 a3 a4) := by
  unfold State.doBq
  repeat' first
    | with_reducible assumption
    | (extract_lets -underBinder +onlyGivenNames x; unfold x; clear x)
    | with_reducible apply State.sectionOut_keeps
    | with_reducible apply State.skipFree_keeps

theorem State.doPr_keeps {s : State} (hcores : k.cores = false) (h : State.Keeps k s0 s) (a1 : Nat) (a2 : Fin 32) (a3 : Fin 32) (a4 : Fin 32) :
    Ret.Keeps k s0 (State.doPr s a1 a2 a3 a4) := by
  unfold State.doPr
  repeat' first
    | with_reducible assumption
    | (extract_lets -underBinder +onlyGivenNames x; unfold x; clear x)
    | with_reducible apply State.sectionOut_keeps
    | with_reducible apply State.skipFree_keeps

theorem State.doDsecr_keeps {s : State} (hcores : k.cores = false) (h : State.Keeps k s0 s) (a1 : Nat) (a2 : Fin 32) (a3 : Fin 32) (a4 : Fin 32) :
    Ret.Keeps k s0 (State.doDsecr s a1 a2 a3 a4) := by
  unfold State.doDsecr
  repeat' first
    | with_reducible assumption
    | refine Ret.Keeps.done ?_
    | with_reducible apply State.setDm_keeps

theorem State.doDsecw_keeps {s : State} (hcores : k.cores = false) (h : State.Keeps k s0 s) (a1 : Nat) (a2 : Fin 32) (a3 : Fin 32) (a4 : Fin 32) :
    Ret.Keeps k s0 (State.doDsecw s a1 a2 a3 a4) := by
  unfold State.doDsecw
  repeat' first
    | with_reducible assumption
    | refine Ret.Keeps.done ?_
    | with_reducible apply State.setDm_keeps

theorem State.doFir_keeps {s : State} (hcores : k.cores = false) (h : State.Keeps k s0 s) (a1 : Nat) (a2 a3 : Fin 32) :
    Ret.Keeps k s0 (State.doFir s a1 a2 a3) := State.long_keeps hcores h _ _ _ _ _

theorem State.endFir_keeps {s : State} (hcores : k.cores = false) (h : State.Keeps k s0 s) (a1 : Nat) (a2 : Fin 32) (a3 : Fin 32) :
    Ret.Keeps k s0 (State.endFir s a1 a2 a3) := by
  unfold State.endFir
  repeat' first
    | with_reducible assumption
    | (intro x hx; have := (hx : State.Keeps k s0 x))
    | refine Ret.Keeps.done ?_
    | (extract_lets -underBinder +onlyGivenNames x; unfold x; clear x)
    | with_reducible apply State.flagged_keeps
    | with_reducible apply State.setDm_keeps

theorem State.doFirw_keeps {s : State} (hcores : k.cores = false) (h : State.Keeps k s0 s) (a1 : Nat) (a2 : Fin 32) (a3 : Fin 32) :
    Ret.Keeps k s0 (State.doFirw s a1 a2 a3) := by
  unfold State.doFirw
  repeat' first
    | with_reducible assumption
    | refine Ret.Keeps.done ?_
    | with_reducible apply State.setDm_keeps

theorem State.doDld_keeps {s : State} (hcores : k.cores = false) (hlatch : k.latch = false) (hresp : k.resp = false) (ball : ∀ b, k.blk b = false) (h : State.Keeps k s0 s) (a1 : Nat) (a2 : Fin 32) (a3 : Fin 32) (a4 : Fin 32) :
    Ret.Keeps k s0 (State.doDld s a1 a2 a3 a4) := by
  unfold State.doDld
  repeat' first
    | with_reducible assumption
    | (intro x y hx; have := (hx : State.Keeps k s0 x))
    | refine Ret.Keeps.done ?_
    | with_reducible apply State.coreRead_keeps
    | with_reducible apply State.setDm_keeps

theorem State.doDst_keeps {s : State} (hmem : k.mem = false) (hcores : k.cores = false) (hresp : k.resp = false) (ball : ∀ b, k.blk b = false) (h : State.Keeps k s0 s) (a1 : Nat) (a2 : Fin 32) (a3 : Fin 32) (a4 : Fin 32) :
    Ret.Keeps k s0 (State.doDst s a1 a2 a3 a4) := by
  unfold State.doDst
  repeat' first
    | with_reducible assumption
    | (intro x hx; have := (hx : State.Keeps k s0 x))
    | refine Ret.Keeps.done ?_
    | with_reducible apply State.coreWrite_keeps

theorem State.doDtrk_keeps {s : State} (hcores : k.cores = false) (h : State.Keeps k s0 s) (a1 : Nat) (a2 : Fin 32) (a3 : Fin 32) :
    Ret.Keeps k s0 (State.doDtrk s a1 a2 a3) := by
  unfold State.doDtrk
  repeat' first
    | with_reducible assumption
    | (intro x hx; have := (hx : State.Keeps k s0 x))
    | refine Ret.Keeps.done ?_
    | (extract_lets -underBinder +onlyGivenNames x; unfold x; clear x)
    | with_reducible apply State.flagged_keeps
    | with_reducible apply State.setDm_keeps

theorem State.doDedg_keeps {s : State} (hcores : k.cores = false) (b5 : k.blk 5 = false) (h : State.Keeps k s0 s) (a1 : Nat) (a2 : Fin 32) (a3 : Fin 32) :
    Ret.Keeps k s0 (State.doDedg s a1 a2 a3) := by
  unfold State.doDedg
  repeat' first
    | with_reducible assumption
    | (with_reducible show Fld.Listed _; decide)
    | (show Kept.blk _ _ = false; first | exact b5)
    | (intro x hx; have := (hx : State.Keeps k s0 x))
    | refine Ret.Keeps.done ?_
    | refine Ret.Keeps.exc ?_
    | with_reducible refine Keeps.ite (P := Ret.Keeps _ _) ?_ ?_
    | (extract_lets -underBinder +onlyGivenNames x; unfold x; clear x)
    | with_reducible apply State.set_keeps
    | with_reducible apply State.flagged_keeps
    | split

theorem State.longDone_keeps {s : State} (hmem : k.mem = false) (hcores : k.cores = false) (b0 : k.blk 0 = false) (b5 : k.blk 5 = false) (b6 : k.blk 6 = false) (b11 : k.blk 11 = false) (b12 : k.blk 12 = false) (b13 : k.blk 13 = false) (b14 : k.blk 14 = false) (b15 : k.blk 15 = false) (b18 : k.blk 18 = false) (b20 : k.blk 20 = false) (b22 : k.blk 22 = false) (b23 : k.blk 23 = false) (h : State.Keeps k s0 s) (a1 : Nat) :
    State.Keeps k s0 (State.longDone s a1) := by
  unfold State.longDone
  repeat' first
    | with_reducible assumption
    | (extract_lets -underBinder +onlyGivenNames x; refine Keeps.cut (k := k) (s0 := s0) (x := x) ?_ ?_ <;> first | (intro _; revert x; intro _ _) | (unfold x; clear x))
    | (extract_lets -underBinder +onlyGivenNames x; unfold x; clear x)
    | with_reducible apply State.setCore_keeps
    | with_reducible apply State.commit_keeps
    | with_reducible apply State.endDqdiv_keeps
    | with_reducible apply State.endFdiv_keeps
    | with_reducible apply State.endFsqrt_keeps
    | with_reducible apply State.endFir_keeps
    | split

theorem State.squash_keeps {s : State} (hcores : k.cores = false) (h : State.Keeps k s0 s) (a1 : Nat) :
    State.Keeps k s0 (State.squash s a1) := by
  unfold State.squash
  repeat' first
    | with_reducible assumption
    | (extract_lets -underBinder +onlyGivenNames x; unfold x; clear x)
    | with_reducible apply State.setCore_keeps
    | split

end Sys2Proof.Machine
end

