-- ==== Sys2Proof/Laws/Keeps/NaveAlu.lean ====
section
/-!
SUPPORT. Sys2Proof/Laws/Keeps/NaveAlu.lean: what each operation of Machine/NaveAlu.lean keeps.
-/

set_option Elab.async false

namespace Sys2Proof.Machine

set_option linter.tactic.unusedName false

variable {k : Kept} {s0 : State}

theorem State.alu_keeps {s : State} (hcores : k.cores = false) (h : State.Keeps k s0 s) (a1 : Nat) (a2 : Fin 32) (a3 : Fin 32) (a4 : Fin 32) (a5 : Word → Word → Word) :
    Ret.Keeps k s0 (State.alu s a1 a2 a3 a4 a5) := by
  unfold State.alu
  repeat' first
    | with_reducible assumption
    | (extract_lets -underBinder +onlyGivenNames x; unfold x; clear x)
    | with_reducible apply State.put_keeps

theorem State.alu1_keeps {s : State} (hcores : k.cores = false) (h : State.Keeps k s0 s) (a1 : Nat) (a2 : Fin 32) (a3 : Fin 32) (a4 : Word → Word) :
    Ret.Keeps k s0 (State.alu1 s a1 a2 a3 a4) := by
  unfold State.alu1
  repeat' first
    | with_reducible assumption
    | (extract_lets -underBinder +onlyGivenNames x; unfold x; clear x)
    | with_reducible apply State.put_keeps

theorem State.doAdd_keeps {s : State} (hcores : k.cores = false) (h : State.Keeps k s0 s) (a1 : Nat) (a2 : Fin 32) (a3 : Fin 32) (a4 : Fin 32) :
    Ret.Keeps k s0 (State.doAdd s a1 a2 a3 a4) := by
  unfold State.doAdd
  repeat' first
    | with_reducible assumption
    | with_reducible apply State.alu_keeps

theorem State.doSub_keeps {s : State} (hcores : k.cores = false) (h : State.Keeps k s0 s) (a1 : Nat) (a2 : Fin 32) (a3 : Fin 32) (a4 : Fin 32) :
    Ret.Keeps k s0 (State.doSub s a1 a2 a3 a4) := by
  unfold State.doSub
  repeat' first
    | with_reducible assumption
    | with_reducible apply State.alu_keeps

theorem State.doAnd_keeps {s : State} (hcores : k.cores = false) (h : State.Keeps k s0 s) (a1 : Nat) (a2 : Fin 32) (a3 : Fin 32) (a4 : Fin 32) :
    Ret.Keeps k s0 (State.doAnd s a1 a2 a3 a4) := by
  unfold State.doAnd
  repeat' first
    | with_reducible assumption
    | with_reducible apply State.alu_keeps

theorem State.doOr_keeps {s : State} (hcores : k.cores = false) (h : State.Keeps k s0 s) (a1 : Nat) (a2 : Fin 32) (a3 : Fin 32) (a4 : Fin 32) :
    Ret.Keeps k s0 (State.doOr s a1 a2 a3 a4) := by
  unfold State.doOr
  repeat' first
    | with_reducible assumption
    | with_reducible apply State.alu_keeps

theorem State.doXor_keeps {s : State} (hcores : k.cores = false) (h : State.Keeps k s0 s) (a1 : Nat) (a2 : Fin 32) (a3 : Fin 32) (a4 : Fin 32) :
    Ret.Keeps k s0 (State.doXor s a1 a2 a3 a4) := by
  unfold State.doXor
  repeat' first
    | with_reducible assumption
    | with_reducible apply State.alu_keeps

theorem State.doSlt_keeps {s : State} (hcores : k.cores = false) (h : State.Keeps k s0 s) (a1 : Nat) (a2 : Fin 32) (a3 : Fin 32) (a4 : Fin 32) :
    Ret.Keeps k s0 (State.doSlt s a1 a2 a3 a4) := by
  unfold State.doSlt
  repeat' first
    | with_reducible assumption
    | with_reducible apply State.alu_keeps

theorem State.doSltu_keeps {s : State} (hcores : k.cores = false) (h : State.Keeps k s0 s) (a1 : Nat) (a2 : Fin 32) (a3 : Fin 32) (a4 : Fin 32) :
    Ret.Keeps k s0 (State.doSltu s a1 a2 a3 a4) := by
  unfold State.doSltu
  repeat' first
    | with_reducible assumption
    | with_reducible apply State.alu_keeps

theorem State.doSll_keeps {s : State} (hcores : k.cores = false) (h : State.Keeps k s0 s) (a1 : Nat) (a2 : Fin 32) (a3 : Fin 32) (a4 : Fin 32) :
    Ret.Keeps k s0 (State.doSll s a1 a2 a3 a4) := by
  unfold State.doSll
  repeat' first
    | with_reducible assumption
    | with_reducible apply State.alu_keeps

theorem State.doSrl_keeps {s : State} (hcores : k.cores = false) (h : State.Keeps k s0 s) (a1 : Nat) (a2 : Fin 32) (a3 : Fin 32) (a4 : Fin 32) :
    Ret.Keeps k s0 (State.doSrl s a1 a2 a3 a4) := by
  unfold State.doSrl
  repeat' first
    | with_reducible assumption
    | with_reducible apply State.alu_keeps

theorem State.doSra_keeps {s : State} (hcores : k.cores = false) (h : State.Keeps k s0 s) (a1 : Nat) (a2 : Fin 32) (a3 : Fin 32) (a4 : Fin 32) :
    Ret.Keeps k s0 (State.doSra s a1 a2 a3 a4) := by
  unfold State.doSra
  repeat' first
    | with_reducible assumption
    | with_reducible apply State.alu_keeps

theorem State.doSlli_keeps {s : State} (hcores : k.cores = false) (h : State.Keeps k s0 s) (a1 : Nat) (a2 : Fin 32) (a3 : Fin 32) (a4 : Fin 32) :
    Ret.Keeps k s0 (State.doSlli s a1 a2 a3 a4) := by
  unfold State.doSlli
  repeat' first
    | with_reducible assumption
    | with_reducible apply State.alu1_keeps

theorem State.doSrli_keeps {s : State} (hcores : k.cores = false) (h : State.Keeps k s0 s) (a1 : Nat) (a2 : Fin 32) (a3 : Fin 32) (a4 : Fin 32) :
    Ret.Keeps k s0 (State.doSrli s a1 a2 a3 a4) := by
  unfold State.doSrli
  repeat' first
    | with_reducible assumption
    | with_reducible apply State.alu1_keeps

theorem State.doSrai_keeps {s : State} (hcores : k.cores = false) (h : State.Keeps k s0 s) (a1 : Nat) (a2 : Fin 32) (a3 : Fin 32) (a4 : Fin 32) :
    Ret.Keeps k s0 (State.doSrai s a1 a2 a3 a4) := by
  unfold State.doSrai
  repeat' first
    | with_reducible assumption
    | with_reducible apply State.alu1_keeps

theorem State.doMin_keeps {s : State} (hcores : k.cores = false) (h : State.Keeps k s0 s) (a1 : Nat) (a2 : Fin 32) (a3 : Fin 32) (a4 : Fin 32) :
    Ret.Keeps k s0 (State.doMin s a1 a2 a3 a4) := by
  unfold State.doMin
  repeat' first
    | with_reducible assumption
    | with_reducible apply State.alu_keeps

theorem State.doMax_keeps {s : State} (hcores : k.cores = false) (h : State.Keeps k s0 s) (a1 : Nat) (a2 : Fin 32) (a3 : Fin 32) (a4 : Fin 32) :
    Ret.Keeps k s0 (State.doMax s a1 a2 a3 a4) := by
  unfold State.doMax
  repeat' first
    | with_reducible assumption
    | with_reducible apply State.alu_keeps

theorem State.doClz_keeps {s : State} (hcores : k.cores = false) (h : State.Keeps k s0 s) (a1 : Nat) (a2 : Fin 32) (a3 : Fin 32) :
    Ret.Keeps k s0 (State.doClz s a1 a2 a3) := by
  unfold State.doClz
  repeat' first
    | with_reducible assumption
    | with_reducible apply State.alu1_keeps

theorem State.doPopc_keeps {s : State} (hcores : k.cores = false) (h : State.Keeps k s0 s) (a1 : Nat) (a2 : Fin 32) (a3 : Fin 32) :
    Ret.Keeps k s0 (State.doPopc s a1 a2 a3) := by
  unfold State.doPopc
  repeat' first
    | with_reducible assumption
    | with_reducible apply State.alu1_keeps

theorem State.doRevb_keeps {s : State} (hcores : k.cores = false) (h : State.Keeps k s0 s) (a1 : Nat) (a2 : Fin 32) (a3 : Fin 32) :
    Ret.Keeps k s0 (State.doRevb s a1 a2 a3) := by
  unfold State.doRevb
  repeat' first
    | with_reducible assumption
    | with_reducible apply State.alu1_keeps

theorem State.doAddi_keeps {s : State} (hcores : k.cores = false) (h : State.Keeps k s0 s) (a1 : Nat) (a2 : Fin 32) (a3 : Fin 32) (a4 : BitVec 16) :
    Ret.Keeps k s0 (State.doAddi s a1 a2 a3 a4) := by
  unfold State.doAddi
  repeat' first
    | with_reducible assumption
    | with_reducible apply State.alu1_keeps

theorem State.doAndi_keeps {s : State} (hcores : k.cores = false) (h : State.Keeps k s0 s) (a1 : Nat) (a2 : Fin 32) (a3 : Fin 32) (a4 : BitVec 16) :
    Ret.Keeps k s0 (State.doAndi s a1 a2 a3 a4) := by
  unfold State.doAndi
  repeat' first
    | with_reducible assumption
    | with_reducible apply State.alu1_keeps

theorem State.doOri_keeps {s : State} (hcores : k.cores = false) (h : State.Keeps k s0 s) (a1 : Nat) (a2 : Fin 32) (a3 : Fin 32) (a4 : BitVec 16) :
    Ret.Keeps k s0 (State.doOri s a1 a2 a3 a4) := by
  unfold State.doOri
  repeat' first
    | with_reducible assumption
    | with_reducible apply State.alu1_keeps

theorem State.doXori_keeps {s : State} (hcores : k.cores = false) (h : State.Keeps k s0 s) (a1 : Nat) (a2 : Fin 32) (a3 : Fin 32) (a4 : BitVec 16) :
    Ret.Keeps k s0 (State.doXori s a1 a2 a3 a4) := by
  unfold State.doXori
  repeat' first
    | with_reducible assumption
    | with_reducible apply State.alu1_keeps

theorem State.doSlti_keeps {s : State} (hcores : k.cores = false) (h : State.Keeps k s0 s) (a1 : Nat) (a2 : Fin 32) (a3 : Fin 32) (a4 : BitVec 16) :
    Ret.Keeps k s0 (State.doSlti s a1 a2 a3 a4) := by
  unfold State.doSlti
  repeat' first
    | with_reducible assumption
    | with_reducible apply State.alu1_keeps

theorem State.doSltiu_keeps {s : State} (hcores : k.cores = false) (h : State.Keeps k s0 s) (a1 : Nat) (a2 : Fin 32) (a3 : Fin 32) (a4 : BitVec 16) :
    Ret.Keeps k s0 (State.doSltiu s a1 a2 a3 a4) := by
  unfold State.doSltiu
  repeat' first
    | with_reducible assumption
    | with_reducible apply State.alu1_keeps

theorem State.doLui_keeps {s : State} (hcores : k.cores = false) (h : State.Keeps k s0 s) (a1 : Nat) (a2 : Fin 32) (a3 : BitVec 16) :
    Ret.Keeps k s0 (State.doLui s a1 a2 a3) := by
  unfold State.doLui
  repeat' first
    | with_reducible assumption
    | with_reducible apply State.put_keeps

theorem State.doMul_keeps {s : State} (hcores : k.cores = false) (h : State.Keeps k s0 s) (a1 : Nat) (a2 : Fin 32) (a3 : Fin 32) (a4 : Fin 32) :
    Ret.Keeps k s0 (State.doMul s a1 a2 a3 a4) := by
  unfold State.doMul
  repeat' first
    | with_reducible assumption
    | with_reducible apply State.alu_keeps

theorem State.doMulh_keeps {s : State} (hcores : k.cores = false) (h : State.Keeps k s0 s) (a1 : Nat) (a2 : Fin 32) (a3 : Fin 32) (a4 : Fin 32) :
    Ret.Keeps k s0 (State.doMulh s a1 a2 a3 a4) := by
  unfold State.doMulh
  repeat' first
    | with_reducible assumption
    | with_reducible apply State.alu_keeps

theorem State.doMulhu_keeps {s : State} (hcores : k.cores = false) (h : State.Keeps k s0 s) (a1 : Nat) (a2 : Fin 32) (a3 : Fin 32) (a4 : Fin 32) :
    Ret.Keeps k s0 (State.doMulhu s a1 a2 a3 a4) := by
  unfold State.doMulhu
  repeat' first
    | with_reducible assumption
    | with_reducible apply State.alu_keeps

theorem State.doQadd_keeps {s : State} (hcores : k.cores = false) (h : State.Keeps k s0 s) (a1 : Nat) (a2 : Fin 32) (a3 : Fin 32) (a4 : Fin 32) :
    Ret.Keeps k s0 (State.doQadd s a1 a2 a3 a4) := by
  unfold State.doQadd
  repeat' first
    | with_reducible assumption
    | with_reducible apply State.alu_keeps

theorem State.doQsub_keeps {s : State} (hcores : k.cores = false) (h : State.Keeps k s0 s) (a1 : Nat) (a2 : Fin 32) (a3 : Fin 32) (a4 : Fin 32) :
    Ret.Keeps k s0 (State.doQsub s a1 a2 a3 a4) := by
  unfold State.doQsub
  repeat' first
    | with_reducible assumption
    | with_reducible apply State.alu_keeps

theorem State.doQmul_keeps {s : State} (hcores : k.cores = false) (h : State.Keeps k s0 s) (a1 : Nat) (a2 : Fin 32) (a3 : Fin 32) (a4 : Fin 32) :
    Ret.Keeps k s0 (State.doQmul s a1 a2 a3 a4) := by
  unfold State.doQmul
  repeat' first
    | with_reducible assumption
    | with_reducible apply State.alu_keeps

theorem State.doQmac_keeps {s : State} (hcores : k.cores = false) (h : State.Keeps k s0 s) (a1 : Nat) (a2 : Fin 32) (a3 : Fin 32) (a4 : Fin 32) :
    Ret.Keeps k s0 (State.doQmac s a1 a2 a3 a4) := by
  unfold State.doQmac
  repeat' first
    | with_reducible assumption
    | (extract_lets -underBinder +onlyGivenNames x; unfold x; clear x)
    | with_reducible apply State.alu_keeps

theorem State.doQneg_keeps {s : State} (hcores : k.cores = false) (h : State.Keeps k s0 s) (a1 : Nat) (a2 : Fin 32) (a3 : Fin 32) :
    Ret.Keeps k s0 (State.doQneg s a1 a2 a3) := by
  unfold State.doQneg
  repeat' first
    | with_reducible assumption
    | with_reducible apply State.alu1_keeps

theorem State.doQabs_keeps {s : State} (hcores : k.cores = false) (h : State.Keeps k s0 s) (a1 : Nat) (a2 : Fin 32) (a3 : Fin 32) :
    Ret.Keeps k s0 (State.doQabs s a1 a2 a3) := by
  unfold State.doQabs
  repeat' first
    | with_reducible assumption
    | with_reducible apply State.alu1_keeps

theorem State.doSats_keeps {s : State} (hcores : k.cores = false) (h : State.Keeps k s0 s) (a1 : Nat) (a2 : Fin 32) (a3 : Fin 32) (a4 : Fin 32) :
    Ret.Keeps k s0 (State.doSats s a1 a2 a3 a4) := by
  unfold State.doSats
  repeat' first
    | with_reducible assumption
    | with_reducible apply State.alu1_keeps

theorem State.divide_keeps {s : State} (hcores : k.cores = false) (h : State.Keeps k s0 s) (a1 : Nat) (a2 : Fin 32) (a3 : Fin 32) (a4 : Fin 32) (a5 : Word → Word → Word) :
    Ret.Keeps k s0 (State.divide s a1 a2 a3 a4 a5) := by
  unfold State.divide
  repeat' first
    | with_reducible assumption
    | refine Ret.Keeps.wait ?_
    | with_reducible apply State.setCore_keeps

theorem State.doDiv_keeps {s : State} (hcores : k.cores = false) (h : State.Keeps k s0 s) (a1 : Nat) (a2 a3 a4 : Fin 32) :
    Ret.Keeps k s0 (State.doDiv s a1 a2 a3 a4) := State.divide_keeps hcores h _ _ _ _ _

theorem State.doDivu_keeps {s : State} (hcores : k.cores = false) (h : State.Keeps k s0 s) (a1 : Nat) (a2 a3 a4 : Fin 32) :
    Ret.Keeps k s0 (State.doDivu s a1 a2 a3 a4) := State.divide_keeps hcores h _ _ _ _ _

theorem State.doRem_keeps {s : State} (hcores : k.cores = false) (h : State.Keeps k s0 s) (a1 : Nat) (a2 a3 a4 : Fin 32) :
    Ret.Keeps k s0 (State.doRem s a1 a2 a3 a4) := State.divide_keeps hcores h _ _ _ _ _

theorem State.doRemu_keeps {s : State} (hcores : k.cores = false) (h : State.Keeps k s0 s) (a1 : Nat) (a2 a3 a4 : Fin 32) :
    Ret.Keeps k s0 (State.doRemu s a1 a2 a3 a4) := State.divide_keeps hcores h _ _ _ _ _

theorem State.divideDone_keeps {s : State} (hmem : k.mem = false) (hcores : k.cores = false) (b0 : k.blk 0 = false) (b5 : k.blk 5 = false) (b6 : k.blk 6 = false) (b11 : k.blk 11 = false) (b12 : k.blk 12 = false) (b13 : k.blk 13 = false) (b14 : k.blk 14 = false) (b15 : k.blk 15 = false) (b18 : k.blk 18 = false) (b20 : k.blk 20 = false) (b22 : k.blk 22 = false) (b23 : k.blk 23 = false) (h : State.Keeps k s0 s) (a1 : Nat) :
    State.Keeps k s0 (State.divideDone s a1) := by
  unfold State.divideDone
  repeat' first
    | with_reducible assumption
    | (extract_lets -underBinder +onlyGivenNames x; refine Keeps.cut (k := k) (s0 := s0) (x := x) ?_ ?_ <;> first | (intro _; revert x; intro _ _) | (unfold x; clear x))
    | (extract_lets -underBinder +onlyGivenNames x; unfold x; clear x)
    | with_reducible apply State.setCore_keeps
    | with_reducible apply State.commit_keeps
    | with_reducible apply State.put_keeps
    | split

theorem State.doExtu_keeps {s : State} (hcores : k.cores = false) (h : State.Keeps k s0 s) (a1 : Nat) (a2 : Fin 32) (a3 : Fin 32) (a4 : Fin 32) (a5 : Fin 32) :
    Ret.Keeps k s0 (State.doExtu s a1 a2 a3 a4 a5) := by
  unfold State.doExtu
  repeat' first
    | with_reducible assumption
    | with_reducible apply State.alu1_keeps

theorem State.doExts_keeps {s : State} (hcores : k.cores = false) (h : State.Keeps k s0 s) (a1 : Nat) (a2 : Fin 32) (a3 : Fin 32) (a4 : Fin 32) (a5 : Fin 32) :
    Ret.Keeps k s0 (State.doExts s a1 a2 a3 a4 a5) := by
  unfold State.doExts
  repeat' first
    | with_reducible assumption
    | with_reducible apply State.alu1_keeps

theorem State.doIns_keeps {s : State} (hcores : k.cores = false) (h : State.Keeps k s0 s) (a1 : Nat) (a2 : Fin 32) (a3 : Fin 32) (a4 : Fin 32) (a5 : Fin 32) :
    Ret.Keeps k s0 (State.doIns s a1 a2 a3 a4 a5) := by
  unfold State.doIns
  repeat' first
    | with_reducible assumption
    | (extract_lets -underBinder +onlyGivenNames x; unfold x; clear x)
    | with_reducible apply State.alu1_keeps

theorem State.branch_keeps {s : State} (h : State.Keeps k s0 s) (a1 : Nat) (a2 : Fin 32) (a3 : Fin 32) (a4 : BitVec 16) (a5 : Word → Word → Bool) :
    Ret.Keeps k s0 (State.branch s a1 a2 a3 a4 a5) := by
  unfold State.branch
  repeat' first
    | with_reducible assumption
    | refine Ret.Keeps.done ?_

theorem State.doBeq_keeps {s : State} (h : State.Keeps k s0 s) (a1 : Nat) (a2 : Fin 32) (a3 : Fin 32) (a4 : BitVec 16) :
    Ret.Keeps k s0 (State.doBeq s a1 a2 a3 a4) := by
  unfold State.doBeq
  repeat' first
    | with_reducible assumption
    | refine Ret.Keeps.done ?_

theorem State.doBne_keeps {s : State} (h : State.Keeps k s0 s) (a1 : Nat) (a2 : Fin 32) (a3 : Fin 32) (a4 : BitVec 16) :
    Ret.Keeps k s0 (State.doBne s a1 a2 a3 a4) := by
  unfold State.doBne
  repeat' first
    | with_reducible assumption
    | refine Ret.Keeps.done ?_

theorem State.doBlt_keeps {s : State} (h : State.Keeps k s0 s) (a1 : Nat) (a2 : Fin 32) (a3 : Fin 32) (a4 : BitVec 16) :
    Ret.Keeps k s0 (State.doBlt s a1 a2 a3 a4) := by
  unfold State.doBlt
  repeat' first
    | with_reducible assumption
    | refine Ret.Keeps.done ?_

theorem State.doBge_keeps {s : State} (h : State.Keeps k s0 s) (a1 : Nat) (a2 : Fin 32) (a3 : Fin 32) (a4 : BitVec 16) :
    Ret.Keeps k s0 (State.doBge s a1 a2 a3 a4) := by
  unfold State.doBge
  repeat' first
    | with_reducible assumption
    | refine Ret.Keeps.done ?_

theorem State.doBltu_keeps {s : State} (h : State.Keeps k s0 s) (a1 : Nat) (a2 : Fin 32) (a3 : Fin 32) (a4 : BitVec 16) :
    Ret.Keeps k s0 (State.doBltu s a1 a2 a3 a4) := by
  unfold State.doBltu
  repeat' first
    | with_reducible assumption
    | refine Ret.Keeps.done ?_

theorem State.doBgeu_keeps {s : State} (h : State.Keeps k s0 s) (a1 : Nat) (a2 : Fin 32) (a3 : Fin 32) (a4 : BitVec 16) :
    Ret.Keeps k s0 (State.doBgeu s a1 a2 a3 a4) := by
  unfold State.doBgeu
  repeat' first
    | with_reducible assumption
    | refine Ret.Keeps.done ?_

theorem State.doJ_keeps {s : State} (h : State.Keeps k s0 s) (a1 : Nat) (a2 : BitVec 26) :
    Ret.Keeps k s0 (State.doJ s a1 a2) := by
  unfold State.doJ
  repeat' first
    | with_reducible assumption
    | refine Ret.Keeps.done ?_

theorem State.doJal_keeps {s : State} (hcores : k.cores = false) (h : State.Keeps k s0 s) (a1 : Nat) (a2 : BitVec 26) :
    Ret.Keeps k s0 (State.doJal s a1 a2) := by
  unfold State.doJal
  exact State.put_keeps hcores h _ _ _ _

theorem State.doJalr_keeps {s : State} (hcores : k.cores = false) (h : State.Keeps k s0 s) (a1 : Nat) (a2 : Fin 32) (a3 : Fin 32) (a4 : BitVec 16) :
    Ret.Keeps k s0 (State.doJalr s a1 a2 a3 a4) := by
  unfold State.doJalr
  repeat' first
    | with_reducible assumption
    | (extract_lets -underBinder +onlyGivenNames x; unfold x; clear x)
    | with_reducible apply State.put_keeps

end Sys2Proof.Machine
end

