-- ==== Sys2Proof/Laws/Keeps/NaveSys.lean ====
section
/-!
SUPPORT. Sys2Proof/Laws/Keeps/NaveSys.lean: what each operation of Machine/NaveSys.lean keeps.
-/

set_option Elab.async false

namespace Sys2Proof.Machine

set_option linter.tactic.unusedName false

variable {k : Kept} {s0 : State}

theorem State.crLatch_keeps {s : State} (hcores : k.cores = false) (h : State.Keeps k s0 s) (a1 : Nat) (a2 : Nat) :
    State.Keeps k s0 (State.crLatch s a1 a2) := by
  unfold State.crLatch
  repeat' first
    | with_reducible assumption
    | with_reducible refine Keeps.ite (P := State.Keeps _ _) ?_ ?_
    | (extract_lets -underBinder +onlyGivenNames x; refine Keeps.cut (k := k) (s0 := s0) (x := x) ?_ ?_ <;> first | (intro _; revert x; intro _ _) | (unfold x; clear x))
    | (extract_lets -underBinder +onlyGivenNames x; unfold x; clear x)
    | with_reducible apply State.nextFree_keeps
    | with_reducible apply State.setCore_keeps

theorem State.doSyscall_keeps {s : State} (h : State.Keeps k s0 s) (a1 : Nat) (a2 : BitVec 12) :
    Ret.Keeps k s0 (State.doSyscall s a1 a2) := by
  unfold State.doSyscall
  repeat' first
    | with_reducible assumption
    | refine Ret.Keeps.exc ?_

theorem State.doBreak_keeps {s : State} (h : State.Keeps k s0 s) (a1 : Nat) :
    Ret.Keeps k s0 (State.doBreak s a1) := by
  unfold State.doBreak
  repeat' first
    | with_reducible assumption
    | refine Ret.Keeps.exc ?_

theorem State.doEret_keeps {s : State} (hcores : k.cores = false) (h : State.Keeps k s0 s) (a1 : Nat) :
    Ret.Keeps k s0 (State.doEret s a1) := by
  unfold State.doEret
  repeat' first
    | with_reducible assumption
    | refine Ret.Keeps.done ?_
    | refine Ret.Keeps.exc ?_
    | with_reducible refine Keeps.ite (P := Ret.Keeps _ _) ?_ ?_
    | (extract_lets -underBinder +onlyGivenNames x; unfold x; clear x)
    | with_reducible apply State.kernelOnly_keeps
    | with_reducible apply State.setCore_keeps
    | split

theorem State.doMfcr_keeps {s : State} (hcores : k.cores = false) (h : State.Keeps k s0 s) (a1 : Nat) (a2 : Fin 32) (a3 : BitVec 8) :
    Ret.Keeps k s0 (State.doMfcr s a1 a2 a3) := by
  unfold State.doMfcr
  repeat' first
    | with_reducible assumption
    | refine Ret.Keeps.exc ?_
    | (extract_lets -underBinder +onlyGivenNames x; unfold x; clear x)
    | with_reducible apply State.kernelOnly_keeps
    | with_reducible apply State.put_keeps
    | with_reducible apply State.crLatch_keeps
    | split

theorem State.doMtcr_keeps {s : State} (hcores : k.cores = false) (h : State.Keeps k s0 s) (a1 : Nat) (a2 : Fin 32) (a3 : BitVec 8) :
    Ret.Keeps k s0 (State.doMtcr s a1 a2 a3) := by
  unfold State.doMtcr
  repeat' first
    | with_reducible assumption
    | refine Ret.Keeps.done ?_
    | refine Ret.Keeps.exc ?_
    | with_reducible refine Keeps.ite (P := Ret.Keeps _ _) ?_ ?_
    | with_reducible apply State.kernelOnly_keeps
    | with_reducible apply State.setCore_keeps
    | split

theorem State.doWfi_keeps {s : State} (hcores : k.cores = false) (h : State.Keeps k s0 s) (a1 : Nat) :
    Ret.Keeps k s0 (State.doWfi s a1) := by
  unfold State.doWfi
  repeat' first
    | with_reducible assumption
    | refine Ret.Keeps.done ?_
    | (extract_lets -underBinder +onlyGivenNames x; unfold x; clear x)
    | with_reducible apply State.kernelOnly_keeps
    | with_reducible apply State.setCore_keeps

end Sys2Proof.Machine
end

