-- ==== Sys2Proof/Laws/Keeps/NaveRun.lean ====
section
/-!
SUPPORT. Sys2Proof/Laws/Keeps/NaveRun.lean: what each operation of Machine/NaveRun.lean keeps.
-/

set_option Elab.async false

namespace Sys2Proof.Machine

set_option linter.tactic.unusedName false

variable {k : Kept} {s0 : State}

theorem State.effect_keeps {s : State} (hmem : k.mem = false) (hcores : k.cores = false) (hlatch : k.latch = false) (hresp : k.resp = false) (ball : ∀ b, k.blk b = false) (h : State.Keeps k s0 s) (a1 : Nat) (a2 : NaveInstr) :
    Ret.Keeps k s0 (State.effect s a1 a2) := by
  cases a2 with
  | nvAdd rd rs1 rs2 => exact State.doAdd_keeps hcores h a1 _ _ _
  | nvSub rd rs1 rs2 => exact State.doSub_keeps hcores h a1 _ _ _
  | nvAnd rd rs1 rs2 => exact State.doAnd_keeps hcores h a1 _ _ _
  | nvOr rd rs1 rs2 => exact State.doOr_keeps hcores h a1 _ _ _
  | nvXor rd rs1 rs2 => exact State.doXor_keeps hcores h a1 _ _ _
  | nvSlt rd rs1 rs2 => exact State.doSlt_keeps hcores h a1 _ _ _
  | nvSltu rd rs1 rs2 => exact State.doSltu_keeps hcores h a1 _ _ _
  | nvSll rd rs1 rs2 => exact State.doSll_keeps hcores h a1 _ _ _
  | nvSrl rd rs1 rs2 => exact State.doSrl_keeps hcores h a1 _ _ _
  | nvSra rd rs1 rs2 => exact State.doSra_keeps hcores h a1 _ _ _
  | nvSlli rd rs1 sh => exact State.doSlli_keeps hcores h a1 _ _ _
  | nvSrli rd rs1 sh => exact State.doSrli_keeps hcores h a1 _ _ _
  | nvSrai rd rs1 sh => exact State.doSrai_keeps hcores h a1 _ _ _
  | nvMin rd rs1 rs2 => exact State.doMin_keeps hcores h a1 _ _ _
  | nvMax rd rs1 rs2 => exact State.doMax_keeps hcores h a1 _ _ _
  | nvClz rd rs1 => exact State.doClz_keeps hcores h a1 _ _
  | nvPopc rd rs1 => exact State.doPopc_keeps hcores h a1 _ _
  | nvRevb rd rs1 => exact State.doRevb_keeps hcores h a1 _ _
  | nvAddi rd rs1 imm => exact State.doAddi_keeps hcores h a1 _ _ _
  | nvAndi rd rs1 imm => exact State.doAndi_keeps hcores h a1 _ _ _
  | nvOri rd rs1 imm => exact State.doOri_keeps hcores h a1 _ _ _
  | nvXori rd rs1 imm => exact State.doXori_keeps hcores h a1 _ _ _
  | nvSlti rd rs1 imm => exact State.doSlti_keeps hcores h a1 _ _ _
  | nvSltiu rd rs1 imm => exact State.doSltiu_keeps hcores h a1 _ _ _
  | nvLui rd imm => exact State.doLui_keeps hcores h a1 _ _
  | nvMul rd rs1 rs2 => exact State.doMul_keeps hcores h a1 _ _ _
  | nvMulh rd rs1 rs2 => exact State.doMulh_keeps hcores h a1 _ _ _
  | nvMulhu rd rs1 rs2 => exact State.doMulhu_keeps hcores h a1 _ _ _
  | nvDiv rd rs1 rs2 => exact State.doDiv_keeps hcores h a1 _ _ _
  | nvDivu rd rs1 rs2 => exact State.doDivu_keeps hcores h a1 _ _ _
  | nvRem rd rs1 rs2 => exact State.doRem_keeps hcores h a1 _ _ _
  | nvRemu rd rs1 rs2 => exact State.doRemu_keeps hcores h a1 _ _ _
  | nvQadd rd rs1 rs2 => exact State.doQadd_keeps hcores h a1 _ _ _
  | nvQsub rd rs1 rs2 => exact State.doQsub_keeps hcores h a1 _ _ _
  | nvQmul rd rs1 rs2 => exact State.doQmul_keeps hcores h a1 _ _ _
  | nvQmac rd rs1 rs2 => exact State.doQmac_keeps hcores h a1 _ _ _
  | nvQneg rd rs1 => exact State.doQneg_keeps hcores h a1 _ _
  | nvQabs rd rs1 => exact State.doQabs_keeps hcores h a1 _ _
  | nvSats rd rs1 sh => exact State.doSats_keeps hcores h a1 _ _ _
  | nvExtu rd rs1 pos w1 => exact State.doExtu_keeps hcores h a1 _ _ _ _
  | nvExts rd rs1 pos w1 => exact State.doExts_keeps hcores h a1 _ _ _ _
  | nvIns rd rs1 pos w1 => exact State.doIns_keeps hcores h a1 _ _ _ _
  | nvLb rd rs1 imm => exact State.doLb_keeps hcores hlatch hresp ball h a1 _ _ _
  | nvLbu rd rs1 imm => exact State.doLbu_keeps hcores hlatch hresp ball h a1 _ _ _
  | nvLh rd rs1 imm => exact State.doLh_keeps hcores hlatch hresp ball h a1 _ _ _
  | nvLhu rd rs1 imm => exact State.doLhu_keeps hcores hlatch hresp ball h a1 _ _ _
  | nvLw rd rs1 imm => exact State.doLw_keeps hcores hlatch hresp ball h a1 _ _ _
  | nvSb rs2 rs1 imm => exact State.doSb_keeps hmem hcores hresp ball h a1 _ _ _
  | nvSh rs2 rs1 imm => exact State.doSh_keeps hmem hcores hresp ball h a1 _ _ _
  | nvSw rs2 rs1 imm => exact State.doSw_keeps hmem hcores hresp ball h a1 _ _ _
  | nvBeq rs1 rs2 off => exact State.doBeq_keeps h a1 _ _ _
  | nvBne rs1 rs2 off => exact State.doBne_keeps h a1 _ _ _
  | nvBlt rs1 rs2 off => exact State.doBlt_keeps h a1 _ _ _
  | nvBge rs1 rs2 off => exact State.doBge_keeps h a1 _ _ _
  | nvBltu rs1 rs2 off => exact State.doBltu_keeps h a1 _ _ _
  | nvBgeu rs1 rs2 off => exact State.doBgeu_keeps h a1 _ _ _
  | nvJ off => exact State.doJ_keeps h a1 _
  | nvJal off => exact State.doJal_keeps hcores h a1 _
  | nvJalr rd rs1 imm => exact State.doJalr_keeps hcores h a1 _ _ _
  | nvSyscall arg => exact State.doSyscall_keeps h a1 _
  | nvBreak => exact State.doBreak_keeps h a1
  | nvEret => exact State.doEret_keeps hcores h a1
  | nvMfcr rd n => exact State.doMfcr_keeps hcores h a1 _ _
  | nvMtcr rs1 n => exact State.doMtcr_keeps hcores h a1 _ _
  | nvWfi => exact State.doWfi_keeps hcores h a1
  | dkDmtd x y => exact State.doDmtd_keeps hcores h a1 _ _
  | dkDmfd x y => exact State.doDmfd_keeps hcores h a1 _ _
  | dkDmfs x => exact State.doDmfs_keeps hcores h a1 _
  | dkDmts y => exact State.doDmts_keeps hcores h a1 _
  | dkDqadd x y z => exact State.doDqadd_keeps hcores h a1 _ _ _
  | dkDqsub x y z => exact State.doDqsub_keeps hcores h a1 _ _ _
  | dkDqmul x y z => exact State.doDqmul_keeps hcores h a1 _ _ _
  | dkDqmac x y z => exact State.doDqmac_keeps hcores h a1 _ _ _
  | dkDqdiv x y z => exact State.doDqdiv_keeps hcores h a1 _ _ _
  | dkFadd x y z => exact State.doFadd_keeps hcores h a1 _ _ _
  | dkFsub x y z => exact State.doFsub_keeps hcores h a1 _ _ _
  | dkFmul x y z => exact State.doFmul_keeps hcores h a1 _ _ _
  | dkFmac x y z => exact State.doFmac_keeps hcores h a1 _ _ _
  | dkFdiv x y z => exact State.doFdiv_keeps hcores h a1 _ _ _
  | dkFsqrt x y => exact State.doFsqrt_keeps hcores h a1 _ _
  | dkFtoq x y => exact State.doFtoq_keeps hcores h a1 _ _
  | dkQtof x y => exact State.doQtof_keeps hcores h a1 _ _
  | dkCmul x y z => exact State.doCmul_keeps hcores h a1 _ _ _
  | dkClarke x y => exact State.doClarke_keeps hcores h a1 _ _
  | dkPark x y z => exact State.doPark_keeps hcores h a1 _ _ _
  | dkIpark x y z => exact State.doIpark_keeps hcores h a1 _ _ _
  | dkSincos x y => exact State.doSincos_keeps hcores h a1 _ _
  | dkBq x y z => exact State.doBq_keeps hcores h a1 _ _ _
  | dkPr x y z => exact State.doPr_keeps hcores h a1 _ _ _
  | dkDsecr x y z => exact State.doDsecr_keeps hcores h a1 _ _ _
  | dkDsecw x y z => exact State.doDsecw_keeps hcores h a1 _ _ _
  | dkFir x y => exact State.doFir_keeps hcores h a1 _ _
  | dkFirw x y => exact State.doFirw_keeps hcores h a1 _ _
  | dkDld x y z => exact State.doDld_keeps hcores hlatch hresp ball h a1 _ _ _
  | dkDst x y z => exact State.doDst_keeps hmem hcores hresp ball h a1 _ _ _
  | dkDtrk x y => exact State.doDtrk_keeps hcores h a1 _ _
  | dkDedg x y => exact State.doDedg_keeps hcores (ball _) h a1 _ _

theorem State.decoded_keeps {s : State} (hmem : k.mem = false) (hcores : k.cores = false) (hlatch : k.latch = false) (hresp : k.resp = false) (ball : ∀ b, k.blk b = false) (h : State.Keeps k s0 s) (a1 : Nat) (a2 : NaveInstr) :
    Ret.Keeps k s0 (State.decoded s a1 a2) := by
  unfold State.decoded
  repeat' first
    | with_reducible assumption
    | refine Ret.Keeps.exc ?_
    | with_reducible refine Keeps.ite (P := Ret.Keeps _ _) ?_ ?_
    | with_reducible apply State.effect_keeps

theorem State.runInstr_keeps {s : State} (hmem : k.mem = false) (hcores : k.cores = false) (hlatch : k.latch = false) (hresp : k.resp = false) (ball : ∀ b, k.blk b = false) (h : State.Keeps k s0 s) (a1 : Nat) (a2 : Nat) (a3 : NaveInstr) :
    State.Keeps k s0 (State.runInstr s a1 a2 a3) := by
  unfold State.runInstr
  repeat' first
    | with_reducible assumption
    | (show Kept.blk _ _ = false; first | exact ball _)
    | (intro x hx; have := (hx : State.Keeps k s0 x))
    | with_reducible apply State.runNave_keeps
    | with_reducible apply State.decoded_keeps

theorem State.runWord_keeps {s : State} (hmem : k.mem = false) (hcores : k.cores = false) (hlatch : k.latch = false) (hresp : k.resp = false) (ball : ∀ b, k.blk b = false) (h : State.Keeps k s0 s) (a1 : Nat) (a2 : Word) :
    Ret.Keeps k s0 (State.runWord s a1 a2) := by
  unfold State.runWord
  repeat' first
    | with_reducible assumption
    | refine Ret.Keeps.exc ?_
    | with_reducible apply State.effect_keeps
    | split

theorem State.irqEntry_keeps {s : State} (hmem : k.mem = false) (hcores : k.cores = false) (b0 : k.blk 0 = false) (b5 : k.blk 5 = false) (b6 : k.blk 6 = false) (b11 : k.blk 11 = false) (b12 : k.blk 12 = false) (b13 : k.blk 13 = false) (b14 : k.blk 14 = false) (b15 : k.blk 15 = false) (b18 : k.blk 18 = false) (b20 : k.blk 20 = false) (b22 : k.blk 22 = false) (h : State.Keeps k s0 s) (a1 : Nat) :
    State.Keeps k s0 (State.irqEntry s a1) := by
  unfold State.irqEntry
  repeat' first
    | with_reducible assumption
    | with_reducible refine Keeps.ite (P := State.Keeps _ _) ?_ ?_
    | (extract_lets -underBinder +onlyGivenNames x; refine Keeps.cut (k := k) (s0 := s0) (x := x) ?_ ?_ <;> first | (intro _; revert x; intro _ _) | (unfold x; clear x))
    | with_reducible apply State.takeSource_keeps
    | with_reducible apply State.enterExc_keeps
    | split

theorem State.clearRange_keeps {s : State} (hmem : k.mem = false) (h : State.Keeps k s0 s) (a1 a2 : Nat) :
    State.Keeps k s0 (State.clearRange s a1 a2) :=
  Keeps.memory hmem h (fun w => Table.wf_filter memDefault _ _ w)

theorem State.releaseDone_keeps {s : State} (hmem : k.mem = false) (hcores : k.cores = false) (b0 : k.blk 0 = false) (b5 : k.blk 5 = false) (b15 : k.blk 15 = false) (b18 : k.blk 18 = false) (b22 : k.blk 22 = false) (h : State.Keeps k s0 s) (a1 : Nat) :
    State.Keeps k s0 (State.releaseDone s a1) := by
  unfold State.releaseDone
  repeat' first
    | with_reducible assumption
    | (with_reducible show Fld.Listed _; decide)
    | (show Kept.blk _ _ = false; first | exact b0 | exact b5 | exact b15 | exact b18 | exact b22)
    | with_reducible refine Keeps.ite (P := State.Keeps _ _) ?_ ?_
    | (extract_lets -underBinder +onlyGivenNames x; refine Keeps.cut (k := k) (s0 := s0) (x := x) ?_ ?_ <;> first | (intro _; revert x; intro _ _) | (unfold x; clear x))
    | (extract_lets -underBinder +onlyGivenNames x; unfold x; clear x)
    | with_reducible refine Keeps.foldl (fun _ _ _ => ?_) ?_
    | with_reducible apply State.set_keeps
    | with_reducible apply State.setCore_keeps
    | with_reducible apply State.clearRange_keeps
    | with_reducible apply State.setBitOf_keeps
    | with_reducible apply State.convReleased_keeps
    | with_reducible apply State.lpJudgeAll_keeps
    | with_reducible apply State.locReleased_keeps
    | (with_reducible refine Keeps.upd (h := ?_); first | with_reducible assumption | with_reducible apply State.setCore_keeps | with_reducible apply State.clearRange_keeps | with_reducible apply State.setBitOf_keeps | with_reducible apply State.convReleased_keeps | with_reducible apply State.lpJudgeAll_keeps | with_reducible apply State.locReleased_keeps | with_reducible apply State.set_keeps | with_reducible refine Keeps.ite (P := State.Keeps _ _) ?_ ?_ | with_reducible refine Keeps.foldl (fun _ _ _ => ?_) ?_)

theorem execDivideComplete_keeps {s : State} (hmem : k.mem = false) (hcores : k.cores = false) (b0 : k.blk 0 = false) (b5 : k.blk 5 = false) (b6 : k.blk 6 = false) (b11 : k.blk 11 = false) (b12 : k.blk 12 = false) (b13 : k.blk 13 = false) (b14 : k.blk 14 = false) (b15 : k.blk 15 = false) (b18 : k.blk 18 = false) (b20 : k.blk 20 = false) (b22 : k.blk 22 = false) (b23 : k.blk 23 = false) (h : State.Keeps k s0 s) (a0 : Nat) (a1 : Fin 2) :
    OutKeeps k s0 (execDivideComplete a0 a1 s) := by
  unfold execDivideComplete
  repeat' first
    | with_reducible assumption
    | refine OutKeeps.next ?_
    | with_reducible apply State.touch_keeps
    | with_reducible apply State.divideDone_keeps

theorem execDamaskLongComplete_keeps {s : State} (hmem : k.mem = false) (hcores : k.cores = false) (b0 : k.blk 0 = false) (b5 : k.blk 5 = false) (b6 : k.blk 6 = false) (b11 : k.blk 11 = false) (b12 : k.blk 12 = false) (b13 : k.blk 13 = false) (b14 : k.blk 14 = false) (b15 : k.blk 15 = false) (b18 : k.blk 18 = false) (b20 : k.blk 20 = false) (b22 : k.blk 22 = false) (b23 : k.blk 23 = false) (h : State.Keeps k s0 s) (a0 : Nat) (a1 : Fin 2) :
    OutKeeps k s0 (execDamaskLongComplete a0 a1 s) := by
  unfold execDamaskLongComplete
  repeat' first
    | with_reducible assumption
    | refine OutKeeps.next ?_
    | with_reducible apply State.touch_keeps
    | with_reducible apply State.longDone_keeps

theorem execSquash_keeps {s : State} (hcores : k.cores = false) (h : State.Keeps k s0 s) (a0 : Nat) (a1 : Fin 2) :
    OutKeeps k s0 (execSquash a0 a1 s) := by
  unfold execSquash
  repeat' first
    | with_reducible assumption
    | refine OutKeeps.next ?_
    | with_reducible apply State.touch_keeps
    | with_reducible apply State.squash_keeps

theorem execIllegalInstruction_keeps {s : State} (hmem : k.mem = false) (hcores : k.cores = false) (b0 : k.blk 0 = false) (b5 : k.blk 5 = false) (b6 : k.blk 6 = false) (b11 : k.blk 11 = false) (b12 : k.blk 12 = false) (b13 : k.blk 13 = false) (b14 : k.blk 14 = false) (b15 : k.blk 15 = false) (b18 : k.blk 18 = false) (b20 : k.blk 20 = false) (b22 : k.blk 22 = false) (b23 : k.blk 23 = false) (h : State.Keeps k s0 s) (a0 : Nat)
    (a1 : Fin 2) (a2 : Word) : OutKeeps k s0 (execIllegalInstruction a0 a1 a2 s) := by
  unfold execIllegalInstruction
  exact OutKeeps.next (Keeps.ite (P := State.Keeps _ _) (State.touch_keeps h _)
    (State.runNave_keeps hmem hcores b0 b5 b6 b11 b12 b13 b14 b15 b18 b20 b22 b23 h _ _ _ (fun _ hx => Ret.Keeps.exc hx)))

theorem execIfetchFault_keeps {s : State} (hmem : k.mem = false) (hcores : k.cores = false) (b0 : k.blk 0 = false) (b5 : k.blk 5 = false) (b6 : k.blk 6 = false) (b11 : k.blk 11 = false) (b12 : k.blk 12 = false) (b13 : k.blk 13 = false) (b14 : k.blk 14 = false) (b15 : k.blk 15 = false) (b18 : k.blk 18 = false) (b20 : k.blk 20 = false) (b22 : k.blk 22 = false) (b23 : k.blk 23 = false) (h : State.Keeps k s0 s) (a0 : Nat)
    (a1 : Fin 2) : OutKeeps k s0 (execIfetchFault a0 a1 s) := by
  unfold execIfetchFault
  exact OutKeeps.next (Keeps.ite (P := State.Keeps _ _) (State.touch_keeps h _)
    (State.runNave_keeps hmem hcores b0 b5 b6 b11 b12 b13 b14 b15 b18 b20 b22 b23 h _ _ _ (fun _ hx => Ret.Keeps.exc hx)))

theorem execIrqEntry_keeps {s : State} (hmem : k.mem = false) (hcores : k.cores = false) (b0 : k.blk 0 = false) (b5 : k.blk 5 = false) (b6 : k.blk 6 = false) (b11 : k.blk 11 = false) (b12 : k.blk 12 = false) (b13 : k.blk 13 = false) (b14 : k.blk 14 = false) (b15 : k.blk 15 = false) (b18 : k.blk 18 = false) (b20 : k.blk 20 = false) (b22 : k.blk 22 = false) (h : State.Keeps k s0 s) (a0 : Nat) (a1 : Fin 3) :
    OutKeeps k s0 (execIrqEntry a0 a1 s) := by
  unfold execIrqEntry
  repeat' first
    | with_reducible assumption
    | refine OutKeeps.next ?_
    | with_reducible apply State.touch_keeps
    | with_reducible apply State.irqEntry_keeps

theorem execNaveReleaseDone_keeps {s : State} (hmem : k.mem = false) (hcores : k.cores = false) (b0 : k.blk 0 = false) (b5 : k.blk 5 = false) (b15 : k.blk 15 = false) (b18 : k.blk 18 = false) (b22 : k.blk 22 = false) (h : State.Keeps k s0 s) (a0 : Nat) (a1 : Fin 2) :
    OutKeeps k s0 (execNaveReleaseDone a0 a1 s) := by
  unfold execNaveReleaseDone
  repeat' first
    | with_reducible assumption
    | refine OutKeeps.next ?_
    | with_reducible apply State.touch_keeps
    | with_reducible apply State.releaseDone_keeps

theorem execNvAdd_keeps {s : State} (hmem : k.mem = false) (hcores : k.cores = false) (hlatch : k.latch = false) (hresp : k.resp = false) (ball : ∀ b, k.blk b = false) (h : State.Keeps k s0 s) (a0 : Nat) (a1 : Fin 2) (a2 : Fin 32) (a3 : Fin 32) (a4 : Fin 32) :
    OutKeeps k s0 (execNvAdd a0 a1 a2 a3 a4 s) := by
  unfold execNvAdd
  repeat' first
    | with_reducible assumption
    | refine OutKeeps.next ?_
    | with_reducible apply State.runInstr_keeps

theorem execNvSub_keeps {s : State} (hmem : k.mem = false) (hcores : k.cores = false) (hlatch : k.latch = false) (hresp : k.resp = false) (ball : ∀ b, k.blk b = false) (h : State.Keeps k s0 s) (a0 : Nat) (a1 : Fin 2) (a2 : Fin 32) (a3 : Fin 32) (a4 : Fin 32) :
    OutKeeps k s0 (execNvSub a0 a1 a2 a3 a4 s) := by
  unfold execNvSub
  repeat' first
    | with_reducible assumption
    | refine OutKeeps.next ?_
    | with_reducible apply State.runInstr_keeps

theorem execNvAnd_keeps {s : State} (hmem : k.mem = false) (hcores : k.cores = false) (hlatch : k.latch = false) (hresp : k.resp = false) (ball : ∀ b, k.blk b = false) (h : State.Keeps k s0 s) (a0 : Nat) (a1 : Fin 2) (a2 : Fin 32) (a3 : Fin 32) (a4 : Fin 32) :
    OutKeeps k s0 (execNvAnd a0 a1 a2 a3 a4 s) := by
  unfold execNvAnd
  repeat' first
    | with_reducible assumption
    | refine OutKeeps.next ?_
    | with_reducible apply State.runInstr_keeps

theorem execNvOr_keeps {s : State} (hmem : k.mem = false) (hcores : k.cores = false) (hlatch : k.latch = false) (hresp : k.resp = false) (ball : ∀ b, k.blk b = false) (h : State.Keeps k s0 s) (a0 : Nat) (a1 : Fin 2) (a2 : Fin 32) (a3 : Fin 32) (a4 : Fin 32) :
    OutKeeps k s0 (execNvOr a0 a1 a2 a3 a4 s) := by
  unfold execNvOr
  repeat' first
    | with_reducible assumption
    | refine OutKeeps.next ?_
    | with_reducible apply State.runInstr_keeps

theorem execNvXor_keeps {s : State} (hmem : k.mem = false) (hcores : k.cores = false) (hlatch : k.latch = false) (hresp : k.resp = false) (ball : ∀ b, k.blk b = false) (h : State.Keeps k s0 s) (a0 : Nat) (a1 : Fin 2) (a2 : Fin 32) (a3 : Fin 32) (a4 : Fin 32) :
    OutKeeps k s0 (execNvXor a0 a1 a2 a3 a4 s) := by
  unfold execNvXor
  repeat' first
    | with_reducible assumption
    | refine OutKeeps.next ?_
    | with_reducible apply State.runInstr_keeps

theorem execNvSlt_keeps {s : State} (hmem : k.mem = false) (hcores : k.cores = false) (hlatch : k.latch = false) (hresp : k.resp = false) (ball : ∀ b, k.blk b = false) (h : State.Keeps k s0 s) (a0 : Nat) (a1 : Fin 2) (a2 : Fin 32) (a3 : Fin 32) (a4 : Fin 32) :
    OutKeeps k s0 (execNvSlt a0 a1 a2 a3 a4 s) := by
  unfold execNvSlt
  repeat' first
    | with_reducible assumption
    | refine OutKeeps.next ?_
    | with_reducible apply State.runInstr_keeps

theorem execNvSltu_keeps {s : State} (hmem : k.mem = false) (hcores : k.cores = false) (hlatch : k.latch = false) (hresp : k.resp = false) (ball : ∀ b, k.blk b = false) (h : State.Keeps k s0 s) (a0 : Nat) (a1 : Fin 2) (a2 : Fin 32) (a3 : Fin 32) (a4 : Fin 32) :
    OutKeeps k s0 (execNvSltu a0 a1 a2 a3 a4 s) := by
  unfold execNvSltu
  repeat' first
    | with_reducible assumption
    | refine OutKeeps.next ?_
    | with_reducible apply State.runInstr_keeps

theorem execNvSll_keeps {s : State} (hmem : k.mem = false) (hcores : k.cores = false) (hlatch : k.latch = false) (hresp : k.resp = false) (ball : ∀ b, k.blk b = false) (h : State.Keeps k s0 s) (a0 : Nat) (a1 : Fin 2) (a2 : Fin 32) (a3 : Fin 32) (a4 : Fin 32) :
    OutKeeps k s0 (execNvSll a0 a1 a2 a3 a4 s) := by
  unfold execNvSll
  repeat' first
    | with_reducible assumption
    | refine OutKeeps.next ?_
    | with_reducible apply State.runInstr_keeps

theorem execNvSrl_keeps {s : State} (hmem : k.mem = false) (hcores : k.cores = false) (hlatch : k.latch = false) (hresp : k.resp = false) (ball : ∀ b, k.blk b = false) (h : State.Keeps k s0 s) (a0 : Nat) (a1 : Fin 2) (a2 : Fin 32) (a3 : Fin 32) (a4 : Fin 32) :
    OutKeeps k s0 (execNvSrl a0 a1 a2 a3 a4 s) := by
  unfold execNvSrl
  repeat' first
    | with_reducible assumption
    | refine OutKeeps.next ?_
    | with_reducible apply State.runInstr_keeps

theorem execNvSra_keeps {s : State} (hmem : k.mem = false) (hcores : k.cores = false) (hlatch : k.latch = false) (hresp : k.resp = false) (ball : ∀ b, k.blk b = false) (h : State.Keeps k s0 s) (a0 : Nat) (a1 : Fin 2) (a2 : Fin 32) (a3 : Fin 32) (a4 : Fin 32) :
    OutKeeps k s0 (execNvSra a0 a1 a2 a3 a4 s) := by
  unfold execNvSra
  repeat' first
    | with_reducible assumption
    | refine OutKeeps.next ?_
    | with_reducible apply State.runInstr_keeps

theorem execNvSlli_keeps {s : State} (hmem : k.mem = false) (hcores : k.cores = false) (hlatch : k.latch = false) (hresp : k.resp = false) (ball : ∀ b, k.blk b = false) (h : State.Keeps k s0 s) (a0 : Nat) (a1 : Fin 2) (a2 : Fin 32) (a3 : Fin 32) (a4 : Fin 32) :
    OutKeeps k s0 (execNvSlli a0 a1 a2 a3 a4 s) := by
  unfold execNvSlli
  repeat' first
    | with_reducible assumption
    | refine OutKeeps.next ?_
    | with_reducible apply State.runInstr_keeps

theorem execNvSrli_keeps {s : State} (hmem : k.mem = false) (hcores : k.cores = false) (hlatch : k.latch = false) (hresp : k.resp = false) (ball : ∀ b, k.blk b = false) (h : State.Keeps k s0 s) (a0 : Nat) (a1 : Fin 2) (a2 : Fin 32) (a3 : Fin 32) (a4 : Fin 32) :
    OutKeeps k s0 (execNvSrli a0 a1 a2 a3 a4 s) := by
  unfold execNvSrli
  repeat' first
    | with_reducible assumption
    | refine OutKeeps.next ?_
    | with_reducible apply State.runInstr_keeps

theorem execNvSrai_keeps {s : State} (hmem : k.mem = false) (hcores : k.cores = false) (hlatch : k.latch = false) (hresp : k.resp = false) (ball : ∀ b, k.blk b = false) (h : State.Keeps k s0 s) (a0 : Nat) (a1 : Fin 2) (a2 : Fin 32) (a3 : Fin 32) (a4 : Fin 32) :
    OutKeeps k s0 (execNvSrai a0 a1 a2 a3 a4 s) := by
  unfold execNvSrai
  repeat' first
    | with_reducible assumption
    | refine OutKeeps.next ?_
    | with_reducible apply State.runInstr_keeps

theorem execNvMin_keeps {s : State} (hmem : k.mem = false) (hcores : k.cores = false) (hlatch : k.latch = false) (hresp : k.resp = false) (ball : ∀ b, k.blk b = false) (h : State.Keeps k s0 s) (a0 : Nat) (a1 : Fin 2) (a2 : Fin 32) (a3 : Fin 32) (a4 : Fin 32) :
    OutKeeps k s0 (execNvMin a0 a1 a2 a3 a4 s) := by
  unfold execNvMin
  repeat' first
    | with_reducible assumption
    | refine OutKeeps.next ?_
    | with_reducible apply State.runInstr_keeps

theorem execNvMax_keeps {s : State} (hmem : k.mem = false) (hcores : k.cores = false) (hlatch : k.latch = false) (hresp : k.resp = false) (ball : ∀ b, k.blk b = false) (h : State.Keeps k s0 s) (a0 : Nat) (a1 : Fin 2) (a2 : Fin 32) (a3 : Fin 32) (a4 : Fin 32) :
    OutKeeps k s0 (execNvMax a0 a1 a2 a3 a4 s) := by
  unfold execNvMax
  repeat' first
    | with_reducible assumption
    | refine OutKeeps.next ?_
    | with_reducible apply State.runInstr_keeps

theorem execNvClz_keeps {s : State} (hmem : k.mem = false) (hcores : k.cores = false) (hlatch : k.latch = false) (hresp : k.resp = false) (ball : ∀ b, k.blk b = false) (h : State.Keeps k s0 s) (a0 : Nat) (a1 : Fin 2) (a2 : Fin 32) (a3 : Fin 32) :
    OutKeeps k s0 (execNvClz a0 a1 a2 a3 s) := by
  unfold execNvClz
  repeat' first
    | with_reducible assumption
    | refine OutKeeps.next ?_
    | with_reducible apply State.runInstr_keeps

theorem execNvPopc_keeps {s : State} (hmem : k.mem = false) (hcores : k.cores = false) (hlatch : k.latch = false) (hresp : k.resp = false) (ball : ∀ b, k.blk b = false) (h : State.Keeps k s0 s) (a0 : Nat) (a1 : Fin 2) (a2 : Fin 32) (a3 : Fin 32) :
    OutKeeps k s0 (execNvPopc a0 a1 a2 a3 s) := by
  unfold execNvPopc
  repeat' first
    | with_reducible assumption
    | refine OutKeeps.next ?_
    | with_reducible apply State.runInstr_keeps

theorem execNvRevb_keeps {s : State} (hmem : k.mem = false) (hcores : k.cores = false) (hlatch : k.latch = false) (hresp : k.resp = false) (ball : ∀ b, k.blk b = false) (h : State.Keeps k s0 s) (a0 : Nat) (a1 : Fin 2) (a2 : Fin 32) (a3 : Fin 32) :
    OutKeeps k s0 (execNvRevb a0 a1 a2 a3 s) := by
  unfold execNvRevb
  repeat' first
    | with_reducible assumption
    | refine OutKeeps.next ?_
    | with_reducible apply State.runInstr_keeps

theorem execNvAddi_keeps {s : State} (hmem : k.mem = false) (hcores : k.cores = false) (hlatch : k.latch = false) (hresp : k.resp = false) (ball : ∀ b, k.blk b = false) (h : State.Keeps k s0 s) (a0 : Nat) (a1 : Fin 2) (a2 : Fin 32) (a3 : Fin 32) (a4 : BitVec 16) :
    OutKeeps k s0 (execNvAddi a0 a1 a2 a3 a4 s) := by
  unfold execNvAddi
  repeat' first
    | with_reducible assumption
    | refine OutKeeps.next ?_
    | with_reducible apply State.runInstr_keeps

theorem execNvAndi_keeps {s : State} (hmem : k.mem = false) (hcores : k.cores = false) (hlatch : k.latch = false) (hresp : k.resp = false) (ball : ∀ b, k.blk b = false) (h : State.Keeps k s0 s) (a0 : Nat) (a1 : Fin 2) (a2 : Fin 32) (a3 : Fin 32) (a4 : BitVec 16) :
    OutKeeps k s0 (execNvAndi a0 a1 a2 a3 a4 s) := by
  unfold execNvAndi
  repeat' first
    | with_reducible assumption
    | refine OutKeeps.next ?_
    | with_reducible apply State.runInstr_keeps

theorem execNvOri_keeps {s : State} (hmem : k.mem = false) (hcores : k.cores = false) (hlatch : k.latch = false) (hresp : k.resp = false) (ball : ∀ b, k.blk b = false) (h : State.Keeps k s0 s) (a0 : Nat) (a1 : Fin 2) (a2 : Fin 32) (a3 : Fin 32) (a4 : BitVec 16) :
    OutKeeps k s0 (execNvOri a0 a1 a2 a3 a4 s) := by
  unfold execNvOri
  repeat' first
    | with_reducible assumption
    | refine OutKeeps.next ?_
    | with_reducible apply State.runInstr_keeps

theorem execNvXori_keeps {s : State} (hmem : k.mem = false) (hcores : k.cores = false) (hlatch : k.latch = false) (hresp : k.resp = false) (ball : ∀ b, k.blk b = false) (h : State.Keeps k s0 s) (a0 : Nat) (a1 : Fin 2) (a2 : Fin 32) (a3 : Fin 32) (a4 : BitVec 16) :
    OutKeeps k s0 (execNvXori a0 a1 a2 a3 a4 s) := by
  unfold execNvXori
  repeat' first
    | with_reducible assumption
    | refine OutKeeps.next ?_
    | with_reducible apply State.runInstr_keeps

theorem execNvSlti_keeps {s : State} (hmem : k.mem = false) (hcores : k.cores = false) (hlatch : k.latch = false) (hresp : k.resp = false) (ball : ∀ b, k.blk b = false) (h : State.Keeps k s0 s) (a0 : Nat) (a1 : Fin 2) (a2 : Fin 32) (a3 : Fin 32) (a4 : BitVec 16) :
    OutKeeps k s0 (execNvSlti a0 a1 a2 a3 a4 s) := by
  unfold execNvSlti
  repeat' first
    | with_reducible assumption
    | refine OutKeeps.next ?_
    | with_reducible apply State.runInstr_keeps

theorem execNvSltiu_keeps {s : State} (hmem : k.mem = false) (hcores : k.cores = false) (hlatch : k.latch = false) (hresp : k.resp = false) (ball : ∀ b, k.blk b = false) (h : State.Keeps k s0 s) (a0 : Nat) (a1 : Fin 2) (a2 : Fin 32) (a3 : Fin 32) (a4 : BitVec 16) :
    OutKeeps k s0 (execNvSltiu a0 a1 a2 a3 a4 s) := by
  unfold execNvSltiu
  repeat' first
    | with_reducible assumption
    | refine OutKeeps.next ?_
    | with_reducible apply State.runInstr_keeps

theorem execNvLui_keeps {s : State} (hmem : k.mem = false) (hcores : k.cores = false) (hlatch : k.latch = false) (hresp : k.resp = false) (ball : ∀ b, k.blk b = false) (h : State.Keeps k s0 s) (a0 : Nat) (a1 : Fin 2) (a2 : Fin 32) (a3 : BitVec 16) :
    OutKeeps k s0 (execNvLui a0 a1 a2 a3 s) := by
  unfold execNvLui
  repeat' first
    | with_reducible assumption
    | refine OutKeeps.next ?_
    | with_reducible apply State.runInstr_keeps

theorem execNvMul_keeps {s : State} (hmem : k.mem = false) (hcores : k.cores = false) (hlatch : k.latch = false) (hresp : k.resp = false) (ball : ∀ b, k.blk b = false) (h : State.Keeps k s0 s) (a0 : Nat) (a1 : Fin 2) (a2 : Fin 32) (a3 : Fin 32) (a4 : Fin 32) :
    OutKeeps k s0 (execNvMul a0 a1 a2 a3 a4 s) := by
  unfold execNvMul
  repeat' first
    | with_reducible assumption
    | refine OutKeeps.next ?_
    | with_reducible apply State.runInstr_keeps

theorem execNvMulh_keeps {s : State} (hmem : k.mem = false) (hcores : k.cores = false) (hlatch : k.latch = false) (hresp : k.resp = false) (ball : ∀ b, k.blk b = false) (h : State.Keeps k s0 s) (a0 : Nat) (a1 : Fin 2) (a2 : Fin 32) (a3 : Fin 32) (a4 : Fin 32) :
    OutKeeps k s0 (execNvMulh a0 a1 a2 a3 a4 s) := by
  unfold execNvMulh
  repeat' first
    | with_reducible assumption
    | refine OutKeeps.next ?_
    | with_reducible apply State.runInstr_keeps

theorem execNvMulhu_keeps {s : State} (hmem : k.mem = false) (hcores : k.cores = false) (hlatch : k.latch = false) (hresp : k.resp = false) (ball : ∀ b, k.blk b = false) (h : State.Keeps k s0 s) (a0 : Nat) (a1 : Fin 2) (a2 : Fin 32) (a3 : Fin 32) (a4 : Fin 32) :
    OutKeeps k s0 (execNvMulhu a0 a1 a2 a3 a4 s) := by
  unfold execNvMulhu
  repeat' first
    | with_reducible assumption
    | refine OutKeeps.next ?_
    | with_reducible apply State.runInstr_keeps

theorem execNvDiv_keeps {s : State} (hmem : k.mem = false) (hcores : k.cores = false) (hlatch : k.latch = false) (hresp : k.resp = false) (ball : ∀ b, k.blk b = false) (h : State.Keeps k s0 s) (a0 : Nat) (a1 : Fin 2) (a2 : Fin 32) (a3 : Fin 32) (a4 : Fin 32) :
    OutKeeps k s0 (execNvDiv a0 a1 a2 a3 a4 s) := by
  unfold execNvDiv
  repeat' first
    | with_reducible assumption
    | refine OutKeeps.next ?_
    | with_reducible apply State.runInstr_keeps

theorem execNvDivu_keeps {s : State} (hmem : k.mem = false) (hcores : k.cores = false) (hlatch : k.latch = false) (hresp : k.resp = false) (ball : ∀ b, k.blk b = false) (h : State.Keeps k s0 s) (a0 : Nat) (a1 : Fin 2) (a2 : Fin 32) (a3 : Fin 32) (a4 : Fin 32) :
    OutKeeps k s0 (execNvDivu a0 a1 a2 a3 a4 s) := by
  unfold execNvDivu
  repeat' first
    | with_reducible assumption
    | refine OutKeeps.next ?_
    | with_reducible apply State.runInstr_keeps

theorem execNvRem_keeps {s : State} (hmem : k.mem = false) (hcores : k.cores = false) (hlatch : k.latch = false) (hresp : k.resp = false) (ball : ∀ b, k.blk b = false) (h : State.Keeps k s0 s) (a0 : Nat) (a1 : Fin 2) (a2 : Fin 32) (a3 : Fin 32) (a4 : Fin 32) :
    OutKeeps k s0 (execNvRem a0 a1 a2 a3 a4 s) := by
  unfold execNvRem
  repeat' first
    | with_reducible assumption
    | refine OutKeeps.next ?_
    | with_reducible apply State.runInstr_keeps

theorem execNvRemu_keeps {s : State} (hmem : k.mem = false) (hcores : k.cores = false) (hlatch : k.latch = false) (hresp : k.resp = false) (ball : ∀ b, k.blk b = false) (h : State.Keeps k s0 s) (a0 : Nat) (a1 : Fin 2) (a2 : Fin 32) (a3 : Fin 32) (a4 : Fin 32) :
    OutKeeps k s0 (execNvRemu a0 a1 a2 a3 a4 s) := by
  unfold execNvRemu
  repeat' first
    | with_reducible assumption
    | refine OutKeeps.next ?_
    | with_reducible apply State.runInstr_keeps

theorem execNvQadd_keeps {s : State} (hmem : k.mem = false) (hcores : k.cores = false) (hlatch : k.latch = false) (hresp : k.resp = false) (ball : ∀ b, k.blk b = false) (h : State.Keeps k s0 s) (a0 : Nat) (a1 : Fin 2) (a2 : Fin 32) (a3 : Fin 32) (a4 : Fin 32) :
    OutKeeps k s0 (execNvQadd a0 a1 a2 a3 a4 s) := by
  unfold execNvQadd
  repeat' first
    | with_reducible assumption
    | refine OutKeeps.next ?_
    | with_reducible apply State.runInstr_keeps

theorem execNvQsub_keeps {s : State} (hmem : k.mem = false) (hcores : k.cores = false) (hlatch : k.latch = false) (hresp : k.resp = false) (ball : ∀ b, k.blk b = false) (h : State.Keeps k s0 s) (a0 : Nat) (a1 : Fin 2) (a2 : Fin 32) (a3 : Fin 32) (a4 : Fin 32) :
    OutKeeps k s0 (execNvQsub a0 a1 a2 a3 a4 s) := by
  unfold execNvQsub
  repeat' first
    | with_reducible assumption
    | refine OutKeeps.next ?_
    | with_reducible apply State.runInstr_keeps

theorem execNvQmul_keeps {s : State} (hmem : k.mem = false) (hcores : k.cores = false) (hlatch : k.latch = false) (hresp : k.resp = false) (ball : ∀ b, k.blk b = false) (h : State.Keeps k s0 s) (a0 : Nat) (a1 : Fin 2) (a2 : Fin 32) (a3 : Fin 32) (a4 : Fin 32) :
    OutKeeps k s0 (execNvQmul a0 a1 a2 a3 a4 s) := by
  unfold execNvQmul
  repeat' first
    | with_reducible assumption
    | refine OutKeeps.next ?_
    | with_reducible apply State.runInstr_keeps

theorem execNvQmac_keeps {s : State} (hmem : k.mem = false) (hcores : k.cores = false) (hlatch : k.latch = false) (hresp : k.resp = false) (ball : ∀ b, k.blk b = false) (h : State.Keeps k s0 s) (a0 : Nat) (a1 : Fin 2) (a2 : Fin 32) (a3 : Fin 32) (a4 : Fin 32) :
    OutKeeps k s0 (execNvQmac a0 a1 a2 a3 a4 s) := by
  unfold execNvQmac
  repeat' first
    | with_reducible assumption
    | refine OutKeeps.next ?_
    | with_reducible apply State.runInstr_keeps

theorem execNvQneg_keeps {s : State} (hmem : k.mem = false) (hcores : k.cores = false) (hlatch : k.latch = false) (hresp : k.resp = false) (ball : ∀ b, k.blk b = false) (h : State.Keeps k s0 s) (a0 : Nat) (a1 : Fin 2) (a2 : Fin 32) (a3 : Fin 32) :
    OutKeeps k s0 (execNvQneg a0 a1 a2 a3 s) := by
  unfold execNvQneg
  repeat' first
    | with_reducible assumption
    | refine OutKeeps.next ?_
    | with_reducible apply State.runInstr_keeps

theorem execNvQabs_keeps {s : State} (hmem : k.mem = false) (hcores : k.cores = false) (hlatch : k.latch = false) (hresp : k.resp = false) (ball : ∀ b, k.blk b = false) (h : State.Keeps k s0 s) (a0 : Nat) (a1 : Fin 2) (a2 : Fin 32) (a3 : Fin 32) :
    OutKeeps k s0 (execNvQabs a0 a1 a2 a3 s) := by
  unfold execNvQabs
  repeat' first
    | with_reducible assumption
    | refine OutKeeps.next ?_
    | with_reducible apply State.runInstr_keeps

theorem execNvSats_keeps {s : State} (hmem : k.mem = false) (hcores : k.cores = false) (hlatch : k.latch = false) (hresp : k.resp = false) (ball : ∀ b, k.blk b = false) (h : State.Keeps k s0 s) (a0 : Nat) (a1 : Fin 2) (a2 : Fin 32) (a3 : Fin 32) (a4 : Fin 32) :
    OutKeeps k s0 (execNvSats a0 a1 a2 a3 a4 s) := by
  unfold execNvSats
  repeat' first
    | with_reducible assumption
    | refine OutKeeps.next ?_
    | with_reducible apply State.runInstr_keeps

theorem execNvExtu_keeps {s : State} (hmem : k.mem = false) (hcores : k.cores = false) (hlatch : k.latch = false) (hresp : k.resp = false) (ball : ∀ b, k.blk b = false) (h : State.Keeps k s0 s) (a0 : Nat) (a1 : Fin 2) (a2 : Fin 32) (a3 : Fin 32) (a4 : Fin 32) (a5 : Fin 32) :
    OutKeeps k s0 (execNvExtu a0 a1 a2 a3 a4 a5 s) := by
  unfold execNvExtu
  repeat' first
    | with_reducible assumption
    | refine OutKeeps.next ?_
    | with_reducible apply State.runInstr_keeps

theorem execNvExts_keeps {s : State} (hmem : k.mem = false) (hcores : k.cores = false) (hlatch : k.latch = false) (hresp : k.resp = false) (ball : ∀ b, k.blk b = false) (h : State.Keeps k s0 s) (a0 : Nat) (a1 : Fin 2) (a2 : Fin 32) (a3 : Fin 32) (a4 : Fin 32) (a5 : Fin 32) :
    OutKeeps k s0 (execNvExts a0 a1 a2 a3 a4 a5 s) := by
  unfold execNvExts
  repeat' first
    | with_reducible assumption
    | refine OutKeeps.next ?_
    | with_reducible apply State.runInstr_keeps

theorem execNvIns_keeps {s : State} (hmem : k.mem = false) (hcores : k.cores = false) (hlatch : k.latch = false) (hresp : k.resp = false) (ball : ∀ b, k.blk b = false) (h : State.Keeps k s0 s) (a0 : Nat) (a1 : Fin 2) (a2 : Fin 32) (a3 : Fin 32) (a4 : Fin 32) (a5 : Fin 32) :
    OutKeeps k s0 (execNvIns a0 a1 a2 a3 a4 a5 s) := by
  unfold execNvIns
  repeat' first
    | with_reducible assumption
    | refine OutKeeps.next ?_
    | with_reducible apply State.runInstr_keeps

theorem execNvLb_keeps {s : State} (hmem : k.mem = false) (hcores : k.cores = false) (hlatch : k.latch = false) (hresp : k.resp = false) (ball : ∀ b, k.blk b = false) (h : State.Keeps k s0 s) (a0 : Nat) (a1 : Fin 2) (a2 : Fin 32) (a3 : Fin 32) (a4 : BitVec 16) :
    OutKeeps k s0 (execNvLb a0 a1 a2 a3 a4 s) := by
  unfold execNvLb
  repeat' first
    | with_reducible assumption
    | refine OutKeeps.next ?_
    | with_reducible apply State.runInstr_keeps

theorem execNvLbu_keeps {s : State} (hmem : k.mem = false) (hcores : k.cores = false) (hlatch : k.latch = false) (hresp : k.resp = false) (ball : ∀ b, k.blk b = false) (h : State.Keeps k s0 s) (a0 : Nat) (a1 : Fin 2) (a2 : Fin 32) (a3 : Fin 32) (a4 : BitVec 16) :
    OutKeeps k s0 (execNvLbu a0 a1 a2 a3 a4 s) := by
  unfold execNvLbu
  repeat' first
    | with_reducible assumption
    | refine OutKeeps.next ?_
    | with_reducible apply State.runInstr_keeps

theorem execNvLh_keeps {s : State} (hmem : k.mem = false) (hcores : k.cores = false) (hlatch : k.latch = false) (hresp : k.resp = false) (ball : ∀ b, k.blk b = false) (h : State.Keeps k s0 s) (a0 : Nat) (a1 : Fin 2) (a2 : Fin 32) (a3 : Fin 32) (a4 : BitVec 16) :
    OutKeeps k s0 (execNvLh a0 a1 a2 a3 a4 s) := by
  unfold execNvLh
  repeat' first
    | with_reducible assumption
    | refine OutKeeps.next ?_
    | with_reducible apply State.runInstr_keeps

theorem execNvLhu_keeps {s : State} (hmem : k.mem = false) (hcores : k.cores = false) (hlatch : k.latch = false) (hresp : k.resp = false) (ball : ∀ b, k.blk b = false) (h : State.Keeps k s0 s) (a0 : Nat) (a1 : Fin 2) (a2 : Fin 32) (a3 : Fin 32) (a4 : BitVec 16) :
    OutKeeps k s0 (execNvLhu a0 a1 a2 a3 a4 s) := by
  unfold execNvLhu
  repeat' first
    | with_reducible assumption
    | refine OutKeeps.next ?_
    | with_reducible apply State.runInstr_keeps

theorem execNvLw_keeps {s : State} (hmem : k.mem = false) (hcores : k.cores = false) (hlatch : k.latch = false) (hresp : k.resp = false) (ball : ∀ b, k.blk b = false) (h : State.Keeps k s0 s) (a0 : Nat) (a1 : Fin 2) (a2 : Fin 32) (a3 : Fin 32) (a4 : BitVec 16) :
    OutKeeps k s0 (execNvLw a0 a1 a2 a3 a4 s) := by
  unfold execNvLw
  repeat' first
    | with_reducible assumption
    | refine OutKeeps.next ?_
    | with_reducible apply State.runInstr_keeps

theorem execNvSb_keeps {s : State} (hmem : k.mem = false) (hcores : k.cores = false) (hlatch : k.latch = false) (hresp : k.resp = false) (ball : ∀ b, k.blk b = false) (h : State.Keeps k s0 s) (a0 : Nat) (a1 : Fin 2) (a2 : Fin 32) (a3 : Fin 32) (a4 : BitVec 16) :
    OutKeeps k s0 (execNvSb a0 a1 a2 a3 a4 s) := by
  unfold execNvSb
  repeat' first
    | with_reducible assumption
    | refine OutKeeps.next ?_
    | with_reducible apply State.runInstr_keeps

theorem execNvSh_keeps {s : State} (hmem : k.mem = false) (hcores : k.cores = false) (hlatch : k.latch = false) (hresp : k.resp = false) (ball : ∀ b, k.blk b = false) (h : State.Keeps k s0 s) (a0 : Nat) (a1 : Fin 2) (a2 : Fin 32) (a3 : Fin 32) (a4 : BitVec 16) :
    OutKeeps k s0 (execNvSh a0 a1 a2 a3 a4 s) := by
  unfold execNvSh
  repeat' first
    | with_reducible assumption
    | refine OutKeeps.next ?_
    | with_reducible apply State.runInstr_keeps

theorem execNvSw_keeps {s : State} (hmem : k.mem = false) (hcores : k.cores = false) (hlatch : k.latch = false) (hresp : k.resp = false) (ball : ∀ b, k.blk b = false) (h : State.Keeps k s0 s) (a0 : Nat) (a1 : Fin 2) (a2 : Fin 32) (a3 : Fin 32) (a4 : BitVec 16) :
    OutKeeps k s0 (execNvSw a0 a1 a2 a3 a4 s) := by
  unfold execNvSw
  repeat' first
    | with_reducible assumption
    | refine OutKeeps.next ?_
    | with_reducible apply State.runInstr_keeps

theorem execNvBeq_keeps {s : State} (hmem : k.mem = false) (hcores : k.cores = false) (hlatch : k.latch = false) (hresp : k.resp = false) (ball : ∀ b, k.blk b = false) (h : State.Keeps k s0 s) (a0 : Nat) (a1 : Fin 2) (a2 : Fin 32) (a3 : Fin 32) (a4 : BitVec 16) :
    OutKeeps k s0 (execNvBeq a0 a1 a2 a3 a4 s) := by
  unfold execNvBeq
  repeat' first
    | with_reducible assumption
    | refine OutKeeps.next ?_
    | with_reducible apply State.runInstr_keeps

theorem execNvBne_keeps {s : State} (hmem : k.mem = false) (hcores : k.cores = false) (hlatch : k.latch = false) (hresp : k.resp = false) (ball : ∀ b, k.blk b = false) (h : State.Keeps k s0 s) (a0 : Nat) (a1 : Fin 2) (a2 : Fin 32) (a3 : Fin 32) (a4 : BitVec 16) :
    OutKeeps k s0 (execNvBne a0 a1 a2 a3 a4 s) := by
  unfold execNvBne
  repeat' first
    | with_reducible assumption
    | refine OutKeeps.next ?_
    | with_reducible apply State.runInstr_keeps

theorem execNvBlt_keeps {s : State} (hmem : k.mem = false) (hcores : k.cores = false) (hlatch : k.latch = false) (hresp : k.resp = false) (ball : ∀ b, k.blk b = false) (h : State.Keeps k s0 s) (a0 : Nat) (a1 : Fin 2) (a2 : Fin 32) (a3 : Fin 32) (a4 : BitVec 16) :
    OutKeeps k s0 (execNvBlt a0 a1 a2 a3 a4 s) := by
  unfold execNvBlt
  repeat' first
    | with_reducible assumption
    | refine OutKeeps.next ?_
    | with_reducible apply State.runInstr_keeps

theorem execNvBge_keeps {s : State} (hmem : k.mem = false) (hcores : k.cores = false) (hlatch : k.latch = false) (hresp : k.resp = false) (ball : ∀ b, k.blk b = false) (h : State.Keeps k s0 s) (a0 : Nat) (a1 : Fin 2) (a2 : Fin 32) (a3 : Fin 32) (a4 : BitVec 16) :
    OutKeeps k s0 (execNvBge a0 a1 a2 a3 a4 s) := by
  unfold execNvBge
  repeat' first
    | with_reducible assumption
    | refine OutKeeps.next ?_
    | with_reducible apply State.runInstr_keeps

theorem execNvBltu_keeps {s : State} (hmem : k.mem = false) (hcores : k.cores = false) (hlatch : k.latch = false) (hresp : k.resp = false) (ball : ∀ b, k.blk b = false) (h : State.Keeps k s0 s) (a0 : Nat) (a1 : Fin 2) (a2 : Fin 32) (a3 : Fin 32) (a4 : BitVec 16) :
    OutKeeps k s0 (execNvBltu a0 a1 a2 a3 a4 s) := by
  unfold execNvBltu
  repeat' first
    | with_reducible assumption
    | refine OutKeeps.next ?_
    | with_reducible apply State.runInstr_keeps

theorem execNvBgeu_keeps {s : State} (hmem : k.mem = false) (hcores : k.cores = false) (hlatch : k.latch = false) (hresp : k.resp = false) (ball : ∀ b, k.blk b = false) (h : State.Keeps k s0 s) (a0 : Nat) (a1 : Fin 2) (a2 : Fin 32) (a3 : Fin 32) (a4 : BitVec 16) :
    OutKeeps k s0 (execNvBgeu a0 a1 a2 a3 a4 s) := by
  unfold execNvBgeu
  repeat' first
    | with_reducible assumption
    | refine OutKeeps.next ?_
    | with_reducible apply State.runInstr_keeps

theorem execNvJ_keeps {s : State} (hmem : k.mem = false) (hcores : k.cores = false) (hlatch : k.latch = false) (hresp : k.resp = false) (ball : ∀ b, k.blk b = false) (h : State.Keeps k s0 s) (a0 : Nat) (a1 : Fin 2) (a2 : BitVec 26) :
    OutKeeps k s0 (execNvJ a0 a1 a2 s) := by
  unfold execNvJ
  repeat' first
    | with_reducible assumption
    | refine OutKeeps.next ?_
    | with_reducible apply State.runInstr_keeps

theorem execNvJal_keeps {s : State} (hmem : k.mem = false) (hcores : k.cores = false) (hlatch : k.latch = false) (hresp : k.resp = false) (ball : ∀ b, k.blk b = false) (h : State.Keeps k s0 s) (a0 : Nat) (a1 : Fin 2) (a2 : BitVec 26) :
    OutKeeps k s0 (execNvJal a0 a1 a2 s) := by
  unfold execNvJal
  repeat' first
    | with_reducible assumption
    | refine OutKeeps.next ?_
    | with_reducible apply State.runInstr_keeps

theorem execNvJalr_keeps {s : State} (hmem : k.mem = false) (hcores : k.cores = false) (hlatch : k.latch = false) (hresp : k.resp = false) (ball : ∀ b, k.blk b = false) (h : State.Keeps k s0 s) (a0 : Nat) (a1 : Fin 2) (a2 : Fin 32) (a3 : Fin 32) (a4 : BitVec 16) :
    OutKeeps k s0 (execNvJalr a0 a1 a2 a3 a4 s) := by
  unfold execNvJalr
  repeat' first
    | with_reducible assumption
    | refine OutKeeps.next ?_
    | with_reducible apply State.runInstr_keeps

theorem execNvSyscall_keeps {s : State} (hmem : k.mem = false) (hcores : k.cores = false) (hlatch : k.latch = false) (hresp : k.resp = false) (ball : ∀ b, k.blk b = false) (h : State.Keeps k s0 s) (a0 : Nat) (a1 : Fin 2) (a2 : BitVec 12) :
    OutKeeps k s0 (execNvSyscall a0 a1 a2 s) := by
  unfold execNvSyscall
  repeat' first
    | with_reducible assumption
    | refine OutKeeps.next ?_
    | with_reducible apply State.runInstr_keeps

theorem execNvBreak_keeps {s : State} (hmem : k.mem = false) (hcores : k.cores = false) (hlatch : k.latch = false) (hresp : k.resp = false) (ball : ∀ b, k.blk b = false) (h : State.Keeps k s0 s) (a0 : Nat) (a1 : Fin 2) :
    OutKeeps k s0 (execNvBreak a0 a1 s) := by
  unfold execNvBreak
  repeat' first
    | with_reducible assumption
    | refine OutKeeps.next ?_
    | with_reducible apply State.runInstr_keeps

theorem execNvEret_keeps {s : State} (hmem : k.mem = false) (hcores : k.cores = false) (hlatch : k.latch = false) (hresp : k.resp = false) (ball : ∀ b, k.blk b = false) (h : State.Keeps k s0 s) (a0 : Nat) (a1 : Fin 2) :
    OutKeeps k s0 (execNvEret a0 a1 s) := by
  unfold execNvEret
  repeat' first
    | with_reducible assumption
    | refine OutKeeps.next ?_
    | with_reducible apply State.runInstr_keeps

theorem execNvMfcr_keeps {s : State} (hmem : k.mem = false) (hcores : k.cores = false) (hlatch : k.latch = false) (hresp : k.resp = false) (ball : ∀ b, k.blk b = false) (h : State.Keeps k s0 s) (a0 : Nat) (a1 : Fin 2) (a2 : Fin 32) (a3 : BitVec 8) :
    OutKeeps k s0 (execNvMfcr a0 a1 a2 a3 s) := by
  unfold execNvMfcr
  repeat' first
    | with_reducible assumption
    | refine OutKeeps.next ?_
    | with_reducible apply State.runInstr_keeps

theorem execNvMtcr_keeps {s : State} (hmem : k.mem = false) (hcores : k.cores = false) (hlatch : k.latch = false) (hresp : k.resp = false) (ball : ∀ b, k.blk b = false) (h : State.Keeps k s0 s) (a0 : Nat) (a1 : Fin 2) (a2 : Fin 32) (a3 : BitVec 8) :
    OutKeeps k s0 (execNvMtcr a0 a1 a2 a3 s) := by
  unfold execNvMtcr
  repeat' first
    | with_reducible assumption
    | refine OutKeeps.next ?_
    | with_reducible apply State.runInstr_keeps

theorem execNvWfi_keeps {s : State} (hmem : k.mem = false) (hcores : k.cores = false) (hlatch : k.latch = false) (hresp : k.resp = false) (ball : ∀ b, k.blk b = false) (h : State.Keeps k s0 s) (a0 : Nat) (a1 : Fin 2) :
    OutKeeps k s0 (execNvWfi a0 a1 s) := by
  unfold execNvWfi
  repeat' first
    | with_reducible assumption
    | refine OutKeeps.next ?_
    | with_reducible apply State.runInstr_keeps

theorem execDkDmtd_keeps {s : State} (hmem : k.mem = false) (hcores : k.cores = false) (hlatch : k.latch = false) (hresp : k.resp = false) (ball : ∀ b, k.blk b = false) (h : State.Keeps k s0 s) (a0 : Nat) (a1 : Fin 2) (a2 : Fin 32) (a3 : Fin 32) :
    OutKeeps k s0 (execDkDmtd a0 a1 a2 a3 s) := by
  unfold execDkDmtd
  repeat' first
    | with_reducible assumption
    | refine OutKeeps.next ?_
    | with_reducible apply State.runInstr_keeps

theorem execDkDmfd_keeps {s : State} (hmem : k.mem = false) (hcores : k.cores = false) (hlatch : k.latch = false) (hresp : k.resp = false) (ball : ∀ b, k.blk b = false) (h : State.Keeps k s0 s) (a0 : Nat) (a1 : Fin 2) (a2 : Fin 32) (a3 : Fin 32) :
    OutKeeps k s0 (execDkDmfd a0 a1 a2 a3 s) := by
  unfold execDkDmfd
  repeat' first
    | with_reducible assumption
    | refine OutKeeps.next ?_
    | with_reducible apply State.runInstr_keeps

theorem execDkDmfs_keeps {s : State} (hmem : k.mem = false) (hcores : k.cores = false) (hlatch : k.latch = false) (hresp : k.resp = false) (ball : ∀ b, k.blk b = false) (h : State.Keeps k s0 s) (a0 : Nat) (a1 : Fin 2) (a2 : Fin 32) :
    OutKeeps k s0 (execDkDmfs a0 a1 a2 s) := by
  unfold execDkDmfs
  repeat' first
    | with_reducible assumption
    | refine OutKeeps.next ?_
    | with_reducible apply State.runInstr_keeps

theorem execDkDmts_keeps {s : State} (hmem : k.mem = false) (hcores : k.cores = false) (hlatch : k.latch = false) (hresp : k.resp = false) (ball : ∀ b, k.blk b = false) (h : State.Keeps k s0 s) (a0 : Nat) (a1 : Fin 2) (a2 : Fin 32) :
    OutKeeps k s0 (execDkDmts a0 a1 a2 s) := by
  unfold execDkDmts
  repeat' first
    | with_reducible assumption
    | refine OutKeeps.next ?_
    | with_reducible apply State.runInstr_keeps

theorem execDkDqadd_keeps {s : State} (hmem : k.mem = false) (hcores : k.cores = false) (hlatch : k.latch = false) (hresp : k.resp = false) (ball : ∀ b, k.blk b = false) (h : State.Keeps k s0 s) (a0 : Nat) (a1 : Fin 2) (a2 : Fin 32) (a3 : Fin 32) (a4 : Fin 32) :
    OutKeeps k s0 (execDkDqadd a0 a1 a2 a3 a4 s) := by
  unfold execDkDqadd
  repeat' first
    | with_reducible assumption
    | refine OutKeeps.next ?_
    | with_reducible apply State.runInstr_keeps

theorem execDkDqsub_keeps {s : State} (hmem : k.mem = false) (hcores : k.cores = false) (hlatch : k.latch = false) (hresp : k.resp = false) (ball : ∀ b, k.blk b = false) (h : State.Keeps k s0 s) (a0 : Nat) (a1 : Fin 2) (a2 : Fin 32) (a3 : Fin 32) (a4 : Fin 32) :
    OutKeeps k s0 (execDkDqsub a0 a1 a2 a3 a4 s) := by
  unfold execDkDqsub
  repeat' first
    | with_reducible assumption
    | refine OutKeeps.next ?_
    | with_reducible apply State.runInstr_keeps

theorem execDkDqmul_keeps {s : State} (hmem : k.mem = false) (hcores : k.cores = false) (hlatch : k.latch = false) (hresp : k.resp = false) (ball : ∀ b, k.blk b = false) (h : State.Keeps k s0 s) (a0 : Nat) (a1 : Fin 2) (a2 : Fin 32) (a3 : Fin 32) (a4 : Fin 32) :
    OutKeeps k s0 (execDkDqmul a0 a1 a2 a3 a4 s) := by
  unfold execDkDqmul
  repeat' first
    | with_reducible assumption
    | refine OutKeeps.next ?_
    | with_reducible apply State.runInstr_keeps

theorem execDkDqmac_keeps {s : State} (hmem : k.mem = false) (hcores : k.cores = false) (hlatch : k.latch = false) (hresp : k.resp = false) (ball : ∀ b, k.blk b = false) (h : State.Keeps k s0 s) (a0 : Nat) (a1 : Fin 2) (a2 : Fin 32) (a3 : Fin 32) (a4 : Fin 32) :
    OutKeeps k s0 (execDkDqmac a0 a1 a2 a3 a4 s) := by
  unfold execDkDqmac
  repeat' first
    | with_reducible assumption
    | refine OutKeeps.next ?_
    | with_reducible apply State.runInstr_keeps

theorem execDkDqdiv_keeps {s : State} (hmem : k.mem = false) (hcores : k.cores = false) (hlatch : k.latch = false) (hresp : k.resp = false) (ball : ∀ b, k.blk b = false) (h : State.Keeps k s0 s) (a0 : Nat) (a1 : Fin 2) (a2 : Fin 32) (a3 : Fin 32) (a4 : Fin 32) :
    OutKeeps k s0 (execDkDqdiv a0 a1 a2 a3 a4 s) := by
  unfold execDkDqdiv
  repeat' first
    | with_reducible assumption
    | refine OutKeeps.next ?_
    | with_reducible apply State.runInstr_keeps

theorem execDkFadd_keeps {s : State} (hmem : k.mem = false) (hcores : k.cores = false) (hlatch : k.latch = false) (hresp : k.resp = false) (ball : ∀ b, k.blk b = false) (h : State.Keeps k s0 s) (a0 : Nat) (a1 : Fin 2) (a2 : Fin 32) (a3 : Fin 32) (a4 : Fin 32) :
    OutKeeps k s0 (execDkFadd a0 a1 a2 a3 a4 s) := by
  unfold execDkFadd
  repeat' first
    | with_reducible assumption
    | refine OutKeeps.next ?_
    | with_reducible apply State.runInstr_keeps

theorem execDkFsub_keeps {s : State} (hmem : k.mem = false) (hcores : k.cores = false) (hlatch : k.latch = false) (hresp : k.resp = false) (ball : ∀ b, k.blk b = false) (h : State.Keeps k s0 s) (a0 : Nat) (a1 : Fin 2) (a2 : Fin 32) (a3 : Fin 32) (a4 : Fin 32) :
    OutKeeps k s0 (execDkFsub a0 a1 a2 a3 a4 s) := by
  unfold execDkFsub
  repeat' first
    | with_reducible assumption
    | refine OutKeeps.next ?_
    | with_reducible apply State.runInstr_keeps

theorem execDkFmul_keeps {s : State} (hmem : k.mem = false) (hcores : k.cores = false) (hlatch : k.latch = false) (hresp : k.resp = false) (ball : ∀ b, k.blk b = false) (h : State.Keeps k s0 s) (a0 : Nat) (a1 : Fin 2) (a2 : Fin 32) (a3 : Fin 32) (a4 : Fin 32) :
    OutKeeps k s0 (execDkFmul a0 a1 a2 a3 a4 s) := by
  unfold execDkFmul
  repeat' first
    | with_reducible assumption
    | refine OutKeeps.next ?_
    | with_reducible apply State.runInstr_keeps

theorem execDkFmac_keeps {s : State} (hmem : k.mem = false) (hcores : k.cores = false) (hlatch : k.latch = false) (hresp : k.resp = false) (ball : ∀ b, k.blk b = false) (h : State.Keeps k s0 s) (a0 : Nat) (a1 : Fin 2) (a2 : Fin 32) (a3 : Fin 32) (a4 : Fin 32) :
    OutKeeps k s0 (execDkFmac a0 a1 a2 a3 a4 s) := by
  unfold execDkFmac
  repeat' first
    | with_reducible assumption
    | refine OutKeeps.next ?_
    | with_reducible apply State.runInstr_keeps

theorem execDkFdiv_keeps {s : State} (hmem : k.mem = false) (hcores : k.cores = false) (hlatch : k.latch = false) (hresp : k.resp = false) (ball : ∀ b, k.blk b = false) (h : State.Keeps k s0 s) (a0 : Nat) (a1 : Fin 2) (a2 : Fin 32) (a3 : Fin 32) (a4 : Fin 32) :
    OutKeeps k s0 (execDkFdiv a0 a1 a2 a3 a4 s) := by
  unfold execDkFdiv
  repeat' first
    | with_reducible assumption
    | refine OutKeeps.next ?_
    | with_reducible apply State.runInstr_keeps

theorem execDkFsqrt_keeps {s : State} (hmem : k.mem = false) (hcores : k.cores = false) (hlatch : k.latch = false) (hresp : k.resp = false) (ball : ∀ b, k.blk b = false) (h : State.Keeps k s0 s) (a0 : Nat) (a1 : Fin 2) (a2 : Fin 32) (a3 : Fin 32) :
    OutKeeps k s0 (execDkFsqrt a0 a1 a2 a3 s) := by
  unfold execDkFsqrt
  repeat' first
    | with_reducible assumption
    | refine OutKeeps.next ?_
    | with_reducible apply State.runInstr_keeps

theorem execDkFtoq_keeps {s : State} (hmem : k.mem = false) (hcores : k.cores = false) (hlatch : k.latch = false) (hresp : k.resp = false) (ball : ∀ b, k.blk b = false) (h : State.Keeps k s0 s) (a0 : Nat) (a1 : Fin 2) (a2 : Fin 32) (a3 : Fin 32) :
    OutKeeps k s0 (execDkFtoq a0 a1 a2 a3 s) := by
  unfold execDkFtoq
  repeat' first
    | with_reducible assumption
    | refine OutKeeps.next ?_
    | with_reducible apply State.runInstr_keeps

theorem execDkQtof_keeps {s : State} (hmem : k.mem = false) (hcores : k.cores = false) (hlatch : k.latch = false) (hresp : k.resp = false) (ball : ∀ b, k.blk b = false) (h : State.Keeps k s0 s) (a0 : Nat) (a1 : Fin 2) (a2 : Fin 32) (a3 : Fin 32) :
    OutKeeps k s0 (execDkQtof a0 a1 a2 a3 s) := by
  unfold execDkQtof
  repeat' first
    | with_reducible assumption
    | refine OutKeeps.next ?_
    | with_reducible apply State.runInstr_keeps

theorem execDkCmul_keeps {s : State} (hmem : k.mem = false) (hcores : k.cores = false) (hlatch : k.latch = false) (hresp : k.resp = false) (ball : ∀ b, k.blk b = false) (h : State.Keeps k s0 s) (a0 : Nat) (a1 : Fin 2) (a2 : Fin 32) (a3 : Fin 32) (a4 : Fin 32) :
    OutKeeps k s0 (execDkCmul a0 a1 a2 a3 a4 s) := by
  unfold execDkCmul
  repeat' first
    | with_reducible assumption
    | refine OutKeeps.next ?_
    | with_reducible apply State.runInstr_keeps

theorem execDkClarke_keeps {s : State} (hmem : k.mem = false) (hcores : k.cores = false) (hlatch : k.latch = false) (hresp : k.resp = false) (ball : ∀ b, k.blk b = false) (h : State.Keeps k s0 s) (a0 : Nat) (a1 : Fin 2) (a2 : Fin 32) (a3 : Fin 32) :
    OutKeeps k s0 (execDkClarke a0 a1 a2 a3 s) := by
  unfold execDkClarke
  repeat' first
    | with_reducible assumption
    | refine OutKeeps.next ?_
    | with_reducible apply State.runInstr_keeps

theorem execDkPark_keeps {s : State} (hmem : k.mem = false) (hcores : k.cores = false) (hlatch : k.latch = false) (hresp : k.resp = false) (ball : ∀ b, k.blk b = false) (h : State.Keeps k s0 s) (a0 : Nat) (a1 : Fin 2) (a2 : Fin 32) (a3 : Fin 32) (a4 : Fin 32) :
    OutKeeps k s0 (execDkPark a0 a1 a2 a3 a4 s) := by
  unfold execDkPark
  repeat' first
    | with_reducible assumption
    | refine OutKeeps.next ?_
    | with_reducible apply State.runInstr_keeps

theorem execDkIpark_keeps {s : State} (hmem : k.mem = false) (hcores : k.cores = false) (hlatch : k.latch = false) (hresp : k.resp = false) (ball : ∀ b, k.blk b = false) (h : State.Keeps k s0 s) (a0 : Nat) (a1 : Fin 2) (a2 : Fin 32) (a3 : Fin 32) (a4 : Fin 32) :
    OutKeeps k s0 (execDkIpark a0 a1 a2 a3 a4 s) := by
  unfold execDkIpark
  repeat' first
    | with_reducible assumption
    | refine OutKeeps.next ?_
    | with_reducible apply State.runInstr_keeps

theorem execDkSincos_keeps {s : State} (hmem : k.mem = false) (hcores : k.cores = false) (hlatch : k.latch = false) (hresp : k.resp = false) (ball : ∀ b, k.blk b = false) (h : State.Keeps k s0 s) (a0 : Nat) (a1 : Fin 2) (a2 : Fin 32) (a3 : Fin 32) :
    OutKeeps k s0 (execDkSincos a0 a1 a2 a3 s) := by
  unfold execDkSincos
  repeat' first
    | with_reducible assumption
    | refine OutKeeps.next ?_
    | with_reducible apply State.runInstr_keeps

theorem execDkBq_keeps {s : State} (hmem : k.mem = false) (hcores : k.cores = false) (hlatch : k.latch = false) (hresp : k.resp = false) (ball : ∀ b, k.blk b = false) (h : State.Keeps k s0 s) (a0 : Nat) (a1 : Fin 2) (a2 : Fin 32) (a3 : Fin 32) (a4 : Fin 32) :
    OutKeeps k s0 (execDkBq a0 a1 a2 a3 a4 s) := by
  unfold execDkBq
  repeat' first
    | with_reducible assumption
    | refine OutKeeps.next ?_
    | with_reducible apply State.runInstr_keeps

theorem execDkPr_keeps {s : State} (hmem : k.mem = false) (hcores : k.cores = false) (hlatch : k.latch = false) (hresp : k.resp = false) (ball : ∀ b, k.blk b = false) (h : State.Keeps k s0 s) (a0 : Nat) (a1 : Fin 2) (a2 : Fin 32) (a3 : Fin 32) (a4 : Fin 32) :
    OutKeeps k s0 (execDkPr a0 a1 a2 a3 a4 s) := by
  unfold execDkPr
  repeat' first
    | with_reducible assumption
    | refine OutKeeps.next ?_
    | with_reducible apply State.runInstr_keeps

theorem execDkDsecr_keeps {s : State} (hmem : k.mem = false) (hcores : k.cores = false) (hlatch : k.latch = false) (hresp : k.resp = false) (ball : ∀ b, k.blk b = false) (h : State.Keeps k s0 s) (a0 : Nat) (a1 : Fin 2) (a2 : Fin 32) (a3 : Fin 32) (a4 : Fin 32) :
    OutKeeps k s0 (execDkDsecr a0 a1 a2 a3 a4 s) := by
  unfold execDkDsecr
  repeat' first
    | with_reducible assumption
    | refine OutKeeps.next ?_
    | with_reducible apply State.runInstr_keeps

theorem execDkDsecw_keeps {s : State} (hmem : k.mem = false) (hcores : k.cores = false) (hlatch : k.latch = false) (hresp : k.resp = false) (ball : ∀ b, k.blk b = false) (h : State.Keeps k s0 s) (a0 : Nat) (a1 : Fin 2) (a2 : Fin 32) (a3 : Fin 32) (a4 : Fin 32) :
    OutKeeps k s0 (execDkDsecw a0 a1 a2 a3 a4 s) := by
  unfold execDkDsecw
  repeat' first
    | with_reducible assumption
    | refine OutKeeps.next ?_
    | with_reducible apply State.runInstr_keeps

theorem execDkFir_keeps {s : State} (hmem : k.mem = false) (hcores : k.cores = false) (hlatch : k.latch = false) (hresp : k.resp = false) (ball : ∀ b, k.blk b = false) (h : State.Keeps k s0 s) (a0 : Nat) (a1 : Fin 2) (a2 : Fin 32) (a3 : Fin 32) :
    OutKeeps k s0 (execDkFir a0 a1 a2 a3 s) := by
  unfold execDkFir
  repeat' first
    | with_reducible assumption
    | refine OutKeeps.next ?_
    | with_reducible apply State.runInstr_keeps

theorem execDkFirw_keeps {s : State} (hmem : k.mem = false) (hcores : k.cores = false) (hlatch : k.latch = false) (hresp : k.resp = false) (ball : ∀ b, k.blk b = false) (h : State.Keeps k s0 s) (a0 : Nat) (a1 : Fin 2) (a2 : Fin 32) (a3 : Fin 32) :
    OutKeeps k s0 (execDkFirw a0 a1 a2 a3 s) := by
  unfold execDkFirw
  repeat' first
    | with_reducible assumption
    | refine OutKeeps.next ?_
    | with_reducible apply State.runInstr_keeps

theorem execDkDld_keeps {s : State} (hmem : k.mem = false) (hcores : k.cores = false) (hlatch : k.latch = false) (hresp : k.resp = false) (ball : ∀ b, k.blk b = false) (h : State.Keeps k s0 s) (a0 : Nat) (a1 : Fin 2) (a2 : Fin 32) (a3 : Fin 32) (a4 : Fin 32) :
    OutKeeps k s0 (execDkDld a0 a1 a2 a3 a4 s) := by
  unfold execDkDld
  repeat' first
    | with_reducible assumption
    | refine OutKeeps.next ?_
    | with_reducible apply State.runInstr_keeps

theorem execDkDst_keeps {s : State} (hmem : k.mem = false) (hcores : k.cores = false) (hlatch : k.latch = false) (hresp : k.resp = false) (ball : ∀ b, k.blk b = false) (h : State.Keeps k s0 s) (a0 : Nat) (a1 : Fin 2) (a2 : Fin 32) (a3 : Fin 32) (a4 : Fin 32) :
    OutKeeps k s0 (execDkDst a0 a1 a2 a3 a4 s) := by
  unfold execDkDst
  repeat' first
    | with_reducible assumption
    | refine OutKeeps.next ?_
    | with_reducible apply State.runInstr_keeps

theorem execDkDtrk_keeps {s : State} (hmem : k.mem = false) (hcores : k.cores = false) (hlatch : k.latch = false) (hresp : k.resp = false) (ball : ∀ b, k.blk b = false) (h : State.Keeps k s0 s) (a0 : Nat) (a1 : Fin 2) (a2 : Fin 32) (a3 : Fin 32) :
    OutKeeps k s0 (execDkDtrk a0 a1 a2 a3 s) := by
  unfold execDkDtrk
  repeat' first
    | with_reducible assumption
    | refine OutKeeps.next ?_
    | with_reducible apply State.runInstr_keeps

theorem execDkDedg_keeps {s : State} (hmem : k.mem = false) (hcores : k.cores = false) (hlatch : k.latch = false) (hresp : k.resp = false) (ball : ∀ b, k.blk b = false) (h : State.Keeps k s0 s) (a0 : Nat) (a1 : Fin 2) (a2 : Fin 32) (a3 : Fin 32) :
    OutKeeps k s0 (execDkDedg a0 a1 a2 a3 s) := by
  unfold execDkDedg
  repeat' first
    | with_reducible assumption
    | refine OutKeeps.next ?_
    | with_reducible apply State.runInstr_keeps

end Sys2Proof.Machine
end

