-- ==== Sys2Proof/Laws/Keeps/Debug.lean ====
section
/-!
SUPPORT. Sys2Proof/Laws/Keeps/Debug.lean: what each operation of Machine/Debug.lean keeps.
-/

set_option Elab.async false

namespace Sys2Proof.Machine

set_option linter.tactic.unusedName false

variable {k : Kept} {s0 : State}

theorem State.setIr_keeps {s : State} (b23 : k.blk 23 = false) (h : State.Keeps k s0 s) (a1 : JtagIr) :
    State.Keeps k s0 (State.setIr s a1) := by
  unfold State.setIr
  repeat' first
    | (extract_lets -underBinder +onlyGivenNames x; unfold x; clear x)
    | (with_reducible refine Keeps.upd (h := ?_); first | with_reducible assumption | with_reducible refine Keeps.ite (P := State.Keeps _ _) ?_ ?_ | with_reducible refine Keeps.foldl (fun _ _ _ => ?_) ?_)

theorem State.scanIr_keeps {s : State} (b23 : k.blk 23 = false) (h : State.Keeps k s0 s) (a1 : JtagIr) :
    State.Keeps k s0 (State.scanIr s a1) := by
  unfold State.scanIr
  repeat' first
    | with_reducible assumption
    | (with_reducible show Fld.Listed _; decide)
    | (show Kept.blk _ _ = false; first | exact b23)
    | with_reducible refine Keeps.ite (P := State.Keeps _ _) ?_ ?_
    | with_reducible apply State.set_keeps
    | with_reducible apply State.setIr_keeps

theorem State.jtagCode_keeps {s : State} (b23 : k.blk 23 = false) (h : State.Keeps k s0 s) (a1 : Nat) :
    State.Keeps k s0 (State.jtagCode s a1) := by
  unfold State.jtagCode
  repeat' first
    | with_reducible assumption
    | with_reducible refine Keeps.ite (P := State.Keeps _ _) ?_ ?_
    | with_reducible apply State.scanIr_keeps
    | with_reducible apply State.setIr_keeps
    | split

theorem State.debugHalt_keeps {s : State} (hcores : k.cores = false) (b0 : k.blk 0 = false) (b5 : k.blk 5 = false) (b6 : k.blk 6 = false) (b11 : k.blk 11 = false) (b12 : k.blk 12 = false) (b13 : k.blk 13 = false) (b15 : k.blk 15 = false) (b18 : k.blk 18 = false) (b20 : k.blk 20 = false) (b22 : k.blk 22 = false) (b23 : k.blk 23 = false) (h : State.Keeps k s0 s) (a1 : Nat) :
    State.Keeps k s0 (State.debugHalt s a1) := by
  unfold State.debugHalt
  repeat' first
    | with_reducible assumption
    | with_reducible refine Keeps.ite (P := State.Keeps _ _) ?_ ?_
    | with_reducible apply State.haltCore_keeps

theorem State.debugResume_keeps {s : State} (b0 : k.blk 0 = false) (b5 : k.blk 5 = false) (b15 : k.blk 15 = false) (b18 : k.blk 18 = false) (b23 : k.blk 23 = false) (h : State.Keeps k s0 s) (a1 : Nat) :
    State.Keeps k s0 (State.debugResume s a1) := by
  unfold State.debugResume
  repeat' first
    | with_reducible assumption
    | (with_reducible show Fld.Listed _; decide)
    | (show Kept.blk _ _ = false; first | exact b0 | exact b5 | exact b15 | exact b18 | exact b23)
    | with_reducible refine Keeps.ite (P := State.Keeps _ _) ?_ ?_
    | (extract_lets -underBinder +onlyGivenNames x; refine Keeps.cut (k := k) (s0 := s0) (x := x) ?_ ?_ <;> first | (intro _; revert x; intro _ _) | (unfold x; clear x))
    | with_reducible refine Keeps.foldl (fun _ _ _ => ?_) ?_
    | with_reducible apply State.set_keeps
    | with_reducible apply State.convReleased_keeps
    | with_reducible apply State.lpJudgeAll_keeps
    | with_reducible apply State.locReleased_keeps

theorem State.debugStep_keeps {s : State} (hmem : k.mem = false) (hcores : k.cores = false) (hlatch : k.latch = false) (hresp : k.resp = false) (ball : ∀ b, k.blk b = false) (h : State.Keeps k s0 s) (a1 : Nat) :
    State.Keeps k s0 (State.debugStep s a1) := by
  unfold State.debugStep
  repeat' first
    | with_reducible assumption
    | (with_reducible show Fld.Listed _; decide)
    | (show Kept.blk _ _ = false; first | exact ball _)
    | (intro x hx; have := (hx : State.Keeps k s0 x))
    | with_reducible refine Keeps.ite (P := State.Keeps _ _) ?_ ?_
    | (extract_lets -underBinder +onlyGivenNames x; refine Keeps.cut (k := k) (s0 := s0) (x := x) ?_ ?_ <;> first | (intro _; revert x; intro _ _) | (unfold x; clear x))
    | (extract_lets -underBinder +onlyGivenNames x; unfold x; clear x)
    | with_reducible apply State.set_keeps
    | with_reducible apply State.setCore_keeps
    | with_reducible apply State.retire_keeps
    | with_reducible apply State.runWord_keeps
    | with_reducible apply State.longDone_keeps
    | with_reducible apply State.divideDone_keeps

theorem State.coreCtrl_keeps {s : State} (hmem : k.mem = false) (hcores : k.cores = false) (hlatch : k.latch = false) (hresp : k.resp = false) (ball : ∀ b, k.blk b = false) (h : State.Keeps k s0 s) (a1 : Nat) (a2 : Nat) :
    State.Keeps k s0 (State.coreCtrl s a1 a2) := by
  unfold State.coreCtrl
  repeat' first
    | with_reducible assumption
    | (show Kept.blk _ _ = false; first | exact ball _)
    | with_reducible refine Keeps.ite (P := State.Keeps _ _) ?_ ?_
    | with_reducible apply State.debugHalt_keeps
    | with_reducible apply State.debugResume_keeps
    | with_reducible apply State.debugStep_keeps

theorem State.writeCoreCtrl_keeps {s : State} (hmem : k.mem = false) (hcores : k.cores = false) (hlatch : k.latch = false) (hresp : k.resp = false) (ball : ∀ b, k.blk b = false) (h : State.Keeps k s0 s) (a1 : Acc) (a2 : Nat) (a3 : Nat) :
    State.Keeps k s0 (State.writeCoreCtrl s a1 a2 a3) := by
  unfold State.writeCoreCtrl
  repeat' first
    | with_reducible assumption
    | with_reducible refine Keeps.ite (P := State.Keeps _ _) ?_ ?_
    | with_reducible apply State.busErr_keeps
    | with_reducible apply State.ok_keeps
    | with_reducible apply State.coreCtrl_keeps

theorem State.anyWrite_keeps {s : State} (hmem : k.mem = false) (hcores : k.cores = false) (hlatch : k.latch = false) (hresp : k.resp = false) (ball : ∀ b, k.blk b = false) (h : State.Keeps k s0 s) (a1 : Acc) (a2 : Nat) (a3 : AccSize) (a4 : Nat) :
    State.Keeps k s0 (State.anyWrite s a1 a2 a3 a4) := by
  unfold State.anyWrite
  repeat' first
    | with_reducible assumption
    | with_reducible refine Keeps.ite (P := State.Keeps _ _) ?_ ?_
    | with_reducible apply State.writeCoreCtrl_keeps
    | with_reducible apply State.busWrite_keeps

theorem State.dbgAcc_keeps {s : State} (b23 : k.blk 23 = false) (h : State.Keeps k s0 s)
    (a1 : State → State) (g1 : ∀ x, State.Keeps k s0 x → State.Keeps k s0 (a1 x)) :
    State.Keeps k s0 (State.dbgAcc s a1) := by
  unfold State.dbgAcc
  simp only
  split
  · exact h
  · exact Keeps.upd (h := g1 s h) (hr := fun e => (h.resp e).trans ((g1 s h).resp e).symm)

theorem State.hostAccess_keeps {s : State} (b23 : k.blk 23 = false) (h : State.Keeps k s0 s) (a1 : State → State) (g1 : ∀ x, State.Keeps k s0 x → State.Keeps k s0 (a1 x)) :
    State.Keeps k s0 (State.hostAccess s a1) := by
  unfold State.hostAccess
  repeat' first
    | with_reducible assumption
    | with_reducible apply g1
    | with_reducible refine Keeps.ite (P := State.Keeps _ _) ?_ ?_
    | (extract_lets -underBinder +onlyGivenNames x; refine Keeps.cut (k := k) (s0 := s0) (x := x) ?_ ?_ <;> first | (intro _; revert x; intro _ _) | (unfold x; clear x))
    | (extract_lets -underBinder +onlyGivenNames x; unfold x; clear x)
    | (with_reducible refine Keeps.upd (h := ?_); first | with_reducible assumption | with_reducible refine Keeps.ite (P := State.Keeps _ _) ?_ ?_ | with_reducible refine Keeps.foldl (fun _ _ _ => ?_) ?_)

theorem State.hostRise_keeps {s : State} (hmem : k.mem = false) (hcores : k.cores = false) (hlatch : k.latch = false) (hresp : k.resp = false) (ball : ∀ b, k.blk b = false) (h : State.Keeps k s0 s) (a1 : Nat) (a2 : Bool) (a3 : Word) (a4 : Word) (a5 : Nat) :
    State.Keeps k s0 (State.hostRise s a1 a2 a3 a4 a5) := by
  unfold State.hostRise
  repeat' first
    | with_reducible assumption
    | with_reducible refine Keeps.ite (P := State.Keeps _ _) ?_ ?_
    | (extract_lets -underBinder +onlyGivenNames x; refine Keeps.cut (k := k) (s0 := s0) (x := x) ?_ ?_ <;> first | (intro _; revert x; intro _ _) | (unfold x; clear x))
    | (extract_lets -underBinder +onlyGivenNames x; unfold x; clear x)
    | with_reducible apply State.anyWrite_keeps
    | (with_reducible refine Keeps.upd (h := ?_); first | with_reducible assumption | with_reducible apply State.anyWrite_keeps | with_reducible refine Keeps.ite (P := State.Keeps _ _) ?_ ?_ | with_reducible refine Keeps.foldl (fun _ _ _ => ?_) ?_)

theorem execRegisterWrite_keeps {s : State} (hmem : k.mem = false) (hcores : k.cores = false) (hlatch : k.latch = false) (hresp : k.resp = false) (ball : ∀ b, k.blk b = false) (h : State.Keeps k s0 s) (a0 : Acc) (a1 : Word) (a2 : AccSize) (a3 : Word) :
    OutKeeps k s0 (execRegisterWrite a0 a1 a2 a3 s) := by
  unfold execRegisterWrite
  repeat' first
    | with_reducible assumption
    | refine OutKeeps.next ?_
    | with_reducible apply State.touch_keeps
    | with_reducible apply State.anyWrite_keeps

theorem execLowWordRead_keeps {s : State} (hlatch : k.latch = false) (hresp : k.resp = false) (ball : ∀ b, k.blk b = false) (h : State.Keeps k s0 s) (a0 : Acc) (a1 : Word) (a2 : AccSize) :
    OutKeeps k s0 (execLowWordRead a0 a1 a2 s) := by
  unfold execLowWordRead
  repeat' first
    | with_reducible assumption
    | refine OutKeeps.next ?_
    | with_reducible apply State.touch_keeps
    | with_reducible apply State.busRead_keeps

theorem execJtagExtest_keeps {s : State} (b23 : k.blk 23 = false) (h : State.Keeps k s0 s) :
    OutKeeps k s0 (execJtagExtest s) := by
  unfold execJtagExtest
  repeat' first
    | with_reducible assumption
    | refine OutKeeps.next ?_
    | with_reducible apply State.jtagCode_keeps

theorem execJtagSamplePreload_keeps {s : State} (b23 : k.blk 23 = false) (h : State.Keeps k s0 s) :
    OutKeeps k s0 (execJtagSamplePreload s) := by
  unfold execJtagSamplePreload
  repeat' first
    | with_reducible assumption
    | refine OutKeeps.next ?_
    | with_reducible apply State.jtagCode_keeps

theorem execJtagClamp_keeps {s : State} (b23 : k.blk 23 = false) (h : State.Keeps k s0 s) :
    OutKeeps k s0 (execJtagClamp s) := by
  unfold execJtagClamp
  repeat' first
    | with_reducible assumption
    | refine OutKeeps.next ?_
    | with_reducible apply State.jtagCode_keeps

theorem execJtagHighz_keeps {s : State} (b23 : k.blk 23 = false) (h : State.Keeps k s0 s) :
    OutKeeps k s0 (execJtagHighz s) := by
  unfold execJtagHighz
  repeat' first
    | with_reducible assumption
    | refine OutKeeps.next ?_
    | with_reducible apply State.jtagCode_keeps

theorem execJtagBypass_keeps {s : State} (b23 : k.blk 23 = false) (h : State.Keeps k s0 s) (a0 : Fin 256) :
    OutKeeps k s0 (execJtagBypass a0 s) := by
  unfold execJtagBypass
  repeat' first
    | with_reducible assumption
    | refine OutKeeps.next ?_
    | with_reducible apply State.jtagCode_keeps

theorem execJtagDebug_keeps {s : State} (b23 : k.blk 23 = false) (h : State.Keeps k s0 s) :
    OutKeeps k s0 (execJtagDebug s) := by
  unfold execJtagDebug
  repeat' first
    | with_reducible assumption
    | refine OutKeeps.next ?_
    | with_reducible apply State.jtagCode_keeps

theorem execTestLogicReset_keeps {s : State} (b23 : k.blk 23 = false) (h : State.Keeps k s0 s) :
    OutKeeps k s0 (execTestLogicReset s) := by
  unfold execTestLogicReset
  repeat' first
    | with_reducible assumption
    | refine OutKeeps.next ?_
    | with_reducible apply State.setIr_keeps

theorem execDbgaccRead_keeps {s : State} (hlatch : k.latch = false) (hresp : k.resp = false) (ball : ∀ b, k.blk b = false) (h : State.Keeps k s0 s) (a0 : Nat) (a1 : Word) :
    OutKeeps k s0 (execDbgaccRead a0 a1 s) := by
  unfold execDbgaccRead
  repeat' first
    | with_reducible assumption
    | (show Kept.blk _ _ = false; first | exact ball _)
    | (intro x hx; have := (hx : State.Keeps k s0 x))
    | refine OutKeeps.next ?_
    | with_reducible apply State.touch_keeps
    | with_reducible apply State.dbgAcc_keeps
    | with_reducible apply State.busRead_keeps

theorem execDbgaccWrite_keeps {s : State} (hmem : k.mem = false) (hcores : k.cores = false) (hlatch : k.latch = false) (hresp : k.resp = false) (ball : ∀ b, k.blk b = false) (h : State.Keeps k s0 s) (a0 : Nat) (a1 : Word) (a2 : Word) :
    OutKeeps k s0 (execDbgaccWrite a0 a1 a2 s) := by
  unfold execDbgaccWrite
  repeat' first
    | with_reducible assumption
    | (show Kept.blk _ _ = false; first | exact ball _)
    | (intro x hx; have := (hx : State.Keeps k s0 x))
    | refine OutKeeps.next ?_
    | with_reducible apply State.touch_keeps
    | with_reducible apply State.dbgAcc_keeps
    | with_reducible apply State.anyWrite_keeps

theorem execDebugHalt_keeps {s : State} (hmem : k.mem = false) (hcores : k.cores = false) (hlatch : k.latch = false) (hresp : k.resp = false) (ball : ∀ b, k.blk b = false) (h : State.Keeps k s0 s) (a0 : Acc) (a1 : Fin 2) :
    OutKeeps k s0 (execDebugHalt a0 a1 s) := by
  unfold execDebugHalt
  repeat' first
    | with_reducible assumption
    | refine OutKeeps.next ?_
    | with_reducible apply State.touch_keeps
    | with_reducible apply State.writeCoreCtrl_keeps

theorem execDebugResume_keeps {s : State} (hmem : k.mem = false) (hcores : k.cores = false) (hlatch : k.latch = false) (hresp : k.resp = false) (ball : ∀ b, k.blk b = false) (h : State.Keeps k s0 s) (a0 : Acc) (a1 : Fin 2) :
    OutKeeps k s0 (execDebugResume a0 a1 s) := by
  unfold execDebugResume
  repeat' first
    | with_reducible assumption
    | refine OutKeeps.next ?_
    | with_reducible apply State.touch_keeps
    | with_reducible apply State.writeCoreCtrl_keeps

theorem execDebugStep_keeps {s : State} (hmem : k.mem = false) (hcores : k.cores = false) (hlatch : k.latch = false) (hresp : k.resp = false) (ball : ∀ b, k.blk b = false) (h : State.Keeps k s0 s) (a0 : Acc) (a1 : Fin 2) :
    OutKeeps k s0 (execDebugStep a0 a1 s) := by
  unfold execDebugStep
  repeat' first
    | with_reducible assumption
    | refine OutKeeps.next ?_
    | with_reducible apply State.touch_keeps
    | with_reducible apply State.writeCoreCtrl_keeps

theorem execDbgPcWrite_keeps {s : State} (hcores : k.cores = false) (hresp : k.resp = false) (h : State.Keeps k s0 s) (a0 : Acc) (a1 : Fin 2) (a2 : Word) :
    OutKeeps k s0 (execDbgPcWrite a0 a1 a2 s) := by
  unfold execDbgPcWrite
  repeat' first
    | with_reducible assumption
    | refine OutKeeps.next ?_
    | with_reducible apply State.touch_keeps
    | with_reducible apply State.writeDbgPc_keeps

theorem execDbgGregWrite_keeps {s : State} (hcores : k.cores = false) (hresp : k.resp = false) (h : State.Keeps k s0 s) (a0 : Acc) (a1 : Fin 2) (a2 : Fin 32) (a3 : Word) :
    OutKeeps k s0 (execDbgGregWrite a0 a1 a2 a3 s) := by
  unfold execDbgGregWrite
  repeat' first
    | with_reducible assumption
    | refine OutKeeps.next ?_
    | with_reducible apply State.touch_keeps
    | with_reducible apply State.writeDbgReg_keeps

theorem execSpiHostRead_keeps {s : State} (hlatch : k.latch = false) (hresp : k.resp = false) (ball : ∀ b, k.blk b = false) (h : State.Keeps k s0 s) (a0 : Nat) (a1 : Word) :
    OutKeeps k s0 (execSpiHostRead a0 a1 s) := by
  unfold execSpiHostRead
  repeat' first
    | with_reducible assumption
    | (show Kept.blk _ _ = false; first | exact ball _)
    | (intro x hx; have := (hx : State.Keeps k s0 x))
    | refine OutKeeps.next ?_
    | with_reducible apply State.touch_keeps
    | with_reducible apply State.hostAccess_keeps
    | with_reducible apply State.busRead_keeps

theorem execSpiHostWrite_keeps {s : State} (hmem : k.mem = false) (hcores : k.cores = false) (hlatch : k.latch = false) (hresp : k.resp = false) (ball : ∀ b, k.blk b = false) (h : State.Keeps k s0 s) (a0 : Nat) (a1 : Word) (a2 : Word) :
    OutKeeps k s0 (execSpiHostWrite a0 a1 a2 s) := by
  unfold execSpiHostWrite
  repeat' first
    | with_reducible assumption
    | (show Kept.blk _ _ = false; first | exact ball _)
    | (intro x hx; have := (hx : State.Keeps k s0 x))
    | refine OutKeeps.next ?_
    | with_reducible apply State.touch_keeps
    | with_reducible apply State.hostAccess_keeps
    | with_reducible apply State.anyWrite_keeps

theorem execSpiHostCsRise_keeps {s : State} (hmem : k.mem = false) (hcores : k.cores = false) (hlatch : k.latch = false) (hresp : k.resp = false) (ball : ∀ b, k.blk b = false) (h : State.Keeps k s0 s) (a0 : Nat) (a1 : Bool) (a2 : Word) (a3 : Word) (a4 : Nat) :
    OutKeeps k s0 (execSpiHostCsRise a0 a1 a2 a3 a4 s) := by
  unfold execSpiHostCsRise
  repeat' first
    | with_reducible assumption
    | refine OutKeeps.next ?_
    | with_reducible apply State.touch_keeps
    | with_reducible apply State.hostRise_keeps

theorem execSpiHostOtherCommand_keeps {s : State} (b23 : k.blk 23 = false) (h : State.Keeps k s0 s) (a0 : Byte) :
    OutKeeps k s0 (execSpiHostOtherCommand a0 s) := by
  unfold execSpiHostOtherCommand
  repeat' first
    | with_reducible assumption
    | refine OutKeeps.next ?_
    | with_reducible refine Keeps.ite (P := State.Keeps _ _) ?_ ?_
    | (extract_lets -underBinder +onlyGivenNames x; unfold x; clear x)
    | (with_reducible refine Keeps.upd (h := ?_); first | with_reducible assumption | with_reducible refine Keeps.ite (P := State.Keeps _ _) ?_ ?_ | with_reducible refine Keeps.foldl (fun _ _ _ => ?_) ?_)

end Sys2Proof.Machine
end

