-- ==== Sys2Proof/Laws/Keeps/Image.lean ====
section
/-!
SUPPORT. Sys2Proof/Laws/Keeps/Image.lean: what each operation of Machine/Image.lean keeps.
-/

set_option Elab.async false

namespace Sys2Proof.Machine

set_option linter.tactic.unusedName false

variable {k : Kept} {s0 : State}

theorem State.holdStart_keeps {s : State} (b21 : k.blk 21 = false) (b24 : k.blk 24 = false) (h : State.Keeps k s0 s) :
    State.Keeps k s0 (State.holdStart s) := by
  unfold State.holdStart
  repeat' first
    | with_reducible assumption
    | (with_reducible show Fld.Listed _; decide)
    | (show Kept.blk _ _ = false; first | exact b21 | exact b24)
    | (extract_lets -underBinder +onlyGivenNames x; refine Keeps.cut (k := k) (s0 := s0) (x := x) ?_ ?_ <;> first | (intro _; revert x; intro _ _) | (unfold x; clear x))
    | (extract_lets -underBinder +onlyGivenNames x; unfold x; clear x)
    | with_reducible apply State.set_keeps
    | (with_reducible refine Keeps.upd (h := ?_); first | with_reducible assumption | with_reducible apply State.set_keeps | with_reducible refine Keeps.ite (P := State.Keeps _ _) ?_ ?_ | with_reducible refine Keeps.foldl (fun _ _ _ => ?_) ?_)

theorem State.reject_keeps {s : State} (b24 : k.blk 24 = false) (h : State.Keeps k s0 s) (a1 : Bool) (a2 : Rej) :
    State.Keeps k s0 (State.reject s a1 a2) := by
  unfold State.reject
  repeat' first
    | with_reducible assumption
    | (with_reducible show Fld.Listed _; decide)
    | (show Kept.blk _ _ = false; first | exact b24)
    | (extract_lets -underBinder +onlyGivenNames x; refine Keeps.cut (k := k) (s0 := s0) (x := x) ?_ ?_ <;> first | (intro _; revert x; intro _ _) | (unfold x; clear x))
    | (extract_lets -underBinder +onlyGivenNames x; unfold x; clear x)
    | with_reducible apply State.set_keeps

theorem State.katFailed_keeps {s : State} (b0 : k.blk 0 = false) (b5 : k.blk 5 = false) (b6 : k.blk 6 = false) (b11 : k.blk 11 = false) (b12 : k.blk 12 = false) (b13 : k.blk 13 = false) (b18 : k.blk 18 = false) (b20 : k.blk 20 = false) (b21 : k.blk 21 = false) (b22 : k.blk 22 = false) (b24 : k.blk 24 = false) (h : State.Keeps k s0 s) :
    State.Keeps k s0 (State.katFailed s) := by
  unfold State.katFailed
  repeat' first
    | with_reducible assumption
    | (with_reducible show Fld.Listed _; decide)
    | (show Kept.blk _ _ = false; first | exact b0 | exact b5 | exact b6 | exact b11 | exact b12 | exact b13 | exact b18 | exact b20 | exact b21 | exact b22 | exact b24)
    | (extract_lets -underBinder +onlyGivenNames x; refine Keeps.cut (k := k) (s0 := s0) (x := x) ?_ ?_ <;> first | (intro _; revert x; intro _ _) | (unfold x; clear x))
    | (extract_lets -underBinder +onlyGivenNames x; unfold x; clear x)
    | with_reducible apply State.set_keeps
    | with_reducible apply State.holdStart_keeps
    | with_reducible apply State.reject_keeps
    | with_reducible apply State.faultF4_keeps
    | (with_reducible refine Keeps.upd (h := ?_); first | with_reducible assumption | with_reducible apply State.holdStart_keeps | with_reducible apply State.reject_keeps | with_reducible apply State.faultF4_keeps | with_reducible apply State.set_keeps | with_reducible refine Keeps.ite (P := State.Keeps _ _) ?_ ?_ | with_reducible refine Keeps.foldl (fun _ _ _ => ?_) ?_)

theorem State.headersRead_keeps {s : State} (b0 : k.blk 0 = false) (b5 : k.blk 5 = false) (b6 : k.blk 6 = false) (b11 : k.blk 11 = false) (b12 : k.blk 12 = false) (b13 : k.blk 13 = false) (b18 : k.blk 18 = false) (b20 : k.blk 20 = false) (b21 : k.blk 21 = false) (b22 : k.blk 22 = false) (b24 : k.blk 24 = false) (h : State.Keeps k s0 s) (a1 : NorView) (a2 : Bool) :
    State.Keeps k s0 (State.headersRead s a1 a2) := by
  unfold State.headersRead
  have hi : State.Keeps k s0 { s with img := { nor := a1, readCmd := (fetchCmd 0).1, readMhz := (fetchCmd 0).2 } } :=
    Keeps.upd (h := h)
  split
  · exact h
  · split
    · exact State.katFailed_keeps b0 b5 b6 b11 b12 b13 b18 b20 b21 b22 b24 hi
    · have hs := State.setFlag_keeps  (State.startStep_keeps b0 hi 2) Fld.VST_STATUS_SLOTB 0 (a1.sfdp && a1.big) (by decide) (by first | exact b0 | exact b5 | exact b6 | exact b12 | exact b13 | exact b18 | exact b20 | exact b21 | exact b22 | exact b24)
      have hc : State.Keeps k s0 { ((State.startStep { s with img := { nor := a1, readCmd := (fetchCmd 0).1, readMhz := (fetchCmd 0).2 } } 2).setFlag Fld.VST_STATUS_SLOTB 0
          (a1.sfdp && a1.big)) with chn := { ((State.startStep { s with img := { nor := a1, readCmd := (fetchCmd 0).1, readMhz := (fetchCmd 0).2 } } 2).setFlag
            Fld.VST_STATUS_SLOTB 0 (a1.sfdp && a1.big)).chn with katPending := true } } :=
        Keeps.upd (h := hs)
      split
      · exact State.holdStart_keeps b21 b24 (State.reject_keeps b24 hc _ _)
      · exact Keeps.upd (h := hc)

theorem State.failSlot_keeps {s : State} (b21 : k.blk 21 = false) (b24 : k.blk 24 = false) (h : State.Keeps k s0 s) (a1 : Rej) :
    State.Keeps k s0 (State.failSlot s a1) := by
  unfold State.failSlot
  repeat' first
    | with_reducible assumption
    | (with_reducible show Fld.Listed _; decide)
    | (show Kept.blk _ _ = false; first | exact b21 | exact b24)
    | with_reducible refine Keeps.ite (P := State.Keeps _ _) ?_ ?_
    | (extract_lets -underBinder +onlyGivenNames x; unfold x; clear x)
    | with_reducible apply State.reject_keeps
    | with_reducible apply State.holdStart_keeps
    | (with_reducible refine Keeps.upd (h := ?_); first | with_reducible assumption | with_reducible apply State.reject_keeps | with_reducible apply State.holdStart_keeps | with_reducible apply State.set_keeps | with_reducible refine Keeps.ite (P := State.Keeps _ _) ?_ ?_ | with_reducible refine Keeps.foldl (fun _ _ _ => ?_) ?_)
    | split

theorem State.stageFw_keeps {s : State} (hmem : k.mem = false) (b0 : k.blk 0 = false) (h : State.Keeps k s0 s) (a1 : List Rec) :
    State.Keeps k s0 (State.stageFw s a1) := by
  unfold State.stageFw
  refine Keeps.upd (h := ?_)
  exact Keeps.foldl (fun x r hx => State.setBytes_keeps hmem hx _ _)
    (Keeps.memory hmem h (fun w => Table.wf_filter memDefault _ _ w))

theorem State.imageFetched_keeps {s : State} (hmem : k.mem = false) (b0 : k.blk 0 = false) (b21 : k.blk 21 = false) (b24 : k.blk 24 = false) (h : State.Keeps k s0 s) :
    State.Keeps k s0 (State.imageFetched s) := by
  unfold State.imageFetched
  repeat' first
    | with_reducible assumption
    | (with_reducible show Fld.Listed _; decide)
    | (show Kept.blk _ _ = false; first | exact b0 | exact b21 | exact b24)
    | with_reducible refine Keeps.ite (P := State.Keeps _ _) ?_ ?_
    | (extract_lets -underBinder +onlyGivenNames x; refine Keeps.cut (k := k) (s0 := s0) (x := x) ?_ ?_ <;> first | (intro _; revert x; intro _ _) | (unfold x; clear x))
    | (extract_lets -underBinder +onlyGivenNames x; unfold x; clear x)
    | with_reducible apply State.failSlot_keeps
    | with_reducible apply State.startStep_keeps
    | with_reducible apply State.set_keeps
    | with_reducible apply State.stageFw_keeps
    | (with_reducible refine Keeps.upd (h := ?_); first | with_reducible assumption | with_reducible apply State.failSlot_keeps | with_reducible apply State.startStep_keeps | with_reducible apply State.set_keeps | with_reducible apply State.stageFw_keeps | with_reducible refine Keeps.ite (P := State.Keeps _ _) ?_ ?_ | with_reducible refine Keeps.foldl (fun _ _ _ => ?_) ?_)
    | split

theorem State.loadImage_keeps {s : State} (b0 : k.blk 0 = false) (b24 : k.blk 24 = false) (h : State.Keeps k s0 s) (a1 : Bool) (a2 : NorSlot) (a3 : List (Nat × List Patch)) :
    State.Keeps k s0 (State.loadImage s a1 a2 a3) := by
  unfold State.loadImage
  repeat' first
    | with_reducible assumption
    | (with_reducible show Fld.Listed _; decide)
    | (show Kept.blk _ _ = false; first | exact b0 | exact b24)
    | (extract_lets -underBinder +onlyGivenNames x; refine Keeps.cut (k := k) (s0 := s0) (x := x) ?_ ?_ <;> first | (intro _; revert x; intro _ _) | (unfold x; clear x))
    | (extract_lets -underBinder +onlyGivenNames x; unfold x; clear x)
    | with_reducible refine Keeps.foldl (fun _ _ _ => ?_) ?_
    | with_reducible apply State.set_keeps
    | with_reducible apply State.setFlag_keeps
    | with_reducible apply State.startStep_keeps
    | (with_reducible refine Keeps.upd (h := ?_); first | with_reducible assumption | with_reducible apply State.setFlag_keeps | with_reducible apply State.startStep_keeps | with_reducible apply State.set_keeps | with_reducible refine Keeps.ite (P := State.Keeps _ _) ?_ ?_ | with_reducible refine Keeps.foldl (fun _ _ _ => ?_) ?_)

theorem State.signatureVerified_keeps {s : State} (b0 : k.blk 0 = false) (b21 : k.blk 21 = false) (b24 : k.blk 24 = false) (h : State.Keeps k s0 s) :
    State.Keeps k s0 (State.signatureVerified s) := by
  unfold State.signatureVerified
  repeat' first
    | with_reducible assumption
    | with_reducible refine Keeps.ite (P := State.Keeps _ _) ?_ ?_
    | (extract_lets -underBinder +onlyGivenNames x; unfold x; clear x)
    | with_reducible apply State.failSlot_keeps
    | with_reducible apply State.loadImage_keeps
    | split

theorem State.katDone_keeps {s : State} (b0 : k.blk 0 = false) (b5 : k.blk 5 = false) (b6 : k.blk 6 = false) (b11 : k.blk 11 = false) (b12 : k.blk 12 = false) (b13 : k.blk 13 = false) (b18 : k.blk 18 = false) (b20 : k.blk 20 = false) (b21 : k.blk 21 = false) (b22 : k.blk 22 = false) (b24 : k.blk 24 = false) (h : State.Keeps k s0 s) (a1 : Bool) :
    State.Keeps k s0 (State.katDone s a1) := by
  unfold State.katDone
  repeat' first
    | with_reducible assumption
    | with_reducible refine Keeps.ite (P := State.Keeps _ _) ?_ ?_
    | (extract_lets -underBinder +onlyGivenNames x; unfold x; clear x)
    | with_reducible apply State.katFailed_keeps
    | (with_reducible refine Keeps.upd (h := ?_); first | with_reducible assumption | with_reducible apply State.katFailed_keeps | with_reducible refine Keeps.ite (P := State.Keeps _ _) ?_ ?_ | with_reducible refine Keeps.foldl (fun _ _ _ => ?_) ?_)

theorem execSlotHeadersRead_keeps {s : State} (b0 : k.blk 0 = false) (b5 : k.blk 5 = false) (b6 : k.blk 6 = false) (b11 : k.blk 11 = false) (b12 : k.blk 12 = false) (b13 : k.blk 13 = false) (b18 : k.blk 18 = false) (b20 : k.blk 20 = false) (b21 : k.blk 21 = false) (b22 : k.blk 22 = false) (b24 : k.blk 24 = false) (h : State.Keeps k s0 s) (a0 : NorView) (a1 : Bool) (a2 : Bool) (a3 : Bool) :
    OutKeeps k s0 (execSlotHeadersRead a0 a1 a2 a3 s) := by
  unfold execSlotHeadersRead
  repeat' first
    | with_reducible assumption
    | refine OutKeeps.next ?_
    | with_reducible apply State.headersRead_keeps

theorem execImageFetched_keeps {s : State} (hmem : k.mem = false) (b0 : k.blk 0 = false) (b21 : k.blk 21 = false) (b24 : k.blk 24 = false) (h : State.Keeps k s0 s) :
    OutKeeps k s0 (execImageFetched s) := by
  unfold execImageFetched
  repeat' first
    | with_reducible assumption
    | refine OutKeeps.next ?_
    | with_reducible apply State.imageFetched_keeps

theorem execSignatureVerified_keeps {s : State} (b0 : k.blk 0 = false) (b21 : k.blk 21 = false) (b24 : k.blk 24 = false) (h : State.Keeps k s0 s) :
    OutKeeps k s0 (execSignatureVerified s) := by
  unfold execSignatureVerified
  repeat' first
    | with_reducible assumption
    | refine OutKeeps.next ?_
    | with_reducible apply State.signatureVerified_keeps

theorem execKatEcdsaDone_keeps {s : State} (b0 : k.blk 0 = false) (b5 : k.blk 5 = false) (b6 : k.blk 6 = false) (b11 : k.blk 11 = false) (b12 : k.blk 12 = false) (b13 : k.blk 13 = false) (b18 : k.blk 18 = false) (b20 : k.blk 20 = false) (b21 : k.blk 21 = false) (b22 : k.blk 22 = false) (b24 : k.blk 24 = false) (h : State.Keeps k s0 s) (a0 : Bool) :
    OutKeeps k s0 (execKatEcdsaDone a0 s) := by
  unfold execKatEcdsaDone
  repeat' first
    | with_reducible assumption
    | refine OutKeeps.next ?_
    | with_reducible apply State.katDone_keeps

end Sys2Proof.Machine
end

