-- ==== Sys2Proof/Laws/Keeps/ModeApply.lean ====
section
/-!
SUPPORT. Sys2Proof/Laws/Keeps/ModeApply.lean: what each operation of Machine/ModeApply.lean keeps.
-/

set_option Elab.async false

namespace Sys2Proof.Machine

set_option linter.tactic.unusedName false

variable {k : Kept} {s0 : State}

theorem State.rebuildConv_keeps {s : State} (b5 : k.blk 5 = false) (h : State.Keeps k s0 s) (a1 : Nat) (a2 : Nat) :
    State.Keeps k s0 (State.rebuildConv s a1 a2) := by
  unfold State.rebuildConv
  repeat' first
    | with_reducible assumption
    | (show Kept.blk _ _ = false; first | exact b5)
    | (extract_lets -underBinder +onlyGivenNames x; unfold x; clear x)
    | with_reducible apply State.setConv_keeps
    | split

theorem State.applyConv_keeps {s : State} (ball : ∀ b, k.blk b = false) (h : State.Keeps k s0 s) (a1 : Cfg) (a2 : Rec) (a3 : Nat) :
    State.Keeps k s0 (State.applyConv s a1 a2 a3) := by
  unfold State.applyConv
  repeat' first
    | with_reducible assumption
    | (with_reducible show Fld.Listed _; decide)
    | (show Kept.blk _ _ = false; first | exact ball _)
    | with_reducible refine Keeps.ite (P := State.Keeps _ _) ?_ ?_
    | (extract_lets -underBinder +onlyGivenNames x; refine Keeps.cut (k := k) (s0 := s0) (x := x) ?_ ?_ <;> first | (intro _; revert x; intro _ _) | (unfold x; clear x))
    | (extract_lets -underBinder +onlyGivenNames x; unfold x; clear x)
    | with_reducible apply State.loadRec_keeps
    | with_reducible apply State.set_keeps
    | with_reducible apply State.scheduleStart_keeps
    | with_reducible apply State.commitSet_keeps
    | with_reducible apply State.rebuildConv_keeps
    | split

theorem State.applyLoc_keeps {s : State} (ball : ∀ b, k.blk b = false) (h : State.Keeps k s0 s) (a1 : Cfg) (a2 : Rec) (a3 : Nat) :
    State.Keeps k s0 (State.applyLoc s a1 a2 a3) := by
  unfold State.applyLoc
  repeat' first
    | with_reducible assumption
    | (with_reducible show Fld.Listed _; decide)
    | (show Kept.blk _ _ = false; first | exact ball _)
    | with_reducible refine Keeps.ite (P := State.Keeps _ _) ?_ ?_
    | (extract_lets -underBinder +onlyGivenNames x; refine Keeps.cut (k := k) (s0 := s0) (x := x) ?_ ?_ <;> first | (intro _; revert x; intro _ _) | (unfold x; clear x))
    | (extract_lets -underBinder +onlyGivenNames x; unfold x; clear x)
    | with_reducible apply State.loadRec_keeps
    | with_reducible apply State.set_keeps
    | with_reducible apply State.locStart_keeps
    | with_reducible apply State.locCommitSet_keeps
    | split

theorem State.applyTrip_keeps {s : State} (ball : ∀ b, k.blk b = false) (h : State.Keeps k s0 s) (a1 : Rec) (a2 : Nat) :
    State.Keeps k s0 (State.applyTrip s a1 a2) := by
  unfold State.applyTrip
  repeat' first
    | with_reducible assumption
    | (show Kept.blk _ _ = false; first | exact ball _)
    | with_reducible refine Keeps.ite (P := State.Keeps _ _) ?_ ?_
    | (extract_lets -underBinder +onlyGivenNames x; refine Keeps.cut (k := k) (s0 := s0) (x := x) ?_ ?_ <;> first | (intro _; revert x; intro _ _) | (unfold x; clear x))
    | (extract_lets -underBinder +onlyGivenNames x; unfold x; clear x)
    | with_reducible apply State.loadRec_keeps
    | with_reducible apply State.setTrip_keeps

theorem State.applyTracker_keeps {s : State} (ball : ∀ b, k.blk b = false) (h : State.Keeps k s0 s) (a1 : Rec) :
    State.Keeps k s0 (State.applyTracker s a1) := by
  unfold State.applyTracker
  repeat' first
    | with_reducible assumption
    | (with_reducible show Fld.Listed _; decide)
    | (show Kept.blk _ _ = false; first | exact ball _)
    | with_reducible refine Keeps.ite (P := State.Keeps _ _) ?_ ?_
    | (extract_lets -underBinder +onlyGivenNames x; refine Keeps.cut (k := k) (s0 := s0) (x := x) ?_ ?_ <;> first | (intro _; revert x; intro _ _) | (unfold x; clear x))
    | (extract_lets -underBinder +onlyGivenNames x; unfold x; clear x)
    | with_reducible apply State.loadRec_keeps
    | with_reducible apply State.coastBase_keeps
    | with_reducible apply State.setRate_keeps
    | with_reducible apply State.set64_keeps
    | with_reducible apply State.trkEvent_keeps
    | with_reducible apply State.setTrk_keeps
    | (with_reducible refine Keeps.upd (h := ?_); first | with_reducible assumption | with_reducible apply State.loadRec_keeps | with_reducible apply State.coastBase_keeps | with_reducible apply State.setRate_keeps | with_reducible apply State.set64_keeps | with_reducible apply State.trkEvent_keeps | with_reducible apply State.setTrk_keeps | with_reducible refine Keeps.ite (P := State.Keeps _ _) ?_ ?_ | with_reducible refine Keeps.foldl (fun _ _ _ => ?_) ?_)

theorem State.applySlot_keeps {s : State} (ball : ∀ b, k.blk b = false) (h : State.Keeps k s0 s) (a1 : Rec) :
    State.Keeps k s0 (State.applySlot s a1) := by
  unfold State.applySlot
  repeat' first
    | with_reducible assumption
    | (show Kept.blk _ _ = false; first | exact ball _)
    | with_reducible refine Keeps.ite (P := State.Keeps _ _) ?_ ?_
    | with_reducible apply State.loadSlot_keeps
    | with_reducible apply State.loadRec_keeps
    | with_reducible apply State.slotGo_keeps
    | with_reducible apply State.slotArm_keeps

theorem State.applyCmp_keeps {s : State} (ball : ∀ b, k.blk b = false) (h : State.Keeps k s0 s) (a1 : Rec) (a2 : Nat) :
    State.Keeps k s0 (State.applyCmp s a1 a2) := by
  unfold State.applyCmp
  repeat' first
    | with_reducible assumption
    | (show Kept.blk _ _ = false; first | exact ball _)
    | with_reducible refine Keeps.ite (P := State.Keeps _ _) ?_ ?_
    | (extract_lets -underBinder +onlyGivenNames x; refine Keeps.cut (k := k) (s0 := s0) (x := x) ?_ ?_ <;> first | (intro _; revert x; intro _ _) | (unfold x; clear x))
    | (extract_lets -underBinder +onlyGivenNames x; unfold x; clear x)
    | with_reducible apply State.loadRec_keeps
    | with_reducible apply State.rampEnd_keeps
    | with_reducible apply State.setCmp_keeps
    | with_reducible apply State.cmpModeHold_keeps
    | with_reducible apply State.cmpLevel_keeps

theorem State.applyRec_keeps {s : State} (ball : ∀ b, k.blk b = false) (h : State.Keeps k s0 s) (a1 : Cfg) (a2 : Rec) (a3 : Nat) :
    State.Keeps k s0 (State.applyRec s a1 a2 a3) := by
  unfold State.applyRec
  repeat' first
    | with_reducible assumption
    | (show Kept.blk _ _ = false; first | exact ball _)
    | with_reducible apply State.applyConv_keeps
    | with_reducible apply State.applyLoc_keeps
    | with_reducible apply State.applyTrip_keeps
    | with_reducible apply State.applyTracker_keeps
    | with_reducible apply State.applySlot_keeps
    | with_reducible apply State.applyCmp_keeps
    | with_reducible apply State.gridModeApply_keeps
    | with_reducible apply State.loadRec_keeps
    | with_reducible apply State.mpptModeApply_keeps
    | split

theorem State.unitSlots_keeps {s : State} (b4 : k.blk 4 = false) (b18 : k.blk 18 = false) (h : State.Keeps k s0 s) (a1 : Cfg) (a2 : List Nat) (a3 : Nat) :
    State.Keeps k s0 (State.unitSlots s a1 a2 a3) := by
  unfold State.unitSlots
  repeat' first
    | with_reducible assumption
    | (with_reducible show Fld.Listed _; decide)
    | (show Kept.blk _ _ = false; first | exact b4 | exact b18)
    | with_reducible refine Keeps.foldl (fun _ _ _ => ?_) ?_
    | with_reducible apply State.slotEvent_keeps
    | with_reducible apply State.slotGo_keeps

theorem State.sendCfg_keeps {s : State} (b6 : k.blk 6 = false) (h : State.Keeps k s0 s) (a1 : State) (a2 : Nat) :
    State.Keeps k s0 (State.sendCfg s a1 a2) := by
  unfold State.sendCfg
  repeat' first
    | with_reducible assumption
    | with_reducible refine Keeps.ite (P := State.Keeps _ _) ?_ ?_
    | with_reducible refine Keeps.foldl (fun _ _ _ => ?_) ?_
    | with_reducible apply State.mgmt_keeps

theorem State.applyCfg_keeps {s : State} (ball : ∀ b, k.blk b = false) (h : State.Keeps k s0 s) (a1 : Cfg) (a2 : Nat) :
    State.Keeps k s0 (State.applyCfg s a1 a2) := by
  unfold State.applyCfg
  repeat' first
    | with_reducible assumption
    | (show Kept.blk _ _ = false; first | exact ball _)
    | (extract_lets -underBinder +onlyGivenNames x; refine Keeps.cut (k := k) (s0 := s0) (x := x) ?_ ?_ <;> first | (intro _; revert x; intro _ _) | (unfold x; clear x))
    | (extract_lets -underBinder +onlyGivenNames x; unfold x; clear x)
    | with_reducible refine Keeps.foldl (fun _ _ _ => ?_) ?_
    | with_reducible apply State.applyRec_keeps
    | with_reducible apply State.leaveWakes_keeps
    | with_reducible apply State.loadClaims_keeps
    | with_reducible apply State.loadBrakes_keeps
    | with_reducible apply State.loadLegs_keeps
    | with_reducible apply State.loadOwners_keeps
    | with_reducible apply State.unitSlots_keeps
    | with_reducible apply State.brkDac_keeps
    | with_reducible apply State.sendCfg_keeps
    | (with_reducible refine Keeps.upd (h := ?_); first | with_reducible assumption | with_reducible apply State.applyRec_keeps | with_reducible apply State.leaveWakes_keeps | with_reducible apply State.loadClaims_keeps | with_reducible apply State.loadBrakes_keeps | with_reducible apply State.loadLegs_keeps | with_reducible apply State.loadOwners_keeps | with_reducible apply State.unitSlots_keeps | with_reducible apply State.brkDac_keeps | with_reducible apply State.sendCfg_keeps | with_reducible refine Keeps.ite (P := State.Keeps _ _) ?_ ?_ | with_reducible refine Keeps.foldl (fun _ _ _ => ?_) ?_)

theorem State.fnDisable_keeps {s : State} (b12 : k.blk 12 = false) (b13 : k.blk 13 = false) (b18 : k.blk 18 = false) (b20 : k.blk 20 = false) (h : State.Keeps k s0 s) (a1 : Nat) :
    State.Keeps k s0 (State.fnDisable s a1) := by
  unfold State.fnDisable
  repeat' first
    | with_reducible assumption
    | with_reducible refine Keeps.ite (P := State.Keeps _ _) ?_ ?_
    | with_reducible apply State.gridDisable_keeps
    | with_reducible apply State.mpptDisable_keeps
    | with_reducible apply State.axsDisable_keeps

theorem State.switchUnits_keeps {s : State} (b5 : k.blk 5 = false) (b6 : k.blk 6 = false) (b12 : k.blk 12 = false) (b13 : k.blk 13 = false) (b15 : k.blk 15 = false) (b18 : k.blk 18 = false) (b20 : k.blk 20 = false) (h : State.Keeps k s0 s) (a1 : Nat) :
    State.Keeps k s0 (State.switchUnits s a1) := by
  unfold State.switchUnits
  repeat' first
    | with_reducible assumption
    | (extract_lets -underBinder +onlyGivenNames x; refine Keeps.cut (k := k) (s0 := s0) (x := x) ?_ ?_ <;> first | (intro _; revert x; intro _ _) | (unfold x; clear x))
    | with_reducible refine Keeps.foldl (fun _ _ _ => ?_) ?_
    | with_reducible apply State.fnDisable_keeps
    | with_reducible apply State.convDisable_keeps
    | with_reducible apply State.locDisable_keeps
    | with_reducible apply State.fnStart_keeps

theorem State.modeApply_keeps {s : State} (ball : ∀ b, k.blk b = false) (h : State.Keeps k s0 s) (a1 : Nat) :
    State.Keeps k s0 (State.modeApply s a1) := by
  unfold State.modeApply
  repeat' first
    | with_reducible assumption
    | (with_reducible show Fld.Listed _; decide)
    | (show Kept.blk _ _ = false; first | exact ball _)
    | with_reducible refine Keeps.ite (P := State.Keeps _ _) ?_ ?_
    | (extract_lets -underBinder +onlyGivenNames x; refine Keeps.cut (k := k) (s0 := s0) (x := x) ?_ ?_ <;> first | (intro _; revert x; intro _ _) | (unfold x; clear x))
    | (extract_lets -underBinder +onlyGivenNames x; unfold x; clear x)
    | with_reducible apply State.set_keeps
    | with_reducible apply State.applyCfg_keeps
    | with_reducible apply State.clearPend_keeps
    | with_reducible apply State.raise_keeps
    | with_reducible apply State.switchUnits_keeps
    | with_reducible apply State.setFlag_keeps
    | with_reducible apply State.set64_keeps
    | with_reducible apply State.closeOpWith_keeps
    | with_reducible apply State.modeResult_keeps
    | split

theorem execModeApply_keeps {s : State} (ball : ∀ b, k.blk b = false) (h : State.Keeps k s0 s) (a0 : Nat) :
    OutKeeps k s0 (execModeApply a0 s) := by
  unfold execModeApply
  repeat' first
    | with_reducible assumption
    | refine OutKeeps.next ?_
    | with_reducible apply State.touch_keeps
    | with_reducible apply State.modeApply_keeps

end Sys2Proof.Machine
end

