-- ==== Sys2Proof/Laws/Keeps/TwillPass.lean ====
section
/-!
SUPPORT. Sys2Proof/Laws/Keeps/TwillPass.lean: what each operation of Machine/TwillPass.lean keeps.
-/

set_option Elab.async false

namespace Sys2Proof.Machine

set_option linter.tactic.unusedName false

variable {k : Kept} {s0 : State}

theorem State.gpioAction_keeps {s : State} (b18 : k.blk 18 = false) (h : State.Keeps k s0 s) (a1 : Nat) :
    State.Keeps k s0 (State.gpioAction s a1) := by
  unfold State.gpioAction
  repeat' first
    | with_reducible assumption
    | (extract_lets -underBinder +onlyGivenNames x; unfold x; clear x)
    | with_reducible apply State.drivePin_keeps

theorem State.slotAction_keeps {s : State} (b0 : k.blk 0 = false) (b5 : k.blk 5 = false) (b6 : k.blk 6 = false) (b9 : k.blk 9 = false) (b11 : k.blk 11 = false) (b16 : k.blk 16 = false) (b17 : k.blk 17 = false) (b18 : k.blk 18 = false) (b20 : k.blk 20 = false) (h : State.Keeps k s0 s) (a1 : Nat) (a2 : Nat) :
    State.Keeps k s0 (State.slotAction s a1 a2) := by
  unfold State.slotAction
  repeat' first
    | with_reducible assumption
    | with_reducible refine Keeps.ite (P := State.Keeps _ _) ?_ ?_
    | (extract_lets -underBinder +onlyGivenNames x; unfold x; clear x)
    | with_reducible apply State.adcTwill_keeps
    | with_reducible apply State.locRequest_keeps
    | with_reducible apply State.edgeRequest_keeps
    | with_reducible apply State.raise_keeps
    | with_reducible apply State.modeRequest_keeps
    | with_reducible apply State.beaconOpen_keeps
    | with_reducible apply State.mtrSnapshot_keeps
    | with_reducible apply State.gpioAction_keeps
    | split

theorem State.actionCycle_keeps {s : State} (b4 : k.blk 4 = false) (h : State.Keeps k s0 s) (a1 : Nat) :
    State.Keeps k s0 (State.actionCycle s a1).2 := by
  unfold State.actionCycle
  repeat' first
    | with_reducible assumption
    | (show Kept.blk _ _ = false; first | exact b4)
    | with_reducible refine Keeps.ite (P := State.Keeps _ _) ?_ ?_
    | (extract_lets -underBinder +onlyGivenNames x; unfold x; clear x)
    | (with_reducible refine Keeps.upd (h := ?_); first | with_reducible assumption | with_reducible refine Keeps.ite (P := State.Keeps _ _) ?_ ?_ | with_reducible refine Keeps.foldl (fun _ _ _ => ?_) ?_)
    | split

theorem State.noteLate_keeps {s : State} (b4 : k.blk 4 = false) (b18 : k.blk 18 = false) (h : State.Keeps k s0 s) (a1 : Nat) (a2 : Nat) :
    State.Keeps k s0 (State.noteLate s a1 a2) := by
  unfold State.noteLate
  repeat' first
    | with_reducible assumption
    | (with_reducible show Fld.Listed _; decide)
    | (show Kept.blk _ _ = false; first | exact b4 | exact b18)
    | (extract_lets -underBinder +onlyGivenNames x; refine Keeps.cut (k := k) (s0 := s0) (x := x) ?_ ?_ <;> first | (intro _; revert x; intro _ _) | (unfold x; clear x))
    | with_reducible apply State.set_keeps
    | with_reducible apply State.bump_keeps
    | with_reducible apply State.slotEvent_keeps

theorem State.slotAfter_keeps {s : State} (b4 : k.blk 4 = false) (b18 : k.blk 18 = false) (h : State.Keeps k s0 s) (a1 : Nat) (a2 : Nat) :
    State.Keeps k s0 (State.slotAfter s a1 a2) := by
  unfold State.slotAfter
  repeat' first
    | with_reducible assumption
    | (show Kept.blk _ _ = false; first | exact b4 | exact b18)
    | with_reducible refine Keeps.ite (P := State.Keeps _ _) ?_ ?_
    | (extract_lets -underBinder +onlyGivenNames x; refine Keeps.cut (k := k) (s0 := s0) (x := x) ?_ ?_ <;> first | (intro _; revert x; intro _ _) | (unfold x; clear x))
    | (extract_lets -underBinder +onlyGivenNames x; unfold x; clear x)
    | with_reducible apply State.skips_keeps
    | with_reducible apply State.stepTgt_keeps
    | with_reducible apply State.slotGo_keeps
    | with_reducible apply State.setSlot_keeps

theorem State.slotFire_keeps {s : State} (b0 : k.blk 0 = false) (b4 : k.blk 4 = false) (b5 : k.blk 5 = false) (b6 : k.blk 6 = false) (b9 : k.blk 9 = false) (b10 : k.blk 10 = false) (b11 : k.blk 11 = false) (b16 : k.blk 16 = false) (b17 : k.blk 17 = false) (b18 : k.blk 18 = false) (b20 : k.blk 20 = false) (h : State.Keeps k s0 s) (a1 : Nat) (a2 : Nat) (a3 : Option Nat) (a4 : Nat) :
    State.Keeps k s0 (State.slotFire s a1 a2 a3 a4) := by
  unfold State.slotFire
  repeat' first
    | with_reducible assumption
    | (show Kept.blk _ _ = false; first | exact b0 | exact b4 | exact b5 | exact b6 | exact b9 | exact b10 | exact b11 | exact b16 | exact b17 | exact b18 | exact b20)
    | with_reducible refine Keeps.ite (P := State.Keeps _ _) ?_ ?_
    | (extract_lets -underBinder +onlyGivenNames x; refine Keeps.cut (k := k) (s0 := s0) (x := x) ?_ ?_ <;> first | (intro _; revert x; intro _ _) | (unfold x; clear x))
    | (extract_lets -underBinder +onlyGivenNames x; refine Keeps.cut (k := k) (s0 := s0) (x := x.2) ?_ ?_ <;> first | (intro _; revert x; intro _ _) | (unfold x; clear x))
    | (extract_lets -underBinder +onlyGivenNames x; unfold x; clear x)
    | with_reducible apply State.actionCycle_keeps
    | with_reducible apply State.noteLate_keeps
    | with_reducible apply State.lsnLatch_keeps
    | with_reducible apply State.slotAction_keeps
    | with_reducible apply State.slotAfter_keeps
    | split
    | with_reducible refine Keeps.snd (by assumption) ?_

theorem State.passSlot_keeps {s : State} (b0 : k.blk 0 = false) (b4 : k.blk 4 = false) (b5 : k.blk 5 = false) (b6 : k.blk 6 = false) (b9 : k.blk 9 = false) (b10 : k.blk 10 = false) (b11 : k.blk 11 = false) (b16 : k.blk 16 = false) (b17 : k.blk 17 = false) (b18 : k.blk 18 = false) (b20 : k.blk 20 = false) (h : State.Keeps k s0 s) (a1 : Nat) (a2 : Nat) :
    State.Keeps k s0 (State.passSlot s a1 a2) := by
  unfold State.passSlot
  repeat' first
    | with_reducible assumption
    | with_reducible refine Keeps.ite (P := State.Keeps _ _) ?_ ?_
    | (extract_lets -underBinder +onlyGivenNames x; refine Keeps.cut (k := k) (s0 := s0) (x := x) ?_ ?_ <;> first | (intro _; revert x; intro _ _) | (unfold x; clear x))
    | (extract_lets -underBinder +onlyGivenNames x; unfold x; clear x)
    | with_reducible apply State.takeNew_keeps
    | with_reducible apply State.slotFire_keeps
    | with_reducible apply State.predictSlot_keeps
    | with_reducible apply State.setSlot_keeps

theorem State.notePrev_keeps {s : State} (b3 : k.blk 3 = false) (h : State.Keeps k s0 s) :
    State.Keeps k s0 (State.notePrev s) := by
  unfold State.notePrev
  repeat' first
    | with_reducible assumption
    | with_reducible refine Keeps.ite (P := State.Keeps _ _) ?_ ?_
    | (extract_lets -underBinder +onlyGivenNames x; unfold x; clear x)
    | with_reducible refine Keeps.foldl (fun _ _ _ => ?_) ?_
    | with_reducible apply State.setTrk_keeps

theorem State.twillPass_keeps {s : State} (b0 : k.blk 0 = false) (b3 : k.blk 3 = false) (b4 : k.blk 4 = false) (b5 : k.blk 5 = false) (b6 : k.blk 6 = false) (b9 : k.blk 9 = false) (b10 : k.blk 10 = false) (b11 : k.blk 11 = false) (b16 : k.blk 16 = false) (b17 : k.blk 17 = false) (b18 : k.blk 18 = false) (b20 : k.blk 20 = false) (h : State.Keeps k s0 s) (a1 : Nat) :
    State.Keeps k s0 (State.twillPass s a1) := by
  unfold State.twillPass
  repeat' first
    | with_reducible assumption
    | with_reducible refine Keeps.ite (P := State.Keeps _ _) ?_ ?_
    | (extract_lets -underBinder +onlyGivenNames x; refine Keeps.cut (k := k) (s0 := s0) (x := x) ?_ ?_ <;> first | (intro _; revert x; intro _ _) | (unfold x; clear x))
    | with_reducible refine Keeps.foldl (fun _ _ _ => ?_) ?_
    | with_reducible apply State.passSlot_keeps
    | with_reducible apply State.predictQuiet_keeps
    | with_reducible apply State.notePrev_keeps

theorem State.twillFire_keeps {s : State} (b0 : k.blk 0 = false) (b4 : k.blk 4 = false) (b5 : k.blk 5 = false) (b6 : k.blk 6 = false) (b9 : k.blk 9 = false) (b10 : k.blk 10 = false) (b11 : k.blk 11 = false) (b16 : k.blk 16 = false) (b17 : k.blk 17 = false) (b18 : k.blk 18 = false) (b20 : k.blk 20 = false) (h : State.Keeps k s0 s) (a1 : Nat) (a2 : Nat) :
    State.Keeps k s0 (State.twillFire s a1 a2) := by
  unfold State.twillFire
  repeat' first
    | with_reducible assumption
    | (show Kept.blk _ _ = false; first | exact b0 | exact b4 | exact b5 | exact b6 | exact b9 | exact b10 | exact b11 | exact b16 | exact b17 | exact b18 | exact b20)
    | with_reducible refine Keeps.ite (P := State.Keeps _ _) ?_ ?_
    | with_reducible refine Keeps.foldl (fun _ _ _ => ?_) ?_
    | with_reducible apply State.slotFire_keeps

theorem execTwillPass_keeps {s : State} (b0 : k.blk 0 = false) (b3 : k.blk 3 = false) (b4 : k.blk 4 = false) (b5 : k.blk 5 = false) (b6 : k.blk 6 = false) (b9 : k.blk 9 = false) (b10 : k.blk 10 = false) (b11 : k.blk 11 = false) (b16 : k.blk 16 = false) (b17 : k.blk 17 = false) (b18 : k.blk 18 = false) (b20 : k.blk 20 = false) (h : State.Keeps k s0 s) (a0 : Nat) :
    OutKeeps k s0 (execTwillPass a0 s) := by
  unfold execTwillPass
  repeat' first
    | with_reducible assumption
    | refine OutKeeps.next ?_
    | with_reducible apply State.touch_keeps
    | with_reducible apply State.twillPass_keeps

theorem execTwillFire_keeps {s : State} (b0 : k.blk 0 = false) (b4 : k.blk 4 = false) (b5 : k.blk 5 = false) (b6 : k.blk 6 = false) (b9 : k.blk 9 = false) (b10 : k.blk 10 = false) (b11 : k.blk 11 = false) (b16 : k.blk 16 = false) (b17 : k.blk 17 = false) (b18 : k.blk 18 = false) (b20 : k.blk 20 = false) (h : State.Keeps k s0 s) (a0 : Nat) (a1 : Fin 1024) :
    OutKeeps k s0 (execTwillFire a0 a1 s) := by
  unfold execTwillFire
  repeat' first
    | with_reducible assumption
    | refine OutKeeps.next ?_
    | with_reducible apply State.touch_keeps
    | with_reducible apply State.twillFire_keeps

end Sys2Proof.Machine
end

