-- ==== Sys2Proof/Laws/Nave.lean ====
section
/-!
SUPPORT. Sys2Proof/Laws/Nave.lean: what a core does with an instruction once it runs: `State.runs` says when, and these lemmas
reduce a command to the instruction's own effect on `State.issued`.
-/

set_option Elab.async false

namespace Sys2Proof.Machine

theorem State.setCore_setCore (s : State) (c : Nat) (m n : Nave) : (s.setCore c m).setCore c n = s.setCore c n := by
  unfold State.setCore; split <;> rfl
theorem State.core_issued (s : State) (t c : Nat) : (s.issued t c).core c = { s.core c with wfi := false, irqDue := false } := by
  unfold State.issued; rw [State.core_setCore]
theorem State.reg_issued (s : State) (t : Nat) (c : Fin 2) (r : Fin 32) : ((s.issued t c).core c).reg r = (s.core c).reg r := by
  rw [State.core_issued]; rfl
theorem State.pc_issued (s : State) (t : Nat) (c : Fin 2) : ((s.issued t c).core c).pc = (s.core c).pc := by
  rw [State.core_issued]
theorem State.ok_issued (s : State) (t : Nat) (c : Fin 2) (r : Fin 32) (v : Word) : ((s.issued t c).core c).regOk r v = (s.core c).regOk r v := by
  rw [State.core_issued]; rfl
theorem State.run_eq (s : State) (t : Nat) (c : Fin 2) (b : State → Ret) (h : s.runs t c = true) :
    s.runNave t c b = (s.issued t c).commit c (b (s.issued t c)) := by
  unfold State.runs at h
  simp only [Bool.and_eq_true, Bool.or_eq_true] at h
  obtain ⟨⟨h1, h2⟩, h3⟩ := h
  have hb : (s.issued t c).breakHit c = s.breakHit c := by
    unfold State.breakHit State.flag
    rw [State.core_issued]
    have : ∀ f i, (s.issued t c).get f i = s.get f i := by
      intro f i
      unfold State.issued
      have := State.touch_get s t f i
      unfold State.setCore
      split <;> exact this
    simp only [this]
  have hf : (s.issued t c).fetched c b = b (s.issued t c) := by
    unfold State.fetched
    have : (s.issued t c).fetchOk c = true := by
      rw [← h3]; unfold State.fetchOk; rw [State.core_issued]; rfl
    rw [this]; rfl
  have e : (if ((s.issued t c).core c).stepping = true then none else (s.issued t c).breakHit c) = none := by
    rw [hb, State.core_issued]
    rcases h2 with h2 | h2
    · simp [h2]
    · cases hs : s.breakHit c with
      | none => simp
      | some v => rw [hs] at h2; simp at h2
  have hi : (s.touch t).setCore c { (s.touch t).core c with wfi := false, irqDue := false } = s.issued t c := by
    rw [State.core_touch]; rfl
  unfold State.runNave State.retire
  rw [h1]
  simp only [Bool.not_true, Bool.false_eq_true, if_false]
  rw [hi]
  simp only [e, hf]
theorem State.put_delivers (s : State) (t : Nat) (c : Fin 2) (i : Instr) (b : State → Ret) (rd : Fin 32) (v pc : Word)
    (hx : exec i s = .next (s.runNave t c b)) (h : s.runs t c = true) (hb : b (s.issued t c) = (s.issued t c).put c rd v pc) :
    s.delivers t c i rd v pc := by
  have e : ∀ z : State, z.put c rd v pc = if (z.core c).regOk rd v then .done (z.setCore c ((z.core c).setReg rd v)) pc
      else .exc z 6 0 v := fun z => rfl
  constructor
  · intro ho
    rw [hx, State.run_eq s t c b h, hb, e, State.ok_issued, ho]
    show Host.Outcome.next ((State.setCore _ _ _).setCore _ _) = _
    rw [State.setCore_setCore, State.core_setCore]
    rfl
  · intro ho
    rw [hx, State.run_eq s t c b h, hb, e, State.ok_issued, ho]
    show Host.Outcome.next (State.enterExc _ _ _ _ _ _ _) = _
    unfold State.excepted
    simp [State.pc_issued]

theorem State.issued_free (s : State) (t c : Nat) : (s.issued t c).free = s.free := by
  unfold State.issued
  unfold State.setCore
  split <;> exact s.touch_free t

theorem State.dm_issued (s : State) (t c : Nat) : (s.issued t c).dm c = (s.core c).dm := by
  unfold State.dm; rw [State.core_issued]

/-- An instruction whose effect is `flagged` on the Damask, after it took some free values. -/
theorem State.flagged_damask (s : State) (t : Nat) (c : Fin 2) (i : Instr) (b : State → Ret) (w : Word) (taken flags : Nat)
    (f : Damask → Damask) (hx : exec i s = .next (s.runNave t c b)) (h : s.runs t c = true)
    (hb : b (s.issued t c) = State.flagged { s.issued t c with free := s.free + taken } c w flags
      (fun z => .done (z.setDm c (f (z.dm c))) (z.core c).next)) :
    s.damask t c i w taken flags f := by
  have hc : ∀ k, ({ s.issued t c with free := k } : State).core c = (s.issued t c).core c := fun k => rfl
  have hd : ∀ k, ({ s.issued t c with free := k } : State).dm c = (s.core c).dm := fun k => State.dm_issued s t c
  have key := State.run_eq s t c b h
  rw [hb] at key
  unfold State.flagged at key
  simp only [hd] at key
  constructor
  · intro ho
    rw [if_pos ho] at key
    rw [hx, key]
    show Host.Outcome.next (State.setCore _ _ _) = _
    simp only [State.setDm, State.dm, State.setCore_setCore, State.core_setCore, hc, State.core_issued, Nave.next]
  · intro ho
    rw [if_neg ho] at key
    rw [hx, key]
    show Host.Outcome.next (State.enterExc _ _ _ _ _ _ _) = _
    simp [State.setDm, State.pc_issued]

/-! ### Accesses -/

theorem State.byte_setBytes (s : State) (a b : Nat) (l : List Byte) :
    (s.setBytes a l).byte b = if a ≤ b ∧ b < a + l.length then l.getD (b - a) 0 else s.byte b := by
  induction l generalizing s a with
  | nil => simp [State.setBytes] <;> omega
  | cons v l ih =>
    rw [State.setBytes, ih]
    by_cases e : b = a
    · subst e
      have : ¬ (b + 1 ≤ b ∧ b < b + 1 + l.length) := by omega
      simp [this]
    · rw [State.byte_setByte_ne _ _ e]
      by_cases h : a + 1 ≤ b ∧ b < a + 1 + l.length
      · have h2 : a ≤ b ∧ b < a + (v :: l).length := by simp only [List.length_cons]; omega
        rw [if_pos h, if_pos h2, show b - a = (b - (a + 1)) + 1 by omega, List.getD_cons_succ]
      · have h2 : ¬ (a ≤ b ∧ b < a + (v :: l).length) := by simp only [List.length_cons]; omega
        rw [if_neg h, if_neg h2]

theorem State.get_issued (s : State) (t c : Nat) (f : Fld) (i : Nat) : (s.issued t c).get f i = s.get f i := by
  unfold State.issued
  rw [State.setCore_get, State.touch_get]

theorem State.stop_none (s : State) (t : Nat) (c : Fin 2) (a : Nat) (sz : AccSize) (w : Bool)
    (h : s.accesses c a sz w = true) : (s.issued t c).accessStop c a sz w = none := by
  unfold State.accesses at h
  simp only [Bool.and_eq_true, Bool.or_eq_true, decide_eq_true_eq] at h
  obtain ⟨⟨h1, h2⟩, h3⟩ := h
  have hw : (s.issued t c).watchHit c a w = s.watchHit c a w := by
    unfold State.watchHit State.flag
    simp only [State.get_issued]
  unfold State.accessStop
  simp only [State.core_issued, hw]
  have h2' : ({ s.core c with wfi := false, irqDue := false } : Nave).right c
      ({ s.core c with wfi := false, irqDue := false } : Nave).kernel (if w then .write else .read) a = true := h2
  simp only [h1, h2', ne_eq, not_true, Bool.not_true, if_false, Bool.false_eq_true]
  rcases h3 with h3 | h3
  · simp [h3]
  · cases hh : s.watchHit c a w with
    | none => simp
    | some v => rw [hh] at h3; simp at h3

theorem State.runs_powered (s : State) (t c : Nat) (h : s.runs t c = true) :
    (s.issued t c).powered = true ∧ (s.issued t c).pow.inReset = false := by
  unfold State.runs State.issues at h
  simp only [Bool.and_eq_true, Bool.not_eq_true'] at h
  have hp : ∀ n, (s.touch t).setCore c n = { s.touch t with
      nave0 := ((s.touch t).setCore c n).nave0, nave1 := ((s.touch t).setCore c n).nave1 } := by
    intro n; unfold State.setCore; split <;> rfl
  obtain ⟨⟨⟨⟨⟨⟨⟨⟨-, h1⟩, h2⟩, -⟩, -⟩, -⟩, -⟩, -⟩, -⟩ := h
  unfold State.issued
  rw [hp]
  exact ⟨h1, h2⟩

theorem accCore_coreAcc (s : State) (c : Fin 2) : accCore (s.coreAcc c) = some c.val := by
  obtain ⟨c, hc⟩ := c
  match c, hc with
  | 0, _ => rfl
  | 1, _ => rfl

theorem State.access_good (s : State) (t : Nat) (c : Fin 2) (a : Nat) (sz : AccSize) (w : Bool) (hr : s.runs t c = true)
    (h : s.accesses c a sz w = true) (np : regionOf a = .periph → sz = .word) :
    (s.issued t c).accessBad ((s.issued t c).coreAcc c) w a sz = false := by
  unfold State.accesses at h
  simp only [Bool.and_eq_true, decide_eq_true_eq] at h
  obtain ⟨⟨h1, h2⟩, -⟩ := h
  unfold Nave.right at h2
  simp only [Bool.and_eq_true] at h2
  obtain ⟨p1, p2⟩ := s.runs_powered t c hr
  unfold State.accessBad State.mapOk
  rw [accCore_coreAcc]
  simp only [p1, p2, h1, h2.1, Bool.not_true, Bool.false_or, bne_self_eq_false, Bool.or_false]
  by_cases e : regionOf a = .periph
  · simp [e, np e]
  · simp [e]

/-- A core reads memory proper. -/
theorem State.coreRead_mem (s : State) (t : Nat) (c : Fin 2) (a : Nat) (sz : AccSize) (k : State → Word → Ret)
    (hr : s.runs t c = true) (h : s.accesses c a sz false = true) (np : regionOf a ≠ .periph) :
    (s.issued t c).coreRead c a sz k =
      k (s.issued t c) (BitVec.ofNat 32 ((s.issued t c).memRead (sizeBytes sz) a)) := by
  unfold State.coreRead State.busRead
  rw [State.stop_none s t c a sz false h, State.access_good s t c a sz false hr h (fun e => absurd e np)]
  simp only [np, if_false, Bool.false_eq_true]
  rfl

/-- A core writes memory proper. -/
theorem State.coreWrite_mem (s : State) (t : Nat) (c : Fin 2) (a : Nat) (sz : AccSize) (v : Nat) (k : State → Ret)
    (hr : s.runs t c = true) (h : s.accesses c a sz true = true) (np : regionOf a ≠ .periph) :
    (s.issued t c).coreWrite c a sz v k = k ((s.issued t c).setBytes a (leBytes (sizeBytes sz) v)) := by
  have hb : ∀ (l : List Byte) (z : State) (b : Nat) (r : Resp), { (State.setBytes z b l).ok with resp := r }
      = State.setBytes { z with resp := r } b l := by
    intro l
    induction l with
    | nil => intro z b r; rfl
    | cons x l ih => intro z b r; exact ih (z.setByte b x) (b + 1) r
  unfold State.coreWrite State.busWrite
  rw [State.stop_none s t c a sz true h, State.access_good s t c a sz true hr h (fun e => absurd e np)]
  simp only [np, if_false, Bool.false_eq_true]
  show k { (State.setBytes _ _ _).ok with resp := _ } = _
  rw [hb]

theorem State.memRead_issued (s : State) (t c n a : Nat) : (s.issued t c).memRead n a = s.memRead n a := by
  have e : ∀ b, (s.issued t c).memByte b = s.memByte b := by
    intro b
    have h1 : (s.issued t c).jnl = s.jnl := by
      unfold State.issued State.setCore; split <;> exact s.touch_jnl t
    have h2 : (s.issued t c).mem = s.mem := by
      unfold State.issued State.setCore; split <;> exact s.touch_mem t
    unfold State.memByte State.byte
    rw [h1, h2]
  induction n generalizing a with
  | zero => rfl
  | succ n ih => simp only [State.memRead, e, ih]

end Sys2Proof.Machine
end

