-- ==== Sys2Proof/Tests/Slice0.lean ====
section
/-!
SUPPORT. Sys2Proof/Tests/Slice0.lean: the model's own tests: ill-formed instructions that the check refuses, words written out from the
encoding tables, single steps whose results are worked out from the spec, and, under `wit_`, states and operands that meet
the hypotheses of the statements' clauses, at the boundary values where the clauses of one statement divide a range.
-/

set_option Elab.async false

open Sys2Proof Sys2Proof.Machine

namespace Sys2Proof.Tests

/-! ### Small states -/

/-- A device in RUN with both cores out of reset. -/
def base : State :=
  { tbRun := true, tb := 5, pow := { ({} : Power) with st := .run, inReset := false, under := true },
    nave0 := { Nave.init 0 with running := true }, nave1 := { Nave.init 1 with running := true } }

/-- Register fields of a state set to values. -/
def withRegs (s : State) (l : List (Fld × Nat × Nat)) : State := l.foldl (fun s x => s.set x.1 x.2.1 x.2.2) s

/-- A configuration of empty records, each a TYPE and an INST. -/
def withRecs (s : State) (l : List (Nat × Nat)) : State :=
  { s with img := { s.img with live := l.map (fun x => { typ := x.1, inst := x.2, flags := 0, index := 0, off := 0, val := [] }) } }

/-- The small device with register fields set. -/
def regs (l : List (Fld × Nat × Nat)) : State := withRegs base l

/-- The small device with a record, its owner core 0 and register fields set. -/
def recd (typ inst : Nat) (l : List (Fld × Nat × Nat)) : State := withRecs (withRegs base l) [(typ, inst)]

/-- The small device in another power state. -/
def inPow (p : Power) : State := { base with pow := p }

/-- START, held by nothing, after step n. -/
def started (n : Nat) : State :=
  withRegs (inPow { base.pow with st := .start }) [(Fld.SYS_START_STEP, 0, n)]

/-- Accesses of core 0 at kernel and at task level, of the host, of the debug port and of Chancel. -/
def kern : Acc := ⟨.nave0, true, 9⟩
def task : Acc := ⟨.nave0, false, 9⟩
def host : Acc := ⟨.host, false, 9⟩
def port : Acc := ⟨.debug, false, 9⟩
def chan : Acc := ⟨.chancel, false, 9⟩

/-- The state a command leaves. -/
def after (i : Instr) (s : State) : State :=
  match exec i s with
  | .next t => t
  | _ => s

/-! ### Ill-formed instructions (R375, R379, R392) -/

theorem test_wf_sats : (NaveInstr.nvSats 1 2 0).wf = false ∧ (NaveInstr.nvSats 1 2 31).wf = false ∧
    (NaveInstr.nvSats 1 2 1).wf = true ∧ (NaveInstr.nvSats 1 2 30).wf = true := by decide
theorem test_wf_fields : (NaveInstr.nvExtu 1 2 31 1).wf = false ∧ (NaveInstr.nvExts 1 2 1 31).wf = false ∧
    (NaveInstr.nvIns 1 2 16 16).wf = false ∧ (NaveInstr.nvExtu 1 2 31 0).wf = true ∧ (NaveInstr.nvIns 1 2 0 31).wf = true := by decide
theorem test_wf_pairs : (NaveInstr.dkCmul 1 2 4).wf = false ∧ (NaveInstr.dkCmul 2 3 4).wf = false ∧
    (NaveInstr.dkCmul 2 4 5).wf = false ∧ (NaveInstr.dkPark 1 2 4).wf = false ∧ (NaveInstr.dkIpark 2 4 31).wf = false ∧
    (NaveInstr.dkSincos 3 0).wf = false ∧ (NaveInstr.dkDtrk 5 0).wf = false ∧ (NaveInstr.dkCmul 30 2 4).wf = true := by decide
theorem test_wf_clarke : (NaveInstr.dkClarke 1 0).wf = false ∧ (NaveInstr.dkClarke 0 30).wf = false ∧
    (NaveInstr.dkClarke 0 29).wf = true := by decide
theorem test_wf_words : (NaveInstr.dkDsecr 0 8 0).wf = false ∧ (NaveInstr.dkDsecw 0 8 0).wf = false ∧
    (NaveInstr.dkDsecr 0 7 0).wf = true := by decide
theorem test_wf_command : (Instr.nvSats 0 0 1 2 31).wf = false ∧ (Instr.dkCmul 0 1 1 2 4).wf = false ∧
    (Instr.testLogicReset).wf = true := by decide

/-! ### Words written out from Tables 21.1 to 21.8 and 22.1 -/

theorem test_decode_alu : decodeNave 0b000000_00011_00001_00010_00000_000010 = some (.nvSub 3 1 2) ∧
    decodeNave 0b000000_00011_00001_00010_00000_000001 = some (.nvAdd 3 1 2) := by decide
theorem test_decode_zero : decodeNave 0 = none ∧ decodeNave 0xFFFFFFFF = none := by decide

/-! ### The hypotheses of the statements can be met -/

theorem wit_StepRunsFront : (∃ (s : State) (c : Instr) (rest : List Instr), s.pending = c :: rest) ∧
    ∃ s : State, s.pending = [] :=
  ⟨⟨{ base with pending := [.testLogicReset, .jtagDebug] }, .testLogicReset, [.jtagDebug], by decide⟩, base, by decide⟩

theorem base_inv : base.Inv := ⟨rfl, State.fieldsFit_of_nil rfl⟩

theorem wit_InvariantKept : ∃ s t : State, s.Inv ∧ step s = .next t :=
  ⟨{ base with pending := [.testLogicReset] }, _, ⟨rfl, State.fieldsFit_of_nil rfl⟩, rfl⟩

theorem wit_CommandsKeepTheRest : ∃ (i : Instr) (s u : State), exec i s = .next u ∧ i.reach.mem = false ∧
    i.reach.cores = false ∧ i.reach.comp = false ∧ i.reach.latch = false ∧ i.reach.resp = false ∧ i.reach.time = false ∧
    i.reach.all = false ∧ 0 ∉ i.reach.blocks :=
  ⟨.testLogicReset, base, _, rfl, by decide⟩

theorem wit_OtherCompanionsUntouched : ∃ (i : Instr) (s u : State) (n : Fin 256) (m : Nat), i.companion? = some n ∧ m ≠ n.val ∧
    exec i s = .next u :=
  ⟨.supok10Set 9 3, base, _, 3, 4, by decide, by decide, rfl⟩

theorem wit_NaveWords : ∃ (i : NaveInstr) (w : Nat), i.wf = true ∧ w < 4294967296 ∧ decodeNave w = some i :=
  ⟨.nvAdd 3 1 2, 0b000000_00011_00001_00010_00000_000001, by decide⟩

theorem wit_PeripheralsTakeAlignedWords :
    (∃ (addr : Word) (sz : AccSize), regionOf addr.toNat = .periph ∧ sz ≠ .word) ∧
    ∃ (addr : Word) (sz : AccSize), regionOf addr.toNat = .periph ∧ sz = .word ∧ addr.toNat % 4 ≠ 0 :=
  ⟨⟨0x40050010, .half, by decide⟩, 0x40050013, .word, by decide⟩

theorem wit_ScanInstructionsOnlyInReset :
    (∃ s : State, s.pow.st ≠ .off ∧ s.pow.st ≠ .vigil ∧ s.pow.inReset = true ∧ s.pow.rstn = false) ∧
    (∃ s : State, s.pow.st ≠ .off ∧ s.pow.st ≠ .vigil ∧ s.pow.inReset = false) ∧
    ∃ s : State, s.pow.st ≠ .off ∧ s.pow.st ≠ .vigil ∧ s.pow.inReset = true ∧ s.pow.rstn = true :=
  ⟨⟨inPow { base.pow with st := .start, inReset := true, rstn := false }, by decide⟩, ⟨base, by decide⟩,
    inPow { base.pow with st := .start, inReset := true, rstn := true }, by decide⟩

/-- A mailbox whose receiver is core 0 and whose message waits until time 7. -/
def mail : State := { recd 0x00A1 2 [(Fld.MBX_STATUS_STATE, 2, 1), (Fld.MBX_CFG_NOTEN, 2, 1), (Fld.MBX_CFG_NOTIFY, 2, 900)] with
  mbx := [(2, { till := some 7 })] }

theorem wit_MailboxTimeout : ∃ (s : State) (t x : Nat) (m : Fin 64) (n : Nat) (a : Acc), (s.mbxOf m).till = some x ∧ x ≤ t ∧
    s.mbxFull m = true ∧ n = s.get Fld.MBX_CFG_NOTIFY m ∧ s.flag Fld.MBX_CFG_NOTEN m = true ∧ s.mbxReceiver a m = true :=
  ⟨mail, 7, 7, 2, 900, kern, by decide⟩

theorem wit_BadCount :
    (∃ (s : State) (a : Acc) (m : Fin 64) (v : Word), stageOf a = some 0 ∧ s.hasMbx m = true ∧ bits v.toNat 5 3 = 0 ∧
      bits v.toNat 20 12 = 0 ∧ bits v.toNat 16 4 = 6 ∧ v.toNat % 32 = 0) ∧
    ∃ (s : State) (a : Acc) (m : Fin 64) (v : Word), stageOf a = some 0 ∧ s.hasMbx m = true ∧ bits v.toNat 5 3 = 0 ∧
      bits v.toNat 20 12 = 0 ∧ bits v.toNat 16 4 = 15 ∧ v.toNat % 32 = 17 :=
  ⟨⟨mail, kern, 2, 0x60100, by decide⟩, mail, kern, 2, 0xF0011, by decide⟩

theorem wit_RegisterWrites :
    (∃ (s : State) (a : Acc) (x : Nat), s.accessBad a true x .word = true ∧ x % 4 = 0) ∧
    (∃ (s : State) (a : Acc) (x : Nat), s.accessBad a true x .byte = false ∧ regionOf x = .sram) ∧
    (∃ (s : State) (a : Acc) (x : Nat), s.accessBad a true x .word = false ∧ regionOf x = .periph ∧ regAt x = none) ∧
    (∃ (s : State) (a : Acc) (x i : Nat) (r : Reg), s.accessBad a true x .word = false ∧ regionOf x = .periph ∧
      regAt x = some (r, i) ∧ r.writable = false ∧ roRejects a r i = false) ∧
    (∃ (s : State) (a : Acc) (x i : Nat) (r : Reg), s.accessBad a true x .word = false ∧ regionOf x = .periph ∧
      regAt x = some (r, i) ∧ r.writable = false ∧ roRejects a r i = true) ∧
    (∃ (s : State) (a : Acc) (x i : Nat) (r : Reg) (v : Word), s.accessBad a true x .word = false ∧ regionOf x = .periph ∧
      regAt x = some (r, i) ∧ r.writable = true ∧ r ≠ .MBX_HDR ∧ r.legal v.toNat = false) ∧
    (∃ (s : State) (a : Acc) (x i : Nat) (v : Word), s.accessBad a true x .word = false ∧ regionOf x = .periph ∧
      regAt x = some (.EDG_CNV_PERIOD_SH, i) ∧ Reg.legal .EDG_CNV_PERIOD_SH v.toNat = true ∧ s.cnvWriter a i = true) ∧
    (∃ (s : State) (a : Acc) (x i : Nat) (v : Word), s.accessBad a true x .word = false ∧ regionOf x = .periph ∧
      regAt x = some (.EDG_CNV_PERIOD_SH, i) ∧ Reg.legal .EDG_CNV_PERIOD_SH v.toNat = true ∧ s.cnvWriter a i = false) ∧
    ∃ (s : State) (a : Acc) (x i : Nat) (v : Word), s.accessBad a true x .word = false ∧ regionOf x = .periph ∧
      regAt x = some (.IRQ_DOORBELL, i) ∧ Reg.legal .IRQ_DOORBELL v.toNat = true :=
  ⟨⟨State.reset, kern, 0x20000000, by decide⟩, ⟨base, kern, 0x20000001, by decide⟩, ⟨base, kern, 0x4000FFFC, by decide⟩,
    ⟨base, kern, 0x40000000, 0, .SYS_ID, by decide⟩, ⟨base, kern, 1074266112, 0, .BTR_ID, by decide⟩,
    ⟨base, kern, 0x4005001C, 0, .EDG_CNV_FORCE, 3, by decide⟩,
    ⟨recd 0x0011 0 [], kern, 0x40050010, 0, 2000000, by decide⟩, ⟨base, kern, 0x40050010, 0, 2000000, by decide⟩,
    base, kern, 0x40120600, 0, 900, by decide⟩

theorem wit_RegisterReads :
    (∃ (s : State) (a : Acc) (x : Nat), s.accessBad a false x .word = true ∧ x % 4 = 0) ∧
    (∃ (s : State) (a : Acc) (x : Nat), s.accessBad a false x .half = false ∧ regionOf x = .sram) ∧
    (∃ (s : State) (a : Acc) (x : Nat), s.accessBad a false x .word = false ∧ regionOf x = .periph ∧ regAt x = none) ∧
    (∃ (s : State) (a : Acc) (x i : Nat) (r : Reg), s.accessBad a false x .word = false ∧ regionOf x = .periph ∧
      regAt x = some (r, i) ∧ r ∈ latchedRegs) ∧
    ∃ (s : State) (a : Acc) (x i : Nat) (r h : Reg), s.accessBad a false x .word = false ∧ regionOf x = .periph ∧
      regAt x = some (r, i) ∧ r ∉ latchedRegs ∧ h ∈ r.latches :=
  ⟨⟨State.reset, kern, 0x20000000, by decide⟩, ⟨base, kern, 0x20000002, by decide⟩, ⟨base, kern, 0x4000FFFC, by decide⟩,
    ⟨base, kern, 0x40020004, 0, .TB_NOW_HI, by decide⟩, base, kern, 0x40020000, 0, .TB_NOW_LO, .TB_NOW_HI, by decide⟩
theorem wit_Undercroft :
    (∃ s : State, s.pow.st = .off ∧ s.pow.under = false) ∧ (∃ s : State, s.pow.st = .vigil) ∧ (∃ s : State, s.pow.st = .run) ∧
    (∃ s : State, s.pow.under = true ∧ s.tbRun = true ∧ 624999 % 625000 ≠ 0 ∧ 625000 % 625000 = 0) ∧
    (∃ s : State, s.pow.under = true ∧ s.tbRun = false) ∧
    (∃ (s : State) (mv : Nat), mv = 279 ∧ mv < 280 ∧ s.get Fld.UCR_STATUS_HARV 0 = 2) ∧
    (∃ (s : State) (mv : Nat), mv = 280 ∧ 280 ≤ mv ∧ mv < 450 ∧ s.get Fld.UCR_STATUS_HARV 0 = 2) ∧
    (∃ (s : State) (mv : Nat), mv = 450 ∧ 450 ≤ mv ∧ mv ≤ 500 ∧ s.get Fld.UCR_STATUS_HARV 0 = 2) ∧
    (∃ (s : State) (mv : Nat), mv = 300 ∧ 300 ≤ mv ∧ mv ≤ 500 ∧ s.get Fld.UCR_STATUS_HARV 0 ≠ 2) ∧
    (∃ (s : State) (mv : Nat), mv = 299 ∧ 280 ≤ mv ∧ mv < 300 ∧ s.get Fld.UCR_STATUS_HARV 0 < 2) ∧
    ∃ mv : Nat, mv = 501 ∧ 500 < mv :=
  ⟨⟨State.reset, by decide⟩, ⟨inPow { base.pow with st := .vigil }, by decide⟩, ⟨base, by decide⟩, ⟨base, by decide⟩,
    ⟨{ inPow { base.pow with st := .vigil } with tbRun := false }, by decide⟩,
    ⟨regs [(Fld.UCR_STATUS_HARV, 0, 2)], 279, by decide⟩, ⟨regs [(Fld.UCR_STATUS_HARV, 0, 2)], 280, by decide⟩,
    ⟨regs [(Fld.UCR_STATUS_HARV, 0, 2)], 450, by decide⟩, ⟨regs [(Fld.UCR_STATUS_HARV, 0, 1)], 300, by decide⟩,
    ⟨regs [(Fld.UCR_STATUS_HARV, 0, 1)], 299, by decide⟩, 501, by decide⟩

/-- VIGIL with PWREN high since count 5, a PWRLOW of 1 s and a WAKETMO of 0.1 s, at a count. -/
def waiting (count : Nat) : State :=
  withRegs (inPow { base.pow with st := .vigil, pwren := .high, pwrenAt := 5, pwrlow := true })
    [(Fld.UCR_PWRLOW_PWRLOW, 0, 1000), (Fld.UCR_CFG_WAKETMO, 0, 1), (Fld.UCR_TIME_LO_COUNT, 0, count)]

theorem wit_Supplies :
    (∃ s : State, s.pow.inReset = true ∧ s.pow.under = true) ∧
    (∃ s : State, s.pow.st = .run ∧ s.pow.inReset = false ∧ s.tbRun = true ∧ s.pow.under = true ∧ s.jnl.queue = []) ∧
    (∃ (s : State) (w : WakeCause), s.pow.st = .vigil ∧ s.wakeOn w = true ∧ s.pow.pwrlow = false) ∧
    (∃ (s : State) (w : WakeCause), s.pow.st = .vigil ∧ s.wakeOn w = true ∧ s.pow.pwrlow = true) ∧
    (∀ x ∈ [(32772, false), (32773, true)], ∃ s : State, s.pow.st = .vigil ∧ s.pow.pwrlow = true ∧ s.pow.wakeLatch = 0 ∧
      s.pow.pwrenAt = 5 ∧ s.ucrTime = x.1 ∧ s.pwrlowOver = x.2) ∧
    (∀ x ∈ [(3281, false), (3282, true)], ∃ s : State, s.pow.st = .vigil ∧ s.pow.pwren = .high ∧ s.pow.pwrenAt = 5 ∧
      s.ucrTime = x.1 ∧ s.waketmoOver = x.2) ∧
    (∃ s : State, s.pow.st ≠ .run) ∧
    (∃ (s : State) (v : Fin 1024), s.pow.st = .run ∧ v.val = 29 ∧ v.val < 10 * s.get Fld.UCR_CFG_VBAKWARN 0) ∧
    ∃ (s : State) (v : Fin 1024), s.pow.st = .run ∧ v.val = 30 ∧ ¬ v.val < 10 * s.get Fld.UCR_CFG_VBAKWARN 0 :=
  ⟨⟨inPow { base.pow with st := .vigil, inReset := true }, by decide⟩, ⟨base, by decide⟩,
    ⟨inPow { base.pow with st := .vigil, uwake := [⟨0, 100, 1, false⟩] }, .uwake 0 178282, by decide⟩,
    ⟨inPow { base.pow with st := .vigil, uwake := [⟨0, 100, 0, true⟩], pwrlow := true }, .uwake 0 175781, by decide⟩,
    by
      intro x m
      simp only [List.mem_cons, List.not_mem_nil, or_false] at m
      rcases m with rfl | rfl
      · exact ⟨waiting 32772, by decide +kernel⟩
      · exact ⟨waiting 32773, by decide +kernel⟩,
    by
      intro x m
      simp only [List.mem_cons, List.not_mem_nil, or_false] at m
      rcases m with rfl | rfl
      · exact ⟨waiting 3281, by decide +kernel⟩
      · exact ⟨waiting 3282, by decide +kernel⟩,
    ⟨inPow { base.pow with st := .vigil }, by decide⟩,
    ⟨regs [(Fld.UCR_CFG_VBAKWARN, 0, 3)], 29, by decide⟩, regs [(Fld.UCR_CFG_VBAKWARN, 0, 3)], 30, by decide⟩

theorem wit_WarningsAndRestart :
    (∃ s : State, s.pow.st = .run ∧ s.pow.pfailHold = false) ∧
    (∃ s : State, s.pow.st = .safeHold ∧ s.pow.pfailHold = true ∧ s.flag Fld.FLT_DEV_F4 0 = false ∧ s.pow.restartHold = false) ∧
    (∃ (s : State) (t : Nat), s.pow.restartTicket = some 3 ∧ s.pow.restartHold = true ∧ s.pow.st = .safeHold ∧
      s.pow.inReset = false ∧ t = s.pow.restartAt + 10 * ftuMs) ∧
    ∃ (s : State) (t : Nat), s.pow.restartTicket = some 3 ∧ s.pow.restartHold = true ∧ s.pow.st = .safeHold ∧
      s.pow.inReset = false ∧ t < s.pow.restartAt + 10 * ftuMs ∧ s.allSafe = true :=
  ⟨⟨base, by decide⟩, ⟨inPow { base.pow with st := .safeHold, pfailHold := true }, by decide⟩,
    ⟨inPow { base.pow with st := .safeHold, restartHold := true, restartTicket := some 3, restartAt := 5 }, 204800005, by decide +kernel⟩,
    inPow { base.pow with st := .safeHold, restartHold := true, restartTicket := some 3 }, 5, by decide +kernel⟩

/-! An image of the six mandatory records (Table 2.5, order 12) whose bytes meet their chapters' rules. -/

/-- CRC-32 of the nine digits, the check value of the CRC that R30 names. -/
theorem test_crc32 : crc32 [0x31, 0x32, 0x33, 0x34, 0x35, 0x36, 0x37, 0x38, 0x39] = 0xCBF43926 := by decide +kernel

/-- A record with its padding and CRC (R31). -/
def recBytes (typ inst : Nat) (val : List Byte) : List Byte :=
  let b := leBytes 2 typ ++ leBytes 2 val.length ++ leBytes 2 inst ++ leBytes 2 0 ++ padTo (footprint val.length - 12) val
  b ++ leBytes 4 (crc32 b)

def imgRecs : List Byte :=
  recBytes 0x10 0 (List.replicate 32 0) ++ recBytes 0x12 0 (List.replicate 52 0) ++ recBytes 0x13 0 (List.replicate 208 0) ++
  recBytes 0x20 0 (leBytes 4 0 ++ leBytes 2 1 ++ leBytes 2 16) ++ recBytes 0x21 0 (leBytes 4 8 ++ leBytes 4 0) ++
  recBytes 0xC0 0 [0, 1, 0, 0, 0, 0, 0, 0]

/-- The public key of the private scalar 0x123456789ABCDEF, which signed the image and the REVOKE below. -/
def pubKey : BitVec 512 :=
  0x855b7389f116c19c0014311c3d57dc02001e3a0ec8bd90c797732034aacd99183988322ab9f52c7f11d5d1aa92a2ac0b00275bcad8e934682257323fda672482

/-- FIPS 180-4's example of SHA-256, "abc". -/
theorem test_sha256 : Config.sha256 [0x61, 0x62, 0x63] =
    BitVec.ofNat 256 (leNat ((leBytes 32 0xba7816bf8f01cfea414140de5dae2223b00361a396177a9cb410ff61f20015ad).reverse)) := by
  decide +kernel

/-- RFC 6979, A.2.5: the signature of "sample" on P-256 with SHA-256. -/
theorem test_ecdsa : Crypt.verify 0x60FED4BA255A9D31C961EB74C6356D68C049B8923B61FA6CE669622E60F29FB6
    0x7903FE1008B8BC99A41AE9E95628BC64F2F1B20C2D7E9F5177A3C294D4462299 [0x73, 0x61, 0x6d, 0x70, 0x6c, 0x65]
    0xEFD48B2AACB6A8FD1140DD9CD45E81D69D2C877B56AAF991C34D0EA84EAF3716
    0xF7CB1C942D657C41D436C7A1B6E29F65F3E900DBB9AFF4064DC4AB2F843ACDA8 = true := by decide +kernel

/-- FIPS 197, C.3: AES-256. -/
theorem test_aes : Crypt.aes (Crypt.roundKeys (List.range 32)) ((List.range 16).map (fun i => 0x11 * i)) =
    [0x8e, 0xa2, 0xb7, 0xca, 0x51, 0x67, 0x45, 0xbf, 0xea, 0xfc, 0x49, 0x90, 0x4b, 0x49, 0x60, 0x89] := by decide +kernel

def imgSlot : NorSlot :=
  let o := 64 + imgRecs.length
  let h := leBytes 4 0x54534556 ++ leBytes 2 1 ++ leBytes 2 64 ++ leBytes 4 (o + 80) ++ leBytes 4 7 ++ [0, 0] ++ leBytes 2 6 ++
    leBytes 4 64 ++ List.replicate 16 0 ++ leBytes 4 o ++ List.replicate 16 0
  let sig := leBytes 4 0x4E474953 ++ [1, 1, 0, 0] ++ leBytes 4 o ++ leBytes 4 0 ++
    leBytes 32 31563620843751026183291393758256538028888209241891824439778273960201981270190 ++
    leBytes 32 90364675345176580158762072219005192443079205270262139751382275826197511016017
  ⟨h ++ leBytes 4 (crc32 h) ++ imgRecs ++ sig, none⟩

def imgNor : NorView := ⟨true, 0x1000000, imgSlot, ⟨[], none⟩⟩

/-- START after step n with that image in slot A, the key of OTP slot 1 an image key. -/
def loading (n : Nat) (fetched : Bool) : State :=
  let s := started n
  { s with img := { s.img with nor := imgNor, todo := [false], fetched := fetched }, chn := { s.chn with slots := [(1, { use := 0x0F, key := pubKey })] } }

theorem test_image : imgSlot.hdrCheck (slotSize imgNor) = none ∧ imgSlot.sigCheck = none ∧
    (checkRecs imgSlot (loading 2 false).keyUse).isOk = true := by decide +kernel

theorem wit_StartImage :
    (∃ s : State, s.inStart 0 = true) ∧ (∃ s : State, s.inStart 1 = true ∧ imgNor.sfdp = true) ∧
    (∃ s : State, s.chn.katPending = true) ∧
    (∃ (s : State) (p : Parsed), s.inStart 2 = true ∧ s.img.fetched = false ∧ s.img.todo = [false] ∧
      (norSlot s.img.nor false).hdrCheck (slotSize s.img.nor) = none ∧ checkRecs (norSlot s.img.nor false) s.keyUse = .ok p) ∧
    (∃ (s : State) (r : Rej), s.inStart 3 = true ∧ s.img.fetched = false ∧ s.img.todo = [true] ∧
      (norSlot s.img.nor true).hdrCheck (slotSize s.img.nor) = some r) ∧
    (∃ (s : State) (r : Rej), s.inStart 3 = true ∧ s.img.fetched = true ∧ s.chn.katPending = false ∧ s.img.todo = [true] ∧
      s.sigRej (norSlot s.img.nor true) = some r) := by
  refine ⟨⟨started 0, by decide⟩, ⟨started 1, by decide⟩, ⟨{ base with chn := { base.chn with katPending := true } }, by decide⟩,
    ⟨loading 2 false, ?_⟩, ⟨{ loading 3 false with img := { (loading 3 false).img with todo := [true] } }, { code := rejNoImage }, by decide +kernel⟩,
    { loading 3 true with img := { (loading 3 true).img with todo := [true] } }, { code := rejSigFormat, off := 4294967295 },
    by decide +kernel⟩
  have h : (checkRecs imgSlot (loading 2 false).keyUse).isOk = true := test_image.2.2
  cases e : checkRecs imgSlot (loading 2 false).keyUse with
  | error r => rw [e] at h; cases h
  | ok p => exact ⟨p, by decide, by decide, by decide, test_image.1, e⟩

/-- The image's signature verifies, so t4 loads it. -/
theorem wit_StartSignature : ∃ s : State, s.inStart 3 = true ∧ s.img.fetched = true ∧ s.chn.katPending = false ∧ s.img.todo = [false] ∧
      s.sigRej (norSlot s.img.nor false) = none ∧ s.img.early = none ∧
      checkOvls (norSlot s.img.nor false) s.keyUse s.img.base (norSlot s.img.nor false).overlays [] = .ok [] := by
  refine ⟨loading 3 true, by decide, by decide, by decide, by decide, by decide +kernel, by decide, ?_⟩
  have v : imgSlot.overlays = [] := by decide +kernel
  show checkOvls imgSlot _ _ imgSlot.overlays [] = .ok []
  rw [v]; rfl

theorem wit_StartToRun :
    (∃ s : State, s.inStart 4 = true ∧ s.flag Fld.SYS_START_RESUMED 0 = false) ∧
    (∃ s : State, s.inStart 5 = true ∧ s.pow.plltReady = true) ∧ (∃ s : State, s.inStart 5 = true ∧ s.pow.plltReady = false) ∧
    (∃ s : State, s.powered = true ∧ s.pow.inReset = false ∧ 5 ≤ s.get Fld.SYS_START_STEP 0 ∧ s.inStart 5 = true ∧
      s.pow.jnlReady = true) ∧
    (∃ (s : State) (errs : List Int), s.powered = true ∧ s.pow.inReset = false ∧ 5 ≤ s.get Fld.SYS_START_STEP 0 ∧
      s.plltWithin errs = true ∧ errs = [1, -1]) ∧
    (∃ (s : State) (errs : List Int), s.powered = true ∧ s.pow.inReset = false ∧ 5 ≤ s.get Fld.SYS_START_STEP 0 ∧
      s.plltWithin errs = false ∧ errs = [2, 1]) ∧
    (∃ s : State, s.inStart 7 = true ∧ (∀ k, k < 8 → s.flag Fld.AUX_CFG_EN k = true → s.auxSt k = auRun) ∧
      s.flag Fld.SEL_BUS_CFG_EN 3 = true) ∧
    (∃ s : State, s.inStart 8 = true ∧ s.flag Fld.FLT_DEV_F4 0 = false ∧ s.flag Fld.UCR_STATUS_PFAIL 0 = false) ∧
    ∃ (s : State) (v : Word), accCore kern = some 0 ∧ v.toNat < 4 ∧ v.toNat.testBit 0 = true ∧ s.armed 0 = false :=
  ⟨⟨started 4, by decide⟩, ⟨{ started 5 with pow := { (started 5).pow with plltReady := true } }, by decide⟩, ⟨started 5, by decide⟩,
    ⟨{ started 5 with pow := { (started 5).pow with jnlReady := true } }, by decide⟩,
    ⟨withRegs (started 5) [(Fld.CLK_LOCK_CFG_W, 0, 1), (Fld.CLK_LOCK_CFG_N, 0, 2)], [1, -1], by decide⟩,
    ⟨withRegs (started 5) [(Fld.CLK_LOCK_CFG_W, 0, 1), (Fld.CLK_LOCK_CFG_N, 0, 2)], [2, 1], by decide⟩,
    ⟨withRegs (started 7) [(Fld.AUX_CFG_EN, 2, 1), (Fld.AUX_STATUS_STATE, 2, auRun), (Fld.SEL_BUS_CFG_EN, 3, 1)], by decide⟩,
    ⟨started 8, by decide⟩, base, 1, by decide⟩

theorem wit_ModeChanges :
    (∃ (s : State) (m : Fin 4), s.pow.st = .run ∧ modeSrc kern = some 0 ∧ s.freeIndex = some 0 ∧ m.val ≠ s.modeNow) ∧
    (∃ (s : State) (m : Fin 4), s.pow.st = .run ∧ modeSrc chan = some 2 ∧ s.freeIndex = some 0 ∧ m.val = s.modeNow ∧
      s.mode.pend = none) ∧
    (∃ s : State, s.pow.st = .run ∧ s.freeIndex = none) ∧ modeSrc task = none ∧ modeSrc host = none ∧
    (∃ (s : State) (t q : Nat) (p : ModePend), s.pow.st = .run ∧ s.mode.pend = some p ∧ s.mode.qp = some q ∧ t = 99 ∧ t < q) ∧
    ∃ (s : State) (t q : Nat) (p : ModePend), s.mode.pend = some p ∧ s.mode.qp = some q ∧ t = 100 ∧ q ≤ t := by
  refine ⟨⟨base, 1, by decide⟩, ⟨base, 0, by decide⟩,
    ⟨{ base with bank := (List.range 256).map (fun i => (Fld.JNL_OP_STATE.key i, 1)) }, by decide +kernel⟩, by decide, by decide,
    ⟨{ base with mode := { base.mode with pend := some ⟨0, 2, 7, 5⟩, qp := some 100 } }, 99, 100, ⟨0, 2, 7, 5⟩, by decide⟩,
    { base with mode := { base.mode with pend := some ⟨0, 2, 7, 5⟩, qp := some 100 } }, 100, 100, ⟨0, 2, 7, 5⟩, by decide⟩

theorem wit_ClockFaultsAndDiscipline :
    (∃ s : State, s.powered = true ∧ s.pow.inReset = false ∧ s.flag Fld.CLK_STATUS_PLLT_LOCK 0 = true ∧ s.pow.st = .run ∧
      ∀ e ∈ [(3 : Int), -3, 3, 4], 2 * s.get Fld.CLK_LOCK_CFG_W 0 < e.natAbs) ∧
    (∃ s : State, s.powered = true ∧ s.pow.inReset = false ∧ s.plltOut [2, 3, 3, 3] = false) ∧
    (∃ s : State, s.tbRun = true ∧ s.pow.st = .run ∧ ∀ x ∈ [(1583 : Nat), 1617, 0, 1583], s.pllsGood x = false) ∧
    (∃ s : State, s.tbRun = true ∧ s.pllsGood 1584 = true) ∧
    (∃ (s : State) (q : Nat), s.tbRun = true ∧ s.tbState = tbHoldover ∧
      (s.setBitOf Fld.TB_STATE_PRESENT 0 (2 : RefId) true).target = some q) ∧
    (∃ (s : State) (r : RefId), r ≠ 0 ∧ s.tbState = tbLocked ∧ s.get Fld.TB_STATE_FOLLOW 0 = r.val) ∧
    (∃ (s : State) (r : RefId), r ≠ 0 ∧ s.tbState = tbSlew ∧ s.get Fld.TB_STATE_FOLLOW 0 = r.val) ∧
    (∃ (s : State) (r : RefId), s.get Fld.TB_STATE_QBUSY 0 = 1 ∧ s.get Fld.TB_STATE_CAND 0 = r.val ∧ r = 3 ∧
      s.tbs.originSet = false) ∧
    (∃ (s : State) (r : RefId), s.get Fld.TB_STATE_QBUSY 0 = 1 ∧ s.get Fld.TB_STATE_CAND 0 = r.val ∧ r = 0 ∧
      s.tbs.originSet = true) ∧
    (∃ freq : Int, freq = 50000 ∧ freq.natAbs ≤ 50000) ∧ (∃ freq : Int, freq = -50001 ∧ 50000 < freq.natAbs) ∧
    (∃ (s : State) (q : Nat), s.get Fld.TB_STATE_QBUSY 0 = 1 ∧ s.get Fld.TB_STATE_CAND 0 = (1 : RefId).val ∧ s.tbState = tbQualify ∧
      (s.setBitOf Fld.TB_STATE_BARRED 0 (1 : RefId) true).target = some q) ∧
    (∃ (s : State) (t : Nat) (freq : Int), s.tbState = tbSlew ∧ (s.debtAt t).natAbs ≤ 20 ∧ (s.debtAt t).natAbs = 20 ∧
      (s.freqAt t - freq).natAbs ≤ 1) ∧
    (∃ (s : State) (t : Nat) (freq : Int), s.tbState = tbSlew ∧ (s.debtAt t).natAbs = 21 ∧ (s.freqAt t - freq).natAbs ≤ 1) ∧
    (∃ s : State, s.tbState ≠ tbSlew) ∧ ∃ t1 t2 : Nat, t1 ≤ t2 :=
  ⟨⟨regs [(Fld.CLK_LOCK_CFG_W, 0, 1), (Fld.CLK_STATUS_PLLT_LOCK, 0, 1)], by decide⟩,
    ⟨regs [(Fld.CLK_LOCK_CFG_W, 0, 1)], by decide⟩, ⟨base, by decide⟩, ⟨base, by decide⟩,
    ⟨regs [(Fld.TB_STATE_STATE, 0, tbHoldover), (Fld.TB_REF_RANK_EN0, 0, 1), (Fld.TB_REF_RANK_RANK0, 0, 2)], 2, by decide⟩,
    ⟨regs [(Fld.TB_STATE_STATE, 0, tbLocked), (Fld.TB_STATE_FOLLOW, 0, 2)], 2, by decide⟩,
    ⟨regs [(Fld.TB_STATE_STATE, 0, tbSlew), (Fld.TB_STATE_FOLLOW, 0, 1)], 1, by decide⟩,
    ⟨regs [(Fld.TB_STATE_QBUSY, 0, 1), (Fld.TB_STATE_CAND, 0, 3)], 3, by decide⟩,
    ⟨{ regs [(Fld.TB_STATE_QBUSY, 0, 1), (Fld.TB_STATE_CAND, 0, 0)] with tbs := { originSet := true } }, 0, by decide⟩,
    ⟨50000, by decide⟩, ⟨-50001, by decide⟩,
    ⟨regs [(Fld.TB_STATE_QBUSY, 0, 1), (Fld.TB_STATE_CAND, 0, 1), (Fld.TB_STATE_STATE, 0, tbQualify), (Fld.TB_REF_RANK_EN0, 0, 1),
      (Fld.TB_REF_RANK_RANK0, 0, 2), (Fld.TB_STATE_PRESENT, 0, 6)], 2, by decide⟩,
    ⟨regs [(Fld.TB_STATE_STATE, 0, tbSlew), (Fld.TB_DEBT_LO_DEBT, 0, 20)], 5, 0, by decide +kernel⟩,
    ⟨regs [(Fld.TB_STATE_STATE, 0, tbSlew), (Fld.TB_DEBT_LO_DEBT, 0, 21)], 5, 0, by decide +kernel⟩,
    ⟨base, by decide⟩, 3, 3, by decide⟩

/-- Tracker 0 of a kind in a state. -/
def trk (kind st : Nat) : State := regs [(Fld.ANG_CFG_KIND, 0, kind), (Fld.ANG_STATE_STATE, 0, st)]

/-- A sample of a source that is there. -/
def seen : TrkSample := ⟨5, 0, true, 1000⟩

/-- Tracker 0 coasting since time 7, its COAST_MAX 514 ms. -/
def coasting : State :=
  { trk 2 tkCoast with
    trk := [(0, { coastAt := 7 })]
    img := { base.img with live := [{ typ := 0x30, inst := 0, flags := 0, index := 0, off := 0, val := List.replicate 48 2 }] } }

theorem wit_Trackers :
    (∃ s : State, s.trkState 0 = tkOff) ∧ (∃ s : State, s.trkState 0 = tkDrain) ∧
    (∃ s : State, s.trkState 0 = tkAcquire ∧ s.trkKind 0 = 1 ∧ (s.trkSmp 0 9 seen).present = true ∧
      s.flag Fld.ANG_CFG_INVERT 0 = false) ∧
    (∃ s : State, s.trkState 0 = tkAcquire ∧ s.trkKind 0 = 1 ∧ s.portOff 0 = true ∧ (s.trkSmp 0 9 seen).present = false) ∧
    (∃ s : State, s.trkState 0 = tkTrack ∧ s.trkKind 0 ≠ 4) ∧
    (∃ s : State, s.trkState 0 = tkCoast ∧ s.trkKind 0 ≠ 4 ∧ s.counts 0 = true ∧ (s.trkSmp 0 9 seen).present = true) ∧
    (∃ s : State, s.trkState 0 = tkCoast ∧ (s.trkSmp 0 9 seen).present = false) ∧
    (∃ s : State, s.trkState 0 = tkHeld ∧ s.trkKind 0 ≠ 4 ∧ (s.trkSmp 0 9 seen).present = true) ∧
    (∃ s : State, s.trkState 0 = tkHeld ∧ (s.trkSmp 0 9 seen).present = false) ∧
    (∃ (s : State) (t : Nat), s.trkState 0 = tkCoast ∧ (s.trkOf 0).coastAt = 7 ∧ t = 10526720007 ∧
      (s.trkOf 0).coastAt + s.trkFld 0 0x14 2 * ftuMs = t) ∧
    (∃ (s : State) (t : Nat), s.trkState 0 = tkCoast ∧ t = 10526720006 ∧
      t < (s.trkOf 0).coastAt + s.trkFld 0 0x14 2 * ftuMs) ∧
    (∃ s : State, s.counts 0 = true ∧ s.get Fld.ANG_CFG_SRC 0 = 3 ∧ s.trkState 0 = tkTrack) ∧
    (∃ s : State, s.trkState 0 ≠ tkAcquire ∧ s.trkState 0 ≠ tkTrack) ∧
    (∃ (s : State) (t : Nat), s.trkState 0 = tkAcquire ∧ s.trkKind 0 = 3 ∧ t = 102400 ∧ s.sarFresh 0 t = true) ∧
    (∃ (s : State) (t : Nat), s.trkState 0 = tkAcquire ∧ s.trkKind 0 = 3 ∧ t = 102401 ∧ s.sarFresh 0 t = false) ∧
    (∃ (s : State) (t : Nat), s.trkState 0 = tkTrack ∧ s.trkKind 0 = 3 ∧ (s.trkOf 0).lowSince = some 5 ∧ t = 5 + ftuMs ∧
      s.lossDue 0 t = true) ∧
    (∃ (s : State) (t : Nat), s.trkState 0 = tkTrack ∧ s.trkKind 0 = 3 ∧ (s.trkOf 0).lowSince = some 5 ∧ t + 1 = 5 + ftuMs ∧
      s.lossDue 0 t = false) ∧
    (∃ (s : State) (t : Nat), s.trkKind 0 = 4 ∧ (s.trkOf 0).slAt = 7 ∧ t = 7 ∧ s.lossDue 0 t = true) ∧
    ∃ s t : State, t.get Fld.ANG_STATE_DIR 0 ≠ s.get Fld.ANG_STATE_DIR 0 :=
  ⟨⟨base, by decide⟩, ⟨trk 1 tkDrain, by decide⟩, ⟨withRegs (trk 1 tkAcquire) [(Fld.MTR_PORT_STATUS_STATE, 0, 1)], by decide⟩, ⟨trk 1 tkAcquire, by decide⟩,
    ⟨trk 2 tkTrack, by decide⟩, ⟨trk 5 tkCoast, by decide⟩, ⟨trk 1 tkCoast, by decide⟩,
    ⟨withRegs (trk 1 tkHeld) [(Fld.MTR_PORT_STATUS_STATE, 0, 1)], by decide⟩, ⟨trk 1 tkHeld, by decide⟩,
    ⟨coasting, 10526720007, by decide +kernel⟩, ⟨coasting, 10526720006, by decide +kernel⟩, ⟨withRegs (trk 2 tkTrack) [(Fld.ANG_CFG_SRC, 0, 3)], by decide⟩,
    ⟨base, by decide⟩, ⟨trk 3 tkAcquire, 102400, by decide⟩, ⟨trk 3 tkAcquire, 102401, by decide⟩,
    ⟨{ trk 3 tkTrack with trk := [(0, { lowSince := some 5 })] }, 20480005, by decide +kernel⟩,
    ⟨{ trk 3 tkTrack with trk := [(0, { lowSince := some 5 })] }, 20480004, by decide +kernel⟩,
    ⟨{ trk 4 tkTrack with trk := [(0, { slAt := 7 })] }, 7, by decide +kernel⟩,
    base, regs [(Fld.ANG_STATE_DIR, 0, 1)], by decide⟩

theorem wit_AngleQueries :
    (∃ s : State, s.slOwner kern 0 = false) ∧
    (∃ s : State, s.slOwner kern 0 = true ∧ s.trkState 0 = tkCoast ∧ s.flag Fld.ANG_CFG_INVERT 0 = false) ∧
    (∃ w : Fin 5, masterNum kern.m ≠ w.val) ∧ (∃ w : Fin 5, masterNum port.m = w.val) ∧
    (∃ q : Qry, q.busy = true ∧ q.state = tkOff) ∧
    (∃ (q : Qry) (k : Int), q.busy = true ∧ q.state = tkCoast ∧ q.kind = false ∧ q.rate * (q.input - q.stamp) = k * 2 ^ 48) ∧
    (∃ q : Qry, q.busy = true ∧ q.state = tkTrack ∧ q.kind = true ∧ 0 < q.rate ∧ wrap64 (sgn 64 q.input - q.angle) < 0) ∧
    (∃ (s : State) (q : Qry), q.busy = true ∧ q.state = tkTrack ∧ q.kind = true ∧
      q.rate.natAbs * 204800000000000 < s.trkFld q.trk 0x20 4 * 2 ^ 80) ∧
    (∃ s : State, (s.qryOf 0).busy = false) ∧ ∃ s : State, (s.qryOf 0).busy = true :=
  ⟨⟨base, by decide⟩, ⟨trk 4 tkCoast, by decide⟩, ⟨1, by decide⟩, ⟨4, by decide⟩, ⟨{ busy := true }, by decide⟩,
    ⟨{ busy := true, state := tkCoast, rate := 2 ^ 48, input := 23, stamp := 20 }, 3, by decide +kernel⟩,
    ⟨{ busy := true, state := tkTrack, kind := true, rate := 5, input := 3, angle := 7 }, by decide +kernel⟩,
    ⟨{ base with img := { base.img with live := [{ typ := 0x30, inst := 0, flags := 0, index := 0, off := 0, val := List.replicate 48 2 }] } },
      { busy := true, state := tkTrack, kind := true, rate := 5 }, by decide +kernel⟩,
    ⟨base, by decide⟩, { base with qry := [(0, { busy := true })] }, by decide⟩

theorem wit_TimeAtAngleIsFirst : ∃ (qmin : Nat) (angle rate : Int) (stamp t : Nat) (a : Int),
    timeAt qmin angle rate stamp a = some t ∧ ∃ t', stamp ≤ t' ∧ t' < t :=
  ⟨0, 7, 2 ^ 47, 20, 26, 10, by decide +kernel, 25, by decide⟩

/-- Twill slot 0 with a record, owned by core 0, without a tracker, in a state. -/
def slotIn (st : Nat) (v : Slot) : State :=
  { recd 0x0031 0 [(Fld.TWL_SLOT_STATUS_STATE, 0, st), (Fld.TWL_SLOT_CFG_TRACKER, 0, 64), (Fld.TWL_PRED_LO_TIME, 0, 100),
      (Fld.TWL_PRED_HI_TIME, 0, 0)] with slot := [(0, v)] }

theorem wit_TwillSlots :
    (∃ s : State, s.slotOwner kern 0 = false) ∧
    (∃ s : State, s.slotOwner kern 0 = true ∧ s.tbRun = true ∧ s.get Fld.TWL_SLOT_ACT_KIND 0 ≠ 4) ∧
    (∃ s : State, s.slotOwner task 0 = true ∧ s.slotSt 0 = twCommit) ∧
    (∃ s : State, s.slotOwner task 0 = true ∧ s.slotSt 0 ≠ twCommit) ∧ ∃ frac : Nat, frac = 2 ^ 32 - 1 ∧ frac < 2 ^ 32 :=
  ⟨⟨base, by decide⟩, ⟨slotIn twIdle {}, by decide⟩, ⟨slotIn twCommit {}, by decide⟩, ⟨slotIn twPredict {}, by decide⟩,
    2 ^ 32 - 1, by decide +kernel⟩

theorem wit_TwillPasses :
    (∃ s : State, s.tbRun = false) ∧
    (∃ (s : State) (t : Nat), s.tbRun = true ∧ s.slotSt 0 = twPredict ∧ (s.slotOf 0).newTgt = none ∧ (s.slotOf 0).newStep = none ∧
      s.crossed 0 t = false ∧ s.slotTime 0 = some (t + 204800)) ∧
    (∃ (s : State) (t : Nat), s.tbRun = true ∧ s.slotSt 0 = twWait ∧ (s.slotOf 0).newTgt = none ∧ (s.slotOf 0).newStep = none ∧
      s.crossed 0 t = false ∧ s.slotTime 0 = some (t + 204801)) ∧
    (∃ (s : State) (t : Nat), s.tbRun = true ∧ s.slotSt 0 = twPredict ∧ s.crossed 0 t = true ∧ (s.slotOf 0).disarm = false ∧
      0 < (s.slotOf 0).step ∧ s.slotPure 0 = true) ∧
    (∃ (s : State) (t : Nat), s.tbRun = true ∧ s.slotSt 0 = twPredict ∧ s.crossed 0 t = true ∧ (s.slotOf 0).step = 0) ∧
    ∃ (s : State) (t : Nat), s.tbRun = true ∧ s.slotSt 0 = twPredict ∧ s.crossed 0 t = false ∧ s.slotTime 0 = none :=
  ⟨⟨State.reset, by decide⟩, ⟨slotIn twPredict { tgt := 204805, step := 3 }, 5, by decide +kernel⟩,
    ⟨slotIn twWait { tgt := 204806 }, 5, by decide +kernel⟩, ⟨slotIn twPredict { tgt := 5, step := 3 }, 5, by decide +kernel⟩,
    ⟨slotIn twPredict { tgt := 5 }, 5, by decide +kernel⟩,
    withRegs (slotIn twPredict { tgt := 5 }) [(Fld.TWL_SLOT_CFG_TRACKER, 0, 0)], 5, by decide +kernel⟩

theorem wit_TwillFires :
    (∃ (s : State) (t : Nat), s.slotSt 0 = twCommit ∧ t = 99 ∧ t < s.predTime 0) ∧
    (∃ (s : State) (t : Nat), s.slotSt 0 = twCommit ∧ t = 100 ∧ s.predTime 0 ≤ t ∧ (s.slotOf 0).disarm = true) ∧
    (∃ (s : State) (t x : Nat), s.slotSt 0 = twCommit ∧ s.predTime 0 ≤ t ∧ (s.slotOf 0).disarm = false ∧ (s.slotOf 0).newTgt = some x) ∧
    (∃ (s : State) (t : Nat), s.slotSt 0 = twCommit ∧ s.predTime 0 ≤ t ∧ (s.slotOf 0).disarm = false ∧ (s.slotOf 0).newTgt = none ∧
      (s.slotOf 0).step = 0 ∧ s.get Fld.TWL_SLOT_ACT_KIND 0 = 3) ∧
    (∃ (s : State) (t : Nat), s.slotSt 0 = twCommit ∧ s.predTime 0 ≤ t ∧ (s.slotOf 0).newTgt = none ∧
      0 < (s.slotOf 0).step ∧ s.get Fld.TWL_SLOT_ACT_KIND 0 = 7 ∧ bits (s.get Fld.TWL_SLOT_ACT_ARG 0) 8 2 = 1) ∧
    (∃ s : State, s.get Fld.TWL_SLOT_ACT_KIND 0 = 7 ∧ bits (s.get Fld.TWL_SLOT_ACT_ARG 0) 8 2 = 0 ∧
      ∀ m ∈ s.firingWith 0, 0 < m → s.get Fld.TWL_SLOT_ACT_KIND m ≠ 7) ∧
    ∃ (s : State) (t : Nat), s.twl.count ≤ 8 ∧ s.twl.count = 8 ∧ s.twl.cycle = cycleStart t :=
  ⟨⟨slotIn twCommit {}, 99, by decide +kernel⟩, ⟨slotIn twCommit { disarm := true }, 100, by decide +kernel⟩,
    ⟨slotIn twCommit { newTgt := some 9 }, 100, 9, by decide +kernel⟩,
    ⟨withRegs (slotIn twCommit {}) [(Fld.TWL_SLOT_ACT_KIND, 0, 3)], 100, by decide +kernel⟩,
    ⟨withRegs (slotIn twCommit { step := 4 }) [(Fld.TWL_SLOT_ACT_KIND, 0, 7), (Fld.TWL_SLOT_ACT_ARG, 0, 0x103)], 100, by decide +kernel⟩,
    ⟨withRegs (slotIn twCommit {}) [(Fld.TWL_SLOT_ACT_KIND, 0, 7)], by decide +kernel, by decide +kernel, fun m h p => by
      have l := List.mem_range.1 (List.mem_filter.1 h).1
      exact (show ∀ m : Nat, m < 1024 → 0 < m →
        (withRegs (slotIn twCommit {}) [(Fld.TWL_SLOT_ACT_KIND, 0, 7)]).get Fld.TWL_SLOT_ACT_KIND m ≠ 7 by decide +kernel) m l p⟩,
    { base with twl := { cycle := cycleStart 100, count := 8 } }, 100, Nat.le_refl 8, rfl, rfl⟩

/-! Fields written by `withRegs` keep the invariant. -/

theorem withRegs_inv (l : List (Fld × Nat × Nat)) (s : State) (w : s.Inv) (h : ∀ x ∈ l, x.1 ∈ x.1.reg.fields) :
    (withRegs s l).Inv := by
  induction l generalizing s with
  | nil => exact w
  | cons x t ih =>
    exact ih (s.set x.1 x.2.1 x.2.2) ⟨w.1, State.fieldsFit_set w.2 (h x (List.mem_cons_self ..)) _ _⟩
      (fun y m => h y (List.mem_cons_of_mem _ m))

theorem regs_inv (l : List (Fld × Nat × Nat)) (h : ∀ x ∈ l, x.1 ∈ x.1.reg.fields) : (regs l).Inv := withRegs_inv l base base_inv h

/-! Converters and local outputs. -/

/-- Converter 0 with a record, on in mode 0, core 0 armed. -/
def cnv (st : Nat) (v : Conv) : State :=
  { recd 0x0011 0 [(Fld.EDG_CNV_STATUS_STATE, 0, st), (Fld.SYS_CORE_ARM_ARM0, 0, 1)] with
    conv := [(0, v)], mode := { base.mode with mapCnv := [1] } }

def goodSet : PatSet := ⟨204800, [⟨0, 0, 100, 200⟩]⟩
def badSet : PatSet := ⟨204799, [⟨0, 0, 100, 200⟩]⟩

theorem cycleStart_le (t : Nat) : t ≤ cycleStart t ∧ cycleStart t ≤ t + 128 := by
  unfold cycleStart
  cases h : (List.range (2 * sysCycle)).find? (fun d => Config.cycleEdge (t + d)) with
  | none => exact ⟨by omega, by simp [sysCycle]⟩
  | some d =>
    have m := List.mem_range.1 (List.mem_of_find?_eq_some h)
    simp only [sysCycle] at m
    exact ⟨by simp, by simp; omega⟩

theorem beforeCycle_of_far {a b : Nat} (h : a + 128 < b) : beforeCycle a b = true :=
  decide_eq_true (Nat.lt_of_le_of_lt (cycleStart_le a).2 (Nat.lt_of_lt_of_le h (cycleStart_le b).1))

theorem beforeCycle_self (a : Nat) : beforeCycle a a = false := decide_eq_false (Nat.lt_irrefl _)

theorem wit_ConverterControl :
    (∃ s : State, s.hasRec 0x0011 0 = true ∧ isCore task (s.cnvOwner 0) = true ∧ (s.convOf 0).fresh = true ∧
      (s.convOf 0).nextB = none) ∧
    (∃ (s : State) (b : Nat), s.hasRec 0x0011 0 = true ∧ isCore task (s.cnvOwner 0) = true ∧ (s.convOf 0).fresh = true ∧
      (s.convOf 0).nextB = some b ∧ beforeCycle task.t (b - s.get Fld.EDG_CNV_LEAD_LEAD 0) = true) ∧
    (∃ (s : State) (b : Nat), s.hasRec 0x0011 0 = true ∧ isCore task (s.cnvOwner 0) = true ∧ (s.convOf 0).fresh = true ∧
      (s.convOf 0).nextB = some b ∧ beforeCycle task.t (b - s.get Fld.EDG_CNV_LEAD_LEAD 0) = false) ∧
    (∃ s : State, (s.convOf 0).fresh = false) ∧
    (∃ s : State, s.hasRec 0x0011 0 = false) ∧ (∃ s : State, s.hasRec 0x0011 0 = true ∧ isKernel task (s.cnvOwner 0) = false) ∧
    (∃ (s : State) (v : Word), s.hasRec 0x0011 0 = true ∧ isKernel kern (s.cnvOwner 0) = true ∧ v.toNat = 2 ∧ v.toNat < 3 ∧
      (s.convOf 0).built ≠ []) ∧
    (∃ v : Word, v.toNat = 3 ∧ 3 ≤ v.toNat) ∧ (∃ s : State, s.cnvOn 0 = false) ∧
    (∃ s : State, s.hasRec 0x0011 0 = true ∧ s.cnvOn 0 = true ∧ s.armed (s.cnvOwner 0) = false) ∧
    (∃ s : State, s.hasRec 0x0011 0 = true ∧ s.cnvOn 0 = true ∧ s.rank2 0 = true ∧ s.cnvState 0 ≠ cvDraining) ∧
    (∃ s : State, s.hasRec 0x0011 0 = true ∧ s.cnvOn 0 = true ∧ s.rank1 0 = true ∧ s.cnvState 0 ≠ cvDraining) ∧
    (∃ s : State, s.hasRec 0x0011 0 = true ∧ isKernel kern (s.cnvOwner 0) = true ∧ s.cnvOn 0 = true ∧
      s.armed (s.cnvOwner 0) = true ∧ s.rank1 0 = false ∧ s.rank2 0 = false ∧ s.cnvState 0 = cvOff) ∧
    (∃ s : State, s.hasRec 0x0011 0 = true ∧ s.cnvState 0 = cvTripped ∧ (∀ n : Fin 16, s.tripActive n = false) ∧
      s.rank1 0 = false) ∧ (∃ s : State, s.cnvState 0 = cvRun ∧ (s.convOf 0).force = 0) ∧
    (∃ s : State, s.cnvState 0 = cvRun ∧ (s.convOf 0).force = 1) ∧ (∃ s : State, s.cnvState 0 = cvWait) ∧
    ∃ s : State, s.cnvState 0 = cvDraining :=
  ⟨⟨cnv cvRun { fresh := true }, by decide⟩,
    ⟨cnv cvRun { fresh := true, nextB := some 138 }, 138, by decide, by decide, by decide, by decide, beforeCycle_of_far (by decide)⟩,
    ⟨cnv cvRun { fresh := true, nextB := some 9 }, 9, by decide, by decide, by decide, by decide, beforeCycle_self 9⟩,
    ⟨cnv cvRun {}, by decide⟩, ⟨base, by decide⟩, ⟨cnv cvRun {}, by decide⟩,
    ⟨cnv cvRun { built := [⟨133129, goodSet, []⟩] }, 2, by decide⟩,
    ⟨3, by decide⟩, ⟨base, by decide⟩, ⟨withRegs (cnv cvOff {}) [(Fld.SYS_CORE_ARM_ARM0, 0, 0)], by decide⟩,
    ⟨withRegs (cnv cvTripped {}) [(Fld.EDG_CNV_TRIPSRC_TRIPS, 0, 2)], by decide⟩,
    ⟨{ cnv cvOff {} with pow := { base.pow with st := .safeHold } }, by decide⟩, ⟨cnv cvOff {}, by decide⟩,
    ⟨withRegs (cnv cvTripped {}) ((List.range 16).map (fun n => (Fld.EDG_TRIP_CFG_POL, n, 1))), by decide +kernel⟩,
    ⟨cnv cvRun {}, by decide⟩, ⟨cnv cvRun { force := 1 }, by decide⟩, ⟨cnv cvWait {}, by decide⟩, cnv cvDraining {}, by decide⟩

theorem wit_ConverterPeriods :
    (∃ s : State, s.get Fld.EDG_CNV_CFG_SYNC 0 = 0 ∧ s.cnvState 0 = cvRun ∧ (s.convOf 0).nextB = some 900 ∧ s.pendingMode 900 = none ∧
      (s.convOf 0).fresh = false ∧ (s.convOf 0).com = some goodSet ∧ goodSet.bad goodSet.period = false) ∧
    (∃ (s : State) (t : Nat), s.get Fld.EDG_CNV_CFG_SYNC 0 = 0 ∧ s.cnvState 0 = cvRun ∧ (s.convOf 0).nextB = some 900 ∧
      s.pendingMode 900 = none ∧ (s.convOf 0).fresh = true ∧ beforeCycle (s.convOf 0).comAt t = true ∧
      (s.convOf 0).com = some goodSet) ∧
    (∃ (s : State) (t : Nat), s.get Fld.EDG_CNV_CFG_SYNC 0 = 0 ∧ s.cnvState 0 = cvRun ∧ (s.convOf 0).nextB = some 900 ∧
      s.pendingMode 900 = none ∧ (s.convOf 0).fresh = true ∧ beforeCycle (s.convOf 0).comAt t = false ∧
      (s.convOf 0).prev = some goodSet) ∧
    (∃ s : State, s.get Fld.EDG_CNV_CFG_SYNC 0 = 0 ∧ s.cnvState 0 = cvRun ∧ (s.convOf 0).nextB = some 900 ∧ s.pendingMode 900 = none ∧
      (s.convOf 0).fresh = false ∧ (s.convOf 0).com = some badSet ∧ badSet.bad badSet.period = true ∧
      (s.convOf 0).good = some goodSet) ∧
    (∃ s : State, s.cnvState 0 ≠ cvWait ∧ s.cnvState 0 ≠ cvRun) ∧
    (∃ (s : State) (t : Nat), s.cnvState 0 ≠ cvDraining ∧ (s.convOf 0).built = [⟨900, goodSet, []⟩] ∧ (s.convOf 0).drain = false ∧
      t = 900 ∧ (s.convOf 0).forceQ = [(900, 1)]) ∧
    (∃ (s : State) (t : Nat), (s.convOf 0).built = [⟨900, goodSet, []⟩] ∧ t = 899 ∧ t < 900) ∧
    (∃ at_ bound : Nat, at_ = bound ∧ at_ ≤ bound) ∧
    (∃ s : State, s.cnvState 0 = cvDraining ∧ (s.convOf 0).enHeld = false ∧ s.boundDue 0 205700 = true) ∧
    ∃ (period mp : Nat) (l : LegPat), l.mode = 0 ∧ l.on ≤ period ∧ l.off ≤ period ∧ mp ≤ period ∧ mp = 10 ∧
      onTime period l.on l.off = 9 :=
  ⟨⟨cnv cvRun { nextB := some 900, com := some goodSet }, by decide +kernel⟩,
    ⟨cnv cvRun { nextB := some 900, fresh := true, com := some goodSet }, 129, by decide, by decide, by decide, by decide, by decide,
      beforeCycle_of_far (by decide), by decide⟩,
    ⟨cnv cvRun { nextB := some 900, fresh := true, prev := some goodSet }, 0, by decide, by decide, by decide, by decide, by decide,
      beforeCycle_self 0, by decide⟩,
    ⟨cnv cvRun { nextB := some 900, com := some badSet, good := some goodSet }, by decide +kernel⟩, ⟨cnv cvOff {}, by decide⟩,
    ⟨cnv cvWait { built := [⟨900, goodSet, []⟩], forceQ := [(900, 1)] }, 900, by decide +kernel⟩,
    ⟨cnv cvWait { built := [⟨900, goodSet, []⟩] }, 899, by decide⟩, ⟨5, 5, by decide⟩,
    ⟨cnv cvDraining { cur := some ⟨900, goodSet, []⟩ }, by decide⟩,
    300, 10, ⟨0, 0, 100, 109⟩, by decide⟩

/-- Local output 0 with a record, on in mode 0, core 0 armed. -/
def loc (v : Loc) (l : List (Fld × Nat × Nat)) : State :=
  { recd 0x0040 0 ((Fld.SYS_CORE_ARM_ARM0, 0, 1) :: l) with loc := [(0, v)], mode := { base.mode with mapLoc := [1] } }

theorem wit_LocalOutputs :
    (∃ s : State, s.hasRec 0x0040 0 = false) ∧ (∃ s : State, s.hasRec 0x0040 0 = true ∧ isKernel task (s.locOwner 0) = false) ∧
    (∃ s : State, s.hasRec 0x0040 0 = true ∧ isCore task (s.locOwner 0) = true) ∧
    (∃ s : State, s.hasRec 0x0040 0 = true ∧ isKernel kern (s.locOwner 0) = true ∧ s.locOn 0 = true ∧
      s.armed (s.locOwner 0) = true ∧ s.locRank1 0 = false ∧ (s.locOf 0).trips = 0 ∧ (s.locOf 0).state = cvSafe) ∧
    (∃ s : State, (s.locOf 0).state = cvRun ∧ s.get Fld.EDG_LOC_CFG_SAFE 0 ≠ 2) ∧ (∃ s : State, (s.locOf 0).state = cvWait) ∧
    (∃ s : State, s.hasRec 0x0040 0 = true ∧ isKernel kern (s.locOwner 0) = true ∧ s.flag Fld.EDG_LOC_CFG_FORCE_LOCK 0 = true) ∧
    (∃ s : State, (s.locOf 0).state = cvDraining ∧ (s.locOf 0).enHeld = false) ∧
    (∃ s : State, (s.locOf 0).state = cvRun ∧ (s.locOf 0).force = 2) ∧
    (∃ s : State, s.tripDue 0 67 = false ∧ s.flag Fld.EDG_TRIP_CFG_MODE 0 = false ∧ (s.tripOf 0).since = 5) ∧
    (∃ s : State, (s.tripOf 0).asserted = true ∧ s.tripAgain 0 = false) ∧
    (∃ s : State, s.flag Fld.EDG_TRIP_CFG_MODE 0 = true ∧ s.inWindow 0 150 = true) ∧
    (∃ s : State, (s.tripOf 0).asserted = true ∧ s.tripAgain 0 = true ∧ s.tripDue 0 400 = true) ∧
    ∃ s : State, s.tripDue 0 68 = true ∧ (s.tripOf 0).asserted = false ∧ s.flag Fld.EDG_TRIP_CFG_MODE 0 = false ∧
      s.hasRec 0x0011 0 = true ∧ (s.get Fld.EDG_CNV_PROT_TRIPMASK 0).testBit 0 = true :=
  ⟨⟨base, by decide⟩, ⟨loc {} [], by decide⟩, ⟨loc {} [], by decide⟩, ⟨loc { state := cvSafe } [], by decide⟩,
    ⟨loc { state := cvRun } [], by decide⟩, ⟨loc { state := cvWait } [], by decide⟩,
    ⟨loc {} [(Fld.EDG_LOC_CFG_FORCE_LOCK, 0, 1)], by decide⟩, ⟨loc { state := cvDraining } [], by decide⟩,
    ⟨loc { state := cvRun, force := 2 } [], by decide⟩,
    ⟨{ withRegs (cnv cvRun {}) [(Fld.EDG_TRIP_CFG_FILT, 0, 2)] with trip := [(0, { since := 5 })] }, by decide⟩,
    ⟨{ base with trip := [(0, { asserted := true })] }, by decide⟩,
    ⟨{ loc { state := cvRun, cur := some ⟨50, goodSet, []⟩ } [(Fld.EDG_TRIP_CFG_MODE, 0, 1)] with trip := [] }, by decide⟩,
    ⟨{ loc { state := cvRun, cur := some ⟨50, goodSet, []⟩ } [(Fld.EDG_TRIP_CFG_MODE, 0, 1)] with
      trip := [(0, { asserted := true, assertAt := 49 })] }, by decide⟩,
    { withRegs (cnv cvRun {}) [(Fld.EDG_CNV_PROT_TRIPMASK, 0, 1), (Fld.EDG_TRIP_CFG_FILT, 0, 2)] with trip := [(0, { since := 5 })] }, by decide⟩

/-! The Selvedge buses and the companions. -/

/-- Bus 0 runs, leg 1 in a state belongs to converter 0. -/
def leg (st : Nat) (v : Drop) (l : List (Fld × Nat × Nat)) : State :=
  { recd 0x0011 0 ([(Fld.SEL_BUS_STATUS_STATE, 0, 1), (Fld.SEL_DROP_STATE_STATE, 1, st), (Fld.EDG_LEG_MAP_MEMBER, 1, 1)] ++ l) with
    drop := [(1, v)] }

/-- A data frame with its SYNC and CRC (Table 8.3). -/
def upFrame (status : Nat) : BitVec 64 := BitVec.ofNat 64 (0xB4 * 2 ^ 56 + status * 2 ^ 8 + crc8 48 status)

/-- An ENUM answer of a serial with its SYNC and CRC (Table 8.5). -/
def enumAns (serial : Nat) : BitVec 56 :=
  let d := 0xB001 * 2 ^ 24 + serial
  BitVec.ofNat 56 (0xB4 * 2 ^ 48 + d * 256 + crc8 40 d)

theorem wit_SelvedgeFrames :
    (∃ s : State, s.busRuns 0 = false) ∧
    ∃ s : State, s.busRuns 0 = true ∧ s.admitted (16 * 0 + 1) = true :=
  ⟨⟨base, by decide⟩, leg dpAdmitted {} [], by decide⟩

theorem wit_DataFrames :
    (∃ f : BitVec 64, dataFrame? f = none) ∧
    (∃ (s : State) (d : DataFrame), dataFrame? (upFrame 0x202) = some d ∧ s.busRuns 0 = true ∧ s.admitted 1 = true ∧
      d.status.testBit 9 = true ∧ (s.dropOf 1).fault = false ∧ s.legConv 1 = some 0 ∧ s.legOut 1 = false ∧
      s.flag Fld.BTR_DRIVE_CFG_BRAKE 1 = false) ∧
    (∃ s : State, s.busRuns 0 = true ∧ dpAlign = s.dropState 1 ∧ dpAlign ≤ s.dropState 1 ∧ s.dropState 1 ≤ dpAdmitted) ∧
    (∃ (s : State) (d : DataFrame), dataFrame? (upFrame 3) = some d ∧ d.status % 8 = 3 ∧ d.status % 8 ≠ (s.dropOf 1).state ∧
      (s.dropOf 1).errN = 256) ∧
    (∃ s : State, s.busRuns 0 = true ∧ s.dropState 1 = dpConfig ∧ (s.dropOf 1).miss = 1) ∧
    (∃ s : State, s.busRuns 0 = true ∧ s.dropState 1 = dpConfirm ∧ (s.dropOf 1).miss = 2) ∧
    (∃ s : State, s.busRuns 0 = true ∧ s.admitted 1 = true ∧ (s.dropOf 1).miss = 1 ∧ (s.dropOf 1).miss < 2) ∧
    (∃ s : State, s.busRuns 0 = true ∧ s.admitted 1 = true ∧ 2 ≤ (s.dropOf 1).miss) ∧
    (∃ s : State, s.legStale 1 = false ∧ agrees 2 3 = false) ∧
    (∃ s : State, (s.dropOf 1).disc = 1 ∧ (s.dropOf 1).discBad = true) ∧
    (∃ s : State, (s.dropOf 1).disc = 1 ∧ (s.dropOf 1).discBad = false ∧ agrees 2 (s.get Fld.BTR_STATE_STATE 1) = false) ∧
    (∃ s : State, 1 < (s.dropOf 1).disc ∧ (s.dropOf 1).disc = 2) ∧
    (∃ s : State, (s.dropOf 1).disc = 1 ∧ (s.dropOf 1).discBad = false ∧ agrees 2 (s.get Fld.BTR_STATE_STATE 1) = true) ∧
    (∃ s : State, s.legStale 1 = true ∧ (s.dropOf 1).agree = some 2 ∧ agrees 2 (s.get Fld.BTR_STATE_STATE 1) = true) ∧
    ∃ s : State, s.legStale 1 = true ∧ (s.dropOf 1).agree ≠ none ∧ agrees 2 (s.get Fld.BTR_STATE_STATE 1) = false :=
  ⟨⟨0, by decide⟩, ⟨leg dpAdmitted {} [], { cur := 0, aux := 0, status := 0x202 }, by decide +kernel⟩,
    ⟨leg dpAlign {} [], by decide⟩, ⟨leg dpAdmitted { errN := 256 } [], { cur := 0, aux := 0, status := 3 }, by decide +kernel⟩,
    ⟨leg dpConfig { miss := 1 } [], by decide⟩, ⟨leg dpConfirm { miss := 2 } [], by decide⟩,
    ⟨leg dpAdmitted { miss := 1 } [], by decide⟩, ⟨leg dpAdmitted { miss := 2 } [], by decide⟩,
    ⟨leg dpAdmitted {} [], by decide⟩, ⟨leg dpAdmitted { disc := 1, discBad := true } [], by decide⟩,
    ⟨leg dpAdmitted { disc := 1 } [(Fld.BTR_STATE_STATE, 1, 3)], by decide⟩, ⟨leg dpAdmitted { disc := 2 } [], by decide⟩,
    ⟨leg dpAdmitted { disc := 1 } [(Fld.BTR_STATE_STATE, 1, 2)], by decide⟩,
    ⟨leg dpAdmitted { agree := some 2 } [(Fld.BTR_STATE_STATE, 1, 2), (Fld.FLT_STALE_STALE, 0, 2)], by decide⟩,
    leg dpAdmitted { agree := some 0 } [(Fld.BTR_STATE_STATE, 1, 3), (Fld.FLT_STALE_STALE, 0, 2)], by decide⟩

theorem wit_Drops :
    (∃ s : State, s.busRuns 0 = true ∧ s.get Fld.SEL_BUS_STATUS_S15OP 0 = 1 ∧ s.get Fld.SEL_BUS_STATUS_S15DROP 0 = 1 ∧
      s.dropState 1 = dpEnum ∧ 2 ≤ (s.dropOf 1).clash) ∧
    (∃ a : BitVec 56, bits a.toNat 48 8 = 0xB4 ∧ crc8 40 (bits a.toNat 8 40) = bits a.toNat 0 8 ∧ bits a.toNat 32 16 = 0xB001) ∧
    (∃ a : BitVec 56, crc8 40 (bits a.toNat 8 40) ≠ bits a.toNat 0 8) ∧
    (∃ echo : EchoRx, echo.bits.toNat ≠ 0xB400 + 16 * ((1 : Fin 256).val % 16)) ∧
    (∃ echo : EchoRx, echo.bits.toNat = 0xB400 + 16 * ((1 : Fin 256).val % 16)) ∧
    (∃ s : State, s.busRuns 0 = true ∧ s.get Fld.SEL_BUS_STATUS_S15OP 0 = 2 ∧ s.get Fld.SEL_BUS_STATUS_S15DROP 0 = 1 ∧
      s.dropState 1 = dpCal ∧ (s.dropOf 1).answered = false ∧ (s.dropOf 1).echoes = 14) ∧
    (∃ s : State, s.dropState 1 = dpCal ∧ 15 ≤ (s.dropOf 1).echoes) ∧ (∃ s : State, (s.dropOf 1).errN = 255) ∧
    (∃ s : State, 256 ≤ (s.dropOf 1).errN ∧ (s.dropOf 1).errSum.natAbs = 255 ∧ (s.dropOf 1).errSum.natAbs < (s.dropOf 1).errN) ∧
    (∃ s : State, 256 ≤ (s.dropOf 1).errN ∧ 40 * (s.dropOf 1).errN < (s.dropOf 1).errSum.natAbs) ∧
    (∃ o : MgmtOp, o.drop = 1 ∧ o.sent = true ∧ o.tag = some 2 ∧ 4 ≤ o.missed) ∧
    (∃ s : State, s.legOwner kern 1 = true ∧ dpAlign ≤ s.dropState 1 ∧ s.dropState 1 ≤ dpAdmitted) ∧
    (∃ s : State, s.legOwner kern 1 = false) ∧
    (∃ (s : State) (t : Nat), s.legStale 1 = true ∧ s.admitted 1 = true ∧ t = 7 + 3 * 4 * busCycle ∧ s.rereadDue 1 t = true) ∧
    (∃ (s : State) (t : Nat), s.legStale 1 = true ∧ s.admitted 1 = true ∧ t + 1 = 7 + 3 * 4 * busCycle ∧ s.rereadDue 1 t = false) ∧
    ∃ s : State, s.legStale 1 = false :=
  ⟨⟨leg dpEnum { clash := 2 } [(Fld.SEL_BUS_STATUS_S15OP, 0, 1), (Fld.SEL_BUS_STATUS_S15DROP, 0, 1)], by decide⟩,
    ⟨enumAns 1234, by decide +kernel⟩, ⟨enumAns 1234 + 1, by decide +kernel⟩, ⟨⟨9, 0xB420⟩, by decide⟩, ⟨⟨9, 0xB410⟩, by decide⟩,
    ⟨leg dpCal { echoes := 14 } [(Fld.SEL_BUS_STATUS_S15OP, 0, 2), (Fld.SEL_BUS_STATUS_S15DROP, 0, 1)], by decide⟩,
    ⟨leg dpCal { echoes := 15 } [], by decide⟩, ⟨leg dpCal { errN := 255 } [], by decide⟩,
    ⟨leg dpAdmitted { errN := 256, errSum := -255 } [], by decide⟩, ⟨leg dpAdmitted { errN := 256, errSum := 10241 } [], by decide +kernel⟩,
    ⟨{ drop := 1, write := false, tag := some 2, dst := .half 32, data := 0, sent := true, missed := 4 }, by decide⟩,
    ⟨leg dpAdmitted {} [], by decide⟩, ⟨base, by decide⟩, ⟨leg dpAdmitted { staleAt := 7 } [(Fld.FLT_STALE_STALE, 0, 2), (Fld.FLT_DEV_STALEPER, 0, 3)],
      7 + 3 * 4 * busCycle, by decide +kernel⟩,
    ⟨leg dpAdmitted { staleAt := 7 } [(Fld.FLT_STALE_STALE, 0, 2), (Fld.FLT_DEV_STALEPER, 0, 3)],
      7 + 3 * 4 * busCycle - 1, by decide +kernel⟩,
    base, by decide⟩

theorem wit_NoShootThrough : ∃ s t : State, (∀ n, (s.compOf n).sidesApart) ∧ step s = .next t :=
  ⟨{ base with pending := [.testLogicReset] }, _, fun n => by
    have e : ({ base with pending := [.testLogicReset] } : State).compOf n = {} := rfl
    rw [e]; exact ⟨by decide, by decide⟩, rfl⟩

theorem crc16_append (c : Nat) (a b : List Bool) : crc16 c (a ++ b) = crc16 (crc16 c a) b := by
  induction a generalizing c with
  | nil => rfl
  | cons x t ih => exact ih _

theorem scramble_scramble (n : Nat) (l : List Bool) : scramble n (scramble n l) = l := by
  induction l generalizing n with
  | nil => rfl
  | cons x t ih => simp only [scramble, ih]; cases x <;> simp

theorem scramble_length (n : Nat) (l : List Bool) : (scramble n l).length = l.length := by
  induction l generalizing n with
  | nil => rfl
  | cons x t ih => simp [scramble, ih]

theorem crc16_zeros (c n : Nat) : crc16 c (List.replicate (52 + n) false) = crc16 (crc16 c (List.replicate 52 false)) (List.replicate n false) := by
  rw [← List.replicate_append_replicate, crc16_append]

/-- Bits of a number, the highest first. -/
def natBits (w n : Nat) : List Bool := (List.range w).map (fun k => n.testBit (w - 1 - k))

/-- A frame B of a body and a CRC, with its SYNC and FHDR (R145). -/
def downFrame (body : List Bool) (crc : Nat) : List Bool :=
  natBits 16 0xF628 ++ (natBits 16 32768 ++ (scramble 32767 body ++ (natBits 16 crc ++ [false])))

theorem downFrame_ok (body : List Bool) (crc : Nat) (l : body.length = 576)
    (h : crc16 (crc16 65535 (natBits 16 32768)) body = bitsNat (natBits 16 crc)) :
    downFrame? (downFrame body crc) = some (true, body) := by
  have ln : ∀ w n, (natBits w n).length = w := fun w n => by simp [natBits]
  have e1 : (downFrame body crc).take 16 = natBits 16 0xF628 := List.take_left' (ln _ _)
  have e2 : (downFrame body crc).drop 16 = natBits 16 32768 ++ (scramble 32767 body ++ (natBits 16 crc ++ [false])) :=
    List.drop_left' (ln _ _)
  have e3 : (downFrame body crc).drop 32 = scramble 32767 body ++ (natBits 16 crc ++ [false]) := by
    rw [show 32 = 16 + 16 from rfl, ← List.drop_drop, e2]; exact List.drop_left' (ln _ _)
  have e4 : (downFrame body crc).drop 608 = natBits 16 crc ++ [false] := by
    rw [show 608 = 32 + 576 from rfl, ← List.drop_drop, e3]
    exact List.drop_left' (by rw [scramble_length, l])
  have e5 : (downFrame body crc).length = 625 := by simp [downFrame, ln, scramble_length, l]
  have e6 : (scramble 32767 body ++ (natBits 16 crc ++ [false])).take 576 = scramble 32767 body :=
    List.take_left' (by rw [scramble_length, l])
  unfold downFrame?
  simp only [e1, e2, e3, e4, e5, e6, scramble_scramble, crc16_append, List.take_left' (ln 16 32768), List.take_left' (ln 16 crc)]
  rw [if_pos ⟨trivial, by decide, h⟩]
  simp only [show bitsNat (natBits 16 32768) = 32768 by decide, decide_true]

theorem crc16_end : crc16 (crc16 65535 (natBits 16 32768)) [false, false, false, false] = 26992 := by decide +kernel
theorem crc16_bad : crc16 (crc16 65535 (natBits 16 32768)) [false, true, false, true] = 14805 := by decide +kernel

/-- Bodies that begin with BTYPE 0 and with BTYPE 5. -/
def endBody : List Bool := [false, false, false, false] ++ List.replicate 572 false
def badBody : List Bool := [false, true, false, true] ++ List.replicate 572 false

theorem downFrame_end : downFrame? (downFrame endBody 21653) = some (true, endBody) := by
  refine downFrame_ok _ _ (by rw [endBody, List.length_append, List.length_replicate]; rfl) ?_
  rw [endBody, crc16_append, crc16_end]
  rw [crc16_zeros 26992 520, show crc16 26992 (List.replicate 52 false) = 42944 by decide +kernel]
  rw [crc16_zeros _ 468, show crc16 42944 (List.replicate 52 false) = 48433 by decide +kernel]
  rw [crc16_zeros _ 416, show crc16 48433 (List.replicate 52 false) = 9505 by decide +kernel]
  rw [crc16_zeros _ 364, show crc16 9505 (List.replicate 52 false) = 40813 by decide +kernel]
  rw [crc16_zeros _ 312, show crc16 40813 (List.replicate 52 false) = 115 by decide +kernel]
  rw [crc16_zeros _ 260, show crc16 115 (List.replicate 52 false) = 50351 by decide +kernel]
  rw [crc16_zeros _ 208, show crc16 50351 (List.replicate 52 false) = 33071 by decide +kernel]
  rw [crc16_zeros _ 156, show crc16 33071 (List.replicate 52 false) = 15679 by decide +kernel]
  rw [crc16_zeros _ 104, show crc16 15679 (List.replicate 52 false) = 36224 by decide +kernel]
  rw [crc16_zeros _ 52, show crc16 36224 (List.replicate 52 false) = 14939 by decide +kernel]
  decide +kernel

theorem downFrame_bad : downFrame? (downFrame badBody 32223) = some (true, badBody) := by
  refine downFrame_ok _ _ (by rw [badBody, List.length_append, List.length_replicate]; rfl) ?_
  rw [badBody, crc16_append, crc16_bad]
  rw [crc16_zeros 14805 520, show crc16 14805 (List.replicate 52 false) = 19799 by decide +kernel]
  rw [crc16_zeros _ 468, show crc16 19799 (List.replicate 52 false) = 15349 by decide +kernel]
  rw [crc16_zeros _ 416, show crc16 15349 (List.replicate 52 false) = 62239 by decide +kernel]
  rw [crc16_zeros _ 364, show crc16 62239 (List.replicate 52 false) = 57235 by decide +kernel]
  rw [crc16_zeros _ 312, show crc16 57235 (List.replicate 52 false) = 16314 by decide +kernel]
  rw [crc16_zeros _ 260, show crc16 16314 (List.replicate 52 false) = 41208 by decide +kernel]
  rw [crc16_zeros _ 208, show crc16 41208 (List.replicate 52 false) = 5277 by decide +kernel]
  rw [crc16_zeros _ 156, show crc16 5277 (List.replicate 52 false) = 44401 by decide +kernel]
  rw [crc16_zeros _ 104, show crc16 44401 (List.replicate 52 false) = 39905 by decide +kernel]
  rw [crc16_zeros _ 52, show crc16 39905 (List.replicate 52 false) = 21657 by decide +kernel]
  decide +kernel

theorem wit_DownFrames : downFrame? [true] = none ∧
    (∃ f b body, downFrame? f = some (b, body) ∧ bitsNat (body.take 4) = 0) ∧
    ∃ f b body, downFrame? f = some (b, body) ∧ 5 ≤ bitsNat (body.take 4) :=
  ⟨by decide, ⟨_, _, _, downFrame_end, by decide⟩, _, _, _, downFrame_bad, by decide⟩

/-- A companion of bus 0 in a state, supplied and aligned. -/
def cmpn : Comp := { vddp := true, vls := true, vhs := true, supok10 := true, aligned := true, st := .run, cur := some ⟨100, 50, 0, 3, 4⟩ }

theorem wit_CompanionFrames :
    (∃ c : Comp, c.vddp = true ∧ c.aligned = false) ∧
    (∃ (c : Comp) (t : Nat), c.aligned = true ∧ t = 51200 ∧ c.now t % busCycle = 51200) ∧
    (∃ (c : Comp) (t : Nat), c.aligned = true ∧ c.now t % busCycle = 51199 ∧ c.now t / busCycle = c.cyc + 4) ∧
    (∃ (c : Comp) (t : Nat), c.vddp = true ∧ c.aligned = true ∧ c.now t % busCycle = 51199 ∧ c.now t / busCycle = c.cyc + 5 ∧
      c.st ≠ .latched) ∧
    (∃ c : Comp, c.vddp = true ∧ c.st = .run ∧ c.act.brake ≠ 1 ∧ c.cur.isSome = true ∧ c.act.safe ≠ 2) ∧
    (∃ c : Comp, c.vddp = true ∧ c.st = .run ∧ c.act.safe = 2 ∧ c.cur.isSome = true) ∧
    (∃ (c : Comp) (q : CPat), c.queue = [q] ∧ q.bound = 150) ∧
    (∃ c : Comp, (∀ q ∈ c.queue, q.bound ≠ 149) ∧ c.lastEnd.getD (c.now 9) = 150 ∧ 149 < c.lastEnd.getD (c.now 9)) ∧
    (∃ c : Comp, (∀ q ∈ c.queue, q.bound ≠ 450) ∧ c.lastEnd.getD (c.now 9) ≤ 450 ∧ c.queue.length = 7) ∧
    (∃ c : Comp, (∀ q ∈ c.queue, q.bound ≠ 150) ∧ c.lastEnd.getD (c.now 9) = 150 ∧ c.queue.length < 7) ∧
    (∃ c : Comp, c.vddp = true ∧ c.st = .latched) ∧ (∃ c : Comp, c.vddp = false) ∧
    (∃ a : Fin 128, 4 ≤ a.val ∧ a.val = 23 ∧ a.val < 24) ∧ (∃ v : BitVec 16, v.getLsbD 0 = true) ∧
    (∃ c : Comp, c.vddp = true ∧ c.st = .safe ∧ c.mayClear = true) ∧ (∃ c : Comp, c.vddp = true ∧ c.st = .safe ∧ c.mayClear = false) ∧
    (∃ (c : Comp) (t : Nat), c.vddp = true ∧ c.aligned = true ∧ c.now t / busCycle % 4 = 1) ∧
    ∃ (c : Comp) (t : Nat), c.vddp = true ∧ c.aligned = true ∧ c.now t / busCycle % 2 = 0 :=
  ⟨⟨{ cmpn with aligned := false }, by decide⟩, ⟨cmpn, 51200, by decide⟩, ⟨cmpn, 460799, by decide⟩, ⟨cmpn, 563199, by decide⟩,
    ⟨cmpn, by decide⟩, ⟨{ cmpn with act := { safe := 2 } }, by decide⟩, ⟨{ cmpn with queue := [⟨150, 50, 0, 3, 4⟩] }, ⟨150, 50, 0, 3, 4⟩, by decide⟩, ⟨cmpn, by decide⟩,
    ⟨{ cmpn with queue := (List.range 7).map (fun k => ⟨100 + 50 * k, 50, 0, 3, 4⟩) }, by decide⟩, ⟨cmpn, by decide⟩,
    ⟨{ cmpn with st := .latched }, by decide⟩, ⟨{}, by decide⟩, ⟨23, by decide⟩, ⟨1, by decide⟩,
    ⟨{ cmpn with st := .safe, act := { ovth := 1 } }, by decide⟩, ⟨{ cmpn with st := .safe }, by decide⟩,
    ⟨cmpn, 102400, by decide⟩, cmpn, 0, by decide⟩

theorem wit_CompanionDrive :
    (∃ (c : Comp) (q : CPat), c.vddp = true ∧ c.st = .run ∧ c.holdOne = false ∧ c.cur = some q ∧ c.now 149 < q.bound + q.period) ∧
    (∃ (c : Comp) (q p : CPat), c.vddp = true ∧ c.st = .run ∧ c.holdOne = false ∧ c.cur = some q ∧
      q.bound + q.period ≤ c.now 150 ∧ c.applyPend = true ∧ c.queue = [p] ∧ p.bound = q.bound + q.period) ∧
    (∃ s : State, s.twillLeg 1 = true) ∧ (∃ s : State, s.twillLeg 1 = false) ∧
    (∃ (c : Comp) (q : CPat), c.cur = some q ∧ c.holdOne = false ∧ c.queue = [] ∧ c.starveHold = true ∧ c.repeated = false) ∧
    (∃ (c : Comp) (q : CPat), c.cur = some q ∧ c.holdOne = false ∧ c.queue = [] ∧ c.starveHold = true ∧ c.repeated = true) ∧
    (∃ c : Comp, c.vddp = true ∧ c.edgeDue 102 .low = false) ∧
    (∃ c : Comp, c.vddp = true ∧ c.edgeDue 103 .low = true ∧ c.want = some .low) ∧
    (∃ c : Comp, c.edgeDue 103 .low = true ∧ c.want = none ∧ c.lo = true ∧ c.hi = false ∧ c.can .high = true) ∧
    (∃ c : Comp, c.edgeDue 104 .high = true ∧ c.want = none ∧ c.hi = true ∧ c.lo = false ∧ c.can .low = true) ∧
    (∃ c : Comp, c.act.mode = 0 ∧ c.sensed = false ∧ c.dead = some .low ∧ c.want = some .high ∧ c.deadAt + 40960 ≤ 40960) ∧
    (∃ c : Comp, 40959 < c.deadAt + 40960) ∧
    (∃ c : Comp, c.dead ≠ none ∧ c.sensed = true ∧ c.deadAt + 16 * c.act.dt ≤ 80 ∧ c.want = some .high ∧ c.can .high = true) ∧
    (∃ c : Comp, c.dead ≠ none ∧ c.sensed = true ∧ 79 < c.deadAt + 16 * c.act.dt) ∧
    (∃ c : Comp, c.dead ≠ none ∧ c.act.mode ≠ 0 ∧ c.want = some .low ∧ c.can .low = true) ∧
    (∃ (c : Comp) (p : CPat), c.cur = some p ∧ p.mode = 0 ∧ p.on ≠ p.off ∧ c.st = .run) ∧
    (∃ c : Comp, c.edges = [(.hon, 5)] ∧ 5 + 20480 ≤ 20485) ∧ (∃ c : Comp, ∀ x ∈ c.edges, x.1 ≠ .hon ∨ 20484 < x.2 + 20480) ∧
    (∃ c : Comp, ∀ x ∈ c.edges, 20486 < x.2 ∨ x.2 + 20480 < 20486) ∧
    (∃ (c : Comp) (t10 t90 : Nat), c.vddp = true ∧ c.edges = [(.hon, 5)] ∧ 5 ≤ t10 ∧ t10 = 5 + 20480 ∧ c.act.adapt ≠ 0 ∧
      c.act.imin ≤ (5 : Int).natAbs ∧ 32 * (c.act.target + c.act.tol) < 25 * tswUnits t10 t90 ∧ c.strength .hon < c.act.smax) ∧
    (∃ (c : Comp) (t10 t90 : Nat), c.edges = [(.lon, 5)] ∧ t10 = 5 ∧ c.act.adapt ≠ 0 ∧
      25 * tswUnits t10 t90 + 32 * c.act.tol < 32 * c.act.target ∧ c.strength .lon ≤ c.act.smin) ∧
    ∃ c : Comp, c.vddp = true ∧ c.act.adapt ≠ 0 ∧ (4 : Int).natAbs < c.act.imin :=
  ⟨⟨cmpn, ⟨100, 50, 0, 3, 4⟩, by decide⟩,
    ⟨{ cmpn with applyPend := true, queue := [⟨150, 50, 0, 3, 4⟩] }, ⟨100, 50, 0, 3, 4⟩, ⟨150, 50, 0, 3, 4⟩, by decide⟩,
    ⟨leg dpAdmitted {} [(Fld.EDG_CNV_CFG_SYNC, 0, 2)], by decide⟩, ⟨leg dpAdmitted {} [], by decide⟩,
    ⟨{ cmpn with starveHold := true }, ⟨100, 50, 0, 3, 4⟩, by decide⟩,
    ⟨{ cmpn with starveHold := true, repeated := true }, ⟨100, 50, 0, 3, 4⟩, by decide⟩, ⟨cmpn, by decide⟩,
    ⟨{ cmpn with want := some .low }, by decide⟩, ⟨{ cmpn with lo := true }, by decide⟩, ⟨{ cmpn with hi := true }, by decide⟩,
    ⟨{ cmpn with dead := some .low, want := some .high }, by decide⟩, ⟨cmpn, by decide⟩,
    ⟨{ cmpn with dead := some .low, want := some .high, sensed := true, act := { dt := 5 } }, by decide⟩,
    ⟨{ cmpn with dead := some .low, want := some .high, sensed := true, act := { dt := 5 } }, by decide⟩,
    ⟨{ cmpn with dead := some .high, want := some .low, act := { mode := 1 } }, by decide⟩,
    ⟨cmpn, ⟨100, 50, 0, 3, 4⟩, by decide⟩, ⟨{ cmpn with edges := [(.hon, 5)] }, by decide⟩,
    ⟨{ cmpn with edges := [(.hon, 5)] }, by decide⟩, ⟨{ cmpn with edges := [(.hon, 5)] }, by decide⟩,
    ⟨{ cmpn with edges := [(.hon, 5)], act := { adapt := 1, target := 10, smax := 5 } }, 20485, 30485, by decide⟩,
    ⟨{ cmpn with edges := [(.lon, 5)], act := { adapt := 1, target := 10 } }, 5, 6, by decide⟩,
    { cmpn with act := { adapt := 1, imin := 5 } }, by decide⟩

theorem wit_CompanionProtection :
    (∃ c : Comp, c.st = .latched ∧ c.vls = true) ∧ (∃ c : Comp, c.st = .run ∧ c.hi = true ∧ c.cause = 0 ∧ c.stamp = none) ∧
    (∃ c : Comp, c.act.brake ≠ 1 ∧ c.act.safe ≠ 1 ∧ c.softHi = false ∧ c.softLo = false) ∧
    (∃ (c : Comp) (x : Nat), c.lo = true ∧ c.stamp = some x) ∧
    (∃ c : Comp, c.st = .gatedOff ∧ c.act.brake ≠ 1) ∧ (∃ c : Comp, c.act.brake = 1) ∧
    (∃ c : Comp, c.hi = true ∧ c.softHi = false ∧ c.onHi + 10240 ≤ 10245) ∧
    (∃ c : Comp, c.hi = true ∧ c.softHi = false ∧ 10244 < c.onHi + 10240) ∧ (∃ c : Comp, c.lo = true ∧ c.softLo = true) ∧
    (∃ (c : Comp) (v : Fin 4096), v.val = 7 ∧ v.val ≤ c.act.ovth) ∧
    (∃ (c : Comp) (v : Fin 4096), c.act.brake ≠ 1 ∧ v.val = 8 ∧ c.act.ovth < v.val ∧ c.st ≠ .latched) ∧
    (∃ (c : Comp) (v : Fin 4096), v.val = 7 ∧ c.act.otth ≤ v.val) ∧ (∃ (c : Comp) (v : Fin 4096), v.val = 6 ∧ v.val < c.act.otth) ∧
    (∃ c : Comp, c.softHi = true ∧ c.softLo = true) ∧
    (∃ (c : Comp) (v : Fin 4096), c.chops = true ∧ c.minRun = false ∧ c.lo = false ∧ c.act.onTh < v.val) ∧
    (∃ (c : Comp) (v : Fin 4096), c.chops = true ∧ c.minRun = false ∧ c.lo = true ∧ v.val < c.act.offTh) ∧
    (∃ c : Comp, c.chops = true ∧ c.minRun = true) ∧
    (∃ (s : State) (t : Nat), s.tbRun = true ∧ s.flag Fld.EDG_BRK_CFG_EN 0 = true ∧ t = 7 ∧ (s.brkOf 0).nextAt ≤ t) ∧
    (∃ (s : State) (t : Nat), s.flag Fld.EDG_BRK_CFG_EN 0 = true ∧ t = 6 ∧ t < (s.brkOf 0).nextAt) ∧
    ∃ s : State, (s.dropOf 1).brakeSince = some 3 ∧ (s.brkOf 0).since = some 4 :=
  ⟨⟨{ cmpn with st := .latched }, by decide⟩, ⟨{ cmpn with hi := true }, by decide⟩, ⟨cmpn, by decide⟩,
    ⟨{ cmpn with lo := true, stamp := some 8 }, 8, by decide⟩, ⟨{ cmpn with st := .gatedOff }, by decide⟩,
    ⟨{ cmpn with act := { brake := 1 } }, by decide⟩, ⟨{ cmpn with hi := true, onHi := 5 }, by decide⟩,
    ⟨{ cmpn with hi := true, onHi := 5 }, by decide⟩, ⟨{ cmpn with lo := true, softLo := true }, by decide⟩,
    ⟨{ cmpn with act := { ovth := 7 } }, 7, by decide⟩,
    ⟨{ cmpn with act := { ovth := 7 } }, 8, by decide⟩, ⟨{ cmpn with act := { otth := 7 } }, 7, by decide⟩,
    ⟨{ cmpn with act := { otth := 7 } }, 6, by decide⟩, ⟨{ cmpn with softHi := true, softLo := true }, by decide⟩,
    ⟨{ cmpn with brkWords := true, act := { brake := 1, pon := 9 } }, 10, by decide⟩,
    ⟨{ cmpn with lo := true, brkWords := true, act := { brake := 1, poff := 9 } }, 8, by decide⟩,
    ⟨{ cmpn with minRun := true, brkWords := true, act := { brake := 1 } }, by decide⟩,
    ⟨{ regs [(Fld.EDG_BRK_CFG_EN, 0, 1)] with brk := [(0, { nextAt := 7 })] }, 7, by decide⟩,
    ⟨{ regs [(Fld.EDG_BRK_CFG_EN, 0, 1)] with brk := [(0, { nextAt := 7 })] }, 6, by decide⟩,
    { base with drop := [(1, { brakeSince := some 3 })], brk := [(0, { since := some 4 })] }, by decide⟩

/-! Conversion, comparators, grid tie, engines and axes. -/

/-- SAR core k with a record in a state. -/
def sar (k st : Nat) (v : Adc) (l : List (Fld × Nat × Nat)) : State :=
  { recd 0x0060 k ((Fld.ADC_CORE_STATUS_STATE, k, st) :: l) with adc := [(k, v)] }

theorem wit_Conversions :
    (∃ s : State, s.adcOwns kern 0 = false) ∧
    (∃ s : State, s.adcOwns kern 1 = true ∧ s.adcLead 1 ≠ 1) ∧
    (∃ s : State, s.adcOwns kern 0 = true ∧ s.adcLead 0 = 0 ∧ s.get Fld.ADC_CORE_STATUS_STATE 0 = adBusy) ∧
    (∃ s : State, s.adcOwns kern 0 = true ∧ s.adcLead 0 = 0 ∧ s.get Fld.ADC_CORE_STATUS_STATE 0 = adIdle ∧
      s.get Fld.ADC_SEQ_LEN_LEN 0 ≠ 0) ∧
    (∃ s : State, s.get Fld.ADC_CORE_CFG_TRIG 0 = (2 : Fin 4).val + 1 ∧ s.get Fld.ADC_CORE_CFG_EDGE 0 = 0 ∧ s.adcLead 0 = 0 ∧
      s.get Fld.ADC_CORE_STATUS_STATE 0 = adIdle ∧ s.get Fld.ADC_SEQ_LEN_LEN 0 ≠ 0) ∧
    (∃ s : State, s.get Fld.ADC_CORE_CFG_TRIG 0 ≠ (3 : Fin 4).val + 1) ∧
    (∃ s : State, s.get Fld.ADC_CORE_STATUS_STATE 0 = adBusy ∧ (s.adcOf 0).seq.getD (s.adcOf 0).ent (0, 1) = (3, 2) ∧
      s.flag Fld.ADC_CORE_CFG_DMA 0 = false ∧ (s.adcOf 0).fifo.length = 63 ∧ s.flag Fld.ADC_CORE_CFG_INTLV 0 = false ∧
      2 ≤ (s.adcOf 0).rep + 1 ∧ (s.adcOf 0).seq.length ≤ (s.adcOf 0).ent + 1) ∧
    (∃ s : State, s.get Fld.ADC_CORE_STATUS_STATE 0 = adDrain ∧ (s.adcOf 0).fifo.length = 64) ∧
    (∃ s : State, s.get Fld.ADC_CORE_STATUS_STATE 0 = adDrain ∧ s.flag Fld.ADC_CORE_CFG_INTLV 0 = true ∧ (s.adcOf 0).enHeld = true) ∧
    (∃ raw : Nat, raw = 65535 ∧ raw < 65536) ∧
    (∃ (s : State) (i : Int × Nat), (s.adcOf 0).ins.getD (s.adcOf 0).ent (0, 65536) = i ∧ i = (-3, 7) ∧ (s.adcOf 0).odd = true) ∧
    (∃ s : State, s.adcOwns kern 0 = true ∧ s.get Fld.ADC_CORE_STATUS_STATE 0 = adOff) ∧
    (∃ v : Word, v.toNat = 4095 ∧ v.toNat < 4096) ∧ (∃ v : Word, v.toNat = 4096 ∧ 4096 ≤ v.toNat) ∧
    (∃ s : State, (s.adcOf 0).fifo = []) ∧ (∃ s : State, (s.adcOf 0).fifo = [(7, 8)]) ∧
    (∃ s : State, s.legOwner kern 1 = false) ∧ ∃ s : State, s.legOwner kern 1 = true ∧ 1 ∈ s.lsnOfLeg 1 ∧ (s.lsnOf 1).pend ≠ [] :=
  ⟨⟨base, by decide⟩, ⟨sar 1 adIdle {} [(Fld.ADC_CORE_CFG_INTLV, 0, 1)], by decide⟩, ⟨sar 0 adBusy {} [], by decide⟩,
    ⟨sar 0 adIdle {} [(Fld.ADC_SEQ_LEN_LEN, 0, 1)], by decide⟩,
    ⟨sar 0 adIdle {} [(Fld.ADC_SEQ_LEN_LEN, 0, 1), (Fld.ADC_CORE_CFG_TRIG, 0, 3)], by decide⟩, ⟨base, by decide⟩,
    ⟨sar 0 adBusy { seq := [(3, 2)], rep := 1, fifo := List.replicate 63 (1, 2) } [], by decide⟩,
    ⟨sar 0 adDrain { fifo := List.replicate 64 (1, 2) } [], by decide⟩,
    ⟨sar 0 adDrain { enHeld := true } [(Fld.ADC_CORE_CFG_INTLV, 0, 1)], by decide⟩, ⟨65535, by decide⟩,
    ⟨sar 0 adBusy { ins := [(-3, 7)], odd := true } [], (-3, 7), by decide⟩, ⟨sar 0 adOff {} [], by decide⟩,
    ⟨4095, by decide⟩, ⟨4096, by decide⟩, ⟨base, by decide⟩, ⟨sar 0 adIdle { fifo := [(7, 8)] } [], by decide⟩,
    ⟨base, by decide⟩, { leg dpAdmitted {} [(Fld.LSN_CFG_EN, 1, 1), (Fld.LSN_CFG_LEG, 1, 1)] with lsn := [(1, { pend := [5] })] }, by decide +kernel⟩

/-- Comparator 0 with a record in a state. -/
def cmpr (st : Nat) (v : Cmp) (l : List (Fld × Nat × Nat)) : State :=
  { recd 0x0063 0 ((Fld.CMP_STATUS_STATE, 0, st) :: l) with cmp := [(0, v)] }

theorem wit_Comparators :
    (∃ s : State, s.cmpRuns 0 = false) ∧ (∃ s : State, s.cmpRuns 0 = true ∧ (s.cmpOf 0).held = false) ∧
    (∃ (s : State) (pos dac half : Nat), s.get Fld.CMP_CFG_NEGSEL 0 = 0 ∧ s.get Fld.CMP_TEST_TIE 0 = 0 ∧ s.get Fld.CMP_TEST_SWAP 0 = 0 ∧
      dac = s.cmpDacAt 0 5 * 1800000 ∧ half = hystHalf (s.get Fld.CMP_CFG_HYST 0) * 4194304 ∧ pos = 902500 ∧ dac + half = 4194304 * pos) ∧
    (∃ s : State, (s.cmpOf 0).held = true) ∧ (∃ s : State, (s.cmpOf 0).edgeAt = none) ∧
    (∃ s : State, (s.cmpOf 0).edgeAt = some 3 ∧ 65 < 3 + 63 * (s.get Fld.CMP_CFG_FILT 0 - 1)) ∧
    (∃ s : State, (s.cmpOf 0).edgeAt = some 3 ∧ (s.cmpOf 0).held = false ∧ (s.cmpOf 0).quiet = false ∧
      3 + 63 * (s.get Fld.CMP_CFG_FILT 0 - 1) ≤ 66 ∧
      edgeSel (s.get Fld.CMP_ROUTE_CAPEDGE 0) (s.flag Fld.CMP_STATUS_OUT 0) = true ∧
      edgeSel (s.get Fld.CMP_ROUTE_IRQEDGE 0) (s.flag Fld.CMP_STATUS_OUT 0) = true) ∧
    (∃ s : State, (s.cmpOf 0).quiet = true ∧ s.get Fld.CMP_TEST_TIE 0 = 0 ∧ s.get Fld.CMP_TEST_SWAP 0 = 0 ∧ s.cmpState 0 = cpTest ∧
      (s.cmpOf 0).on = true) ∧
    (∃ s : State, (s.cmpOf 0).quiet = true ∧ s.get Fld.CMP_TEST_TIE 0 ≠ 0) ∧
    (∃ s : State, s.get Fld.CMP_RAMP_RAMPSRC 0 ≠ 63 ∧ s.cmpRuns 0 = true ∧ s.rampSource 0 5 = true) ∧
    (∃ s : State, s.get Fld.CMP_RAMP_RAMPSRC 0 ≠ 63 ∧ s.cmpRuns 0 = true ∧ s.rampSource 0 5 = false) ∧
    (∃ s : State, s.get Fld.CMP_RAMP_RAMPSRC 0 = 63 ∧ (s.cmpOf 0).rampAt = none ∧ s.cmpOwns kern 0 = true) ∧
    (∃ s : State, s.cmpOwns host 0 = false) ∧ (∃ v : Word, v.toNat = 1023 ∧ v.toNat < 1024) ∧ (∃ v : Word, v.toNat = 1024 ∧ 1024 ≤ v.toNat) ∧
    (∃ s : State, s.cmpOwns kern 0 = true ∧ (s.cmpOf 0).on = false ∧ s.get Fld.CMP_TEST_TIE 0 = 0 ∧ s.get Fld.CMP_TEST_SWAP 0 = 0) ∧
    (∃ s : State, s.cmpOwns kern 0 = true ∧ (s.cmpOf 0).on = true ∧ s.cmpRuns 0 = true ∧ beforeCycle s.tb 134 = true) ∧
    ∃ (s : State) (v : Word), s.cmpOwns kern 0 = true ∧ v.toNat = 7 ∧ v.toNat < 8 ∧ v ≠ 0#32 :=
  ⟨⟨cmpr cpOff {} [], by decide⟩, ⟨cmpr cpRun {} [], by decide⟩,
    ⟨cmpr cpRun { oldDac := some 512 } [(Fld.CMP_CFG_HYST, 0, 1)], 902500, _, _, by decide, by decide, by decide, rfl, rfl, by decide,
      by decide +kernel⟩,
    ⟨cmpr cpRun { held := true } [], by decide⟩, ⟨cmpr cpRun {} [], by decide⟩,
    ⟨cmpr cpRun { edgeAt := some 3 } [(Fld.CMP_CFG_FILT, 0, 2)], by decide⟩,
    ⟨cmpr cpRun { edgeAt := some 3 } [(Fld.CMP_ROUTE_CAPEDGE, 0, 3), (Fld.CMP_ROUTE_IRQEDGE, 0, 2), (Fld.CMP_CFG_FILT, 0, 2)], by decide⟩,
    ⟨cmpr cpTest { quiet := true, on := true } [], by decide⟩, ⟨cmpr cpTest { quiet := true } [(Fld.CMP_TEST_TIE, 0, 1)], by decide⟩,
    ⟨{ cmpr cpRun {} [(Fld.CMP_RAMP_RAMPSRC, 0, 34)] with aux := [(2, { drv := true })] }, by decide⟩,
    ⟨cmpr cpRun {} [(Fld.CMP_RAMP_RAMPSRC, 0, 34)], by decide⟩, ⟨cmpr cpRun {} [(Fld.CMP_RAMP_RAMPSRC, 0, 63)], by decide⟩,
    ⟨base, by decide⟩, ⟨1023, by decide⟩, ⟨1024, by decide⟩, ⟨cmpr cpOff {} [], by decide⟩,
    ⟨cmpr cpRun { on := true } [], by decide, by decide, by decide, beforeCycle_of_far (by decide)⟩, cmpr cpRun {} [], 7, by decide⟩

/-- Every function is on in mode 0; core 0 owns them all and has armed. -/
def funs (typ inst : Nat) (l : List (Fld × Nat × Nat)) : State :=
  { recd typ inst ((Fld.SYS_CORE_ARM_ARM0, 0, 1) :: l) with mode := { base.mode with mapFn := [2 ^ 72 - 1] } }

/-- Grid-tie instance 0 with a record in a state, on converter 0 and tracker 0, which tracks; its RECON is a second and its
CLOSE_MS a millisecond. -/
def grid (st : Nat) (v : Grd) (l : List (Fld × Nat × Nat)) : State :=
  { funs 0x0070 0 ([(Fld.GRD_STATUS_STATE, 0, st), (Fld.ANG_STATE_STATE, 0, tkTrack), (Fld.GRD_RECON_RECON, 0, 1),
      (Fld.GRD_RECON_CLOSE_MS, 0, 1), (Fld.GRD_VBAND_VNMIN, 0, 900), (Fld.GRD_VBAND_VNMAX, 0, 1100)] ++ l) with grd := [(0, v)] }

theorem wit_GridStart :
    (∃ s : State, s.hasRec 0x0070 0 = false) ∧ (∃ s : State, s.hasRec 0x0070 0 = true ∧ s.fnOwns task (fnGrid 0) true = false) ∧
    (∃ s : State, s.fnOn (fnGrid 0) = false) ∧
    (∃ s : State, s.hasRec 0x0070 0 = true ∧ s.fnOwns kern (fnGrid 0) true = true ∧ s.fnOn (fnGrid 0) = true ∧
      s.armed (s.fnOwner (fnGrid 0)) = true ∧ s.gridSt 0 = gdOff) ∧
    (∃ s : State, s.gridSt 0 = gdWait) ∧ (∃ s : State, gdTiedState (s.gridSt 0) = true ∧ s.cnvState (s.get Fld.GRD_CFG_CONV 0) = cvRun) ∧
    (∃ s : State, s.gridSt 0 = gdTripped) ∧
    (∃ (s : State) (t : Nat), s.gridSt 0 = gdWait ∧ (s.grdOf 0).bandSince = some 3 ∧
      s.trkState (s.get Fld.GRD_CFG_TRACKER 0) = tkTrack ∧ s.flag Fld.GRD_CFG_TOKREQ 0 = false ∧
      t = 3 + s.get Fld.GRD_RECON_RECON 0 * ftuSec ∧ s.flag Fld.GRD_CFG_AUTORECON 0 = true ∧ s.get Fld.GRD_STATUS_TOKEN 0 ≠ 2) ∧
    (∃ (s : State) (t : Nat), s.gridSt 0 = gdWait ∧ (s.grdOf 0).bandSince = some 3 ∧
      s.trkState (s.get Fld.GRD_CFG_TRACKER 0) = tkTrack ∧ s.flag Fld.GRD_CFG_TOKREQ 0 = false ∧
      t = 3 + s.get Fld.GRD_RECON_RECON 0 * ftuSec ∧ (s.grdOf 0).reconnect = true ∧ s.get Fld.GRD_STATUS_TOKEN 0 = 2 ∧
      s.flag Fld.GRD_CFG_TOKEN 0 = true ∧ s.flag Fld.GRD_CFG_ISLEN 0 = true) ∧
    (∃ s : State, s.gridSt 0 = gdWait ∧ (s.grdOf 0).bandSince = some 3 ∧ s.trkState (s.get Fld.GRD_CFG_TRACKER 0) = tkTrack ∧
      s.flag Fld.GRD_CFG_TOKREQ 0 = false ∧ s.hasRec 0x0070 0 = true ∧ s.fnOwns kern (fnGrid 0) true = true ∧
      s.get Fld.GRD_STATUS_TOKEN 0 ≠ 2) ∧
    (∃ s : State, s.gridSt 0 = gdTripped ∧ s.hasRec 0x0070 0 = true ∧ s.fnOwns kern (fnGrid 0) true = true) ∧
    (∃ (s : State) (t : Nat), s.gridSt 0 = gdWait ∧ (s.grdOf 0).bandSince = some 3 ∧
      s.trkState (s.get Fld.GRD_CFG_TRACKER 0) = tkTrack ∧ s.get Fld.GRD_STATUS_TOKEN 0 = 1 ∧
      t + 1 = 3 + s.get Fld.GRD_RECON_RECON 0 * ftuSec) ∧
    (∃ s : State, s.gridSt 0 = gdWait ∧ (s.grdOf 0).bandSince = none) ∧
    (∃ s : State, s.flag Fld.GRD_CFG_TOKREQ 0 = true ∧ s.get Fld.GRD_STATUS_TOKEN 0 ≠ 1) ∧
    (∃ s : State, s.flag Fld.GRD_CFG_AUTORECON 0 = false ∧ (s.grdOf 0).reconnect = false) ∧
    (∃ (s : State) (t : Nat), s.gridSt 0 = gdClosing ∧ (s.grdOf 0).cpinSince = some 3 ∧
      t + 1 = 3 + s.get Fld.GRD_RECON_CLOSE_MS 0 * ftuMs) ∧
    (∃ s : State, s.gridSt 0 = gdClosing ∧ (s.grdOf 0).cpinSince = some 3 ∧ (s.grdOf 0).vExc.isSome = true) ∧
    ∃ (s : State) (t : Nat), s.gridSt 0 = gdClosing ∧ (s.grdOf 0).cpinSince = some 3 ∧
      t = 3 + s.get Fld.GRD_RECON_CLOSE_MS 0 * ftuMs ∧ (s.grdOf 0).vExc = none ∧ (s.grdOf 0).fExc = none ∧ s.cnvState 0 = cvOff ∧
      s.rank1 0 = false ∧ s.rank2 0 = false :=
  ⟨⟨base, by decide⟩, ⟨grid gdOff {} [], by decide⟩, ⟨base, by decide⟩, ⟨grid gdOff {} [], by decide +kernel⟩, ⟨grid gdWait {} [], by decide⟩,
    ⟨grid gdTied {} [(Fld.EDG_CNV_STATUS_STATE, 0, cvRun)], by decide⟩, ⟨grid gdTripped {} [], by decide⟩,
    ⟨grid gdWait { bandSince := some 3 } [(Fld.GRD_CFG_AUTORECON, 0, 1)], 20480000003, by decide +kernel⟩,
    ⟨grid gdWait { bandSince := some 3, reconnect := true }
      [(Fld.GRD_STATUS_TOKEN, 0, 2), (Fld.GRD_CFG_TOKEN, 0, 1), (Fld.GRD_CFG_ISLEN, 0, 1)], 20480000003, by decide +kernel⟩,
    ⟨grid gdWait { bandSince := some 3 } [], by decide +kernel⟩, ⟨grid gdTripped {} [], by decide +kernel⟩,
    ⟨grid gdWait { bandSince := some 3 } [(Fld.GRD_STATUS_TOKEN, 0, 1)], 20480000002, by decide +kernel⟩,
    ⟨grid gdWait {} [], by decide⟩, ⟨grid gdWait {} [(Fld.GRD_CFG_TOKREQ, 0, 1)], by decide⟩, ⟨grid gdWait {} [], by decide⟩,
    ⟨grid gdClosing { cpinSince := some 3 } [], 20480002, by decide +kernel⟩,
    ⟨grid gdClosing { cpinSince := some 3, vExc := some 4 } [], by decide⟩, grid gdClosing { cpinSince := some 3 } [], 20480003, by decide +kernel⟩

/-- Instance 0 with a low-voltage curve of one point, at 50.00 % from the start. -/
def ride (st : Nat) (v : Grd) : State :=
  let s := grid st v [(Fld.GRD_RIDE_CURVES, 0, 1)]
  { s with img := { s.img with live := [{ typ := 0x71, inst := 0, flags := 0, index := 0, off := 0, val := [0, 1, 0, 0, 0, 0, 50, 0] }] } }

theorem wit_GridExcursions :
    (∃ (s : State) (v : Nat), s.gridSt 0 = gdTied ∧ (s.grdOf 0).vExc = none ∧ (s.grdOf 0).fExc = none ∧
      sgn 16 (s.get Fld.GRD_FBAND_FNMIN 0) * 10 ≤ 0 ∧ 0 ≤ sgn 16 (s.get Fld.GRD_FBAND_FNMAX 0) * 10 ∧ v = 900 ∧
      s.get Fld.GRD_VBAND_VNMIN 0 ≤ v ∧ v ≤ s.get Fld.GRD_VBAND_VNMAX 0) ∧
    (∃ (s : State) (v : Nat), s.gridSt 0 = gdTied ∧ v = 899 ∧ v < s.get Fld.GRD_VBAND_VNMIN 0 ∧
      s.rideCurves 0 0 ≠ [] ∧ ∀ pts ∈ s.rideCurves 0 0, rideTrips pts 1 0 v true = false) ∧
    (∃ (s : State) (v : Nat), s.gridSt 0 = gdTied ∧ v < s.get Fld.GRD_VBAND_VNMIN 0 ∧
      ∃ pts ∈ s.rideCurves 0 0, rideTrips pts 1 0 v true = true) ∧
    (∃ (s : State) (v : Nat), s.gridSt 0 = gdTied ∧ v < s.get Fld.GRD_VBAND_VNMIN 0 ∧ s.rideCurves 0 0 = [] ∧
      s.flag Fld.GRD_CFG_ISLEN 0 = false) ∧
    (∃ s : State, gdTiedState (s.gridSt 0) = false) ∧
    (∃ (s : State) (t : Nat), (s.grdOf 0).vExc = some 3 ∧ s.vIn 0 = true ∧ s.fIn 0 = true ∧
      t = (s.grdOf 0).lastOut + 20 * ftuMs ∧ s.gridSt 0 = gdRide) ∧
    (∃ (s : State) (t : Nat), (s.grdOf 0).vExc = some 3 ∧ s.vIn 0 = true ∧ s.fIn 0 = true ∧ t + 1 = (s.grdOf 0).lastOut + 20 * ftuMs) ∧
    (∃ s : State, s.flag Fld.GRD_CFG_ACTEN 0 = true ∧ s.gridSt 0 = gdRamp ∧ (s.grdOf 0).vExc = none ∧ (s.grdOf 0).fExc = none) ∧
    (∃ s : State, s.flag Fld.GRD_CFG_ACTEN 0 = false) ∧ (∃ s : State, s.get Fld.GRD_STATUS_TOKEN 0 = 1) ∧
    (∃ s : State, s.gridSt 0 = gdDraining ∧ 3 ≤ (s.grdOf 0).zero ∧ (s.grdOf 0).enHeld = false ∧
      s.cnvState (s.get Fld.GRD_CFG_CONV 0) = cvRun) ∧
    ∃ s : State, (s.grdOf 0).zero = 2 ∧ (s.grdOf 0).zero < 3 ∧ s.cnvState (s.get Fld.GRD_CFG_CONV 0) = cvRun :=
  ⟨⟨grid gdTied {} [], 900, by decide⟩, ⟨ride gdTied {}, 899, by decide +kernel⟩,
    ⟨ride gdTied {}, 49, by decide +kernel⟩, ⟨grid gdTied {} [], 899, by decide +kernel⟩, ⟨grid gdOff {} [], by decide⟩,
    ⟨grid gdRide { vExc := some 3, vNow := 900 } [], 409600000, by decide +kernel⟩,
    ⟨grid gdRide { vExc := some 3, vNow := 900 } [], 409599999, by decide +kernel⟩,
    ⟨grid gdRamp {} [(Fld.GRD_CFG_ACTEN, 0, 1)], by decide⟩, ⟨base, by decide⟩, ⟨grid gdWait {} [(Fld.GRD_STATUS_TOKEN, 0, 1)], by decide⟩,
    ⟨grid gdDraining { zero := 3 } [(Fld.EDG_CNV_STATUS_STATE, 0, cvRun)], by decide⟩,
    grid gdDraining { zero := 2 } [(Fld.EDG_CNV_STATUS_STATE, 0, cvRun)], by decide⟩

/-- A state with the memory and the register fields of one that meets the invariant meets it. -/
theorem inv_same {s t : State} (h : s.Inv) (m : t.mem = s.mem) (b : t.bank = s.bank) : t.Inv := by
  cases s; cases t; cases m; cases b; exact h

theorem funs_inv (typ inst : Nat) (l : List (Fld × Nat × Nat)) (h : ∀ x ∈ l, x.1 ∈ x.1.reg.fields) : (funs typ inst l).Inv :=
  inv_same (regs_inv ((Fld.SYS_CORE_ARM_ARM0, 0, 1) :: l) (by
    intro x m; rcases List.mem_cons.mp m with rfl | m
    · dsimp only; decide
    · exact h x m)) rfl rfl

theorem mppt_same {s : State} (h : s.Inv) (v : Table Mppt) : ({ s with mppt := v } : State).Inv := inv_same h rfl rfl
theorem aux_same {s : State} (h : s.Inv) (v : Table Aux) : ({ s with aux := v } : State).Inv := inv_same h rfl rfl

/-- MPPT engine 0 with a record in a state on converter 0, which runs; its limits are 100 and 900, its dead band 5. -/
def mpptRegs (st : Nat) : List (Fld × Nat × Nat) :=
  [(Fld.MPPT_STATUS_STATE, 0, st), (Fld.EDG_CNV_STATUS_STATE, 0, cvRun), (Fld.MPPT_VLIM_VMIN, 0, 100),
    (Fld.MPPT_VLIM_VMAX, 0, 900), (Fld.MPPT_PDEAD_PDEAD, 0, 5), (Fld.MPPT_SLIM_SMIN, 0, 2), (Fld.MPPT_SLIM_SMAX, 0, 64)]

def mppt (st : Nat) (v : Mppt) : State := { funs 0x0072 0 (mpptRegs st) with mppt := [(0, v)] }

theorem mppt_inv (st : Nat) (v : Mppt) : (mppt st v).Inv :=
  mppt_same (funs_inv _ _ _ (by
    intro x h; simp only [mpptRegs, List.mem_cons, List.not_mem_nil, or_false] at h
    rcases h with rfl | rfl | rfl | rfl | rfl | rfl | rfl <;> (dsimp only; decide))) _

/-- VIN and ICH updated at time 3, where their product became 0x40000 (4 codes²). -/
def fed : Mppt := { vinAt := some 3, ichAt := some 3, prods := [(3, 0x40000)] }

theorem wit_MpptEngines :
    (∃ s : State, s.Inv ∧ s.mpptRuns 0 = true ∧ s.mpptSt 0 = mpTrack ∧ (s.mpptOf 0).again = false ∧
      s.mpptStale 0 (3 + ftuMs) = false ∧ s.get Fld.MPPT_DROP_DROP 0 = 0 ∧ s.vMin 0 ≤ s.vMax 0) ∧
    (∃ s : State, s.mpptRuns 0 = true ∧ s.mpptSt 0 = mpTrack ∧ (s.mpptOf 0).again = false ∧ s.mpptStale 0 (4 + ftuMs) = true) ∧
    (∃ (s : State) (p : Int), p = s.mpptPower 0 4 9 [5] ∧ (p - (s.mpptOf 0).pPrev).natAbs < s.get Fld.MPPT_PDEAD_PDEAD 0) ∧
    (∃ (s : State) (p : Int), p = s.mpptPower 0 4 9 [5] ∧ s.get Fld.MPPT_PDEAD_PDEAD 0 ≤ (p - (s.mpptOf 0).pPrev).natAbs ∧
      p < (s.mpptOf 0).pPrev) ∧
    (∃ (s : State) (p : Int), p = s.mpptPower 0 4 9 [5] ∧ s.get Fld.MPPT_PDEAD_PDEAD 0 ≤ (p - (s.mpptOf 0).pPrev).natAbs ∧
      (s.mpptOf 0).pPrev ≤ p ∧ (s.mpptOf 0).same = 2) ∧
    (∃ (s : State) (ps : List Int) (p : Int), ps ≠ [] ∧
      ps = ([4, 7, 10].filter (fun u => decide (4 ≤ u) && decide (u ≤ 9))).filterMap (fun u => prodAt u (s.mpptOf 0).prods) ∧
      ps.foldl (· + ·) 0 = p * (65536 * ps.length : Nat)) ∧
    (∃ s : State, s.hasRec 0x0072 0 = false) ∧ (∃ s : State, s.hasRec 0x0072 0 = true ∧ s.fnOwns task (fnMppt 0) true = false) ∧
    (∃ s : State, s.hasRec 0x0072 0 = true ∧ s.fnOwns kern (fnMppt 0) true = true ∧ s.fnOn (fnMppt 0) = true ∧
      s.armed (s.fnOwner (fnMppt 0)) = true ∧ s.mpptSt 0 = mpOff ∧ s.mpptRuns 0 = true) ∧
    (∃ s : State, s.scanSpaced 0 (60 * ftuSec + 4) = false) ∧
    (∃ s : State, s.scanSpaced 0 (60 * ftuSec + 5) = true ∧ s.mpptSt 0 = mpTrack ∧ s.mpptRuns 0 = true ∧
      s.hasRec 0x0072 0 = true ∧ s.fnOwns kern (fnMppt 0) true = true) ∧
    (∃ s : State, s.scanDue 1 (75 * ftuSec - 1) = false) ∧ (∃ s : State, s.mpptSt 0 ≠ mpTrack ∧ s.mpptSt 0 ≠ mpDark) ∧
    (∃ s : State, s.mpptSt 0 = mpDark ∧ s.scanDue 0 (1200 * ftuSec) = true ∧ s.mpptRuns 0 = true) ∧
    (∃ s : State, s.mpptSt 0 = mpScan ∧ s.mpptRuns 0 = true ∧ s.mpptStale 0 (4 + ftuMs) = true) ∧
    (∃ s : State, s.mpptSt 0 = mpScan ∧ s.mpptRuns 0 = true ∧ s.mpptStale 0 9 = false ∧ (s.mpptOf 0).idx = 63 ∧ (s.mpptOf 0).idx < 64) ∧
    (∃ (s : State) (p : Int), s.mpptSt 0 = mpScan ∧ s.mpptRuns 0 = true ∧ s.mpptStale 0 9 = false ∧ p = s.mpptPower 0 4 9 [5] ∧
      64 ≤ (s.mpptOf 0).idx ∧ p ≤ (s.mpptOf 0).best ∧ (s.mpptOf 0).best < s.get Fld.MPPT_PDEAD_PDEAD 0) ∧
    (∃ (s : State) (p : Int), s.mpptSt 0 = mpScan ∧ s.mpptRuns 0 = true ∧ s.mpptStale 0 9 = false ∧ p = s.mpptPower 0 4 9 [5] ∧
      64 ≤ (s.mpptOf 0).idx ∧ p ≤ (s.mpptOf 0).best ∧ s.get Fld.MPPT_PDEAD_PDEAD 0 ≤ (s.mpptOf 0).best) ∧
    ∃ (s : State) (p : Int), s.mpptSt 0 = mpScan ∧ s.mpptRuns 0 = true ∧ s.mpptStale 0 9 = false ∧ p = s.mpptPower 0 4 9 [5] ∧
      64 ≤ (s.mpptOf 0).idx ∧ (s.mpptOf 0).best < p :=
  have power (st : Nat) (v : Mppt) (h : v.prods = fed.prods) : (mppt st v).mpptPower 0 4 9 [5] = 4 := by
    have e : (mppt st v).mpptOf 0 = v := rfl
    have l : [5].filterMap (fun u => prodAt u fed.prods) = [0x40000] := by decide +kernel
    have k : ∀ w : BitVec 64, roundFree w 0x40000 65536 = 4 := by intro w; simp [roundFree]
    simpa [State.mpptPower, e, h, l] using k _
  ⟨⟨mppt mpTrack fed, mppt_inv _ _, by decide +kernel⟩, ⟨mppt mpTrack fed, by decide +kernel⟩,
    ⟨mppt mpTrack fed, 4, (power _ _ rfl).symm, by decide +kernel⟩,
    ⟨mppt mpTrack { fed with pPrev := 9 }, 4, (power _ _ rfl).symm, by decide +kernel⟩,
    ⟨mppt mpTrack { fed with same := 2, pPrev := -1 }, 4, (power _ _ rfl).symm, by decide +kernel⟩,
    ⟨mppt mpTrack fed, _, 4, by decide +kernel, rfl, by decide +kernel⟩, ⟨base, by decide⟩,
    ⟨mppt mpOff {}, by decide +kernel⟩, ⟨mppt mpOff {}, by decide +kernel⟩,
    ⟨mppt mpTrack { lastScan := some 5 }, by decide +kernel⟩, ⟨mppt mpTrack { lastScan := some 5 }, by decide +kernel⟩,
    ⟨regs [(Fld.MPPT_TIM_SCAN_MIN, 1, 20)], by decide +kernel⟩, ⟨mppt mpHold {}, by decide +kernel⟩,
    ⟨{ funs 0x0072 0 ((Fld.MPPT_TIM_SCAN_MIN, 0, 20) :: mpptRegs mpDark) with mppt := [(0, fed)] }, by decide +kernel⟩,
    ⟨mppt mpScan fed, by decide +kernel⟩, ⟨mppt mpScan { fed with idx := 63 }, by decide +kernel⟩,
    ⟨mppt mpScan { fed with idx := 64, best := 4 }, 4, by decide +kernel, by decide +kernel, by decide +kernel, (power _ _ rfl).symm,
      by decide +kernel⟩,
    ⟨mppt mpScan { fed with idx := 64, best := 5 }, 4, by decide +kernel, by decide +kernel, by decide +kernel, (power _ _ rfl).symm,
      by decide +kernel⟩,
    mppt mpScan { fed with idx := 64, best := 3 }, 4, by decide +kernel, by decide +kernel, by decide +kernel, (power _ _ rfl).symm,
      by decide +kernel⟩

/-- Axis 0, a winch with limits of -10 mm and 10 mm, on tracker 0, which tracks, and converter 0. -/
def axis (st : Nat) (v : Axs) (pay : Nat) (l : List (Fld × Nat × Nat)) : State :=
  { funs 0x0073 0 ([(Fld.AXS_STATUS_STATE, 0, st), (Fld.ANG_STATE_STATE, 0, tkTrack), (Fld.AXS_CFG_KIND, 0, 1),
      (Fld.AXS_LIMFLAGS_LIMEN, 0, 1), (Fld.AXS_LIM_LO_LIM, 0, 2 ^ 32 - 10), (Fld.AXS_LIM_HI_LIM, 0, 10),
      (Fld.ANG_ANGLE_HI_ANGLE, 0, pay)] ++ l) with axs := [(0, v)] }

theorem wit_AxisControl :
    (∃ s : State, s.axsSt 0 = axOff) ∧ (∃ s : State, s.axsSt 0 = axFault) ∧
    (∃ s : State, s.hasRec 0x0073 0 = true ∧ s.axsSt 0 = axRun ∧ s.axsPast 0 = true) ∧
    (∃ s : State, s.hasRec 0x0073 0 = true ∧ s.axsPast 0 = false ∧ (s.axsOf 0).stopped = false ∧ s.axsSt 0 = axDwell) ∧
    (∃ s : State, s.hasRec 0x0073 0 = true ∧ s.axsPast 0 = false ∧ (s.axsOf 0).stopped = false ∧ s.axsSt 0 = axDrain ∧
      (s.axsOf 0).r = 0 ∧ (s.axsOf 0).a = 0 ∧ (s.axsOf 0).enHeld = false) ∧
    (∃ s : State, s.hasRec 0x0073 0 = false) ∧ (∃ s : State, s.fnOwns task (fnAxis 0) true = false) ∧
    (∃ s : State, s.fnOn (fnAxis 0) = false) ∧
    (∃ s : State, s.hasRec 0x0073 0 = true ∧ s.fnOwns kern (fnAxis 0) true = true ∧ s.fnOn (fnAxis 0) = true ∧
      s.armed (s.fnOwner (fnAxis 0)) = true ∧ s.axsSt 0 = axOff ∧ (s.axsOf 0).resume = none) ∧
    (∃ s : State, s.axsSt 0 = axReversing ∧ s.cnvState (s.get Fld.AXS_CFG_CONV 0) = cvRun) ∧
    (∃ s : State, s.hasRec 0x0073 0 = true ∧ s.fnOwns kern (fnAxis 0) true = true ∧ s.axsSt 0 = axFault ∧
      s.limLo 0 * axUnit ≤ s.axsPayout 0 ∧ s.axsPayout 0 = s.limHi 0 * axUnit) ∧
    ∃ s : State, s.axsSt 0 = axFault ∧ s.limHi 0 * axUnit < s.axsPayout 0 :=
  ⟨⟨axis axOff {} 0 [], by decide +kernel⟩, ⟨axis axFault {} 0 [], by decide +kernel⟩, ⟨axis axRun {} 11 [], by decide +kernel⟩,
    ⟨axis axDwell {} 10 [], by decide +kernel⟩, ⟨axis axDrain {} 0 [], by decide +kernel⟩, ⟨base, by decide⟩,
    ⟨axis axOff {} 0 [], by decide +kernel⟩, ⟨base, by decide⟩, ⟨axis axOff {} 0 [], by decide +kernel⟩,
    ⟨axis axReversing {} 0 [(Fld.EDG_CNV_STATUS_STATE, 0, cvRun)], by decide +kernel⟩, ⟨axis axFault {} 10 [], by decide +kernel⟩,
    axis axFault {} 11 [], by decide +kernel⟩

theorem wit_AxisLaw :
    (∃ (free : BitVec 64) (rate jerk : Nat) (r a tgt : Int), a.natAbs ≤ rate * 4294967296 ∧ (axsLaw free rate jerk r a tgt).2.2 = true) ∧
    (∃ (free : BitVec 64) (rate jerk : Nat) (r a tgt : Int), a.natAbs ≤ rate * 4294967296 ∧
      (axsLaw free rate jerk r a tgt).2.2 = false ∧ signOf (axsLaw free rate jerk r a tgt).2.1 = signOf (tgt - r)) ∧
    ∃ r : Int, r ≠ 0 :=
  ⟨⟨0, 5, 5, 7, 0, 7, by decide +kernel⟩, ⟨0, 100, 10000, 0, 0, 400000000000000, by decide +kernel⟩, 1, by decide⟩

/-- Auxiliary channel 0, alone and in use, with a soft start of no length and a target of 1,000 codes. -/
def auxRegs (st retry fb : Nat) : List (Fld × Nat × Nat) :=
  [(Fld.AUX_STATUS_STATE, 0, st), (Fld.AUX_CFG_EN, 0, 1), (Fld.AUX_STATUS_RETRY, 0, retry), (Fld.AUX_MEAS_FB, 0, fb),
    (Fld.AUX_TGT_VTGT, 0, 1000), (Fld.AUX_TGT_FBFS, 0, 5000), (Fld.AUX_LIM_IMAX, 0, 500)]

def auxr (st retry fb : Nat) (v : Aux) : State := { funs 0x0074 0 (auxRegs st retry fb) with aux := [(0, v)] }

theorem auxr_inv (st retry fb : Nat) (v : Aux) : (auxr st retry fb v).Inv :=
  aux_same (funs_inv _ _ _ (by
    intro x h; simp only [auxRegs, List.mem_cons, List.not_mem_nil, or_false] at h
    rcases h with rfl | rfl | rfl | rfl | rfl | rfl | rfl <;> (dsimp only; decide))) _

theorem wit_AuxRegulators :
    (∃ s : State, s.auxSt 0 = auHiccup) ∧ (∃ s : State, s.Inv ∧ s.auxSt 0 = auHold) ∧
    (∃ s : State, s.auxSt 0 = auSoft ∧ (s.auxOf 0).own = none ∧ s.get Fld.AUX_CFG_TRACK 0 = 0 ∧ s.auxGroup 0 = [0] ∧
      0 < s.get Fld.AUX_TGT_VTGT 0) ∧
    (∃ s : State, (s.auxOf 0).drv = true ∧ s.flag Fld.CMP_STATUS_OUT (s.get Fld.AUX_CFG_CMP 0) = true ∧ s.auxUnblanked 0 66 = true) ∧
    (∃ (s : State) (t : Nat), (s.auxOf 0).drv = true ∧ t = 93 ∧
      s.get Fld.AUX_SS_DMAX 0 * s.get Fld.AUX_PERIOD_PERIOD 0 = 100 * (t - (s.auxOf 0).onAt)) ∧
    (∃ s : State, (s.auxOf 0).drv = true ∧ s.flag Fld.CMP_STATUS_OUT (s.get Fld.AUX_CFG_CMP 0) = true ∧ s.auxUnblanked 0 65 = false ∧
      100 * (65 - (s.auxOf 0).onAt) < s.get Fld.AUX_SS_DMAX 0 * s.get Fld.AUX_PERIOD_PERIOD 0) ∧
    (∃ s : State, (s.auxOf 0).drv = false) ∧
    (∃ (s : State) (t : Nat), (s.auxOf 0).check = true ∧ s.auxSt 0 = auSoft ∧
      (s.auxOf 0).attemptAt + s.get Fld.AUX_SS_TSS (s.auxLead 0) * 2048000 + 2 * ftuMs = t ∧
      3 * s.auxVtgt 0 ≤ 10 * s.get Fld.AUX_MEAS_FB 0) ∧
    (∃ (s : State) (t : Nat), (s.auxOf 0).check = true ∧ s.auxSt 0 = auRun ∧
      (s.auxOf 0).attemptAt + s.get Fld.AUX_SS_TSS (s.auxLead 0) * 2048000 + 2 * ftuMs = t ∧
      10 * s.get Fld.AUX_MEAS_FB 0 < 3 * s.auxVtgt 0 ∧ s.auxInnocent 0 = false ∧ s.get Fld.AUX_STATUS_RETRY 0 = 6) ∧
    (∃ (s : State) (t : Nat), (s.auxOf 0).check = true ∧ s.auxSt 0 = auRun ∧
      (s.auxOf 0).attemptAt + s.get Fld.AUX_SS_TSS (s.auxLead 0) * 2048000 + 2 * ftuMs = t ∧
      10 * s.get Fld.AUX_MEAS_FB 0 < 3 * s.auxVtgt 0 ∧ s.auxInnocent 0 = false ∧ s.get Fld.AUX_STATUS_RETRY 0 = 7 ∧
      s.pow.st = .start) ∧
    (∃ s : State, (s.auxOf 0).check = false) ∧
    (∃ (s : State) (t : Nat), (s.auxOf 0).lowSince = some 5 ∧ s.auxSt 0 = auRun ∧ 5 + 2 * ftuMs = t ∧ s.get Fld.AUX_STATUS_RETRY 0 ≠ 7) ∧
    (∃ s : State, (s.auxOf 0).lowSince = none) ∧
    (∃ (s : State) (t : Nat), s.auxSt 0 = auHiccup ∧ (s.auxOf 0).hiccAt + 64 * ftuMs = t ∧ s.get Fld.AUX_STATUS_RETRY 0 = 6) ∧
    (∃ (s : State) (t : Nat), s.auxSt 0 = auHiccup ∧ t + 1 = (s.auxOf 0).hiccAt + 64 * ftuMs) ∧
    (∃ s : State, s.hasRec 0x0074 0 = false) ∧ (∃ s : State, isKernel task (s.fnOwner (fnAux 0)) = false) ∧
    (∃ s : State, s.fnOn (fnAux 0) = false) ∧
    (∃ s : State, s.hasRec 0x0074 0 = true ∧ isKernel kern (s.fnOwner (fnAux 0)) = true ∧ s.fnOn (fnAux 0) = true ∧
      s.flag Fld.AUX_CFG_EN 0 = true ∧ (∀ j ∈ s.auxGroup (s.auxLead 0), s.auxSt j = auOff) ∧ s.auxGroup (s.auxLead 0) = [0]) ∧
    (∃ s : State, s.hasRec 0x0074 0 = true ∧ isKernel kern (s.fnOwner (fnAux 0)) = true ∧ s.auxSt 0 = auShort ∧
      (s.auxOf 0).offPend = true) ∧
    ∃ s : State, s.hasRec 0x0074 0 = true ∧ isKernel kern (s.fnOwner (fnAux 0)) = true ∧ s.auxSt 0 = auRun :=
  ⟨⟨auxr auHiccup 0 0 {}, by decide +kernel⟩, ⟨auxr auHold 0 0 {}, auxr_inv _ _ _ _, by decide +kernel⟩,
    ⟨auxr auSoft 0 0 {}, by decide +kernel⟩,
    ⟨{ regs [(Fld.CMP_STATUS_OUT, 0, 1), (Fld.AUX_SS_LEB, 0, 1)] with aux := [(0, { drv := true, onAt := 3 })] }, by decide⟩,
    ⟨{ regs [(Fld.AUX_SS_DMAX, 0, 90), (Fld.AUX_PERIOD_PERIOD, 0, 100)] with aux := [(0, { drv := true, onAt := 3 })] }, 93, by decide⟩,
    ⟨{ regs [(Fld.CMP_STATUS_OUT, 0, 1), (Fld.AUX_SS_LEB, 0, 1), (Fld.AUX_SS_DMAX, 0, 90), (Fld.AUX_PERIOD_PERIOD, 0, 100)] with
      aux := [(0, { drv := true, onAt := 3 })] }, by decide⟩, ⟨base, by decide⟩, ⟨auxr auSoft 0 300 { check := true, attemptAt := 3 }, 40960003, by decide +kernel⟩,
    ⟨auxr auRun 6 299 { check := true, attemptAt := 3 }, 40960003, by decide +kernel⟩,
    ⟨{ auxr auRun 7 299 { check := true, attemptAt := 3 } with pow := { base.pow with st := .start } }, 40960003, by decide +kernel⟩,
    ⟨auxr auRun 0 0 {}, by decide +kernel⟩, ⟨auxr auRun 6 0 { lowSince := some 5 }, 40960005, by decide +kernel⟩,
    ⟨auxr auRun 0 0 {}, by decide +kernel⟩, ⟨auxr auHiccup 6 0 { hiccAt := 1 }, 1310720001, by decide +kernel⟩,
    ⟨auxr auHiccup 6 0 { hiccAt := 1 }, 1310720000, by decide +kernel⟩, ⟨base, by decide⟩, ⟨base, by decide⟩, ⟨base, by decide⟩,
    ⟨auxr auOff 0 0 {}, by decide +kernel⟩, ⟨auxr auShort 0 0 { offPend := true }, by decide +kernel⟩, auxr auRun 0 0 {}, by decide +kernel⟩

/-- Fan 0 in use with MINRPM 1,000, IOPEN 5 and IHIGH 50, its first NTC on leg-sense channel 0, which updated at time 3. -/
def fanr (st att : Nat) (v : Fan) (l : List (Fld × Nat × Nat)) : State :=
  { funs 0x0075 0 ([(Fld.FAN_STATUS_STATE, 0, st), (Fld.FAN_CFG_EN, 0, 1), (Fld.FAN_STATUS_ATTEMPT, 0, att),
      (Fld.FAN_MIN_MINRPM, 0, 1000), (Fld.FAN_MIN_MINDUTY, 0, 50), (Fld.FAN_I_IOPEN, 0, 5), (Fld.FAN_I_IHIGH, 0, 50),
      (Fld.FAN_PT_CODE, 0, 3000), (Fld.FAN_PT_CODE, 1, 2000), (Fld.FAN_PT_CODE, 2, 1500), (Fld.FAN_PT_CODE, 3, 700),
      (Fld.FAN_NTC01_NTC1, 0, 0xFFFF), (Fld.FAN_NTC23_NTC2, 0, 0xFFFF), (Fld.FAN_NTC23_NTC3, 0, 0xFFFF)] ++ l) with
    fan := [(0, v)], lsn := [(0, { updAt := some 3 })] }

theorem wit_Fans :
    (∃ s : State, s.fanSt 0 = fnKick ∧ (s.fanOf 0).kick = true) ∧ (∃ s : State, s.fanSt 0 = fnStall) ∧
    (∃ s : State, s.fanSt 0 = fnDrain ∧ (s.fanOf 0).enHeld = false) ∧
    (∃ s : State, s.fanSt 0 = fnRun ∧ s.get Fld.FAN_MIN_MINDUTY 0 < 1024 ∧ s.flag Fld.FAN_CFG_MODE 0 = true ∧
      s.get Fld.FAN_DUTY_SP_DUTY 0 = 1023) ∧
    (∃ (s : State) (t : Nat), s.fanSt 0 = fnRun ∧ s.flag Fld.FAN_CFG_MODE 0 = false ∧ t = 3 + 100 * ftuMs ∧ s.fanNtcs 0 t = []) ∧
    (∃ (s : State) (t x c : Nat), s.fanSt 0 = fnRun ∧ s.flag Fld.FAN_CFG_MODE 0 = false ∧ t + 1 = 3 + 100 * ftuMs ∧
      c ∈ s.fanNtcs 0 t ∧ s.get Fld.LSN_LAST_VALUE c = x ∧ (∀ d ∈ s.fanNtcs 0 t, x ≤ s.get Fld.LSN_LAST_VALUE d) ∧
      s.get Fld.FAN_PT_CODE (4 * 0) = x) ∧
    (∃ (s : State) (t x c : Nat), s.fanSt 0 = fnRun ∧ s.flag Fld.FAN_CFG_MODE 0 = false ∧ c ∈ s.fanNtcs 0 t ∧
      s.get Fld.LSN_LAST_VALUE c = x ∧ (∀ d ∈ s.fanNtcs 0 t, x ≤ s.get Fld.LSN_LAST_VALUE d) ∧
      (∀ p, p < 4 → x < s.get Fld.FAN_PT_CODE (4 * 0 + p)) ∧ x = 699) ∧
    (∃ (s : State) (x t : Nat), (s.fanOf 0).lastEdge = some x ∧ s.get Fld.FAN_CFG_PPR 0 = 0 ∧ x < t ∧ t = x + 1) ∧
    (∃ (s : State) (t : Nat), s.fanSt 0 = fnKick ∧ (s.fanOf 0).attemptAt + 2 * ftuSec = t) ∧
    (∃ (s : State) (t : Nat), s.fanSt 0 = fnKick ∧ t + 1 = (s.fanOf 0).attemptAt + 2 * ftuSec) ∧
    (∃ (s : State) (t : Nat), s.fanSt 0 = fnKick ∧ (s.fanOf 0).attemptAt + 3 * ftuSec = t ∧ s.fanFast 0 = true) ∧
    (∃ (s : State) (t : Nat), s.fanSt 0 = fnKick ∧ (s.fanOf 0).attemptAt + 3 * ftuSec = t ∧ s.fanFast 0 = false ∧
      s.get Fld.FAN_STATUS_ATTEMPT 0 = 2) ∧
    (∃ (s : State) (t : Nat), s.fanSt 0 = fnKick ∧ (s.fanOf 0).attemptAt + 3 * ftuSec = t ∧ s.fanFast 0 = false ∧
      s.get Fld.FAN_STATUS_ATTEMPT 0 = 3) ∧
    (∃ (s : State) (t : Nat), s.fanSt 0 = fnRetry ∧ (s.fanOf 0).retryAt + 2 * ftuSec = t ∧ s.get Fld.FAN_STATUS_ATTEMPT 0 = 2) ∧
    (∃ s : State, s.fanJudgeDue 0 9 = true ∧ (s.fanSample 0 9 4).fanCurrent 0 9 = (9, 2) ∧ 9 < 2 * s.get Fld.FAN_I_IOPEN 0) ∧
    (∃ s : State, s.fanJudgeDue 0 9 = true ∧ (s.fanSample 0 9 4).fanCurrent 0 9 = (10, 2) ∧ 2 * s.get Fld.FAN_I_IOPEN 0 = 10 ∧
      10 ≤ 2 * s.get Fld.FAN_I_IHIGH 0 ∧ s.fanSt 0 = fnRun) ∧
    (∃ s : State, s.fanJudgeDue 0 9 = true ∧ (s.fanSample 0 9 4).fanCurrent 0 9 = (101, 2) ∧ 2 * s.get Fld.FAN_I_IHIGH 0 + 1 = 101 ∧
      2 * s.get Fld.FAN_I_IOPEN 0 ≤ 101) ∧
    (∃ s : State, s.tachMissing 0 9 = false) ∧
    (∃ (s : State) (t : Nat), s.fanSt 0 = fnTachLost ∧ t + 1 = (s.fanOf 0).judgedAt + 100 * ftuMs) ∧
    (∃ (s : State) (t : Nat), s.fanSt 0 = fnTachLost ∧ (s.fanOf 0).goodSince = some 4 ∧ 4 + ftuSec = t ∧ s.fanFresh 0 t = true) ∧
    (∃ s : State, (s.fanOf 0).goodSince = none) ∧ (∃ s : State, s.fanFresh 0 9 = false) ∧ (∃ s : State, s.hasRec 0x0075 0 = false) ∧
    (∃ s : State, isKernel task (s.fnOwner (fnFan 0)) = false) ∧ (∃ s : State, s.fnOn (fnFan 0) = false) ∧
    (∃ s : State, s.hasRec 0x0075 0 = true ∧ isKernel kern (s.fnOwner (fnFan 0)) = true ∧ s.fnOn (fnFan 0) = true ∧
      s.armed (s.fnOwner (fnFan 0)) = true ∧ s.flag Fld.FAN_CFG_EN 0 = true ∧ s.fanSt 0 = fnOff) ∧
    ∃ s : State, s.hasRec 0x0075 0 = true ∧ isKernel kern (s.fnOwner (fnFan 0)) = true ∧ s.fanSt 0 = fnOpen ∧ (s.fanOf 0).offPend = false :=
  ⟨⟨fanr fnKick 0 { kick := true } [], by decide +kernel⟩, ⟨fanr fnStall 0 {} [], by decide +kernel⟩,
    ⟨fanr fnDrain 0 {} [], by decide +kernel⟩, ⟨fanr fnRun 0 {} [(Fld.FAN_CFG_MODE, 0, 1), (Fld.FAN_DUTY_SP_DUTY, 0, 1023)], by decide +kernel⟩,
    ⟨fanr fnRun 0 {} [], 2048000003, by decide +kernel⟩,
    ⟨fanr fnRun 0 {} [(Fld.LSN_LAST_VALUE, 0, 3000)], 2048000002, 3000, 0, by decide +kernel⟩,
    ⟨fanr fnRun 0 {} [(Fld.LSN_LAST_VALUE, 0, 699)], 9, 699, 0, by decide +kernel⟩,
    ⟨fanr fnRun 0 { lastEdge := some 8 } [], 8, 9, by decide +kernel⟩, ⟨fanr fnKick 0 {} [], 40960000000, by decide +kernel⟩,
    ⟨fanr fnKick 0 {} [], 40959999999, by decide +kernel⟩, ⟨fanr fnKick 0 { ivs := [5] } [], 61440000000, by decide +kernel⟩,
    ⟨fanr fnKick 2 {} [], 61440000000, by decide +kernel⟩, ⟨fanr fnKick 3 {} [], 61440000000, by decide +kernel⟩,
    ⟨fanr fnRetry 2 {} [], 40960000000, by decide +kernel⟩, ⟨fanr fnRun 0 { curs := [(2, 4), (1, 5)] } [], by decide +kernel⟩,
    ⟨fanr fnRun 0 { curs := [(2, 5), (1, 5)] } [], by decide +kernel⟩, ⟨fanr fnRun 0 { curs := [(2, 50), (1, 51)] } [], by decide +kernel⟩,
    ⟨fanr fnRun 0 { lastEdge := some 8 } [], by decide +kernel⟩, ⟨fanr fnTachLost 0 {} [], 2047999999, by decide +kernel⟩,
    ⟨fanr fnTachLost 0 { goodSince := some 4, lastEdge := some 20480000004 } [], 20480000004, by decide +kernel⟩,
    ⟨base, by decide⟩, ⟨base, by decide⟩, ⟨base, by decide⟩, ⟨base, by decide⟩, ⟨base, by decide⟩, ⟨fanr fnOff 0 {} [], by decide +kernel⟩,
    fanr fnOpen 0 {} [], by decide +kernel⟩

/-- Loop output 0 in use in a state, with a gain of 1. -/
def loop (st mode : Nat) (v : Lp) (l : List (Fld × Nat × Nat)) : State :=
  { funs 0x0076 0 ([(Fld.LOOP_STATUS_STATE, 0, st), (Fld.LOOP_CFG_EN, 0, 1), (Fld.LOOP_GAIN_GAIN, 0, 65536),
      (Fld.LOOP_CFG_FAULTMODE, 0, mode)] ++ l) with lp := [(0, v)] }

theorem wit_Loops :
    (∃ s : State, s.lpSt 0 = lpOff) ∧
    (∃ s : State, s.lpSt 0 = lpRun ∧ (s.lpOf 0).low = 4 ∧ s.get Fld.LOOP_STATUS_HEADROOM 0 = 0) ∧
    (∃ s : State, s.lpSt 0 = lpRun ∧ (s.lpOf 0).low < 4 ∧ (s.lpOf 0).high < 49) ∧
    (∃ s : State, s.lpSt 0 = lpRun ∧ (s.lpOf 0).high = 49 ∧ s.get Fld.LOOP_STATUS_HEADROOM 0 = 1) ∧
    (∃ (s u : State) (sns : Fin 65536), s.lpSt 0 = lpRun ∧ (s.lpOf 0).mis = 49 ∧ s.get Fld.LOOP_STATUS_MISMATCH 0 = 0 ∧
      u = after (.loopSample 9 0 sns 5000) s ∧ 201 = ((u.get Fld.LOOP_MEAS_READBACK 0 : Int) - s.lpCurrent 0).natAbs) ∧
    (∃ (s u : State) (sns : Fin 65536), s.lpSt 0 = lpRun ∧ (s.lpOf 0).fit = 49 ∧ s.get Fld.LOOP_STATUS_MISMATCH 0 = 1 ∧
      u = after (.loopSample 9 0 sns 5000) s ∧ 200 = ((u.get Fld.LOOP_MEAS_READBACK 0 : Int) - s.lpCurrent 0).natAbs) ∧
    (∃ s : State, s.lpSt 0 = lpDrain ∧ (s.lpOf 0).enHeld = false) ∧ (∃ s : State, s.hasRec 0x0076 0 = false) ∧
    (∃ s : State, isKernel task (s.fnOwner (fnLoop 0)) = false) ∧ (∃ s : State, s.fnOn (fnLoop 0) = false) ∧
    (∃ s : State, s.hasRec 0x0076 0 = true ∧ isKernel kern (s.fnOwner (fnLoop 0)) = true ∧ s.fnOn (fnLoop 0) = true ∧
      s.armed (s.fnOwner (fnLoop 0)) = true ∧ s.flag Fld.LOOP_CFG_EN 0 = true ∧ s.lpSt 0 = lpOff ∧ s.lpStopped 0 = false ∧
      s.get Fld.LOOP_INIT_INITCODE 0 = 65535) ∧
    (∃ s : State, s.hasRec 0x0076 0 = true ∧ isKernel kern (s.fnOwner (fnLoop 0)) = true ∧ s.lpSt 0 = lpRun ∧
      s.get Fld.LOOP_CFG_FAULTMODE 0 = 0) ∧
    ∃ s : State, s.hasRec 0x0076 0 = true ∧ isKernel kern (s.fnOwner (fnLoop 0)) = true ∧ s.lpSt 0 = lpRun ∧
      s.get Fld.LOOP_CFG_FAULTMODE 0 = 2 :=
  ⟨⟨loop lpOff 0 {} [], by decide +kernel⟩, ⟨loop lpRun 0 { low := 4 } [], by decide +kernel⟩,
    ⟨loop lpRun 0 { low := 3, high := 48 } [], by decide +kernel⟩,
    ⟨loop lpRun 0 { high := 49 } [(Fld.LOOP_STATUS_HEADROOM, 0, 1)], by decide +kernel⟩,
    ⟨loop lpRun 0 { mis := 49 } [(Fld.LOOP_INIT_OFS, 0, 199)], _, 400, by decide +kernel, by decide +kernel, by decide +kernel, rfl, by decide +kernel⟩,
    ⟨loop lpRun 0 { fit := 49 } [(Fld.LOOP_STATUS_MISMATCH, 0, 1), (Fld.LOOP_INIT_OFS, 0, 200)], _, 400, by decide +kernel, by decide +kernel,
      by decide +kernel, rfl, by decide +kernel⟩,
    ⟨loop lpDrain 0 {} [], by decide +kernel⟩, ⟨base, by decide⟩, ⟨base, by decide⟩, ⟨base, by decide⟩,
    ⟨loop lpOff 0 {} [(Fld.LOOP_INIT_INITCODE, 0, 65535)], by decide +kernel⟩, ⟨loop lpRun 0 {} [], by decide +kernel⟩,
    loop lpRun 2 {} [], by decide +kernel⟩

/-- Metering port 0 in a state. -/
def meter (st : Nat) (v : Mtr) (l : List (Fld × Nat × Nat)) : State :=
  { recd 0x0077 0 ((Fld.MTR_PORT_STATUS_STATE, 0, st) :: l) with mtr := [(0, v)] }

/-- Pulse output 0 with pulses waiting and a WIDTH of 3. -/
def pulse (n : Nat) (v : Pls) : State :=
  { recd 0x0078 0 [(Fld.MTR_PLS_STATUS_PENDING, 0, n), (Fld.MTR_PLS_WIDTH_WIDTH, 0, 3)] with pls := [(0, v)] }

/-- A device whose key slot 0 holds the DEVICE key and whose journal takes records. -/
def signing (l : List (Fld × Nat × Nat)) : State :=
  { meter mtRun {} l with chn := { base.chn with slots := [(0, { base.keySlot 0 with use := 0x55 })] }, jnl := { ready := true } }

theorem wit_Metering :
    (∃ s : State, s.mtrSt 0 = mtOff) ∧
    (∃ (s : State) (x : MtrSample), s.mtrSt 0 = mtRun ∧ (s.mtrChans 0 x).any Prod.snd = true) ∧
    204800001 % 204800000 ≠ 0 ∧ 204800000 % 204800000 = 0 ∧
    (∃ s : State, s.mtrSt 0 = mtRun ∧ 0 ≤ ((s.mtrOf 0).ph.getD 0 {}).p) ∧
    (∃ s : State, s.mtrSt 0 = mtRun ∧ (s.mtrOf 0).ph = [{}, {}, {}] ∧ 0 < s.get Fld.MTR_THR_NOLOAD 0) ∧
    (∃ (s : State) (t : Nat), (s.plsOf 0).due = [] ∧ s.get Fld.MTR_PLS_STATUS_PENDING 0 = 65535 ∧ (s.plsOf 0).active = false ∧
      (s.plsOf 0).lastEnd = some 4 ∧ t = 4 + s.get Fld.MTR_PLS_WIDTH_WIDTH 0 * 204800) ∧
    (∃ (s : State) (t : Nat), (s.plsOf 0).due = [] ∧ (s.plsOf 0).lastEnd = some 4 ∧ t + 1 = 4 + s.get Fld.MTR_PLS_WIDTH_WIDTH 0 * 204800) ∧
    (∃ s : State, (s.plsOf 0).due = [] ∧ s.get Fld.MTR_PLS_STATUS_PENDING 0 = 0) ∧
    (∃ s : State, (s.plsOf 0).active = true ∧ (s.plsOf 0).startAt + s.get Fld.MTR_PLS_WIDTH_WIDTH 0 * 204800 = 614405) ∧
    (∃ s : State, (s.plsOf 0).active = true ∧ 614404 < (s.plsOf 0).startAt + s.get Fld.MTR_PLS_WIDTH_WIDTH 0 * 204800) ∧
    (∃ s : State, (s.mtrOf 0).past = [] ∧ s.flag Fld.MTR_PORT_STATUS_SNAPNEW 0 = true) ∧
    (∃ (s : State) (z : Nat × List Nat) (rest : List (Nat × List Nat)), (s.mtrOf 0).past = z :: rest ∧ z.1 ≤ 9 ∧ z.1 = 9) ∧
    (∃ s : State, s.flag Fld.MTR_PORT_STATUS_SEALED 0 = true ∧ (s.mtrOf 0).ckptAt = some 4 ∧ 59 < 4 + 60 * ftuSec) ∧
    (∃ s : State, (s.mtrOf 0).ckptAt = some 4 ∧ 4 + 60 * ftuSec ≤ 4 + 60 * ftuSec ∧ s.flag Fld.MTR_PORT_STATUS_SEALED 0 = true ∧
      s.canSign = true ∧ s.jnl.ready = true) ∧
    (∃ s : State, ∀ p, p < 4 → s.flag Fld.MTR_PORT_STATUS_SEALED p = false) ∧
    (∃ s : State, s.flag Fld.MTR_PORT_STATUS_SEALED 0 = true ∧ (∀ q, q < 4 → q ≠ 0 → s.flag Fld.MTR_PORT_STATUS_SEALED q = false) ∧
      s.canSign = true ∧ s.jnl.ready = true ∧ s.flag Fld.JNL_CFG_MIRROR 0 = false) ∧
    anyKernel task = false ∧ anyKernel kern = true ∧ (∃ s : State, (s.mtrOf 0).req = none) ∧
    (∃ s : State, (s.mtrOf 0).req = some true ∧ s.flag Fld.MTR_PORT_STATUS_SEALPEND 0 = true) ∧
    (∃ s : State, (s.mtrOf 0).req = some true ∧ s.flag Fld.MTR_PORT_STATUS_SEALED 0 = false ∧
      s.flag Fld.MTR_PORT_STATUS_SEALPEND 0 = false ∧ s.mtrSt 0 = mtRun ∧ (s.mtrOf 0).n ≠ 0) ∧
    ∃ s : State, (s.mtrOf 0).req = some false ∧ s.flag Fld.MTR_PORT_STATUS_SEALED 0 = false ∧
      s.flag Fld.MTR_PORT_STATUS_SEALPEND 0 = false ∧ s.mtrSt 0 = mtOff ∧ s.flag Fld.MTR_PORT_CFG_EN 0 = true :=
  ⟨⟨base, by decide⟩, ⟨meter mtRun {} [(Fld.MTR_CHGAIN_GAIN, 0, 65536)], ⟨2147483648, 0, 0, 0, 0, 0, 0, 0, 0, 0⟩, by decide +kernel⟩,
    by decide, by decide,
    ⟨meter mtRun {} [], by decide +kernel⟩, ⟨meter mtRun {} [(Fld.MTR_THR_NOLOAD, 0, 1)], by decide +kernel⟩,
    ⟨pulse 65535 { lastEnd := some 4 }, 614404, by decide +kernel⟩, ⟨pulse 5 { lastEnd := some 4 }, 614403, by decide +kernel⟩,
    ⟨base, by decide⟩, ⟨pulse 5 { active := true, startAt := 5 }, by decide +kernel⟩,
    ⟨pulse 5 { active := true, startAt := 5 }, by decide +kernel⟩, ⟨regs [(Fld.MTR_PORT_STATUS_SNAPNEW, 0, 1)], by decide⟩,
    ⟨meter mtRun { past := [(9, [])] } [], _, _, rfl, by decide⟩,
    ⟨meter mtRun { ckptAt := some 4 } [(Fld.MTR_PORT_STATUS_SEALED, 0, 1)], by decide +kernel⟩,
    ⟨{ signing [(Fld.MTR_PORT_STATUS_SEALED, 0, 1)] with mtr := [(0, { ckptAt := some 4 })] }, by decide +kernel⟩, ⟨base, by decide⟩,
    ⟨signing [(Fld.MTR_PORT_STATUS_SEALED, 0, 1)], by decide +kernel⟩, by decide, by decide, ⟨base, by decide⟩,
    ⟨meter mtRun { req := some true } [(Fld.MTR_PORT_STATUS_SEALPEND, 0, 1)], by decide +kernel⟩,
    ⟨meter mtRun { req := some true, n := 1 } [], by decide +kernel⟩,
    meter mtOff { req := some false } [(Fld.MTR_PORT_CFG_EN, 0, 1)], by decide +kernel⟩

/-! ### The Jalam link -/

/-- Record 0x90 of a node: its role, address 5, owner core 0, BMOD 1, RETRY 3, and one network of id 0x21 on key slot 1. -/
def jrecord (role : Nat) : Rec :=
  { typ := 0x90, inst := 0, flags := 0, index := 0, off := 0,
    val := [0, 0, BitVec.ofNat 8 role, 0, 5, 0, 1, 3, 0, 0, 0, 0, 0, 0, 0, 0, 0x21, 1, 0, 1, 0, 0, 0, 0, 0, 0, 0, 0, 0, 0, 0, 0] }

/-- A node in its states, with its keys and one of the MAC's states. -/
def node (role net phy : Nat) (l : List (Fld × Nat × Nat)) (j : Jln) : State :=
  let s := regs ([(Fld.JLN_NET_STATUS_STATE, 0, net), (Fld.JLN_PHY_STATUS_STATE, 0, phy)] ++ l)
  { s with img := { s.img with live := [jrecord role] }, jln := j,
           chn := { s.chn with slots := [(0, { use := 0x55 }), (1, { use := 0x3C })] } }

/-- A header of 30 bits with its CRC (Table 18.2). -/
def jhead (len md : Nat) : BitVec 30 :=
  let n := (len * 4 + md) * 2
  BitVec.ofNat 30 (n * 65536 + jlnCrc16 (msbBits 14 n))

/-- The bits of a frame with its FCS, scrambled (R326, R327). -/
def jbits (b : List Byte) : List Bool := jlnScramble 127 ((b ++ leBytes 4 (crc32 b)).flatMap lsbBits)

/-- A frame of source 3 with SEQ 7: FCTL, NETID, DST, SRC, SEQ and the body. -/
def jframe (fctl : Byte) (dst : Byte) (body : List Byte) : List Byte := [fctl, 0x21, dst, 0, 3, 0, 7, 0] ++ body

def jin (fctl : Byte) (body : List Byte) : JIn := ⟨jframe fctl 5 body, 100, 200⟩

/-- A MGMT frame of a type, FCNT 9 and EPOCH 1. -/
def mgmtHead (mtype : Byte) (body : List Byte) : List Byte := jframe 4 5 ([mtype, 9, 0, 0, 0, 0, 1] ++ body)

/-- The same with a TAG. -/
def mgmtIn (mtype : Byte) (body tag : List Byte) : JIn := ⟨mgmtHead mtype body ++ tag, 100, 200⟩

/-- The TAG that the keys of a state give it. -/
def goodTag (s : State) (mtype : Byte) (body : List Byte) : List Byte :=
  s.mgmtTag 0 0x21 3 9 mtype.toNat 1 (mgmtHead mtype body)

/-- A state whose inbox holds a MGMT frame with a good TAG. -/
def told (role net : Nat) (l : List (Fld × Nat × Nat)) (j : Jln) (mtype : Byte) (body : List Byte) : State :=
  node role net 1 l { j with inbox := some (mgmtIn mtype body (goodTag (node role net 1 l j) mtype body)) }

def toldFrame (role net : Nat) (l : List (Fld × Nat × Nat)) (j : Jln) (mtype : Byte) (body : List Byte) : JIn :=
  mgmtIn mtype body (goodTag (node role net 1 l j) mtype body)

theorem wit_JalamReceives :
    (∃ (s : State) (t : Nat), s.phy = phPayload ∧ t < s.busyEnd ∧ t = 6) ∧
    (∃ (s : State) (f : JIn) (r : Nat), s.jln.inbox = some f ∧ f.ftype = ftData ∧ s.net = nwCoord ∧ s.unconfirmed f.src = false ∧
      Table.get 0 s.jln.seen f.src = 0 ∧ s.rxBuffer = some r) ∧
    (∃ s : State, s.phy = phSearch) ∧
    (∃ (s : State) (snr : BitVec 8), s.phy = phPayload ∧ s.flag Fld.JLN_RX_HDR_BCN 0 = false ∧
      s.jln.rxSnr + 4 * (s.get Fld.JLN_PHY_CFG_CAPDB 0 : Int) = snr.toInt) ∧
    (∃ (s : State) (snr : BitVec 8), s.phy = phPayload ∧ snr.toInt + 1 = s.jln.rxSnr + 4 * (s.get Fld.JLN_PHY_CFG_CAPDB 0 : Int)) ∧
    (∃ s : State, s.phy = phHeader) ∧
    (∃ h : BitVec 30, jlnCrc16 (msbBits 14 (h.toNat / 65536)) ≠ h.toNat % 65536) ∧
    (∃ h : BitVec 30, jlnCrc16 (msbBits 14 (h.toNat / 65536)) = h.toNat % 65536 ∧ 0 < h.toNat / 2 ^ 19 ∧ h.toNat / 2 ^ 19 = 1024) ∧
    (∃ h : BitVec 30, jlnCrc16 (msbBits 14 (h.toNat / 65536)) = h.toNat % 65536 ∧ 1024 < h.toNat / 2 ^ 19 ∧ h.toNat / 2 ^ 19 = 1025) ∧
    (∃ (s : State) (bs : List Bool) (b : List Byte), s.phy = phPayload ∧ s.busyEnd = 0 ∧
      b = packBytes (s.get Fld.JLN_RX_HDR_LEN 0 + 4) (jlnScramble 127 bs) ∧
      leNat (b.drop (s.get Fld.JLN_RX_HDR_LEN 0)) ≠ crc32 (b.take (s.get Fld.JLN_RX_HDR_LEN 0))) ∧
    (∀ fctl dst : Byte, (fctl, dst) ∈ [(0, 5), (0, 6), (8, 5)] → ∃ (s : State) (bs : List Bool) (b : List Byte) (f : JIn),
      s.phy = phPayload ∧ s.busyEnd = 0 ∧
      b = packBytes (s.get Fld.JLN_RX_HDR_LEN 0 + 4) (jlnScramble 127 bs) ∧ 8 * (s.get Fld.JLN_RX_HDR_LEN 0 + 4) = bs.length ∧
      leNat (b.drop (s.get Fld.JLN_RX_HDR_LEN 0)) = crc32 (b.take (s.get Fld.JLN_RX_HDR_LEN 0)) ∧
      f = ⟨b.take (s.get Fld.JLN_RX_HDR_LEN 0), s.rxStamp, s.busyEnd⟩ ∧ 8 ≤ f.bytes.length ∧ s.foreignBcn f = false ∧
      s.hears f.netid = true ∧ (f.dst = s.jAddr ↔ dst = 5) ∧ (f.wellFormed = true ↔ fctl = 0)) ∧
    (∃ (s : State) (f : JIn) (r : Nat), s.jln.inbox = some f ∧ f.ftype = ftData ∧ s.net = nwMember ∧
      Table.get 0 s.jln.seen f.src = 0 ∧ s.rxBuffer = some r ∧ f.ackreq = true ∧ f.bcast = false) ∧
    (∃ (s : State) (f : JIn), s.jln.inbox = some f ∧ f.ftype = ftData ∧ s.net = nwMember ∧
      (Table.get 0 s.jln.seen f.src - 1) % 65536 ≠ f.seq ∧ s.rxBuffer = none) ∧
    (∃ (s : State) (f : JIn) (t : Nat), s.jln.inbox = some f ∧ f.ftype = ftData ∧ s.net = nwMember ∧
      0 < Table.get 0 s.jln.seen f.src ∧ (Table.get 0 s.jln.seen f.src - 1) % 65536 = f.seq ∧
      t = (Table.get 0 s.jln.seen f.src - 1) / 65536 + 3 * s.jln.period) ∧
    (∃ s : State, s.jlnOwner kern = false) ∧ ∃ s : State, s.jlnOwner kern = true :=
  ⟨⟨node 1 nwMember phPayload [(Fld.JLN_BUSY_END_LO_END, 0, 7)] {}, 6, by decide +kernel⟩,
    ⟨node 1 nwCoord phSearch [] { inbox := some (jin 0x20 [1]), members := [⟨3, [], true, 0, 0, 0, 0, none⟩] }, jin 0x20 [1], 0,
      by decide +kernel⟩,
    ⟨node 1 nwMember phSearch [] {}, by decide +kernel⟩,
    ⟨node 1 nwMember phPayload [(Fld.JLN_PHY_CFG_CAPDB, 0, 3)] { rxSnr := 5 }, 17, by decide +kernel⟩,
    ⟨node 1 nwMember phPayload [(Fld.JLN_PHY_CFG_CAPDB, 0, 3)] { rxSnr := 5 }, 16, by decide +kernel⟩,
    ⟨node 1 nwMember phHeader [] {}, by decide +kernel⟩, ⟨0, by decide +kernel⟩, ⟨jhead 1024 1, by decide +kernel⟩,
    ⟨jhead 1025 1, by decide +kernel⟩,
    ⟨node 1 nwMember phPayload [(Fld.JLN_RX_HDR_LEN, 0, 8)] {}, [], _, by decide +kernel, by decide +kernel, rfl, by decide +kernel⟩,
    by
      intro fctl dst h
      simp only [List.mem_cons, Prod.mk.injEq, List.not_mem_nil, or_false] at h
      rcases h with ⟨rfl, rfl⟩ | ⟨rfl, rfl⟩ | ⟨rfl, rfl⟩
      · exact ⟨node 1 nwMember phPayload [(Fld.JLN_RX_HDR_LEN, 0, 8)] {}, jbits (jframe 0 5 []), _, _, by decide +kernel, by decide +kernel, rfl,
          by decide +kernel, by decide +kernel, rfl, by decide +kernel⟩
      · exact ⟨node 1 nwMember phPayload [(Fld.JLN_RX_HDR_LEN, 0, 8)] {}, jbits (jframe 0 6 []), _, _, by decide +kernel, by decide +kernel, rfl,
          by decide +kernel, by decide +kernel, rfl, by decide +kernel⟩
      · exact ⟨node 1 nwMember phPayload [(Fld.JLN_RX_HDR_LEN, 0, 8)] {}, jbits (jframe 8 5 []), _, _, by decide +kernel, by decide +kernel, rfl,
          by decide +kernel, by decide +kernel, rfl, by decide +kernel⟩,
    ⟨node 1 nwMember phSearch [] { inbox := some (jin 0x20 [1]) }, jin 0x20 [1], 0, by decide +kernel⟩,
    ⟨node 1 nwMember phSearch [(Fld.JLN_RX_INFO_FULL, 0, 1), (Fld.JLN_RX_INFO_FULL, 1, 1), (Fld.JLN_RX_INFO_FULL, 2, 1),
      (Fld.JLN_RX_INFO_FULL, 3, 1)] { inbox := some (jin 0 [1]), seen := [(3, 7)] }, jin 0 [1], by decide +kernel⟩,
    ⟨node 1 nwMember phSearch [] { inbox := some (jin 0 [1]), seen := [(3, 8)], period := 4 }, jin 0 [1], 12, by decide +kernel⟩,
    ⟨base, by decide⟩, node 1 nwMember phSearch [] {}, by decide +kernel⟩

/-- A frame of transmit buffer 0 with SEQ 7 to node 3, which asks for an ACK. -/
def outFrame (tries : Nat) : JFrame := { src := .buf 0, dst := 3, ackreq := true, body := [1], seq := some 7, tries := tries }

def jline : JLine := { item := .frame (outFrame 0), bytes := [], start := 0, endAt := 40, sig := [] }

theorem wit_JalamSends :
    (∃ s : State, s.jln.polled = some (3, 60) ∧ s.phy ≠ phHeader ∧ s.phy ≠ phPayload ∧ s.jln.answering = true) ∧
    (∃ s : State, s.jln.line ≠ none) ∧ (∃ s : State, s.phy = phOff) ∧
    (∃ (s : State) (j : JJob) (rest : List JJob) (t : Nat), s.jln.line = none ∧ s.phy ≠ phOff ∧ s.vldLow = false ∧
      s.jln.jobs = j :: rest ∧ jlnSample j.start = t ∧ s.phy = phHeader ∧ j.item = .ack 3 7) ∧
    (∃ (s : State) (t : Nat), (∀ j ∈ s.jln.jobs, t < jlnSample j.start) ∧ t = 51199 ∧ s.jln.jobs ≠ []) ∧
    (∃ s : State, s.jln.line = some jline ∧ 39 < jline.endAt) ∧
    (∃ (s : State) (l : JLine), s.jln.line = some l ∧ l.endAt ≤ 40 ∧ s.phy = phAborting ∧ s.jln.enHeld = false) ∧
    (∃ (s : State) (l : JLine) (f : JFrame), s.jln.line = some l ∧ l.endAt ≤ 40 ∧ s.phy ≠ phAborting ∧ l.item = .frame f ∧
      f.ackreq = true ∧ f.src = .buf 0) ∧
    (∃ s : State, s.jln.wait = none) ∧ (∃ (s : State) (w : JWait), s.jln.wait = some w ∧ 59 < w.till) ∧
    (∃ (s : State) (w : JWait), s.jln.wait = some w ∧ w.till ≤ 60 ∧ s.ackHeader = false ∧ w.f.src = .buf 0 ∧
      w.f.halt = false ∧ s.jRetry = w.f.tries) ∧
    (∃ (s : State) (w : JWait), s.jln.wait = some w ∧ w.till ≤ 60 ∧ s.ackHeader = false ∧ w.f.src = .buf 0 ∧
      w.f.halt = false ∧ w.f.tries < s.jRetry ∧ w.f.tries = 2) ∧
    (∃ s : State, s.jln.wait = some ⟨outFrame 2, 60⟩ ∧ s.ackHeader = true) ∧
    (∃ (s : State) (f : JIn), s.jln.inbox = some f ∧ f.ftype ≠ ftAck) ∧
    (∃ (s : State) (f : JIn) (w : JWait), s.jln.inbox = some f ∧ f.ftype = ftAck ∧ s.jln.wait = some w ∧ w.f.src = .buf 0 ∧
      w.f.seq = some f.seq ∧ w.f.dst = f.src) ∧
    (∃ s : State, s.jlnFree = false) ∧
    (∃ (s : State) (f : JFrame) (t : Nat), s.net = nwMember ∧ s.netValid s.netIdx = true ∧ s.jlnFree = true ∧ s.jln.cpFrom = t ∧ s.vldLow = false ∧
      s.cpFrame? = some f ∧ s.jln.backoff = some 0 ∧ s.jlnIdle t = true ∧ jlnSample (s.spaced f t) + s.frameTime f < s.jln.nextBcn) ∧
    (∃ s : State, s.netValid s.netIdx = false) ∧
    (∃ (s : State) (t : Nat), s.jln.backoff = some (0 + 2) ∧ s.jlnIdle t = true ∧ s.jlnFree = true ∧ s.jln.cpFrom + jlnSym ≤ t ∧
      s.busyEnd + jlnSym ≤ t ∧ s.jln.slotAt + jlnSym = t) ∧
    (∃ (s : State) (t : Nat), s.jln.backoff = some (0 + 1) ∧ t + 1 = s.jln.slotAt + jlnSym) ∧
    (∃ (s : State) (t : Nat), s.jlnIdle t = false) ∧
    (∃ (s : State) (f : JIn), s.jln.inbox = some f ∧ f.ftype = ftPoll ∧ s.net = nwMember ∧ f.src = s.jln.coord ∧ s.jln.queue = []) ∧
    (∃ (s : State) (f : JIn), s.jln.inbox = some f ∧ f.ftype = ftPoll ∧ s.net ≠ nwMember) ∧
    (∃ (s : State) (f : JIn), s.jln.inbox = some f ∧ f.ftype = ftNull) ∧
    (∃ s : State, s.jln.polled = some (3, 60) ∧ s.phy = phHeader) ∧
    (∃ (s : State) (m : JMember), s.jln.polled = some (3, 60) ∧ s.phy ≠ phHeader ∧ s.phy ≠ phPayload ∧
      s.jln.answering = false ∧ s.memberOf 3 = some m ∧ m.noresp = 7) ∧
    (∃ (s : State) (m : JMember), s.jln.polled = some (3, 60) ∧ s.phy ≠ phHeader ∧ s.phy ≠ phPayload ∧
      s.jln.answering = false ∧ s.memberOf 3 = some m ∧ m.noresp = 6) ∧
    (∃ s : State, s.jlnOwner kern = false) ∧ (∃ s : State, s.jlnOwner kern = true ∧ s.get Fld.JLN_TX_STATUS_STATE 0 = txWaitAck) ∧
    (∃ s : State, s.jlnOwner kern = true ∧ s.get Fld.JLN_TX_STATUS_STATE 0 = 0 ∧ s.flag Fld.JLN_TX_CFG_BCAST 0 = true ∧
      s.flag Fld.JLN_TX_CFG_ACKREQ 0 = true) ∧
    (∃ s : State, s.jlnOwner kern = true ∧ s.flag Fld.JLN_TX_CFG_BCAST 0 = false ∧ s.get Fld.JLN_TX_LEN_LEN 0 = 1017) ∧
    (∃ s : State, s.jlnOwner kern = true ∧ s.flag Fld.JLN_TX_CFG_BCAST 0 = false ∧ 0 < s.get Fld.JLN_TX_LEN_LEN 0 ∧
      s.get Fld.JLN_TX_LEN_LEN 0 = 1016) ∧
    (∃ (s : State) (f : JFrame), s.jlnOwner kern = true ∧ f ∈ s.jln.queue ∧ f.src = .buf 0) ∧
    ∃ (s : State) (w : JWait), s.jlnOwner kern = true ∧ s.jln.queue = [] ∧ s.jln.jobs = [] ∧ s.jln.wait = some w ∧ w.f.src = .buf 0 :=
  ⟨⟨node 1 nwCoord phSearch [] { polled := some (3, 60), answering := true }, by decide +kernel⟩,
    ⟨node 1 nwMember phTx [] { line := some jline }, by decide +kernel⟩, ⟨node 1 nwOff phOff [] {}, by decide +kernel⟩,
    ⟨node 1 nwMember phHeader [] { jobs := [⟨51200, .ack 3 7⟩] }, ⟨51200, .ack 3 7⟩, [], 51200, by decide +kernel⟩,
    ⟨node 1 nwMember phHeader [] { jobs := [⟨51200, .ack 3 7⟩] }, 51199, by decide +kernel⟩,
    ⟨node 1 nwMember phTx [] { line := some jline }, by decide +kernel⟩,
    ⟨node 1 nwDrain phAborting [] { line := some jline }, jline, by decide +kernel⟩,
    ⟨node 1 nwMember phTx [] { line := some jline }, jline, outFrame 0, by decide +kernel⟩, ⟨base, by decide⟩,
    ⟨node 1 nwMember phSearch [] { wait := some ⟨outFrame 0, 60⟩ }, ⟨outFrame 0, 60⟩, by decide +kernel⟩,
    ⟨node 1 nwMember phSearch [] { wait := some ⟨outFrame 3, 60⟩ }, ⟨outFrame 3, 60⟩, by decide +kernel⟩,
    ⟨node 1 nwMember phSearch [] { wait := some ⟨outFrame 2, 60⟩ }, ⟨outFrame 2, 60⟩, by decide +kernel⟩,
    ⟨node 1 nwMember phPayload [(Fld.JLN_RX_HDR_LEN, 0, 8)] { wait := some ⟨outFrame 2, 60⟩ }, by decide +kernel⟩,
    ⟨node 1 nwMember phSearch [] { inbox := some (jin 0 []) }, jin 0 [], by decide +kernel⟩,
    ⟨node 1 nwMember phSearch [] { inbox := some (jin 1 []), wait := some ⟨outFrame 0, 60⟩ }, jin 1 [], ⟨outFrame 0, 60⟩, by decide +kernel⟩,
    ⟨node 1 nwMember phTx [] { line := some jline }, by decide +kernel⟩,
    ⟨node 1 nwMember phSearch [] { queue := [outFrame 0], cpFrom := 9, backoff := some 0, nextBcn := 10000000000 }, outFrame 0, 9,
      by decide +kernel⟩,
    ⟨base, by decide +kernel⟩, ⟨node 1 nwMember phSearch [] { backoff := some 2, cpFrom := 9, slotAt := 9 }, 9 + jlnSym, by decide +kernel⟩,
    ⟨node 1 nwMember phSearch [] { backoff := some 1, cpFrom := 9, slotAt := 9 }, 8 + jlnSym, by decide +kernel⟩,
    ⟨node 1 nwMember phHeader [] {}, 9, by decide +kernel⟩,
    ⟨node 1 nwMember phSearch [] { inbox := some (jin 2 []), coord := 3 }, jin 2 [], by decide +kernel⟩,
    ⟨node 1 nwCoord phSearch [] { inbox := some (jin 2 []) }, jin 2 [], by decide +kernel⟩,
    ⟨node 1 nwCoord phSearch [] { inbox := some (jin 3 []), polled := some (3, 60) }, jin 3 [], by decide +kernel⟩,
    ⟨node 1 nwCoord phHeader [] { polled := some (3, 60) }, by decide +kernel⟩,
    ⟨node 1 nwCoord phSearch [] { polled := some (3, 60), members := [⟨3, [], true, 0, 0, 0, 7, none⟩] }, ⟨3, [], true, 0, 0, 0, 7, none⟩,
      by decide +kernel⟩,
    ⟨node 1 nwCoord phSearch [] { polled := some (3, 60), members := [⟨3, [], true, 0, 0, 0, 6, none⟩] }, ⟨3, [], true, 0, 0, 0, 6, none⟩,
      by decide +kernel⟩,
    ⟨base, by decide⟩, ⟨node 1 nwMember phSearch [(Fld.JLN_TX_STATUS_STATE, 0, txWaitAck)] {}, by decide +kernel⟩,
    ⟨node 1 nwMember phSearch [(Fld.JLN_TX_CFG_BCAST, 0, 1), (Fld.JLN_TX_CFG_ACKREQ, 0, 1)] {}, by decide +kernel⟩,
    ⟨node 1 nwMember phSearch [(Fld.JLN_TX_LEN_LEN, 0, 1017)] {}, by decide +kernel⟩,
    ⟨node 1 nwMember phSearch [(Fld.JLN_TX_LEN_LEN, 0, 1016)] {}, by decide +kernel⟩,
    ⟨node 1 nwMember phSearch [] { queue := [outFrame 0] }, outFrame 0, by decide +kernel⟩,
    node 1 nwMember phSearch [] { wait := some ⟨outFrame 0, 60⟩ }, ⟨outFrame 0, 60⟩, by decide +kernel⟩

/-- A frame whose TAG is not the one of the keys: of two that differ in the TAG alone, one is. -/
theorem badTag (s : State) : ∃ tag : List Byte, tag.length = 8 ∧ s.tagOk 0 (mgmtIn 0 [] tag) = false := by
  by_cases h : s.tagOk 0 (mgmtIn 0 [] [0, 0, 0, 0, 0, 0, 0, 0]) = true
  · refine ⟨[1, 0, 0, 0, 0, 0, 0, 0], rfl, ?_⟩
    unfold State.tagOk at h ⊢
    have e : s.mgmtTag 0 0x21 3 9 0 1 (mgmtHead 0 []) = [0, 0, 0, 0, 0, 0, 0, 0] := (beq_iff_eq.mp h).symm
    have g : (mgmtIn 0 [] [1, 0, 0, 0, 0, 0, 0, 0]).tag = [1, 0, 0, 0, 0, 0, 0, 0] := rfl
    have k : s.mgmtTag 0 (mgmtIn 0 [] [1, 0, 0, 0, 0, 0, 0, 0]).netid (mgmtIn 0 [] [1, 0, 0, 0, 0, 0, 0, 0]).src
        (mgmtIn 0 [] [1, 0, 0, 0, 0, 0, 0, 0]).fcnt (mgmtIn 0 [] [1, 0, 0, 0, 0, 0, 0, 0]).mtype
        (mgmtIn 0 [] [1, 0, 0, 0, 0, 0, 0, 0]).epoch
        ((mgmtIn 0 [] [1, 0, 0, 0, 0, 0, 0, 0]).bytes.take ((mgmtIn 0 [] [1, 0, 0, 0, 0, 0, 0, 0]).bytes.length - 8)) =
        s.mgmtTag 0 0x21 3 9 0 1 (mgmtHead 0 []) := rfl
    rw [g, k, e]; decide
  · exact ⟨[0, 0, 0, 0, 0, 0, 0, 0], rfl, by simpa using h⟩

theorem told_ok (s : State) (m : Byte) (body : List Byte) (j : Jln) (f : JIn)
    (hf : f = mgmtIn m body (s.mgmtTag 0 0x21 3 9 m.toNat 1 (mgmtHead m body)))
    (h1 : f.netid = 0x21) (h2 : f.src = 3) (h3 : f.fcnt = 9) (h4 : f.mtype = m.toNat) (h5 : f.epoch = 1) :
    ({ s with jln := j } : State).tagOk 0 f = true := by
  have n : (s.mgmtTag 0 0x21 3 9 m.toNat 1 (mgmtHead m body)).length = 8 := rfl
  have b : f.bytes = mgmtHead m body ++ s.mgmtTag 0 0x21 3 9 m.toNat 1 (mgmtHead m body) := by rw [hf]; rfl
  have k : f.bytes.length - 8 = (mgmtHead m body).length := by rw [b, List.length_append, n]; omega
  unfold State.tagOk
  have g : f.tag = s.mgmtTag 0 0x21 3 9 m.toNat 1 (mgmtHead m body) := by
    unfold JIn.tag; rw [k, b]; exact List.drop_left ..
  rw [k, h1, h2, h3, h4, h5, g, b, List.take_left]
  exact beq_self_eq_true _

theorem told_tag (role net : Nat) (l : List (Fld × Nat × Nat)) (j : Jln) (m : Byte) (body : List Byte) :
    (told role net l j m body).tagOk 0 (toldFrame role net l j m body) = true :=
  told_ok (node role net 1 l j) m body { j with inbox := some (toldFrame role net l j m body) } (toldFrame role net l j m body)
    rfl rfl rfl rfl (by show m.toNat + 256 * 0 = m.toNat; omega) rfl

theorem told_tag_net (role net : Nat) (l : List (Fld × Nat × Nat)) (j : Jln) (m : Byte) (body : List Byte)
    (h : (told role net l j m body).netIdx = 0) :
    (told role net l j m body).tagOk (told role net l j m body).netIdx (toldFrame role net l j m body) = true := by
  rw [h]; exact told_tag ..

/-- What a READ_METER and a REVOKE carry (R437, R438). -/
def readBody : List Byte := [0x10, 0, 3, 0] ++ List.replicate 8 9
/-- A REVOKE of slot 2 for DEVID 0, signed with the private scalar of `pubKey` in slot 3. -/
def revokeBody : List Byte :=
  [0x20, 2, 3, 0] ++ List.replicate 8 0 ++
    leBytes 32 106232152598057411024940428871511413747806314851697690199717195229820585264536 ++
    leBytes 32 37180336987523042922688946926140504466940792008490463950833539228692919178754

theorem wit_Beacons :
    (∃ (s : State) (f : JIn), s.jln.inbox = some f ∧ f.ftype = ftMgmt ∧ f.mtype = 0 ∧ s.netOf f.netid = some 0 ∧ s.net = nwListen ∧
      s.tagOk 0 f = true ∧ s.jln.heard = []) ∧
    (∃ (s : State) (f : JIn), s.jln.inbox = some f ∧ f.ftype = ftMgmt ∧ f.mtype = 0 ∧ s.netOf f.netid = some 0 ∧ s.net = nwListen ∧
      s.tagOk 0 f = true ∧ s.jln.heard = [⟨0, f.src, 1⟩] ∧ s.flag Fld.SYS_CHN_STATUS_TRNGFAIL 0 = false) ∧
    (∃ (s : State) (f : JIn), s.jln.inbox = some f ∧ f.ftype = ftMgmt ∧ f.mtype = 0 ∧ s.netOf f.netid = some 0 ∧ s.net = nwListen ∧
      s.tagOk 0 f = false) ∧
    (∃ (s : State) (f : JIn), s.jln.inbox = some f ∧ f.ftype = ftMgmt ∧ f.mtype = 0 ∧ s.netOf f.netid = some 0 ∧ s.net = nwMember ∧
      s.tagOk s.netIdx f = true ∧ s.verdict f = .fresh) ∧
    ∃ (s : State) (f : JIn), s.jln.inbox = some f ∧ f.ftype = ftMgmt ∧ f.mtype = 0 ∧ s.netOf f.netid = some 0 ∧ s.net = nwMember ∧
      s.tagOk s.netIdx f = true ∧ s.verdict f = .old := by
  refine ⟨⟨told 1 nwListen [] {} 0 [], _, rfl, by decide +kernel, by decide +kernel, by decide +kernel, by decide +kernel,
      told_tag .., rfl⟩,
    ⟨told 1 nwListen [] { heard := [⟨0, 3, 1⟩] } 0 [], _, rfl, by decide +kernel, by decide +kernel, by decide +kernel,
      by decide +kernel, told_tag .., by decide +kernel, by decide +kernel⟩, ?_,
    ⟨told 1 nwMember [] { coord := 3, entry := some (1099511627784, 9) } 0 [], _, rfl, by decide +kernel, by decide +kernel,
      by decide +kernel, by decide +kernel, told_tag_net _ _ _ _ _ _ (by decide +kernel), by decide +kernel⟩,
    told 1 nwMember [] { coord := 3, entry := some (1099511627786, 9) } 0 [], _, rfl, by decide +kernel, by decide +kernel,
      by decide +kernel, by decide +kernel, told_tag_net _ _ _ _ _ _ (by decide +kernel), by decide +kernel⟩
  obtain ⟨tag, n, h⟩ := badTag (node 1 nwListen 1 [] {})
  have a : (node 1 nwListen 1 [] {}).netOf 0x21 = some 0 := by decide +kernel
  have b : (node 1 nwListen 1 [] {}).net = nwListen := by decide +kernel
  exact ⟨node 1 nwListen 1 [] { inbox := some (mgmtIn 0 [] tag) }, _, rfl, rfl, rfl, a, b, h⟩

theorem wit_Associations :
    (∃ (s : State) (f : JIn), s.jln.inbox = some f ∧ f.ftype = ftMgmt ∧ f.mtype = 1 ∧ s.net = nwCoord ∧ s.tagOk s.netIdx f = true ∧
      s.memberOf f.src = none ∧ s.jln.members.length < 256 ∧ s.flag Fld.SYS_CHN_STATUS_TRNGFAIL 0 = false) ∧
    (∀ r ∈ [0, 1], ∃ (s : State) (f : JIn), s.jln.inbox = some f ∧ f.ftype = ftMgmt ∧ f.mtype = 2 ∧ s.net = nwAssoc ∧
      s.tagOk s.netIdx f = true ∧ f.src = s.jln.coord ∧ s.jln.entry = none ∧ f.mbody.take 8 = s.jln.nm ∧
      leNat ((f.mbody.drop 16).take 1) = r) ∧
    (∃ (s : State) (f : JIn) (m : JMember), s.jln.inbox = some f ∧ f.ftype = ftMgmt ∧ f.mtype = 3 ∧ s.net = nwCoord ∧
      s.tagOk s.netIdx f = true ∧ s.verdict f = .fresh ∧ s.memberOf f.src = some m ∧ m.conf = false ∧ m.nc = f.mbody) ∧
    (∃ (s : State) (f : JIn), s.jln.inbox = some f ∧ f.ftype = ftMgmt ∧ f.mtype = 4 ∧ s.tagOk s.netIdx f = true ∧
      s.verdict f = .fresh ∧ s.unconfirmed f.src = false ∧ s.net = nwMember) ∧
    ∃ (s : State) (f : JIn), s.jln.inbox = some f ∧ f.ftype = ftMgmt ∧ f.mtype = 4 ∧ s.tagOk s.netIdx f = true ∧
      s.verdict f = .fresh ∧ s.unconfirmed f.src = false ∧ s.net = nwCoord := by
  refine ⟨⟨told 1 nwCoord [] {} 1 [], _, rfl, by decide +kernel, by decide +kernel, by decide +kernel,
      told_tag_net _ _ _ _ _ _ (by decide +kernel), by decide +kernel, by decide +kernel, by decide +kernel⟩, ?_,
    ⟨told 1 nwCoord [] { members := [⟨3, [8], false, 0, 0, 0, 0, none⟩] } 3 [8], _, ⟨3, [8], false, 0, 0, 0, 0, none⟩, rfl, by decide +kernel,
      by decide +kernel, by decide +kernel, told_tag_net _ _ _ _ _ _ (by decide +kernel), by decide +kernel, by decide +kernel, rfl,
      by decide +kernel⟩,
    ⟨told 1 nwMember [] { coord := 3, entry := some (5, 9) } 4 [], _, rfl, by decide +kernel, by decide +kernel,
      told_tag_net _ _ _ _ _ _ (by decide +kernel), by decide +kernel, by decide +kernel, by decide +kernel⟩,
    told 1 nwCoord [] { members := [⟨3, [8], true, 0, 0, 0, 0, none⟩] } 4 [], _, rfl, by decide +kernel, by decide +kernel,
      told_tag_net _ _ _ _ _ _ (by decide +kernel), by decide +kernel, by decide +kernel, by decide +kernel⟩
  intro r h
  simp only [List.mem_cons, List.not_mem_nil, or_false] at h
  rcases h with rfl | rfl
  · exact ⟨told 1 nwAssoc [] { coord := 3, nm := List.replicate 8 7 } 2 (List.replicate 8 7 ++ List.replicate 8 6 ++ [0]), _, rfl,
      by decide +kernel, by decide +kernel, by decide +kernel, told_tag_net _ _ _ _ _ _ (by decide +kernel), by decide +kernel, rfl,
      by decide +kernel, by decide +kernel⟩
  · exact ⟨told 1 nwAssoc [] { coord := 3, nm := List.replicate 8 7 } 2 (List.replicate 8 7 ++ List.replicate 8 6 ++ [1]), _, rfl,
      by decide +kernel, by decide +kernel, by decide +kernel, told_tag_net _ _ _ _ _ _ (by decide +kernel), by decide +kernel, rfl,
      by decide +kernel, by decide +kernel⟩

/-- A device that can sign, with IMAGE keys in slots 2 and 3. -/
def revoker : State :=
  { base with chn := { base.chn with slots := [(0, { use := 0x55 }), (2, { use := 0x0F }), (3, { use := 0x0F, key := pubKey })] } }

theorem wit_Remote :
    (∃ (s : State) (f : JIn), s.jln.inbox = some f ∧ f.ftype = ftMgmt ∧ f.mtype = 5 ∧ s.net = nwMember ∧
      s.tagOk s.netIdx f = true ∧ s.verdict f = .fresh ∧ leNat (f.mbody.take 1) = 0x10 ∧ f.mbody.length = 12 ∧
      leNat ((f.mbody.drop 1).take 1) < 4 ∧ leNat ((f.mbody.drop 2).take 1) = 3 ∧ leNat ((f.mbody.drop 3).take 1) = 0 ∧
      s.canSign = true) ∧
    (∃ (s : State) (f : JIn), s.jln.inbox = some f ∧ f.ftype = ftMgmt ∧ f.mtype = 5 ∧ s.net = nwMember ∧
      s.tagOk s.netIdx f = true ∧ s.verdict f = .fresh ∧ leNat (f.mbody.take 1) = 0x20 ∧ f.mbody.length = 76 ∧
      leNat ((f.mbody.drop 3).take 1) = 0 ∧ s.revokeOk f.mbody = false) ∧
    (∃ (s : State) (b : List Byte), b = revokeBody ∧ s.revokeOk b = true ∧
      s.flag Fld.JNL_PIN_STATUS_FULL 0 = false ∧ s.pinReady [] = true) := by
  exact ⟨⟨told 1 nwMember [] { coord := 3, entry := some (5, 9) } 5 readBody, _, rfl, by decide +kernel, by decide +kernel,
      by decide +kernel, told_tag_net _ _ _ _ _ _ (by decide +kernel), by decide +kernel, by decide +kernel, by decide +kernel,
      by decide +kernel, by decide +kernel, by decide +kernel, by decide +kernel⟩,
    ⟨told 1 nwMember [(Fld.SYS_CHN_DEVID_LO_DEVID, 0, 1)] { coord := 3, entry := some (5, 9) } 5 revokeBody, _, rfl, by decide +kernel,
      by decide +kernel, by decide +kernel, told_tag_net _ _ _ _ _ _ (by decide +kernel), by decide +kernel, by decide +kernel,
      by decide +kernel, by decide +kernel, by decide +kernel⟩,
    revoker, _, rfl, by decide +kernel, by decide +kernel, by decide +kernel⟩

theorem wit_NetworkTimes :
    (∃ s : State, s.netValid 0 = false) ∧
    (∃ (s : State) (t : Nat), s.net = nwListen ∧ s.jRole = 2 ∧ s.netValid 0 = true ∧
      s.jln.lastBcn + (2000 + (if s.jRole = 2 then 100 * (s.jAddr % 16) else 0)) * ftuMs = t) ∧
    (∃ s : State, s.net = nwListen ∧ s.jRole = 0) ∧
    (∃ (s : State) (t : Nat), s.net = nwMember ∧ s.jln.lastBcn + 3 * s.jln.period = t) ∧
    (∃ (s : State) (t : Nat), s.net = nwMember ∧ t + 1 = s.jln.lastBcn + 3 * s.jln.period) ∧
    (∃ s : State, s.jln.assocBy = some 7 ∧ s.net = nwAssoc) ∧ (∃ s : State, s.jln.assocBy = none) ∧
    (∃ s : State, s.net = nwCoord ∧ ⟨3, [], false, 0, 0, 0, 0, some 9⟩ ∈ s.jln.members) ∧
    (∃ s : State, s.jlnOwner kern = false) ∧ task.kernel = false ∧
    (∃ s : State, s.jlnOwner kern = true ∧ kern.kernel = true ∧ s.net = nwOff) ∧
    (∃ s : State, s.jlnOwner kern = true ∧ s.net ≠ nwOff ∧ s.net ≠ nwDrain ∧ s.jln.enHeld = false ∧ s.jln.line = none) ∧
    ∃ s : State, s.jlnOwner kern = true ∧ s.net ≠ nwOff ∧ s.net ≠ nwDrain ∧ s.jln.enHeld = false ∧ s.jln.line ≠ none ∧
      s.phy ≠ phAborting :=
  ⟨⟨base, by decide +kernel⟩,
    ⟨node 2 nwListen phSearch [] {}, 51200000000, by decide +kernel⟩, ⟨node 0 nwListen phSearch [] {}, by decide +kernel⟩,
    ⟨node 1 nwMember phSearch [] { lastBcn := 2, period := 5 }, 17, by decide +kernel⟩,
    ⟨node 1 nwMember phSearch [] { lastBcn := 2, period := 5 }, 16, by decide +kernel⟩,
    ⟨node 1 nwAssoc phSearch [] { assocBy := some 7 }, by decide +kernel⟩, ⟨base, by decide⟩,
    ⟨node 1 nwCoord phSearch [] { members := [⟨3, [], false, 0, 0, 0, 0, some 9⟩] }, by decide +kernel⟩, ⟨base, by decide⟩, by decide,
    ⟨node 1 nwOff phOff [] {}, by decide +kernel⟩, ⟨node 1 nwMember phSearch [] {}, by decide +kernel⟩,
    node 1 nwMember phTx [] { line := some jline }, by decide +kernel⟩

/-! ### The Nave cores -/

/-- Core 0 changed, in the device that runs. -/
def onCore (f : Nave → Nave) (l : List (Fld × Nat × Nat)) : State := { regs l with nave0 := f base.nave0 }

theorem wit_NaveArithmetic :
    (∃ s : State, s.runs 6 0 = true) ∧
    (∃ pos w1 : Fin 32, pos.val + w1.val < 32 ∧ pos.val + w1.val = 31) ∧ (∃ sh : Fin 32, 1 ≤ sh.val ∧ sh.val ≤ 30 ∧ sh.val = 30) ∧
    (∃ (s : State) (u : Word → State), s.runs 6 0 = true ∧ (s.core 0).reg 2 = 0 ∧
      ∀ q, u q = (s.issued 6 0).setCore 0 { (s.issued 6 0).core 0 with busy := .divide 3 q }) ∧
    (∃ (n : Nave) (v : Word), n.regOk 31 v = true) ∧ (∃ (n : Nave) (v : Word), n.regOk 31 v = false) ∧
    (∃ s : State, (s.core 0).busy = .divide 31 0x10080000 ∧ (s.core 0).regOk 31 0x10080000 = true) ∧
    ∃ s : State, (s.core 0).busy = .idle :=
  ⟨⟨base, by decide +kernel⟩, ⟨0, 31, by decide⟩, ⟨30, by decide⟩, ⟨base, _, by decide +kernel, by decide +kernel, fun _ => rfl⟩,
    ⟨Nave.init 0, 0x10080000, by decide⟩, ⟨Nave.init 0, 0x10080008, by decide⟩,
    ⟨onCore (fun n => { n with busy := .divide 31 0x10080000 }) [], by decide⟩, base, by decide⟩

/-- Core 0 with an address in g1. -/
def aim (a : Word) : State := onCore (fun n => { n with g := [(1, a)] }) []

theorem wit_NaveMemoryAndJumps :
    (∃ s : State, s.runs 6 0 = true ∧ regionOf (s.effAddr 0 1 0) ≠ .periph ∧ s.accesses 0 (s.effAddr 0 1 0) .word false = true ∧
      s.accesses 0 (s.effAddr 0 1 0) .word true = true) ∧
    (∃ s : State, s.runs 6 0 = true ∧ regionOf (s.effAddr 0 1 0) ≠ .periph ∧ s.accesses 0 (s.effAddr 0 1 0) .half false = true ∧
      s.accesses 0 (s.effAddr 0 1 0) .half true = true ∧ s.effAddr 0 1 0 % 4 ≠ 0) ∧
    (∃ s : State, s.runs 6 0 = true ∧ regionOf (s.effAddr 0 1 0) ≠ .periph ∧ s.accesses 0 (s.effAddr 0 1 0) .byte false = true ∧
      s.accesses 0 (s.effAddr 0 1 0) .byte true = true ∧ s.effAddr 0 1 0 % 2 ≠ 0) ∧
    (∃ (a b : Nat) (l : List Byte), ¬(a ≤ b ∧ b < a + l.length) ∧ b = a + l.length) ∧
    (∃ s : State, s.runs 6 0 = true ∧ s.effAddr 0 1 0 % 4 = 0 ∧ (s.core 0).right 0 (s.core 0).kernel .read (s.effAddr 0 1 0) = false ∧
      (s.core 0).right 0 (s.core 0).kernel .write (s.effAddr 0 1 0) = false) :=
  ⟨⟨aim 0x20000004, by decide +kernel⟩, ⟨aim 0x20000002, by decide +kernel⟩, ⟨aim 0x20000001, by decide +kernel⟩,
    ⟨8, 12, [1, 2, 3, 4], by decide⟩, aim 0x11040000, by decide +kernel⟩

/-- Core 0 at task level, and with its kernel stack pointer 32 below the top. -/
def tasked : State := onCore (fun n => { n with status := 0x100, mpu := [(0, { base := 0x10000000, attr := 0xFFFFFFFF })] }) []
def framed : State := onCore (fun n => { n with spK := 0x1007FFE0 }) []

theorem wit_NaveSystem :
    (∃ s : State, s.runs 6 0 = true ∧ (s.core 0).kernel = true) ∧
    (∃ s : State, s.runs 6 0 = true ∧ (s.core 0).kernel = false) ∧
    (∃ s : State, s.runs 6 0 = true ∧ (s.core 0).kernel = true ∧ (s.core 0).spK.toNat % 8 = 0 ∧
      (s.core 0).spK.toNat + 32 = (s.core 0).splimHi.toNat ∧
      ∀ k ∈ [0, 4, 16, 24, 28], (s.core 0).right 0 true .read ((s.core 0).spK.toNat + k) = true) ∧
    (∃ x : Word, x &&& ~~~0x103 = 0 ∧ x = 0x103) ∧ (∃ x : Word, x &&& ~~~0x103 ≠ 0) ∧
    (∃ (n : Nave) (x : Word), n.spOk false x = true) ∧ (∃ (n : Nave) (x : Word), n.spOk false x = false) ∧
    (∃ n : BitVec 8, 0x0C ≤ n.toNat ∧ n.toNat < 0x10 ∧ n = 0x0F) ∧ (∃ n : BitVec 8, 0x30 ≤ n.toNat ∧ n = 0x30) ∧
    (∃ (s : State) (w : Word), s.runs 6 0 = true ∧ decodeNave w.toNat = none) ∧
    (∃ w : Word, (decodeNave w.toNat).isSome = true) ∧
    (∃ s : State, s.fetchOk 0 = false ∧ (s.touch 6).issues 0 = true ∧ s.breakHit 0 = none) ∧ ∃ s : State, s.fetchOk 0 = true :=
  ⟨⟨base, by decide +kernel⟩, ⟨tasked, by decide +kernel⟩, ⟨framed, by decide +kernel⟩, ⟨0x103, by decide⟩, ⟨4, by decide⟩,
    ⟨Nave.init 0, 0, by decide⟩, ⟨Nave.init 0, 8, by decide⟩, ⟨0x0F, by decide⟩, ⟨0x30, by decide⟩, ⟨base, 0, by decide +kernel⟩,
    ⟨wordOf .nvBreak, by decide +kernel⟩, ⟨onCore (fun n => { n with pc := 0x20000000 }) [], by decide +kernel⟩, base, by decide +kernel⟩

/-- Source 0 pends, is enabled and goes to a target; core 0 takes interrupts. -/
def interrupted (target : Nat) : State :=
  onCore (fun n => { n with status := 3 }) [(Fld.IRQ_PEND_PEND, 0, 1), (Fld.IRQ_EN_EN, 0, 1), (Fld.IRQ_ROUTE_ROUTE, 0, target)]

theorem wit_NaveTakesExceptions :
    (∃ s : State, s.runs 6 0 = true ∧ (s.core 0).spK.toNat % 8 = 0 ∧ 32 ≤ (s.core 0).spK.toNat ∧
      (s.core 0).splimLo.toNat = (s.core 0).spK.toNat - 32 ∧ (s.core 0).spK.toNat ≤ (s.core 0).splimHi.toNat ∧
      ∀ k ∈ [0, 4, 8, 12, 16, 20, 24, 28], (s.core 0).right 0 true .write ((s.core 0).spK.toNat - 32 + k) = true) ∧
    (∃ s : State, s.runs 6 0 = true ∧ (s.core 0).spK.toNat % 8 ≠ 0) ∧
    (∃ s : State, (s.touch 6).nextSource 0 = none) ∧
    (∃ s : State, (s.touch 6).nextSource 0 = some 0 ∧ (s.core 0).running = true ∧ (s.core 0).ie = true ∧ s.halted 0 = false ∧
      s.lockedOut 0 = false ∧ (s.touch 6).powered = true ∧ s.pow.inReset = false ∧ (s.core 0).spK.toNat % 8 = 0 ∧
      32 ≤ (s.core 0).spK.toNat ∧ (s.core 0).splimLo.toNat ≤ (s.core 0).spK.toNat - 32 ∧
      (s.core 0).spK.toNat ≤ (s.core 0).splimHi.toNat ∧
      ∀ k ∈ [0, 4, 8, 12, 16, 20, 24, 28], (s.core 0).right 0 true .write ((s.core 0).spK.toNat - 32 + k) = true) ∧
    ∃ s : State, (s.touch 6).nextSource 2 = some 0 ∧ (s.touch 6).powered = true ∧ s.pow.inReset = false :=
  ⟨⟨onCore (fun n => { n with spK := 0x10040020 }) [], by decide +kernel⟩,
    ⟨onCore (fun n => { n with spK := 0x10040024 }) [], by decide +kernel⟩, ⟨base, by decide +kernel⟩,
    ⟨interrupted 0, by decide +kernel⟩, interrupted 2, by decide +kernel⟩

/-! ### Damask -/

def onDamask (f : Damask → Damask) (b : Busy) : State := onCore (fun n => { n with dm := f n.dm, busy := b }) []

theorem wit_DamaskArithmetic :
    (∃ (s : State) (p q : Flagged) (a b d : Word), s.runs 6 0 = true ∧ p = satQ ((b.toInt * d.toInt + 2 ^ 30) / 2 ^ 31) ∧
      q = satQ (a.toInt + p.v.toInt)) ∧
    (∃ (s : State) (u : Nat → Nat → State), s.runs 6 0 = true ∧
      ∀ fn w, u fn w = (s.issued 6 0).setCore 0 { (s.issued 6 0).core 0 with busy := .damask fn 1 2 w }) ∧
    (∃ s : State, bits (s.core 0).dm.status 8 6 = 0 ∧ (s.core 0).busy = .damask 0x14 1 2 3 ∧ ((s.core 0).dm.reg 3).toInt = 0 ∧
      0 < ((s.core 0).dm.reg 2).toInt) ∧
    (∃ s : State, bits (s.core 0).dm.status 8 6 = 0 ∧ (s.core 0).busy = .damask 0x14 1 2 3 ∧ ((s.core 0).dm.reg 3).toInt = 0 ∧
      ((s.core 0).dm.reg 2).toInt < 0) ∧
    (∃ s : State, bits (s.core 0).dm.status 8 6 = 0 ∧ (s.core 0).busy = .damask 0x14 1 2 3 ∧ ((s.core 0).dm.reg 3).toInt ≠ 0 ∧
      ((s.core 0).dm.reg 2).toInt.natAbs < ((s.core 0).dm.reg 3).toInt.natAbs) ∧
    (∀ fn ∈ [0x24, 0x25, 0x44], ∃ s : State, bits (s.core 0).dm.status 8 6 = 0 ∧ (s.core 0).busy = .damask fn 1 2 0) ∧
    ∃ s : State, bits (s.core 0).dm.status 8 6 = 0 ∧ (s.core 0).busy = .idle :=
  ⟨⟨base, _, _, 5, 6, 7, by decide +kernel, rfl, rfl⟩, ⟨base, _, by decide +kernel, fun _ _ => rfl⟩,
    ⟨onDamask (fun m => { m with d := [(2, 1)] }) (.damask 0x14 1 2 3), by decide⟩,
    ⟨onDamask (fun m => { m with d := [(2, 0xFFFFFFFF)] }) (.damask 0x14 1 2 3), by decide⟩,
    ⟨onDamask (fun m => { m with d := [(2, 1), (3, 2)] }) (.damask 0x14 1 2 3), by decide⟩,
    fun fn _ => ⟨onDamask (fun m => m) (.damask fn 1 2 0), by show bits 0 8 6 = 0; decide, rfl⟩, base, by decide⟩

/-- Converter 0 with leg 1, of core 0, with a period. -/
def duty : State := leg dpAdmitted {} [(Fld.EDG_CNV_PERIOD_SH_PERIOD, 0, 1000)]

theorem wit_DamaskTransforms :
    (∃ (s : State) (i : Nat → Int), s.runs 6 0 = true ∧ ∀ k, i k = ((s.core 0).dm.reg k).toInt) ∧
    (∃ x y z : Fin 32, evenReg x = true ∧ evenReg y = true ∧ evenReg z = true ∧ x = 30 ∧ y = 0) ∧
    (∃ y : Fin 32, y.val ≤ 29 ∧ y = 29) ∧
    (∃ (s : State) (k : Nat → Int), s.runs 6 0 = true ∧ ∀ n, k n = ((s.core 0).dm.sec 15 n).toInt) ∧
    (∃ y : Fin 32, y.val < 8 ∧ y = 7) ∧
    (∃ (s : State) (a : Nat), s.runs 6 0 = true ∧ a = ((s.core 0).reg 1 + BitVec.ofNat 32 (4 * (2 : Fin 32).val)).toNat ∧
      regionOf a ≠ .periph ∧ s.accesses 0 a .word false = true ∧ s.accesses 0 a .word true = true) ∧
    (∃ (s : State) (n : Nat), s.runs 6 0 = true ∧ n = ((s.core 0).reg 2).toNat % 256 ∧ s.legConv n = none) ∧
    ∃ (s : State) (n : Nat) (d : Int), s.runs 6 0 = true ∧ n = ((s.core 0).reg 2).toNat % 256 ∧ d = ((s.core 0).dm.reg 1).toInt ∧
      s.legConv n = some 0 ∧ s.hasRec 0x0011 0 = true ∧ s.cnvOwner 0 = 0 ∧ 0 ≤ d :=
  ⟨⟨base, _, by decide +kernel, fun _ => rfl⟩, ⟨30, 0, 2, by decide⟩, ⟨29, by decide⟩, ⟨base, _, by decide +kernel, fun _ => rfl⟩,
    ⟨7, by decide⟩, ⟨aim 0x20000000, _, by decide +kernel, rfl, by decide +kernel⟩, ⟨base, _, by decide +kernel, rfl, by decide +kernel⟩,
    { duty with nave0 := { duty.nave0 with g := [(2, 1)] } }, _, _, by decide +kernel, rfl, rfl, by decide +kernel⟩

/-! ### Interrupts, mailboxes, Chancel, the journal, the ports -/

theorem wit_InterruptController :
    irqWriter task = none ∧ irqWriter kern = some 0 ∧ (∃ v : Word, v.toNat < 896 ∧ v.toNat = 895) ∧
    (∃ v : Word, 1024 ≤ v.toNat ∧ v.toNat = 1024) ∧ (∃ (s : State) (v : Word), 896 ≤ v.toNat ∧ v.toNat < 1024 ∧ v.toNat = 1023 ∧ s.Inv) ∧
    (∃ s : State, s.pinTick 0 2047 = false ∧ s.pinTick 0 2048 = true ∧ s.pinLevelAt 0 false = s.flag Fld.IRQ_PIN_CFG_LEVEL 0) ∧
    (∃ s : State, (s.pinOf 0).out = true ∧ s.pinTick 0 9 = true) ∧
    (∃ s : State, s.pinTick 0 9 = true ∧ s.pinLevelAt 0 true ≠ s.flag Fld.IRQ_PIN_CFG_LEVEL 0 ∧ (s.pinOf 0).count + 1 < s.get Fld.IRQ_PIN_CFG_FILT 0 ∧ (s.pinOf 0).count = 1) ∧
    (∃ s : State, s.pinTick 0 9 = true ∧ s.pinLevelAt 0 true ≠ s.flag Fld.IRQ_PIN_CFG_LEVEL 0 ∧ s.get Fld.IRQ_PIN_CFG_FILT 0 ≤ (s.pinOf 0).count + 1 ∧
      s.get Fld.IRQ_PIN_CFG_SENSE 0 = 1) ∧
    (∃ s : State, s.pinTick 0 9 = true ∧ s.pinLevelAt 0 true ≠ s.flag Fld.IRQ_PIN_CFG_LEVEL 0 ∧ s.get Fld.IRQ_PIN_CFG_FILT 0 ≤ (s.pinOf 0).count + 1 ∧
      s.get Fld.IRQ_PIN_CFG_SENSE 0 = 0) ∧
    (∃ s : State, Table.get 0 s.irq.hold (3 * 1 + 2) ≤ 9 ∧ Table.get 0 s.irq.hold (3 * 1 + 2) = 9) ∧
    ∃ s : State, 8 < Table.get 0 s.irq.hold (3 * 1 + 2) :=
  ⟨by decide, by decide, ⟨895, by decide⟩, ⟨1024, by decide⟩, ⟨base, 1023, by decide, by decide, by decide, base_inv⟩,
    ⟨regs [(Fld.IRQ_PIN_CFG_FCLK, 0, 1)], by decide⟩, ⟨{ base with irq := { pins := [(0, { out := true })] } }, by decide⟩,
    ⟨{ regs [(Fld.IRQ_PIN_CFG_FILT, 0, 3)] with irq := { pins := [(0, { count := 1 })] } }, by decide⟩,
    ⟨{ regs [(Fld.IRQ_PIN_CFG_FILT, 0, 2), (Fld.IRQ_PIN_CFG_SENSE, 0, 1)] with irq := { pins := [(0, { count := 1 })] } }, by decide⟩,
    ⟨{ regs [(Fld.IRQ_PIN_CFG_FILT, 0, 2)] with irq := { pins := [(0, { count := 1 })] } }, by decide⟩,
    ⟨{ base with irq := { hold := [(5, 9)] } }, by decide⟩, { base with irq := { hold := [(5, 9)] } }, by decide⟩

/-- Mailbox 2 with a message of a sender of a kind, for a receiver. -/
def letter (sender kind receiver : Nat) (l : List (Fld × Nat × Nat)) : State :=
  recd 0x00A1 2 ([(Fld.MBX_STATUS_STATE, 2, 1), (Fld.MBX_HDR_SENDER, 2, sender), (Fld.MBX_HDR_KIND, 2, kind),
    (Fld.MBX_CFG_RECEIVER, 2, receiver)] ++ l)

theorem letter_inv (sender kind receiver : Nat) (l : List (Fld × Nat × Nat)) (h : ∀ x ∈ l, x.1 ∈ x.1.reg.fields) :
    (letter sender kind receiver l).Inv :=
  inv_same (regs_inv ([(Fld.MBX_STATUS_STATE, 2, 1), (Fld.MBX_HDR_SENDER, 2, sender), (Fld.MBX_HDR_KIND, 2, kind),
    (Fld.MBX_CFG_RECEIVER, 2, receiver)] ++ l) (by
      intro x m; simp only [List.mem_append, List.mem_cons, List.not_mem_nil, or_false] at m
      rcases m with (rfl | rfl | rfl | rfl) | m
      · dsimp only; decide
      · dsimp only; decide
      · dsimp only; decide
      · dsimp only; decide
      · exact h x m)) rfl rfl

theorem wit_Mailboxes :
    stageOf port = none ∧ stageOf kern = some 0 ∧ (∃ s : State, s.hasMbx 2 = false) ∧
    (∃ v : Word, bits v.toNat 5 3 ≠ 0) ∧ (∃ v : Word, bits v.toNat 20 12 ≠ 0) ∧
    (∃ v : Word, 6 < bits v.toNat 16 4 ∧ bits v.toNat 16 4 ≠ 15 ∧ bits v.toNat 16 4 = 7) ∧
    (∃ (s : State) (v : Word) (n : Nat), s.hasMbx 2 = true ∧ bits v.toNat 5 3 = 0 ∧ bits v.toNat 20 12 = 0 ∧ bits v.toNat 16 4 ≤ 6 ∧
      n = v.toNat % 32 ∧ n = 0) ∧
    (∃ (s : State) (v : Word) (n : Nat), s.hasMbx 2 = true ∧ bits v.toNat 5 3 = 0 ∧ bits v.toNat 20 12 = 0 ∧
      bits v.toNat 16 4 = 15 ∧ n = v.toNat % 32 ∧ 16 < n ∧ n = 17) ∧
    (∃ (s : State) (v : Word) (n : Nat), s.hasMbx 2 = true ∧ bits v.toNat 5 3 = 0 ∧ bits v.toNat 20 12 = 0 ∧
      bits v.toNat 16 4 ≤ 6 ∧ n = v.toNat % 32 ∧ 0 < n ∧ n = 16 ∧ s.mbxFull 2 = true ∧ s.Inv) ∧
    (∃ s : State, s.hasMbx 2 = true ∧ s.mbxFull 2 = false ∧ s.Inv) ∧
    (∃ s : State, s.mbxReceiver kern 2 = false) ∧ (∃ s : State, s.mbxReceiver kern 2 = true ∧ s.mbxFull 2 = false) ∧
    (∃ s : State, s.mbxReceiver kern 2 = true ∧ s.mbxFull 2 = true ∧ s.flag Fld.MBX_CFG_NOTEN 2 = true) ∧
    (∃ s : State, s.mbxSender kern 2 = false) ∧ (∃ s : State, s.mbxSender kern 2 = true ∧ s.mbxFull 2 = true) ∧
    (∃ (s : State) (x : Nat), (s.mbxOf 2).till = some x ∧ x ≤ 7 ∧ s.mbxFull 2 = true ∧ x = 7) ∧
    (∃ s : State, (s.mbxOf 2).till = none) ∧ ∃ (s : State) (x : Nat), (s.mbxOf 2).till = some x ∧ 6 < x :=
  ⟨by decide, by decide, ⟨base, by decide⟩, ⟨0x20, by decide⟩, ⟨0x100000, by decide⟩, ⟨0x70000, by decide⟩, ⟨mail, 0x100, 0, by decide⟩,
    ⟨mail, 0xF0011, 17, by decide⟩,
    ⟨letter 1 1 0 [], 0x60010, 16, by decide +kernel, by decide, by decide, by decide, by decide, by decide, by decide, by decide +kernel,
      letter_inv _ _ _ _ (by intro x h; cases h)⟩,
    ⟨recd 0x00A1 2 [], by decide, by decide, inv_same base_inv rfl rfl⟩, ⟨base, by decide⟩, ⟨recd 0x00A1 2 [], by decide⟩,
    ⟨mail, by decide⟩, ⟨letter 3 1 0 [], by decide +kernel⟩, ⟨letter 1 1 0 [], by decide +kernel⟩, ⟨mail, 7, by decide⟩, ⟨base, by decide⟩,
    mail, 7, by decide⟩

/-- Key slots and the latches of provisioning. -/
def keys (slots : Table KeySlot) (slot use mask : Nat) (busy : Bool) : State :=
  { base with chn := { base.chn with slots := slots, provSlot := slot, provUse := use, provMask := mask, provBusy := busy },
              jnl := { ready := true } }

/-- A release of core 0 in progress, with a recorded hash. -/
def releasing (h : BitVec 256) : State := { base with chn := { base.chn with release := 1, itcmHash := [(0, h)] } }

theorem releasing_bytes (h : BitVec 256) (n a : Nat) : (releasing h).bytes n a = base.bytes n a := by
  induction n generalizing a with
  | zero => rfl
  | succ n ih => exact congrArg _ (ih (a + 1))

theorem releasing_hash (h : BitVec 256) : Table.get 0 (releasing h).chn.itcmHash 0 = h := rfl

theorem wit_ChancelProvisions :
    (∃ s : State, s.provOpen kern = false) ∧ (∃ s : State, s.provOpen host = true ∧ s.chn.provSlot = 0) ∧
    (∃ s : State, s.provOpen host = true ∧ (s.keySlot s.chn.provSlot).use ≠ 0) ∧
    (∃ s : State, s.provOpen host = true ∧ s.chn.provMask ≠ 65535) ∧
    (∃ s : State, s.provOpen host = true ∧ s.chn.provUse ∉ [0x0F, 0x33, 0x3C]) ∧
    (∃ s : State, s.provOpen host = true ∧ s.chn.provSlot ≠ 0 ∧ (s.keySlot s.chn.provSlot).use = 0 ∧ s.chn.provMask = 65535 ∧
      s.chn.provUse = 0x33) ∧
    (∃ s : State, s.provOpen host = true ∧ (s.keySlot 0).use ≠ 0) ∧
    (∃ s : State, s.provOpen host = true ∧ ∀ k, k < 16 → (s.keySlot k).use ≠ 0x0F) ∧
    (∃ s : State, s.provOpen host = true ∧ (s.keySlot 0).use = 0 ∧ s.chn.provDirty = false ∧ (∃ k, k < 16 ∧ (s.keySlot k).use = 0x0F) ∧
      s.jnl.ready = true ∧ s.jnl.queue = [] ∧ s.get Fld.JNL_PIN_STATUS_FULL 0 = 0 ∧ s.flag Fld.SYS_CHN_STATUS_TRNGFAIL 0 = false ∧
      s.pinFits 4 = true ∧ (∀ k, k < 2 → (Table.get {} s.chn.tamper k).pend = false) ∧
      ∀ p, p < 4 → s.flag Fld.MTR_PORT_STATUS_SEALPEND p = false) ∧
    (∃ s : State, s.chn.provBusy = false) ∧ (∃ s : State, s.chn.provBusy = true) ∧
    kern.m ≠ .chancel ∧ chan.m = .chancel ∧ (∃ v : Word, 4 ≤ v.toNat ∧ v = 4) ∧ (∃ v : Word, v.toNat < 4 ∧ v = 3) ∧
    (∃ s : State, s.chn.release.testBit 0 = false) ∧
    (∃ s : State, s.chn.release.testBit 0 = true ∧ Config.sha256 (s.bytes 0x40000 (itcmBase 0)) = Table.get 0 s.chn.itcmHash 0) ∧
    ∃ s : State, s.chn.release.testBit 0 = true ∧ Config.sha256 (s.bytes 0x40000 (itcmBase 0)) ≠ Table.get 0 s.chn.itcmHash 0 :=
  ⟨⟨base, by decide⟩, ⟨keys [] 0 0x0F 65535 false, by decide⟩, ⟨keys [(3, { use := 0x33 })] 3 0x0F 65535 false, by decide⟩,
    ⟨keys [] 3 0x0F 65534 false, by decide⟩, ⟨keys [] 3 0x55 65535 false, by decide⟩, ⟨keys [] 3 0x33 65535 false, by decide⟩,
    ⟨keys [(0, { use := 0x55 })] 3 0x33 65535 false, by decide⟩, ⟨keys [] 3 0x33 65535 false, by decide⟩,
    ⟨keys [(15, { use := 0x0F })] 3 0x33 65535 false, by decide +kernel, by decide +kernel, by decide +kernel,
      ⟨15, by decide, by decide +kernel⟩, by decide +kernel⟩,
    ⟨keys [] 3 0x33 65535 false, by decide⟩, ⟨keys [] 3 0x33 65535 true, by decide⟩, by decide, by decide, ⟨4, by decide⟩, ⟨3, by decide⟩,
    ⟨base, by decide⟩,
    ⟨releasing (Config.sha256 (base.bytes 0x40000 (itcmBase 0))), by decide, by rw [releasing_bytes, releasing_hash]⟩,
    releasing (Config.sha256 (base.bytes 0x40000 (itcmBase 0)) + 1), by decide, by
      rw [releasing_bytes, releasing_hash]
      intro e
      simp at e⟩

theorem wit_ChancelServes :
    (∃ s : State, s.pow.under = true ∧ s.tamperArmed 0 = true ∧ s.ucrTime = 2056 ∧ s.probeDue 0 = false) ∧
    (∃ s : State, s.ucrTime = 2057 ∧ s.probeDue 0 = true) ∧
    (∃ s : State, s.chnMbx 2 = false) ∧
    (∃ s : State, s.chnMbx 2 = true ∧ s.Inv ∧ s.get Fld.MBX_HDR_KIND 2 = 1 ∧ s.get Fld.MBX_HDR_SENDER 2 = 1 ∧
      s.get Fld.SYS_CHN_FLOOR_FLOOR 0 < s.get Fld.VST_IMG_SEQ_SEQ 0 ∧ s.chn.floors.length < 64) ∧
    (∃ s : State, s.chnMbx 2 = true ∧ s.Inv ∧ s.get Fld.MBX_HDR_KIND 2 = 1 ∧ s.get Fld.MBX_HDR_SENDER 2 = 3 ∧
      s.get Fld.SYS_CHN_FLOOR_FLOOR 0 < s.get Fld.VST_IMG_SEQ_SEQ 0 ∧ 64 ≤ s.chn.floors.length ∧ s.chn.floors.length = 64) ∧
    (∃ s : State, s.chnMbx 2 = true ∧ s.Inv ∧ s.get Fld.MBX_HDR_KIND 2 = 1 ∧ s.get Fld.MBX_HDR_SENDER 2 ≠ 1 ∧
      s.get Fld.MBX_HDR_SENDER 2 ≠ 3) ∧
    (∃ s : State, s.chnMbx 2 = true ∧ s.Inv ∧ s.get Fld.MBX_HDR_KIND 2 = 2 ∧ s.get Fld.MBX_HDR_SENDER 2 = 5 ∧ s.pow.st = .run) ∧
    (∃ s : State, s.chnMbx 2 = true ∧ s.Inv ∧ s.get Fld.MBX_HDR_KIND 2 = 2 ∧ s.get Fld.MBX_HDR_SENDER 2 = 0) ∧
    (∃ s : State, s.pow.under = false) ∧ (∃ s : State, s.tamperArmed 0 = false) ∧
    (∃ (s : State) (v : Tamper), v = Table.get {} s.chn.tamper 0 ∧ s.pow.under = true ∧ s.tamperArmed 0 = true ∧ s.probeDue 0 = true ∧
      v.isOpen = false ∧ v.bad = 0) ∧
    (∃ (s : State) (v : Tamper), v = Table.get {} s.chn.tamper 0 ∧ s.pow.under = true ∧ s.tamperArmed 0 = true ∧ s.probeDue 0 = true ∧
      v.isOpen = false ∧ v.bad = 1 ∧ v.pend = false) ∧
    (∃ (s : State) (v : Tamper), v = Table.get {} s.chn.tamper 0 ∧ s.pow.under = true ∧ s.tamperArmed 0 = true ∧ s.probeDue 0 = true ∧
      v.isOpen = true ∧ v.good = 1) ∧
    (∃ s : State, s.dbg.testen = true) ∧ ∃ s : State, s.dbg.testen = false :=
  ⟨⟨{ withRegs (inPow { base.pow with tampArmed := 1 }) [(Fld.UCR_TIME_LO_COUNT, 0, 2056)] with
      chn := { base.chn with tamper := [(0, { probeAt := some 9 })] } }, by decide⟩,
    ⟨{ withRegs (inPow { base.pow with tampArmed := 1 }) [(Fld.UCR_TIME_LO_COUNT, 0, 2057)] with
      chn := { base.chn with tamper := [(0, { probeAt := some 9 })] } }, by decide⟩,
    ⟨base, by decide⟩,
    ⟨letter 1 1 2 [(Fld.VST_IMG_SEQ_SEQ, 0, 10)], by decide +kernel, letter_inv _ _ _ _ (by decide), by decide +kernel⟩,
    ⟨{ letter 3 1 2 [(Fld.VST_IMG_SEQ_SEQ, 0, 10)] with chn := { base.chn with floors := List.range 64 } }, by decide +kernel,
      inv_same (letter_inv 3 1 2 [(Fld.VST_IMG_SEQ_SEQ, 0, 10)] (by decide)) rfl rfl, by decide +kernel⟩,
    ⟨letter 0 1 2 [], by decide +kernel, letter_inv _ _ _ _ (by intro x h; cases h), by decide +kernel⟩,
    ⟨letter 5 2 2 [], by decide +kernel, letter_inv _ _ _ _ (by intro x h; cases h), by decide +kernel⟩,
    ⟨letter 0 2 2 [], by decide +kernel, letter_inv _ _ _ _ (by intro x h; cases h), by decide +kernel⟩,
    ⟨inPow { base.pow with under := false }, by decide⟩, ⟨base, by decide⟩,
    ⟨inPow { base.pow with tampArmed := 1 }, _, rfl, by decide⟩,
    ⟨{ inPow { base.pow with tampArmed := 1 } with chn := { base.chn with tamper := [(0, { bad := 1 })] } }, _, rfl, by decide⟩,
    ⟨{ inPow { base.pow with tampArmed := 1 } with chn := { base.chn with tamper := [(0, { isOpen := true, good := 1 })] } }, _, rfl, by decide⟩,
    ⟨{ base with dbg := { base.dbg with testen := true } }, by decide⟩, base, by decide⟩

/-- A journal with a ring group of two records that waits for the mirror. -/
def mirroring (retry : Nat) : State :=
  { base with jnl := { ready := true, pass := some 5, retry := retry, grps := [⟨10, 0x10, [256, 257], none, 0, false, 1⟩] } }

/-- A journal with a group queued for the pinned area. -/
def queued (grps : List JGrp) : State :=
  { base with jnl := { ready := true, grps := grps, queue := [⟨0x30, 3, [1], []⟩] },
              chn := { base.chn with slots := [(0, { use := 0x55 })] } }

theorem wit_JournalKeeps :
    kern.m ≠ .host ∧ kern.m ≠ .chancel ∧
    (∃ s : State, host.m = .host ∧ s.jnl.queue = [] ∧ (∀ k, k < 2 → (Table.get {} s.chn.tamper k).pend = false) ∧
      (∀ p, p < 4 → s.flag Fld.MTR_PORT_STATUS_SEALPEND p = false) ∧ s.chn.lockWait = false ∧ s.flag Fld.JNL_CFG_MIRROR 0 = false) ∧
    (∃ (s : State) (g : JGrp), s.jnl.pass = some 5 ∧ s.jnl.stopped = false ∧ s.jnl.grps = [g] ∧ s.jnl.archive = [] ∧
      g.inPinned = false ∧ g.kind ≠ 0x28 ∧ 0 < g.unmirrored ∧ g.unmirrored = 1 ∧ s.jnl.retry = 1 ∧ s.jnl.retry < 2) ∧
    (∃ (s : State) (g : JGrp), s.jnl.pass = some 5 ∧ s.jnl.stopped = false ∧ s.jnl.grps = [g] ∧ s.jnl.archive = [] ∧
      g.inPinned = false ∧ g.kind ≠ 0x28 ∧ 0 < g.unmirrored ∧ s.jnl.retry = 2) ∧
    (∃ s : State, s.jnl.queue = []) ∧
    (∃ (s : State) (q : QGrp), s.jnl.queue = [q] ∧ s.pinFits (q.conts.length + 4) = true) ∧
    ∃ (s : State) (q : QGrp), s.jnl.queue = [q] ∧ s.canSign = true ∧ s.pinFits (q.conts.length + 4) = false :=
  ⟨by decide, by decide, ⟨base, by decide⟩, ⟨mirroring 1, _, rfl, rfl, rfl, rfl, by decide⟩, ⟨mirroring 2, _, rfl, rfl, rfl, rfl, by decide⟩,
    ⟨base, by decide⟩, ⟨queued [], _, rfl, by decide +kernel⟩,
    queued [⟨24, 0x31, List.range 256, none, 0, true, 4⟩], _, rfl, by decide +kernel⟩

theorem wit_FabricReleases :
    (∃ (s : State) (t : Nat), t + 1 = s.pow.f4ClearAt + ftuSec) ∧
    (∃ (s : State) (t : Nat), s.pow.f4ClearAt + ftuSec = t ∧
      s.pow.st = .safeHold ∧ s.flag Fld.FLT_DEV_AUTOREL 0 = true ∧ s.flag Fld.FLT_DEV_F4 0 = true ∧
      s.flag Fld.CLK_STATUS_PLLT_LOCK 0 = true ∧ s.flag Fld.CLK_STATUS_PLLS_OK 0 = true ∧
      s.flag Fld.SYS_CHN_STATUS_KATFAIL 0 = false) ∧
    (∃ s : State, s.hasRec 0x0011 0 = true ∧ isKernel kern (s.cnvOwner 0) = true ∧ s.cnvClearable 0 = true) ∧
    (∃ s : State, s.hasRec 0x0011 0 = true ∧ isKernel kern (s.cnvOwner 0) = true ∧ s.cnvClearable 0 = false) ∧
    (∃ s : State, s.legConv 1 = some 0 ∧ isKernel kern (s.cnvOwner 0) = true) ∧
    ∃ s : State, s.legConv 1 = some 0 ∧ isKernel task (s.cnvOwner 0) = false :=
  ⟨⟨inPow { base.pow with f4ClearAt := 7 }, 6 + ftuSec, by decide +kernel⟩,
    ⟨{ regs [(Fld.FLT_DEV_AUTOREL, 0, 1), (Fld.FLT_DEV_F4, 0, 1), (Fld.CLK_STATUS_PLLT_LOCK, 0, 1),
      (Fld.CLK_STATUS_PLLS_OK, 0, 1)] with pow := { base.pow with st := .safeHold, f4ClearAt := 7 } }, 7 + ftuSec, by decide +kernel⟩,
    ⟨cnv cvOff {}, by decide +kernel⟩, ⟨withRegs (cnv cvTripped {}) [(Fld.FLT_CNV_F3, 0, 1)], by decide +kernel⟩,
    ⟨leg dpAdmitted {} [], by decide +kernel⟩, leg dpAdmitted {} [], by decide +kernel⟩

/-- Core 0 halted at an instruction that adds 1 to g1. -/
def stopped : State :=
  (regs [(Fld.DBG_CORE_STATUS_HALTED, 0, 1)]).setBytes 0x10000000 (leBytes 4 (wordOf (.nvAddi 1 1 1)).toNat)

theorem wit_DebugPorts :
    kern.m ≠ .debug ∧ port.m = .debug ∧ (∃ s : State, s.powered = false) ∧ (∃ s : State, s.pow.inReset = true) ∧
    (∃ s : State, s.powered = true ∧ s.pow.inReset = false ∧ (s.core 0).running = true ∧ s.halted 0 = false ∧
      s.hasRec 0x0011 0 = true ∧ s.cnvOwner 0 = 0 ∧ s.cnvState 0 = cvRun ∧ s.rank2 0 = false) ∧
    (∃ s : State, s.powered = true ∧ s.pow.inReset = false ∧ s.halted 0 = true ∧ s.lockedOut 0 = false ∧ (s.core 0).running = true ∧
      (s.core 0).busy = .idle ∧ s.fetchOk 0 = true ∧ s.fetchWord 0 = wordOf (.nvAddi 1 1 1)) ∧
    (∃ v : Word, v.toNat % 4 ≠ 0) ∧ (∃ v : Word, v.toNat % 4 = 0 ∧ regionOf v.toNat ≠ .itcm 0) ∧
    (∃ (s : State) (v : Word), s.halted 0 = true ∧ v.toNat % 4 = 0 ∧ regionOf v.toNat = .itcm 0 ∧ v = 0x1003FFFC) ∧
    (∃ (s : State) (r : Fin 32) (v : Word), s.halted 0 = true ∧ (s.core 0).regOk r v = true ∧ r = 31) ∧
    ∃ (s : State) (r : Fin 32) (v : Word), s.halted 0 = true ∧ (s.core 0).regOk r v = false ∧ r = 31 :=
  ⟨by decide, by decide, ⟨inPow { base.pow with st := .off }, by decide⟩, ⟨inPow { base.pow with inReset := true }, by decide⟩,
    ⟨cnv cvRun {}, by decide +kernel⟩, ⟨stopped, by decide +kernel⟩, ⟨2, by decide⟩, ⟨0x20000000, by decide⟩,
    ⟨stopped, 0x1003FFFC, by decide +kernel⟩, ⟨stopped, 31, 0x10040000, by decide +kernel⟩, stopped, 31, 0x1003FFF8, by decide +kernel⟩

theorem wit_TestAndHostPorts :
    (∃ s : State, s.pow.st = .off) ∧ (∃ s : State, s.pow.st = .vigil) ∧
    (∃ s : State, s.pow.st ≠ .off ∧ s.pow.st ≠ .vigil ∧ s.pow.inReset = true ∧ s.pow.rstn = false) ∧
    (∃ s : State, s.pow.st ≠ .off ∧ s.pow.st ≠ .vigil ∧ s.pow.inReset = false) ∧
    (∃ code : Fin 256, code.val ∉ [0x00, 0x02, 0x04, 0x05, 0x10] ∧ code = 1) ∧
    (∃ s : State, s.dbg.ir ≠ .debug) ∧ (∃ s : State, s.dbg.resp.status = .stall) ∧
    (∃ (s : State) (addr : Word), s.pow.st = .run ∧ s.pow.inReset = false ∧ s.dbg.ir = .debug ∧ s.dbg.resp.status ≠ .stall ∧
      addr.toNat % 4 = 0 ∧ regionOf addr.toNat = .sram) ∧
    (∃ s : State, s.dbg.spiIgnore = true) ∧ (∃ s : State, s.dbg.hostWait = true) ∧
    (∃ (s : State) (addr : Word), s.pow.st = .run ∧ s.pow.inReset = false ∧ addr.toNat % 4 = 0 ∧ regionOf addr.toNat = .sram ∧
      s.dbg.spiIgnore = false ∧ s.dbg.hostWait = false) ∧
    (∃ n : Nat, n < 32 ∧ n = 31) ∧ ∃ cmd : Byte, cmd ≠ 0x0B ∧ cmd ≠ 0x02 :=
  ⟨⟨inPow { base.pow with st := .off }, by decide⟩, ⟨inPow { base.pow with st := .vigil }, by decide⟩,
    ⟨inPow { base.pow with st := .start, inReset := true, rstn := false }, by decide⟩, ⟨base, by decide⟩, ⟨1, by decide⟩,
    ⟨base, by decide⟩, ⟨{ base with dbg := { base.dbg with resp := ⟨.stall, 0⟩ } }, by decide⟩,
    ⟨{ base with dbg := { base.dbg with ir := .debug } }, 0x20000000, by decide⟩,
    ⟨{ base with dbg := { base.dbg with spiIgnore := true } }, by decide⟩, ⟨{ base with dbg := { base.dbg with hostWait := true } }, by decide⟩,
    ⟨base, 0x20000000, by decide⟩, ⟨31, by decide⟩, 5, by decide⟩

/-! ### Decoding by group, and single steps whose results the spec states -/

theorem test_decode_groups :
    decodeNave 0b000001_00111_01000_01001_00000_001010 = some (.nvQmul 7 8 9) ∧
    decodeNave 0b000010_00100_00101_00011_00111_000010 = some (.nvExts 4 5 3 7) ∧
    decodeNave 0b001010_00001_00000_1000000000000000 = some (.nvLui 1 0x8000) ∧
    decodeNave 0b010100_00001_00010_0000000000000100 = some (.nvLw 1 2 4) ∧
    decodeNave 0b011000_00001_00010_0000000000000100 = some (.nvSb 1 2 4) ∧
    decodeNave 0b100101_00001_00010_0000000000000011 = some (.nvBgeu 1 2 3) ∧
    decodeNave 0b101010_11110_00001_0000000000000000 = some (.nvJalr 30 1 0) ∧
    decodeNave 0b111111_00000_00000_0000_000000000101 = some (.nvSyscall 5) ∧
    decodeNave 0x10000000 = some (.nvAddi 0 0 0) := by decide +kernel

/-- Reserved: an unused field that is not 0, and an unassigned FUNC (R375). -/
theorem test_decode_reserved :
    decodeNave 0b000000_00011_00001_00010_00001_000001 = none ∧ decodeNave 0b000000_00011_00001_00010_00000_010011 = none ∧
    decodeNave 0b101010_11110_00001_0000000000000000 ≠ none ∧ decodeNave 0b001010_00001_00001_1000000000000000 = none := by decide +kernel

/-- Core 0 with g1 and g2 set. -/
def pair (x y : Word) : State := onCore (fun n => { n with g := [(1, x), (2, y)] }) []

/-- The examples under Table 21.4 and R378. -/
theorem test_qmul_half : ((after (.nvQmul 6 0 3 1 2) (pair 0x40000000 0xC0000000)).core 0).reg 3 = 0xE0000000 := by decide +kernel
theorem test_qmul_top : ((after (.nvQmul 6 0 3 1 2) (pair 0x80000000 0x80000000)).core 0).reg 3 = 0x7FFFFFFF := by decide +kernel
theorem test_qneg_top : ((after (.nvQneg 6 0 3 1) (pair 0x80000000 0)).core 0).reg 3 = 0x7FFFFFFF := by decide +kernel
theorem test_div_zero : (after (.divideComplete 7 0) (after (.nvDiv 6 0 3 1 2) (pair 5 0))).nave0.reg 3 = 0xFFFFFFFF := by decide +kernel
theorem test_div_over :
    (after (.divideComplete 7 0) (after (.nvDiv 6 0 3 1 2) (pair 0x80000000 0xFFFFFFFF))).nave0.reg 3 = 0x80000000 := by decide +kernel
theorem test_jalr_same : (after (.nvJalr 6 0 1 1 2) (pair 0x10000020 0)).nave0.pc = 0x10000020 ∧
    (after (.nvJalr 6 0 1 1 2) (pair 0x10000020 0)).nave0.reg 1 = 0x10000004 := by decide +kernel

/-- A command at the front of the queue is taken and no other (log entry 1). -/
theorem test_step_takes_front : step { base with pending := [.testLogicReset, .jtagDebug] } =
    exec .testLogicReset { base with pending := [.jtagDebug] } := rfl

/-- A word of its own spells no command (log entry 8). -/
theorem test_no_table_words : decodeTableWord 32 0x10000000 = none ∧ base.withFetchWord 32 0x10000000 = base := by decide

end Sys2Proof.Tests
end

/-!
PROOFS. The accesses that the bus answers with a bus error (R4), and the statement about the peripheral range.
-/

namespace Sys2Proof.Machine

/-! ### The accesses that are bad -/

theorem State.accessBad_of_misaligned (s : State) (a : Acc) (w : Bool) {addr : Nat} {sz : AccSize}
    (h : addr % sizeBytes sz ≠ 0) : s.accessBad a w addr sz = true := by
  simp [State.accessBad, h]

theorem State.accessBad_of_periph_narrow (s : State) (a : Acc) (w : Bool) {addr : Nat} {sz : AccSize}
    (hp : regionOf addr = .periph) (h : sz ≠ .word) : s.accessBad a w addr sz = true := by
  simp [State.accessBad, hp, h]

/-- R4: the width alone condemns a narrow access, the alignment a word. -/
theorem State.accessBad_of_periph_not_alignedWord (s : State) (a : Acc) (w : Bool) {addr : Nat} {sz : AccSize}
    (hp : regionOf addr = .periph) (h : sz ≠ .word ∨ addr % 4 ≠ 0) : s.accessBad a w addr sz = true := by
  by_cases hw : sz = .word
  · subst hw
    exact s.accessBad_of_misaligned a w (h.resolve_left fun hne => hne rfl)
  · exact s.accessBad_of_periph_narrow a w hp hw

/-! ### What the bus does with an access -/

theorem State.busRead_of_accessBad {s : State} {a : Acc} {addr : Nat} {sz : AccSize}
    (h : s.accessBad a false addr sz = true) : s.busRead a addr sz = s.busErr :=
  if_pos h

theorem State.busWrite_of_accessBad {s : State} {a : Acc} {addr : Nat} {sz : AccSize} {v : Nat}
    (h : s.accessBad a true addr sz = true) : s.busWrite a addr sz v = s.busErr :=
  if_pos h

/-- Away from the two words DBG_CORE_CTRL (R492), a write is a write on the bus. -/
theorem State.anyWrite_eq_busWrite {s : State} {a : Acc} {addr : Nat} {sz : AccSize} {v : Nat}
    (h : sz = .word → addr ≠ 0x40170000 ∧ addr ≠ 0x40170200) : s.anyWrite a addr sz v = s.busWrite a addr sz v := by
  unfold State.anyWrite
  rw [if_neg fun hc => (h hc.2).1 hc.1, if_neg fun hc => (h hc.2).2 hc.1]

theorem State.anyWrite_of_not_alignedWord {s : State} {a : Acc} {addr : Nat} {sz : AccSize} {v : Nat}
    (h : sz ≠ .word ∨ addr % 4 ≠ 0) : s.anyWrite a addr sz v = s.busWrite a addr sz v :=
  State.anyWrite_eq_busWrite fun hw => by
    have hmis : addr % 4 ≠ 0 := h.resolve_left fun hne => hne hw
    constructor <;> omega

/-! ### The two rows -/

theorem exec_registerWrite (s : State) (a : Acc) (addr : Word) (sz : AccSize) (v : Word) :
    exec (.registerWrite a addr sz v) s = .next ((s.touch a.t).anyWrite a addr.toNat sz v.toNat) := rfl

theorem exec_lowWordRead (s : State) (a : Acc) (addr : Word) (sz : AccSize) :
    exec (.lowWordRead a addr sz) s = .next ((s.touch a.t).busRead a addr.toNat sz) := rfl

/-- Settles O8: such an access is bad for every master, whatever the state, and no word DBG_CORE_CTRL lies at a misaligned
address, so the write reaches the bus and is discarded there. -/
theorem peripheralsTakeAlignedWords : Obligations.PeripheralsTakeAlignedWords := by
  intro s a addr sz v hp h
  have hbad (w : Bool) : (s.touch a.t).accessBad a w addr.toNat sz = true :=
    State.accessBad_of_periph_not_alignedWord _ a w hp h
  constructor
  · rw [exec_registerWrite, State.anyWrite_of_not_alignedWord h, State.busWrite_of_accessBad (hbad true)]
  · rw [exec_lowWordRead, State.busRead_of_accessBad (hbad false)]

end Sys2Proof.Machine

/-!
PROOFS. Mailboxes (chapter 24): what a change of state leaves of the registers, rule by rule for the operations a mailbox
uses; what NOTIFY, TAKE, a timeout and a refused commit do; and the two statements about R418 and R421.
-/

namespace Sys2Proof.Machine

/-! ### Which registers a change touches -/

section

variable {s u : State} {l : List (Fld × Nat)}

theorem State.onlyRegs_refl (s : State) (l : List (Fld × Nat)) : s.onlyRegs s l := fun _ _ _ _ => rfl

theorem State.onlyRegs.mono {l' : List (Fld × Nat)} (h : s.onlyRegs u l) (hl : l ⊆ l') : s.onlyRegs u l' :=
  fun f i hf hn => h f i hf fun hm => hn (hl hm)

/-- A command's move of TB_NOW changes no register. -/
theorem State.onlyRegs.of_touch {t : Nat} (h : (s.touch t).onlyRegs u l) : s.onlyRegs u l :=
  fun f i hf hn => (h f i hf hn).trans (s.touch_get t f i)

theorem State.onlyRegs.setMbx (h : s.onlyRegs u l) (m : Nat) (v : Mbx) : s.onlyRegs (u.setMbx m v) l := h

theorem State.onlyRegs.busErr (h : s.onlyRegs u l) : s.onlyRegs u.busErr l := h

/-- A write of a field that is named keeps the change within the named fields. -/
theorem State.onlyRegs.set (h : s.onlyRegs u l) {f : Fld} (hf : f.Listed) {i : Nat} (hm : (f, i) ∈ l) (v : Nat) :
    s.onlyRegs (u.set f i v) l := by
  intro g j hg hn
  have hne : ¬(g = f ∧ j = i) := fun e => hn (by rw [e.1, e.2]; exact hm)
  rw [State.get_set_ne u hf hg v hne, h g j hg hn]

theorem State.onlyRegs.bump (h : s.onlyRegs u l) {f : Fld} (hf : f.Listed) {i : Nat} (hm : (f, i) ∈ l) :
    s.onlyRegs (u.bump f i) l := h.set hf hm _

/-- R401: raising a source writes its group's pending word or counts the event as coalesced there. -/
theorem State.onlyRegs.raise (h : s.onlyRegs u l) {src : Nat} (hp : (Fld.IRQ_PEND_PEND, src / 32) ∈ l)
    (hc : (Fld.IRQ_GRP_STATUS_COALESCED, src / 32) ∈ l) : s.onlyRegs (u.raise src) l := by
  unfold State.raise
  split
  · exact h.bump (by decide) hc
  · exact h.set (by decide) hp _

end

/-! ### A raised source is pending -/

/-- A bit that is set reads 1, whatever the field held. -/
theorem State.bitOf_setBitOf_true (s : State) {f : Fld} {b : Nat} (hb : b < f.width) (i : Nat) :
    (s.setBitOf f i b true).bitOf f i b = true := by
  simp [State.bitOf, State.setBitOf, testBit_setBit, hb]

theorem State.isPend_raise (s : State) (src : Nat) : (s.raise src).isPend src = true := by
  have hb : src % 32 < Fld.IRQ_PEND_PEND.width := Nat.mod_lt _ (by decide)
  unfold State.raise State.isPend
  split
  case isTrue hset => -- it was pending: only the coalesced events are counted
    unfold State.bitOf at hset ⊢
    rw [State.get_bump_other _ (by decide) (by decide) (by decide), hset]
  case isFalse => exact State.bitOf_setBitOf_true s hb _

/-! ### NOTIFY (R420) -/

section

variable (s : State) (m : Nat)

theorem State.mbxNotify_get {f : Fld} (hf : f.Listed) (hb : f.block ≠ 18) (i : Nat) :
    (s.mbxNotify m).get f i = s.get f i := by
  unfold State.mbxNotify
  split
  · exact s.raise_get _ hf hb i
  · rfl

@[simp] theorem State.mbxNotify_img : (s.mbxNotify m).img = s.img := by
  unfold State.mbxNotify
  split
  · exact s.raise_img _
  · rfl

@[simp] theorem State.mbxOf_mbxNotify (n : Nat) : (s.mbxNotify m).mbxOf n = s.mbxOf n := by
  unfold State.mbxNotify
  split
  · exact s.mbxOf_raise _ n
  · rfl

theorem State.isPend_mbxNotify (h : s.flag Fld.MBX_CFG_NOTEN m = true) :
    (s.mbxNotify m).isPend (s.get Fld.MBX_CFG_NOTIFY m) = true := by
  rw [State.mbxNotify, if_pos h]
  exact s.isPend_raise _

theorem State.onlyRegs.mbxNotify {s u : State} {l : List (Fld × Nat)} {m : Nat} (h : s.onlyRegs u l)
    (hp : (Fld.IRQ_PEND_PEND, u.get Fld.MBX_CFG_NOTIFY m / 32) ∈ l)
    (hc : (Fld.IRQ_GRP_STATUS_COALESCED, u.get Fld.MBX_CFG_NOTIFY m / 32) ∈ l) : s.onlyRegs (u.mbxNotify m) l := by
  unfold State.mbxNotify
  split
  · exact h.raise hp hc
  · exact h

end

/-! ### TAKE (R416, R422) -/

theorem exec_mbxTake (s : State) (a : Acc) (m : Fin 64) :
    exec (.mbxTake a m) s = .next ((s.touch a.t).writeMbxCtrl a m 1) := rfl

theorem State.writeMbxCtrl_take {s : State} {a : Acc} {m : Nat} (h : s.mbxReceiver a m = true) :
    s.writeMbxCtrl a m 1 = (s.mbxTake m).ok := by
  have htake : Nat.testBit 1 0 = true := rfl
  have hwithdraw : Nat.testBit 1 1 = false := rfl
  simp [State.writeMbxCtrl, h, htake, hwithdraw]

/-- The mailbox is EMPTY after TAKE, whether it held a message or not. -/
theorem State.mbxFull_mbxTake (s : State) (m : Nat) : (s.mbxTake m).mbxFull m = false := by
  unfold State.mbxTake
  split
  case isTrue hempty => simpa using hempty
  case isFalse =>
    unfold State.mbxFull State.mbxEmpty
    rw [State.mbxNotify_get _ _ (by decide) (by decide), State.get_set_other _ (by decide) (by decide) (by decide),
      State.setMbx_get, State.get_set_same]
    rfl

@[simp] theorem State.mbxFull_touch (s : State) (m t : Nat) : (s.touch t).mbxFull m = s.mbxFull m := by
  rw [State.mbxFull, s.touch_get, State.mbxFull]

/-- Who receives depends on the configuration and the RECEIVER field alone (R423). -/
theorem State.mbxReceiver_congr {s u : State} (himg : u.img = s.img) {m : Nat}
    (hget : u.get Fld.MBX_CFG_RECEIVER m = s.get Fld.MBX_CFG_RECEIVER m) (a : Acc) :
    u.mbxReceiver a m = s.mbxReceiver a m := by
  simp [State.mbxReceiver, State.hasMbx, State.hasRec, State.rec?, himg, hget]

@[simp] theorem State.mbxReceiver_touch (s : State) (a : Acc) (m t : Nat) : (s.touch t).mbxReceiver a m = s.mbxReceiver a m :=
  State.mbxReceiver_congr (s.touch_img t) (s.touch_get t _ m) a

/-- R416: the receiver's TAKE is answered ok and leaves the mailbox EMPTY. -/
theorem exec_mbxTake_of_receiver {s : State} {a : Acc} {m : Fin 64} (h : s.mbxReceiver a m = true) :
    ∃ w, exec (.mbxTake a m) s = .next w ∧ w.resp.status = .ok ∧ w.mbxFull m = false := by
  have hrec : (s.touch a.t).mbxReceiver a m = true := by
    rwa [State.mbxReceiver_touch]
  exact ⟨((s.touch a.t).mbxTake m).ok, by rw [exec_mbxTake, State.writeMbxCtrl_take hrec], rfl, (s.touch a.t).mbxFull_mbxTake m⟩

/-! ### The timeout (R418) -/

theorem exec_mbxTimeout (s : State) (t : Nat) (m : Fin 64) :
    exec (.mbxTimeout t m) s = .next ((s.touch t).mbxTimeout m t) := rfl

/-- Mailbox m as a timeout leaves it before NOTIFY: the timeout stopped, counted and set in TIMEOUT. -/
def State.mbxTimedOut (s : State) (m : Nat) : State :=
  ((s.setMbx m { s.mbxOf m with till := none }).bump Fld.MBX_CNT_TIMEOUTS m).set Fld.MBX_STATUS_TIMEOUT m 1

theorem State.mbxTimedOut_onlyRegs (s : State) (m : Nat) :
    s.onlyRegs (s.mbxTimedOut m) [(Fld.MBX_STATUS_TIMEOUT, m), (Fld.MBX_CNT_TIMEOUTS, m)] :=
  (((s.onlyRegs_refl _).setMbx m _).bump (by decide) (by simp)).set (by decide) (by simp) 1

/-- A timeout leaves the configuration of its NOTIFY doorbell alone. -/
theorem State.mbxTimedOut_get_cfg (s : State) (m : Nat) {f : Fld} (hf : f ∈ Reg.MBX_CFG.fields) :
    (s.mbxTimedOut m).get f m = s.get f m := by
  have hreg : f.reg = .MBX_CFG := (Reg.layout_mem hf).1
  refine s.mbxTimedOut_onlyRegs m f m (Fld.listed_of_mem hf) fun hm => ?_
  cases hm with
  | head => cases hreg
  | tail _ hm =>
    cases List.mem_singleton.mp hm
    cases hreg

section

variable {s : State} {m t x : Nat} (htill : (s.mbxOf m).till = some x) (hdue : x ≤ t) (hfull : s.mbxFull m = true)

include htill hdue hfull

theorem State.mbxTimeout_of_due : s.mbxTimeout m t = (s.mbxTimedOut m).mbxNotify m := by
  simp [State.mbxTimeout, State.mbxTimedOut, htill, hfull, Nat.not_lt.mpr hdue]

theorem State.mbxTimeout_get_timeout : (s.mbxTimeout m t).get Fld.MBX_STATUS_TIMEOUT m = 1 := by
  rw [State.mbxTimeout_of_due htill hdue hfull, State.mbxNotify_get _ _ (by decide) (by decide)]
  exact State.get_set_lt _ (by decide) m

/-- The timeout does not restart, and the message keeps its ticket. -/
theorem State.mbxTimeout_mbxOf : (s.mbxTimeout m t).mbxOf m = { s.mbxOf m with till := none } := by
  simp [State.mbxTimeout_of_due htill hdue hfull, State.mbxTimedOut]

theorem State.mbxTimeout_img : (s.mbxTimeout m t).img = s.img := by
  rw [State.mbxTimeout_of_due htill hdue hfull, State.mbxNotify_img]
  rfl

theorem State.mbxTimeout_isPend (hnoten : s.flag Fld.MBX_CFG_NOTEN m = true) :
    (s.mbxTimeout m t).isPend (s.get Fld.MBX_CFG_NOTIFY m) = true := by
  have hnoten' : (s.mbxTimedOut m).flag Fld.MBX_CFG_NOTEN m = true := by
    rwa [State.flag, s.mbxTimedOut_get_cfg m (by decide)]
  rw [State.mbxTimeout_of_due htill hdue hfull, ← s.mbxTimedOut_get_cfg m (by decide)]
  exact State.isPend_mbxNotify _ m hnoten'

theorem State.mbxTimeout_onlyRegs : s.onlyRegs (s.mbxTimeout m t)
    [(Fld.MBX_STATUS_TIMEOUT, m), (Fld.MBX_CNT_TIMEOUTS, m), (Fld.IRQ_PEND_PEND, s.get Fld.MBX_CFG_NOTIFY m / 32),
      (Fld.IRQ_GRP_STATUS_COALESCED, s.get Fld.MBX_CFG_NOTIFY m / 32)] := by
  have hnotify := s.mbxTimedOut_get_cfg m (f := Fld.MBX_CFG_NOTIFY) (by decide)
  rw [State.mbxTimeout_of_due htill hdue hfull]
  refine ((s.mbxTimedOut_onlyRegs m).mono (by simp)).mbxNotify ?_ ?_ <;> simp [hnotify]

/-- The message stays FULL (R418). -/
theorem State.mbxTimeout_mbxFull : (s.mbxTimeout m t).mbxFull m = true := by
  unfold State.mbxFull
  rw [State.mbxTimeout_onlyRegs htill hdue hfull _ m (by decide) (by simp +decide)]
  exact hfull

/-- The message keeps its receiver (R418). -/
theorem State.mbxTimeout_mbxReceiver (a : Acc) : (s.mbxTimeout m t).mbxReceiver a m = s.mbxReceiver a m :=
  State.mbxReceiver_congr (State.mbxTimeout_img htill hdue hfull)
    (State.mbxTimeout_onlyRegs htill hdue hfull _ m (by decide) (by simp +decide)) a

end

/-! ### A refused commit (R421) -/

theorem exec_mbxHdrCommit (s : State) (a : Acc) (m : Fin 64) (v : Word) :
    exec (.mbxHdrCommit a m v) s = .next ((s.touch a.t).writeMbxHdr a m v.toNat) := rfl

/-- A commit that is well formed but for its COUNT sets BADCOUNT in the sender's window and no more. -/
theorem State.writeMbxHdr_of_badCount {s : State} {a : Acc} {m v k : Nat} (hstage : stageOf a = some k)
    (hmbx : s.hasMbx m = true) (hres : bits v 5 3 = 0) (hres' : bits v 20 12 = 0)
    (hclass : bits v 16 4 ≤ 6 ∨ bits v 16 4 = 15) (hcount : v % 32 = 0 ∨ 16 < v % 32) :
    s.writeMbxHdr a m v = (s.set Fld.MBX_STAGE_STATUS_BADCOUNT k 1).busErr := by
  have hformed : ¬(!s.hasMbx m || bits v 5 3 ≠ 0 || bits v 20 12 ≠ 0 || (6 < bits v 16 4 && bits v 16 4 ≠ 15)) = true := by
    have hcode : 6 < bits v 16 4 → bits v 16 4 = 15 := by omega
    simpa [hmbx, hres, hres'] using hcode
  have hbad : (bits v 0 5 = 0 || 16 < bits v 0 5) = true := by simpa [bits] using hcount
  simp only [State.writeMbxHdr, hstage]
  rw [if_neg hformed, if_pos hbad]

/-! ### The statements -/

/-- Settles O10: the timeout writes TIMEOUT, its counter and the group of NOTIFY's source alone, so the message stays FULL with the
same receiver, and a TAKE by that receiver succeeds. -/
theorem mailboxTimeoutKeepsTheMessage : Obligations.MailboxTimeoutKeepsTheMessage := by
  intro s t x m n htill hdue hfull hn
  subst hn
  rw [← s.mbxOf_touch m t] at htill ⊢
  rw [← s.mbxFull_touch m t] at hfull
  rw [← s.touch_get t Fld.MBX_CFG_NOTIFY m]
  refine ⟨_, exec_mbxTimeout s t m, State.mbxTimeout_get_timeout htill hdue hfull, fun hnoten => ?_,
    State.mbxTimeout_mbxFull htill hdue hfull, ?_, ?_, (State.mbxTimeout_onlyRegs htill hdue hfull).of_touch, fun a ha => ?_⟩
  · exact State.mbxTimeout_isPend htill hdue hfull (by rwa [State.flag, s.touch_get])
  · rw [State.mbxTimeout_mbxOf htill hdue hfull]
  · rw [State.mbxTimeout_mbxOf htill hdue hfull]
  · apply exec_mbxTake_of_receiver
    rwa [State.mbxTimeout_mbxReceiver htill hdue hfull, State.mbxReceiver_touch]

/-- Settles O11: the refusal writes BADCOUNT alone and comes before anything of the mailbox is written. -/
theorem badCountRefusesTheCommit : Obligations.BadCountRefusesTheCommit := by
  intro s a m v k hstage hmbx hres hres' hclass hcount
  have hmbx' : (s.touch a.t).hasMbx m = true := (s.hasRec_touch a.t _ _).trans hmbx
  refine ⟨_, by rw [exec_mbxHdrCommit, State.writeMbxHdr_of_badCount hstage hmbx' hres hres' hclass hcount], rfl, ?_, ?_, ?_⟩
  · rw [State.get_busErr, State.get_set_lt _ (by decide)]
  · exact s.touch_mbx a.t
  · exact (((State.onlyRegs_refl _ _).set (by decide) (List.mem_singleton_self _) 1).busErr).of_touch

end Sys2Proof.Machine

/-!
PROOFS. The test access port (chapter 30): what the update of a scan instruction answers while RSTN holds the device in reset
and at any other time, and the statement about R490.
-/

namespace Sys2Proof.Machine

/-! ### The update of a scan instruction -/

section

variable {s : State}

theorem State.heldByPin_iff : s.heldByPin = true ↔ s.pow.inReset = true ∧ s.pow.rstn = false := by
  simp [State.heldByPin]

theorem State.tapOn_of_powered (hoff : s.pow.st ≠ .off) (hvigil : s.pow.st ≠ .vigil) : s.tapOn = true := by
  simp [State.tapOn, hoff, hvigil]

/-- With the port powered, each of the three codes is the update of its scan instruction (Table 30.1). -/
theorem State.jtagCode_of_tapOn (htap : s.tapOn = true) :
    s.jtagCode 0x00 = s.scanIr .extest ∧ s.jtagCode 0x04 = s.scanIr .clamp ∧ s.jtagCode 0x05 = s.scanIr .highz := by
  simp [State.jtagCode, htap]

theorem exec_scanInstrs (htap : s.tapOn = true) :
    exec .jtagExtest s = .next (s.scanIr .extest) ∧ exec .jtagClamp s = .next (s.scanIr .clamp) ∧
      exec .jtagHighz s = .next (s.scanIr .highz) := by
  obtain ⟨hextest, hclamp, hhighz⟩ := State.jtagCode_of_tapOn htap
  exact ⟨congrArg Host.Outcome.next hextest, congrArg Host.Outcome.next hclamp, congrArg Host.Outcome.next hhighz⟩

theorem exec_scanInstr_of_mem (htap : s.tapOn = true) {i : Instr} (hi : i ∈ [Instr.jtagExtest, .jtagClamp, .jtagHighz]) :
    ∃ ir, exec i s = .next (s.scanIr ir) := by
  obtain ⟨hextest, hclamp, hhighz⟩ := exec_scanInstrs htap
  simp only [List.mem_cons, List.not_mem_nil, or_false] at hi
  obtain rfl | rfl | rfl := hi
  · exact ⟨_, hextest⟩
  · exact ⟨_, hclamp⟩
  · exact ⟨_, hhighz⟩

theorem State.scanIr_of_held (h : s.heldByPin = true) (ir : JtagIr) : s.scanIr ir = s.setIr ir := if_pos h

theorem State.scanIr_of_not_held (h : ¬s.heldByPin = true) (ir : JtagIr) :
    s.scanIr ir = (s.setIr .bypass).set Fld.DBG_STATUS_SCANREF 0 1 := if_neg h

/-- The selected instruction is no register field. -/
theorem State.setIr_onlyRegs (s : State) (ir : JtagIr) : s.onlyRegs (s.setIr ir) [] := fun _ _ _ _ => rfl

end

/-! ### The statement -/

/-- Settles O9: each of the three rows is an update of its scan instruction, which in reset by RSTN selects it and otherwise selects
BYPASS and writes SCANREF alone. -/
theorem scanInstructionsOnlyInReset : Obligations.ScanInstructionsOnlyInReset := by
  intro s hoff hvigil
  have htap : s.tapOn = true := State.tapOn_of_powered hoff hvigil
  rw [← State.heldByPin_iff]
  constructor
  · intro hheld
    simpa only [State.scanIr_of_held hheld] using exec_scanInstrs htap
  · intro hfree i hi
    obtain ⟨ir, hir⟩ := exec_scanInstr_of_mem htap hi
    rw [State.scanIr_of_not_held hfree] at hir
    refine ⟨_, hir, rfl, State.get_set_lt _ (by decide) 0, ?_⟩
    exact ((s.setIr_onlyRegs .bypass).mono (List.nil_subset _)).set (by decide) (List.mem_singleton_self _) 1

end Sys2Proof.Machine
